-- ==== Sys2Proof/Word.lean ====
section
/-!
DEFINITION. The word types of the NRX-512 (widths as the spec's field maps give them).
-/
namespace Sys2Proof

/-- A byte of a packet, a memory window or a structure (00 R11). -/
abbrev Byte := BitVec 8
/-- A 16-bit field. -/
abbrev Half := BitVec 16
/-- A 32-bit register or field (20 R485). -/
abbrev Word := BitVec 32
/-- A 48-bit count: TB_SHOT ticks, shot numbers (00 R14, R15). -/
abbrev Long := BitVec 48
/-- A 64-bit value held in a register pair or a structure (20 R488). -/
abbrev Quad := BitVec 64

end Sys2Proof
end

