-- ==== Sys2Proof/Syntax.lean ====
section
/-!
DEFINITION. The commands and events of the NRX-512: one constructor of Instr for each row of the
opcode table, with the row's operands. A packet row carries where the packet came from and the
packet's fields but for its opcode, which is the row's own; an event row carries what the outside
world supplies with the event (a stamp, a converted code, a pin level).
-/
namespace Sys2Proof

/-- Where a packet came from (02 R57): the ingress queue that holds it and the session it belongs
to. A UDP session is a source address and port (R59); `port`, `mac` and `tag` are the Ethernet port, the MAC and
the 802.1Q tag of the datagram, where its reply goes (10 R271). A forwarded packet carries its origin device and
session (R62); internal is the control cores' own queue. -/
inductive Origin where
  | ring (n : Fin 4)
  | udp (port : Fin 4) (mac : Long) (ip : Word) (udpPort : Half) (tag : Option Half)
  | mspi
  | ifl (port : Fin 4) (dev : Fin 16) (sess : Byte)
  | internal
  deriving DecidableEq, Repr

/-- The fields of a received packet of version 1 (02 R35), but for its opcode. LENGTH is the
payload's length, and the trailer is the CRC-32C of the rest (R37): a packet whose sync bytes,
length or trailer are wrong is a PACKET_DISCARD. -/
structure Request where
  flags    : Byte
  status   : Byte
  sequence : Half
  target   : Byte
  cls      : Byte
  gen      : Word
  payload  : List Byte
  deriving DecidableEq, Repr

/-- The coarse count, tap and residue code of a stamp (06 R152). -/
structure Stamp where
  tick : Long
  tap  : BitVec 5
  res  : BitVec 6
  deriving DecidableEq, Repr

/-- An edge of an event input: its polarity and its stamp (06 R170). -/
structure EventEdge where
  rising : Bool
  stamp  : Stamp
  deriving DecidableEq, Repr

/-- A capture unit and the codes that its input gave while the unit took none (09 R242). -/
structure CaptureSeen where
  unit  : Fin 16
  codes : List Byte
  deriving DecidableEq, Repr

/-- The paths of a register write without an opcode of its own (20 R486). -/
inductive RegPath where
  | bar0
  | responder
  deriving DecidableEq, Repr

/-- A buffer that the host posts to a data ring (10 R269): its address and length. -/
structure RingBuf where
  address : Quad
  length  : Word
  deriving DecidableEq, Repr

/-- The clocks whose loss the device acts on (01 R33). -/
inductive Clock where
  | refin
  | xsys
  | dramPll (c : Fin 2)
  | pcieRefclk
  | ethRefclk
  | ethLane (p : Fin 4)
  | iflLane (p : Fin 4)
  | clePll
  | hkaPll
  | xsi
  deriving DecidableEq, Repr

/-- How a calibration run ended (14 R366): with the measured elements of a set (an offset in the
set and the bytes there), or with the failed step. -/
inductive CalResult where
  | ok (measured : List (Nat × List Byte))
  | failed (step : Nat)
  deriving DecidableEq, Repr

/-- The pins that the safety island samples in a cycle (16 R389): GUARD_A, GUARD_B, BRKFB_A,
BRKFB_B, the readback of the pads LEN_A, LEN_B, BRK_A, BRK_B, and the level of SPDIN. -/
structure SafetyPins where
  guardA : Bool
  guardB : Bool
  brkFbA : Bool
  brkFbB : Bool
  lenA   : Bool
  lenB   : Bool
  brkA   : Bool
  brkB   : Bool
  spdin  : Bool
  deriving DecidableEq, Repr

/-- A time block exchange (18 R442, R445): the four stamps in fine LSB, and what the peer's blocks announce: its
D_tree, its device ID, its hops, its warm-up flag, whether it is joined and its skew estimate. `own` is the ID
that a worker learns of itself from its parent (R440). -/
structure Exchange where
  t1    : Int
  t2    : Int
  t3    : Int
  t4    : Int
  dtree : Int
  dev   : Fin 16
  hops  : Fin 4
  warm  : Bool
  joined : Bool
  skew  : Int
  own   : Fin 16
  deriving DecidableEq, Repr

/-- A DRAM row (15 R381), as the repair map encodes it (17 R428): the channel and the code of its
subchannel, rank, bank group, bank and row. -/
structure DramRow where
  channel : Fin 2
  code    : BitVec 31
  deriving DecidableEq, Repr

/-- What the bring-up meets (19 R472): whether the reference locked, what the driver chain returned during the
probe and during the write of its frame, and, for each DDR5 channel, whether each trial of a candidate passed, in
the order of the trials. -/
structure BringupInputs where
  refLock  : Bool
  chainSdi : List Byte
  writeSdi : List Byte
  ddr      : List (List Bool)
  deriving DecidableEq, Repr

/-- The commands and events of the block: one constructor per row of the opcode table. -/
inductive Instr where
  /-- NOP (R50). Echoes the request payload back in the reply. -/
  | nop (o : Origin) (r : Request)
  /-- IDENT (R50). Returns GLB_IDENT, the Thrumi version, the device ID, the tree size and the serial number. -/
  | ident (o : Origin) (r : Request)
  /-- STATUS (R50). Returns GEN, the state flags, open incidents, program counts, the warm-up flag and the throttle step. -/
  | status (o : Origin) (r : Request)
  /-- SESSION_OPEN (R56). Sets the event class mask of the carrying session and returns the session number. -/
  | sessionOpen (o : Origin) (r : Request)
  /-- SESSION_CLOSE (R44). Ends the session; UDP frees its slot, while a PCIe ring pair or MSPI reopens at once with fresh state. -/
  | sessionClose (o : Origin) (r : Request)
  /-- TABLE_LOAD (R48). Stages one packet of table data at an offset within the session's staged transfer. -/
  | tableLoad (o : Origin) (r : Request)
  /-- TABLE_COMMIT (R79). Checks and commits a staged table, re-running cross-table rules and admission when it replaces a named table. -/
  | tableCommit (o : Origin) (r : Request)
  /-- TABLE_DELETE (R79). Deletes a table unless a program or a selection register names it. -/
  | tableDelete (o : Origin) (r : Request)
  /-- TABLE_LIST (R521). Lists up to 254 tables of one kind from a first ID, with lengths, GEN and store offsets. -/
  | tableList (o : Origin) (r : Request)
  /-- PROG_SUBMIT (R64). Checks a program image in order, runs admission and returns the admission summary. -/
  | progSubmit (o : Origin) (r : Request)
  /-- PROG_START (R522). Starts a program immediately, at a TB_SHOT time or at the next index, re-admitting it after a suspension. -/
  | progStart (o : Origin) (r : Request)
  /-- PROG_STOP_END_OF_SEGMENT (R522). Stop mode 0: enters STOPPING and finishes the current pass. -/
  | progStopEndOfSegment (o : Origin) (r : Request)
  /-- PROG_STOP_IMMEDIATE (R522). Stop mode 1: commits no further shot and replies with the last committed shot number. -/
  | progStopImmediate (o : Origin) (r : Request)
  /-- PROG_WITHDRAW (R522). Withdraws an idle, stopped or suspended program and returns its admitted load. -/
  | progWithdraw (o : Origin) (r : Request)
  /-- PROG_STATUS (R522). Returns the program's state, suspension cause, segment, last shot and late and stalled counts. -/
  | progStatus (o : Origin) (r : Request)
  /-- FIRE_CONFIG (R113). Writes the delay, width limit and group of one fire output. -/
  | fireConfig (o : Origin) (r : Request)
  /-- MATRIX_CONFIG (R91). Writes the enabled matrix lines and the precharge and line times, subject to the programs' matrix rule. -/
  | matrixConfig (o : Origin) (r : Request)
  /-- BUDGET_SET (R95). Writes a group's rated energy, overdrive factor and refill rate, and limits B to C. -/
  | budgetSet (o : Origin) (r : Request)
  /-- SHORT_TEST (R101). Starts the neighbour short test of the selected emitter pin groups in the background. -/
  | shortTest (o : Origin) (r : Request)
  /-- CHAIN_WRITE (R103). Shifts a chain frame to the driver boards and reads back their status words. -/
  | chainWrite (o : Origin) (r : Request) (sdi : List Byte)
  /-- WIRE_WRITE (R108). Sends a single-wire configuration frame to the driver boards. -/
  | wireWrite (o : Origin) (r : Request)
  /-- THRESH_SET (R145). Writes the lower and upper threshold codes of a range of channels. -/
  | threshSet (o : Origin) (r : Request)
  /-- CHAN_ENABLE (R146). Sets the enable bit of all 512 channels from a bitmap. -/
  | chanEnable (o : Origin) (r : Request)
  /-- CAPTURE_MODE (R146). Writes the histogram or stamp mode and the stamps per shot of a range of channels. -/
  | captureMode (o : Origin) (r : Request)
  /-- EVENT_INPUT (R170). Selects the stamped edges of one event input. -/
  | eventInput (o : Origin) (r : Request)
  /-- FREQ_MEASURE (R172). Starts a regression frequency measurement on an event input over a gate time. -/
  | freqMeasure (o : Origin) (r : Request)
  /-- ENG_LOAD (R197). Stages part of an engine's program or data section. -/
  | engLoad (o : Origin) (r : Request)
  /-- ENG_COMMIT (R198). Checks a staged engine image word by word, runs admission and places it in the standby halves. -/
  | engCommit (o : Origin) (r : Request)
  /-- ENG_MAP (R181). Assigns a channel group to an engine. -/
  | engMap (o : Origin) (r : Request)
  /-- ENG_CONTROL_RUN (R200). Starts an engine, clears its latched bits and queues INIT. -/
  | engControlRun (o : Origin) (r : Request)
  /-- ENG_CONTROL_HALT (R200). Stops the sequencer at the end of its current run and discards the queued events. -/
  | engControlHalt (o : Origin) (r : Request)
  /-- WF_ALLOC (R225). Selects the waveform allocation mode and the input of each lane. -/
  | wfAlloc (o : Origin) (r : Request)
  /-- WF_GAIN (R228). Changes the gain range of one waveform input immediately or at its next capture boundary. -/
  | wfGain (o : Origin) (r : Request)
  /-- CAPTURE_CONFIG (R234). Writes the trigger mask, threshold, averaging exponent and post-trigger count of an idle capture unit. -/
  | captureConfig (o : Origin) (r : Request)
  /-- CAPTURE_ARM (R236). Arms every named capture unit that is IDLE. -/
  | captureArm (o : Origin) (r : Request)
  /-- CAPTURE_TRIGGER (R243). Gives a command trigger to each named capture unit. -/
  | captureTrigger (o : Origin) (r : Request)
  /-- LOOP_COEF (R125). Writes and validates a loop's shadow coefficient bank. -/
  | loopCoef (o : Origin) (r : Request)
  /-- LOOP_SWAP (R126). Exchanges the active and shadow banks of the named loops at their next sample boundaries. -/
  | loopSwap (o : Origin) (r : Request)
  /-- LOOP_SETPOINT (R124). Writes a loop's set-point w, effective at its next sample boundary. -/
  | loopSetpoint (o : Origin) (r : Request)
  /-- LOOP_MODE (R128). Changes a loop's mode between off, open loop and closed loop. -/
  | loopMode (o : Origin) (r : Request)
  /-- LOOP_IO (R130). Sets the input select and output select of a loop in mode 0. -/
  | loopIo (o : Origin) (r : Request)
  /-- TIME_READ (R315). Takes a command cross-stamp and returns its image. -/
  | timeRead (o : Origin) (r : Request)
  /-- TIME_INCR (R305). Writes the increment of a PTP time base within the INCR_MAX limit. -/
  | timeIncr (o : Origin) (r : Request)
  /-- TIME_STEP (R305). Adds a signed step to a PTP time base within the jump limit. -/
  | timeStep (o : Origin) (r : Request)
  /-- CROSS_STAMP (R315). Arms one cross-stamp for a given event source. -/
  | crossStamp (o : Origin) (r : Request)
  /-- LAUNCH_AT (R316). Queues one Ethernet frame for launch at a given time on a port. -/
  | launchAt (o : Origin) (r : Request)
  /-- REF_SELECT (R299). Sets the nominal REFIN frequency and relocks the timing PLL. -/
  | refSelect (o : Origin) (r : Request)
  /-- HK_SEQUENCE (R336). Writes the regular or injected housekeeping sequence. -/
  | hkSequence (o : Origin) (r : Request)
  /-- HK_CHANNEL (R325). Writes the curve and excitation of a housekeeping input. -/
  | hkChannel (o : Origin) (r : Request)
  /-- THERM_THRESH (R351). Writes the warn, throttle and shutdown thresholds of a zone. -/
  | thermThresh (o : Origin) (r : Request)
  /-- THERM_SUBST (R350). Names or removes a substitute for a failed temperature sensor. -/
  | thermSubst (o : Origin) (r : Request)
  /-- SAF_STATUS (R409). Returns the island's latest status DATA. -/
  | safStatus (o : Origin) (r : Request)
  /-- SAF_PARAM (R407). Delivers one copy of a paired safety parameter block to the island for its decision. -/
  | safParam (o : Origin) (r : Request)
  /-- SAF_ABORT (R408). Discards a staged safety parameter block. -/
  | safAbort (o : Origin) (r : Request)
  /-- REP_SUMMARY (R415). Returns the spares in use per kind and the repair map length. -/
  | repSummary (o : Origin) (r : Request)
  /-- REP_MIGRATE (R426). Starts a commanded migration of a unit to its spare. -/
  | repMigrate (o : Origin) (r : Request)
  /-- REP_SELFTEST (R427). Starts the self-tests of its mask on units that serve no work. -/
  | repSelftest (o : Origin) (r : Request)
  /-- REG_READ (R53). Reads up to 1,018 consecutive registers. -/
  | regRead (o : Origin) (r : Request)
  /-- REG_WRITE (R486). Checks and writes consecutive registers as one packet. -/
  | regWrite (o : Origin) (r : Request)
  /-- REG_MODIFY (R487). Applies a masked read-modify-write to one register and returns the old and new values. -/
  | regModify (o : Origin) (r : Request)
  /-- MEM_READ (R52). Reads data from a memory window. -/
  | memRead (o : Origin) (r : Request)
  /-- MEM_WRITE (R52). Writes data into a writable memory window. -/
  | memWrite (o : Origin) (r : Request)
  /-- SNAPSHOT (R54). Starts capturing up to 16 objects into a snapshot image. -/
  | snapshot (o : Origin) (r : Request)
  /-- SNAPSHOT_RELEASE (R55). Releases a snapshot handle. -/
  | snapshotRelease (o : Origin) (r : Request)
  /-- CAL_RUN (R364). Starts a measured recalibration run with the given step mask. -/
  | calRun (o : Origin) (r : Request)
  /-- CAL_ACTIVATE (R360). Checks the staging set, stores it as set k and rebuilds the applied set. -/
  | calActivate (o : Origin) (r : Request)
  /-- CAL_STATUS (R361). Returns the temperature and age of each stored set. -/
  | calStatus (o : Origin) (r : Request)
  /-- TREE_STATUS (R461). Returns the ID, state, hops, port and skew of each device in the tree. -/
  | treeStatus (o : Origin) (r : Request)
  /-- TREE_CONFIG (R439). Replaces the tree description on the manager. -/
  | treeConfig (o : Origin) (r : Request)
  /-- WORKER_RESYNC (R457). Repeats time lock, load and convergence for a named worker. -/
  | workerResync (o : Origin) (r : Request)
  /-- FW_WRITE (R469). Programs boot flash at an offset, erasing a sector that starts on a 64 KB boundary. -/
  | fwWrite (o : Origin) (r : Request)
  /-- FW_ACTIVATE (R469). Starts loading a firmware slot through a switchover and then rewrites the boot headers. -/
  | fwActivate (o : Origin) (r : Request)
  /-- RESET_FIRMWARE_RESTART (R51). Scope 0: restarts Thrumi on the standby pair by a switchover, keeping configuration and measurement. -/
  | resetFirmwareRestart (o : Origin) (r : Request)
  /-- RESET_MEASURING_CORE (R51). Scope 1: stops all programs and clears configuration, sparing the island and the links. -/
  | resetMeasuringCore (o : Origin) (r : Request)
  /-- RESET_WHOLE_DEVICE (R51). Scope 2: full reset of everything except the safety island. -/
  | resetWholeDevice (o : Origin) (r : Request)
  /-- RESET_TAKES_EFFECT (R465). A scope 1 or 2 reset takes effect once the pending flash write-backs have completed. -/
  | resetTakesEffect
  /-- FLASH_READ (R469). Reads bytes from the boot flash. -/
  | flashRead (o : Origin) (r : Request)
  /-- PACKET_FORWARD (R62). Forwards a packet addressed to another device ID along the tree, or answers BAD_TARGET or LINK_DOWN. -/
  | packetForward (o : Origin) (opcode : Byte) (r : Request)
  /-- PACKET_DISCARD (R43). Discards a malformed, bad-CRC or REPLY/EVENT-flagged packet and counts it. -/
  | packetDiscard (o : Origin) (raw : List Byte)
  /-- STAGE_TIMEOUT (R48). A staged transfer idle for 1 s is discarded. -/
  | stageTimeout (o : Origin)
  /-- SNAPSHOT_DONE (R55). A snapshot image is complete and its completion EVENT is sent. -/
  | snapshotDone (h : Fin 4)
  /-- SNAPSHOT_EXPIRY (R55). A snapshot handle is released after 60 s without a read. -/
  | snapshotExpiry (h : Fin 4)
  /-- REGISTER_WRITE (R486). A write through PCIe BAR0 or the responder to registers that have no row of their own. -/
  | registerWrite (path : RegPath) (addr : Nat) (values : List Word)
  /-- MSPI_WRITE_PACKET (R60). MSPI command 0x02 delivers a whole packet. -/
  | mspiWritePacket (raw : List Byte)
  /-- MSPI_READ_REPLY (R60). MSPI command 0x03 reads a waiting reply. -/
  | mspiReadReply
  /-- MSPI_READ_STATUS (R60). MSPI command 0x05 reads the status byte. -/
  | mspiReadStatus
  /-- RESPONDER_TAKEOVER (R61). The hardware responder serves MSPI after the active pair has not serviced MSPI for 10 ms. -/
  | responderTakeover
  /-- OUT_CMDQ_TAIL (R58). A host write of a command ring tail enables the ring pair or posts new command descriptors. -/
  | outCmdqTail (n : Fin 4) (tail : Word) (packets : List (List Byte))
  /-- OUT_RPLQ_TAIL (R58). A host write of a reply ring tail posts reply buffers. -/
  | outRplqTail (n : Fin 4) (tail : Word) (bufLens : List Nat)
  /-- OUT_DRING_TAIL (R269). A host write of a data ring tail gives credit or enables the ring. -/
  | outDringTail (n : Fin 16) (tail : Word) (bufs : List RingBuf)
  /-- FUNCTION_LEVEL_RESET (R478). A PCIe function-level reset disables all rings and keeps everything else running. -/
  | functionLevelReset
  /-- PCIE_PERST (R478). A fundamental PCIe reset takes the link down. -/
  | pciePerst
  /-- ARP_REQUEST (R271). The device answers an ARP request for the port address. -/
  | arpRequest (port : Fin 4) (targetIp : Word) (senderMac : Long) (senderIp : Word)
  /-- DRING_IRQ (R269). The data ring MSI-X vector is raised after IRQ_FRAMES write-backs or IRQ_US. -/
  | dringIrq (n : Fin 16)
  /-- SHOT_COMMIT (R19). The SEQ commits a shot, fixes its number, time, beam and code, charges the budget and delivers its descriptor. -/
  | shotCommit
  /-- BUDGET_IDLE_UPDATE (R96). An idle budget update 10 µs after a group's last update without a shot. -/
  | budgetIdleUpdate (g : Fin 4)
  /-- PROGRAM_START_INSTANT (R69). An ARMED program reaches its start time and begins committing shots. -/
  | programStartInstant (pid : Fin 64)
  /-- FIRE_EDGE (R85). The EFU places a shot's pulses, or runs its matrix sequence, and takes the fire stamp. -/
  | fireEdge (stamp : Option Stamp)
  /-- FIRE_STAMP_MISSING (R88). No EVk stamp within STAMP_WIN, so t_fire is substituted and flagged. -/
  | fireStampMissing (shot : Long)
  /-- WAIT_RELEASED (R77). A program wait releases on its angle, time, event or worker release instant. -/
  | waitReleased (pid : Fin 64)
  /-- WAIT_TIMEOUT (R78). WAIT_TIMEOUT expires and the wait releases or the program is suspended. -/
  | waitTimeout (pid : Fin 64)
  /-- OT_PIN_SHUTDOWN (R99). EMD_OT_L low for at least 200 ns shuts down emission of all groups. -/
  | otPinShutdown
  /-- OT_CLEAR (R99). A host write of 1 to OT_PIN or OT_GRP clears a latched shutdown when the conditions allow. -/
  | otClear (value : Word) (pinLow : Bool)
  /-- SHORT_TEST_DONE (R101). The pin test completes, sets the result registers and sends its EVENT. -/
  | shortTestDone (readings : List (Nat × Nat))
  /-- CHAIN_LATCH (R105). EMD_LAT is pulsed at a free boundary between shots and CHAIN_WRITE completes. -/
  | chainLatch
  /-- CHAIN_LAT_TIMEOUT (R105). No latch boundary within 10 ms of the last shift, so CHAIN_WRITE answers STATE. -/
  | chainLatTimeout
  /-- WIRE_DONE (R108). The end-of-frame level has been held for 8 T and WIRE_WRITE completes. -/
  | wireDone
  /-- LOOP_EVALUATION (R120). A due loop is evaluated at its sample with limiter, stages, PID and output. -/
  | loopEvaluation (k : Fin 16)
  /-- PWM_PERIOD (R136). A new PWM period starts with the latest duty. -/
  | pwmPeriod (n : Fin 16)
  /-- SPI_FRAME (R138). The SPI master sends a loop's 24-bit frame to its slot when the bus is free. -/
  | spiFrame (miso : BitVec 24)
  /-- ENCODER_EDGE (R131). An A or B encoder edge is stamped, filtered and counted. -/
  | encoderEdge (n : Fin 2) (chanB : Bool) (rising : Bool) (stamp : Stamp)
  /-- ENCODER_INDEX (R132). An index edge latches the position and may zero it or start a program. -/
  | encoderIndex (n : Fin 2) (stamp : Stamp)
  /-- COMPARATOR_EDGE (R149). A comparator edge is stamped by its lane and enqueued to XC01. -/
  | comparatorEdge (c : Fin 512) (upper : Bool) (rising : Bool) (stamp : Stamp)
  /-- PULSER_INJECT (R158). The pulser injects a calibration edge into a lane. -/
  | pulserInject (t : Fin 567) (upper : Bool) (stamp : Stamp)
  /-- LIVE_TABLE_UPDATE (R159). A lane with N_CAL qualifying stamps updates, checks and publishes its live table. -/
  | liveTableUpdate (t : Fin 567) (upper : Bool)
  /-- LANE_HOLD (R161). A lane without an update for 30 s enters HOLD. -/
  | laneHold (t : Fin 567) (upper : Bool)
  /-- THRESHOLD_APPLY (R148). A pending threshold or trim change takes effect at t_u. -/
  | thresholdApply (c : Fin 512)
  /-- WATERMARK_STALL (R29). A watermark that does not advance for 1.0 µs marks the TDC faulty. -/
  | watermarkStall (t : Fin 567)
  /-- EV_EDGE (R171). An event input edge is stamped and serves waits, fire stamps, cross-stamps, records and the frequency unit. -/
  | evEdge (k : Fin 8) (rising : Bool) (stamp : Stamp)
  /-- FREQ_GATE_CLOSE (R173). The frequency gate closes, the period is written and the EVENT is sent. -/
  | freqGateClose (k : Fin 8)
  /-- PASS_OPEN (R80). A shot's Pass opens on an engine and the shot goes from pending to in flight. -/
  | passOpen (e : Fin 68) (shot : Long)
  /-- HIT_RELEASE (R82). A hit released past the watermarks is paired with the shots in flight and binned or counted to the Plain. -/
  | hitRelease (e : Fin 68)
  /-- BURST_TEST (R82). The burst test of a pairing is decided once the watermark passes the last offset. -/
  | burstTest (e : Fin 68)
  /-- PASS_CLOSE (R189). A shot's Pass closes on every channel of the engine and a SHOT event is queued. -/
  | passClose (e : Fin 68) (shot : Long)
  /-- GROUP_HANDOVER (R186). A group's collection ends, its bank is copied to a closed image and a GROUP event is queued. -/
  | groupHandover (e : Fin 68)
  /-- ENGINE_TIMER (R189). A TIMER event is raised every TIMER_US. -/
  | engineTimer (e : Fin 68)
  /-- RUN_START (R189). The sequencer starts a run for the oldest queued event. -/
  | runStart (e : Fin 68)
  /-- PRIM_NOP (R194). The primitive that does nothing. -/
  | primNop (e : Fin 68)
  /-- END (R194). Ends the run. -/
  | primEnd (e : Fin 68)
  /-- BRANCH (R194). Skips forward C words when its condition holds. -/
  | primBranch (e : Fin 68)
  /-- LOOP (R194). Runs the next C words D times. -/
  | primLoop (e : Fin 68)
  /-- WAIT (R194). Waits for D cycles or for the watermark. -/
  | primWait (e : Fin 68)
  /-- WAIT_RESUME (R195). A waiting WAIT primitive ends on the watermark or on its timeout. -/
  | waitResume (e : Fin 68)
  /-- CHAN (R194). Sets the current channel. -/
  | primChan (e : Fin 68)
  /-- SETV (R194). Sets a slot to an immediate. -/
  | primSetv (e : Fin 68)
  /-- MOVV (R194). Copies a slot. -/
  | primMovv (e : Fin 68)
  /-- ADDV (R194). Adds a slot and an addend. -/
  | primAddv (e : Fin 68)
  /-- SUBV (R194). Subtracts a slot. -/
  | primSubv (e : Fin 68)
  /-- MULV (R194). Multiplies slots and shifts the product. -/
  | primMulv (e : Fin 68)
  /-- LDV (R194). Loads a slot from SCRATCH. -/
  | primLdv (e : Fin 68)
  /-- STV (R194). Stores a slot to SCRATCH. -/
  | primStv (e : Fin 68)
  /-- GETD (R190). Reads a context selector into a slot. -/
  | primGetd (e : Fin 68)
  /-- GETP (R194). Reads a profile word into a slot. -/
  | primGetp (e : Fin 68)
  /-- FLAG (R254). ORs flags into the later records of the run. -/
  | primFlag (e : Fin 68)
  /-- BIN (R194). Bins the kept hits of the current channel into a work vector. -/
  | primBin (e : Fin 68)
  /-- CLEAR (R194). Zeroes a work vector. -/
  | primClear (e : Fin 68)
  /-- COPY (R194). Copies a vector into a work vector. -/
  | primCopy (e : Fin 68)
  /-- DECAY (R194). Applies exponential decay and accumulation to a work vector. -/
  | primDecay (e : Fin 68)
  /-- VADD (R194). Adds one vector into another. -/
  | primVadd (e : Fin 68)
  /-- VSCALE (R194). Scales a vector by a slot factor. -/
  | primVscale (e : Fin 68)
  /-- CONV (R211). Convolves a vector with Q15 taps. -/
  | primConv (e : Fin 68)
  /-- VSUM (R194). Sums a vector into a slot. -/
  | primVsum (e : Fin 68)
  /-- VMAX (R194). Finds a vector's maximum and its bin. -/
  | primVmax (e : Fin 68)
  /-- VMIN (R194). Finds a vector's minimum and its bin. -/
  | primVmin (e : Fin 68)
  /-- PSCAN (R196). Builds the peak list of the current channel. -/
  | primPscan (e : Fin 68)
  /-- CENTROID (R214). Refines peak positions by centroid. -/
  | primCentroid (e : Fin 68)
  /-- PARAB (R213). Refines peak positions by parabola. -/
  | primParab (e : Fin 68)
  /-- PLAIN (R209). Computes the Plain of the current channel. -/
  | primPlain (e : Fin 68)
  /-- VALLEY (R212). Computes the per-bin detection floor. -/
  | primValley (e : Fin 68)
  /-- COLTEST (R215). Sets the coincidence counts in the peak list. -/
  | primColtest (e : Fin 68)
  /-- CLASSIFY (R218). Sets the echo classes of the peaks. -/
  | primClassify (e : Fin 68)
  /-- GHOST (R210). Subtracts the ghost pedestal from a vector. -/
  | primGhost (e : Fin 68)
  /-- VEIL (R216). Finds a veil and enters it in the peak list. -/
  | primVeil (e : Fin 68)
  /-- EMIT (R219). Queues ECHO, EPOCH or STAT records of the current channel. -/
  | primEmit (e : Fin 68)
  /-- DUMP (R258). Queues a HIST record of a vector. -/
  | primDump (e : Fin 68)
  /-- EMITEV (R260). Queues an engine EVENT record. -/
  | primEmitev (e : Fin 68)
  /-- EMIT_RESUME (R195). A record primitive stalled on a full RECQ resumes when room appears. -/
  | emitResume (e : Fin 68)
  /-- XSTAMP (R194). Requests a cross-stamp into SCRATCH. -/
  | primXstamp (e : Fin 68)
  /-- XSTAMP_COMPLETE (R195). An engine cross-stamp image is written into SCRATCH. -/
  | xstampComplete (e : Fin 68)
  /-- STLOAD (R215). Copies the kept hits into the peak list. -/
  | primStload (e : Fin 68)
  /-- RECORD_BUILD (R263). The record builder places a record into its stream once every source has passed the record's key. -/
  | recordBuild (pid : Fin 64)
  /-- FRAME_CLOSE (R266). A frame closes on time, size, key span or program end. -/
  | frameClose (pid : Fin 64)
  /-- FRAME_TRANSMIT (R273). A server starts the earliest-deadline eligible frame, reply or event. -/
  | frameTransmit (server : Fin 5)
  /-- FRAME_DELIVERED (R274). A frame is delivered, judged late or not, and its capture space is freed. -/
  | frameDelivered (server : Fin 5)
  /-- STREAM_STALL_SUSPEND (R270). An Ethernet stream without credit for STALL_LIMIT has its program suspended. -/
  | streamStallSuspend (pid : Fin 64)
  /-- AMBIENT_CHECK (R284). A channel's L↑ count over 1 ms exceeds the ambient assumption. -/
  | ambientCheck (c : Fin 512)
  /-- ALLOC_EFFECT (R226). An accepted WF_ALLOC takes effect at a slice-clock edge at least 100 ns later. -/
  | allocEffect
  /-- GAIN_BOUNDARY (R228). A timing-0 gain change takes effect at the input's capture boundary. -/
  | gainBoundary (input : Fin 16)
  /-- GAIN_TIMEOUT (R228). No capture boundary within 100 ms, so WF_GAIN answers STATE. -/
  | gainTimeout (input : Fin 16)
  /-- APPLY (R229). A write of APPLY swaps the lane filter buffers at the next sample. -/
  | apply (l : Fin 16)
  /-- DISARM (R236). A write of DISARM returns a capture unit to IDLE. -/
  | disarm (u : Fin 16)
  /-- TRIGGER_SAMPLE (R241). A capture unit fixes its trigger sample once the positions have passed it, and enters POST. -/
  | triggerSample (u : Fin 16) (codes : List Byte)
  /-- CAPTURE_END (R238). The post-trigger count is reached, the capture closes and its descriptor goes to the record builder. -/
  | captureEnd (u : Fin 16) (codes : List Byte)
  /-- REARM_DONE (R235). A unit leaves REARM, after any hold-off, for ARMED, HELD or IDLE. -/
  | rearmDone (seen : CaptureSeen)
  /-- CAPTURE_AREA_FREE (R235). A HELD unit moves on once its capture area has room. -/
  | captureAreaFree (seen : CaptureSeen)
  /-- WFD_ROTATION_STEP (R230). A background calibration step calibrates, shadows and switches the spare slice. -/
  | wfdRotationStep (shadow : List Int) (trims : List Byte)
  /-- WFD_SLICE_MIGRATION (R232). The spare slice takes a failed slice's position and rotation stops. -/
  | wfdSliceMigration (j : Fin 17)
  /-- HK_CYCLE_START (R338). A regular housekeeping cycle starts every PERIOD_US. -/
  | hkCycleStart
  /-- HK_STEP (R327). A housekeeping step converts one channel and publishes its result. -/
  | hkStep (path : Fin 2) (codes : List (BitVec 16)) (iexCurrent : Nat)
  /-- HK_MONITOR_REPORT (R329). The excitation monitor reports OPEN or SHORT, ending the step with a flagged result. -/
  | hkMonitorReport (path : Fin 2) (short : Bool)
  /-- GO (R339). A write of GO triggers an injected housekeeping run. -/
  | go
  /-- HK_ROTATION_STEP (R340). A housekeeping spare slice is calibrated, shadows a path and takes it over. -/
  | hkRotationStep (shadow : List Int) (trims : List Byte)
  /-- HK_SLICE_MIGRATION (R340). The spare slice takes a failed slice's path and rotation stops. -/
  | hkSliceMigration (j : Fin 3)
  /-- THERMAL_READING (R346). The sensors are read every 50 µs and the zone levels are evaluated. -/
  | thermalReading (readings : List (Option Int))
  /-- THROTTLE_STEP_CHANGE (R354). The throttle step moves by one after DWELL_MS. -/
  | throttleStepChange
  /-- APPLIED_SET_BUILD (R363). The applied calibration set is rebuilt and published with an effective tick. -/
  | appliedSetBuild
  /-- CAL_AUTO_RUN (R364). An automatic calibration run starts when T_die moves by RECAL, or on retry. -/
  | calAutoRun
  /-- CAL_RUN_END (R366). A calibration run ends in success or failure. -/
  | calRunEnd (result : CalResult)
  /-- FIRST_CAL_START (R475). The held first calibration run starts after warm-up and settling, or after FIRST_CAL_MAX_S. -/
  | firstCalStart
  /-- CALSET_WRITEBACK (R361). Thrumi writes a changed stored set back to flash. -/
  | calsetWriteback (k : Fin 8)
  /-- WARMUP_GATE (R302). A 1 s gate ends and the warm-up flag is set or cleared. -/
  | warmupGate (stamps : List Quad)
  /-- OCXO_WARM_CHANGE (R300). OCXO_WARM changes level and is qualified after 200 µs. -/
  | ocxoWarmChange (level : Bool)
  /-- CLOCK_LOSS (R33). A clock is lost and the device acts for that clock. -/
  | clockLoss (clock : Clock)
  /-- CLOCK_RETURN (R33). A lost clock becomes valid again. -/
  | clockReturn (clock : Clock)
  /-- REF_LOCK (R299). The timing PLL locks to REFIN after REF_SELECT, or fails at 20 ms. -/
  | refLock (ok : Bool)
  /-- PTP_CORRECTION_EFFECT (R306). An accepted PTP correction takes effect at a MAC edge. -/
  | ptpCorrectionEffect (p : Fin 4)
  /-- PTP_WRAP (R307). A PTP base wraps and raises a wrap event. -/
  | ptpWrap (p : Fin 4) (forward : Bool)
  /-- COUNTER_WRAP (R520). A counter wraps and raises a class 8 wrap event. -/
  | counterWrap
  /-- PTP_INGRESS (R311). A PTP datagram is stamped on ingress and logged. -/
  | ptpIngress (p : Fin 4) (udpPort : Half) (payload : List Byte) (tEvt : Quad) (tEdge : Quad)
  /-- LAUNCH (R317). A timed frame is sent and its egress stamp is logged. -/
  | launch (p : Fin 4) (tEvt : Quad) (tEdge : Quad)
  /-- CROSS_STAMP_EVENT (R313). The armed source's event occurs and the cross-stamp image is captured. -/
  | crossStampEvent (edge : EventEdge)
  /-- CROSS_STAMP_TIMEOUT (R315). A pending cross-stamp ends with STATE after 10 s. -/
  | crossStampTimeout
  /-- SAFETY_CYCLE (R389). The island's 25 µs cycle samples inputs, checks telegrams, evaluates demands, tests and drives outputs. -/
  | safetyCycle (pins : SafetyPins)
  /-- SPDIN_EDGE (R394). A rising SPDIN edge closes a period. -/
  | spdinEdge (t : Quad)
  /-- SPEED_BELOW_LIMIT (R394). SPD_PMAX passes without a SPDIN edge. -/
  | speedBelowLimit
  /-- GUARD_DISC (R392). The guard channels disagree beyond DISC_MS. -/
  | guardDisc
  /-- GUARD_TEST_DONE (R393). The second hold of the start-up guard test ends and the island enters RUN. -/
  | guardTestDone
  /-- BRAKE_FEEDBACK_CHECK (R398). FB_SETTLE_MS after a brake output change the feedback is checked. -/
  | brakeFeedbackCheck (sw : Fin 6)
  /-- TEST_PULSE (R399). A scheduled switch or LEN test pulse is run and judged. -/
  | testPulse (which : Nat) (fb : Bool)
  /-- WATCHDOG_EXPIRY (R405). No valid pair for WD_MS, so requests count as 0. -/
  | watchdogExpiry
  /-- SAFETY_TELEGRAM (R404). A command telegram copy enters the mailbox and is checked and paired by the island. -/
  | safetyTelegram (port : Fin 2) (data : List Byte)
  /-- STATUS_TELEGRAM (R403). The island sends a status pair every T_CYC_MS or after a change. -/
  | statusTelegram
  /-- SAF_PARAM_PAIR_TIMEOUT (R407). PAIR_MS expires without a partner copy and SAFETY_UNPAIRED is replied. -/
  | safParamPairTimeout
  /-- PARAM_ACTIVATE (R408). The guard open for GT_MIN_MS with a block staged writes and activates the block. -/
  | paramActivate (writeOk : Bool)
  /-- PARAM_LAPSE (R408). A staged block lapses after PEND_S. -/
  | paramLapse
  /-- OUTPUT_REFRESH_TIMEOUT (R387). Without refresh for 50 µs the hardware drives the output low. -/
  | outputRefreshTimeout (out : Nat)
  /-- ISLAND_RESET (R388). The island resets on a lockstep, memory, clock or supply fault. -/
  | islandReset (cause : Nat)
  /-- ISLAND_POWER_ON (R463). The island starts from its power-on reset 1 ms after the VDDSI rails are in window. -/
  | islandPowerOn (stores : List (List Byte))
  /-- INCIDENT_WINDOW_CLOSE (R431). An incident's collection window closes and it becomes ACTIVE or CLEARED. -/
  | incidentWindowClose (iseq : Word)
  /-- INCIDENT_FRAME_REPEAT (R443). An unacknowledged incident link frame is sent again after 20 µs. -/
  | incidentFrameRepeat (seq : Half)
  /-- TDC_MIGRATION (R165). A channel is moved to a spare TDC at a changeover tick. -/
  | tdcMigration (c : Fin 512)
  /-- ENGINE_MIGRATION (R422). A failing engine's state is moved to a spare engine. -/
  | engineMigration (uncopyable : List Nat)
  /-- HEARTBEAT_TIMEOUT (R417). An engine posts no heartbeat for HB_TMO_US. -/
  | heartbeatTimeout (e : Fin 68)
  /-- CC_SWITCHOVER (R424). The standby control-core pair becomes active and replays the journal. -/
  | ccSwitchover
  /-- THRUMI_WATCHDOG (R417). The Thrumi watchdog of 50 µs expires. -/
  | thrumiWatchdog
  /-- PAIR_REJOIN (R425). The former active pair completes its self-test and reload and becomes standby. -/
  | pairRejoin (ok : Bool)
  /-- BIST_PERIODIC (R427). The periodic self-test runs every BIST_S. -/
  | bistPeriodic
  /-- REPAIR_MAP_WRITEBACK (R429). Thrumi writes a changed repair map to flash. -/
  | repairMapWriteback
  /-- SRAM_ERROR (R371). An uncorrectable SRAM error is handled by region. -/
  | sramError (addr : Nat)
  /-- SRAM_ROW_REPAIR (R372). A faulty SRAM row is copied to a spare row and remapped. -/
  | sramRowRepair (macro_ : Nat) (row : Nat)
  /-- SRAM_SCRUB (R371). The scrubber pass reads every SRAM word. -/
  | sramScrub (errs : List Nat)
  /-- RETRAIN (R377). A DDR5 channel pauses and tries its candidate delay sets. -/
  | retrain (c : Fin 2) (passes : List Bool)
  /-- DRAM_ROW_REPAIR (R381). A faulty DRAM row is repaired in service by post-package repair or a spare row. -/
  | dramRowRepair (row : DramRow) (pprOk : Bool)
  /-- DRAM_UNCORRECTABLE (R382). An uncorrectable burst discards what it holds. -/
  | dramUncorrectable (addr : Nat)
  /-- CHANNEL_FALLBACK (R383). A failed DRAM channel puts the device into single-channel mode. -/
  | channelFallback (c : Fin 2)
  /-- BLOCK_LOCK (R441). An Ifeche Link port gains block lock. -/
  | blockLock (p : Fin 4)
  /-- TIME_EXCHANGE (R445). A time block exchange completes and updates θ, δ and D_tree. -/
  | timeExchange (p : Fin 4) (x : Exchange)
  /-- LINK_JOIN (R447). A worker completes time lock, TB_SHOT load and convergence and becomes JOINED. -/
  | linkJoin
  /-- LINK_DOWN (R456). A link loses lock or time blocks for 16 superframes. -/
  | linkDown (p : Fin 4)
  /-- SYNC_FULL (R442). A full shot number block arrives for the next SYNC_SHOT. -/
  | syncFull (shot : Long)
  /-- SYNC_SHOT (R451). A worker commits a SYNC_FIRE entry from an announcement, or skips it. -/
  | syncShot (pid : Fin 64) (low16 : Half) (low26 : BitVec 26) (arrival : Long)
  /-- WAIT_REPORT (R78). The manager receives a worker wait report and may send a release. -/
  | waitReport (dev : Fin 16) (tag : Half)
  /-- WAIT_RELEASE (R453). A worker receives the release tick of a worker wait. -/
  | waitRelease (tag : Half) (low32 : Word)
  /-- ACK (R443). An ACK block acknowledges an incident link frame. -/
  | ack (seq : Half)
  /-- LINK_FRAME (R443). A link frame of command, reply, event, incident or record kind is received. -/
  | linkFrame (p : Fin 4) (kind : Fin 16) (dev : Fin 16) (sess : Byte) (seq : Half) (data : List Byte) (crcOk : Bool)
  /-- PORST (R472). Power-up or PORST_L release starts the HARDWARE phase. -/
  | porst (powerUp : Bool) (straps : Byte) (bootId : Word)
  /-- LOADING (R472). The chosen slot is copied into the control cores and checked. -/
  | loading
  /-- BRINGUP (R472). Profile, reference, calibration, DDR5, emitter start-up and preload are run in order. -/
  | bringup (b : BringupInputs)
  /-- READY (R472). Bring-up ends, ports come up and a worker joins. -/
  | ready
  /-- ETH_FRAME_RECEIVED (R271). A frame arrives on an Ethernet port and is filtered, discarded and counted, or placed as a command datagram into ingress or dropped at a full queue. -/
  | ethFrameReceived (p : Fin 4) (frame : List Byte)
  /-- PCIE_LINK_TRAINED (R292). The PCIe link completes training, possibly below x8 at 32 GT/s, which changes capacity and re-runs admission. -/
  | pcieLinkTrained (width : Nat) (speed : Nat)
  /-- PORST_L_ASSERT (R464). PORST_L is driven low or the core supplies are lost, holding everything but the island in reset. -/
  | porstLAssert
  /-- PARITY_ERROR (R417). An XC01 stamp parity error or a binning-unit parity error is detected and starts a TDC or engine migration. -/
  | parityError (engine : Bool) (idx : Nat)
  /-- RUN_LONGER_THAN_WCET (R417). An engine run exceeds 2 x HEN_WCET_e and the engine is treated as faulty. -/
  | runLongerThanWcet (e : Fin 68)
  /-- LOCKSTEP_MISMATCH (R417). A lockstep mismatch of the active control-core pair is detected and starts a switchover, or leaves the device without firmware. -/
  | lockstepMismatch
  /-- DRAM_SCRUB (R384). The DRAM scrubber pass runs every scrub period in hours over both channels. -/
  | dramScrub (errs : List Nat)
  /-- FW_ACTIVATE_DONE (R469). A firmware activation completes its load, switchover, reload and header write and sends its closing EVENT. -/
  | fwActivateDone
  /-- SELFTEST_DONE (R427). A commanded self-test completes, marks failed units and sends its closing EVENT. -/
  | selftestDone (failed : List (Nat × Nat))
  deriving DecidableEq, Repr

end Sys2Proof
end

