-- ==== Sys2Proof/Decode.lean ====
section
/-!
DEFINITION. The command that a word of the opcode table spells. No row of the table gives bits, so no
word spells a command.
-/
namespace Sys2Proof

/-- The rows of the opcode table that give bits: none. -/
def tableWords : List (Nat × Nat × Instr) := []

/-- The command whose bits a word spells. -/
def decodeTableWord (nbits w : Nat) : Option Instr :=
  (tableWords.find? fun t => t.1 == nbits && t.2.1 == w).map fun t => t.2.2

end Sys2Proof
end

