-- ==== Sys2Proof/Config.lean ====
section
/-!
DEFINITION. What an implementation fixes and the spec does not state, and the free values: constants
without a body, so that no statement can rest on a value of theirs.
-/
namespace Sys2Proof.Config

/-- The serial number set at manufacture (20 R491). -/
opaque serial : Quad
/-- The session number that SESSION_OPEN returns for the session at a place in the list of open
sessions (02 R50 gives no value). -/
opaque sessionNumber : Nat → Byte
/-- Where in the lower half of WORK the shot history stands, in units of 16 bytes (20 R496). -/
opaque historyPlace : Nat
/-- Where in the upper half of WORK the candidate delay sets stand, in units of 16 bytes (15 R376). -/
opaque candidatePlace : Nat
/-- The level that a GPIO input reads that nothing drives (20 R495): by pin and draw. -/
opaque gpioLevel : Nat → Nat → Bool
/-- The island ROM version (16 R412). -/
opaque islandRom : Half
/-- The TSEQ of the island's first status pair, by the island's start (16 R404). -/
opaque islandNoise : Nat → Word
/-- The bytes of factory calibration set k that the spec does not state, by offset (14 R361). -/
opaque factoryByte : Nat → Nat → Byte
/-- The error of a computed temperature, by curve, code and current, in 10^-4 degree; it is used limited to
-100 to 100, the 0.01 degree of 13 R331. -/
opaque curveSlack : Nat → Int → Nat → Int
/-- Divider and diode conversions of the internal housekeeping channels, by channel and mean code
(13 R335 gives the unit of VALUE only). -/
opaque internalValue : Nat → Int → Int
/-- A free value where the spec states no value: by a label of its place and the draw. -/
opaque freeNat : Nat → Nat → Nat
/-- Bytes of the control-core memories, seen through window 0x01 (15 R370): the running firmware's own
data, by offset and draw. -/
opaque coreByte : Nat → Nat → Byte
/-- The probability of a Poisson tail's decision within its stated accuracy (08 R212). -/
opaque poissonTie : Nat → Nat → Bool

/-- The child through which a worker reaches a device below it, by own ID and target: a worker holds no tree description
and the spec does not say how it learns what lies below its children (02 R62). -/
opaque childOf : Nat → Nat → Nat
/-- Whether the manager's description names a worker's own port, by its ID and the port (18 R440): the worker does not
hold the description. -/
opaque portNamed : Nat → Nat → Bool

/-- The mask of a worker wait's tag that no program of the manager names (03 R78): WAIT_REPORT carries none. -/
opaque waitMask : Nat → Half

end Sys2Proof.Config
end

