-- ==== Sys2Proof/Machine/Bytes.lean ====
section
/-!
DEFINITION. Byte order, fields of byte strings, CRC-32C and the sparse canonical store.
-/
namespace Sys2Proof.Machine

/-- The number that little-endian bytes spell (00 R11). -/
def leNat : List Byte → Nat
  | [] => 0
  | b :: t => b.toNat + 256 * leNat t

/-- The n little-endian bytes of a number (00 R11). -/
def leBytes : Nat → Nat → List Byte
  | 0, _ => []
  | n + 1, v => BitVec.ofNat 8 v :: leBytes n (v / 256)

/-- The n little-endian bytes of a signed number, two's complement. -/
def leBytesInt (n : Nat) (v : Int) : List Byte :=
  leBytes n (v % (256 ^ n : Nat)).toNat

/-- The bytes of a string from an offset on, a given number of them; bytes past its end read as zero. -/
def slice (l : List Byte) (off len : Nat) : List Byte :=
  let t := (l.drop off).take len
  t ++ List.replicate (len - t.length) 0

/-- The little-endian field of a byte string at an offset, of a given size. -/
def field (l : List Byte) (off size : Nat) : Nat :=
  leNat (slice l off size)

/-- The number as a signed number of the given width in bits. -/
def signed (bits v : Nat) : Int :=
  let m := v % 2 ^ bits
  if m < 2 ^ (bits - 1) then (m : Int) else (m : Int) - (2 ^ bits : Nat)

/-- The signed little-endian field of a byte string. -/
def fieldInt (l : List Byte) (off size : Nat) : Int :=
  signed (8 * size) (field l off size)

/-- The bits hi down to lo of a number. -/
def bits (v hi lo : Nat) : Nat :=
  v / 2 ^ lo % 2 ^ (hi - lo + 1)

/-- Bit n of a number. -/
def bit (v n : Nat) : Bool :=
  v.testBit n

/-- A flag as a number. -/
def b2n (b : Bool) : Nat :=
  if b then 1 else 0

/-- Writes bytes into a byte string at an offset; the string is lengthened with zeros as needed. -/
def patch (l : List Byte) (off : Nat) (d : List Byte) : List Byte :=
  let l' := l ++ List.replicate (off - l.length) 0
  l'.take off ++ d ++ l'.drop (off + d.length)

/-- Pads a byte string with zeros to a multiple of n. -/
def padTo (n : Nat) (l : List Byte) : List Byte :=
  l ++ List.replicate ((n - l.length % n) % n) 0

/-- One bit of the reflected CRC-32C register (02 R37). -/
def crcBit (c : Word) : Word :=
  if c.getLsbD 0 then (c >>> 1) ^^^ 0x82F63B78#32 else c >>> 1

/-- One byte through the CRC-32C register (02 R37). -/
def crcByte (c : Word) (b : Byte) : Word :=
  let x := c ^^^ b.setWidth 32
  crcBit (crcBit (crcBit (crcBit (crcBit (crcBit (crcBit (crcBit x)))))))

/-- CRC-32C: polynomial 0x1EDC_6F41 reflected, initial value and final XOR all ones (02 R37). -/
def crc32c (l : List Byte) : Word :=
  l.foldl crcByte 0xFFFFFFFF#32 ^^^ 0xFFFFFFFF#32

/-- The CRC-32C of a byte string with the four bytes at an offset taken as zero. -/
def crcBlank (l : List Byte) (off : Nat) : Word :=
  crc32c (patch l off (leBytes 4 0))

/-- Rounds an exact quotient to the nearest integer, exact halves upward (00 R13). -/
def roundDiv (n : Int) (d : Nat) : Int :=
  (2 * n + d) / (2 * d : Nat)

/-- The nearest integer, exact halves upward (00 R13). -/
def roundRat (x : Rat) : Int := (x + 1 / 2).floor

/-- Ceiling of a quotient. -/
def ceilDiv (n d : Nat) : Nat :=
  (n + d - 1) / d

/-- Limits a number to a range. -/
def clampInt (lo hi v : Int) : Int :=
  max lo (min hi v)

/-! The sparse store: pairs of an address and a value, addresses strictly rising, no pair equal to
what an unlisted address reads as. One store serves memories (bytes) and the register file (words). -/

namespace Sparse

/-- The value at an address: the listed one, else what an unlisted address reads as. -/
def get {β : Type} (d : Nat → β) : List (Nat × β) → Nat → β
  | [], a => d a
  | (k, v) :: t, a => if a = k then v else get d t a

/-- Lists a value before the first higher address. -/
def put {β : Type} (a : Nat) (v : β) : List (Nat × β) → List (Nat × β)
  | [] => [(a, v)]
  | (k, x) :: t => if a < k then (a, v) :: (k, x) :: t else (k, x) :: put a v t

/-- Writes a value, keeping the canonical form: the address is no longer listed, or is listed with the value. -/
def set {β : Type} [DecidableEq β] (d : Nat → β) (m : List (Nat × β)) (a : Nat) (v : β) :
    List (Nat × β) :=
  let r := m.filter fun p => p.1 != a
  if v = d a then r else put a v r

/-- All addresses of a store stand above a bound, rise strictly, and list no default value. -/
def wfAbove {β : Type} [DecidableEq β] (d : Nat → β) : Nat → List (Nat × β) → Bool
  | _, [] => true
  | lo, (k, v) :: t => decide (lo ≤ k) && decide (v ≠ d k) && wfAbove d (k + 1) t

/-- The canonical form. -/
def wf {β : Type} [DecidableEq β] (d : Nat → β) (m : List (Nat × β)) : Bool :=
  wfAbove d 0 m

/-- Writes successive values from an address on. -/
def setMany {β : Type} [DecidableEq β] (d : Nat → β) (m : List (Nat × β)) (a : Nat) :
    List β → List (Nat × β)
  | [] => m
  | v :: t => setMany d (set d m a v) (a + 1) t

/-- Reads successive values from an address on. -/
def getMany {β : Type} (d : Nat → β) (m : List (Nat × β)) (a n : Nat) : List β :=
  (List.range n).map fun i => get d m (a + i)

/-- Removes every listed value in an address range, which then reads as unlisted. -/
def clear {β : Type} (m : List (Nat × β)) (lo n : Nat) : List (Nat × β) :=
  m.filter fun p => p.1 < lo || lo + n ≤ p.1

end Sparse

/-- An element of a list by index, with a default. -/
def nth {α : Type} (l : List α) (i : Nat) (d : α) : α :=
  l.getD i d

/-- Replaces an element of a list by a function of it; nothing happens past the end. -/
def upd {α : Type} (l : List α) (i : Nat) (f : α → α) : List α :=
  l.modify i f

/-- Puts an element into an ordered list, before the first element that does not stand before it. -/
def insertBy {α : Type} (before : α → α → Bool) (x : α) : List α → List α
  | [] => [x]
  | y :: t => if before y x then y :: insertBy before x t else x :: y :: t

/-- Orders a list; elements that neither stands before keep their order. -/
def sortBy {α : Type} (before : α → α → Bool) (l : List α) : List α :=
  l.foldr (insertBy before) []

end Sys2Proof.Machine
end

