-- ==== Sys2Proof/Machine/State.lean ====
section
/-!
DEFINITION. The state of the NRX-512 as plain data, unit by unit, and the state after reset.
Every reset value that the spec does not state is named in notes/assumptions.
-/
namespace Sys2Proof.Machine

/-- Why a command stops the model: no command does, so the type has no constructor. -/
inductive Fault where
  deriving DecidableEq, Repr

/-- Why a command has no meaning in the model. -/
inductive Refusal where
  /-- Raised by an arm of exec whose command is not modelled. Safe: nothing is claimed of it. -/
  | notModelled (mnemonic : String)
  deriving DecidableEq, Repr

/-! Command packets, sessions and readback (02). -/

/-- A packet as it is carried (02 R35), without sync, version, length and trailer. -/
structure Packet where
  opcode   : Byte
  flags    : Byte
  status   : Byte
  sequence : Half
  target   : Byte
  cls      : Byte
  gen      : Word
  payload  : List Byte
  deriving DecidableEq, Repr

/-- An entry of a reply cache (02 R44). -/
structure CacheEntry where
  sequence : Half
  crc      : Word
  reply    : Packet
  /-- The reply was suppressed by QUIET. -/
  quiet    : Bool
  deriving DecidableEq, Repr

/-- The one object that a staged transfer covers (02 R48). -/
inductive StageObj where
  | table (kind : Byte) (id : Half)
  | program (id : Half)
  | engine (e : Byte)
  deriving DecidableEq, Repr

/-- The staged transfer of a session (02 R48). -/
structure Stage where
  obj     : StageObj
  /-- The bytes received so far; for an engine, of its program memory. -/
  data    : List Byte
  /-- For an engine, the bytes received for its data memory. -/
  dataMem : List Byte
  /-- GEN at the first packet, and whether that packet set CAS. -/
  gen     : Word
  cas     : Bool
  /-- The latest packet did not set MORE. -/
  whole   : Bool
  /-- Time of the latest packet. -/
  last    : Nat
  deriving DecidableEq, Repr

/-- A session (02 R44, R48, R56). -/
structure Session where
  origin  : Origin
  /-- The session's place: the lowest one free when it opened. -/
  num     : Nat
  /-- Event class mask; reset 0x0000_0001. -/
  mask    : Word
  /-- Newest sequence; none at opening. -/
  newest  : Option Half
  /-- The most recent replies, newest first, at most 16 (1 under the responder). -/
  cache   : List CacheEntry
  stage   : Option Stage
  /-- Time of the latest packet (02 R59). -/
  lastUse : Nat
  deriving DecidableEq, Repr

/-- A PCIe command ring pair (02 R58); its base, size and tails are registers. -/
structure RingPair where
  enabled   : Bool
  cmdBase   : Bool
  rplBase   : Bool
  cmdHead   : Nat
  rplHead   : Nat
  /-- Lengths of the reply buffers posted and not yet used, and since when there is none. -/
  replyBufs : List Nat
  dry       : Option Nat
  /-- Times the MSI-X vector was raised. -/
  irqs      : Nat
  deriving DecidableEq, Repr

/-- What an ingress queue holds (02 R43): a packet whose first checks pass, or bytes that fail one of them. -/
inductive Arrival where
  | packet (p : Packet)
  | raw (bytes : List Byte)
  deriving DecidableEq, Repr

/-- An entry of an ingress queue (02 R57). -/
structure Queued where
  origin  : Origin
  item    : Arrival
  entered : Nat
  deriving DecidableEq, Repr

/-- An EVENT issued: its sequence and its 32-byte payload (02 R50, R55). -/
structure EventRec where
  seq     : Word
  payload : List Byte
  deriving DecidableEq, Repr

/-- A snapshot handle in use (02 R54, R55). -/
structure Snapshot where
  image    : List Byte
  done     : Bool
  owner    : Origin
  sequence : Half
  /-- Time of the completing EVENT, then of the latest read. -/
  last     : Nat
  deriving DecidableEq, Repr

/-- A wrap of a counter whose EVENT is still to be sent (02 R520). -/
structure Wrap where
  unit   : Byte
  window : Byte
  offset : Nat
  width  : Nat
  /-- TB_SYS in ns at the wrap. -/
  at_    : Nat
  deriving DecidableEq, Repr

/-- A packet whose reply waits for an effect outside Thrumi: it holds the one-packet rule of
01 R21 until the effect ends. -/
structure Deferred where
  origin : Origin
  packet : Packet
  /-- Time of its entry into its ingress queue, and time at which the wait began. -/
  entered : Nat
  since  : Nat
  deriving DecidableEq, Repr

/-- The packet unit: sessions, ingress, replies waiting on MSPI, events, snapshots. -/
structure PacketUnit where
  /-- The open sessions (02 R44, R59, R62). Reset: the MSPI session and none else. -/
  sessions  : List Session
  /-- The packets of the 14 ingress queues in arrival order (02 R57). Reset: empty. -/
  ingress   : List Queued
  /-- The queue served last in the round robin, 0 to 13 (01 R21, 02 R57). Reset: 13. -/
  lastQueue : Nat
  /-- The packet whose reply is deferred, if any (01 R21). Reset: none. -/
  deferred  : Option Deferred
  /-- The four command ring pairs (02 R58). Reset: disabled. -/
  rings     : List RingPair
  /-- Command UDP ports that were in force before, newest first: until when, and the port (20 R494). Reset: none. -/
  oldPorts  : List (Nat × Nat)
  /-- The replies and events waiting on MSPI (02 R60). Reset: none. -/
  mspiReply : List Packet
  /-- The bytes that MISO carried in the latest MSPI transaction (02 R60). Reset: none. -/
  mspiOut   : List Byte
  /-- Time at which MSPI was last serviced by the active pair (02 R61). Reset: 0. -/
  mspiServed : Nat
  /-- The event log of window 0x74, newest first: one event for each of its 4,096 slots (02 R52, R55). Reset: empty. -/
  events    : List EventRec
  /-- Snapshot handles 0 to 3 (02 R55). Reset: all free. -/
  snapshots : List (Option Snapshot)
  /-- Wraps whose EVENT is still to be sent (02 R520, 00 R15). Reset: none. -/
  wraps     : List Wrap
  /-- A RESET of scope 1 or 2 accepted and not yet in effect, and when (19 R465). Reset: none. -/
  resetPend : Option (Nat × Nat)
  deriving DecidableEq, Repr

/-! Tables, programs and the shot sequencer (03, 20). -/

/-- A committed table in the table store (02 R521, 19 R479). -/
structure Table where
  kind   : Byte
  id     : Half
  data   : List Byte
  /-- GEN after the commit. -/
  gen    : Word
  /-- Offset in window 0x70. -/
  offset : Nat
  deriving DecidableEq, Repr

/-- Program states (03 R522). -/
inductive ProgState where
  | idle | armed | running | waiting | stopping | stopped | suspended
  deriving DecidableEq, Repr

/-- The position of a code set's dither source and pattern rotation (03 R73). -/
structure CodeSource where
  code     : Half
  pos      : Nat
  lfsr     : Half
  rotation : Nat
  deriving DecidableEq, Repr

/-- A program that has not been withdrawn (03 R63 to R78, R522). -/
structure Prog where
  image    : List Byte
  state    : ProgState
  /-- Cause of the last suspension (03 R522). -/
  cause    : Nat
  /-- The suspension was by re-admission or any other cause that leaves the program outside the
  admitted set until PROG_START (11 R279). -/
  outOfSet : Bool
  genSubmit : Word
  /-- Offset of the image in window 0x70. -/
  offset   : Nat
  segment  : Nat
  /-- Passes of the segment completed. -/
  passes   : Nat
  /-- Entries of the pass issued. -/
  entry    : Nat
  /-- Last shot committed since PROG_START. -/
  last     : Option Long
  /-- Shot tables in force for the pass in progress (03 R79): shot, beam, Pass set, profile, code. -/
  passTabs : List Table
  /-- Start mode of PROG_START. -/
  startMode : Nat
  /-- Start time of mode 1, an unwrapped TB_SHOT tick. -/
  startTick : Nat
  /-- Nominal time of the previous shot, or the start or release instant, in 25 ps units. -/
  nominal  : Nat
  /-- A shot has been committed since PROG_START. -/
  fired    : Bool
  /-- The wait before the pass has been released. -/
  released : Bool
  /-- Beginning of the wait held, in 25 ps units. -/
  waitFrom : Nat
  /-- Edges counted by an event wait. -/
  waitEdges : Nat
  /-- Release instant known for the wait held, in fine LSB. -/
  waitHit  : Option Nat
  /-- The tag of the worker wait held is still to be reported: the wait has not begun (03 R78). -/
  unreported : Bool
  /-- Flags for the first shot after a wait: wait-late and wait-timeout. -/
  waitLate : Bool
  waitTmo  : Bool
  /-- The dither and rotation positions of each code set used since PROG_START (03 R73). -/
  sources  : List CodeSource
  deriving DecidableEq, Repr

/-- A committed shot (01 R19, 03 R69, 07 R191). -/
structure Shot where
  number  : Long
  pid     : Nat
  /-- Planned fire time in 25 ps units, unwrapped. -/
  fire    : Nat
  dither  : Nat
  /-- The beam entry (03 R70). -/
  beam    : List Byte
  beamIdx : Nat
  /-- The table ID of the beam set (03 R83). -/
  beamSet : Nat
  passSel : Nat
  flags   : Half
  tag     : Half
  /-- Pattern index used, and the pattern's entry; empty for a single pulse. -/
  patternIdx : Nat
  pattern : List Byte
  burstK  : Nat
  burstTol : Nat
  /-- Coded segment (03 R72). -/
  coded   : Bool
  /-- The window of the Pass: start, bins and exponent (03 R71). -/
  start   : Nat
  bins    : Nat
  binExp  : Nat
  /-- The per-channel adjustments of the Pass window set; empty when absent. -/
  adj     : List Int
  /-- The detection profile the segment names (08 R207). -/
  profile : Half
  /-- Shot energy in Eu, and the widths of its pulses in 25 ps units (04 R92, R94). -/
  energy  : Nat
  widths  : List Nat
  /-- What the budget was charged for it at its commitment, and what is still to be charged where emission was shut down
  then, in 2^-16 Eu (04 R96). -/
  drawn   : Nat
  owed    : Nat
  /-- Configuration generation at commitment. -/
  gen     : Word
  /-- Conditions of the shot, as the FLAGS word of 10 R254 places them. -/
  cond    : Word
  /-- Calibrated fire stamp, or its substitute, in fine LSB; none until known. -/
  tFire   : Option Int
  /-- Flags of the fire stamp's own [63:59] (06 R152). -/
  tFlags  : Nat
  /-- The EFU's settings at commitment (01 R20): DELAY of FIRE0 to FIRE7, precharge and line time in ns,
  and the stamp source and window of the shot's lowest output (04 R85, R87, R90). -/
  delays  : List Nat
  tPre    : Nat
  tLine   : Nat
  stampSrc : Nat
  stampWin : Nat
  /-- N_G of the program (03 R63). -/
  ng      : Nat
  /-- The EFU has dealt with the shot's edge. -/
  edgeDone : Bool
  /-- The shot carries an angle: p1 and the fraction (05 R134). -/
  angle   : Option (Int × Nat)
  /-- The version of the applied calibration set that converts the shot's stamps (14 R363). -/
  calVer  : Nat
  /-- TB_SHOT at commitment. -/
  commit  : Nat
  /-- The receiver's registers and the walk tables at commitment (01 R20; 06 R145, R166, R169). -/
  rcv     : List (Nat × Word)
  walks   : List Table
  deriving DecidableEq, Repr

/-- The table store and the programs. -/
structure ProgramUnit where
  /-- The committed tables (02 R521). Reset: none. -/
  tables   : List Table
  /-- The programs by ID 0 to 63 (03 R64). Reset: none. -/
  progs    : List (Option Prog)
  /-- Program IDs in the order of their admission (11 R292). Reset: empty. -/
  admitted : List Nat
  deriving DecidableEq, Repr

/-- The shot sequencer and the EFU's queue of shots (03 R75, 20 R496). -/
structure Sequencer where
  /-- The shot counter, 48 bits (03 R75). Reset: 0. -/
  next     : Long
  /-- The descriptors of the last 4,096 committed shots, newest first (17 R422, 20 R496). Reset: none. -/
  history  : List Shot
  /-- Shots whose edge the EFU has not yet dealt with, or whose fire stamp is awaited (04 R85, R88).
  Reset: none. -/
  efu      : List Shot
  /-- No shot is committed after loss of REFIN and XSYS (01 R33). Reset: no. -/
  clockHold : Bool
  deriving DecidableEq, Repr

/-! Emission (04). -/

/-- The budget of a wavelength group (04 R95, R96, R98). -/
structure Budget where
  /-- B in 2^-16 Eu. Reset: 0. -/
  level   : Nat
  /-- The clipped state. Reset: clipped. -/
  clipped : Bool
  /-- Time of the last update, in 25 ps units. -/
  updated : Nat
  deriving DecidableEq, Repr

/-- A pulse on a line under 04 R101's index: rising and falling edge in 25 ps units of TB_SHOT, and whether it has begun
(04 R84, R85, R90). -/
structure FireLine where
  line  : Nat
  rise  : Nat
  fall  : Nat
  begun : Bool
  deriving DecidableEq, Repr

/-- The pulses of a shot that have not ended, and whether a pulse of a fire output or a cathode line has begun (04 R99). -/
structure Firing where
  group : Nat
  shot  : Long
  lines : List FireLine
  lit   : Bool
  deriving DecidableEq, Repr

/-- The emitter firing unit (04). -/
structure Emission where
  /-- The budgets of groups L0 to L3 (04 R95). Reset: B = 0, clipped. -/
  budgets  : List Budget
  /-- The single-wire line EMD_1W (04 R108, 19 R476). Reset: low until BRINGUP. -/
  wireHigh : Bool
  /-- The short test that runs: its mask, its owner and its packet sequence (04 R101). Reset: none. -/
  shortTest : Option (Word × Origin × Half)
  /-- Readback frame of the chain transfer under way, and the time at which its shift ends (04 R103 to R105).
  Reset: none. -/
  chainRead : Option (List Byte × Nat)
  /-- Time at which the single-wire transfer that runs has held its end-of-frame level (04 R108).
  Reset: none. -/
  wireEnd  : Option Nat
  /-- Time at which all EFU output activity of the shots fired so far ends (04 R105). Reset: 0. -/
  busyUntil : Nat
  /-- The pulses on the lines and still to come, by shot (04 R84, R85, R90, R99). Reset: none. -/
  firings  : List Firing
  /-- The bytes last shifted out on EMD_SDO and last sent on EMD_1W, in the order of the line, each most significant bit
  first (04 R103, R108). Reset: none. -/
  chainOut : List Byte
  wireOut  : List Byte
  /-- EMD_OT_L is low (04 R99). Reset: high. -/
  otLow    : Bool
  /-- t_fire - (P + DELAY) of the last 4,096 stamped shots of FIRE0 to FIRE7 and the matrix, newest first, in
  fine LSB (14 R365). Reset: none. -/
  leads    : List (List Int)
  deriving DecidableEq, Repr

/-! Output (10). -/

/-- A record, or a part of a capture, on its way to a stream (10 R253, R263). -/
structure Rec where
  bytes  : List Byte
  /-- Key shot number. -/
  key    : Long
  /-- Channel; none stands last (10 R263). -/
  chan   : Option Nat
  /-- Origin tick (10 R267), unwrapped. -/
  origin : Nat
  /-- For a part of a capture: its unit, the area bytes that it holds, and the number of the capture. The
  bytes are freed when its last part has been delivered (10 R259). -/
  frees  : Option (Nat × Nat × Nat)
  /-- In RECQ, the program of the record's context; none for INIT and TIMER runs. -/
  pid    : Option Nat
  deriving DecidableEq, Repr

/-- The open frame of a stream (10 R266). -/
structure OpenFrame where
  recs    : List Rec
  opened  : Nat
  deriving DecidableEq, Repr

/-- A closed frame (10 R265). -/
structure Frame where
  stream   : Nat
  device   : Nat
  recs     : List Rec
  isLast   : Bool
  stalled  : Bool
  fseq     : Word
  deadline : Nat
  key0     : Long
  lost     : Nat
  /-- The bytes of a frame that a worker has forwarded, unchanged (18 R455). -/
  raw      : Option (List Byte)
  deriving DecidableEq, Repr

/-- What a server carries: a frame, or a reply or event to a session (10 R273). -/
inductive Outgoing where
  | frame (f : Frame)
  | packet (dest : Origin) (p : Packet)
  deriving DecidableEq, Repr

/-- A reply or EVENT in the scheduler (02 R42, 10 R273). -/
structure OutPacket where
  dest     : Origin
  deadline : Nat
  packet   : Packet
  deriving DecidableEq, Repr

/-- An output stream (10 R264 to R275); its FSEQ, staged bytes and counts are registers. -/
structure Stream where
  /-- The stream descriptor of the program submitted last under the stream's ID (10 R264). -/
  desc    : List Byte
  /-- Records received and not yet placed (10 R263). -/
  waiting : List Rec
  openFr  : Option OpenFrame
  /-- Closed frames not yet started, oldest first. -/
  closed  : List Frame
  /-- Records discarded since the previous frame (10 R265). -/
  lost    : Nat
  /-- The next frame carries HOST_STALLED (10 R270). -/
  stalled : Bool
  /-- Since when the stream's ring has had no credit; none while it has (10 R270). -/
  dry     : Option Nat
  deriving DecidableEq, Repr

/-- A data ring (10 R269); base, size, tail and head are registers. -/
structure DataRing where
  enabled  : Bool
  baseSet  : Bool
  /-- Buffers posted and not yet used. -/
  bufs     : List RingBuf
  /-- Write-backs not yet signalled, and the time of the first of them. -/
  unsig    : Nat
  firstAt  : Nat
  /-- Times the MSI-X vector was raised. -/
  irqs     : Nat
  deriving DecidableEq, Repr

/-- The output unit (10). -/
structure Output where
  /-- The 64 output streams (10 R264). Reset: empty. -/
  streams  : List Stream
  /-- Replies and EVENTs in the scheduler, in the order they were raised (10 R273). Reset: none. -/
  packets  : List OutPacket
  /-- What the servers PCIe, ETH0 to ETH3 carry (10 R273). Reset: nothing. -/
  servers  : List (Option Outgoing)
  /-- The fragments that each of these servers has still to send of the frame it carries, by offset (10 R272, R273).
  Reset: none. -/
  frags    : List (List (Nat × List Byte))
  /-- The 16 data rings (10 R269). Reset: disabled. -/
  rings    : List DataRing
  /-- PCIe link up, its width and its speed in GT/s (10 R268). Reset: down. -/
  pcieUp   : Bool
  pcieWidth : Nat
  pcieSpeed : Nat
  /-- Port p link up (10 R277). Reset: down. -/
  ethUp    : List Bool
  /-- The IPv4 identification of each port (10 R271). Reset: 0. -/
  ipIdent  : List Half
  /-- The frames that the ports have sent, without FCS, the latest last (10 R271 to R273). Reset: none. -/
  direct   : List (Fin 4 × List Byte)
  /-- What the endpoint has written into host buffers, the latest last: the data ring, or 16 and the command
  ring for a reply, and the buffer's index and bytes (02 R58, 10 R269). Reset: none. -/
  host     : List (Nat × Nat × List Byte)
  /-- The descriptors that the endpoint has written back, the latest last: the ring as in `host`, the descriptor's
  index, its length field and its flags, 1 DONE and 2 ERR (02 R58, 10 R269). Reset: none. -/
  descs    : List (Nat × Nat × Nat × Nat)
  deriving DecidableEq, Repr

/-- Admission (11). -/
structure Admission where
  /-- Times of the interruptions counted under R290, newest first. Reset: none. -/
  interrupts : List Nat
  /-- The ticks of each channel's L-rising edges in the 1 ms up to the latest, newest first, and the channels whose count
  has exceeded the assumption since they were last checked (11 R284). Reset: none. -/
  ambient  : List (List Nat)
  exceeded : List Nat
  deriving DecidableEq, Repr

/-! Spares, repair and incidents (17). -/

/-- An incident (17 R433). -/
structure Incident where
  slot    : Nat
  iseq    : Word
  key     : Word
  firstT  : Nat
  lastT   : Nat
  reports : Nat
  devices : Half
  /-- 0 COLLECTING, 1 ACTIVE, 2 CLEARED. -/
  state   : Nat
  firstBy : Word
  detail  : List Byte
  repair  : Word
  /-- Time at which the window closes (17 R431). -/
  closes  : Nat
  /-- The cause has ended. -/
  ended   : Bool
  deriving DecidableEq, Repr

/-- An entry of the repair map (17 R428). -/
structure MapEntry where
  kind   : Nat
  origin : Nat
  flags  : Nat
  failed : Nat
  spare  : Nat
  time   : Nat
  deriving DecidableEq, Repr

/-- A migration that waits or runs (17 R416 to R418). -/
structure Migration where
  kind      : Nat
  failed    : Nat
  commanded : Bool
  /-- Sender and sequence of the REP_MIGRATE that commanded it. -/
  owner     : Option (Origin × Half)
  /-- Times at which service ended and the fault was detected. -/
  stopped   : Nat
  detected  : Nat
  /-- Time at which its decide phase began (17 R416, R418). -/
  decideAt  : Nat
  /-- A spare failed while it ran, and another is chosen (17 R418, R437). -/
  replaced  : Bool
  deriving DecidableEq, Repr

/-- A record of the control-core journal (17 R424). -/
structure JournalRec where
  packet  : Packet
  /-- The final values of the registers. -/
  effect  : List (Nat × Word)
  reply   : Packet
  gen     : Word
  applied : Bool
  deriving DecidableEq, Repr

/-- The repair controller and the incident unit (17). -/
structure Repair where
  /-- TDC indices marked failed (17 R435). Reset: none. -/
  tdcFail   : List Nat
  /-- Engines marked failed (17 R435). Reset: none. -/
  engFail   : List Nat
  /-- Channels lost (17 R420). Reset: none. -/
  chanLost  : List Nat
  /-- WFD slices and HKA slices marked failed (17 R435). Reset: none. -/
  wfdFail   : List Nat
  hkaFail   : List Nat
  /-- Engines of the spare pool (17 R419). Reset: HE64 to HE67. -/
  pool      : List Nat
  /-- The repair map's entries and MAPSEQ (17 R428). Reset: none, 0. -/
  map       : List MapEntry
  mapSeq    : Word
  /-- A change of the map waits to be written to flash, since when (17 R429). Reset: none. -/
  mapPend   : Option Nat
  /-- Migrations in order of detection; the first of each kind runs (17 R418). Reset: none. -/
  migs      : List Migration
  /-- Incidents held (17 R433). Reset: none. -/
  incidents : List Incident
  /-- ISEQ of the newest incident (17 R433). Reset: 0. -/
  iseq      : Word
  /-- The active pair: 0 CC0/CC1, 1 CC2/CC3 (17 R436). Reset: 0. -/
  active    : Nat
  /-- A standby pair exists (17 R425). Reset: yes. -/
  standby   : Bool
  /-- The pair that failed or was withdrawn, while the other serves in its place (17 R415, R425). Reset: none. -/
  withdrawn : Option Nat
  /-- Engines (kind 1) and slices (kinds 2, 3) that a commanded migration released, in their self-test (17 R426).
  Reset: none. -/
  released  : List (Nat × Nat)
  /-- A switchover is due: its pair has a fault or was commanded (17 R424). Reset: none. -/
  switch    : Option Nat
  /-- The journal of configuration changes (17 R424). Reset: empty. -/
  journal   : List JournalRec
  /-- The self-test that runs: its mask and the sender and sequence to answer (17 R427). Reset: none. -/
  selftest  : Option (Nat × Option (Origin × Half))
  /-- Time of the last periodic self-test (17 R427). Reset: 0. -/
  bistAt    : Nat
  deriving DecidableEq, Repr

/-! Boot (19). -/

/-- Phases of BOOT_STATUS (19 R482). -/
inductive Phase where
  | hardware | loading | bringup | ready | hold
  deriving DecidableEq, Repr

/-- Power-up, boot and flash (19). -/
structure Boot where
  /-- BOOT_STATUS.PHASE (19 R482). Reset: HARDWARE. -/
  phase    : Phase
  /-- Thrumi serves the ingress queues (20 R492). Reset: no. -/
  firmware : Bool
  /-- The responder serves MSPI (02 R61, 20 R492). Reset: yes. -/
  responder : Bool
  /-- PORST_L is held low (19 R464). Reset: released. -/
  held     : Bool
  /-- Time at which READY was reached (19 R475). Reset: 0. -/
  readyAt  : Nat
  /-- The slot that was booted, and the slot FW_ACTIVATE loads with the packet to answer
  (19 R469). Reset: 0, none. -/
  slot     : Nat
  activate : Option (Nat × Origin × Half)
  /-- The boot flash (19 R466). Reset: nothing listed. -/
  flash    : List (Nat × Byte)
  /-- The first automatic calibration run since power-up is still to come (19 R475). Reset: no. -/
  firstCal : Bool
  deriving DecidableEq, Repr

/-! Control loops (05). -/

/-- The histories of a biquad stage: x[n-1], x[n-2], y[n-1], y[n-2] in Q15 (05 R120, R139). -/
structure StageHist where
  x1 : Int
  x2 : Int
  y1 : Int
  y2 : Int
  deriving DecidableEq, Repr

/-- A control loop (05 R115 to R130). -/
structure ControlLoop where
  /-- Mode in force: 0 off, 1 open loop, 2 closed loop. -/
  mode     : Nat
  inSel    : Byte
  outSel   : Byte
  /-- Written set-point w, limited set-point r, rate v and integrator I, Q31. -/
  w        : Int
  r        : Int
  v        : Int
  integ    : Int
  hist     : List StageHist
  /-- m_f[n-1], the latest output u and the previous u and v (05 R139). -/
  mf       : Int
  u        : Int
  uPrev    : Int
  vPrev    : Int
  /-- The active and shadow banks of 112 bytes and their validity (05 R125). -/
  active   : List Byte
  shadow   : List Byte
  actValid : Bool
  shdValid : Bool
  /-- Changes that wait for the sample boundary (05 R129). -/
  pendSwap : Bool
  pendMode : Option Nat
  pendW    : Option Int
  /-- The mode from which the loop has just come, for its first sample; none otherwise (05 R128). -/
  entered  : Option Nat
  /-- The sample that comes is the first after a swap (05 R127). -/
  swapped  : Bool
  /-- Next sample instant in units of 0.2 ns (05 R115). -/
  nextAt   : Nat
  /-- Encoder values of the previous sample: position, stamp in fine LSB, and speed as counts in a
  number of fine LSB (05 R133). -/
  encP     : Int
  encT     : Nat
  encVn    : Int
  encVd    : Nat
  deriving DecidableEq, Repr

/-- A counted encoder edge: input B or A, stamp in fine LSB, position after it and the change. -/
structure EncEdge where
  chanB : Bool
  time  : Nat
  pos   : Word
  delta : Int
  deriving DecidableEq, Repr

/-- A stamped edge of an encoder that the filter still holds (05 R131, R132): its input, B or A, none for the index; the level
after it; its stamp in fine LSB and its tick. -/
structure EncItem where
  chanB  : Option Bool
  rising : Bool
  time   : Nat
  tick   : Nat
  deriving DecidableEq, Repr

/-- An encoder (05 R131 to R134); position, index latch and errors are registers. -/
structure Encoder where
  /-- Levels of A, B behind the filter. -/
  levelA : Bool
  levelB : Bool
  /-- Newest edges first, at most 16. -/
  edges  : List EncEdge
  /-- INDEX_MODE 1 waits for the first index. -/
  armed  : Bool
  /-- The edges of A, B and the index that wait for the filter, in the order in which they apply. -/
  held   : List EncItem
  deriving DecidableEq, Repr

/-- The control loop engine (05). -/
structure LoopUnit where
  /-- LP0 to LP15 (05 R115). Reset: mode 0, banks invalid, default I/O of R138's table. -/
  loops   : List ControlLoop
  /-- The duty in force and the newest duty of PWM0 to PWM15, in cycles; the output is in its safe
  state while none (05 R136, R137). Reset: safe state. -/
  pwm     : List (Option Nat × Option Nat)
  /-- When PWM0 to PWM15 are high in their present period, as spans of 5 ns cycles from its start; none in the safe
  state (05 R136, R137). Reset: safe state. -/
  pwmHigh : List (Option (List (Nat × Nat)))
  /-- The level that PWM0 to PWM15 had without dead time at the end of the period before, and the cycles since it began;
  none after the safe state (05 R136). Reset: none. -/
  pwmPast : List (Option (Bool × Nat))
  /-- The code of DAC0 to DAC5 (05 R135, R137). Reset: the safe code 0x8000. -/
  dac     : List Half
  /-- The SPI slots whose value waits for its frame, in order of readiness, with the code (05 R138).
  Reset: none. -/
  spi     : List (Nat × Half)
  /-- The slot and the 24 bits of the latest frame on SPIM_MOSI (05 R138). Reset: none. -/
  spiSent : Option (Nat × Word)
  /-- ENC0 and ENC1 (05 R131). Reset: levels low, no edge. -/
  enc     : List Encoder
  /-- CLE PLL lost (05 R140). Reset: no. -/
  pllLost : Bool
  /-- When the evaluation in progress ends, in units of 0.2 ns (05 R115, R117). Reset: 0. -/
  evalUntil : Nat
  /-- Shots stamped whose angle waits for the edges that the filter holds: number, encoder, t_fire and the tick of the
  stamping (05 R134). Reset: none. -/
  angles  : List (Long × Nat × Int × Nat)
  deriving DecidableEq, Repr

/-! Receiver (06). -/

/-- A stamp in a lane buffer or an XC01 queue (06 R152), with its coarse count unwrapped. -/
structure HitStamp where
  rising : Bool
  upper  : Bool
  blind  : Bool
  spare  : Bool
  /-- The TDC that made it, whose tables convert it (06 R165). -/
  tdc    : Nat
  tick   : Nat
  tap    : Nat
  res    : Nat
  deriving DecidableEq, Repr

/-- A published version of a lane's live table (06 R154, R155). -/
structure LiveTable where
  w         : List Nat
  /-- g in Q4.12. -/
  g         : Nat
  state     : Nat
  version   : Word
  effective : Nat
  updates   : Nat
  deriving DecidableEq, Repr

/-- A capture lane of a TDC (06 R149, R150, R159, R161). -/
structure Lane where
  /-- Stamps not yet merged, at most 4. -/
  buffer     : List HitStamp
  /-- The stamp value at which the blind time ends, and whether its cause is an injection. -/
  blindUntil : Nat
  injected   : Bool
  /-- Level that the last stamped edge produced, and the comparator's level. -/
  stamped    : Bool
  level      : Bool
  /-- An edge was lost in the blind time before the next stamp. -/
  lost       : Bool
  /-- Published versions, newest first. -/
  versions   : List LiveTable
  /-- 0 UNCAL, 1 CONVERGING, 2 CONVERGED, 3 HOLD, and the state before HOLD. -/
  state      : Nat
  before     : Nat
  /-- The accumulators n and m by tap, their total, and the stamps with RES_OVR. -/
  n          : List Nat
  m          : List Nat
  total      : Nat
  ovr        : Nat
  /-- a_j in 2^-16 units of w; empty until the lane leaves UNCAL. -/
  a          : List Nat
  g          : Nat
  updates    : Nat
  version    : Word
  /-- Time of the last update. -/
  updated    : Option Nat
  fault      : Bool
  deriving DecidableEq, Repr

/-- A TDC (06 R149 to R152, 01 R28). -/
structure Tdc where
  lower     : Lane
  upper     : Lane
  /-- XC01 queue, oldest first, at most 64 stamps. -/
  queue     : List HitStamp
  /-- The next stamp carries BLIND after a changeover (06 R165). -/
  markBlind : Bool
  /-- First tick at which the lanes can merge a stamp into the queue (06 R150). -/
  mergeAt   : Nat
  deriving DecidableEq, Repr

/-- A hit channel (06 R144, R148, R164). -/
structure Chan where
  tdc      : Nat
  /-- 0 nominal, 1 to 4 the spare m = 0 to 3. -/
  route    : Nat
  /-- Threshold codes that the DACs hold, and the trims applied. -/
  lower    : Nat
  upper    : Nat
  trimL    : Int
  trimU    : Int
  /-- The codes driven to the two DACs: code and trim together (06 R144). -/
  dacL     : Nat
  dacU     : Nat
  /-- The latest changeover tick T_sw, and the TDC that the channel's stamps below it are taken from (06 R165). -/
  swap     : Option (Nat × Nat)
  /-- A threshold or trim change is pending: its commitment time, and the number of the first shot
  committed after it. -/
  pending  : Option (Nat × Long)
  /-- Last instant t_u, in 25 ps units (06 R148). -/
  applied  : Option Nat
  /-- Ticks of stamps lost to a full queue, newest first (01 R30). -/
  losses   : List Nat
  /-- Spans in which the channel was blind or took an injection, in 25 ps units, newest first (06 R158). -/
  blinds   : List (Nat × Nat)
  deriving DecidableEq, Repr

/-- A frequency measurement (06 R172, R173). -/
structure FreqUnit where
  owner    : Origin
  sequence : Half
  /-- Gate time in ticks, and its first stamp in fine LSB. -/
  gate     : Nat
  first    : Option Nat
  lastT    : Nat
  n        : Nat
  st       : Nat
  sit      : Nat
  blind    : Bool
  rate     : Bool
  warm     : Bool
  deriving DecidableEq, Repr

/-- The receiver (06). -/
structure Receiver where
  /-- TDC0 to TDC566 (06 R174). Reset: lanes UNCAL, queues empty. -/
  tdcs    : List Tdc
  /-- HC0 to HC511 (06 R144, R164). Reset: nominal route, the thresholds' reset codes, no trim. -/
  chans   : List Chan
  /-- The spare that stands in for auxiliary TDC 544 + i, if any (17 R419). Reset: none. -/
  auxSpare : List (Option Nat)
  /-- The latest changeover of auxiliary input i: its tick T_sw, and the TDC that takes the stamps below it (06 R165).
  Reset: none. -/
  auxSwap : List (Option (Nat × Nat))
  /-- Frequency measurements by event input (06 R172). Reset: none. -/
  freq    : List (Option FreqUnit)
  deriving DecidableEq, Repr

/-! Histogram engines (07). -/

/-- A released hit: its local channel, its L-rising stamp, and the U-rising and L-falling stamps paired
with it (06 R167, R168). -/
structure Hit where
  chan  : Nat
  l     : HitStamp
  u     : Option HitStamp
  d     : Option HitStamp
  deriving DecidableEq, Repr

/-- A pairing whose burst test is undecided (03 R82). -/
structure BurstWait where
  hit    : Hit
  shot   : Long
  /-- Tick that the watermark must pass. -/
  until_ : Nat
  deriving DecidableEq, Repr

/-- A shot on an engine (03 R80, 07 R191). -/
structure EngShot where
  shot    : Shot
  /-- Its Pass has opened; it did so with a free place (03 R80). -/
  opened  : Bool
  slotOvf : Bool
  closed  : Bool
  /-- The slot of the SHOTS ring that holds its descriptor. -/
  ring    : Nat
  /-- Index of its group on the engine (07 R186), and its profile slot (07 R191). -/
  group   : Nat
  slot    : Nat
  /-- Pairings, the KEPT entries of the hits kept, and the condition flags of each local channel. -/
  pairs   : List Nat
  kept    : List (List Nat)
  cond    : List Word
  deriving DecidableEq, Repr

/-- A group on an engine: its collection, then its group record (07 R184, R190). -/
structure GroupCtx where
  index    : Nat
  first    : Shot
  slot     : Nat
  shots    : Nat
  /-- Its collection has begun: the Pass of a first shot has opened. -/
  begun    : Bool
  /-- The group's last shot has been committed. -/
  ended    : Bool
  outside  : List Nat
  exposure : List Nat
  inside   : List Nat
  pairs    : List Nat
  /-- SAT mask. -/
  sat      : Nat
  /-- Conditions of its shots, and of its hits by channel. -/
  cond     : Word
  chCond   : List Word
  warm     : Bool
  /-- Dithers and fire times of its shots, for the ghost pedestal and L-bar. -/
  members  : List Shot
  /-- DET_ABORT of the previous run on this image. -/
  abort    : Bool
  /-- A word of its bank was lost: no run follows its collection (17 R423). -/
  lost     : Bool
  deriving DecidableEq, Repr

/-- Kinds of sequencer events (07 R189). -/
inductive EvKind where
  | init | group | shot | timer
  deriving DecidableEq, Repr

/-- A queued event (07 R189, R190). -/
structure EngEvent where
  kind  : EvKind
  tick  : Nat
  shot  : Option EngShot
  group : Option GroupCtx
  deriving DecidableEq, Repr

/-- A LOOP in progress: counter slot, first word, end word, iterations left and done (07 R194). -/
structure LoopFrame where
  slot  : Nat
  body  : Nat
  stop  : Nat
  left  : Nat
  done  : Nat
  deriving DecidableEq, Repr

/-- A run in progress (07 R189 to R195). -/
structure EngRun where
  event   : EngEvent
  /-- The program and DATA half that the run uses. -/
  half    : Nat
  cur     : Nat
  /-- Bits that FLAG has ORed. -/
  flag    : Word
  /-- Run-scoped conditions by channel (08 R220). -/
  cond    : List Word
  /-- Latest PLAIN result by channel (10 R257). -/
  plain   : List Int
  /-- Entries in the peak list of each channel (R196), and whether STLOAD built it (08 R215). -/
  peaks   : List Nat
  stlist  : List Bool
  cycles  : Nat
  /-- A WAIT in progress: the kind, its end tick in cycles of time, the slot and its watermark. -/
  waiting : Option (Nat × Nat × Nat × Nat)
  /-- A record primitive waits for room in RECQ (07 R195). -/
  stalled : Bool
  /-- The records of that primitive that have not entered RECQ. -/
  held    : List Rec
  /-- Records that the run has queued in RECQ. -/
  queued  : Nat
  /-- Since when it waits for room. -/
  stallAt : Nat
  /-- The model's own: what the free values of the run's context are drawn by. -/
  seed    : Nat
  started : Nat
  deriving DecidableEq, Repr

/-- The header of a committed image half (07 R197). -/
structure ImgHeader where
  words     : Nat
  dataLen   : Nat
  maxPeaks  : Nat
  entryInit : Nat
  entryGroup : Nat
  entryShot : Nat
  entryTimer : Nat
  timerUs   : Nat
  crc       : Word
  /-- First shot number to which the image applies (07 R199). -/
  fromShot  : Long
  /-- A run has used it (07 R199). -/
  started   : Bool
  /-- It has not become active: no shot has been committed since its commit (07 R199). -/
  waits     : Bool
  deriving DecidableEq, Repr

/-- A sequencer's state (07 R205). -/
inductive EngState where
  | halted | idle | busy | failed
  deriving DecidableEq, Repr

/-- A histogram engine (07). -/
structure Engine where
  st       : EngState
  /-- ENG_CONTROL halt waits for the end of the run (07 R200). -/
  halting  : Bool
  /-- Program memory, data memory and banks by window offset (07 R180). -/
  mem      : List (Nat × Byte)
  /-- V0 to V15. -/
  v        : List Int
  pc       : Nat
  loops    : List LoopFrame
  events   : List EngEvent
  run      : Option EngRun
  /-- The active half and the headers of both halves (07 R199). -/
  half     : Nat
  headers  : List (Option ImgHeader)
  /-- The profile slots 0 to 7: table ID and store offset of the version held (07 R192). -/
  profiles : List (Option (Half × Nat))
  imgGen   : Word
  /-- The standby half still serves earlier groups. -/
  standbyBusy : Bool
  /-- Shots pending or in flight, in commit order (03 R80). -/
  shots    : List EngShot
  /-- Next slot of the SHOTS ring and of KEPT. -/
  ring     : Nat
  keptAt   : Nat
  /-- Collecting groups, oldest first, and the group index that comes next (07 R186). -/
  groups   : List GroupCtx
  nextGroup : Nat
  /-- Group records of the closed images 0 and 1. -/
  closed   : List (Option GroupCtx)
  /-- OUTSIDE counts for the next group to open (07 R184), and the end of the last interval in 25 ps units. -/
  early    : List Nat
  attrFrom : Nat
  /-- Pairings whose burst test is undecided; the pairing queue's use (07 R182, 03 R82). -/
  bursts   : List BurstWait
  /-- Pairings of a group whose bank an earlier group still holds: group, channel and bin (07 R187). -/
  heldPairs : List (Nat × Nat × Nat)
  /-- The shots delivered whose Passes reach into the attribution interval, newest first (07 R184). -/
  passes   : List Shot
  /-- Descriptors, with the store offset of their profile, that a failed engine does not take (01 R25; 17 R422): the last
  4,096, which the SEQ keeps. -/
  xc02     : List (Shot × Nat)
  /-- Thrumi's copies of the committed images, by half: program and DATA (17 R422). -/
  copies   : List (List Byte × List Byte)
  /-- The engine was halted when it failed (17 R422). -/
  wasHalted : Bool
  /-- Released hits of which a burst test may still have need, newest first (03 R82). -/
  recent   : List Hit
  /-- RECQ, oldest first (07 R179). -/
  recq     : List Rec
  /-- Entries of its oldest record that have drained, and the time at which the next entry drains (07
  R195). -/
  drained  : Nat
  drainAt  : Nat
  /-- Requested cross-stamps: SCRATCH offset and time of the request (07 R194, R195). -/
  xstamps  : List (Nat × Nat)
  timerAt  : Nat
  heartbeat : Nat
  deriving DecidableEq, Repr

/-! Waveform digitiser (09). -/

/-- A converter slice (09 R223, R251). -/
structure Slice where
  pos   : Option Nat
  /-- 0 in service, 1 calibrating, 2 shadowing, 3 spare, 4 failed. -/
  state : Nat
  offset : Int
  gain   : Int
  skew   : Int
  /-- The trims of a newer applied set wait for its next period out of service (14 R363). Reset: no. -/
  fresh  : Bool
  /-- Fine time of the first sample that it converted as a failed slice (17 R417). Reset: 0. -/
  since  : Int
  deriving DecidableEq, Repr

/-- A run of marked samples of a lane: sideband bit, time of the first in fine LSB, time after the
last, and whether they are invalid (09 R226, R228, R229, R246). -/
structure LaneMark where
  bit     : Nat
  start   : Int
  stop    : Int
  invalid : Bool
  /-- Only the samples of one position are marked (17 R417). -/
  pos     : Option Nat
  /-- For a gain change the range before it, and for a filter change the taps before it. -/
  was     : Nat
  wasTaps : List Int
  /-- No trigger sample lies in it: the gain change of a capture boundary (09 R228). -/
  quiet   : Bool
  deriving DecidableEq, Repr

/-- The active filter of a lane (09 R229); the shadow taps and controls are registers. -/
structure LaneFilter where
  enabled : Bool
  /-- The 32 taps of the buffer, and how many of them the filter has. -/
  taps    : List Int
  count   : Nat
  deriving DecidableEq, Repr

/-- States of a capture unit (09 R235). -/
inductive CapState where
  | idle | armed | post | rearm | held
  deriving DecidableEq, Repr

/-- A capture unit (09 R234 to R247); its configuration is in registers. -/
structure CapUnit where
  st       : CapState
  /-- Time of the first lane sample recorded since ARMED, in fine LSB. -/
  armedAt  : Int
  /-- The arming shot; none when armed by command or re-armed. -/
  armShot  : Option Shot
  /-- Candidate triggers: source bit and time in fine LSB. -/
  cands    : List (Nat × Int)
  /-- Trigger sample's index from armedAt, the trigger time, and the source bitmask. -/
  trigIdx  : Nat
  trigTime : Int
  srcMask  : Nat
  /-- Averaging: intervals summed, the sums, the marks, the smallest pre-trigger count, whether any
  interval was short, and the first interval's trigger sample time, trigger time, mask and shot. -/
  avgCount : Nat
  sums     : List Nat
  /-- Marks of each summed sample: bit 0 invalid, and the sideband bits 21 to 25 of the sample. -/
  avgMarks : List Nat
  avgPre   : Nat
  avgShort : Bool
  avgFirst : Option (Int × Int × Nat × Option Shot)
  /-- An averaging sequence is under way: from its first trigger sample to its capture, restarts included; and the
  interval in POST is not summed, because the sequence was restarted in it (09 R244). -/
  seq      : Bool
  void     : Bool
  /-- A sample at or below THRESH.LEVEL - HYST, and one at or above LEVEL + HYST, since ARMED and since
  the previous crossing (09 R240), at the trigger sample, and from the capture's end on at the last sample seen. -/
  lowSeen  : Bool
  highSeen : Bool
  /-- That last sample, with whether it was invalid, and the index of the lane's sample after it (09 R242). -/
  lastSeen : Option (Nat × Bool)
  seenTo   : Int
  /-- Where the next capture goes in the area's ring (09 R238). -/
  wr       : Nat
  /-- The sequence was restarted (09 R244). -/
  restarted : Bool
  /-- A disarm waits for the capture's end. -/
  disarm   : Bool
  /-- Time until which REARM holds off under throttling (09 R238). -/
  holdTo   : Nat
  /-- Missed triggers since the last completed capture, saturating (09 R242). -/
  missed   : Nat
  /-- Where the latest captures stand in the area (09 R238): the count that WFD_CAP_COUNT then showed, the start in the area and
  the size; newest first, at most 64. -/
  placed   : List (Nat × Nat × Nat)
  deriving DecidableEq, Repr

/-- The waveform digitiser (09). -/
structure Wave where
  /-- WS0 to WS16 (09 R223). Reset: WSj holds position j, WS16 is the spare, trims 0. -/
  slices   : List Slice
  /-- Allocation mode and the input of each lane in force (09 R225). Reset: 4, all 0xFF. -/
  mode     : Nat
  laneIn   : List Byte
  /-- The accepted allocations not yet in effect, and the slice-clock edges in fine LSB at which they come into effect (09
  R226). Reset: none. -/
  alloc    : List (Nat × List Byte × Nat)
  /-- Gain range of each input (09 R228, R249). Reset: 0. -/
  gain     : List Nat
  /-- D_in of each input in force, in fine LSB, and the inputs at whose next capture boundary the applied
  set comes into force (14 R363). Reset: 0, none. -/
  din      : List Int
  dinPend  : List Nat
  /-- A timing-0 change that waits: input, range and its acceptance time (09 R228). Reset: none. -/
  gainPend : Option (Nat × Nat × Nat)
  /-- The active filters of lanes 0 to 15 (09 R229, R251). Reset: disabled, 1 tap. -/
  filters  : List LaneFilter
  /-- Marks of each lane, newest first (09 R246). Reset: none. -/
  marks    : List (List LaneMark)
  /-- Capture units 0 to 15 (09 R235). Reset: IDLE. -/
  units    : List CapUnit
  /-- Next position of the rotation, the time at which the last step started and its shadowing began, whether the shadow
  failed once (09 R230, R231). Reset: 0, 0, 0, no. -/
  rotPos   : Nat
  rotAt    : Nat
  shadowAt : Nat
  retried  : Bool
  /-- A slice in service failed: rotation has stopped for good (09 R232). Reset: no. -/
  rotDead  : Bool
  deriving DecidableEq, Repr

/-! Time bases (12). -/

/-- A correction of a PTP base that waits for its MAC edge (12 R306). -/
structure PtpCorr where
  /-- A step, else a new increment. -/
  isStep : Bool
  value  : Int
  /-- Acceptance time in ticks. -/
  at_    : Nat
  deriving DecidableEq, Repr

/-- A PTP time base (12 R304 to R308). -/
structure PtpBase where
  /-- 32.32 value at the latest MAC edge, and INCR. -/
  value   : Nat
  incr    : Nat
  /-- Time of the latest MAC edge in fifths of a tick. -/
  edge    : Nat
  /-- What the base was before each of its latest corrections and stops, newest first: the MAC edge, value and INCR at
  it, and whether the base counted (12 R306, R308). -/
  past    : List (Nat × Nat × Nat × Bool)
  /-- The tick of the latest correction's edge, until TIM_PTP_CORR holds it (12 R306). -/
  done    : Option Nat
  /-- Stopped, or not re-stepped since its clock returned. -/
  stopped : Bool
  /-- The base counts: ETH_REFCLK is present and TB_SHOT has started. -/
  counting : Bool
  corrs   : List PtpCorr
  deriving DecidableEq, Repr

/-- A frame queued by LAUNCH_AT (12 R316). -/
structure LaunchReq where
  base     : Nat
  time     : Nat
  frame    : List Byte
  sequence : Half
  deriving DecidableEq, Repr

/-- The time bases and the reference (12). -/
structure TimeUnit where
  /-- TB_SHOT as a count of ticks that does not wrap; the base is its low 48 bits (12 R296).
  Reset: 0. -/
  shot    : Nat
  /-- TB_SHOT has started (19 R472). Reset: no. -/
  running : Bool
  /-- TB_SYS in fifths of a ns, four per tick (12 R296). Reset: 0. -/
  sys5    : Nat
  /-- TB_SAFE in twenty-fifths of 10 ns, two per tick (12 R296). Reset: 0. -/
  safe25  : Nat
  /-- TB_PTP0 to TB_PTP3 (12 R304). Reset: value 0, INCR_NOM, not stopped. -/
  ptp     : List PtpBase
  /-- Wraps of a PTP base whose EVENT is to be sent: base, forward, edge in fine LSB (12 R307).
  Reset: none. -/
  ptpWraps : List (Nat × Bool × Nat)
  /-- The reference warm-up flag (12 R302), and the ticks at which it has cleared, newest first, at most 256 (06 R172,
  10 R254). Reset: clear, none. -/
  warm    : Bool
  warmLost : List Nat
  /-- Consecutive gates passed, time of the last gate's end, y of the previous gate, and whether the
  last gate passed (12 R301, R302). Reset: 0, 0, none, no. -/
  gates   : Nat
  gateAt  : Nat
  prevY   : Option Int
  gateOk  : Bool
  /-- Level of OCXO_WARM, since when, the level that counts, and since when it does (12 R300, R302). Reset: low, 0, none,
  0. -/
  pin     : Bool
  pinAt   : Nat
  pinLevel : Option Bool
  pinOkAt : Nat
  /-- The timing PLL runs from REFIN, and since when (12 R302, R319). Reset: from XSYS. -/
  onRef   : Bool
  refAt   : Nat
  /-- REFIN and XSYS are present (01 R33). Reset: yes. -/
  refin   : Bool
  xsys    : Bool
  /-- The other clocks that are lost (01 R33). Reset: none. -/
  lost    : List Clock
  /-- Frequency code in force and the one that a REF_SELECT waits for (12 R299). Reset: 0, none. -/
  refCode : Nat
  refNew  : Option Nat
  /-- A pending command cross-stamp: source, owner, sequence, since (12 R315). Reset: none. -/
  xsPend  : Option (Nat × Origin × Half × Nat)
  /-- The time in fine LSB of the first event that the pending cross-stamp has seen (12 R313). Reset: none. -/
  xsHit   : Option Int
  /-- The last command cross-stamp image and XSEQ (12 R314). Reset: zero, 0. -/
  xsImage : List Byte
  xseq    : Word
  /-- The PTP logs: port, index and entry (12 R311). Reset: none. -/
  logs    : List (Nat × Nat × List Byte)
  /-- Launches queued by port, oldest first (12 R316). Reset: none. -/
  launches : List (List LaunchReq)
  /-- Partners latched by a read of a _LO or _NS register (12 R318). Reset: none. -/
  latches : List (Nat × Word)
  deriving DecidableEq, Repr

/-! Housekeeping (13). -/

/-- A sequence step (13 R326). -/
structure HkStep where
  code   : Nat
  avg    : Nat
  settle : Nat
  deriving DecidableEq, Repr

/-- A step in progress (13 R325, R327, R337): its start, whether it is injected, the configuration of its
input at its start, the low bits of HKA_CYCLES then, the steps of its run that had not started, and whether its make has
come: its input is connected and its excitation on. -/
structure HkRun where
  step     : HkStep
  start    : Nat
  injected : Bool
  cfg      : Nat
  cycle    : Nat
  left     : Nat
  made     : Bool
  deriving DecidableEq, Repr

/-- A conversion path: its slice, its step in progress, since when it is free (13 R321, R337), the slice that takes it at
its next boundary between two steps (13 R340), whether the trims of the applied set then come into force, and the reference
trim and diode offset in force (14 R358, R363). -/
structure HkPath where
  slice : Option Nat
  step  : Option HkRun
  free  : Nat
  next  : Option Nat
  fresh : Bool
  common : List Byte
  deriving DecidableEq, Repr

/-- The newest result and the held value of a channel (13 R329, R345). -/
structure HkResult where
  valid : Bool
  open_ : Bool
  short : Bool
  stale : Bool
  range : Bool
  clip  : Bool
  nocal : Bool
  inj   : Bool
  cycle : Nat
  value : Int
  /-- Time of publication. -/
  at_   : Nat
  held  : Option Int
  /-- Consecutive good steps while OPEN. -/
  good  : Nat
  /-- The first OPEN and the first SHORT have been recorded. -/
  seenOpen  : Bool
  seenShort : Bool
  current : Nat
  code  : Int
  deriving DecidableEq, Repr

/-- The housekeeping converter (13). -/
structure House where
  /-- P0 and P1 (13 R321). Reset: HS0, HS1; idle. -/
  paths    : List HkPath
  /-- The regular and the injected sequence, and those that wait (13 R336, R338). Reset: internal
  channels 0 to 13; empty; none. -/
  regular  : List HkStep
  injected : List HkStep
  newReg   : Option (List HkStep)
  newInj   : Option (List HkStep)
  /-- A regular cycle is in progress, and its steps not yet started (13 R337). Reset: no. -/
  inCycle  : Bool
  todo     : List HkStep
  /-- Next cycle's due time (13 R338). Reset: 0. -/
  cycleAt  : Nat
  /-- An injected run is in progress, and its steps not yet started (13 R339). Reset: no. -/
  injRun   : Bool
  injTodo  : List HkStep
  /-- A GO waits for the converter (13 R344). Reset: no. -/
  goPend   : Bool
  /-- Results by step code 0x00 to 0x2D (13 R345). Reset: not valid. -/
  results  : List HkResult
  /-- Excitation sources: ON, OPEN, SHORT and current (13 R342). Reset: off. -/
  iex      : List (Bool × Bool × Bool × Nat)
  /-- Spare slice, next path of the rotation, time of the last rotation step, whether the shadow
  failed once, whether rotation stopped for good (13 R340). Reset: HS2, P0, 0, no, no. -/
  spare    : Option Nat
  rotPath  : Nat
  rotAt    : Nat
  retried  : Bool
  rotDead  : Bool
  /-- The part of the rotation step (13 R340): 0 none begun, 1 calibrating, 2 shadowing, 3 switching; and the conversions of
  the path since shadowing began. Reset: 0, 0. -/
  rotStage : Nat
  shadowed : Nat
  /-- Offset and gain trims of HS0 to HS2 at each gain, 16 bytes a slice (13 R340, 14 R362). Reset: zero
  (DESIGN CHOICE). -/
  trims    : List (List Byte)
  /-- HKA PLL lost (13 R343). Reset: no. -/
  pllLost  : Bool
  deriving DecidableEq, Repr

/-! Thermal management and calibration (14). -/

/-- A temperature sensor (14 R346, R349). -/
structure Sensor where
  reading : Option Int
  failed  : Bool
  deriving DecidableEq, Repr

/-- A version of the applied calibration set (14 R362, R363). -/
structure Applied where
  version : Nat
  /-- Effective tick E, unwrapped. -/
  effect  : Nat
  bytes   : List Byte
  deriving DecidableEq, Repr

/-- A calibration run (14 R364, R365). -/
structure CalRun where
  mask    : Nat
  started : Nat
  tRun    : Int
  /-- The session and sequence to answer; none for an automatic run. -/
  owner   : Option (Origin × Half)
  /-- It is the first run of 19 R475. -/
  first   : Bool
  /-- The outcome that is certain already: 3 drift, 5 aborted; else 0. -/
  cause   : Nat
  /-- Since when every lane has been CONVERGED (14 R365). -/
  tapAt   : Option Nat
  deriving DecidableEq, Repr

/-- Thermal management and calibration (14). -/
structure Thermal where
  /-- TS0 to TS23 (14 R346). Reset: no reading, sound. -/
  sensors  : List Sensor
  /-- Zone temperatures in 1/32 degree (14 R347). Reset: 0. -/
  zones    : List Int
  /-- Warn, throttle and shutdown level of each zone (14 R351). Reset: not entered. -/
  warn     : List Bool
  throt    : List Bool
  shut     : List Bool
  /-- Throttle step in force and the time of its last change (14 R354). Reset: 0, 0. -/
  step     : Nat
  stepAt   : Nat
  /-- Thermal shutdown in force (14 R355). Reset: no. -/
  shutdown : Bool
  /-- At the last reading every zone lay below its throttle threshold less H (14 R351, R354). Reset: no. -/
  cool     : Bool
  /-- T_die, T_i and T_last in 1/32 degree (14 R348, R362, R364). Reset: 0. -/
  tDie     : Int
  tApply   : Int
  tLast    : Int
  /-- The times and values of T_die over the last minute, newest first (19 R475). Reset: none. -/
  tHist    : List (Nat × Int)
  /-- Every sensor has failed (14 R348). Reset: no. -/
  tdieStale : Bool
  /-- Stored sets 0 to 7; none when empty (14 R359, R361). Reset: empty. -/
  stored   : List (Option (List Byte))
  /-- Stored sets whose change is not yet in flash, since when (14 R361). Reset: none. -/
  writeback : List (Nat × Nat)
  /-- The staging set, sparse (14 R359). Reset: nothing listed. -/
  staging  : List (Nat × Byte)
  /-- Versions of the applied set, newest first (14 R363). Reset: none. -/
  applied  : List Applied
  extrap   : Bool
  factory  : Bool
  /-- A build is due (14 R363). Reset: no. -/
  buildDue : Bool
  /-- The run in progress (14 R364). Reset: none. -/
  run      : Option CalRun
  /-- Since when a failed automatic run waits for its retry (14 R366). Reset: none. -/
  retryAt  : Option Nat
  /-- A last successful run exists. Reset: no. -/
  haveLast : Bool
  deriving DecidableEq, Repr

/-! Memory (15). -/

/-- A DDR5 channel (15 R373 to R385). -/
structure DramChan where
  up      : Bool
  failed  : Bool
  /-- It is paused, since a tick of TB_SHOT (15 R377, R378, R381). -/
  paused  : Bool
  pauseAt : Nat
  /-- The row that the pause repairs; none: the pause retrains the channel. -/
  repairs : Option Nat
  /-- Candidate set in force. -/
  set_    : Nat
  /-- Spare rows left in the reserved megabyte. -/
  spares  : Nat
  /-- Zone 6 temperature at the last retraining, in 1/32 degree. -/
  temp    : Int
  /-- Retraining has been asked for. -/
  retrain : Bool
  deriving DecidableEq, Repr

/-- On-chip SRAM and DDR5 (15). -/
structure MemUnit where
  /-- DDR5 by offset in window 0x02 (15 R375). Reset: nothing listed. -/
  dram     : List (Nat × Byte)
  /-- Bursts of DDR5 (offset / 64) that are poisoned (15 R381, R382). Reset: none. -/
  poison   : List Nat
  /-- Capacity of a channel in GB (15 R373, 19 R470). Reset: 0, none fitted. -/
  capGB    : Nat
  /-- DDR5 speed: 0 DDR5-6400, 1 DDR5-5600, 2 DDR5-4800 (15 R373, 19 R470). Reset: 0, none fitted. -/
  speed    : Nat
  /-- Ranks, density code and width code of the devices (15 R373, 19 R470). Reset: 0. -/
  ranks    : Nat
  density  : Nat
  width    : Nat
  /-- Spare rows and columns of the SRAM macros in use: kind 5 or 6, the row or column mapped out and its spare, as the repair
  map codes them (15 R372; 17 R428). Reset: none. -/
  remap    : List (Nat × Nat × Nat)
  /-- MEM0 and MEM1 (15 R385). Reset: down. -/
  chans    : List DramChan
  /-- Single-channel mode, and the surviving channel (15 R383). Reset: no. -/
  fallback : Option Nat
  /-- Candidate delay sets by channel, 192 bytes each, in order of preference (15 R376).
  Reset: none. -/
  cands    : List (List (List Byte))
  /-- The host scratch region (15 R370). Reset: nothing listed. -/
  host     : List (Nat × Byte)
  /-- Tables marked corrupt: kind and ID (15 R371). Reset: none. -/
  corrupt  : List (Byte × Half)
  /-- Corrected errors of the last 24 h: SRAM macro, row and time (15 R372). Reset: none. -/
  sramCe   : List (Nat × Nat × Nat)
  /-- Corrected bursts of the last 24 h: channel, row and time (15 R381). Reset: none. -/
  dramCe   : List (Nat × Nat × Nat)
  /-- Corrected bursts of the last second: channel and time (15 R377). Reset: none. -/
  ceSecond : List (Nat × Nat)
  /-- Times of the last SRAM and DRAM scrubber passes (15 R371, R384). Reset: 0. -/
  sramAt   : Nat
  dramAt   : Nat
  /-- The pauses of DDR5 that are over, from and to a tick of TB_SHOT, newest first (15 R378). Reset: none. -/
  pauses   : List (Nat × Nat)
  deriving DecidableEq, Repr

/-! Safety island (16). -/

/-- States of the island (16 R413). -/
inductive IslandState where
  | off | unconfigured | guardTest | run | fault
  deriving DecidableEq, Repr

/-- An entry of the fabric-to-island mailbox: the port and a telegram's 64 bytes, or a parameter
block copy with its sender and sequence (16 R403, R407). -/
inductive MailIn where
  | telegram (port : Nat) (data : List Byte)
  | param (port : Nat) (r : Deferred)
  deriving DecidableEq, Repr

/-- An entry of the island-to-fabric mailbox: a SAFE record or a telegram (16 R411, R403). -/
inductive MailOut where
  | record (bytes : List Byte)
  | telegram (net : Nat) (data : List Byte)
  deriving DecidableEq, Repr

/-- A command copy accepted on a network (16 R404). -/
structure Copy where
  tseq : Word
  data : List Byte
  /-- TB_SAFE of its acceptance. -/
  at_  : Nat
  deriving DecidableEq, Repr

/-- The safety island (16). -/
structure Island where
  /-- SAF_STATE.STATE (16 R413). Reset: OFF. -/
  st       : IslandState
  /-- The level that counts of GUARD_A, GUARD_B, BRKFB_A, BRKFB_B, and the sample before it
  (16 R389, R390). Reset: low. -/
  ins      : List Bool
  prevIns  : List Bool
  /-- Level of SPDIN. Reset: low. -/
  spdin    : Bool
  /-- Driven levels of LEN_A, LEN_B, BRK_A, BRK_B (16 R390). Reset: low. -/
  outs     : List Bool
  /-- Levels of the four output pads: what the last cycle read back, and since then what was driven (16 R395, R398;
  01 R25 for XC16). Reset: low. -/
  pads     : List Bool
  /-- TB_SAFE of the last SPDIN edge, the last period, the count toward qualification, and whether
  the speed is qualified (16 R394). Reset: none, none, 0, no. -/
  edgeAt   : Option Nat
  period   : Option Nat
  spdCount : Nat
  speedOk  : Bool
  /-- An overspeed was seen since the last cycle (16 R389, R394). Reset: no. -/
  fast     : Bool
  /-- Since when the guard channels disagree (16 R392). Reset: none. -/
  discFrom : Option Nat
  /-- Start-up guard test: phase 0 to 2 (open hold, closed hold, done) and the start of the hold in
  progress (16 R393). Reset: 0, none. -/
  gtPhase  : Nat
  gtFrom   : Option Nat
  /-- Requests of the latest valid pair: LASER_REQ, BRAKE_REL (16 R404). Reset: 0. -/
  laser    : Bool
  brake    : Bool
  /-- RESET_FAULT and TEST_NOW of a pair formed in this cycle. Reset: 0. -/
  resetReq : Bool
  testReq  : Bool
  /-- Time of the latest valid pair, and its TSEQ (16 R405, R412). Reset: none, 0. -/
  pairAt   : Option Nat
  tseqRx   : Word
  /-- Newest TSEQ accepted on each network, and the copies accepted within PAIR_MS (16 R404).
  Reset: none. -/
  newest   : List (Option Word)
  copies   : List (List Copy)
  /-- TSEQ of the latest status pair, the next one, and the sending times of the last 64 pairs
  (16 R403). Reset: 0, 0, none. -/
  tseqTx   : Word
  sent     : List (Word × Nat)
  /-- A status pair is due for a change of STATE, OUT or FAULT, and when the last pair was sent.
  Reset: no, 0. -/
  statDue  : Bool
  statAt   : Nat
  /-- Status DATA as last produced (16 R409). Reset: 32 zero bytes. -/
  statData : List Byte
  /-- SAF_FAULT (16 R414). Reset: 0. -/
  faults   : Word
  /-- For GUARD_DISC: both channels seen open, then closed, since the fault (16 R401). Reset: 0. -/
  discSeen : Nat
  /-- The applied-state tests of A and B passed since the start or the last fault reset (16 R397).
  Reset: no. -/
  passed   : List Bool
  /-- Next test times of A, B and LEN, the last test's end, and the test pulse that runs: which and
  since when (16 R399). Reset: 0, none. -/
  nextTest : List Nat
  testEnd  : Option Nat
  testing  : Option (Nat × Nat)
  /-- Times of the last change of BRK_A and BRK_B (16 R398). Reset: 0. -/
  brkAt    : List Nat
  /-- Times of the last hardware refresh of the four outputs (16 R387). Reset: 0. -/
  refresh  : List Nat
  /-- The two copies of the parameter store (16 R406). Reset: the factory block twice. -/
  store    : List (List Byte)
  /-- The active block (16 R406). Reset: the factory block. -/
  active   : List Byte
  /-- The staged block and when it was staged, and since when the guard has been open (16 R408).
  Reset: none. -/
  staged   : Option (List Byte × Nat)
  openFrom : Option Nat
  /-- Unchanged retries of copies that the island has not decided (02 R44). Reset: none. -/
  again    : List (Origin × Packet)
  /-- A first copy of a parameter block that waits for its partner: its port, sender, and time
  (16 R407). Reset: none. -/
  paramCopy : Option (Nat × Deferred × Nat)
  /-- Island record sequence (16 R261 of 10). Reset: 0. -/
  iseq     : Half
  /-- Mailboxes of XC15, oldest first, at most 16 entries each (01 R25, R26). Reset: empty. -/
  mailIn   : List MailIn
  mailOut  : List MailOut
  /-- Number of the island's start, on which its noise source depends (16 R404). Reset: 0. -/
  starts   : Nat
  /-- TB_SAFE of the last cycle's start (16 R389). Reset: none. -/
  cycleAt  : Option Nat
  deriving DecidableEq, Repr

/-! Ifeche Link and the tree (18). -/

/-- An entry of the tree description (18 R439). -/
structure TreeEntry where
  dev    : Nat
  parent : Nat
  port   : Nat
  deriving DecidableEq, Repr

/-- A link frame to be sent, or sent and not yet acknowledged (18 R443). -/
structure LinkTx where
  kind : Nat
  dev  : Nat
  sess : Byte
  seq  : Half
  data : List Byte
  /-- Time of the last sending. -/
  sent : Nat
  deriving DecidableEq, Repr

/-- An Ifeche Link port (18 R459, R461). -/
structure LinkPort where
  /-- 0 off, 1 linking, 2 time locking, 3 joined, 4 lost. -/
  state    : Nat
  locked   : Bool
  peer     : Nat
  unlisted : Bool
  parent   : Bool
  /-- The theta of the latest exchanges, newest first, in half fine LSB, and their number since lock. -/
  thetas   : List Int
  count    : Nat
  /-- The theta estimate in 1/256 fine LSB, and delta in fine LSB. -/
  theta    : Int
  delta    : Int
  /-- Skew reported by the peer in 0.1 ps. -/
  skew     : Int
  /-- Link frames to be sent, or incident frames sent and not yet acknowledged. -/
  tx       : List LinkTx
  /-- The value of the echo block for the peer's latest time block (18 R442). -/
  echo     : Nat
  deriving DecidableEq, Repr

/-- The tree (18). -/
structure Tree where

  /-- The manager's tree description (18 R439). Reset: empty. -/
  entries  : List TreeEntry
  /-- Own device ID, hops and parent port (18 R440, R460). Reset: 0. -/
  dev      : Nat
  hops     : Nat
  parentPort : Nat
  /-- IFL0 to IFL3 (18 R461). Reset: off. -/
  ports    : List LinkPort
  /-- Versions of D_tree, newest first: effective tick and value in fine LSB (18 R446). Reset: none. -/
  dtree    : List (Nat × Int)
  /-- D_tree announced by the parent and its warm-up flag (18 R446, R448). Reset: 0, clear. -/
  parentD  : Int
  parentWarm : Bool
  /-- The join waits for its load or for a resync: WORKER_RESYNC's owner and sequence (18 R457).
  Reset: none. -/
  resync   : Option (Nat × Origin × Half)
  /-- The worker is time-locked and waits for load and convergence (18 R447). Reset: no. -/
  joining  : Bool
  /-- The load of the join in progress found the core not idle (18 R457). Reset: no. -/
  slipped  : Bool
  /-- A SYNC_FULL number whose SYNC_SHOT has not arrived, and the number of the latest announcement (18
  R451, R452). Reset: none. -/
  syncFull : Option Long
  latest   : Option Long
  /-- On the manager, the number of the previous announcement by program (18 R450). Reset: none. -/
  lastSync : List (Option Long)
  /-- Blocks sent in control slots, newest first: port, type and value (18 R442). Reset: none. -/
  blocks   : List (Nat × Nat × Nat)
  /-- The time blocks of the latest superframe: port, type and value (18 R441, R442). Reset: none. -/
  timeBlocks : List (Nat × Nat × Nat)
  /-- Packets that this device has forwarded and whose reply has not come back: session, sequence and time of ingress
  (02 R42, R62). Reset: none. -/
  away     : List (Nat × Half × Nat)
  /-- Wait reports held by the manager: tag and devices (18 R453). Reset: none. -/
  reports  : List (Nat × Nat)
  /-- Wait reports and releases acted on: the device, or 16 for a release, the tag, and the tick (18 R453).
  Reset: none. -/
  seen     : List (Nat × Nat × Nat)
  /-- Incident frames acted on, newest first: device and sequence (18 R443). Reset: none. -/
  incSeen  : List (Nat × Half)
  /-- Link frame sequence used last (18 R443). Reset: 0. -/
  frameSeq : Half
  deriving DecidableEq, Repr

/-- The whole machine. -/
structure State where
  /-- The commands that are waiting, first in, first out (the block's queue). Reset: empty. -/
  pending : List Instr
  /-- Ticks of 800 ps since power-up (00 R14). Reset: 0. -/
  time    : Nat
  /-- The model's own field, not the spec's: how many free values have been drawn. Reset: 0 (DESIGN CHOICE). -/
  drawn   : Nat
  /-- The part is an NRX-512-SB; else an NRX-512-IB (00 R1). Reset: yes (DESIGN CHOICE). -/
  sb      : Bool
  /-- The register file by address: every listed register's stored bits (20 R484). Reset: nothing
  listed, so every register reads as its reset value. -/
  regs    : List (Nat × Word)
  /-- Command packets (02). -/
  pk      : PacketUnit
  /-- Tables and programs (03). -/
  pg      : ProgramUnit
  /-- Shot sequencer (03, 20). -/
  seq     : Sequencer
  /-- Emission (04). -/
  emt     : Emission
  /-- Control loops (05). -/
  cle     : LoopUnit
  /-- Receiver (06). -/
  hch     : Receiver
  /-- Histogram engines HE0 to HE67 (07). -/
  hen     : List Engine
  /-- Waveform digitiser (09). -/
  wfd     : Wave
  /-- Output (10). -/
  out     : Output
  /-- Admission (11). -/
  adm     : Admission
  /-- Time bases (12). -/
  tim     : TimeUnit
  /-- Housekeeping (13). -/
  hka     : House
  /-- Thermal management and calibration (14). -/
  thm     : Thermal
  /-- Memory (15). -/
  mem     : MemUnit
  /-- Safety island (16). -/
  saf     : Island
  /-- Repair and incidents (17). -/
  rep     : Repair
  /-- Tree (18). -/
  ifl     : Tree
  /-- Boot (19). -/
  boot    : Boot
  deriving DecidableEq, Repr

/-! The state after reset, unit by unit. -/

def PacketUnit.reset : PacketUnit :=
  { sessions := [{ origin := .mspi, num := 0, mask := 1, newest := none, cache := [], stage := none,
                   lastUse := 0 }]
    ingress := [], lastQueue := 13, deferred := none
    rings := List.replicate 4
      { enabled := false, cmdBase := false, rplBase := false, cmdHead := 0, rplHead := 0,
        replyBufs := [], dry := none, irqs := 0 }
    oldPorts := [], mspiReply := [], mspiOut := [], mspiServed := 0, events := []
    snapshots := List.replicate 4 none, wraps := [], resetPend := none }

def ProgramUnit.reset : ProgramUnit :=
  { tables := [], progs := List.replicate 64 none, admitted := [] }

def Sequencer.reset : Sequencer :=
  { next := 0, history := [], efu := [], clockHold := false }

def Emission.reset : Emission :=
  { budgets := List.replicate 4 { level := 0, clipped := true, updated := 0 }
    wireHigh := false, shortTest := none, chainRead := none, wireEnd := none, busyUntil := 0
    firings := [], chainOut := [], wireOut := [], otLow := false, leads := List.replicate 9 [] }

/-- A loop after reset with its default selects (05 R138). -/
def ControlLoop.resetWith (inSel outSel : Byte) : ControlLoop :=
  { mode := 0, inSel := inSel, outSel := outSel, w := 0, r := 0, v := 0, integ := 0
    hist := List.replicate 4 { x1 := 0, x2 := 0, y1 := 0, y2 := 0 }
    mf := 0, u := 0, uPrev := 0, vPrev := 0
    active := List.replicate 112 0, shadow := List.replicate 112 0
    actValid := false, shdValid := false, pendSwap := false, pendMode := none, pendW := none
    entered := none, swapped := false, nextAt := 0, encP := 0, encT := 0, encVn := 0, encVd := 1 }

def LoopUnit.reset : LoopUnit :=
  { loops := [.resetWith 0x00 0x10, .resetWith 0x01 0x00, .resetWith 0x22 0x01] ++
      List.replicate 13 (.resetWith 0xFF 0xFF)
    pwm := List.replicate 16 (none, none), pwmHigh := List.replicate 16 none, pwmPast := List.replicate 16 none
    dac := List.replicate 6 0x8000, spi := [], spiSent := none
    enc := List.replicate 2 { levelA := false, levelB := false, edges := [], armed := true, held := [] }
    pllLost := false, evalUntil := 0, angles := [] }

def Lane.reset : Lane :=
  { buffer := [], blindUntil := 0, injected := false, stamped := false, level := false, lost := false, versions := []
    state := 0, before := 0, n := List.replicate 32 0, m := List.replicate 32 0, total := 0
    ovr := 0, a := [], g := 0, updates := 0, version := 0, updated := none, fault := false }

def Tdc.reset : Tdc :=
  { lower := .reset, upper := .reset, queue := [], markBlind := false, mergeAt := 0 }

def Chan.reset (c : Nat) : Chan :=
  { tdc := c, route := 0, lower := 200, upper := 0, trimL := 0, trimU := 0, dacL := 200, dacU := 0, swap := none, pending := none
    applied := none, losses := [], blinds := [] }

def Receiver.reset : Receiver :=
  { tdcs := List.replicate 567 .reset, chans := (List.range 512).map .reset
    auxSpare := List.replicate 23 none, auxSwap := List.replicate 23 none, freq := List.replicate 8 none }

def Engine.reset : Engine :=
  { st := .halted, halting := false, mem := [], v := List.replicate 16 0, pc := 0, loops := [], events := []
    run := none, half := 0, headers := [none, none]
    profiles := List.replicate 8 none, imgGen := 0, standbyBusy := false, shots := []
    ring := 0, keptAt := 0, groups := [], nextGroup := 0, closed := [none, none]
    early := List.replicate 8 0, attrFrom := 0, bursts := [], heldPairs := [], passes := []
    xc02 := [], copies := [([], []), ([], [])], wasHalted := false, recent := [], recq := []
    drained := 0, drainAt := 0, xstamps := [], timerAt := 0, heartbeat := 0 }

def CapUnit.reset : CapUnit :=
  { st := .idle, armedAt := 0, armShot := none, cands := [], trigIdx := 0, trigTime := 0
    srcMask := 0, avgCount := 0, sums := [], avgMarks := [], avgPre := 0
    avgShort := false, avgFirst := none, seq := false, void := false, lowSeen := false, highSeen := false
    lastSeen := none, seenTo := 0, wr := 0, restarted := false, disarm := false, holdTo := 0
    missed := 0, placed := [] }

def Wave.reset : Wave :=
  { slices := (List.range 16).map (fun j =>
        { pos := some j, state := 0, offset := 0, gain := 0, skew := 0, fresh := false, since := 0 }) ++
      [{ pos := none, state := 3, offset := 0, gain := 0, skew := 0, fresh := false, since := 0 }]
    mode := 4, laneIn := List.replicate 16 0xFF, alloc := [], gain := List.replicate 16 0
    din := List.replicate 16 0, dinPend := []
    gainPend := none, filters := List.replicate 16 { enabled := false, taps := List.replicate 32 0, count := 1 }
    marks := List.replicate 16 [], units := List.replicate 16 .reset, rotPos := 0, rotAt := 0, shadowAt := 0
    retried := false, rotDead := false }

def Output.reset : Output :=
  { streams := List.replicate 64
      { desc := [], waiting := [], openFr := none, closed := [], lost := 0, stalled := false, dry := none }
    packets := [], servers := List.replicate 5 none, frags := List.replicate 5 []
    rings := List.replicate 16
      { enabled := false, baseSet := false, bufs := [], unsig := 0, firstAt := 0, irqs := 0 }
    pcieUp := false, pcieWidth := 0, pcieSpeed := 0, ethUp := List.replicate 4 false
    ipIdent := List.replicate 4 0, direct := [], host := [], descs := [] }

def Admission.reset : Admission :=
  { interrupts := [], ambient := List.replicate 512 [], exceeded := [] }

/-- The nominal PTP increment, 2.56 ns (12 R304). -/
def incrNom : Nat := 0x28F5C28F6

def TimeUnit.reset : TimeUnit :=
  { shot := 0, running := false, sys5 := 0, safe25 := 0
    ptp := List.replicate 4
      { value := 0, incr := incrNom, edge := 0, past := [], done := none, stopped := false, counting := false
        corrs := [] }
    ptpWraps := [], warm := false, warmLost := [], gates := 0, gateAt := 0, prevY := none, gateOk := false
    pin := false, pinAt := 0, pinLevel := none, pinOkAt := 0, onRef := false, refAt := 0, refin := true, lost := []
    xsys := true, refCode := 0, refNew := none, xsPend := none, xsHit := none, xsImage := List.replicate 64 0
    xseq := 0, logs := [], launches := List.replicate 4 [], latches := [] }

def HkResult.reset : HkResult :=
  { valid := false, open_ := false, short := false, stale := false, range := false, clip := false
    nocal := false, inj := false, cycle := 0, value := 0, at_ := 0, held := none, good := 0
    seenOpen := false, seenShort := false, current := 0, code := 0 }

def House.reset : House :=
  { paths := [0, 1].map fun j => { slice := some j, step := none, free := 0, next := none, fresh := false, common := [0, 0, 0, 0] }
    regular := (List.range 14).map (fun i => { code := 0x20 + i, avg := 0, settle := 0 })
    injected := [], newReg := none, newInj := none, inCycle := false, todo := [], cycleAt := 0
    injRun := false, injTodo := [], goPend := false, results := List.replicate 46 .reset
    iex := List.replicate 4 (false, false, false, 0), spare := some 2, rotPath := 0, rotAt := 0
    retried := false, rotDead := false, rotStage := 0, shadowed := 0, trims := List.replicate 3 (List.replicate 16 0)
    pllLost := false }

def Thermal.reset : Thermal :=
  { sensors := List.replicate 24 { reading := none, failed := false }
    zones := List.replicate 8 0, warn := List.replicate 8 false, throt := List.replicate 8 false
    shut := List.replicate 8 false, step := 0, stepAt := 0, shutdown := false, cool := false, tDie := 0
    tApply := 0, tLast := 0, tHist := [], tdieStale := false, stored := List.replicate 8 none
    writeback := [], staging := [], applied := [], extrap := false, factory := false
    buildDue := false, run := none, retryAt := none, haveLast := false }

def MemUnit.reset : MemUnit :=
  { dram := [], poison := [], capGB := 0, speed := 0, ranks := 0, density := 0, width := 0, remap := []
    chans := List.replicate 2
      { up := false, failed := false, paused := false, pauseAt := 0, repairs := none, set_ := 0, spares := 0, temp := 0, retrain := false }
    fallback := none, cands := [[], []], host := [], corrupt := [], sramCe := [], dramCe := [], ceSecond := []
    sramAt := 0, dramAt := 0, pauses := [] }

/-- Polynomial 0xF4AC_FB13 reflected, one bit of the safety CRC (16 R402). -/
def scrcBit (c : Word) : Word :=
  if c.getLsbD 0 then (c >>> 1) ^^^ 0xC8DF352F#32 else c >>> 1

/-- One byte through the safety CRC register (16 R402). -/
def scrcByte (c : Word) (b : Byte) : Word :=
  let x := c ^^^ b.setWidth 32
  scrcBit (scrcBit (scrcBit (scrcBit (scrcBit (scrcBit (scrcBit (scrcBit x)))))))

/-- The safety CRC (16 R402): reflected, initial value and final XOR all ones. -/
def scrc (l : List Byte) : Word :=
  l.foldl scrcByte 0xFFFFFFFF#32 ^^^ 0xFFFFFFFF#32

/-- The fields of the factory parameter block that the spec states (16 R406): FORMAT, LENGTH,
PCOUNT 0, ADDR_OWN 0, GUARD_MODE 0, DISC_MS 100, GT_MIN_MS 100, PAIR_MS 50; PEND_S is the least of its range and
the others are zero (DESIGN CHOICE, notes/assumptions). -/
def factoryBody : List Byte :=
  leBytes 2 1 ++ leBytes 2 128 ++ List.replicate 20 0 ++ leBytes 2 100 ++ leBytes 2 100 ++
    List.replicate 4 0 ++ leBytes 2 50 ++ List.replicate 8 0 ++ leBytes 2 10 ++ List.replicate 80 0

/-- The factory parameter block with its SCRC (16 R406). -/
def factoryBlock : List Byte :=
  factoryBody ++ leBytes 4 (scrc factoryBody).toNat

def Island.reset : Island :=
  { st := .off, ins := List.replicate 4 false, prevIns := List.replicate 4 false, spdin := false
    outs := List.replicate 4 false, pads := List.replicate 4 false, edgeAt := none, period := none
    spdCount := 0, speedOk := false, fast := false, discFrom := none, gtPhase := 0, gtFrom := none, laser := false
    brake := false, resetReq := false, testReq := false, pairAt := none, tseqRx := 0
    newest := [none, none], copies := [[], []], tseqTx := 0, sent := [], statDue := false
    statAt := 0, statData := List.replicate 32 0, faults := 0, discSeen := 0
    passed := [false, false], nextTest := [0, 0, 0], testEnd := none, testing := none, brkAt := [0, 0]
    refresh := List.replicate 4 0, store := [factoryBlock, factoryBlock], active := factoryBlock
    staged := none, openFrom := none, again := [], paramCopy := none, iseq := 0, mailIn := [], mailOut := []
    starts := 0, cycleAt := none }

def Repair.reset : Repair :=
  { tdcFail := [], engFail := [], chanLost := [], wfdFail := [], hkaFail := []
    pool := [64, 65, 66, 67], map := [], mapSeq := 0, mapPend := none, migs := []
    incidents := [], iseq := 0, active := 0, standby := true, withdrawn := none, released := [], switch := none, journal := []
    selftest := none, bistAt := 0 }

def LinkPort.reset : LinkPort :=
  { state := 0, locked := false, peer := 0, unlisted := false, parent := false, thetas := []
    count := 0, theta := 0, delta := 0, skew := 0, tx := [], echo := 0 }

def Tree.reset : Tree :=
  { entries := [], dev := 0, hops := 0, parentPort := 0
    ports := List.replicate 4 .reset, dtree := [], parentD := 0, parentWarm := false, resync := none
    joining := false, slipped := false, syncFull := none, latest := none, seen := [], incSeen := [], lastSync := List.replicate 64 none, blocks := []
    timeBlocks := [], away := []
    reports := [], frameSeq := 0 }

def Boot.reset : Boot :=
  { phase := .hardware, firmware := false, responder := true, held := false, readyAt := 0
    slot := 0, activate := none, flash := [], firstCal := false }

/-- The machine right after the release of PORST_L (19 R465, R472, 20 R492). -/
def State.reset : State :=
  { pending := [], time := 0, drawn := 0, sb := true, regs := [], pk := .reset, pg := .reset
    seq := .reset, emt := .reset, cle := .reset, hch := .reset, hen := List.replicate 68 .reset
    wfd := .reset, out := .reset, adm := .reset, tim := .reset, hka := .reset, thm := .reset
    mem := .reset, saf := .reset, rep := .reset, ifl := .reset, boot := .reset }

end Sys2Proof.Machine
end

