-- ==== Sys2Proof/Machine/Regs.lean ====
section
/-!
DEFINITION. The register map (20 R484 and the register tables of every chapter): addresses, reset
values, and which bits a master may write, clear or set. What a read returns beside the stored bits is
in Live.lean; what a write checks and starts is in RegWrite.lean.
-/
namespace Sys2Proof.Machine

/-- A row of a register table: base address, instances, stride, reset value by instance, the RW bits,
the W1C bits and the W1S bits. All other bits are RO or RSV. -/
structure RegDesc where
  base   : Nat
  count  : Nat
  stride : Nat
  reset  : Nat → Nat
  rw     : Nat
  w1c    : Nat
  w1s    : Nat

/-- A single register or an array of registers with one reset value. -/
def rg (base count stride reset rw : Nat) (w1c : Nat := 0) (w1s : Nat := 0) : RegDesc :=
  { base := base, count := count, stride := stride, reset := fun _ => reset, rw := rw, w1c := w1c,
    w1s := w1s }

/-! Addresses. -/

abbrev GLB_IDENT := 0x00000
abbrev GLB_CFG_GEN := 0x00004
abbrev GLB_STATUS := 0x00008
abbrev GLB_ATTN := 0x0000C
abbrev GLB_CMD_UDP_PORT := 0x00010
abbrev GLB_EVT_SEQ := 0x00014
abbrev GLB_SERIAL_LO := 0x00018
abbrev GLB_SERIAL_HI := 0x0001C
abbrev GLB_RX_FMT := 0x00020
abbrev GLB_RX_CRC := 0x00024
abbrev GLB_RX_FLAG := 0x00028
abbrev GLB_RX_DROP := 0x0002C
abbrev GLB_SESSIONS := 0x00030
abbrev GLB_GPIO_DIR := 0x00034
abbrev GLB_GPIO_OUT := 0x00038
abbrev GLB_GPIO_IN := 0x0003C
abbrev GLB_SCRATCH (n : Nat) := 0x00040 + 4 * n
abbrev SEQ_STATUS := 0x10000
abbrev SEQ_RATE := 0x10004
abbrev SEQ_NEXT_LO := 0x10008
abbrev SEQ_NEXT_HI := 0x1000C
abbrev SEQ_LAST_LO := 0x10010
abbrev SEQ_LAST_HI := 0x10014
abbrev SEQ_LAST_T_LO := 0x10018
abbrev SEQ_LAST_T_HI := 0x1001C
abbrev SEQ_HIST_BASE := 0x10020
abbrev SEQ_HIST_HEAD := 0x10024
abbrev SEQ_PROG_STAT (p : Nat) := 0x10100 + 16 * p
abbrev SEQ_PROG_LATE (p : Nat) := 0x10104 + 16 * p
abbrev SEQ_PROG_STALL (p : Nat) := 0x10108 + 16 * p
abbrev SEQ_PROG_SHOTS (p : Nat) := 0x1010C + 16 * p
abbrev EMT_STATUS := 0x20000
abbrev EMT_CLIPPED := 0x20004
abbrev EMT_FIRE_TIME (n : Nat) := 0x20010 + 4 * n
abbrev EMT_FIRE_MODE (n : Nat) := 0x20030 + 4 * n
abbrev EMT_MATRIX_CFG := 0x20050
abbrev EMT_MATRIX_LINES_A := 0x20054
abbrev EMT_MATRIX_LINES_K := 0x20058
abbrev EMT_MATRIX_WMAX := 0x2005C
abbrev EMT_COMP_SEL (g : Nat) := 0x20060 + 4 * g
abbrev EMT_BUDGET_RATED (g : Nat) := 0x20080 + 16 * g
abbrev EMT_BUDGET_REFILL (g : Nat) := 0x20084 + 16 * g
abbrev EMT_BUDGET_OVERDRIVE (g : Nat) := 0x20088 + 16 * g
abbrev EMT_BUDGET_LEVEL (g : Nat) := 0x2008C + 16 * g
abbrev EMT_OT_CFG (g : Nat) := 0x200C0 + 4 * g
abbrev EMT_CHAIN_CFG := 0x200D0
abbrev EMT_CHAIN_STATUS := 0x200D4
abbrev EMT_1W_CFG := 0x200D8
abbrev EMT_SHORT_GND (i : Nat) := 0x200E0 + 4 * i
abbrev EMT_SHORT_NEIGH (i : Nat) := 0x200E8 + 4 * i
abbrev EMT_SHORT_OPEN (i : Nat) := 0x200F0 + 4 * i
abbrev CLE_STATUS := 0x30000
abbrev CLE_LOAD := 0x30004
abbrev CLE_SPI_CFG := 0x30008
abbrev CLE_LOOP_STAT (k : Nat) := 0x30100 + 4 * k
abbrev CLE_LOOP_IO (k : Nat) := 0x30140 + 4 * k
abbrev CLE_LOOP_SP (k : Nat) := 0x30180 + 4 * k
abbrev CLE_LOOP_SPLIM (k : Nat) := 0x301C0 + 4 * k
abbrev CLE_LOOP_RATE (k : Nat) := 0x30200 + 4 * k
abbrev CLE_LOOP_INT (k : Nat) := 0x30240 + 4 * k
abbrev CLE_LOOP_OUT (k : Nat) := 0x30280 + 4 * k
abbrev CLE_PWM_CFG (n : Nat) := 0x30400 + 4 * n
abbrev CLE_DAC_SAFE (n : Nat) := 0x30440 + 4 * n
abbrev CLE_SPI_SLOT (n : Nat) := 0x30460 + 4 * n
abbrev CLE_SPI_RX (n : Nat) := 0x30470 + 4 * n
abbrev CLE_ENC_CFG (n : Nat) := 0x30500 + 32 * n
abbrev CLE_ENC_POS (n : Nat) := 0x30504 + 32 * n
abbrev CLE_ENC_ZERO (n : Nat) := 0x30508 + 32 * n
abbrev CLE_ENC_PFS (n : Nat) := 0x3050C + 32 * n
abbrev CLE_ENC_VFS (n : Nat) := 0x30510 + 32 * n
abbrev CLE_ENC_IDX (n : Nat) := 0x30514 + 32 * n
abbrev CLE_ENC_ERR (n : Nat) := 0x30518 + 32 * n
abbrev CLE_BANK_ACT (k : Nat) := 0x31000 + 128 * k
abbrev CLE_BANK_SHD (k : Nat) := 0x31800 + 128 * k
abbrev CLE_STATE (k : Nat) := 0x32000 + 64 * k
abbrev HCH_STATUS := 0x40000
abbrev HCH_CAL_CFG := 0x40004
abbrev HCH_WALK_CFG := 0x40008
abbrev TDC_TABLE_BASE := 0x4000C
abbrev HCH_THRESH (c : Nat) := 0x41000 + 4 * c
abbrev HCH_CFG (c : Nat) := 0x41800 + 4 * c
abbrev HCH_ROUTE (c : Nat) := 0x42000 + 4 * c
abbrev HCH_TRIM (c : Nat) := 0x42800 + 4 * c
abbrev HCH_WALK_SEL (g : Nat) := 0x43000 + 4 * g
abbrev HCH_EV_CFG (n : Nat) := 0x43100 + 4 * n
abbrev HCH_FREQ (n : Nat) := 0x43200 + 16 * n
abbrev TDC_DROP (t : Nat) := 0x44000 + 4 * t
abbrev TDC_BLIND (t : Nat) := 0x45000 + 4 * t
abbrev TDC_CAL_STAT (t : Nat) := 0x46000 + 4 * t
abbrev TDC_ASSIGN (t : Nat) := 0x47000 + 4 * t
abbrev HEN_STATUS := 0x50000
abbrev HEN_MAP (g : Nat) := 0x50100 + 4 * g
abbrev HEN_STATE (e : Nat) := 0x50200 + 4 * e
abbrev HEN_STAT (e : Nat) := 0x50400 + 4 * e
abbrev HEN_IMG (e : Nat) := 0x50600 + 8 * e
abbrev HEN_WCET (e : Nat) := 0x50A00 + 4 * e
abbrev HEN_MAXRUN (e : Nat) := 0x50C00 + 4 * e
abbrev HEN_PAIRS (e : Nat) := 0x50E00 + 4 * e
abbrev HEN_RECS (e : Nat) := 0x51000 + 4 * e
abbrev HEN_RUNS (e : Nat) := 0x51200 + 4 * e
abbrev DET_STATUS := 0x60000
abbrev DET_ECHO_CNT := 0x60004
abbrev DET_VEIL_CNT := 0x60008
abbrev DET_SUBM_CNT := 0x6000C
abbrev DET_COLF_CNT := 0x60010
abbrev DET_IFR_CNT := 0x60014
abbrev DET_LIMIT_CNT := 0x60018
abbrev WFD_STATUS := 0x70000
abbrev WFD_ALLOC := 0x70004
abbrev WFD_LANE_IN (q : Nat) := 0x70008 + 4 * q
abbrev WFD_GAIN := 0x70018
abbrev WFD_GAIN_PEND := 0x7001C
abbrev WFD_ROT_CFG := 0x70020
abbrev WFD_SLICE_STAT (j : Nat) := 0x70100 + 4 * j
abbrev WFD_SLICE_TRIM (j : Nat) := 0x70180 + 8 * j
abbrev WFD_FILT_CTRL (l : Nat) := 0x70300 + 4 * l
abbrev WFD_FILT_COEF (l : Nat) := 0x70400 + 64 * l
abbrev WFD_FILT_ACT (l : Nat) := 0x70800 + 64 * l
abbrev WFD_CAP (u off : Nat) := 0x71000 + 64 * u + off
abbrev WFD_CAP_CFG (u : Nat) := WFD_CAP u 0x00
abbrev WFD_CAP_SRC (u : Nat) := WFD_CAP u 0x04
abbrev WFD_CAP_THRESH (u : Nat) := WFD_CAP u 0x08
abbrev WFD_CAP_PRE (u : Nat) := WFD_CAP u 0x0C
abbrev WFD_CAP_POST (u : Nat) := WFD_CAP u 0x10
abbrev WFD_CAP_STAT (u : Nat) := WFD_CAP u 0x14
abbrev WFD_CAP_MISSED (u : Nat) := WFD_CAP u 0x18
abbrev WFD_CAP_MISS_T (u : Nat) := WFD_CAP u 0x1C
abbrev WFD_CAP_COUNT (u : Nat) := WFD_CAP u 0x24
abbrev WFD_CAP_AREA_LO (u : Nat) := WFD_CAP u 0x28
abbrev WFD_CAP_AREA_HI (u : Nat) := WFD_CAP u 0x2C
abbrev WFD_CAP_AREA_SIZE (u : Nat) := WFD_CAP u 0x30
abbrev WFD_CAP_AREA_FREE (u : Nat) := WFD_CAP u 0x34
abbrev OUT_STATUS := 0x80000
abbrev OUT_PCIE_ALLOW := 0x80004
abbrev OUT_LATE := 0x80008
abbrev OUT_ORPHAN := 0x8000C
abbrev OUT_CMDQ_BASE (n : Nat) := 0x80100 + 32 * n
abbrev OUT_CMDQ_SIZE (n : Nat) := 0x80108 + 32 * n
abbrev OUT_CMDQ_TAIL (n : Nat) := 0x8010C + 32 * n
abbrev OUT_RPLQ_BASE (n : Nat) := 0x80110 + 32 * n
abbrev OUT_RPLQ_TAIL (n : Nat) := 0x80118 + 32 * n
abbrev OUT_CMDQ_HEAD (n : Nat) := 0x8011C + 32 * n
abbrev OUT_DRING_BASE (n : Nat) := 0x80200 + 32 * n
abbrev OUT_DRING_CFG (n : Nat) := 0x80208 + 32 * n
abbrev OUT_DRING_TAIL (n : Nat) := 0x8020C + 32 * n
abbrev OUT_DRING_HEAD (n : Nat) := 0x80210 + 32 * n
abbrev OUT_DRING_FRAMES (n : Nat) := 0x80214 + 32 * n
abbrev OUT_ETH_MAC_LO (p : Nat) := 0x80400 + 32 * p
abbrev OUT_ETH_MAC_HI (p : Nat) := 0x80404 + 32 * p
abbrev OUT_ETH_IP (p : Nat) := 0x80408 + 32 * p
abbrev OUT_ETH_CFG (p : Nat) := 0x8040C + 32 * p
abbrev OUT_ETH_RXDROP (p : Nat) := 0x80410 + 32 * p
abbrev OUT_ETH_TXDG (p : Nat) := 0x80414 + 32 * p
abbrev OUT_STREAM_FSEQ (i : Nat) := 0x81000 + 16 * i
abbrev OUT_STREAM_STAGE (i : Nat) := 0x81004 + 16 * i
abbrev OUT_STREAM_LOST (i : Nat) := 0x81008 + 16 * i
abbrev OUT_STREAM_DONE (i : Nat) := 0x8100C + 16 * i
abbrev ADM_STATUS := 0x82000
abbrev ADM_AMBIENT := 0x82004
abbrev ADM_STAGE_BASE_LO := 0x82008
abbrev ADM_STAGE_BASE_HI := 0x8200C
abbrev ADM_STAGE_SIZE := 0x82010
abbrev ADM_FAULT_US := 0x82014
abbrev ADM_REFUSALS := 0x82018
abbrev ADM_SHARE (r : Nat) := 0x82100 + 4 * r
abbrev TIM_STATUS := 0x90000
abbrev TIM_REF_CFG := 0x90004
abbrev TIM_WARM_CFG := 0x90008
abbrev TIM_REF_OFFSET := 0x9000C
abbrev TIM_SHOT_LO := 0x90010
abbrev TIM_SHOT_HI := 0x90014
abbrev TIM_SYS_LO := 0x90018
abbrev TIM_SYS_HI := 0x9001C
abbrev TIM_SAFE_LO := 0x90020
abbrev TIM_SAFE_HI := 0x90024
abbrev TIM_PTP_LOG_BASE := 0x90030
abbrev TIM_XS_IMG (w : Nat) := 0x90040 + 4 * w
abbrev TIM_PTP (p off : Nat) := 0x90100 + 64 * p + off
abbrev TIM_PTP_JUMP (p : Nat) := TIM_PTP p 0x10
abbrev TIM_PTP_ASYM (p : Nat) := TIM_PTP p 0x14
abbrev TIM_PTP_CFG (p : Nat) := TIM_PTP p 0x18
abbrev TIM_PTP_HEAD (p : Nat) := TIM_PTP p 0x1C
abbrev TIM_PTP_CORR_LO (p : Nat) := TIM_PTP p 0x20
abbrev TIM_PTP_CORR_HI (p : Nat) := TIM_PTP p 0x24
abbrev TIM_PTP_WRAPS (p : Nat) := TIM_PTP p 0x28
abbrev HKA_STATUS := 0xA0000
abbrev HKA_SEQ_CFG := 0xA0004
abbrev HKA_INJ_CFG := 0xA0008
abbrev HKA_WIN := 0xA000C
abbrev HKA_ROT_CFG := 0xA0010
abbrev HKA_SEQ_CNT := 0xA0014
abbrev HKA_CYCLES := 0xA0018
abbrev HKA_INJ_MISSED := 0xA001C
abbrev HKA_IN_CFG (n : Nat) := 0xA0040 + 4 * n
abbrev HKA_RES (c : Nat) := 0xA0100 + 4 * c
abbrev HKA_HELD (c : Nat) := 0xA0200 + 4 * c
abbrev HKA_RAW (c : Nat) := 0xA0300 + 4 * c
abbrev HKA_REG_STEP (i : Nat) := 0xA0400 + 4 * i
abbrev HKA_INJ_STEP (i : Nat) := 0xA0480 + 4 * i
abbrev HKA_IEX_STAT (k : Nat) := 0xA0500 + 4 * k
abbrev HKA_SH (i j : Nat) := 0xA0600 + 16 * i + 4 * j
abbrev HKA_USER_SEL (n : Nat) := 0xA0700 + 4 * n
abbrev THM_STATUS := 0xA8000
abbrev THM_CFG := 0xA8004
abbrev THM_TS_FAIL := 0xA800C
abbrev THM_STEP_TAB (i : Nat) := 0xA8020 + 4 * i
abbrev THM_ZONE_A (z : Nat) := 0xA8040 + 8 * z
abbrev THM_ZONE_B (z : Nat) := 0xA8044 + 8 * z
abbrev THM_ZONE_T (z : Nat) := 0xA8080 + 4 * z
abbrev THM_TS (n : Nat) := 0xA8100 + 4 * n
abbrev THM_SUBST (n : Nat) := 0xA8180 + 4 * n
abbrev CAL_STATUS := 0xB0000
abbrev CAL_CFG := 0xB0004
abbrev CAL_TDIE := 0xB0008
abbrev CAL_TAPPLY := 0xB000C
abbrev CAL_VER := 0xB0010
abbrev CAL_EFF_LO := 0xB0014
abbrev CAL_EFF_HI := 0xB0018
abbrev CAL_RUN_STAT := 0xB001C
abbrev CAL_TMO (i : Nat) := 0xB0020 + 4 * i
abbrev CAL_SET_INFO (k : Nat) := 0xB0040 + 4 * k
abbrev MEM_STATUS := 0xC0000
abbrev MEM_CFG := 0xC0004
abbrev MEM_SCRUB_CFG := 0xC0008
abbrev MEM_NR_CFG := 0xC000C
abbrev MEM_SNAP_BASE_LO := 0xC0010
abbrev MEM_SNAP_BASE_HI := 0xC0014
abbrev MEM_SNAP_SIZE := 0xC0018
abbrev MEM_CAND_BASE := 0xC001C
abbrev MEM_SRAM_CE := 0xC0020
abbrev MEM_SRAM_UE := 0xC0024
abbrev MEM_CH_CTRL (c : Nat) := 0xC0100 + 0x100 * c
abbrev MEM_CH_STAT (c : Nat) := 0xC0104 + 0x100 * c
abbrev MEM_CE (c : Nat) := 0xC0108 + 0x100 * c
abbrev MEM_UE (c : Nat) := 0xC010C + 0x100 * c
abbrev MEM_NR_CNT (c : Nat) := 0xC0110 + 0x100 * c
abbrev MEM_DLY (c i b w : Nat) := 0xC1000 + 0x400 * c + 0x100 * i + 16 * b + 4 * w
abbrev MEM_CA (c i : Nat) := 0xC1080 + 0x400 * c + 0x100 * i
abbrev SAF_IDENT := 0xD0000
abbrev SAF_TG_BAD (q : Nat) := 0xD0030 + 4 * q
abbrev SAF_MBX_OVW := 0xD0038
abbrev SAF_MBX_DROP := 0xD003C
abbrev SAF_MBX_RXDROP := 0xD0040
abbrev SAF_TESTS := 0xD0044
abbrev SAF_TEST_ABORT := 0xD0048
abbrev REP_STATUS := 0xE0000
abbrev REP_CFG := 0xE0004
abbrev REP_MIG_STAT := 0xE0008
abbrev REP_MIG_TIME := 0xE000C
abbrev REP_MIG_COUNT := 0xE0010
abbrev REP_INC_HEAD := 0xE0014
abbrev REP_INC_OPEN := 0xE0018
abbrev REP_INC_DROP := 0xE001C
abbrev REP_MAP_LEN := 0xE0020
abbrev IFL_CFG := 0xF0000
abbrev IFL_STATUS := 0xF0004
abbrev IFL_DTREE_LO := 0xF0008
abbrev IFL_DTREE_HI := 0xF000C
abbrev IFL_SYNC_LOST := 0xF0010
abbrev IFL_SYNC_LATE := 0xF0014
abbrev IFL_PORT (p off : Nat) := 0xF0100 + 32 * p + off
abbrev IFL_ASYM (p : Nat) := IFL_PORT p 0x04
abbrev IFL_BLK_ERR (p : Nat) := IFL_PORT p 0x10
abbrev IFL_FRM_DROP (p : Nat) := IFL_PORT p 0x14
abbrev BOOT_STATUS := 0xF8000
abbrev BOOT_CFG := 0xF8004
abbrev BOOT_ID := 0xF8008
abbrev BOOT_CAUSE := 0xF800C
abbrev BOOT_FW_VER := 0xF8010
abbrev BOOT_PRELOAD_ERR := 0xF8014
abbrev BOOT_FLASH_MB := 0xF8018
abbrev BOOT_SLOT (i : Nat) := 0xF8020 + 8 * i

/-- All 32 bits. -/
abbrev ALL := 0xFFFFFFFF

/-- Block 0x0 (20 R491 to R495). -/
def glbRegs : List RegDesc :=
  [ rg GLB_IDENT 1 4 0 0, rg GLB_CFG_GEN 1 4 0 0, rg GLB_STATUS 1 4 0 0, rg GLB_ATTN 1 4 0 0,
    rg GLB_CMD_UDP_PORT 1 4 20050 0xFFFF, rg GLB_EVT_SEQ 1 4 0 0, rg GLB_SERIAL_LO 2 4 0 0,
    rg GLB_RX_FMT 4 4 0 0, rg GLB_SESSIONS 1 4 0 0, rg GLB_GPIO_DIR 2 4 0 0xFFFF,
    rg GLB_GPIO_IN 1 4 0 0, rg (GLB_SCRATCH 0) 4 4 0 ALL ]

/-- Block 0x1 (20 R496 to R498). -/
def seqRegs : List RegDesc :=
  [ rg SEQ_STATUS 1 4 0 0 0x1F, rg SEQ_RATE 1 4 0 0, rg SEQ_NEXT_LO 6 4 0 0,
    rg SEQ_HIST_BASE 2 4 0 0, rg (SEQ_PROG_STAT 0) 256 4 0 0 ]

/-- Block 0x2 (04 R110 to R114). -/
def emtRegs : List RegDesc :=
  [ rg EMT_STATUS 1 4 0 0 0x39F0, rg EMT_CLIPPED 1 4 0 0 0xF0,
    rg (EMT_FIRE_TIME 0) 8 4 0x00280000 ALL, rg (EMT_FIRE_MODE 0) 8 4 0x40000000 0xFF0F0003,
    rg EMT_MATRIX_CFG 1 4 0x00320064 ALL, rg EMT_MATRIX_LINES_A 1 4 0 0xFFFF,
    rg EMT_MATRIX_LINES_K 1 4 0 ALL, rg EMT_MATRIX_WMAX 1 4 400 0xFFFF,
    rg (EMT_COMP_SEL 0) 4 4 0xFFFF 0xFFFF, rg (EMT_BUDGET_RATED 0) 4 16 1 0xFFFFFF,
    rg (EMT_BUDGET_REFILL 0) 4 16 1 0xFFFFFF, rg (EMT_BUDGET_OVERDRIVE 0) 4 16 0x0100 0xFFFF,
    rg (EMT_BUDGET_LEVEL 0) 4 16 0 0, rg (EMT_OT_CFG 0) 4 4 0xFF000320 0xFF00FFFF,
    rg EMT_CHAIN_CFG 1 4 0x7C000800 0xFF003F3F, rg EMT_CHAIN_STATUS 1 4 0 0,
    rg EMT_1W_CFG 1 4 20 0xFF, rg (EMT_SHORT_GND 0) 6 4 0 0 ]

/-- Block 0x3 (05 R139 to R142). The registers of banks and loop state are read live. COMP of an odd PWM output, which
R142 gives no function, can be written and is without effect (DESIGN CHOICE, notes/assumptions). -/
def cleRegs : List RegDesc :=
  [ rg CLE_STATUS 1 4 0 0 0x30000, rg CLE_LOAD 1 4 0 0, rg CLE_SPI_CFG 1 4 3 0xFF,
    rg (CLE_LOOP_STAT 0) 16 4 0 0 0x1F0, rg (CLE_LOOP_IO 0) 16 4 0 0,
    rg (CLE_LOOP_SP 0) 16 4 0 ALL, rg (CLE_LOOP_SPLIM 0) 64 4 0 0,
    rg (CLE_PWM_CFG 0) 16 4 2000 0xF8FFFFFF, rg (CLE_DAC_SAFE 0) 6 4 0x8000 0xFFFF,
    rg (CLE_SPI_SLOT 0) 4 4 0 0xFF0000, rg (CLE_SPI_RX 0) 4 4 0 0,
    rg (CLE_ENC_CFG 0) 1 32 0 0x80000F39, rg (CLE_ENC_CFG 1) 1 32 0 0x00000F39,
    rg (CLE_ENC_POS 0) 2 32 0 0, rg (CLE_ENC_ZERO 0) 2 32 0 ALL,
    rg (CLE_ENC_PFS 0) 2 32 32768 ALL, rg (CLE_ENC_VFS 0) 2 32 1000000 ALL,
    rg (CLE_ENC_IDX 0) 2 32 0 0, rg (CLE_ENC_ERR 0) 2 32 0 0 ]

/-- Block 0x4 (06 R174 to R177). -/
def hchRegs : List RegDesc :=
  [ rg HCH_STATUS 1 4 0 0 0x4, rg HCH_CAL_CFG 1 4 0x05801405 0x07F8FFFF, rg HCH_WALK_CFG 1 4 16 0xFF,
    rg TDC_TABLE_BASE 1 4 0 0, rg (HCH_THRESH 0) 512 4 200 0x03FF03FF,
    rg (HCH_CFG 0) 512 4 0x00070100 0x000E0F03, rg (HCH_ROUTE 0) 512 4 0 0,
    rg (HCH_TRIM 0) 512 4 0 0, rg (HCH_WALK_SEL 0) 64 4 0xFFFF 0xFFFF,
    rg (HCH_EV_CFG 0) 8 4 3 0x3B, rg (HCH_FREQ 0) 32 4 0 0, rg (TDC_DROP 0) 567 4 0 0,
    rg (TDC_BLIND 0) 567 4 0 0, rg (TDC_CAL_STAT 0) 567 4 0 0, rg (TDC_ASSIGN 0) 567 4 0 0 ]

/-- Block 0x5 (07 R203 to R206). HEN_MAP_g resets to g. -/
def henRegs : List RegDesc :=
  [ rg HEN_STATUS 1 4 0 0,
    { base := HEN_MAP 0, count := 64, stride := 4, reset := fun g => g, rw := 0, w1c := 0, w1s := 0 },
    rg (HEN_STATE 0) 68 4 0 0, rg (HEN_STAT 0) 68 4 0 0 0x7F, rg (HEN_IMG 0) 136 4 0 0,
    rg (HEN_WCET 0) 68 4 0 0, rg (HEN_MAXRUN 0) 68 4 0 0, rg (HEN_PAIRS 0) 68 4 0 0,
    rg (HEN_RECS 0) 68 4 0 0, rg (HEN_RUNS 0) 68 4 0 0 ]

/-- Block 0x6 (08 R221, R222). -/
def detRegs : List RegDesc :=
  [ rg DET_STATUS 1 4 0 0 0x1F, rg DET_ECHO_CNT 6 4 0 0 ]

/-- Block 0x7 (09 R249 to R252). -/
def wfdRegs : List RegDesc :=
  [ rg WFD_STATUS 1 4 0 0 0x7F, rg WFD_ALLOC 1 4 0 0, rg (WFD_LANE_IN 0) 4 4 0 0,
    rg WFD_GAIN 2 4 0 0, rg WFD_ROT_CFG 1 4 0x00010008 0x000100FF, rg (WFD_SLICE_STAT 0) 17 4 0 0,
    rg (WFD_SLICE_TRIM 0) 34 4 0 0, rg (WFD_FILT_CTRL 0) 16 4 1 0x13F 0 0x80000000,
    rg (WFD_FILT_COEF 0) 256 4 0 ALL, rg (WFD_FILT_ACT 0) 256 4 0 0,
    rg (WFD_CAP_CFG 0) 16 64 0 0xF80F0000 0 0x01000000, rg (WFD_CAP_SRC 0) 16 64 0 0xFFF0007F,
    rg (WFD_CAP_THRESH 0) 16 64 0 0xFFFF, rg (WFD_CAP_PRE 0) 16 64 0 0xFFFF,
    rg (WFD_CAP_POST 0) 16 64 1 ALL, rg (WFD_CAP_STAT 0) 16 64 0 0 0xF0,
    rg (WFD_CAP_MISSED 0) 16 64 0 0, rg (WFD_CAP_MISS_T 0) 16 64 0 0,
    rg (WFD_CAP_MISS_T 0 + 4) 16 64 0 0, rg (WFD_CAP_COUNT 0) 16 64 0 0,
    rg (WFD_CAP_AREA_LO 0) 16 64 0 ALL, rg (WFD_CAP_AREA_HI 0) 16 64 0 ALL,
    rg (WFD_CAP_AREA_SIZE 0) 16 64 0 ALL, rg (WFD_CAP_AREA_FREE 0) 16 64 0 0 ]

/-- Block 0x8 (10 R276 to R278, 11 R294, R295, 20 R500). -/
def outRegs : List RegDesc :=
  [ rg OUT_STATUS 1 4 0 0 0x1E0, rg OUT_PCIE_ALLOW 1 4 2000 0xFFFF, rg OUT_LATE 2 4 0 0,
    rg (OUT_CMDQ_BASE 0) 4 32 0 ALL, rg (OUT_CMDQ_BASE 0 + 4) 4 32 0 ALL,
    rg (OUT_CMDQ_SIZE 0) 4 32 0x404 0xF0F, rg (OUT_CMDQ_TAIL 0) 4 32 0 0xFFF,
    rg (OUT_RPLQ_BASE 0) 4 32 0 ALL, rg (OUT_RPLQ_BASE 0 + 4) 4 32 0 ALL,
    rg (OUT_RPLQ_TAIL 0) 4 32 0 0xFFF, rg (OUT_CMDQ_HEAD 0) 4 32 0 0,
    rg (OUT_DRING_BASE 0) 16 32 0 0xFFFFFFF0, rg (OUT_DRING_BASE 0 + 4) 16 32 0 ALL,
    rg (OUT_DRING_CFG 0) 16 32 0x0A010004 0xFFFF000F, rg (OUT_DRING_TAIL 0) 16 32 0 0xFFF,
    rg (OUT_DRING_HEAD 0) 16 32 0 0, rg (OUT_DRING_FRAMES 0) 16 32 0 0,
    rg (OUT_ETH_MAC_LO 0) 4 32 0 ALL, rg (OUT_ETH_MAC_HI 0) 4 32 0 0xFFFF,
    rg (OUT_ETH_IP 0) 4 32 0 ALL, rg (OUT_ETH_CFG 0) 4 32 0x40177020 0xFFFFFC35,
    rg (OUT_ETH_RXDROP 0) 4 32 0 0, rg (OUT_ETH_TXDG 0) 4 32 0 0,
    rg (OUT_STREAM_FSEQ 0) 256 4 0 0, rg ADM_STATUS 1 4 0 0 0x39, rg ADM_AMBIENT 1 4 30000000 ALL,
    rg ADM_STAGE_BASE_LO 1 4 0 0xFFFF0000, rg ADM_STAGE_BASE_HI 1 4 0 ALL,
    rg ADM_STAGE_SIZE 1 4 8192 0xFFFF, rg ADM_FAULT_US 1 4 600 0, rg ADM_REFUSALS 1 4 0 0,
    rg (ADM_SHARE 0) 18 4 0 0 ]

/-- Block 0x9 (12 R318 to R320). -/
def timRegs : List RegDesc :=
  [ rg TIM_STATUS 1 4 0 0 0x7, rg TIM_REF_CFG 1 4 0 0, rg TIM_WARM_CFG 1 4 0x0A00C8AA 0xFFFFFFFE,
    rg TIM_REF_OFFSET 1 4 0 0, rg TIM_SHOT_LO 6 4 0 0, rg TIM_PTP_LOG_BASE 1 4 0 0,
    rg (TIM_XS_IMG 0) 16 4 0 0, rg (TIM_PTP 0 0x00) 4 64 0 0, rg (TIM_PTP 0 0x04) 4 64 0 0,
    rg (TIM_PTP 0 0x08) 4 64 0 0, rg (TIM_PTP 0 0x0C) 4 64 0 0, rg (TIM_PTP_JUMP 0) 4 64 1000000 ALL,
    rg (TIM_PTP_ASYM 0) 4 64 0 ALL, rg (TIM_PTP_CFG 0) 4 64 0x640000 0xFF0003,
    rg (TIM_PTP_HEAD 0) 4 64 0 0, rg (TIM_PTP_CORR_LO 0) 4 64 0 0, rg (TIM_PTP_CORR_HI 0) 4 64 0 0,
    rg (TIM_PTP_WRAPS 0) 4 64 0 0 ]

/-- Reset step table of 14 R353; entries past the reset count of four read 0 (a design choice). -/
def stepReset (i : Nat) : Nat :=
  nth [0x100, 0x140, 0x180, 0x200] i 0

/-- Reset allowances of 14 R365 in ms. -/
def tmoReset (i : Nat) : Nat :=
  nth [1000, 1000, 200, 500, 100, 100] i 0

/-- Block 0xA (13 R342 to R345, 14 R367, R368). -/
def hkaRegs : List RegDesc :=
  [ rg HKA_STATUS 1 4 0 0 0x1F8, rg HKA_SEQ_CFG 1 4 0x03E80A01 0xFFFFFF01,
    rg HKA_INJ_CFG 1 4 0x00200000 0xC0FF0000 0 0x1, rg HKA_WIN 1 4 0x7FFF8000 ALL,
    rg HKA_ROT_CFG 1 4 0x00010032 0x000100FF, rg HKA_SEQ_CNT 3 4 0 0,
    rg (HKA_IN_CFG 0) 24 4 31 0xFFFFFF9F, rg (HKA_RES 0) 46 4 0 0, rg (HKA_HELD 0) 46 4 0 0,
    rg (HKA_RAW 0) 46 4 0 0, rg (HKA_REG_STEP 0) 32 4 0 0, rg (HKA_INJ_STEP 0) 8 4 0 0,
    rg (HKA_IEX_STAT 0) 4 4 0 0, rg (HKA_SH 0 0) 8 16 0 ALL, rg (HKA_SH 0 1) 8 16 0 ALL,
    rg (HKA_SH 0 2) 8 16 0 ALL, rg (HKA_USER_SEL 0) 24 4 0xFFFF 0xFFFF,
    rg THM_STATUS 1 4 0 0 0x60, rg THM_CFG 1 4 0x64320004 0xFFFF000F, rg THM_TS_FAIL 1 4 0 0,
    rg (THM_STEP_TAB 0) 1 4 0x100 0,
    { base := THM_STEP_TAB 1, count := 7, stride := 4, reset := fun i => stepReset (i + 1),
      rw := 0xFFFF, w1c := 0, w1s := 0 },
    rg (THM_ZONE_A 0) 8 8 0x044C03E8 ALL, rg (THM_ZONE_B 0) 8 8 1250 0xFFFF, rg (THM_ZONE_T 0) 8 4 0 0,
    rg (THM_TS 0) 24 4 0 0, rg (THM_SUBST 0) 24 4 0xFF 0xFF ]

/-- Block 0xB (14 R367, R369). -/
def calRegs : List RegDesc :=
  [ rg CAL_STATUS 1 4 0 0 0x10, rg CAL_CFG 1 4 0x050A14BB 0xFFFFFFBF, rg CAL_TDIE 6 4 0 0,
    { base := CAL_TMO 0, count := 6, stride := 4, reset := tmoReset, rw := 0xFFFF, w1c := 0,
      w1s := 0 },
    rg (CAL_SET_INFO 0) 8 4 0 0 ]

/-- Block 0xC (15 R384, R385). -/
def memRegs : List RegDesc :=
  [ rg MEM_STATUS 1 4 0 0 0xF, rg MEM_CFG 1 4 10 0xFF, rg MEM_SCRUB_CFG 1 4 0x1808 0xFFFF,
    rg MEM_NR_CFG 1 4 64 0x7FF, rg MEM_SNAP_BASE_LO 1 4 0 0xFFF00000, rg MEM_SNAP_BASE_HI 1 4 0 ALL,
    rg MEM_SNAP_SIZE 1 4 256 0xFFFF, rg MEM_CAND_BASE 3 4 0 0, rg (MEM_CH_CTRL 0) 2 0x100 0 0 0 0x1,
    rg (MEM_CH_STAT 0) 2 0x100 0 0, rg (MEM_CE 0) 2 0x100 0 0, rg (MEM_UE 0) 2 0x100 0 0,
    rg (MEM_NR_CNT 0) 2 0x100 0 0, rg (MEM_DLY 0 0 0 0) 20 4 0 ALL, rg (MEM_DLY 0 1 0 0) 20 4 0 ALL,
    rg (MEM_DLY 1 0 0 0) 20 4 0 ALL, rg (MEM_DLY 1 1 0 0) 20 4 0 ALL,
    rg (MEM_CA 0 0) 2 0x100 0 0x00FFFFFF, rg (MEM_CA 1 0) 2 0x100 0 0x00FFFFFF ]

/-- Block 0xD (16 R412): every register is RO. -/
def safRegs : List RegDesc :=
  [ rg SAF_IDENT 9 4 0 0, rg (SAF_TG_BAD 0) 7 4 0 0, rg 0xD0100 64 4 0 0 ]

/-- Block 0xE (17 R435 to R437). -/
def repRegs : List RegDesc :=
  [ rg REP_STATUS 1 4 0 0 0x7, rg REP_CFG 1 4 0x003C3201 0xFFFFFF01, rg REP_MIG_STAT 8 4 0 0,
    rg 0xE0030 3 4 0 0, rg 0xE0100 18 4 0 0, rg 0xE0180 3 4 0 0, rg 0xE0200 17 4 0 0 ]

/-- Block 0xF (18 R459 to R461, 19 R481 to R483). -/
def iflRegs : List RegDesc :=
  [ rg IFL_CFG 1 4 0x00A00000 0xC0F0000F, rg IFL_STATUS 1 4 0 0 0x7, rg IFL_DTREE_LO 4 4 0 0,
    rg (IFL_PORT 0 0x00) 4 32 0 0, rg (IFL_ASYM 0) 4 32 0 ALL, rg (IFL_PORT 0 0x08) 4 32 0 0,
    rg (IFL_PORT 0 0x0C) 4 32 0 0, rg (IFL_BLK_ERR 0) 4 32 0 0, rg (IFL_FRM_DROP 0) 4 32 0 0,
    rg BOOT_STATUS 1 4 0 0, rg BOOT_CFG 1 4 0x03840100 0xFFFF0100, rg BOOT_ID 4 4 0 0,
    rg BOOT_FLASH_MB 1 4 32 0, rg (BOOT_SLOT 0) 4 4 0 0 ]

/-- The register tables by block (20 R484). -/
def regBlock (b : Nat) : List RegDesc :=
  nth [glbRegs, seqRegs, emtRegs, cleRegs, hchRegs, henRegs, detRegs, wfdRegs, outRegs, timRegs,
    hkaRegs, calRegs, memRegs, safRegs, repRegs, iflRegs] b []

/-- Whether an address is an instance of a row. -/
def RegDesc.hits (d : RegDesc) (a : Nat) : Bool :=
  decide (d.base ≤ a) && (a - d.base) % d.stride == 0 && decide ((a - d.base) / d.stride < d.count)

/-- The row that lists an address. -/
def regDesc (a : Nat) : Option RegDesc :=
  (regBlock (a / 0x10000)).find? fun d => d.hits a

/-- What an address reads as while nothing is stored there: the reset value, zero where no table
lists it (20 R485). -/
def regReset (a : Nat) : Word :=
  match regDesc a with
  | some d => BitVec.ofNat 32 (d.reset ((a - d.base) / d.stride))
  | none => 0

/-- The stored bits of a register. -/
def State.reg (s : State) (a : Nat) : Word :=
  Sparse.get regReset s.regs a

/-- Stores a register. Hardware may store any bit; a master's write goes through writeRegister. -/
def State.setReg (s : State) (a : Nat) (v : Word) : State :=
  { s with regs := Sparse.set regReset s.regs a v }

/-- A register's stored bits as a number. -/
def State.regN (s : State) (a : Nat) : Nat :=
  (s.reg a).toNat

/-- The bits hi down to lo of a register. -/
def State.fld (s : State) (a hi lo : Nat) : Nat :=
  bits (s.regN a) hi lo

/-- Stores a register from a number. -/
def State.setRegN (s : State) (a v : Nat) : State :=
  s.setReg a (BitVec.ofNat 32 v)

/-- Replaces the bits hi down to lo of a register. -/
def State.setFld (s : State) (a hi lo v : Nat) : State :=
  let old := s.regN a
  let w := 2 ^ (hi - lo + 1)
  s.setRegN a (old - bits old hi lo * 2 ^ lo + v % w * 2 ^ lo)

/-- Latches bits of a status register (20 R499). -/
def State.latch (s : State) (a m : Nat) : State :=
  s.setReg a (s.reg a ||| BitVec.ofNat 32 m)

/-- Clears bits of a register. -/
def State.unlatch (s : State) (a m : Nat) : State :=
  s.setReg a (s.reg a &&& ~~~ BitVec.ofNat 32 m)

/-- Records a wrap whose EVENT COUNTER_WRAP sends (00 R15, 02 R520). -/
def State.noteWrap (s : State) (unit window offset width : Nat) : State :=
  { s with pk.wraps := s.pk.wraps ++
      [{ unit := BitVec.ofNat 8 unit, window := BitVec.ofNat 8 window, offset := offset
         width := width, at_ := s.tim.sys5 / 5 }] }

/-- Advances a 32-bit counter held in a register by n, wrapping under 00 R15. -/
def State.bumpBy (s : State) (a n : Nat) : State :=
  let v := s.regN a + n
  let s' := s.setRegN a v
  if v < 2 ^ 32 then s' else s'.noteWrap (a / 0x10000) 0 a 32

/-- Advances a 32-bit counter held in a register by one. -/
def State.bump (s : State) (a : Nat) : State :=
  s.bumpBy a 1

/-- A 64-bit value held in a register pair (20 R488). -/
def State.pair (s : State) (a : Nat) : Nat :=
  s.regN a + 2 ^ 32 * s.regN (a + 4)

/-- The registers kept under RESET scope 1 (20 R490), and the island's block (16 R412). -/
def keptScope1 (a : Nat) : Bool :=
  a == GLB_CMD_UDP_PORT || (GLB_GPIO_DIR ≤ a && a ≤ GLB_GPIO_OUT) ||
  (GLB_SCRATCH 0 ≤ a && a ≤ GLB_SCRATCH 3) || (OUT_CMDQ_BASE 0 ≤ a && a < 0x80500) ||
  a == IFL_CFG || (List.range 4).any (fun p => a == IFL_ASYM p) ||
  (List.range 4).any (fun p => a == TIM_PTP_JUMP p || a == TIM_PTP_ASYM p || a == TIM_PTP_CFG p)

/-- The registers that only Thrumi writes (20 R489). -/
def fwOnly (a : Nat) : Bool :=
  a == ADM_AMBIENT || a == ADM_STAGE_SIZE || a == ADM_STAGE_BASE_LO || a == ADM_STAGE_BASE_HI ||
  a == THM_CFG || (THM_STEP_TAB 0 ≤ a && a ≤ THM_STEP_TAB 7) || a == EMT_MATRIX_CFG ||
  a == EMT_MATRIX_LINES_A || a == EMT_MATRIX_LINES_K || a == EMT_MATRIX_WMAX ||
  (List.range 4).any (fun g => a == EMT_BUDGET_RATED g || a == EMT_BUDGET_REFILL g ||
    a == EMT_BUDGET_OVERDRIVE g || a == EMT_COMP_SEL g) ||
  (EMT_FIRE_MODE 0 ≤ a && a ≤ EMT_FIRE_MODE 7) || (HCH_WALK_SEL 0 ≤ a && a ≤ HCH_WALK_SEL 63) ||
  (HKA_USER_SEL 0 ≤ a && a ≤ HKA_USER_SEL 23) || (List.range 16).any (fun n => a == OUT_DRING_CFG n) ||
  (List.range 4).any (fun p => a == OUT_ETH_CFG p) || a == IFL_CFG

end Sys2Proof.Machine
end

