-- ==== Sys2Proof/Machine/Ops.lean ====
section
/-!
DEFINITION. Named operations shared by every unit: time, free values, packets as bytes, sending to a
session, EVENTs (02 R50, R55, R56), incidents (17 R430 to R434) and wraps (00 R15, 02 R520).
-/
namespace Sys2Proof.Machine

/-- The outcome of a command. -/
abbrev Res := Host.Outcome State Fault Refusal

/-! Spans in ticks of 800 ps (00 R14). -/

def ticksNs (n : Nat) : Nat := ceilDiv (5 * n) 4
def ticksUs (n : Nat) : Nat := 1250 * n
def ticksMs (n : Nat) : Nat := 1250000 * n
def ticksS (n : Nat) : Nat := 1250000000 * n

/-- TB_SYS in ns (12 R296). -/
def State.sysNs (s : State) : Nat := s.tim.sys5 / 5

/-- TB_SHOT as its 48-bit base (12 R296). -/
def State.tbShot (s : State) : Nat := s.tim.shot % 2 ^ 48

/-- The role of the device: 0 standalone, 1 manager, 2 worker (18 R460). -/
def State.role (s : State) : Nat := s.fld IFL_CFG 31 30

/-- The timing PLL has the reference of its role: REFIN, or on a worker the recovered clock of the port to its parent,
while that link is up (18 R444). -/
def State.hasRef (s : State) : Bool :=
  if s.role = 2 then s.ifl.ports.any fun p => p.parent && p.locked else s.tim.refin

/-- D_tree in force at a tick (18 R446). -/
def State.dtreeAt (s : State) (tick : Nat) : Int :=
  match s.ifl.dtree.find? fun x => decide (x.1 ≤ tick) with
  | some x => x.2
  | none => 0

/-- What a worker subtracts from its own time at a tick to give tree time (18 R446). -/
def State.treeShift (s : State) (tick : Nat) : Int :=
  if s.role = 2 then s.dtreeAt tick else 0

/-- The time now in fine LSB, not wrapped: a calibrated time, so on a worker in tree time (18 R446). -/
def State.fineNow (s : State) : Nat := (2048 * (s.tim.shot : Int) - s.treeShift s.tim.shot).toNat

/-- A calibrated time in the device's own time. -/
def State.ownTime (s : State) (t : Int) : Int := t + s.treeShift (t / 2048).toNat

/-- The time now in 25 ps units of TB_SHOT, not wrapped. -/
def State.unitNow (s : State) : Nat := 32 * s.tim.shot

/-- The unwrapped value nearest a reference that agrees with a value modulo 2^w (00 R15). -/
def nearest (w ref v : Nat) : Nat :=
  let m := 2 ^ w
  let d := (v + m - ref % m) % m
  if d < m / 2 then ref + d else if m - d ≤ ref then ref - (m - d) else ref + d

/-- The number of a configuration generation (02 R46). -/
def State.gen (s : State) : Word := s.reg GLB_CFG_GEN

/-- One more configuration change (02 R47). -/
def State.bumpGen (s : State) : State := s.bump GLB_CFG_GEN

/-- A free value by a label, and the state in which it has been drawn. -/
def State.draw (s : State) (label : Nat) : Nat × State :=
  (Config.freeNat label s.drawn, { s with drawn := s.drawn + 1 })

/-! Packets as bytes (02 R35, R37). -/

/-- Header and payload of a packet. -/
def Packet.body (p : Packet) : List Byte :=
  [0xA5, 0x4E, 0x01, p.opcode, p.flags, p.status] ++ leBytes 2 p.sequence.toNat ++
    leBytes 2 p.payload.length ++ [p.target, p.cls] ++ leBytes 4 p.gen.toNat ++ p.payload

/-- The trailer's CRC. -/
def Packet.crc (p : Packet) : Word := crc32c p.body

/-- A packet with its trailer. -/
def Packet.bytes (p : Packet) : List Byte := p.body ++ leBytes 4 p.crc.toNat

end Sys2Proof.Machine

namespace Sys2Proof

/-- Two origins name one session (02 R57, R59, R62): a UDP session is its source address and port alone. -/
def Origin.same (a b : Origin) : Bool :=
  match a, b with
  | .udp _ _ ip port _, .udp _ _ ip' port' _ => decide (ip = ip') && decide (port = port')
  | a, b => decide (a = b)

/-- The packet that a row's opcode and request spell. -/
def Request.packet (opcode : Nat) (r : Request) : Machine.Packet :=
  { opcode := BitVec.ofNat 8 opcode, flags := r.flags, status := r.status, sequence := r.sequence
    target := r.target, cls := r.cls, gen := r.gen, payload := r.payload }

end Sys2Proof

namespace Sys2Proof.Machine

/-- How a received byte string fails the first steps of acceptance (02 R43). -/
inductive Parse where
  | format
  | crc (p : Packet)
  | packet (version : Byte) (p : Packet)
  deriving DecidableEq, Repr

/-- Reads a packet from the bytes a transport delivered (02 R35, R43). -/
def parsePacket (l : List Byte) : Parse :=
  let len := field l 8 2
  if l.length < 20 || nth l 0 0 != 0xA5 || nth l 1 0 != 0x4E || l.length != 20 + len || 4080 < len then
    .format
  else
    let p : Packet :=
      { opcode := nth l 3 0, flags := nth l 4 0, status := nth l 5 0
        sequence := BitVec.ofNat 16 (field l 6 2), target := nth l 10 0, cls := nth l 11 0
        gen := BitVec.ofNat 32 (field l 12 4), payload := slice l 16 len }
    if crc32c (l.take (16 + len)) = BitVec.ofNat 32 (field l (16 + len) 4) then
      .packet (nth l 2 0) p
    else .crc p

/-! Sessions. -/

/-- The session of an origin, if it is open. -/
def State.session (s : State) (o : Origin) : Option Session :=
  s.pk.sessions.find? fun x => x.origin.same o

/-- Changes the session of an origin. -/
def State.setSession (s : State) (o : Origin) (f : Session → Session) : State :=
  { s with pk.sessions := s.pk.sessions.map fun x => if x.origin.same o then f x else x }

/-- Queues a link frame: a priority frame goes before every bulk frame, kind 4 (18 R443). -/
def queueFrame (l : List LinkTx) (f : LinkTx) : List LinkTx :=
  if f.kind = 4 then l ++ [f] else (l.filter fun x => x.kind != 4) ++ f :: l.filter fun x => x.kind == 4

/-- Queues a link frame on a port (18 R443, R454) under the next link frame sequence, which wraps under 00 R15. -/
def State.linkSend (s : State) (port kind dev : Nat) (sess : Byte) (data : List Byte) : State :=
  let q := s.ifl.frameSeq + 1
  let s := if q = 0 then s.noteWrap 0xF 0xFF 0 16 else s
  { s with
    ifl.frameSeq := q
    ifl.ports := upd s.ifl.ports port fun (p : LinkPort) =>
      { p with tx := queueFrame p.tx (LinkTx.mk kind dev sess q data s.time) } }

/-- Sends a control block on every joined port (18 R442). -/
def State.sendBlock (s : State) (type value : Nat) (skip : Option Nat := none) : State :=
  (List.range 4).foldl (fun t p =>
    if (nth t.ifl.ports p .reset).state == 3 && skip != some p then
      { t with ifl.blocks := (p, type, value) :: t.ifl.blocks }
    else t) s

/-- Sends a reply or an EVENT to a session: MSPI holds it until it is read (02 R60), a forwarded
origin gets a priority link frame (18 R454), the internal queue keeps none, and every other session
is served by the output scheduler under the deadline given (02 R42, 10 R273). -/
def State.sendTo (s : State) (dest : Origin) (deadline : Nat) (p : Packet) : State :=
  match dest with
  | .mspi => { s with pk.mspiReply := s.pk.mspiReply ++ [p] }
  | .ifl port dev sess => s.linkSend port (if bit p.flags.toNat 6 then 2 else 1) dev sess p.bytes
  | .internal => s
  | _ => { s with
           out.packets := s.out.packets ++ [{ dest := dest, deadline := deadline, packet := p }] }

/-! EVENTs (02 R50, R55, R56). -/

/-- The sequence after a sequence that never takes the value 0 (02 R55, 17 R433). -/
def nextSeq (w : Word) : Word := if w = 0xFFFFFFFF then 1 else w + 1

/-- The 32-byte payload of an EVENT (02 R50). -/
def eventPayload (seq : Word) (code cls unit sysNs : Nat) (detail : List Byte) : List Byte :=
  leBytes 4 seq.toNat ++ leBytes 1 code ++ leBytes 1 cls ++ leBytes 1 unit ++ [0] ++
    leBytes 8 sysNs ++ slice detail 0 16

/-- A session is open. A disabled ring pair is none (02 R58): of its session only the reply cache stays (19 R478). -/
def State.isOpen (s : State) (x : Session) : Bool :=
  match x.origin with
  | .ring n => (match s.pk.rings[n.val]? with | some r => r.enabled | none => false)
  | _ => true

/-- Issues an EVENT: the log of window 0x74 keeps it, and it goes to the session that sent the
packet it completes and to every open session whose mask selects its class (02 R55, R56), under the
class 0 bound (02 R42). SEQUENCE is that of the packet it completes (02 R41) and otherwise the device's own
choice, a free value (02 R35; notes/assumptions). `dated` is the TB_SYS of what it reports, the present one where none
is given. -/
def State.event (s : State) (code cls unit : Nat) (detail : List Byte)
    (owner : Option (Origin × Half) := none) (dated : Option Nat := none) : State :=
  let chosen := s.draw 8
  let s := if owner.isSome then s else chosen.2
  let old := s.reg GLB_EVT_SEQ
  let seq := nextSeq old
  let pl := eventPayload seq code cls unit (dated.getD s.sysNs) detail
  let p : Packet :=
    { opcode := 0x0F, flags := 0x40, status := 0
      sequence := match owner with | some (_, q) => q | none => BitVec.ofNat 16 chosen.1
      target := BitVec.ofNat 8 (16 * s.ifl.dev + unit), cls := 0, gen := s.gen, payload := pl }
  let dests := (s.pk.sessions.filter fun x =>
      s.isOpen x && (bit x.mask.toNat cls || (match owner with | some (o, _) => x.origin.same o | none => false))).map
    Session.origin
  let s := { s with pk.events := EventRec.mk seq pl :: s.pk.events.filter fun x => x.seq.toNat % 4096 != seq.toNat % 4096 }
  let s := s.setReg GLB_EVT_SEQ seq
  let s := if old = 0xFFFFFFFF then s.noteWrap 0 0 GLB_EVT_SEQ 32 else s
  dests.foldl (fun t o => t.sendTo o (s.time + ticksMs 2) p) s

/-- The completion EVENT of a packet answered ACCEPTED (02 R41, R56). -/
def State.complete (s : State) (owner : Origin × Half) (code unit : Nat) (detail : List Byte := []) :
    State :=
  s.event code 0 unit detail (some owner)

/-- The codes that an EVENT may carry: the status codes of 02 R41. -/
def eventCodes : List Nat :=
  [0x00, 0x01, 0x10, 0x11, 0x12, 0x13, 0x14, 0x15, 0x16, 0x17, 0x18, 0x19, 0x1A, 0x20, 0x21, 0x22, 0x23, 0x24, 0x30,
    0x31, 0x32, 0x33, 0x40, 0x41, 0x50, 0x51, 0x60, 0x61, 0x7F]

/-- An EVENT of a condition for which the spec states a class and no code or no detail: those are free
values (notes/assumptions), the code one of 02 R41. -/
def State.openEvent (s : State) (cls unit : Nat) (detail : Option (List Byte) := none) : State :=
  let x := s.draw 5
  let y := x.2.draw 6
  match detail with
  | some d => x.2.event (nth eventCodes (x.1 % 29) 0) cls unit d
  | none => y.2.event (nth eventCodes (x.1 % 29) 0) cls unit (leBytes 16 y.1)

/-! Incidents (17 R430 to R434). -/

/-- A cause key (17 R430). -/
def causeKey (cls cause obj : Nat) : Word :=
  BitVec.ofNat 32 (cls * 0x1000000 + cause * 0x10000 + obj)

/-- The EVENT of an incident's window close or clearance (17 R434). -/
def State.incidentEvent (s : State) (i : Incident) : State :=
  s.event 0 3 0xE (leBytes 4 i.iseq.toNat ++ leBytes 4 i.key.toNat ++ leBytes 4 i.reports ++
    leBytes 2 i.devices.toNat ++ leBytes 1 i.state ++ [0])

/-- The entry of the table that a new incident takes: a free one, else that of the oldest cleared
incident; none when all are open (17 R433). -/
def freeSlot (l : List Incident) : Option Nat :=
  match (List.range 1023).find? (fun k => l.all fun i => i.slot != k) with
  | some k => some k
  | none =>
    (l.filter fun i => i.state == 2).foldl (fun best i =>
      match best with
      | none => some (i.iseq, i.slot)
      | some (q, k) => if (q - i.iseq).toNat < 2 ^ 31 then some (i.iseq, i.slot) else some (q, k)) none
    |>.map Prod.snd

/-- Adds a report to an incident (17 R431, R432). -/
def Incident.join (i : Incident) (now : Nat) (reports : Nat) (devices : Half) (ended : Bool) : Incident :=
  { i with lastT := now, reports := min 0xFFFFFFFF (i.reports + reports)
           devices := i.devices ||| devices, ended := ended }

/-- A report of a cause key (17 R430, R431): it joins the key's incident while that is ACTIVE or in
its window of 2 ms, and otherwise opens one. REPORTS and DEVICES are those of a forwarded incident
under R432. The window of a manager with a joined worker is 20 us longer (18 R458). -/
def State.reportWith (s : State) (key : Word) (block inst : Nat) (ended : Bool) (reports : Nat)
    (devices : Half) (firstDev : Nat) : State :=
  let joins (i : Incident) : Bool :=
    decide (i.key = key) && (i.state == 1 || (i.state == 0 && decide (s.time ≤ i.closes)))
  if s.rep.incidents.any joins then
    { s with rep.incidents := s.rep.incidents.map fun i =>
        if joins i then i.join s.sysNs reports devices ended else i }
  else
    match freeSlot s.rep.incidents with
    | none => (s.bump REP_INC_DROP).latch REP_STATUS 0x2
    | some slot =>
      let (f, s) := s.draw 1
      let seq := nextSeq s.rep.iseq
      let longer := s.fld IFL_CFG 31 30 == 1 && firstDev == s.ifl.dev && s.ifl.ports.any (fun p => p.state == 3)
      let i : Incident :=
        { slot := slot, iseq := seq, key := key, firstT := s.sysNs, lastT := s.sysNs
          reports := reports, devices := devices, state := 0
          firstBy := BitVec.ofNat 32 (firstDev * 2 ^ 28 + block * 2 ^ 24 + inst % 65536)
          detail := leBytes 16 f, repair := 0xFFFFFFFF
          closes := s.time + ticksUs (if longer then 2020 else 2000), ended := ended }
      let s := if s.rep.iseq = 0xFFFFFFFF then s.noteWrap 0xE 0 REP_INC_HEAD 32 else s
      { s with rep.iseq := seq
               rep.incidents := s.rep.incidents.filter (fun x => x.slot != slot) ++ [i] }

/-- A report by this device. `ended` says that the cause is transient or repaired. -/
def State.report (s : State) (key : Word) (block inst : Nat) (ended : Bool) : State :=
  s.reportWith key block inst ended 1 (BitVec.ofNat 16 (2 ^ s.ifl.dev)) s.ifl.dev

/-- The cause of a key has ended: an incident in its window is marked so, an ACTIVE one becomes
CLEARED with an EVENT (17 R431, R434). -/
def State.endCause (s : State) (key : Word) : State :=
  let act := s.rep.incidents.filter fun i => decide (i.key = key) && i.state == 1
  let s := { s with rep.incidents := s.rep.incidents.map fun i =>
      if i.key = key then
        if i.state == 1 then { i with state := 2, lastT := s.sysNs, ended := true }
        else if i.state == 0 then { i with ended := true } else i
      else i }
  act.foldl (fun t i => t.incidentEvent { i with state := 2 }) s

/-- Names the repair map entry that was made for a key's newest incident (17 R433). -/
def State.incidentRepair (s : State) (key : Word) (mapSeq : Word) : State :=
  { s with rep.incidents := s.rep.incidents.map fun i =>
      if i.key = key ∧ i.state ≠ 2 then { i with repair := mapSeq } else i }

/-- Incidents that are COLLECTING or ACTIVE (20 R501). -/
def State.openIncidents (s : State) : Nat :=
  (s.rep.incidents.filter fun i => i.state != 2).length

/-! Tables of the table store (02 R521). -/

/-- The committed table of a kind and ID. -/
def State.table (s : State) (kind id : Nat) : Option Table :=
  s.pg.tables.find? fun t => t.kind.toNat == kind && t.id.toNat == id

/-! Programs. -/

/-- The program of an ID that has not been withdrawn. -/
def State.prog (s : State) (p : Nat) : Option Prog := nth s.pg.progs p none

/-- Replaces a program. -/
def State.setProg (s : State) (p : Nat) (f : Prog → Prog) : State :=
  { s with pg.progs := upd s.pg.progs p (Option.map f) }

/-- A program is ARMED, RUNNING, WAITING or STOPPING. -/
def Prog.live (p : Prog) : Bool :=
  p.state == .armed || p.state == .running || p.state == .waiting || p.state == .stopping

/-- Some program is ARMED, RUNNING, WAITING or STOPPING. -/
def State.anyLive (s : State) : Bool :=
  s.pg.progs.any fun p => match p with | some q => q.live | none => false

/-- The programs of the 64 IDs that have not been withdrawn, with their IDs. -/
def State.present (s : State) : List (Nat × Prog) :=
  (s.pg.progs.take 64).zipIdx.filterMap fun (p, i) => p.map fun q => (i, q)

/-- Changes an engine. -/
def State.setEng (s : State) (e : Nat) (f : Engine → Engine) : State :=
  { s with hen := upd s.hen e f }

/-- An engine by its number. -/
def State.eng (s : State) (e : Nat) : Engine := nth s.hen e .reset

/-- Changes a channel. -/
def State.setChan (s : State) (c : Nat) (f : Chan → Chan) : State :=
  { s with hch.chans := upd s.hch.chans c f }

/-- A hit channel by its number. -/
def State.chan (s : State) (c : Nat) : Chan := nth s.hch.chans c (.reset c)

/-- Changes a TDC. -/
def State.setTdc (s : State) (t : Nat) (f : Tdc → Tdc) : State :=
  { s with hch.tdcs := upd s.hch.tdcs t f }

/-- A TDC by its index. -/
def State.tdc (s : State) (t : Nat) : Tdc := nth s.hch.tdcs t .reset

/-- The engine that serves a channel group (07 R181). -/
def State.groupEngine (s : State) (g : Nat) : Nat := s.fld (HEN_MAP g) 6 0

/-- The group that an engine serves, if it serves one. -/
def State.engineGroup (s : State) (e : Nat) : Option Nat :=
  (List.range 64).find? fun g => s.groupEngine g == e

end Sys2Proof.Machine
end

