-- ==== Sys2Proof/Machine/Tables.lean ====
section
/-!
DEFINITION. The formats of the tables (03 R67 to R72, 04 R93, 06 R166, 08 R207, 13 R334), their fields,
and the table store (02 R521, 19 R479).
-/
namespace Sys2Proof.Machine

/-- Consecutive chunks of n bytes, as many as stand whole in the string. -/
def chunks (n : Nat) (l : List Byte) : List (List Byte) :=
  if n = 0 then [] else (List.range (l.length / n)).map fun i => slice l (n * i) n

/-- Whether each element stands in a relation to the next. -/
def chain {α : Type} (r : α → α → Bool) : List α → Bool
  | a :: b :: t => r a b && chain r (b :: t)
  | _ => true

/-! Shot tables (03 R67, R68). -/

def seInterval (e : List Byte) : Nat := field e 0 4
def seBeam (e : List Byte) : Nat := field e 4 1
def sePattern (e : List Byte) : Nat := field e 5 1
def sePassSel (e : List Byte) : Nat := field e 6 1
def seEnergy (e : List Byte) : Nat := field e 7 1
def seFlags (e : List Byte) : Nat := field e 8 2
def seTag (e : List Byte) : Nat := field e 10 2
def seDark (e : List Byte) : Bool := bit (seFlags e) 0
def seGroupEnd (e : List Byte) : Bool := bit (seFlags e) 1
def seWfArm (e : List Byte) : Bool := bit (seFlags e) 2
def seAngle (e : List Byte) : Bool := bit (seFlags e) 3
def seNoDither (e : List Byte) : Bool := bit (seFlags e) 4
def seSync (e : List Byte) : Bool := bit (seFlags e) 5

/-- A shot table: 1 to 4,096 entries of 16 bytes, every interval at least 10,000, energy 0 only with
DARK (03 R67, R68). -/
def okShotTable (d : List Byte) : Bool :=
  d.length % 16 == 0 && decide (1 ≤ d.length / 16) && decide (d.length / 16 ≤ 4096) &&
  (chunks 16 d).all fun e => decide (10000 ≤ seInterval e) && (seEnergy e != 0 || seDark e)

/-! Beam sets (03 R70). -/

def beFire (b : List Byte) : Nat := field b 0 1
def beAnode (b : List Byte) : Nat := field b 1 1
def beGroup (b : List Byte) : Nat := field b 2 1
def beCathodes (b : List Byte) : Nat := field b 4 4
def beRx (b : List Byte) : Nat := field b 8 8
def beWf (b : List Byte) : Nat := field b 16 2
def beMatrix (b : List Byte) : Bool := beAnode b != 0xFF

/-- A beam set: 1 to 256 entries of 32 bytes; each uses either the fire outputs or the matrix, and
names a receive group (03 R70). -/
def okBeamSet (d : List Byte) : Bool :=
  d.length % 32 == 0 && decide (1 ≤ d.length / 32) && decide (d.length / 32 ≤ 256) &&
  (chunks 32 d).all fun b =>
    (decide (beAnode b < 16) || beAnode b == 0xFF) && decide (beGroup b < 4) && beRx b != 0 &&
    ((beFire b != 0) != beMatrix b)

/-! Pass window sets (03 R71). -/

def pwCount (d : List Byte) : Nat := field d 0 1
def pwAdjusted (d : List Byte) : Bool := bit (field d 1 1) 0
def pwStart (d : List Byte) (w : Nat) : Nat := field d (16 + 16 * w) 8
def pwLength (d : List Byte) (w : Nat) : Nat := field d (24 + 16 * w) 2
def pwExp (d : List Byte) (w : Nat) : Nat := field d (26 + 16 * w) 1

/-- The adjustment of a channel; 0 when the set has none. -/
def pwAdj (d : List Byte) (c : Nat) : Int :=
  if pwAdjusted d then fieldInt d (16 + 16 * pwCount d + 4 * c) 4 else 0

/-- The adjustments of all channels; empty when the set has none. -/
def pwAdjs (d : List Byte) : List Int :=
  if pwAdjusted d then (List.range 512).map (pwAdj d) else []

/-- A Pass window set (03 R71). -/
def okPassSet (d : List Byte) : Bool :=
  let n := pwCount d
  let ws := List.range n
  let kMax := ws.foldl (fun m w => max m (pwExp d w)) 0
  decide (1 ≤ n) && decide (n ≤ 16) &&
  d.length == 16 + 16 * n + (if pwAdjusted d then 2048 else 0) &&
  ws.all (fun w => decide (pwStart d w < 2 ^ 48) && decide (1 ≤ pwLength d w) &&
    decide (pwLength d w ≤ 4096) && decide (pwExp d w ≤ 6) && pwStart d w % 2 ^ pwExp d w == 0) &&
  (pwAdjs d).all fun a => a % (2 ^ kMax : Nat) == 0

/-! Code sets (03 R72). -/

def csMode (d : List Byte) : Nat := field d 0 1
def csDitherMax (d : List Byte) : Nat := field d 1 1
def csPatterns (d : List Byte) : Nat := field d 2 1
def csBurstK (d : List Byte) : Nat := field d 3 1
def csBurstTol (d : List Byte) : Nat := field d 4 2
def csDitherCount (d : List Byte) : Nat := field d 6 2
def csSeed (d : List Byte) : Nat := field d 8 2
def csPattern (d : List Byte) (i : Nat) : List Byte := slice d (32 + 16 * i) 16
def csDither (d : List Byte) (i : Nat) : Nat := field d (32 + 16 * csPatterns d + i) 1

def paPulses (p : List Byte) : Nat := field p 0 1
/-- The offset of pulse i, 1 to 4, after pulse 1 in 25 ps units (03 R72, 04 R85). -/
def paOffset (p : List Byte) (i : Nat) : Nat := if i ≤ 1 then 0 else field p (2 * i - 2) 2
def paWeight (p : List Byte) (i : Nat) : Nat := field p (7 + i) 1
/-- The offset of the last pulse. -/
def paLast (p : List Byte) : Nat := paOffset p (paPulses p)

/-- A burst pattern (03 R72); its spacing against MIN_SPACING is a rule of the program. -/
def okPattern (p : List Byte) : Bool :=
  let n := paPulses p
  decide (1 ≤ n) && decide (n ≤ 4) &&
  [2, 3, 4].all (fun i =>
    if i ≤ n then decide (paOffset p (i - 1) < paOffset p i) && decide (paOffset p i ≤ 4095)
    else paOffset p i == 0) &&
  [1, 2, 3, 4].all fun i => if i ≤ n then paWeight p i != 0 else paWeight p i == 0

/-- A code set (03 R72, R73). What stands in the padding behind the dither bytes is not asked: R72 states no check of it
(DESIGN CHOICE, notes/assumptions). -/
def okCodeSet (d : List Byte) : Bool :=
  let n := csPatterns d
  let pats := (List.range n).map (csPattern d)
  let dc := csDitherCount d
  let multi := (pats.filter fun p => decide (1 < paPulses p)).map paPulses
  let kMax := multi.foldl min (match multi with | [] => 1 | a :: _ => a)
  decide (csMode d ≤ 2) && decide (n ≤ 16) &&
  d.length == 32 + 16 * n + 16 * ceilDiv dc 16 &&
  decide (1 ≤ csBurstTol d) && decide (csBurstTol d ≤ 64) &&
  (if csMode d == 1 then decide (1 ≤ dc) && decide (dc ≤ 4096) else dc == 0) &&
  (csMode d != 2 || csSeed d != 0) && pats.all okPattern &&
  decide (1 ≤ csBurstK d) && decide (csBurstK d ≤ kMax) &&
  (List.range dc).all fun i => decide (csDither d i ≤ csDitherMax d)

/-! Detection profiles (08 R207). -/

/-- A detection profile (08 R207, R208). -/
def okProfile (d : List Byte) : Bool :=
  let range (v lo hi : Nat) : Bool := decide (lo ≤ v) && decide (v ≤ hi)
  decide (128 ≤ d.length) && decide (d.length ≤ 2048) && d.length % 16 == 0 && field d 0 4 == 1 &&
  field d 4 1 % 4 != 0 && range (field d 6 2) 0 2047 && range (field d 8 4) 0 0x7FFFFFFF &&
  range (field d 12 4) 0 0x7FFFFFFF && range (field d 16 2) 0x100 0x4000 &&
  (List.range 8).all (fun i => !bit (field d (20 + i) 1) i) && range (field d 33 1) 0 15 &&
  range (field d 34 2) 256 65535 && range (field d 36 1) 0 8 && range (field d 37 1) 1 4 &&
  range (field d 40 4) 1 0x7FFFFFFF && range (field d 46 2) 0x100 0xFFFF

/-! Compensation, walk and linearisation tables. -/

/-- A point of a compensation table: TEMP, W0 and WR (04 R93). -/
def compPoint (d : List Byte) (j : Nat) : Int × Nat × Nat :=
  (fieldInt d (16 + 8 * j) 2, field d (18 + 8 * j) 2, field d (20 + 8 * j) 2)

/-- A compensation table (04 R93). -/
def okComp (d : List Byte) : Bool :=
  let n := field d 1 1
  let src := field d 2 1
  let pts := (List.range n).map (compPoint d)
  decide (field d 0 1 < 4) && decide (1 ≤ n) && decide (n ≤ 16) && (decide (src < 24) || src == 0xFF) &&
  d.length == 16 + 8 * n && chain (fun a b => decide (a.1 < b.1)) pts &&
  pts.all fun p => decide (p.2.1 < p.2.2)

/-- A point of a walk table: X and C (06 R166). -/
def walkPoint (d : List Byte) (p : Nat) : Nat × Int := (field d (16 + 8 * p) 4, fieldInt d (20 + 8 * p) 4)

/-- Sections A and B of a walk table. -/
def walkA (d : List Byte) : List (Nat × Int) := (List.range (field d 1 1)).map (walkPoint d)
def walkB (d : List Byte) : List (Nat × Int) :=
  (List.range (field d 2 1)).map fun i => walkPoint d (field d 1 1 + i)

/-- A walk table (06 R166). -/
def okWalk (d : List Byte) : Bool :=
  let a := field d 1 1
  let b := field d 2 1
  field d 0 1 == 1 && decide (a ≤ 64) && decide (b ≤ 64) && a + b != 0 &&
  d.length == 16 + 8 * (a + b) && chain (fun x y => decide (x.1 < y.1)) (walkA d) &&
  chain (fun x y => decide (x.1 < y.1)) (walkB d)

/-- The points of a user linearisation table: X and Y (13 R334). -/
def userPoints (d : List Byte) : List (Int × Int) :=
  (List.range (field d 2 2)).map fun j => (fieldInt d (16 + 4 * j) 2, fieldInt d (18 + 4 * j) 2)

/-- A user linearisation table (13 R334). -/
def okUser (d : List Byte) : Bool :=
  let n := field d 2 2
  field d 0 1 == 1 && decide (2 ≤ n) && decide (n ≤ 256) && d.length == 16 + 4 * n &&
  chain (fun x y => decide (x.1 < y.1)) (userPoints d)

/-- Whether a table of a kind, 1 to 8, passes its format checks. -/
def okTable (kind : Nat) (d : List Byte) : Bool :=
  match kind with
  | 1 => okShotTable d
  | 2 => okBeamSet d
  | 3 => okPassSet d
  | 4 => okProfile d
  | 5 => okCodeSet d
  | 6 => okComp d
  | 7 => okWalk d
  | 8 => okUser d
  | _ => false

/-! The table store, window 0x70 (02 R521, 19 R479). -/

/-- Length of the store. -/
def storeSize : Nat := 0x200000

/-- The objects of the store with their offsets: committed tables, replaced versions still in use,
and program images. -/
def State.storeObjects (s : State) : List (Nat × List Byte) :=
  let cur := s.pg.tables.map fun t => (t.offset, t.data)
  let imgs := s.present.map fun p => (p.2.offset, p.2.image)
  let old := s.present.flatMap fun p => p.2.passTabs.map fun t => (t.offset, t.data)
  cur ++ imgs ++ old.filter fun o => cur.all fun c => c.1 != o.1

/-- The lowest free run of the store of a given size, on a 16-byte boundary behind the directory. -/
def State.findRun (s : State) (size : Nat) : Option Nat :=
  let occ := s.storeObjects.map fun o => (o.1, 16 * ceilDiv o.2.length 16)
  let slots := s.hen.flatMap fun e => e.profiles.filterMap fun x => x.map fun y => (y.2, 2048)
  let occ := occ ++ slots.filter fun o => occ.all fun c => c.1 != o.1
  let free (a : Nat) : Bool :=
    decide (a + size ≤ storeSize) && occ.all fun o => decide (a + size ≤ o.1) || decide (o.1 + o.2 ≤ a)
  let cands := (0x800 :: occ.map fun o => o.1 + o.2).filter free
  cands.foldl (fun b a => match b with | none => some a | some x => some (min x a)) none

/-- The code of a program's state (03 R522). -/
def ProgState.code : ProgState → Nat
  | .idle => 0 | .armed => 1 | .running => 2 | .waiting => 3 | .stopping => 4 | .stopped => 5
  | .suspended => 6

/-- The directory entry of a program ID (19 R479). -/
def State.dirEntry (s : State) (p : Nat) : List Byte :=
  match s.prog p with
  | none => List.replicate 32 0
  | some q => leBytes 2 p ++ [1] ++ leBytes 1 q.state.code ++ leBytes 4 q.offset ++
      leBytes 4 q.image.length ++ leBytes 4 q.genSubmit.toNat ++ List.replicate 16 0

/-- n bytes from an offset on of a space in which objects stand and which reads as zero elsewhere. -/
def overlay (objs : List (Nat × List Byte)) (off n : Nat) : List Byte :=
  objs.foldl (fun acc o =>
    let lo := max off o.1
    let hi := min (off + n) (o.1 + o.2.length)
    if lo < hi then patch acc (lo - off) (slice o.2 (lo - o.1) (hi - lo)) else acc)
    (List.replicate n 0)

/-- Bytes of window 0x70. -/
def State.storeBytes (s : State) (off n : Nat) : List Byte :=
  overlay (((List.range 64).map fun p => (32 * p, s.dirEntry p)) ++ s.storeObjects) off n

end Sys2Proof.Machine
end

