-- ==== Sys2Proof/Machine/Programs.lean ====
section
/-!
DEFINITION. Scan programs (03 R63 to R79): the image and its checks, the rules across tables, the
program states, passes, waits and suspension.
-/
namespace Sys2Proof.Machine

/-- A refusal: status code and DETAIL (02 R40, R41); none passes. -/
abbrev Check := Option (Nat × Nat)

/-- The first failing check. -/
def firstFail : List Check → Check
  | [] => none
  | some x :: _ => some x
  | none :: t => firstFail t

/-- A check that refuses with a status and DETAIL when its condition fails. -/
def need (ok : Bool) (status : Nat) (detail : Nat := 0) : Check :=
  if ok then none else some (status, detail)

/-- Whether a number lies in a range. -/
def within (v lo hi : Nat) : Bool := decide (lo ≤ v) && decide (v ≤ hi)

/-! Status codes (02 R41). -/

abbrev OK := 0x00
abbrev ACCEPTED := 0x01
abbrev BAD_CRC := 0x10
abbrev BAD_VERSION := 0x11
abbrev BAD_LENGTH := 0x12
abbrev BAD_OPCODE := 0x13
abbrev BAD_PARAM := 0x14
abbrev BAD_TARGET := 0x15
abbrev UNIT_ABSENT := 0x16
abbrev BAD_ADDRESS := 0x17
abbrev SEQ_CONFLICT := 0x18
abbrev SEQ_STALE := 0x19
abbrev SESSION_FULL := 0x1A
abbrev GEN_MISMATCH := 0x20
abbrev BUSY := 0x21
abbrev DEADLINE := 0x22
abbrev STAGE_ABORT := 0x23
abbrev JUMP_REFUSED := 0x24
abbrev ADM_REFUSED := 0x30
abbrev SUSPENDED := 0x31
abbrev NOT_FOUND := 0x32
abbrev STATE := 0x33
abbrev IMAGE_INVALID := 0x40
abbrev CAL_FAILED := 0x41
abbrev SAFETY_PENDING := 0x50
abbrev SAFETY_UNPAIRED := 0x51
abbrev LINK_DOWN := 0x60
abbrev FW_ABSENT := 0x61
abbrev INTERNAL := 0x7F

/-! The image (03 R63, R65; 10 R264). -/

def imSegs (d : List Byte) : Nat := field d 2 2
def imFirst (d : List Byte) : Nat := field d 4 2
def imNg (d : List Byte) : Nat := field d 8 4
def imMinSpacing (d : List Byte) : Nat := field d 12 2
def imGuard (d : List Byte) : Nat := field d 14 2
def imLength (d : List Byte) : Nat := field d 16 4
def imCrc (d : List Byte) : Nat := field d 20 4
def imStream (d : List Byte) : List Byte := slice d 32 64
def imSeg (d : List Byte) (i : Nat) : List Byte := slice d (96 + 32 * i) 32

def stRoute (d : List Byte) : Nat := field d 0 1
def stRing (d : List Byte) : Nat := field d 1 1
def stBound (d : List Byte) : Nat := field d 2 2
def stClose (d : List Byte) : Nat := field d 4 2
def stFrameMax (d : List Byte) : Nat := field d 6 2
def stSysMask (d : List Byte) : Nat := field d 8 1
def stEncSel (d : List Byte) : Nat := field d 9 1
def stEncSplit (d : List Byte) : Nat := field d 10 1
def stDscp (d : List Byte) : Nat := field d 11 1 % 64
def stCapMask (d : List Byte) : Nat := field d 12 2
def stVlan (d : List Byte) : Nat := field d 14 2
def stDstMac (d : List Byte) : List Byte := slice d 16 6
def stDstPort (d : List Byte) : Nat := field d 22 2
def stDstIp (d : List Byte) : List Byte := slice d 24 4
def stSrcPort (d : List Byte) : Nat := field d 28 2
def stStall (d : List Byte) : Nat := field d 30 2
def stStage (d : List Byte) : Nat := field d 32 4

def sgShot (g : List Byte) : Nat := field g 0 2
def sgBeam (g : List Byte) : Nat := field g 2 2
def sgPass (g : List Byte) : Nat := field g 4 2
def sgProfile (g : List Byte) : Nat := field g 6 2
def sgCode (g : List Byte) : Nat := field g 8 2
def sgFirst (g : List Byte) : Nat := field g 10 2
def sgCount (g : List Byte) : Nat := field g 12 2
def sgNext (g : List Byte) : Nat := field g 14 2
def sgRepeat (g : List Byte) : Nat := field g 16 4
def sgWaitKind (g : List Byte) : Nat := field g 20 1 % 16
def sgWaitOnTmo (g : List Byte) : Bool := bit (field g 20 1) 7
def sgWaitEvery (g : List Byte) : Bool := bit (field g 20 1) 6
def sgWaitArg (g : List Byte) : Nat := field g 21 1
def sgWaitTmo (g : List Byte) : Nat := field g 22 2
def sgWaitValue (g : List Byte) : Nat := field g 24 8
def sgCoded (g : List Byte) : Bool := sgCode g != 0xFFFF

/-- The segments of an image. -/
def imAllSegs (d : List Byte) : List (List Byte) := (List.range (imSegs d)).map (imSeg d)

/-- The range of a field at an offset of the image (03 R64 step 3). -/
def inImage (ok : Bool) (off : Nat) : Check := need ok BAD_PARAM (20 + off)

/-- Ranges of the stream descriptor (10 R264). Route 2 is a worker's (18 R455). -/
def checkStream (d : List Byte) (worker : Bool) (cmdPort : Nat) : List Check :=
  let r := stRoute d
  let eth := r == 1
  [ inImage (decide (r ≤ 1) || (r == 2 && worker)) 32,
    inImage (decide (stRing d ≤ (if r = 0 then 15 else if r = 1 then 3 else 0))) 33,
    inImage (within (stBound d) 50 1500) 34,
    inImage (within (stClose d) 10 10000 && decide (stClose d < stBound d)) 36,
    inImage (within (stFrameMax d) 8 4096) 38,
    inImage (decide (stEncSel d ≤ 2)) 41,
    inImage (!eth || !bit (field d 16 1) 0) 48,
    inImage (!eth || stDstPort d != 0) 54,
    inImage (!eth || (stSrcPort d != 0 && stSrcPort d != cmdPort)) 60,
    inImage (within (stStage d) 1 16384) 64 ]

/-- Ranges of a segment (03 R65, R77). -/
def checkSeg (d : List Byte) (i : Nat) : List Check :=
  let g := imSeg d i
  let o := 96 + 32 * i
  let k := sgWaitKind g
  [ inImage (sgShot g != 0xFFFF) o, inImage (sgBeam g != 0xFFFF) (o + 2),
    inImage (sgPass g != 0xFFFF) (o + 4), inImage (sgProfile g != 0xFFFF) (o + 6),
    inImage (decide (sgFirst g ≤ 4095)) (o + 10), inImage (within (sgCount g) 1 4096) (o + 12),
    inImage (sgNext g == 0xFFFF || decide (sgNext g < imSegs d)) (o + 14),
    inImage (decide (k ≤ 4)) (o + 20),
    inImage (k != 1 || bits (sgWaitArg g) 2 1 != 3) (o + 21),
    inImage (k != 3 || sgWaitValue g % 2 ^ 32 != 0) (o + 24) ]

/-- Steps 1 to 3 of R64. -/
def checkImage (d : List Byte) (worker : Bool) (cmdPort : Nat) : Check :=
  firstFail ([ need (imLength d == d.length && d.length == 96 + 32 * imSegs d) BAD_LENGTH,
    need (decide (crcBlank d 20 = BitVec.ofNat 32 (imCrc d))) IMAGE_INVALID,
    inImage (field d 0 2 == 1) 0, inImage (within (imSegs d) 1 256) 2,
    inImage (decide (imFirst d < imSegs d)) 4, inImage (within (imNg d) 1000000 2000000) 8,
    inImage (decide (32 ≤ imMinSpacing d)) 12, inImage (decide (16 ≤ imGuard d)) 14 ] ++
    checkStream (imStream d) worker cmdPort ++
    (List.range (imSegs d)).flatMap (checkSeg d))

/-! The tables of a segment, and the rules across them (03 R70 to R74; 04 R91, R97, R113). -/

/-- The bytes of a committed table. -/
def State.tableData (s : State) (kind id : Nat) : Option (List Byte) :=
  (s.table kind id).map Table.data

/-- The tables that a segment names: shot, beam, Pass set, and code set when it has one. -/
structure SegTabs where
  shots : List Byte
  beams : List Byte
  pass  : List Byte
  code  : Option (List Byte)

/-- The tables of a segment, when all exist (03 R64 step 4). -/
def State.segTabs (s : State) (g : List Byte) : Option SegTabs := do
  let shots ← s.tableData 1 (sgShot g)
  let beams ← s.tableData 2 (sgBeam g)
  let pass ← s.tableData 3 (sgPass g)
  let _ ← s.tableData 4 (sgProfile g)
  if sgCoded g then
    let code ← s.tableData 5 (sgCode g)
    some { shots := shots, beams := beams, pass := pass, code := some code }
  else
    some { shots := shots, beams := beams, pass := pass, code := none }

/-- The entries that a segment issues in one pass. -/
def issued (g : List Byte) (t : SegTabs) : List (List Byte) :=
  (List.range (sgCount g)).map fun i => slice t.shots (16 * (sgFirst g + i)) 16

/-- The smallest INTERVAL of a pass. -/
def minInterval (es : List (List Byte)) : Nat :=
  es.foldl (fun m e => min m (seInterval e)) (match es with | [] => 0 | e :: _ => seInterval e)

/-- The dither bound of a segment; 0 without a code set. -/
def SegTabs.dither (t : SegTabs) : Nat := match t.code with | some c => csDitherMax c | none => 0

/-- The patterns of a segment's code set. -/
def SegTabs.patterns (t : SegTabs) : List (List Byte) :=
  match t.code with
  | some c => (List.range (csPatterns c)).map (csPattern c)
  | none => []

/-- The largest burst offset of a segment. -/
def SegTabs.burst (t : SegTabs) : Nat := t.patterns.foldl (fun m p => max m (paLast p)) 0

/-- The largest reach of a window over the channels, in 25 ps units (03 R74). -/
def reach (d : List Byte) (w : Nat) : Int :=
  (pwStart d w : Int) + (pwAdjs d).foldl max (match pwAdjs d with | [] => 0 | a :: _ => a) +
    (pwLength d w * 2 ^ pwExp d w : Nat)

/-- The beam of an entry. -/
def SegTabs.beam (t : SegTabs) (e : List Byte) : List Byte := slice t.beams (32 * seBeam e) 32

/-- An interval multiplied by a throttle factor in Q8.8 (03 R69, 14 R353). -/
def stretched (f interval : Nat) : Nat := (roundDiv ((interval * f : Nat) : Int) 256).toNat

/-- One shot of a pass at a throttle factor, that of step 0 unless another is given: nominal time from the pass's start,
and its entry. -/
def passShots (es : List (List Byte)) (f : Nat := 256) : List (Nat × List Byte) :=
  (es.foldl (fun (acc : Nat × List (Nat × List Byte)) e =>
    (acc.1 + stretched f (seInterval e), (acc.1 + stretched f (seInterval e), e) :: acc.2)) (0, [])).2.reverse

/-- The duration of a pass at a throttle factor. -/
def passSpan (es : List (List Byte)) (f : Nat := 256) : Nat := es.foldl (fun a e => a + stretched f (seInterval e)) 0

/-- The lowest and highest adjustment of a window on the channels of a group. -/
def adjRange (d : List Byte) (g : Nat) : Int × Int :=
  let a := (List.range 8).map fun i => pwAdj d (8 * g + i)
  (a.foldl min (pwAdj d (8 * g)), a.foldl max (pwAdj d (8 * g)))

/-- The opening and the closing of an entry's Pass on a group, after its fire time (03 R71). -/
def passWindow (pass e : List Byte) (grp : Nat) : Int × Int :=
  let w := sePassSel e
  let a := adjRange pass grp
  ((pwStart pass w : Int) + a.1, (pwStart pass w : Int) + a.2 + (pwLength pass w * 2 ^ pwExp pass w : Nat))

/-- The most intervals [lo, hi) that hold one instant. -/
def mostAtOnce (iv : List (Int × Int)) : Nat :=
  iv.foldl (fun m x => max m (iv.filter fun y => decide (y.1 ≤ x.1) && decide (x.1 < y.2)).length) 0

/-- The groups that the issued entries of a segment reach. -/
def reached (g : List Byte) (t : SegTabs) : List Nat :=
  let mask := (issued g t).foldl (fun a e => a ||| beRx (t.beam e)) 0
  (List.range 64).filter (bit mask)

/-- A segment without a code set opens at most one Pass per engine (03 R74, R81): the shots of its passes hold apart
from each other, over as many of its successive passes as the windows reach across. -/
def apart (g : List Byte) (t : SegTabs) : Bool :=
  let es := issued g t
  let one := passShots es
  let span := max 1 (passSpan es)
  (reached g t).all fun grp =>
    let ps := (one.filter fun p => bit (beRx (t.beam p.2)) grp).map fun p =>
      let w := passWindow t.pass p.2 grp
      ((p.1 : Int) + w.1, (p.1 : Int) + w.2)
    let lo := ps.foldl (fun a p => min a p.1) (ps.headD (0, 0)).1
    let hi := ps.foldl (fun a p => max a p.2) lo
    let n := (hi - lo).toNat / span + 2
    let n := if sgRepeat g == 0 then n else min n (sgRepeat g)
    decide (mostAtOnce ((List.range n).flatMap fun k => ps.map fun p => (p.1 + (k * span : Nat), p.2 + (k * span : Nat))) ≤ 1)

/-- Every fire output of an issued beam has the beam's wavelength group (04 R113). -/
def State.groupRule (s : State) (g : List Byte) (t : SegTabs) : Bool :=
  (issued g t).all fun e =>
    let b := t.beam e
    (List.range 8).all fun n => !bit (beFire b) n || s.fld (EMT_FIRE_MODE n) 1 0 == beGroup b

/-- The matrix lines of issued beams are enabled, and the interval leaves time for the matrix sequence (04 R91). -/
def State.matrixRule (s : State) (g : List Byte) (t : SegTabs) : Bool :=
  let es := issued g t
  let used := es.filter fun e => beMatrix (t.beam e)
  used.isEmpty ||
    ((used.all fun e => bit (s.regN EMT_MATRIX_LINES_A) (beAnode (t.beam e)) &&
        beCathodes (t.beam e) &&& s.regN EMT_MATRIX_LINES_K == beCathodes (t.beam e)) &&
      decide (40 * (s.fld EMT_MATRIX_CFG 31 16 + s.fld EMT_MATRIX_CFG 15 0 + 20) + 32 * t.dither + t.burst +
        s.fld EMT_MATRIX_WMAX 15 0 ≤ minInterval es))

/-- The clipped mean draw of a segment does not exceed RATED of any group (04 R97). -/
def State.drawRule (s : State) (g : List Byte) (t : SegTabs) : Bool :=
  let es := issued g t
  (List.range 4).all fun q =>
    let sum := (es.filter fun e => beGroup (t.beam e) == q && !seDark e).foldl
      (fun a e => a + min (seEnergy e) 128) 0
    decide (sum * 40000000 ≤ s.fld (EMT_BUDGET_RATED q) 23 0 * passSpan es)

/-- The rules across tables for one segment: 03 R65, R70, R72, R74; 04 R91, R97 and the note of
R113. -/
def State.segRules (s : State) (d g : List Byte) (t : SegTabs) : Bool :=
  let es := issued g t
  let mi := minInterval es
  let dm := t.dither
  let bo := t.burst
  let entryOk (e : List Byte) : Bool :=
    decide (32 * (seBeam e + 1) ≤ t.beams.length) && decide (sePassSel e < pwCount t.pass) &&
    (match t.code with
      | some c => csPatterns c == 0 || sePattern e == 0xFF || decide (sePattern e < csPatterns c)
      | none => true)
  let coded := match t.code with
    | none => apart g t
    | some _ =>
      decide (32 * (dm + imGuard d) ≤ mi) && decide (32 * dm + bo + 32 * imMinSpacing d ≤ mi) &&
      (es.all fun e => decide (reach t.pass (sePassSel e) + 32 * dm ≤ 16 * mi)) &&
      t.patterns.all fun p => [2, 3, 4].all fun i =>
        !decide (i ≤ paPulses p) || decide (paOffset p (i - 1) + 32 * imMinSpacing d ≤ paOffset p i)
  decide (16 * (sgFirst g + sgCount g) ≤ t.shots.length) && es.all entryOk && coded && s.groupRule g t &&
    s.matrixRule g t && s.drawRule g t

/-- The first entry with SYNC_FIRE that a start or a wait reaches from a segment, followed along
NEXT (18 R450). -/
def State.firstSync (s : State) (d : List Byte) : Nat → Nat → Option (List Byte)
  | 0, _ => none
  | fuel + 1, i =>
    let g := imSeg d i
    match s.segTabs g with
    | none => none
    | some t =>
      match (issued g t).find? seSync with
      | some e => some e
      | none => if sgNext g < imSegs d then s.firstSync d fuel (sgNext g) else none

/-- The rule of 18 R450 on the first announced entry after a start or a wait. -/
def State.syncRule (s : State) (d : List Byte) : Bool :=
  (List.range (imSegs d)).all fun i =>
    if i == imFirst d || sgWaitKind (imSeg d i) != 0 then
      match s.firstSync d 257 i with
      | some e => decide (200000 ≤ seInterval e)
      | none => true
    else true

/-- Step 4 of R64: every table that a segment names exists. -/
def State.tablesExist (s : State) (d : List Byte) : Bool :=
  (imAllSegs d).all fun g => (s.segTabs g).isSome

/-- Step 5 of R64: the rules across tables. -/
def State.crossRules (s : State) (d : List Byte) : Bool :=
  (imAllSegs d).all (fun g => match s.segTabs g with
    | some t => s.segRules d g t
    | none => false) && s.syncRule d

/-- Whether an image names a table. -/
def names (d : List Byte) (kind id : Nat) : Bool :=
  (imAllSegs d).any fun g =>
    match kind with
    | 1 => sgShot g == id
    | 2 => sgBeam g == id
    | 3 => sgPass g == id
    | 4 => sgProfile g == id
    | 5 => sgCode g == id && id != 0xFFFF
    | _ => false

/-- The beams that a program issues: every beam of an issued entry of every segment. -/
def State.beamsOf (s : State) (d : List Byte) : List (List Byte) :=
  (imAllSegs d).flatMap fun g => match s.segTabs g with
    | some t => (issued g t).map t.beam
    | none => []

/-- The receive groups that a program's issued beams name, as a mask. -/
def State.rxOf (s : State) (d : List Byte) : Nat :=
  (s.beamsOf d).foldl (fun m b => m ||| beRx b) 0

/-- The receive groups, fire outputs, anode and cathode lines of a program's beam sets (03 R76). -/
def State.footprint (s : State) (d : List Byte) : Nat × Nat × Nat × Nat :=
  ((imAllSegs d).flatMap fun g => chunks 32 ((s.tableData 2 (sgBeam g)).getD [])).foldl
    (fun m b => (m.1 ||| beRx b, m.2.1 ||| beFire b,
      m.2.2.1 ||| (if beMatrix b then 2 ^ beAnode b else 0),
      m.2.2.2 ||| (if beMatrix b then beCathodes b else 0))) (0, 0, 0, 0)

/-- Whether two programs share a fire output, a matrix line or a receive group (03 R76). -/
def State.shares (s : State) (a b : List Byte) : Bool :=
  let x := s.footprint a
  let y := s.footprint b
  x.1 &&& y.1 != 0 || x.2.1 &&& y.2.1 != 0 || x.2.2.1 &&& y.2.2.1 != 0 || x.2.2.2 &&& y.2.2.2 != 0

/-- A live program names a receive group (07 R181, R200). -/
def State.liveNames (s : State) (g : Nat) : Bool :=
  s.present.any fun p => p.2.live && bit (s.rxOf p.2.image) g

/-- A program that has not been withdrawn names a receive group. -/
def State.presentNames (s : State) (g : Nat) : Bool :=
  s.present.any fun p => bit (s.rxOf p.2.image) g

/-- The longest time before its fire time, in 25 ps units, at which a shot of these images is committed: 128 ticks, the
shortest interval of a pass behind a wait (03 R78); with a matrix beam, those 128 ticks before its precharge rises (04
R90); on a manager with an announced entry 5 us (18 R450). One horizon for all programs that run keeps the order of R75
among the shots that are planned; a program that starts or is released later may plan a shot before one that is committed,
which takes the next number all the same (DESIGN CHOICE, notes/assumptions). -/
def State.horizonOf (s : State) (ds : List (List Byte)) : Nat :=
  let sync : Bool := s.role == 1 && ds.any fun d => (imAllSegs d).any fun g =>
    match s.segTabs g with | some t => (issued g t).any seSync | none => false
  let matrix : Bool := ds.any fun d => (s.beamsOf d).any beMatrix
  max (if sync then 200000 else 4096)
    (if matrix then 4096 + 200 + 40 * (s.fld EMT_MATRIX_CFG 31 16 + s.fld EMT_MATRIX_CFG 15 0) else 4096)

/-- The horizon of the programs that run. -/
def State.horizon (s : State) : Nat :=
  s.horizonOf ((s.present.filter fun p => p.2.live).map fun p => p.2.image)

/-! Program states (03 R522). -/

/-- A 64-bit shot number field: all ones when none. -/
def shotField (x : Option Long) : List Byte :=
  match x with
  | some n => leBytes 8 n.toNat
  | none => List.replicate 8 0xFF

/-- A program commits no more shots: the groups that it has left open end with their last committed shot, so that
every committed shot is delivered (01 R19; 03 R83; notes/assumptions). -/
def State.endGroups (s : State) (p : Nat) : State :=
  { s with hen := s.hen.map fun (y : Engine) =>
      { y with groups := y.groups.map fun (g : GroupCtx) => { g with ended := g.ended || g.first.pid == p } } }

/-- Suspends a program: one EVENT of class 1 for each entry into SUSPENDED (03 R522). A program that
re-admission suspends leaves the admitted set until PROG_START (11 R279). -/
def State.suspend (s : State) (p cause : Nat) (outOfSet : Bool := false) : State :=
  match s.prog p with
  | none => s
  | some q =>
    if q.state == .suspended then s.setProg p fun x => { x with outOfSet := x.outOfSet || outOfSet }
    else
      let s := (s.endGroups p).setProg p fun x =>
        { x with state := .suspended, cause := cause, outOfSet := x.outOfSet || outOfSet }
      let s := s.latch SEQ_STATUS 0x2
      s.event SUSPENDED 1 1 (leBytes 2 p ++ leBytes 1 cause ++ leBytes 1 q.state.code ++
        shotField q.last ++ List.replicate 4 0)

/-- Suspends every program that satisfies a condition. -/
def State.suspendAll (s : State) (cond : Prog → Bool) (cause : Nat) (outOfSet : Bool := false) : State :=
  (s.present.filter fun p => cond p.2).foldl (fun t p => t.suspend p.1 cause outOfSet) s

/-! Passes and waits (03 R66, R77). -/

/-- The tables in force that a pass begins with (03 R79). -/
def State.passTables (s : State) (g : List Byte) : List Table :=
  [s.table 1 (sgShot g), s.table 2 (sgBeam g), s.table 3 (sgPass g), s.table 4 (sgProfile g),
    s.table 5 (sgCode g)].filterMap id

/-- Begins a pass of the segment in force. -/
def State.beginPass (s : State) (p : Nat) : State :=
  s.setProg p fun q =>
    { q with entry := 0, released := true, passTabs := s.passTables (imSeg q.image q.segment)
             state := if q.state == .waiting then .running else q.state }

/-- The devices that take part in a worker wait (03 R77, R78). WAIT_REPORT carries no mask: the manager takes that of
the first segment with the tag of a program of its own (DESIGN CHOICE), and where none names the tag the mask is a free
value (notes/assumptions). -/
def State.waitMask (s : State) (tag : Nat) : Nat :=
  ((s.present.flatMap fun p => imAllSegs p.2.image).findSome? fun g =>
    if sgWaitKind g = 4 ∧ sgWaitValue g % 65536 = tag then some (sgWaitValue g / 65536 % 65536) else none).getD
      (Config.waitMask tag).toNat

/-- Sends a control block three times, in successive superframes (18 R453). -/
def State.sendThrice (s : State) (type value : Nat) (skip : Option Nat := none) : State :=
  ((s.sendBlock type value skip).sendBlock type value skip).sendBlock type value skip

/-- A program of the device that waits for a tag gets its release tick (18 R453). -/
def State.releaseTag (s : State) (tag tick : Nat) : State :=
  { s with pg.progs := s.pg.progs.map (Option.map fun (q : Prog) =>
      let g := imSeg q.image q.segment
      if q.state = .waiting ∧ sgWaitKind g = 4 ∧ sgWaitValue g % 65536 = tag ∧ q.waitHit.isNone then
        { q with waitHit := some (2048 * tick) }
      else q) }

/-- The manager holds a report of a wait. When every device of the mask has reported the tag, it sends the
release time, 25,000 ticks from now, and releases its own programs at it (03 R78). -/
def State.waitReported (s : State) (dev tag : Nat) : State :=
  let old : Nat := match s.ifl.reports.find? fun x => x.1 == tag with | some x => x.2 | none => 0
  let now := old ||| 2 ^ dev
  let rest := s.ifl.reports.filter fun x => x.1 != tag
  if s.waitMask tag &&& now = s.waitMask tag then
    let tick := s.tim.shot + 25000
    (({ s with ifl.reports := rest }.sendThrice 0x53 (tag * 2 ^ 32 + tick % 2 ^ 32)).releaseTag tag tick)
  else { s with ifl.reports := (tag, now) :: rest }

/-- A device whose program reaches a worker wait reports its tag: a worker on the port to its parent, the
manager to itself (03 R78; 18 R453). -/
def State.reportWait (s : State) (tag : Nat) : State :=
  if s.role = 2 then
    let b : Nat × Nat × Nat := (s.ifl.parentPort, 0x52, s.ifl.dev % 16 * 2 ^ 44 + tag * 2 ^ 28)
    if (nth s.ifl.ports s.ifl.parentPort .reset).state = 3 then
      { s with ifl.blocks := b :: b :: b :: s.ifl.blocks }
    else s
  else if s.role = 1 then s.waitReported 0 tag
  else s

/-- A program reports the tag of the worker wait that it holds once the wait has begun (03 R77, R78). -/
def State.reportHeld (s : State) (p : Nat) : State :=
  match s.prog p with
  | some q =>
    if q.state = .waiting ∧ q.unreported ∧ q.waitFrom ≤ s.unitNow then
      (s.setProg p fun q => { q with unreported := false }).reportWait
        (sgWaitValue (imSeg q.image q.segment) % 65536)
    else s
  | none => s

/-- Every program whose worker wait has begun reports it. -/
def State.reportBegun (s : State) : State :=
  (s.present.filter fun p => p.2.unreported).foldl (fun t p => t.reportHeld p.1) s

/-- Holds the wait of the segment in force (03 R66, R77); it counts from the nominal fire time of the
program's last shot, or the start instant. -/
def State.beginWait (s : State) (p : Nat) : State :=
  let s := s.setProg p fun q =>
    { q with entry := 0, released := false, waitFrom := q.nominal, waitEdges := 0, waitHit := none
             state := .waiting, unreported := sgWaitKind (imSeg q.image q.segment) == 4 }
  s.reportHeld p

/-- Enters a segment: its wait is held first (03 R66). -/
def State.enterSegment (s : State) (p i : Nat) : State :=
  match s.prog p with
  | none => s
  | some q =>
    let g := imSeg q.image i
    let s := s.setProg p fun q => { q with segment := i, passes := 0 }
    if sgWaitKind g == 0 then s.beginPass p else s.beginWait p

/-- The program stops: no further shot (03 R66, R522). -/
def State.stopProg (s : State) (p : Nat) : State :=
  (s.endGroups p).setProg p fun q => { q with state := .stopped }

/-- The end of a pass (03 R66, R522): a STOPPING program stops; after REPEAT passes NEXT runs, or the
program ends; otherwise a further pass follows, with its wait when WAIT_KIND[6] asks for it. -/
def State.endPass (s : State) (p : Nat) : State :=
  match s.prog p with
  | none => s
  | some q =>
    let g := imSeg q.image q.segment
    let n := q.passes + 1
    let s := s.setProg p fun q => { q with passes := n }
    if q.state == .stopping then s.stopProg p
    else if sgRepeat g != 0 && decide (sgRepeat g ≤ n) then
      if sgNext g == 0xFFFF then s.stopProg p else s.enterSegment p (sgNext g)
    else if sgWaitEvery g && sgWaitKind g != 0 then s.beginWait p
    else s.beginPass p

/-- The program begins to run at its start instant, in 25 ps units (03 R69, R522). -/
def State.runProg (s : State) (p start : Nat) : State :=
  match s.prog p with
  | none => s
  | some q =>
    let i := imFirst q.image
    let s := s.setProg p fun q => { q with state := .running, nominal := start, segment := i }
    s.enterSegment p i

/-- The release instant that a time wait has, in 25 ps units, and whether it had passed when the wait
began (03 R77). -/
def timeRelease (q : Prog) (ref : Nat) : Nat × Bool :=
  let g := imSeg q.image q.segment
  let v := sgWaitValue g % 2 ^ 48
  if bit (sgWaitArg g) 0 then (q.waitFrom + 32 * v, false)
  else
    let a := 32 * nearest 48 ref v
    if a < q.waitFrom then (q.waitFrom, true) else (a, false)

end Sys2Proof.Machine
end

