-- ==== Sys2Proof/Machine/Images.lean ====
section
/-!
DEFINITION. Engine images (07 R193 to R202): primitive words, the checks of ENG_COMMIT, and the
worst-case run.
-/
namespace Sys2Proof.Machine

/-- A primitive word (07 R193). -/
structure Prim where
  op : Nat
  a  : Nat
  b  : Nat
  c  : Nat
  d  : Nat
  deriving DecidableEq, Repr

/-- The fields of a 64-bit word (07 R193). -/
def Prim.ofNat (v : Nat) : Prim :=
  { op := bits v 63 56, a := bits v 55 52, b := bits v 51 48, c := bits v 47 32, d := bits v 31 0 }

/-- The words of a program section. -/
def primWords (l : List Byte) : List Prim := (chunks 8 l).map fun w => Prim.ofNat (leNat w)

/-- The header of an image (07 R197). -/
def imgHeader (l : List Byte) (crc : Word) (fromShot : Long) (waits : Bool) : ImgHeader :=
  { words := field l 2 2, dataLen := field l 4 2, maxPeaks := field l 6 1
    entryInit := field l 8 2, entryGroup := field l 10 2, entryShot := field l 12 2
    entryTimer := field l 14 2, timerUs := field l 16 4, crc := crc, fromShot := fromShot, started := false
    waits := waits }

/-- A vector that may be read: IMG, W0 or W1 (07 R193). -/
def vecR (v : Nat) : Bool := decide (v ≤ 2)
/-- A vector that may be written: W0 or W1; IMG is never a destination (07 R198). -/
def vecW (v : Nat) : Bool := v == 1 || v == 2

/-- The operand ranges and reserved fields of a word (07 R194, R198; 08 R211, R212, R215 to R217;
10 R254). -/
def Prim.operandsOk (w : Prim) (maxPeaks dataLen : Nat) : Bool :=
  let za := w.a == 0
  let zb := w.b == 0
  let zc := w.c == 0
  let zd := w.d == 0
  let taps := within w.c 1 64 && decide (w.d % 65536 + 2 * w.c ≤ dataLen)
  match w.op with
  | 0x00 | 0x01 => za && zb && zc && zd
  | 0x02 => decide (w.a ≤ 5) && within w.c 1 4095 && zd
  | 0x03 => zb && within w.c 1 4095 && within w.d 1 65535
  | 0x04 => decide (w.a ≤ 1) && zc
  | 0x05 => decide (w.a ≤ 1) && decide (w.c ≤ 7) && zd
  | 0x06 => zb && zc
  | 0x07 => zc && zd
  | 0x08 => zd
  | 0x09 => zc && zd
  | 0x0A => decide (w.c ≤ 31) && zd
  | 0x0B => zc && decide (w.d ≤ 0x1FFF)
  | 0x0C => zc && decide (w.d ≤ 0x1BFF)
  | 0x0D => zb && zd
  | 0x0E => zb && decide (w.c ≤ 511) && zd
  | 0x0F => za && zb && zc && decide (w.d < 2 ^ 24)
  | 0x10 => vecW w.b && decide (w.c ≤ 6) && zd
  | 0x11 => vecW w.a && zb && zc && zd
  | 0x12 => vecR w.a && vecW w.b && zc && zd
  | 0x13 => vecR w.a && vecW w.b && within w.c 1 15 && zd
  | 0x14 => vecR w.a && vecW w.b && zc && zd
  | 0x15 => vecR w.a && vecW w.b && decide (w.c ≤ 31) && decide (w.d ≤ 15)
  | 0x16 => vecR w.a && vecW w.b && taps && decide (w.d < 65536)
  | 0x17 => vecR w.a && zc && zd
  | 0x18 | 0x19 => vecR w.a && decide (w.b ≤ 14) && zc && zd
  | 0x20 => vecR w.a && (vecR w.b || w.b == 0xF) && within w.c 1 maxPeaks
  | 0x21 => vecR w.a && zb && within w.c 1 8 && zd
  | 0x22 => vecR w.a && zb && zc && zd
  | 0x23 => vecR w.a && zc && zd
  | 0x24 => vecW w.b && taps && decide (w.d < 2 ^ 17)
  | 0x25 =>
    let k := w.d % 256
    let n := w.d / 256
    decide (w.a ≤ 1) && zb && decide (w.c ≤ 4095) && decide (w.d < 65536) && decide (1 ≤ k) &&
      decide (k ≤ n) && decide (n ≤ (if w.a = 0 then 8 else 4))
  | 0x26 => vecR w.a && zb && zc && zd
  | 0x27 => vecW w.a && zb && zc && zd
  | 0x28 => vecR w.a && zb && within w.c 1 4095 && zd
  | 0x30 => within w.a 1 3 && zb && decide (w.c < 256) && zd
  | 0x31 => vecR w.a && zb && zc
  | 0x32 => zb && zd
  | 0x33 => za && zb && zc && decide (w.d ≤ 0x1BC0)
  | 0x38 => zb && zc && zd
  | _ => false

/-- The bodies of the LOOP words: index of the word, first and last word of the body. -/
def loopBodies (ws : List Prim) : List (Nat × Nat × Nat) :=
  ws.zipIdx.filterMap fun (w, i) => if w.op == 3 then some (i, i + 1, i + w.c) else none

/-- The structure of loops and branches (07 R198): targets and bodies end within the words, bodies
nest to depth 4, and a branch stays in its enclosing body. -/
def flowOk (ws : List Prim) : Bool :=
  let n := ws.length
  let bodies := loopBodies ws
  let around (i : Nat) := bodies.filter fun b => decide (b.2.1 ≤ i) && decide (i ≤ b.2.2)
  ws.zipIdx.all fun (w, i) =>
    if w.op == 2 then
      decide (i + 1 + w.c < n) && (around i).all fun b => decide (i + 1 + w.c ≤ b.2.2)
    else if w.op == 3 then
      decide (i + w.c < n) && decide ((around i).length < 4) &&
        (around i).all fun b => decide (i + w.c ≤ b.2.2)
    else true

/-- The header fields of an image (07 R197, R198 step 3); DETAIL is the field's offset behind the
8 bytes of ENG_LOAD's own fields. -/
def checkHeader (l : List Byte) : Check :=
  let at_ (ok : Bool) (off : Nat) : Check := need ok BAD_PARAM (24 + off)
  firstFail [ at_ (field l 0 2 == 1) 0, at_ (within (field l 2 2) 1 4092) 2,
    at_ (decide (field l 4 2 ≤ 8192) && field l 4 2 % 16 == 0) 4, at_ (within (field l 6 1) 1 8) 6,
    at_ (field l 16 4 == 0 || within (field l 16 4) 10 1000000) 16 ]

/-- Every word of an image, and its entries (07 R198 step 4). -/
def wordsOk (l : List Byte) : Bool :=
  let ws := primWords (l.drop 32)
  let n := ws.length
  let entry (off : Nat) : Bool := field l off 2 == 0xFFFF || decide (field l off 2 < n)
  ws.all (fun w => w.operandsOk (field l 6 1) (field l 4 2)) && flowOk ws &&
    entry 8 && entry 10 && entry 12 && entry 14

/-- Steps 1 to 4 of R198 on a staged image. -/
def checkEngImage (prog data : List Byte) (len crc : Nat) : Check :=
  firstFail [
    need (decide (32 ≤ prog.length) && prog.length == 32 + 8 * field prog 2 2 &&
      data.length == field prog 4 2 && len == prog.length + data.length) BAD_LENGTH,
    need (decide (crc32c (prog ++ data) = BitVec.ofNat 32 crc)) IMAGE_INVALID,
    checkHeader prog, need (wordsOk prog) IMAGE_INVALID ]

/-! The worst-case run (07 R201). -/

/-- What a run costs at most: cycles, records, RECQ entries and record bytes. -/
structure Cost where
  cycles  : Nat
  records : Nat
  entries : Nat
  bytes   : Nat
  deriving DecidableEq, Repr

def Cost.zero : Cost := ⟨0, 0, 0, 0⟩
def Cost.add (x y : Cost) : Cost :=
  ⟨x.cycles + y.cycles, x.records + y.records, x.entries + y.entries, x.bytes + y.bytes⟩
def Cost.max (x y : Cost) : Cost :=
  ⟨Nat.max x.cycles y.cycles, Nat.max x.records y.records, Nat.max x.entries y.entries,
    Nat.max x.bytes y.bytes⟩
def Cost.times (n : Nat) (x : Cost) : Cost := ⟨n * x.cycles, n * x.records, n * x.entries, n * x.bytes⟩

/-- Bytes of a HIST record of a number of bins of a size (10 R258). -/
def histBytes (bins size : Nat) : Nat := 16 * ceilDiv (32 + bins * size) 16

/-- The cost of one word but LOOP, with N bins, p entries in a peak list and h kept hits (07 R194,
R201). -/
def Prim.cost (w : Prim) (n p h : Nat) : Cost :=
  let n' := ceilDiv n 16
  let cyc (k : Nat) : Cost := ⟨k, 0, 0, 0⟩
  match w.op with
  | 0x02 | 0x0A | 0x0B | 0x0C | 0x0D | 0x0E => cyc 2
  | 0x04 => cyc w.d
  | 0x10 => cyc (4 + h)
  | 0x11 | 0x12 | 0x13 | 0x14 | 0x15 | 0x17 | 0x18 | 0x19 | 0x20 | 0x23 | 0x24 | 0x27 | 0x28 =>
    cyc (8 + n')
  | 0x16 => cyc (8 + n' * ceilDiv w.c 4)
  | 0x21 => cyc (4 + (2 * w.c + 1) * p)
  | 0x22 => cyc (4 + 6 * p)
  | 0x25 => cyc (4 + 4 * p * (w.d / 256))
  | 0x26 => cyc (4 + 8 * p)
  | 0x30 =>
    if w.a == 1 then ⟨4 + 2 * p, p, p, 16 * p⟩
    else if w.a == 2 then ⟨4 + 2 * p, p, 2 * p, 32 * p⟩
    else ⟨4 + 2 * p, p, 3 * p, 48 * p⟩
  | 0x31 =>
    let b := histBytes (n - w.d) (if w.a == 0 then 2 else 4)
    ⟨8 + n', 1, b / 16, b⟩
  | 0x32 => ⟨6, 1, 2, 32⟩
  | 0x33 => cyc 4
  | 0x38 => cyc (4 + 2 * h)
  | _ => cyc 1

/-- The costs from each word of a block [lo, lo + len) to its end, the first word's first; `depth`
bounds the nesting of loops. -/
def blockCosts (ws : List Prim) (n p h : Nat) : Nat → Nat → Nat → List Cost
  | 0, _, _ => []
  | depth + 1, lo, len =>
    (List.range len).foldl (fun acc k =>
      let i := lo + (len - 1 - k)
      let w := nth ws i (Prim.ofNat 0)
      -- acc holds the costs of words i + 1, i + 2, …
      let next := nth acc 0 .zero
      let c : Cost :=
        match w.op with
        | 0x01 => w.cost n p h
        | 0x02 => (w.cost n p h).add (next.max (nth acc w.c .zero))
        | 0x03 =>
          let body := nth (blockCosts ws n p h depth (i + 1) w.c) 0 .zero
          ((Cost.mk 2 0 0 0).add (Cost.times w.d ((Cost.mk 2 0 0 0).add body))).add (nth acc w.c .zero)
        | _ => (w.cost n p h).add next
      c :: acc) []

/-- The worst-case run from an entry (07 R201). -/
def runCost (ws : List Prim) (entry n p h : Nat) : Cost :=
  if entry == 0xFFFF then .zero
  else nth (blockCosts ws n p h 5 entry (ws.length - entry)) 0 .zero

/-! The committed images of an engine (07 R199). -/

/-- Bytes of an engine's memory by window offset; unlisted bytes read 0. -/
def Engine.bytes (e : Engine) (off n : Nat) : List Byte := Sparse.getMany (fun _ => 0#8) e.mem off n

/-- The newest committed image. -/
def Engine.image (e : Engine) : Option ImgHeader := nth e.headers e.half none

/-- The header of the active image. -/
def Engine.activeImage (e : Engine) : Option ImgHeader :=
  match e.image with
  | some h => if h.waits then nth e.headers (1 - e.half) none else some h
  | none => none

/-- The half of the active image: a committed image that still waits for a first shot is not active (R199). -/
def Engine.activeHalf (e : Engine) : Nat :=
  match e.image with
  | some h => if h.waits then 1 - e.half else e.half
  | none => e.half

/-- The words of a half's program behind its header (07 R180, R197). -/
def Engine.words (e : Engine) (half : Nat) : List Prim :=
  match nth e.headers half none with
  | some h => primWords (e.bytes (0x8000 * half + 32) (8 * h.words))
  | none => []

/-- A queued or running event uses a profile slot. -/
def EngEvent.uses (v : EngEvent) (i : Nat) : Bool :=
  (match v.group with | some g => g.slot == i | none => false) ||
    (match v.shot with | some y => y.slot == i | none => false)

/-- A descriptor that waits in XC02 names a profile slot. -/
def Engine.waitsFor (x : Engine) (i : Nat) : Bool :=
  x.xc02.any fun d => nth x.profiles i none == some (d.1.profile, d.2)

/-- A profile slot of an engine is still in use by a shot, a descriptor that waits, a group, a closed image, a queued event or the run (R192). -/
def Engine.slotUsed (x : Engine) (i : Nat) : Bool :=
  x.shots.any (fun y => y.slot == i) || x.waitsFor i || x.groups.any (fun g => g.slot == i) ||
    x.closed.any (fun c => match c with | some g => g.slot == i | none => false) ||
    x.events.any (fun v => v.uses i) || (match x.run with | some r => r.event.uses i | none => false)

end Sys2Proof.Machine
end

