-- ==== Sys2Proof/Machine/Admission.lean ====
section
/-!
DEFINITION. Admission (11): the load equations, the limits, the latency bound and the summary. Rates
are exact rational numbers per second; times are whole units of 25 ps unless a name says otherwise.
-/
namespace Sys2Proof.Machine

/-- Units of 25 ps in a second. -/
abbrev UPS : Nat := 40000000000

/-- A segment as a receive group sees it. -/
structure GroupView where
  /-- Pass duration at step 0. -/
  span   : Nat
  /-- Shots that reach the group: nominal time, opening and closing after the fire time. -/
  shots  : List (Nat × Int × Int)
  /-- Groups of four successive passes (03 R83): first shot, last shot, largest closing after the fire time. -/
  groups : List ((Nat × Int × Int) × (Nat × Int × Int) × Int)
  dither : Nat
  coded  : Bool
  /-- LENGTH of the largest window used. -/
  bins   : Nat
  /-- OFFSET4 + BURST_TOL in use. -/
  burst  : Nat

/-- What a group sees of a segment (03 R70, R71, R83). -/
def groupView (g : List Byte) (t : SegTabs) (grp : Nat) : GroupView :=
  let es := issued g t
  let ps := passShots es
  let span := passSpan es
  let view (p : Nat × List Byte) : Nat × Int × Int := (p.1, passWindow t.pass p.2 grp)
  let reaches (e : List Byte) : Bool := bit (beRx (t.beam e)) grp
  let mine := ps.filter fun p => reaches p.2
  let four := (List.range 4).flatMap fun i => ps.map fun p => (p.1 + i * span, p.2)
  let grouped := four.foldl (fun (acc : Option _ × List _) p =>
    let v := view p
    let cur := if reaches p.2 then
        match acc.1 with
        | none => some (v, v, v.2.2)
        | some (a, _, r) => some (a, v, max r v.2.2)
      else acc.1
    if seGroupEnd p.2 && reaches p.2 then (none, match cur with | none => acc.2 | some x => x :: acc.2)
    else (cur, acc.2)) (none, [])
  { span := span, shots := mine.map view, groups := grouped.2.reverse, dither := t.dither
    coded := t.code.isSome
    bins := mine.foldl (fun m p => max m (pwLength t.pass (sePassSel p.2))) 0
    burst := match t.code with
      | some c => if t.patterns.any (fun p => decide (1 < paPulses p)) then t.burst + csBurstTol c else 0
      | none => 0 }

/-- The largest number of intervals [lo, hi), repeated with a period, that hold one instant. -/
def maxOverlap (period : Nat) (iv : List (Int × Int)) : Nat :=
  if period = 0 then 0 else
  iv.foldl (fun m x =>
    max m (iv.foldl (fun (n : Int) y => n + (x.1 - y.1) / period - (x.1 - y.2) / period) 0).toNat) 0

/-- The most shots in flight at once over all dither values (03 R80, R81). -/
def GroupView.inFlight (v : GroupView) : Nat :=
  maxOverlap v.span (v.shots.map fun x =>
    ((x.1 : Int) + x.2.1, (x.1 : Int) + x.2.2 + (32 * v.dither : Nat)))

/-- Shots per second of a group. -/
def GroupView.rate (v : GroupView) : Rat :=
  if v.span = 0 then 0 else (v.shots.length * UPS : Nat) / (v.span : Rat)

/-- Groups per second. -/
def GroupView.groupRate (v : GroupView) : Rat :=
  if v.span = 0 then 0 else (v.groups.length * UPS : Nat) / ((4 * v.span : Nat) : Rat)

/-- The smallest difference of successive values; none with fewer than two. -/
def minGap : List Nat → Option Nat
  | a :: b :: t =>
    match minGap (b :: t) with
    | none => some (b - a)
    | some m => some (min m (b - a))
  | _ => none

/-- A run kind on an engine: worst-case cost, shortest time between two runs, runs per second. -/
structure RunKind where
  cost   : Cost
  period : Nat
  rate   : Rat
  /-- A GROUP run, else a SHOT run. -/
  group  : Bool

/-- STAMPS of a group's channels, the largest (06 R175). -/
def State.stampsOf (s : State) (grp : Nat) : Nat :=
  (List.range 8).foldl (fun m i => max m (s.fld (HCH_CFG (8 * grp + i)) 11 8)) 0

/-- Numbers in ascending order. -/
def ascending (l : List Nat) : List Nat :=
  l.foldr (fun a t => t.takeWhile (fun b => decide (b < a)) ++ a :: t.dropWhile (fun b => decide (b < a))) []

/-- The work that a segment brings to the engine of a group (07 R201, R202). A SHOT run follows the closing of a
Pass, a GROUP run the end of a collection (07 R189). -/
def State.runKinds (s : State) (v : GroupView) (e grp : Nat) : List RunKind :=
  let eng := s.eng e
  match eng.image with
  | none => []
  | some h =>
    if v.shots.isEmpty then [] else
    let ws := eng.words eng.half
    let stamps := s.stampsOf grp
    let mk (entry : Nat) : Cost := runCost ws entry v.bins h.maxPeaks stamps
    let closes := v.shots.map fun x => ((x.1 : Int) + x.2.2).toNat
    let two := ascending (closes ++ closes.map (· + v.span))
    let ends := ascending (v.groups.map fun x => ((x.2.1.1 : Int) + x.2.2).toNat)
    (if h.entryShot == 0xFFFF then [] else
      [⟨mk h.entryShot, (minGap two).getD v.span, v.rate, false⟩]) ++
    (if h.entryGroup == 0xFFFF || v.groups.isEmpty then [] else
      [⟨mk h.entryGroup, (minGap ends).getD v.span, v.groupRate, true⟩])

/-- The TIMER runs of an engine; their N is taken from the window. -/
def State.timerKind (s : State) (bins e : Nat) : List RunKind :=
  let eng := s.eng e
  match eng.image with
  | none => []
  | some h =>
    if h.timerUs = 0 || h.entryTimer == 0xFFFF then [] else
    [⟨runCost (eng.words eng.half) h.entryTimer bins h.maxPeaks ((s.engineGroup e).elim 0 s.stampsOf), 40000 * h.timerUs,
      (1000000 : Rat) / (h.timerUs : Rat), false⟩]

/-- A program of the set checked: its ID, image, and its segments' tables. -/
structure Member where
  pid  : Nat
  img  : List Byte
  segs : List (List Byte × SegTabs)

/-- A program as a member; segments without tables are left out. -/
def State.member (s : State) (pid : Nat) (img : List Byte) : Member :=
  { pid := pid, img := img
    segs := (imAllSegs img).filterMap fun g => (s.segTabs g).map fun t => (g, t) }

/-- The groups that a member's issued beams name. -/
def Member.groups (m : Member) : List Nat :=
  let mask := m.segs.foldl (fun a x => (issued x.1 x.2).foldl (fun a e => a ||| beRx (x.2.beam e)) a) 0
  (List.range 64).filter (bit mask)

/-- The views of a member's segments on a group. -/
def Member.views (m : Member) (grp : Nat) : List GroupView :=
  m.segs.map fun x => groupView x.1 x.2 grp

/-- A shot of a program's course as a group sees it: the part of the course between two waits that it lies in, nominal
fire time, the opening and the latest closing of its Pass, the dither bound in it, its beam set, GROUP_END, whether its
segment is coded. -/
structure PathShot where
  part  : Nat
  at_   : Nat
  first : Int
  last  : Int
  slack : Int
  set_  : Nat
  ends  : Bool
  coded : Bool

/-- The shots of one pass on a group in a part of a course, the pass beginning at a time, at a throttle factor. -/
def pathPass (x : List Byte × SegTabs) (grp part t f : Nat) : List PathShot :=
  ((passShots (issued x.1 x.2) f).filter fun p => bit (beRx (x.2.beam p.2)) grp).map fun p =>
    let w := passWindow x.2.pass p.2 grp
    let n := t + p.1
    let di : Int := (32 * x.2.dither : Nat)
    { part := part, at_ := n, first := (n : Int) + w.1, last := (n : Int) + w.2 + di, slack := di, set_ := sgBeam x.1
      ends := seGroupEnd p.2, coded := x.2.code.isSome }

/-- How long the wait of a segment holds (03 R77, R78): at the least, and how much more at the most where a bound is
known. A relative time wait holds for its time, or to its timeout; any other to its timeout, if it has one. -/
def waitSpan (g : List Byte) : Nat × Option Nat :=
  let tmo := 40000000 * sgWaitTmo g
  let v := 32 * (sgWaitValue g % 2 ^ 48)
  if sgWaitKind g = 0 then (0, some 0)
  else if sgWaitKind g = 2 ∧ bit (sgWaitArg g) 0 then (if tmo = 0 then v else min v tmo, some 0)
  else (0, if tmo = 0 then none else some tmo)

/-- A course: its shots at the shortest waits, and how much longer the wait between a part and the next one may hold. -/
abbrev Course := List PathShot × List (Option Nat)

/-- The course of a program from a number of last passes of a segment on, along NEXT, up to a time (03 R66). A wait that
may hold longer than its least begins a new part. -/
def Member.path (m : Member) (grp f : Nat) : Nat → Nat → Nat → Nat → Nat → Nat → Course
  | 0, _, _, _, _, _ => ([], [])
  | fuel + 1, part, i, left, t, limit =>
    if limit ≤ t then ([], []) else
    match m.segs[i]? with
    | none => ([], [])
    | some x =>
      let here := pathPass x grp part t f
      let after := t + max 1 (passSpan (issued x.1 x.2) f)
      let go (j left : Nat) (g : List Byte) (wait : Bool) : Course :=
        let w := if wait then waitSpan g else (0, some 0)
        if w.2 = some 0 then
          let r := m.path grp f fuel part j left (after + w.1) limit
          (here ++ r.1, r.2)
        else
          let r := m.path grp f fuel (part + 1) j left (after + w.1) limit
          (here ++ r.1, w.2 :: r.2)
      if sgRepeat x.1 = 0 then go i left x.1 (sgWaitEvery x.1)
      else if 1 < left then go i (left - 1) x.1 (sgWaitEvery x.1)
      else
        match m.segs[sgNext x.1]? with
        | some y => go (sgNext x.1) (sgRepeat y.1) y.1 true
        | none => (here, [])

/-- The courses that show every set of shots of a program that a Pass, a commitment or a group can hold together: one
from each segment, long enough for the longest of these, at a throttle factor (03 R80, R81, R83). -/
def Member.paths (m : Member) (grp lead f : Nat) : List Course :=
  let all := m.segs.flatMap fun x => pathPass x grp 0 0 f
  let long := all.foldl (fun a p => max a (p.last - min p.first (p.at_ : Int)).toNat) 0 + lead
  let span := m.segs.foldl (fun a x => max a (passSpan (issued x.1 x.2) f)) 1
  m.segs.zipIdx.map fun (x, i) =>
    let own := max 1 (passSpan (issued x.1 x.2) f)
    let n := max 4 (long / own + 2)
    let n := if sgRepeat x.1 = 0 then n else min n (sgRepeat x.1)
    let limit := n * own + long + 4 * span
    m.path grp f limit 0 i n 0 limit

/-- An interval of a course: it opens in a part at a time, and closes in a part at a time, each as the course counts
with its shortest waits. -/
structure Held where
  a  : Nat
  lo : Int
  b  : Nat
  hi : Int

/-- How much longer the waits between two parts may hold together; none where nothing bounds them. -/
def extra (es : List (Option Nat)) (a b : Nat) : Option Nat :=
  ((es.drop a).take (b - a)).foldl (fun m e => match m, e with | some x, some y => some (x + y) | _, _ => none) (some 0)

/-- The first interval may open before the second closes, the waits between holding as long as they may. -/
def mayPrecede (es : List (Option Nat)) (x y : Held) : Bool :=
  match extra es x.a y.b with
  | none => true
  | some e => decide (x.lo < y.hi + (e : Nat))

/-- Two intervals of a course may hold one instant together. -/
def mayMeet (es : List (Option Nat)) (x y : Held) : Bool := mayPrecede es x y && mayPrecede es y x

/-- The most intervals of a course that hold one instant, over all that the waits may hold. Every interval lies in one
part: part by part from the last, each instant of the part has the most that it and the parts after it can hold. The
instants that matter are the last ones of an interval, moved by the waits. -/
def mostHeld (es : List (Option Nat)) (l : List Held) : Nat :=
  let at_ : List Int := (l.flatMap fun x => (List.range (x.a + 1)).filterMap fun j =>
    (extra es j x.a).map fun e => x.hi - 1 + (e : Int)).eraseDups
  let best := (List.range (es.length + 1)).reverse.foldl (fun (later : List (Int × Nat)) j =>
    at_.map fun t =>
      let here := (l.filter fun x => x.a == j && decide (x.lo ≤ t) && decide (t < x.hi)).length
      let after := (later.filter fun (y : Int × Nat) => decide (y.1 ≤ t) &&
        match nth es j none with | some (e : Nat) => decide (t ≤ y.1 + (e : Int)) | none => true).foldl (fun m y => max m y.2) 0
      (t, here + after)) []
  best.foldl (fun m y => max m y.2) 0

/-- The Pass of a shot as an interval of its course, begun and ended by margins. -/
def PathShot.held (x : PathShot) (lo hi : Int) : Held := { a := x.part, lo := x.first - lo, b := x.part, hi := x.last + hi }

/-- A group of a course (03 R83): from its opening to its latest closing, and the dither in it. -/
structure PathGroup where
  set_  : Nat
  ended : Bool
  held  : Held
  slack : Int

/-- The groups of a course in the order of their openings. A group that no GROUP_END ends stays open. -/
def pathGroups (p : List PathShot) : List PathGroup :=
  let reach := p.foldl (fun a x => max a x.last) 0
  let final := p.foldl (fun a x => max a x.part) 0
  (p.foldl (fun (acc : List PathGroup) x =>
    let mine (g : PathGroup) : Bool := g.set_ == x.set_ && !g.ended
    if acc.any mine then acc.map fun g =>
      if mine g then { g with ended := x.ends, held := { g.held with b := x.part, hi := x.last }, slack := x.slack } else g
    else acc ++ [{ set_ := x.set_, ended := x.ends, held := x.held 0 0, slack := x.slack }]) []).map fun g =>
      if g.ended then g else { g with held := { g.held with b := final, hi := reach } }

/-- The largest of a list of rationals, 0 when empty. -/
def maxRat (l : List Rat) : Rat := l.foldl (fun a b => if a < b then b else a) 0

/-- A sum of rationals. -/
def sumRat (l : List Rat) : Rat := l.foldl (· + ·) 0

/-- The runs that members put on an engine: by member those of each of its segments, which run one at a time, and
the engine's TIMER runs (11 R285, R288). -/
def State.engineRuns (s : State) (ms : List Member) (e : Nat) : List (List (List RunKind)) :=
  match s.engineGroup e with
  | none => []
  | some grp =>
    let vs := (ms.filter fun m => decide (grp ∈ m.groups)).map fun m => m.views grp
    vs.map (fun l => l.map fun v => s.runKinds v e grp) ++
      (if vs.isEmpty then [] else [[s.timerKind (vs.flatten.foldl (fun a v => max a v.bins) 0) e]])

/-- The work in cycles that runs ask for within a time in ns: of each member the segment that asks for most. -/
def workWithin (ks : List (List (List RunKind))) (t : Nat) : Nat :=
  ks.foldl (fun a segs => a + segs.foldl (fun m l =>
    max m (l.foldl (fun b k => b + ceilDiv (40 * t) (max 1 k.period) * k.cost.cycles) 0)) 0) 0

/-- The engine busy period in ns (11 R288): the least fixed point above 0, when one is reached. -/
def busyPeriod (ks : List (List (List RunKind))) : Option Nat :=
  let rec go : Nat → Nat → Option Nat
    | 0, _ => none
    | fuel + 1, t => if workWithin ks t = t then some t else go fuel (workWithin ks t)
  go 4096 (workWithin ks 1)

/-- The worst-case INIT run of an engine for the windows of members (07 R201). -/
def State.initCost (s : State) (ms : List Member) (e : Nat) : Nat :=
  match s.engineGroup e, (s.eng e).image with
  | some grp, some h =>
    let vs := (ms.filter fun m => decide (grp ∈ m.groups)).flatMap fun m => m.views grp
    if vs.isEmpty then 0
    else (runCost ((s.eng e).words (s.eng e).half) h.entryInit (vs.foldl (fun a v => max a v.bins) 0) h.maxPeaks
      (s.stampsOf grp)).cycles
  | _, _ => 0

/-! Streams (10 R253, R265, R272; 11 R285 to R287). -/

/-- Bytes of the largest capture of a unit (09 R244, R245, 11 R285). -/
def State.captureSize (s : State) (u : Nat) : Nat :=
  let w := if s.fld (WFD_CAP_CFG u) 31 28 == 0 then 1 else 2
  let n := s.fld (WFD_CAP_PRE u) 15 0 + s.regN (WFD_CAP_POST u)
  32 + w * n + 4 * ceilDiv n 16

/-- The WAVE parts of a unit's capture and their bytes, with header, sideband and padding (10 R253, R259). -/
def State.captureParts (s : State) (u : Nat) : Nat × Nat :=
  let w := if s.fld (WFD_CAP_CFG u) 31 28 == 0 then 1 else 2
  let n := s.fld (WFD_CAP_PRE u) 15 0 + s.regN (WFD_CAP_POST u)
  let part (k : Nat) : Nat := 16 * ceilDiv (32 + 4 * ceilDiv k 16 + w * k) 16
  let full := n / 32768
  let rest := n % 32768
  (ceilDiv n 32768, full * part 32768 + (if rest = 0 then 0 else part rest))

/-- The back-to-back rate of a unit: 1 / (S × Ts + 32 ns). -/
def State.backToBack (s : State) (u : Nat) : Rat :=
  let n := s.fld (WFD_CAP_PRE u) 15 0 + s.regN (WFD_CAP_POST u)
  (1000000000000 : Rat) / ((n * 125 * 2 ^ s.wfd.mode + 32000 : Nat) : Rat)

/-- The rate of the shots of a member that arm a unit, over its segments. -/
def Member.armRate (m : Member) (u : Nat) : Rat :=
  maxRat (m.segs.map fun x =>
    let es := issued x.1 x.2
    let n := (es.filter fun e => seWfArm e && bit (beWf (x.2.beam e)) u).length
    let span := passSpan es
    if span = 0 then 0 else (n * UPS : Nat) / (span : Rat))

/-- Captures per second of a unit under members, whatever its lane holds now: at the rate of its arming shots, limited to its
back-to-back rate, at which a unit of a CAP_MASK counts (11 R285). -/
def State.captureRate (s : State) (ms : List Member) (u : Nat) : Rat :=
  let bb := s.backToBack u
  if ms.any fun m => bit (stCapMask (imStream m.img)) u then bb else
  let r := sumRat (ms.map fun m => m.armRate u)
  if bb < r then bb else r

/-- Records and record bytes per second that a segment's runs on a group make, and those of the engine's TIMER runs. -/
def State.groupRates (s : State) (m : Member) (grp : Nat) (c : Cost → Nat) : Rat × Rat :=
  let e := s.groupEngine grp
  let rate (l : List RunKind) : Rat := sumRat (l.map fun k => k.rate * (c k.cost : Rat))
  (maxRat ((m.views grp).map fun v => rate (s.runKinds v e grp)),
    rate (s.timerKind ((m.views grp).foldl (fun a v => max a v.bins) 0) e))

/-- Input EVENT records per second: 2 × 10^6 for each event input that is on and records (11 R285). -/
def State.inputRate (s : State) : Rat :=
  (((List.range 8).filter fun n => bit (s.regN (HCH_EV_CFG n)) 3 && s.fld (HCH_EV_CFG n) 1 0 != 3).length * 2000000 : Nat)

/-- Records and record bytes per second of a member's stream. -/
def State.recordRates (s : State) (m : Member) : Rat × Rat :=
  let eng (c : Cost → Nat) : Rat := sumRat (m.groups.map fun g => (s.groupRates m g c).1 + (s.groupRates m g c).2)
  let inputs : Rat := if bit (stSysMask (imStream m.img)) 0 then s.inputRate else 0
  let wave (f : Nat × Nat → Nat) : Rat :=
    sumRat ((List.range 16).map fun u => s.captureRate [m] u * (f (s.captureParts u) : Rat))
  (eng Cost.records + inputs + wave Prod.fst, eng Cost.bytes + 32 * inputs + wave Prod.snd)

/-- Frames per second (11 R285), rounded up. -/
def frameRate (d : List Byte) (bytes : Rat) : Nat :=
  let a : Rat := (1000000 : Rat) / (max 1 (stClose d) : Nat)
  let b : Rat := bytes / ((max 1 (stFrameMax d * 16 - 32) : Nat) : Rat)
  (if a < b then b else a).ceil.toNat

/-- r_s, the stream byte rate (11 R285). -/
def State.streamRate (s : State) (m : Member) : Rat :=
  let b := (s.recordRates m).2
  b + ((32 * frameRate (imStream m.img) b : Nat) : Rat)

/-- Bytes that a port adds to a datagram (11 R285). -/
def datagramOver (d : List Byte) : Nat := 82 + (if bit (stVlan d) 12 then 4 else 0)

/-- Fragment size on a port (10 R272). -/
def State.fragSize (s : State) (p : Nat) : Nat := (s.fld (OUT_ETH_CFG p) 23 10 - 44) / 16 * 16

/-- The PCIe link has trained and is lost (11 R282). -/
def State.pcieLost (s : State) : Bool := !s.out.pcieUp && s.out.pcieWidth != 0

/-- PCIe bytes per second as trained (10 R268, 11 R281); 0 while the link is lost (R282). A link that has not trained
yet counts as nominal. -/
def State.pcieCapacity (s : State) : Rat :=
  if s.pcieLost then 0
  else if s.out.pcieUp then
    (31500000000 : Rat) * (s.out.pcieWidth : Rat) / 8 * (s.out.pcieSpeed : Rat) / 32
  else 31500000000

/-- A port is enabled and its link down (11 R292). -/
def State.ethDown (s : State) (p : Nat) : Bool :=
  bit (s.regN (OUT_ETH_CFG p)) 0 && !nth s.out.ethUp p false

/-- Port bytes per second on the wire (11 R281); 0 while an enabled port is down (R292). -/
def State.ethCapacity (s : State) (p : Nat) : Rat :=
  if s.ethDown p then 0
  else if bit (s.regN (OUT_ETH_CFG p)) 2 then 1250000000 else 3125000000

/-- DRAM bytes per second: 0.9 of the data rate of one or two channels at their speed (11 R281, 15
R373, R383). -/
def State.dramCapacity (s : State) : Rat :=
  let ch : Nat := nth [46080000000, 40320000000, 34560000000] s.mem.speed 46080000000
  ((if s.mem.fallback.isSome then ch else 2 * ch : Nat) : Rat)

/-- Transmission time of a full frame of a stream on its server, in ns (11 R289). -/
def State.frameTime (s : State) (d : List Byte) : Rat :=
  let bytes : Nat := stFrameMax d * 16
  if stRoute d = 1 then
    let p := stRing d
    let f := s.fragSize p
    let dg := ceilDiv bytes (max 1 f)
    let cap := s.ethCapacity p
    if cap = 0 then 0 else ((bytes + dg * datagramOver d : Nat) : Rat) * 1000000000 / cap
  else if stRoute d = 0 then
    let cap := s.pcieCapacity
    if cap = 0 then 0 else (bytes : Rat) * 1000000000 / cap
  else (bytes : Rat) * 1000000000 / 1171875000

/-- Whether two streams share a server. -/
def sameServer (a b : List Byte) : Bool :=
  stRoute a == stRoute b && (stRoute a != 1 || stRing a == stRing b)

/-- b of 11 R289 in ns, over the streams of a server. -/
def State.blocking (s : State) (ds : List (List Byte)) (route : Nat) : Rat :=
  maxRat (ds.map s.frameTime) + (if route = 1 then 10000 else 2000)

/-- The throttle factor of a step in Q8.8 (14 R353). -/
def State.stepFactor (s : State) (i : Nat) : Nat := s.fld (THM_STEP_TAB i) 15 0

/-- Steps of the table in force. -/
def State.stepCount (s : State) : Nat := s.fld THM_CFG 3 0

/-- T_coll, T_rel and T_hand of a member's segments on a group and T_eng of its engine, in ns (11 R287), at a throttle
factor. A context counts when its run can emit a record: R287 counts from a record's key shot. -/
def State.engineTerms (s : State) (ms : List Member) (m : Member) (grp factor : Nat) : List (List Rat) :=
  let e := s.groupEngine grp
  let walk := s.fld (HCH_WALK_SEL grp) 15 0 != 0xFFFF
  let busy : Nat := (busyPeriod (s.engineRuns ms e)).getD (10 ^ 12)
  (m.views grp).map fun v =>
    let kinds := s.runKinds v e grp
    let shotReach : Int := v.shots.foldl (fun a x => max a x.2.2) 0
    let shotCtx : Rat := ((shotReach : Rat) + ((32 * v.dither : Nat) : Rat)) / 40
    let groupCtx : Rat := maxRat (v.groups.map fun x =>
      (((x.2.1.1 - x.1.1) * factor : Nat) : Rat) / 256 / 40 +
        (((32 * v.dither : Nat) : Rat) + (x.2.2 : Rat)) / 40)
    let emits (group : Bool) : Bool := kinds.any fun k => k.group == group && k.cost.entries != 0
    let coll : Rat := maxRat ((if emits false then [shotCtx] else []) ++ (if emits true then [groupCtx] else []))
    let rel : Rat := (64 : Rat) / 5 + 20 +
      (if walk then ((4 * s.fld HCH_WALK_CFG 7 0 : Nat) : Rat) / 5 else 0) + (v.burst : Rat) / 40
    let hand : Rat := ((40 + ceilDiv (8 * v.bins) 128 + 16 + 4 : Nat) : Rat)
    [coll, rel, hand, (busy : Rat)]

/-- T_coll + T_rel + T_hand + T_eng of a member, in ns: each term the largest over its segments and their engines (11
R287). -/
def State.engineDelay (s : State) (ms : List Member) (m : Member) (factor : Nat) : Rat :=
  let terms := m.groups.flatMap fun g => s.engineTerms ms m g factor
  sumRat ((List.range 4).map fun i => maxRat (terms.map fun l => nth l i 0))

/-- L_s in ns (11 R287) at a throttle factor, with the runs of a set on the engines and the streams of another on the
server. The hops of route 2 take 18 R455's time to the manager. -/
def State.latency (s : State) (ms on : List Member) (m : Member) (factor : Nat) : Rat :=
  let d := imStream m.img
  let eng := s.engineDelay ms m factor
  let wave := maxRat ((List.range 16).map fun u =>
    if s.captureRate [m] u = 0 then 0
    else ((s.regN (WFD_CAP_POST u) * 125 * 2 ^ s.wfd.mode : Nat) : Rat) / 1000 + 300)
  let first := if eng < wave then wave else eng
  let peers := (on.map fun x => imStream x.img).filter (sameServer d)
  let c := s.frameTime d
  let q := s.blocking peers (stRoute d) + c
  let del : Rat := if stRoute d = 0 then ((s.fld OUT_PCIE_ALLOW 15 0 + 100 : Nat) : Rat)
    else if stRoute d = 1 then 0 else ((max 1 s.ifl.hops : Nat) : Rat) * (c + 2000)
  first + 81920 + 1000 + ((1000 * stClose d : Nat) : Rat) + q + del + 600000

/-- Q_s in ns. -/
def State.queueTime (s : State) (ms : List Member) (m : Member) : Rat :=
  let d := imStream m.img
  s.blocking ((ms.map fun x => imStream x.img).filter (sameServer d)) (stRoute d) + s.frameTime d

/-- The test of 11 R289 for the streams of one server: each as (d_s, p_s, c_s) in ns. It is made at
every instant at which the demand steps, up to the instant from which the rates alone decide it. -/
def edfOk (b : Rat) (ss : List (Rat × Rat × Rat)) : Bool :=
  let demand (l : Rat) : Rat := ss.foldl (fun a x =>
    if l < x.1 then a else a + (((l - x.1) / x.2.1).floor + 1 : Int) * x.2.2) b
  let u := sumRat (ss.map fun x => x.2.2 / x.2.1)
  ss.all (fun x => decide (b + x.2.2 ≤ x.1)) &&
  decide (u < 1) &&
  (let horizon : Rat := (b + sumRat (ss.map fun x => x.2.2)) / (1 - u)
   ss.all fun x =>
     (List.range (((horizon - x.1) / x.2.1).floor.toNat + 1)).all fun k =>
       let l := x.1 + (k : Rat) * x.2.1
       decide (demand l ≤ l))

/-! The decision (11 R280). -/

/-- A failure: throttle step, instance, code, as DETAIL holds them. -/
def admDetail (step inst code : Nat) : Nat := step * 65536 + inst % 256 * 256 + code

/-- The first failing instance of a list of instances. -/
def firstBad (code : Nat) (l : List (Nat × Bool)) : Option Nat :=
  (l.find? fun x => !x.2).map fun x => admDetail 0 x.1 code

/-- The engines that serve groups of the members, in ascending order. -/
def State.usedEngines (s : State) (ms : List Member) : List Nat :=
  let gs := (List.range 64).filter fun g => ms.any fun m => decide (g ∈ m.groups)
  (List.range 68).filter fun e => gs.any fun g => s.groupEngine g == e

/-- Shots of a pass over its duration, in the segment where they are most (11 R285), of those that pass a test. -/
def Member.shotRate (m : Member) (counts : List Byte → Bool) : Rat :=
  maxRat (m.segs.map fun x =>
    let es := issued x.1 x.2
    let span := es.foldl (fun a e => a + seInterval e) 0
    if span = 0 then 0 else ((es.filter counts).length * UPS : Nat) / (span : Rat))

/-- Announcements a second that a port may carry: 0.8 of the rate of the control slots (18 R441, R452). -/
def controlLimit : Rat := 58593744 / 10

/-- Announced shots a second on a port (18 R450, R452): the manager sends them down every joined port, and a worker takes
them from the port to its parent. -/
def State.announcedRate (s : State) (ms : List Member) (inst : Nat) : Rat :=
  let x := (nth s.ifl.ports (inst % 4) .reset).state
  if (s.role = 1 ∧ x = 3) ∨ (s.role = 2 ∧ x ≠ 4) then sumRat (ms.map fun m => m.shotRate seSync) else 0

/-- The load of one capacity code on an instance (11 R285; 18 R452). -/
def State.load (s : State) (ms : List Member) (code inst : Nat) : Rat :=
  let lam : Rat := (s.regN ADM_AMBIENT : Rat)
  let onEngine (f : GroupView → Nat → Rat) : Rat :=
    match s.engineGroup inst with
    | none => 0
    | some g => sumRat (ms.map fun m => if g ∈ m.groups then maxRat ((m.views g).map fun v => f v g) else 0)
  let timers (c : Cost → Nat) : Rat :=
    match s.engineGroup inst with
    | none => 0
    | some g =>
      if ms.any fun m => decide (g ∈ m.groups) then
        let bins := (ms.flatMap fun m => m.views g).foldl (fun a v => max a v.bins) 0
        sumRat ((s.timerKind bins inst).map fun k => k.rate * (c k.cost : Rat))
      else 0
  match code with
  | 0x01 => sumRat (ms.map fun m => m.shotRate fun _ => true)
  | 0x04 => onEngine fun v _ =>
      let n : Nat := if v.coded then v.inFlight else min 1 v.inFlight
      (n : Rat) * 8 * (lam + 4 * v.rate)
  | 0x05 => onEngine (fun v g => sumRat ((s.runKinds v inst g).map fun k => k.rate * (k.cost.cycles : Rat)))
      + timers Cost.cycles
  | 0x06 => onEngine (fun v g => sumRat ((s.runKinds v inst g).map fun k => k.rate * (k.cost.entries : Rat)))
      + timers Cost.entries
  | 0x09 =>
    let f := sumRat (ms.map fun m => if inst ∈ m.groups then maxRat ((m.views inst).map GroupView.rate) else 0)
    maxRat ((List.range 8).map fun i =>
      let c := 8 * inst + i
      let ed := s.fld (HCH_CFG c) 19 17
      let up := s.fld (HCH_THRESH c) 25 16 != 0
      let e : Nat := 1 + b2n (bit ed 0) + b2n (bit ed 1 && up) + b2n (bit ed 2 && up)
      (e : Rat) * (lam + 4 * f))
  | 0x0A =>
    sumRat ((List.range 64).map fun g =>
      let on := ms.filter fun m => decide (g ∈ m.groups)
      sumRat (on.map fun m => (s.groupRates m g Cost.records).1) +
        maxRat (on.map fun m => (s.groupRates m g Cost.records).2)) + s.inputRate
  | 0x0B => sumRat ((List.range 16).map fun u => s.captureRate ms u * (s.captureSize u : Rat))
  | 0x0C => 2 * sumRat (ms.map s.streamRate)
  | 0x0E => sumRat ((ms.filter fun m => stRoute (imStream m.img) == 0).map s.streamRate)
  | 0x0F => sumRat ((ms.filter fun m => stRoute (imStream m.img) == 1 && stRing (imStream m.img) == inst).map
      fun m =>
        let d := imStream m.img
        let r := s.streamRate m
        let fr := frameRate d (s.recordRates m).2
        let perFrame : Rat := r / ((max 1 fr : Nat) : Rat)
        let dg := (perFrame / ((max 1 (s.fragSize inst) : Nat) : Rat)).ceil.toNat
        r + ((fr * dg * datagramOver d : Nat) : Rat))
  | 0x0D => ((ms.foldl (fun a m => a + stStage (imStream m.img)) 0 : Nat) : Rat)
  | 0x10 =>
    let sent := if s.role = 2 then sumRat ((ms.filter fun m => stRoute (imStream m.img) == 2).map s.streamRate) else 0
    max sent (s.announcedRate ms inst * (937500000 / controlLimit))
  | _ => 0

/-- The limit of a capacity code on an instance (11 R281); a port that is down forwards nothing (R292). -/
def State.limit (s : State) (code inst : Nat) : Rat :=
  match code with
  | 0x01 => 4000000
  | 0x04 => 6400000000
  | 0x05 => 800000000
  | 0x06 => 5000000
  | 0x09 => 500000000
  | 0x0A => 320000000
  | 0x0B => 6400000000
  | 0x0C => s.dramCapacity * 4 / 5
  | 0x0D => (s.fld ADM_STAGE_SIZE 15 0 : Rat) * 4 / 5
  | 0x0E => s.pcieCapacity * 4 / 5
  | 0x0F => s.ethCapacity inst * 4 / 5
  | 0x10 => if s.ifl.ports.zipIdx.any fun (p, i) => i == inst % 4 && p.state == 4 then 0 else 937500000
  | _ => 0

/-- The instances of a capacity code. -/
def State.instances (s : State) (ms : List Member) (code : Nat) : List Nat :=
  match code with
  | 0x04 | 0x05 | 0x06 => s.usedEngines ms
  | 0x09 => (List.range 64).filter fun g => ms.any fun m => decide (g ∈ m.groups)
  | 0x0F => [0, 1, 2, 3]
  | 0x10 => if s.role = 1 then (List.range 4).map fun p => 4 * s.ifl.dev + p else [4 * s.ifl.dev + s.ifl.parentPort]
  | _ => [0]

/-- A capacity code on all its instances. -/
def State.capacityCheck (s : State) (ms : List Member) (code : Nat) : Option Nat :=
  firstBad code ((s.instances ms code).map fun i => (i, decide (s.load ms code i ≤ s.limit code i)))

/-- The limits of 03 R80 and R81 on a course: 16 shots in flight, no other Pass open with that of an uncoded shot, and
1,024 shots pending or in flight, each from its earliest commitment. -/
def flightOk (lead : Nat) (c : Course) : Bool :=
  let p := c.1
  decide (mostHeld c.2 (p.map fun x => x.held 0 0) ≤ 16) &&
  (p.all fun x => x.coded ||
    decide ((p.filter fun y => mayMeet c.2 (x.held 0 0) (y.held 0 0)).length ≤ 1)) &&
  decide (mostHeld c.2 (p.map fun x => { x.held 0 0 with lo := (x.at_ : Int) - (lead : Nat) }) ≤ 1024)

/-- The first failing instance of a list of instances, and its first failing throttle step (11 R280). -/
def State.firstStep (s : State) (code : Nat) (es : List Nat) (ok : Nat → Nat → Bool) : Option Nat :=
  (es.flatMap fun e => (List.range (max 1 s.stepCount)).map fun k => (e, k)).findSome? fun x =>
    if ok x.1 (if x.2 = 0 then 256 else s.stepFactor x.2) then none else some (admDetail x.2 x.1 code)

/-- Code 0x02 (03 R80, R81), along every course of each program at every throttle step: an overlap of uncoded shots
within one segment has failed 03 R74 before. -/
def State.flightCheck (s : State) (ms : List Member) : Option Nat :=
  let lead := s.horizonOf (ms.map Member.img)
  s.firstStep 2 (s.usedEngines ms) fun e f =>
    match s.engineGroup e with
    | none => true
    | some g => ms.all fun m => (m.paths g lead f).all (flightOk lead)

/-- At most two groups overlap, the handover of a group ends before the group two later opens, and the deadlines of GROUP
and SHOT runs, on the courses of a program at a throttle factor (03 R83; 07 R187, R202). -/
def State.groupCheck (s : State) (m : Member) (e g f : Nat) (ms : List Member) : Bool :=
  let vs := m.views g
  let rel : Int := 512 + 800 + (if s.fld (HCH_WALK_SEL g) 15 0 != 0xFFFF then
      (32 * s.fld HCH_WALK_CFG 7 0 : Nat) else 0) + ((vs.foldl (fun a v => max a v.burst) 0 : Nat) : Int)
  let hand : Int := (40 * (40 + ceilDiv (8 * vs.foldl (fun a v => max a v.bins) 0) 128 + 16 + 4) : Nat)
  let perShot := (List.range 8).foldl (fun a i =>
    if bit (s.regN (HCH_CFG (8 * g + i))) 1 then a + s.fld (HCH_CFG (8 * g + i)) 11 8 else a) 0
  let anyGroup := match (s.eng e).image with | some h => h.entryGroup != 0xFFFF | none => false
  (m.paths g (s.horizonOf (ms.map Member.img)) f).all fun c =>
    let gs := pathGroups c.1
    let meets (x y : PathGroup) : Bool := mayMeet c.2 x.held y.held
    !(gs.zipIdx.any fun (x, i) => (gs.drop (i + 1)).zipIdx.any fun (y, j) =>
      meets x y && (gs.drop (i + j + 2)).any fun z => meets x z && meets y z) &&
    ((gs.zip (gs.drop 2)).all fun x => decide (x.1.held.hi + rel + hand ≤ x.2.held.lo)) &&
    (match busyPeriod (s.engineRuns ms e) with
      | none => false
      | some b =>
        (!anyGroup || (gs.zip (gs.drop 2)).all fun x =>
          decide (x.1.held.hi + rel + hand + (40 * b : Nat) ≤ x.2.held.hi - x.2.slack)) &&
        decide (mostHeld c.2 (c.1.map fun x => x.held 0 (rel + (40 * b : Nat))) * perShot ≤ 2048))

/-- Code 0x03. -/
def State.overlapCheck (s : State) (ms : List Member) : Option Nat :=
  s.firstStep 3 (s.usedEngines ms) fun e f =>
    match s.engineGroup e with
    | none => true
    | some g => ms.all fun m => decide (g ∉ m.groups) || s.groupCheck m e g f ms

/-- The profiles, by table ID, that a member's segments bring to a group. -/
def Member.profiles (m : Member) (g : Nat) : List Nat :=
  (m.segs.filter fun x => (issued x.1 x.2).any fun e => bit (beRx (x.2.beam e)) g).map fun x => sgProfile x.1

/-- Code 0x07 (07 R192): at most eight profile versions on an engine; versions of replaced profiles
that are still in use count. -/
def State.slotCheck (s : State) (ms : List Member) : Option Nat :=
  firstBad 7 ((s.usedEngines ms).map fun e =>
    (e, match s.engineGroup e with
      | none => true
      | some g =>
        let ids := (ms.flatMap fun m => m.profiles g).eraseDups
        let cur := ids.map fun i => (s.table 4 i).map Table.offset
        let old := (s.eng e).profiles.zipIdx.filter fun (x, i) =>
          (match x with | some v => !cur.contains (some v.2) | none => false) && (s.eng e).slotUsed i
        decide (ids.length + old.length ≤ 8)))

/-- Code 0x08 (11 R283), for a candidate or a replacement: without spares, some sound engine serves no group named by
the candidate or by a program that has not been withdrawn. -/
def State.reserveCheck (s : State) (ms : List Member) : Option Nat :=
  if s.rep.pool.isEmpty then
    let free := (List.range 68).any fun e =>
      !s.rep.engFail.contains e &&
      (match s.engineGroup e with
        | none => true
        | some g => !s.presentNames g && ms.all fun m => decide (g ∉ m.groups))
    if free then none else some (admDetail 0 0 8)
  else none

/-- The reservation that a stream needs, in units of 64 KB (11 R286). -/
def State.stageNeed (s : State) (m : Member) : Nat :=
  let d := imStream m.img
  let need : Rat := s.streamRate m * ((stBound d + 600 : Nat) : Rat) / 1000000 +
    ((2 * stFrameMax d * 16 : Nat) : Rat)
  (need / 65536).ceil.toNat

/-- Code 0x0D (11 R286). -/
def State.stageCheck (s : State) (ms : List Member) : Option Nat :=
  let sum := ms.foldl (fun a m => a + stStage (imStream m.img)) 0
  if ms.all (fun m => decide (s.stageNeed m ≤ stStage (imStream m.img))) &&
      decide (10 * sum ≤ 8 * s.fld ADM_STAGE_SIZE 15 0) then none
  else some (admDetail 0 0 0x0D)

/-- The instance that a stream's latency is reported under: its port, 0 on PCIe. -/
def latInstance (d : List Byte) : Nat := if stRoute d = 1 then stRing d else 0

/-- Code 0x11 (11 R287, R289): instances ascending, then steps ascending. -/
def State.latencyCheck (s : State) (ms : List Member) : Option Nat :=
  let steps := List.range (max 1 s.stepCount)
  let one (inst : Nat) (step : Nat) : Bool :=
    let f := if step = 0 then 256 else s.stepFactor step
    let mine := ms.filter fun m => latInstance (imStream m.img) == inst
    (mine.all fun m => decide (s.latency ms ms m f ≤ ((1000 * stBound (imStream m.img) : Nat) : Rat))) &&
    ([0, 1].all fun route =>
      let on := mine.filter fun m => stRoute (imStream m.img) == route
      on.isEmpty || edfOk (s.blocking (on.map fun m => imStream m.img) route)
        (on.map fun m =>
          let d := imStream m.img
          (((1000 * stBound d : Nat) : Rat) - (s.latency ms ms m f - s.queueTime ms m),
            (1000000000 : Rat) / ((max 1 (frameRate d (s.recordRates m).2) : Nat) : Rat),
            s.frameTime d)))
  ([0, 1, 2, 3].flatMap fun i => steps.map fun k => (i, k)).findSome? fun x =>
    if one x.1 x.2 then none else some (admDetail x.2 x.1 0x11)

/-- Admission of a set of programs (11 R280): the first failure in ascending code order. The engine reserve holds back
a submission or replacement only: programs admitted before the spares ran out stay admitted (R283). -/
def State.admission (s : State) (ms : List Member) (again : Bool := false) : Option Nat :=
  [ fun _ : Unit => s.capacityCheck ms 0x01, fun _ => s.flightCheck ms, fun _ => s.overlapCheck ms,
    fun _ => s.capacityCheck ms 0x04, fun _ => s.capacityCheck ms 0x05,
    fun _ => s.capacityCheck ms 0x06, fun _ => s.slotCheck ms,
    fun _ => if again then none else s.reserveCheck ms,
    fun _ => s.capacityCheck ms 0x09, fun _ => s.capacityCheck ms 0x0A,
    fun _ => s.capacityCheck ms 0x0B, fun _ => s.capacityCheck ms 0x0C, fun _ => s.stageCheck ms,
    fun _ => s.capacityCheck ms 0x0E, fun _ => s.capacityCheck ms 0x0F,
    fun _ => s.capacityCheck ms 0x10, fun _ => s.latencyCheck ms ].findSome? fun f => f ()

/-- The set that admission checks (11 R279): the programs that have not been withdrawn but for those
that re-admission left out. -/
def State.admSet (s : State) : List Member :=
  (s.present.filter fun p => !p.2.outOfSet).map fun p => s.member p.1 p.2.image

/-- Admission of the set in force; `again` for what is neither a submission nor a replacement. -/
def State.admissionNow (s : State) (again : Bool := false) : Option Nat := s.admission s.admSet again

/-- The share of a code on an instance, in 0.01 %, saturating at its field. -/
def State.share (s : State) (ms : List Member) (code inst : Nat) : Nat :=
  let l := s.limit code inst
  if l ≤ 0 then 0 else min 65535 (roundRat (s.load ms code inst * 10000 / l)).toNat

/-- The instance with the highest share of a code, lowest on a tie, and its share (20 R500). -/
def State.topOf (s : State) (ms : List Member) (code : Nat) : Nat × Nat :=
  (s.instances ms code).foldl (fun b i =>
    let x := s.share ms code i
    if b.2 < x then (i, x) else b) (0, 0)

/-- The capacity codes (11 R281). -/
def capacityCodes : List Nat := [4, 5, 6, 9, 0xA, 0xB, 0xC, 0xD, 0xE, 0xF, 0x10]

/-- The engine reserve of 11 R283 is in force. -/
def State.reserveOn (s : State) : Bool := s.rep.pool.isEmpty

/-- Capacity is below nominal (11 R292). -/
def State.reduced (s : State) : Bool :=
  s.mem.fallback.isSome || s.pcieLost ||
  (s.out.pcieUp && (decide (s.out.pcieWidth < 8) || decide (s.out.pcieSpeed < 32))) ||
  (List.range 4).any (fun p => s.ethDown p) || s.ifl.ports.any fun p => p.state == 4

/-- Writes ADM_SHARE_r and SEQ_RATE for the set in force (11 R294, 20 R496, R500), and HEN_WCET_e (07
R201). -/
def State.postShares (s : State) : State :=
  let ms := s.admSet
  let s := capacityCodes.foldl (fun t c =>
    let x := s.topOf ms c
    t.setRegN (ADM_SHARE c) (x.1 * 2 ^ 24 + x.2)) s
  let s := s.setRegN SEQ_RATE (roundRat (s.load ms 1 0)).toNat
  (List.range 68).foldl (fun t e =>
    t.setRegN (HEN_WCET e) ((s.engineRuns ms e).flatten.flatten.foldl (fun a k => max a k.cost.cycles)
      (s.initCost ms e))) s

/-- The admission summary (11 R293). LATENCY is the bound with no other stream on the server. -/
def State.summary (s : State) (ms : List Member) (m : Member) : List Byte :=
  let tops := capacityCodes.map fun c => (c, s.topOf ms c)
  let top := tops.foldl (fun b x => if b.2.2 < x.2.2 then x else b) (4, (0, 0))
  let steps := List.range (max 1 s.stepCount)
  let lat := maxRat (steps.map fun k => s.latency ms [m] m (if k = 0 then 256 else s.stepFactor k))
  let r := s.streamRate m
  leBytes 2 m.pid ++ leBytes 1 top.1 ++ leBytes 1 top.2.1 ++ leBytes 2 top.2.2 ++
    leBytes 1 (b2n s.reserveOn + 2 * b2n s.reduced) ++ leBytes 1 s.stepCount ++
    leBytes 4 (lat / 1000).ceil.toNat ++ leBytes 4 (roundRat (s.load [m] 1 0)).toNat ++
    leBytes 4 (roundRat (s.recordRates m).1).toNat ++ leBytes 4 (r / 1000).ceil.toNat ++
    leBytes 4 (2 * r / 1000).ceil.toNat ++ leBytes 2 (s.stageNeed m) ++ [0, 0]

/-- Counts a refusal of a submission or write (11 R294, R295). -/
def State.countRefusal (s : State) : State := (s.bump ADM_REFUSALS).latch ADM_STATUS 0x1

/-- Re-admission with the capacity in force (11 R292): oldest first, every program that no longer fits
behind the older ones is suspended. -/
def State.readmit (s : State) : State :=
  let order := s.pg.admitted.filterMap fun p => (s.prog p).bind fun q =>
    if q.outOfSet then none else some (p, q)
  let keep := order.foldl (fun (acc : List Member × List Nat) x =>
    let m := s.member x.1 x.2.image
    match s.admission (acc.1 ++ [m]) true with
    | none => (acc.1 ++ [m], acc.2)
    | some _ => (acc.1, acc.2 ++ [x.1])) ([], [])
  let s := if keep.2.isEmpty then s else s.latch ADM_STATUS 0x8
  (keep.2.foldl (fun t p => t.suspend p 2 true) s).postShares

/-- An interruption (11 R290): a second one within the longest BOUND of the running streams sets
DOUBLE_FAULT. -/
def State.interruption (s : State) : State :=
  let bound := (s.present.filter fun p => p.2.live).foldl
    (fun a p => max a (stBound (imStream p.2.image))) 0
  let double := s.adm.interrupts.any fun t => decide (s.time ≤ t + ticksUs bound)
  let s := if double && bound != 0 then s.latch ADM_STATUS 0x10 else s
  { s with adm.interrupts := (s.time :: s.adm.interrupts).take 8 }

end Sys2Proof.Machine
end

