-- ==== Sys2Proof/Machine/Live.lean ====
section
/-!
DEFINITION. What a register read returns (20 R484 to R501 and the register tables of every chapter):
the stored bits, and over them the bits that follow the machine's state.
-/
namespace Sys2Proof.Machine

/-! The active image of an engine (07 R199). -/

/-- A shot number at or after another, modulo 2^48. -/
def notBefore (a b : Long) : Bool := decide ((a - b).toNat < 2 ^ 47)

/-- Work of an engine that is older than the active image: shots, groups, events or a run (R199). -/
def Engine.older (y : Engine) : Bool :=
  match y.image with
  | none => false
  | some h =>
    let old (n : Long) : Bool := !notBefore n h.fromShot
    let oldG (g : GroupCtx) : Bool := old g.first.number
    y.shots.any (fun x => old x.shot.number) || y.groups.any oldG ||
      y.closed.any (fun c => match c with | some g => oldG g | none => false) ||
      y.events.any (fun v => (match v.shot with | some x => old x.shot.number | none => false) ||
        (match v.group with | some g => oldG g | none => false)) ||
      (match y.run with | some r => r.half != y.half | none => false)

/-- The standby half is free once nothing older than the active image is left. -/
def Engine.settle (y : Engine) : Engine :=
  { y with standbyBusy := y.standbyBusy && y.older }

/-- The engine serves a group that a live program names. -/
def State.engineLive (s : State) (e : Nat) : Bool :=
  match s.engineGroup e with | some g => s.liveNames g | none => false

/-- A waiting image becomes active with the first shot committed after its commit, or once the engine serves no
live program (R199). -/
def State.refreshImage (s : State) (e : Nat) : State :=
  match (s.eng e).image with
  | some h =>
    if h.waits && (s.seq.next != h.fromShot || !s.engineLive e) then
      s.setEng e fun y =>
        { y with headers := y.headers.modify y.half (Option.map fun z => { z with waits := false })
                 standbyBusy := true, timerAt := s.time + ticksUs h.timerUs }.settle
    else s
  | none => s

/-- The instance of an array of registers that an address names. -/
def inst (a base count : Nat) (stride : Nat := 4) : Option Nat :=
  if base ≤ a ∧ (a - base) % stride = 0 ∧ (a - base) / stride < count then
    some ((a - base) / stride) else none

/-- A signed value in a field of a width. -/
def enc (bits : Nat) (v : Int) : Nat := (v % (2 ^ bits : Nat)).toNat

/-- A mask of flags as a number, flag 0 in bit 0. -/
def flags (l : List Bool) : Nat := l.foldr (fun b n => b2n b + 2 * n) 0

/-- A mask of the members of a list below a bound, offset by a start. -/
def memberMask (l : List Nat) (start n : Nat) : Nat :=
  flags ((List.range n).map fun i => l.contains (start + i))

/-- Bits that follow the machine's state: a mask and their value. -/
abbrev LiveBits := Option (Nat × Nat)

/-! Shared status (20 R492). -/

/-- The identity register (00 R4). -/
def State.ident (s : State) : Nat := 0x51200000 + (if s.sb then 2 else 1) * 0x10000 + 0x4201

/-- BOOT_STATUS.PHASE (19 R482). -/
def Phase.code : Phase → Nat
  | .hardware => 0 | .loading => 1 | .bringup => 2 | .ready => 3 | .hold => 4

/-- SAF_STATE.STATE (16 R413). -/
def IslandState.code : IslandState → Nat
  | .off => 0 | .unconfigured => 1 | .guardTest => 2 | .run => 3 | .fault => 4

/-- Programs in a set of states. -/
def State.countProgs (s : State) (f : ProgState → Bool) : Nat :=
  (s.present.filter fun p => f p.2.state).length

/-- LEN_A and LEN_B are both driven high (20 R492). -/
def State.lenOn (s : State) : Bool := s.sb && nth s.saf.outs 0 false && nth s.saf.outs 1 false

/-- The engine and pair faults that leave no standby pair (17 R425). -/
def State.ccSingle (s : State) : Bool := !s.rep.standby

/-- A worker's timing PLL holds over: it has a parent port whose link is down (18 R444). -/
def State.holdover (s : State) : Bool :=
  s.role == 2 && s.ifl.ports.any fun p => p.parent && p.state == 4

/-- GLB_STATUS (20 R492). -/
def State.glbStatus (s : State) : Nat :=
  b2n s.boot.firmware * 2 ^ 31 + b2n s.boot.responder * 2 ^ 30 + s.boot.phase.code * 2 ^ 27 +
  b2n s.tim.warm * 2 ^ 26 + b2n (!s.tim.onRef) * 2 ^ 25 + b2n s.thm.shutdown * 2 ^ 24 +
  s.thm.step % 8 * 2 ^ 21 + b2n s.lenOn * 2 ^ 20 + b2n (s.sb && s.saf.st == .fault) * 2 ^ 19 +
  b2n s.ccSingle * 2 ^ 18 + b2n s.mem.fallback.isSome * 2 ^ 17 + b2n s.reduced * 2 ^ 16 +
  min 0xFFFF s.openIncidents

/-- A block holds a latched condition (20 R493, R499). -/
def State.attn (s : State) : Nat :=
  let set (a m : Nat) : Bool := s.regN a &&& m != 0
  flags [ false, set SEQ_STATUS 0x1F, set EMT_STATUS 0x39F0 || set EMT_CLIPPED 0xF0,
    set CLE_STATUS 0x30000 || (List.range 16).any (fun k => set (CLE_LOOP_STAT k) 0x1F0),
    set HCH_STATUS 0x4, (List.range 68).any (fun e => set (HEN_STAT e) 0x7F), set DET_STATUS 0x1F,
    set WFD_STATUS 0x7F, set OUT_STATUS 0x1E0 || set ADM_STATUS 0x39, set TIM_STATUS 0x7,
    set HKA_STATUS 0x1F8 || set THM_STATUS 0x60, set CAL_STATUS 0x10, set MEM_STATUS 0xF,
    s.sb && s.saf.faults != 0, set REP_STATUS 0x7, set IFL_STATUS 0x7 ]

/-- The kinds of sessions (20 R494). -/
def State.countSessions (s : State) (f : Origin → Bool) : Nat :=
  (s.pk.sessions.filter fun x => f x.origin).length

/-- The levels of the GPIO pins: an output drives its OUT bit; the level of an input that nothing
drives is free (20 R495). -/
def State.gpio (s : State) : Nat :=
  flags ((List.range 16).map fun i =>
    if bit (s.regN GLB_GPIO_DIR) i then bit (s.regN GLB_GPIO_OUT) i else Config.gpioLevel i s.drawn)

def State.liveGlb (s : State) (a : Nat) : LiveBits :=
  if a = GLB_IDENT then some (ALL, s.ident)
  else if a = GLB_STATUS then some (ALL, s.glbStatus)
  else if a = GLB_ATTN then some (ALL, s.attn)
  else if a = GLB_SERIAL_LO then some (ALL, Config.serial.toNat % 2 ^ 32)
  else if a = GLB_SERIAL_HI then some (ALL, Config.serial.toNat / 2 ^ 32)
  else if a = GLB_SESSIONS then
    some (ALL, s.countSessions (fun | .udp .. => true | _ => false) * 2 ^ 24 +
      (s.pk.rings.filter RingPair.enabled).length * 2 ^ 16 +
      min 255 (s.countSessions fun | .ifl .. => true | _ => false))
  else if a = GLB_GPIO_IN then some (ALL, s.gpio)
  else none

/-- Where the shot history stands in SRAM: within the lower half of WORK (20 R496). -/
def histBase : Nat := 0x720000 + 16 * (Config.historyPlace % 0x3000)

/-- Where the candidate delay sets stand in SRAM: within the upper half of WORK (15 R376). -/
def candBase : Nat := 0x760000 + 16 * (Config.candidatePlace % 0x3000)

/-- SEQ_PROG_STAT_p (20 R498). -/
def State.progStat (s : State) (p : Nat) : Nat :=
  match s.prog p with
  | none => 0
  | some q =>
    q.cause % 256 * 2 ^ 24 + q.segment % 256 * 2 ^ 16 +
      (if q.state == .waiting then sgWaitKind (imSeg q.image q.segment) else 0) * 2 ^ 12 + 0x100 +
      q.state.code

/-- The last committed shot (20 R496). -/
def State.lastShot (s : State) : Option Shot := s.seq.history.head?

def State.liveSeq (s : State) (a : Nat) : LiveBits :=
  if a = SEQ_STATUS then
    some (0xF0C0, min 15 (s.present.filter fun p => p.2.live).length * 2 ^ 12 +
      b2n s.thm.shutdown * 128 + b2n s.seq.clockHold * 64)
  else if a = SEQ_NEXT_LO then some (ALL, s.seq.next.toNat % 2 ^ 32)
  else if a = SEQ_NEXT_HI then some (ALL, s.seq.next.toNat / 2 ^ 32)
  else if a = SEQ_LAST_LO then
    some (ALL, match s.lastShot with | none => 0xFFFFFFFF | some x => x.number.toNat % 2 ^ 32)
  else if a = SEQ_LAST_HI then
    some (ALL, match s.lastShot with | none => 0xFFFF | some x => x.number.toNat / 2 ^ 32)
  else if a = SEQ_LAST_T_LO then
    some (ALL, match s.lastShot with | none => 0 | some x => x.fire % 2 ^ 32)
  else if a = SEQ_LAST_T_HI then
    some (ALL, match s.lastShot with | none => 0 | some x => x.fire % 2 ^ 48 / 2 ^ 32)
  else if a = SEQ_HIST_BASE then some (ALL, histBase)
  else (inst a (SEQ_PROG_STAT 0) 64 16).map fun p => (ALL, s.progStat p)

/-- C of a group in 2^-16 Eu (04 R95). -/
def State.budgetCap (s : State) (g : Nat) : Nat :=
  (s.fld (EMT_BUDGET_OVERDRIVE g) 15 0 - 0x100) * s.fld (EMT_BUDGET_RATED g) 23 0 * 250 * 0x100

/-- The budget of a group. -/
def State.budget (s : State) (g : Nat) : Budget :=
  nth s.emt.budgets g { level := 0, clipped := true, updated := 0 }

/-- EMT_BUDGET_LEVEL_g (04 R110). -/
def State.budgetLevel (s : State) (g : Nat) : Nat :=
  let c := s.budgetCap g
  let b := (s.budget g).level
  if c ≤ b then 0xFFFF else min 0xFFFF (roundDiv (65536 * b : Nat) c).toNat

/-- Emission of a group is shut down by a threshold or by the pin (04 R99, R111). -/
def State.emitOff (s : State) (g : Nat) : Bool :=
  bit (s.regN EMT_STATUS) 8 || bit (s.regN EMT_STATUS) (4 + g)

def State.liveEmt (s : State) (a : Nat) : LiveBits :=
  if a = EMT_STATUS then
    some (0x40F, b2n (bit (s.regN EMT_CHAIN_STATUS) 15 || bit (s.regN EMT_CHAIN_STATUS) 14) * 0x400 +
      flags ((List.range 4).map s.emitOff))
  else if a = EMT_CLIPPED then some (0xF, flags (s.emt.budgets.map Budget.clipped))
  else (inst a (EMT_BUDGET_LEVEL 0) 4 16).map fun g => (ALL, s.budgetLevel g)

/-! Control loops (05 R139 to R141). -/

/-- A loop by its number. -/
def State.loop (s : State) (k : Nat) : ControlLoop := nth s.cle.loops k (.resetWith 0xFF 0xFF)

/-- DIV of a bank (05 R125). -/
def bankDiv (b : List Byte) : Nat := field b 4 3

/-- Evaluations per second of the loops in mode 1 or 2 (05 R116). -/
def State.cleLoad (s : State) : Rat :=
  (s.cle.loops.filter fun l => l.mode != 0).foldl
    (fun n l => n + (200000000 : Rat) / ((max 1 (bankDiv l.active) : Nat) : Rat)) 0

/-- Some loop drives the set-point of loop k (05 R135). -/
def State.cascaded (s : State) (k : Nat) : Bool :=
  s.cle.loops.any fun l => l.outSel.toNat == 0x20 + k

/-- The 64 bytes of CLE_STATE_k (05 R139). -/
def loopStateBytes (l : ControlLoop) : List Byte :=
  l.hist.flatMap (fun h => leBytesInt 2 h.x1 ++ leBytesInt 2 h.x2 ++ leBytesInt 2 h.y1 ++
    leBytesInt 2 h.y2) ++
  leBytesInt 2 l.mf ++ leBytesInt 2 l.uPrev ++ leBytesInt 4 l.vPrev ++ List.replicate 24 0

/-- A 32-bit word of a byte string. -/
def wordOf (l : List Byte) (off : Nat) : Nat := field l off 4

def State.liveCle (s : State) (a : Nat) : LiveBits :=
  if a = CLE_STATUS then
    some (0x4FFFF, b2n s.cle.pllLost * 2 ^ 18 + flags (s.cle.loops.map fun l => l.mode != 0))
  else if a = CLE_LOAD then some (ALL, (roundRat s.cleLoad).toNat % 2 ^ 22)
  else
    (inst a (CLE_LOOP_STAT 0) 16).map (fun k =>
      let l := s.loop k
      (0xE07, b2n l.shdValid * 0x800 + b2n l.actValid * 0x400 + b2n (s.cascaded k) * 0x200 +
        b2n (l.r != l.w) * 4 + l.mode)) <|>
    (inst a (CLE_LOOP_IO 0) 16).map (fun k =>
      let l := s.loop k
      (ALL, l.mode * 2 ^ 16 + l.inSel.toNat * 256 + l.outSel.toNat)) <|>
    (inst a (CLE_LOOP_SP 0) 16).map (fun k => (ALL, enc 32 ((s.loop k).pendW.getD (s.loop k).w))) <|>
    (inst a (CLE_LOOP_SPLIM 0) 16).map (fun k => (ALL, enc 32 (s.loop k).r)) <|>
    (inst a (CLE_LOOP_RATE 0) 16).map (fun k => (ALL, enc 32 (s.loop k).v)) <|>
    (inst a (CLE_LOOP_INT 0) 16).map (fun k => (ALL, enc 32 (s.loop k).integ)) <|>
    (inst a (CLE_LOOP_OUT 0) 16).map (fun k =>
      (ALL, enc 16 (s.loop k).mf * 2 ^ 16 + enc 16 (s.loop k).u)) <|>
    (if CLE_BANK_ACT 0 ≤ a ∧ a < CLE_BANK_ACT 16 ∧ (a - CLE_BANK_ACT 0) % 128 < 112 then
      some (ALL, wordOf (s.loop ((a - CLE_BANK_ACT 0) / 128)).active ((a - CLE_BANK_ACT 0) % 128))
     else none) <|>
    (if CLE_BANK_SHD 0 ≤ a ∧ a < CLE_BANK_SHD 16 ∧ (a - CLE_BANK_SHD 0) % 128 < 112 then
      some (ALL, wordOf (s.loop ((a - CLE_BANK_SHD 0) / 128)).shadow ((a - CLE_BANK_SHD 0) % 128))
     else none) <|>
    (if CLE_STATE 0 ≤ a ∧ a < CLE_STATE 16 then
      some (ALL, wordOf (loopStateBytes (s.loop ((a - CLE_STATE 0) / 64))) ((a - CLE_STATE 0) % 64))
     else none)

/-! Receiver (06 R174 to R177). -/

/-- The lanes of a TDC that exist: both, or L alone for an auxiliary TDC (06 R149). -/
def lanesOf (t : Nat) (x : Tdc) : List Lane := if t < 544 then [x.lower, x.upper] else [x.lower]

/-- Whole seconds since a lane's last update, saturating at 255 (06 R177). -/
def State.laneAge (s : State) (l : Lane) : Nat :=
  match l.updated with
  | none => 255
  | some t => min 255 ((s.time - t) / ticksS 1)

/-- What a TDC serves: a channel, an auxiliary input named by the TDC index of its own TDC, or nothing
(06 R174). -/
def State.tdcServes (s : State) (t : Nat) : Nat :=
  match (List.range 512).find? fun c => (s.chan c).tdc == t with
  | some c => c
  | none =>
    match (List.range 23).find? fun i => nth s.hch.auxSpare i none == some t with
    | some i => 544 + i
    | none => if 544 ≤ t ∧ (nth s.hch.auxSpare (t - 544) none).isNone then t else 0xFFFF

/-- The live bits of HCH_ (R174 to R177). While no channel is enabled, UNCAL keeps its reset value 1 until the lanes of all
channels are CONVERGED (DESIGN CHOICE, notes/assumptions). -/
def State.liveHch (s : State) (a : Nat) : LiveBits :=
  if a = HCH_STATUS then
    let on := (List.range 512).filter fun c => bit (s.regN (HCH_CFG c)) 0
    some (3, b2n (s.hch.tdcs.zipIdx.any fun x => (lanesOf x.2 x.1).any fun l => l.state == 3) * 2 +
      b2n ((if on.isEmpty then List.range 512 else on).any fun c =>
        (lanesOf 0 (s.tdc (s.chan c).tdc)).any fun l => l.state != 2))
  else if a = TDC_TABLE_BASE then some (ALL, 0x640000)
  else
    (inst a (HCH_CFG 0) 512).map (fun _ => (0x10000, 0x10000)) <|>
    (inst a (HCH_ROUTE 0) 512).map (fun c => (ALL, (s.chan c).route * 2 ^ 16 + (s.chan c).tdc)) <|>
    (inst a (HCH_TRIM 0) 512).map (fun c =>
      (ALL, enc 10 (s.chan c).trimU * 2 ^ 16 + enc 10 (s.chan c).trimL)) <|>
    (inst a (TDC_CAL_STAT 0) 567).map (fun t =>
      let x := s.tdc t
      let u := if t < 544 then x.upper.state * 2 ^ 26 + b2n x.upper.fault * 2 ^ 23 +
        s.laneAge x.upper * 256 else 0
      (ALL, u + x.lower.state * 2 ^ 24 + b2n x.lower.fault * 2 ^ 22 + s.laneAge x.lower)) <|>
    (inst a (TDC_ASSIGN 0) 567).map (fun t => (ALL, s.tdcServes t))

/-! Engines (07 R203 to R206). -/

def EngState.code : EngState → Nat
  | .halted => 0 | .idle => 1 | .busy => 2 | .failed => 3

def State.liveHen (s : State) (a : Nat) : LiveBits :=
  if a = HEN_STATUS then
    some (ALL, min 4 s.rep.pool.length * 2 ^ 16 +
      b2n ((List.range 68).any fun e => bit (s.regN (HEN_STAT e)) 1) * 4 +
      b2n ((List.range 68).any fun e => bit (s.regN (HEN_STAT e)) 2) * 2 +
      b2n (s.hen.any fun e => e.st == .failed))
  else
    (inst a (HEN_STATE 0) 68).map (fun e =>
      let x := (s.refreshImage e).eng e
      (ALL, (s.engineGroup e).getD 0xFF * 2 ^ 16 + b2n (s.rep.pool.contains e) * 0x1000 +
        x.activeHalf % 2 * 0xC00 + b2n x.standbyBusy * 0x200 + b2n x.image.isSome * 0x100 + x.st.code)) <|>
    (inst a (HEN_STAT 0) 68).map (fun e => (0x07FF0000, (s.eng e).events.length % 2048 * 2 ^ 16)) <|>
    (inst a (HEN_IMG 0) 136).map (fun i =>
      let x := (s.refreshImage (i / 2)).eng (i / 2)
      (ALL, if i % 2 = 1 then x.imgGen.toNat else
        match nth x.headers x.activeHalf none with | some h => h.crc.toNat | none => 0))

/-! Waveform digitiser (09 R249 to R252). -/

/-- States of a capture unit as WFD_CAP_STAT codes them (09 R235). -/
def CapState.code : CapState → Nat
  | .idle => 0 | .armed => 1 | .post => 2 | .rearm => 3 | .held => 4

def State.capUnit (s : State) (u : Nat) : CapUnit := nth s.wfd.units u .reset

/-- Two taps in a register. -/
def tapWord (taps : List Int) (i : Nat) : Nat :=
  enc 16 (nth taps (2 * i) 0) + 65536 * enc 16 (nth taps (2 * i + 1) 0)

def State.liveWfd (s : State) (a : Nat) : LiveBits :=
  let slice (j : Nat) : Slice := nth s.wfd.slices j { pos := none, state := 4, offset := 0, gain := 0, skew := 0, fresh := false, since := 0 }
  if a = WFD_STATUS then
    some (0x1F80, ((List.range 17).find? fun j => (slice j).pos.isNone && (slice j).state != 4).getD 0x1F * 256 +
      b2n (s.wfd.rotDead || !bit (s.regN WFD_ROT_CFG) 16) * 128)
  else if a = WFD_ALLOC then some (ALL, s.wfd.mode)
  else if a = WFD_GAIN then
    some (ALL, (List.range 16).foldl (fun n i => n + nth s.wfd.gain i 0 % 4 * 4 ^ i) 0)
  else if a = WFD_GAIN_PEND then
    some (ALL, match s.wfd.gainPend with | some (i, _, _) => 2 ^ i | none => 0)
  else
    (inst a (WFD_LANE_IN 0) 4).map (fun q => (ALL, wordOf s.wfd.laneIn (4 * q))) <|>
    (inst a (WFD_SLICE_STAT 0) 17).map (fun j =>
      (ALL, (slice j).pos.getD 0x1F * 256 + (slice j).state)) <|>
    (inst a (WFD_SLICE_TRIM 0) 34).map (fun i =>
      let x := slice (i / 2)
      (ALL, if i % 2 = 0 then enc 16 x.offset + 65536 * enc 16 x.gain else enc 16 x.skew)) <|>
    (inst a (WFD_FILT_CTRL 0) 16).map (fun l =>
      let f : LaneFilter := nth s.wfd.filters l { enabled := false, taps := [0], count := 1 }
      (0x7F000000, b2n f.enabled * 2 ^ 30 + f.count % 64 * 2 ^ 24)) <|>
    (inst a (WFD_FILT_ACT 0) 256).map (fun i =>
      let f : LaneFilter := nth s.wfd.filters (i / 16) { enabled := false, taps := [0], count := 1 }
      (ALL, tapWord f.taps (i % 16))) <|>
    (inst a (WFD_CAP_CFG 0) 16 64).map (fun u => (0x01000000, b2n (s.capUnit u).disarm * 0x01000000)) <|>
    (inst a (WFD_CAP_STAT 0) 16 64).map (fun u =>
      (0xFFFF0007, (s.capUnit u).avgCount % 65536 * 65536 + (s.capUnit u).st.code))

/-! Output and admission (10 R276, R277; 11 R295). -/

/-- Staging bytes of a frame's records, and their number; those of a forwarded frame stand in its bytes (18
R455). -/
def Frame.staged (f : Frame) : Nat :=
  match f.raw with
  | some b => b.length - 32
  | none => f.recs.foldl (fun n (r : Rec) => n + r.bytes.length) 0
def Frame.count (f : Frame) : Nat :=
  match f.raw with
  | some b => field b 6 2
  | none => f.recs.length

/-- Staging bytes of a stream's records: waiting, in the open frame and in closed frames. -/
def State.stageBytes (s : State) (i : Nat) : Nat :=
  match s.out.streams[i]? with
  | none => 0
  | some x =>
    let size (l : List Rec) : Nat := l.foldl (fun n r => n + r.bytes.length) 0
    size x.waiting + (match x.openFr with | some f => size f.recs | none => 0) +
      x.closed.foldl (fun n (f : Frame) => n + f.staged) 0

def State.liveOut (s : State) (a : Nat) : LiveBits :=
  if a = OUT_STATUS then some (0x1F, b2n s.out.pcieUp * 16 + flags s.out.ethUp)
  else if a = ADM_STATUS then some (6, b2n s.reduced * 4 + b2n s.rep.pool.isEmpty * 2)
  else
    (inst a (OUT_CMDQ_HEAD 0) 4 32).map (fun n =>
      match s.pk.rings[n]? with
      | some r => (ALL, r.rplHead % 4096 * 2 ^ 16 + r.cmdHead % 4096)
      | none => (ALL, 0)) <|>
    (inst a (OUT_STREAM_STAGE 0) 64 16).map (fun i => (ALL, s.stageBytes i))

/-! Time bases (12 R318, R319). -/

/-- A PTP base by its port. -/
def State.ptp (s : State) (p : Nat) : PtpBase :=
  nth s.tim.ptp p { value := 0, incr := incrNom, edge := 0, past := [], done := none, stopped := false
                    counting := false, corrs := [] }

/-- The value of a _LO or _NS register of TIM_, if the address is one (12 R318), with its partner's address and value. -/
def State.timPair (s : State) (a : Nat) : Option (Nat × Nat × Nat) :=
  let low (v : Nat) : Option (Nat × Nat × Nat) := some (v % 2 ^ 32, a + 4, v / 2 ^ 32 % 2 ^ 32)
  if a = TIM_SHOT_LO then low s.tbShot
  else if a = TIM_SYS_LO then low s.sysNs
  else if a = TIM_SAFE_LO then low (s.tim.safe25 / 25)
  else
    ((inst a (TIM_PTP 0 0) 4 64).map fun p => ((s.ptp p).value / 2 ^ 32 % 2 ^ 32, a + 4, (s.ptp p).value % 2 ^ 32)) <|>
    ((inst a (TIM_PTP 0 0x0C) 4 64).map fun p => ((s.ptp p).incr / 2 ^ 32 % 2 ^ 32, a - 4, (s.ptp p).incr % 2 ^ 32)) <|>
    ((inst a (TIM_PTP_CORR_LO 0) 4 64).map fun p => (s.regN a, a + 4, s.regN (TIM_PTP_CORR_HI p)))

/-- The value of the partner of a _LO or _NS register at an address: latched by the register's last read, or present (12
R318). -/
def State.timPartner (s : State) (a : Nat) : Option Nat :=
  ([a - 4, a + 4].findSome? fun b => (s.timPair b).filter fun x => x.2.1 == a).map fun x =>
    match s.tim.latches.find? fun l => l.1 == a with
    | some l => l.2.toNat
    | none => x.2.2

def State.liveTim (s : State) (a : Nat) : LiveBits :=
  if a = TIM_STATUS then
    some (0x1E0F8, b2n s.tim.warm * 2 ^ 16 + b2n (!s.tim.onRef) * 2 ^ 15 + b2n (s.tim.pinLevel.any (· != bit (s.regN TIM_WARM_CFG) 2)) * 2 ^ 14 +
      b2n s.tim.gateOk * 2 ^ 13 + flags (s.tim.ptp.map PtpBase.stopped) * 16 +
      b2n s.tim.xsPend.isSome * 8)
  else if a = TIM_REF_CFG then some (ALL, s.tim.refCode)
  else if a = TIM_PTP_LOG_BASE then some (ALL, 0x660000)
  else
    (s.timPair a).map (fun x => (ALL, x.1)) <|>
    (s.timPartner a).map (fun x => (ALL, x)) <|>
    (inst a (TIM_XS_IMG 0) 16).map (fun w => (ALL, wordOf s.tim.xsImage (4 * w)))

/-! Housekeeping and thermal (13 R342 to R345; 14 R367, R368). -/

/-- A step as its 4 bytes (13 R326), as a number. -/
def HkStep.word (x : HkStep) : Nat := x.code + 256 * x.avg + 65536 * x.settle

/-- Result of a step code. -/
def State.hkRes (s : State) (c : Nat) : HkResult := nth s.hka.results c .reset

/-- A channel's newest result is stale (13 R330): it is older than STALE_MS, the HKA PLL is lost, or it
was marked so when it was published (13 R333). -/
def State.hkStale (s : State) (c : Nat) : Bool :=
  let r := s.hkRes c
  r.valid && (r.stale || s.hka.pllLost || decide (r.at_ + ticksMs (s.fld HKA_SEQ_CFG 15 8) < s.time))

/-- HKA_RES_c (13 R345). -/
def State.hkResWord (s : State) (c : Nat) : Nat :=
  let r := s.hkRes c
  b2n r.valid * 2 ^ 31 + b2n r.open_ * 2 ^ 30 + b2n r.short * 2 ^ 29 + b2n (s.hkStale c) * 2 ^ 28 +
  b2n r.range * 2 ^ 27 + b2n r.clip * 2 ^ 26 + b2n r.nocal * 2 ^ 25 + b2n r.inj * 2 ^ 24 +
  r.cycle % 256 * 2 ^ 16 + enc 16 r.value

/-- A sensor by its number. -/
def State.sensor (s : State) (n : Nat) : Sensor := nth s.thm.sensors n { reading := none, failed := false }

/-- A sensor's reading is replaced by its substitute's (14 R350). -/
def State.substituted (s : State) (n : Nat) : Bool :=
  (s.sensor n).failed && decide (s.fld (THM_SUBST n) 7 0 < 24)

/-- The reading that THM_TS_n shows: the last one taken. -/
def State.tsReading (s : State) (n : Nat) : Int := (s.sensor n).reading.getD 0

/-- Rotation is stopped (13 R340). -/
def State.hkStopped (s : State) : Bool := s.hka.rotDead || !bit (s.regN HKA_ROT_CFG) 16

def State.liveHka (s : State) (a : Nat) : LiveBits :=
  if a = HKA_STATUS then
    some (0x1E06, (s.hka.spare.getD 3) * 2048 + b2n s.hka.pllLost * 1024 + b2n s.hkStopped * 512 +
      b2n s.hka.injRun * 4 + b2n s.hka.inCycle * 2)
  else if a = HKA_INJ_CFG then some (0x1, b2n s.hka.goPend)
  else if a = HKA_SEQ_CNT then some (ALL, s.hka.injected.length * 256 + s.hka.regular.length)
  else if a = THM_STATUS then
    some (0xFFFFFF87, flags s.thm.shut * 2 ^ 24 + flags s.thm.throt * 2 ^ 16 + flags s.thm.warn * 256 +
      b2n s.thm.shutdown * 128 + s.thm.step % 8)
  else if a = THM_TS_FAIL then some (ALL, flags (s.thm.sensors.map Sensor.failed))
  else
    (inst a (HKA_RES 0) 46).map (fun c => (ALL, s.hkResWord c)) <|>
    (inst a (HKA_HELD 0) 46).map (fun c =>
      (ALL, match (s.hkRes c).held with | none => 0 | some v => 2 ^ 31 + enc 16 v)) <|>
    (inst a (HKA_RAW 0) 46).map (fun c =>
      (ALL, (s.hkRes c).current % 65536 * 65536 + enc 16 (s.hkRes c).code)) <|>
    (inst a (HKA_REG_STEP 0) 32).map (fun i =>
      (ALL, match s.hka.regular[i]? with | some x => x.word | none => 0)) <|>
    (inst a (HKA_INJ_STEP 0) 8).map (fun i =>
      (ALL, match s.hka.injected[i]? with | some x => x.word | none => 0)) <|>
    (inst a (HKA_IEX_STAT 0) 4).map (fun k =>
      let x := nth s.hka.iex k (false, false, false, 0)
      (ALL, x.2.2.2 % 65536 * 65536 + b2n x.2.2.1 * 4 + b2n x.2.1 * 2 + b2n x.1)) <|>
    (inst a (THM_ZONE_T 0) 8).map (fun z => (ALL, enc 16 (nth s.thm.zones z 0))) <|>
    (inst a (THM_TS 0) 24).map (fun n =>
      (ALL, b2n (s.sensor n).failed * 2 ^ 31 + b2n (s.substituted n) * 2 ^ 30 + enc 16 (s.tsReading n)))

/-! Calibration and memory (14 R367, R369; 15 R384, R385). -/

def State.liveCal (s : State) (a : Nat) : LiveBits :=
  if a = CAL_STATUS then
    some (0xFFE8, flags (s.thm.stored.map Option.isSome) * 256 + b2n s.thm.run.isSome * 128 +
      b2n s.thm.extrap * 64 + b2n s.thm.factory * 32 + b2n s.thm.tdieStale * 8)
  else if a = CAL_TDIE then some (ALL, enc 16 s.thm.tDie)
  else if a = CAL_TAPPLY then some (ALL, enc 16 s.thm.tApply)
  else if a = CAL_EFF_LO then
    some (ALL, match s.thm.applied.head? with | some x => x.effect % 2 ^ 48 % 2 ^ 32 | none => 0)
  else if a = CAL_EFF_HI then
    some (ALL, match s.thm.applied.head? with | some x => x.effect % 2 ^ 48 / 2 ^ 32 | none => 0)
  else (inst a (CAL_SET_INFO 0) 8).map fun k =>
    (ALL, match nth s.thm.stored k none with
      | some b => field b 4 2 * 65536 + field b 6 2 % 64
      | none => 0x80000000)

def State.dramChan (s : State) (c : Nat) : DramChan :=
  nth s.mem.chans c { up := false, failed := false, paused := false, pauseAt := 0, repairs := none, set_ := 0, spares := 0, temp := 0, retrain := false }

/-- A DDR5 channel is paused (15 R377, R378, R381). -/
def State.dramPaused (s : State) : Bool := s.mem.chans.any DramChan.paused

/-- Block 0xC, live. Whether the devices of a channel report a high refresh rate is a free value at every read (15
R373). -/
def State.liveMem (s : State) (a : Nat) : LiveBits :=
  if a = MEM_STATUS then
    some (0x30, b2n (s.mem.chans.any fun c => c.up && c.spares == 0) * 32 + b2n s.mem.fallback.isSome * 16)
  else if a = MEM_CAND_BASE then some (ALL, candBase)
  else
    (inst a (MEM_CH_CTRL 0) 2 0x100).map (fun c => (1, b2n (s.dramChan c).retrain)) <|>
    (inst a (MEM_CH_STAT 0) 2 0x100).map (fun c =>
      let x := s.dramChan c
      (ALL, s.mem.capGB % 256 * 2 ^ 24 + x.set_ % 8 * 2 ^ 16 + min 255 x.spares * 256 + b2n (x.up && bit (Config.freeNat 77 s.drawn) c) * 8 +
        b2n x.paused * 4 + b2n x.failed * 2 + b2n x.up))

/-! Safety island, repair, links, boot (16 R412 to R414; 17 R435, R436; 18 R459 to R461; 19 R481). -/

/-- Guard closed under 16 R392: both channels count high, or as mode 1 pairs them. -/
def Island.guardClosed (x : Island) : Bool :=
  let a := nth x.ins 0 false
  let b := nth x.ins 1 false
  if field x.active 14 1 == 1 then a && !b else a && b

/-- No expiry of the watchdog counts (16 R405). -/
def State.wdOk (s : State) : Bool :=
  match s.saf.pairAt with
  | none => false
  | some t => decide (s.tim.safe25 / 25 ≤ t + 100000 * field s.saf.active 30 2)

def State.liveSaf (s : State) (a : Nat) : LiveBits :=
  let x := s.saf
  if a = SAF_IDENT then some (ALL, Config.islandRom.toNat * 65536 + (if s.sb then 2 else 1))
  else if !s.sb then some (ALL, 0)
  else if a = SAF_IDENT + 4 then
    some (ALL, b2n x.staged.isSome * 2 ^ 19 + b2n (x.passed.all id) * 2 ^ 18 + b2n (x.gtPhase == 2) * 2 ^ 17 +
      b2n s.wdOk * 2 ^ 16 + x.st.code)
  else if a = SAF_IDENT + 8 then
    some (ALL, b2n x.speedOk * 2 ^ 11 + b2n x.guardClosed * 2 ^ 10 + b2n (nth x.ins 3 false) * 2 ^ 9 +
      b2n (nth x.ins 2 false) * 2 ^ 8 + b2n x.spdin * 2 ^ 7 + b2n (nth x.ins 1 false) * 2 ^ 6 +
      b2n (nth x.ins 0 false) * 2 ^ 5 + flags (x.outs.take 4))
  else if a = SAF_IDENT + 0x0C then some (ALL, x.faults.toNat)
  else if a = SAF_IDENT + 0x10 then some (ALL, field x.active 4 4)
  else if a = SAF_IDENT + 0x14 then some (ALL, field x.active 124 4)
  else if a = SAF_IDENT + 0x18 then some (ALL, min (x.period.getD 0xFFFFFFFF) 0xFFFFFFFF)
  else if a = SAF_IDENT + 0x1C then some (ALL, x.tseqTx.toNat)
  else if a = SAF_IDENT + 0x20 then some (ALL, x.tseqRx.toNat)
  else
    (inst a 0xD0100 32).map (fun w => (ALL, wordOf x.active (4 * w))) <|>
    (inst a 0xD0180 32).map (fun w =>
      (ALL, match x.staged with | some b => wordOf b.1 (4 * w) | none => 0))

/-- Length of the repair map in bytes (17 R428): its header, entries and trailer. -/
def State.mapLength (s : State) : Nat := 32 + 16 * s.rep.map.length

/-- Spare TDCs that are free: neither failed nor mapped out, and serving nothing (17 R418, R426). -/
def State.freeSpares (s : State) : List Nat :=
  ((List.range 32).map (· + 512)).filter fun t =>
    !s.rep.tdcFail.contains t && s.rep.map.all (fun e => e.kind != 0 || e.failed != t) && (List.range 512).all (fun c => (s.chan c).tdc != t) &&
      s.hch.auxSpare.all fun x => x != some t

/-- No engine can be taken in place of another (17 R419, R436): the pool is empty, and no other engine that
has not failed holds a committed image and serves no group. -/
def State.spareEngine (s : State) : Option Nat :=
  match (s.rep.pool.filter fun e => !s.rep.engFail.contains e).foldl (fun (b : Option Nat) e =>
    match b with | none => some e | some x => some (min x e)) none with
  | some e => some e
  | none => (List.range 68).find? fun e =>
      !s.rep.engFail.contains e && !s.rep.released.contains (1, e) && (s.eng e).image.isSome && (s.engineGroup e).isNone

/-- The spare and route for a channel: the free spares of its routes in ascending m, one whose lanes are both
CONVERGED first (17 R419). -/
def State.spareRoute (s : State) (c : Nat) : Option (Nat × Nat) :=
  let free := ((List.range 4).map fun m => (m, 512 + (c / 16 + 8 * m) % 32)).filter fun x =>
    s.freeSpares.contains x.2
  match free.find? fun x => (s.tdc x.2).lower.state == 2 && (s.tdc x.2).upper.state == 2 with
  | some x => some x
  | none => free.head?

/-- The lowest free spare for an auxiliary input (17 R419). -/
def State.spareAux (s : State) : Option Nat :=
  s.freeSpares.foldl (fun b t => match b with | none => some t | some x => some (min t x)) none

/-- A slice by its number. -/
def State.wfdSlice (s : State) (j : Nat) : Slice :=
  nth s.wfd.slices j { pos := none, state := 4, offset := 0, gain := 0, skew := 0, fresh := false, since := 0 }

/-- The spare slice: it holds no position, has not failed and is in no self-test (17 R419, R426). -/
def State.wfdSpare (s : State) : Option Nat :=
  (List.range 17).find? fun j =>
    (s.wfdSlice j).pos.isNone && (s.wfdSlice j).state != 4 && !s.rep.released.contains (2, j)

/-- The spare that a migration would take now (17 R419). An engine that is withdrawn is no spare for itself. -/
def State.spareFor (s : State) (kind failed : Nat) : Option Nat :=
  match kind with
  | 0 => if s.tdcServes failed < 512 then (s.spareRoute (s.tdcServes failed)).map Prod.snd else s.spareAux
  | 1 => s.spareEngine.filter fun n => n != failed
  | 2 => s.wfdSpare
  | 3 => s.hka.spare
  | _ => none

def State.noEngine (s : State) : Bool := s.spareEngine.isNone

/-- A migration runs or waits, a switchover or the repair of a DRAM row among them (17 R415, R436). -/
def State.migrating (s : State) : Bool :=
  !s.rep.migs.isEmpty || s.rep.switch.isSome || s.mem.chans.any fun c => c.repairs.isSome

def State.liveRep (s : State) (a : Nat) : LiveBits :=
  let r := s.rep
  if a = REP_STATUS then
    some (0x3F8, r.active % 2 * 512 + b2n s.ccSingle * 256 + b2n (!r.chanLost.isEmpty) * 128 +
      b2n s.noEngine * 64 + b2n s.migrating * 32 + b2n r.mapPend.isSome * 16 +
      b2n r.selftest.isSome * 8)
  else if a = REP_INC_HEAD then some (ALL, r.iseq.toNat)
  else if a = REP_INC_OPEN then some (ALL, s.openIncidents % 65536)
  else if a = REP_MAP_LEN then some (ALL, s.mapLength)
  else if a = 0xE0024 then some (ALL, flags ((List.range 32).map fun i => s.freeSpares.contains (512 + i)))
  else
    (inst a 0xE0030 3).map (fun q => (ALL, memberMask r.pool (32 * q) 32)) <|>
    (inst a 0xE0100 18).map (fun q => (ALL, memberMask r.tdcFail (32 * q) 32)) <|>
    (inst a 0xE0180 3).map (fun q => (ALL, memberMask r.engFail (32 * q) 32)) <|>
    (inst a 0xE0200 16).map (fun q => (ALL, memberMask r.chanLost (32 * q) 32)) <|>
    (inst a 0xE0240 1).map (fun _ =>
      (ALL, memberMask r.hkaFail 0 3 * 2 ^ 17 + memberMask r.wfdFail 0 17))

def State.liveIfl (s : State) (a : Nat) : LiveBits :=
  let port (p : Nat) : LinkPort := nth s.ifl.ports p .reset
  if a = IFL_STATUS then
    some (0xFF000018, s.ifl.dev % 16 * 2 ^ 28 + s.ifl.hops % 4 * 2 ^ 26 + s.ifl.parentPort % 4 * 2 ^ 24 +
      b2n s.holdover * 16 +
      b2n (s.role == 1 || s.ifl.ports.any fun p => p.parent && p.state == 3) * 8)
  else if a = IFL_DTREE_LO then some (ALL, enc 64 (s.dtreeAt s.tim.shot) % 2 ^ 32)
  else if a = IFL_DTREE_HI then some (ALL, enc 64 (s.dtreeAt s.tim.shot) / 2 ^ 32)
  else if a = BOOT_STATUS then some (7, s.boot.phase.code)
  else if a = BOOT_CAUSE then some (0xF0, s.boot.slot % 16 * 16)
  else
    (inst a (IFL_PORT 0 0x00) 4 32).map (fun p =>
      (ALL, (port p).peer % 16 * 256 + b2n (port p).unlisted * 32 + b2n (port p).parent * 16 +
        (port p).state % 8)) <|>
    (inst a (IFL_PORT 0 0x08) 4 32).map (fun p => (ALL, enc 32 (port p).delta)) <|>
    (inst a (IFL_PORT 0 0x0C) 4 32).map (fun p => (ALL, enc 32 (port p).theta))

/-- The live bits of an address. -/
def State.live (s : State) (a : Nat) : LiveBits :=
  match a / 0x10000 with
  | 0x0 => s.liveGlb a
  | 0x1 => s.liveSeq a
  | 0x2 => s.liveEmt a
  | 0x3 => s.liveCle a
  | 0x4 => s.liveHch a
  | 0x5 => s.liveHen a
  | 0x7 => s.liveWfd a
  | 0x8 => s.liveOut a
  | 0x9 => s.liveTim a
  | 0xA => s.liveHka a
  | 0xB => s.liveCal a
  | 0xC => s.liveMem a
  | 0xD => s.liveSaf a
  | 0xE => s.liveRep a
  | 0xF => s.liveIfl a
  | _ => none

/-- What a register reads as: zero where no table lists the address (20 R485). -/
def State.view (s : State) (a : Nat) : Nat :=
  match s.live a with
  | some (m, v) => (s.regN a &&& (0xFFFFFFFF - m)) ||| (v &&& m)
  | none => s.regN a

/-- The neighbour refreshes of a channel since its count was last read: how many activates drew a value below P is not stated
(15 R380): a free number, 0 where P is. -/
def State.countNeighbours (s : State) (a : Nat) : State :=
  match inst a (MEM_NR_CNT 0) 2 0x100 with
  | some c =>
    if (s.dramChan c).up ∧ s.fld MEM_NR_CFG 10 0 ≠ 0 then
      let x := s.draw 76
      x.2.bumpBy a (x.1 % 2 ^ 32)
    else s
  | none => s

/-- A read of a register and what it leaves: a read of a _LO or _NS register of TIM_ latches its
partner for the partner's next read (12 R318), and a read of undriven GPIO levels draws a free
value (20 R495). -/
def State.readReg (s : State) (a : Nat) : Nat × State :=
  let s := s.countNeighbours a
  let v := s.view a
  let s := if a = GLB_GPIO_IN ∨ a = MEM_CH_STAT 0 ∨ a = MEM_CH_STAT 1 then { s with drawn := s.drawn + 1 } else s
  match s.timPair a with
  | some x =>
    (v, { s with tim.latches := (x.2.1, BitVec.ofNat 32 x.2.2) :: s.tim.latches.filter fun l => l.1 != x.2.1 })
  | none => (v, { s with tim.latches := s.tim.latches.filter fun l => l.1 != a })

/-- Successive registers from an address. -/
def State.readRegs (s : State) (a : Nat) : Nat → List Nat × State
  | 0 => ([], s)
  | n + 1 =>
    let x := s.readReg a
    let y := x.2.readRegs (a + 4) n
    (x.1 :: y.1, y.2)

end Sys2Proof.Machine
end

