-- ==== Sys2Proof/Machine/Windows.lean ====
section
/-!
DEFINITION. The memory windows (02 R52): what each window holds and how its bytes are read and written
(07 R180, 12 R311, 14 R358, R359, 15 R370, R375, 17 R428, R433, 20 R496).
-/
namespace Sys2Proof.Machine

/-- A byte of a memory that nothing has written (notes/assumptions). -/
abbrev zeroByte : Nat → Byte := fun _ => 0

/-! Calibration sets (14 R358 to R361). -/

/-- Length of a calibration set. -/
def calLength : Nat := 108864

/-- Offsets of the parts of a calibration set (14 R358). -/
abbrev CAL_TAP (t lane : Nat) := 0x40 + 160 * t + 80 * lane
abbrev CAL_DLANE (t lane : Nat) := 0x162A0 + 4 * t + 2 * lane
abbrev CAL_DROUTE (c route lane : Nat) := 0x16B80 + 20 * c + 4 * route + 2 * lane
abbrev CAL_CMP (c lane : Nat) := 0x19380 + 4 * c + 2 * lane
abbrev CAL_OFFSET (c : Nat) := 0x19B80 + 4 * c
abbrev CAL_WALK (c : Nat) := 0x1A380 + 2 * c
abbrev CAL_LEAD (n : Nat) := 0x1A780 + 4 * n
abbrev CAL_GCAL (g : Nat) := 0x1A7A4 + 2 * g
abbrev CAL_WS (j : Nat) := 0x1A7B0 + 8 * j
abbrev CAL_WGAIN (input range : Nat) := 0x1A838 + 8 * input + 2 * range
abbrev CAL_DIN (input : Nat) := 0x1A8B8 + 4 * input
abbrev CAL_HS (j gain : Nat) := 0x1A900 + 16 * j + 4 * gain
abbrev CAL_HREF := 0x1A930
abbrev CAL_DIODE := 0x1A932

/-- TEMP of factory set k in 0.1 degree: free in its band of 20 degrees, from -40 degrees on (14 R360, R361). -/
def factoryTemp (k : Nat) : Int :=
  let x := (Config.factoryByte k 4).toNat + 256 * (Config.factoryByte k 5).toNat
  if k = 0 then -400 + (x % 100 : Nat) else -500 + 200 * (k : Int) + (x % 200 : Nat)

/-- The tap table of a lane is sound (14 R360): its 32 widths and its gain, from an offset on. -/
def laneOk (b : List Byte) (off : Nat) : Bool :=
  let w := (List.range 32).map fun i => field b (off + 2 * i) 2
  w.foldl (· + ·) 0 == 32768 && w.all (fun x => decide (x ≤ 3072)) && within (field b (off + 64) 2) 2560 10240

/-- The table of lane i of factory set k: free among the sound ones. -/
def factoryLane (k i : Nat) : List Byte :=
  let b := (List.range 80).map fun j => Config.factoryByte k (0x40 + 80 * i + j)
  if laneOk b 0 then b else patch b 0 ((List.replicate 32 1024).flatMap (leBytes 2) ++ leBytes 2 5120)

/-- A comparator trim of factory set k: free from -256 to 255. -/
def factoryTrim (k off : Nat) : List Byte :=
  let b := [Config.factoryByte k off, Config.factoryByte k (off + 1)]
  if -256 ≤ fieldInt b 0 2 ∧ fieldInt b 0 2 ≤ 255 then b else [0, 0]

/-- A byte of factory set k: the stated fields, and values elsewhere that are free where CAL_ACTIVATE takes them (14 R360,
R361). -/
def factoryByte (k off : Nat) : Byte :=
  if off < 2 then nth [1, 0] off 0
  else if off = 2 then BitVec.ofNat 8 k
  else if off = 4 ∨ off = 5 then nth (leBytesInt 2 (factoryTemp k)) (off - 4) 0
  else if 0x10 ≤ off ∧ off < 0x14 then nth (leBytes 4 calLength) (off - 0x10) 0
  else if CAL_OFFSET 0 ≤ off ∧ off < CAL_GCAL 0 then 0
  else if CAL_GCAL 0 ≤ off ∧ off < CAL_GCAL 4 then nth [0x00, 0x40] (off % 2) 0
  else if 0x40 ≤ off ∧ off < CAL_DLANE 0 0 then nth (factoryLane k ((off - 0x40) / 80)) ((off - 0x40) % 80) 0
  else if CAL_CMP 0 0 ≤ off ∧ off < CAL_OFFSET 0 then nth (factoryTrim k (off / 2 * 2)) (off % 2) 0
  else Config.factoryByte k off

/-- Factory set k, with its CRC. -/
def factorySet (k : Nat) : List Byte :=
  let b := (List.range calLength).map (factoryByte k)
  patch b 0x14 (leBytes 4 (crcBlank b 0x14).toNat)

/-- The applied set in force: its newest version (14 R363). -/
def State.appliedSet (s : State) : List Byte :=
  match s.thm.applied with
  | x :: _ => x.bytes
  | [] => []

/-- Bytes of window 0x71 (14 R359). -/
def State.calBytes (s : State) (off n : Nat) : List Byte :=
  let stored := (List.range 8).filterMap fun k => (nth s.thm.stored k none).map fun b => (0x20000 * k, b)
  let factory := (List.range 8).filterMap fun k =>
    let lo := 0x140000 + 0x20000 * k
    if off < lo + calLength ∧ lo < off + n then some (lo, factorySet k) else none
  let staging : List (Nat × List Byte) :=
    if off < 0x120000 ∧ 0x100000 < off + n then
      let lo := max off 0x100000
      [(lo, Sparse.getMany zeroByte s.thm.staging (lo - 0x100000) (min (off + n) 0x120000 - lo))]
    else []
  overlay (stored ++ staging ++ [(0x120000, s.appliedSet)] ++ factory) off n

/-! Live tables, logs, incidents, repair map. -/

/-- The 96 bytes of a lane's live table (06 R155): the version in force, zero before the first. -/
def laneBytes (l : Lane) : List Byte :=
  match l.versions with
  | [] => List.replicate 66 0 ++ [BitVec.ofNat 8 l.state, 0] ++ leBytes 4 l.version.toNat ++ List.replicate 24 0
  | v :: _ =>
    (List.range 32).flatMap (fun i => leBytes 2 (nth v.w i 0)) ++ leBytes 2 v.g ++
      [BitVec.ofNat 8 l.state, 0] ++ leBytes 4 l.version.toNat ++ leBytes 6 v.effective ++ [0, 0] ++
      leBytes 4 v.updates ++ List.replicate 12 0

/-- Bytes of the region LIVE (15 R370). -/
def State.liveBytes (s : State) (off n : Nat) : List Byte :=
  let t0 := off / 192
  let ts := (List.range (n / 192 + 2)).map (· + t0)
  overlay ((ts.filter (· < 567)).map fun t =>
    (192 * t, laneBytes (s.tdc t).lower ++ (if t < 544 then laneBytes (s.tdc t).upper else []))) off n

/-- Bytes of the region PTPLOG (12 R311). -/
def State.ptpLogBytes (s : State) (off n : Nat) : List Byte :=
  overlay (s.tim.logs.map fun x => (65536 * x.1 + 256 * x.2.1, x.2.2)) off n

/-- Bytes of window 0x74 (02 R52). -/
def State.eventBytes (s : State) (off n : Nat) : List Byte :=
  overlay (s.pk.events.map fun e => (32 * (e.seq.toNat % 4096), e.payload)) off n

/-- The 64 bytes of an incident (17 R433). -/
def Incident.bytes (i : Incident) : List Byte :=
  leBytes 4 i.iseq.toNat ++ leBytes 4 i.key.toNat ++ leBytes 8 i.firstT ++ leBytes 8 i.lastT ++
    leBytes 4 i.reports ++ leBytes 2 i.devices.toNat ++ leBytes 1 i.state ++ [0] ++
    leBytes 4 i.firstBy.toNat ++ slice i.detail 0 16 ++ leBytes 4 i.repair.toNat ++ List.replicate 8 0

/-- ISEQ of the oldest incident kept; 0 when none (17 R433). -/
def State.oldestIseq (s : State) : Word :=
  match s.rep.incidents with
  | [] => 0
  | i :: t => t.foldl (fun q x => if (q - x.iseq).toNat < 2 ^ 31 then x.iseq else q) i.iseq

/-- Bytes of window 0x72. -/
def State.incidentBytes (s : State) (off n : Nat) : List Byte :=
  let head := leBytes 2 1 ++ [0, 0] ++ leBytes 4 s.rep.iseq.toNat ++ leBytes 4 s.oldestIseq.toNat
  overlay ((0, head) :: s.rep.incidents.map fun i => (64 + 64 * i.slot, i.bytes)) off n

/-- The 16 bytes of a repair map entry (17 R428). -/
def MapEntry.bytes (e : MapEntry) : List Byte :=
  leBytes 1 e.kind ++ leBytes 1 e.origin ++ leBytes 2 e.flags ++ leBytes 4 e.failed ++ leBytes 4 e.spare ++
    leBytes 4 e.time

/-- The repair map (17 R428). -/
def State.mapBytes (s : State) : List Byte :=
  let es := s.rep.map.flatMap MapEntry.bytes
  let body := leBytes 2 1 ++ leBytes 2 s.rep.map.length ++ leBytes 4 s.rep.mapSeq.toNat ++
    List.replicate 24 0 ++ es
  patch body 8 (leBytes 4 (crc32c body).toNat)

/-! The region WORK (15 R370). -/

/-- The 16 bytes of a shot descriptor (07 R191) with a given byte 14. -/
def Shot.descriptor (x : Shot) (b14 : Nat) : List Byte :=
  leBytes 6 x.number.toNat ++ leBytes 1 x.passSel ++ leBytes 1 x.patternIdx ++ leBytes 6 x.fire ++
    leBytes 1 b14 ++
    leBytes 1 (b2n (bit x.flags.toNat 0) + 2 * b2n (bit x.flags.toNat 1) + 4 * b2n (bit x.flags.toNat 3) +
      8 * b2n (bit x.flags.toNat 2))

/-- The shot history (20 R496): the newest descriptor stands at the index before SEQ_HIST_HEAD. -/
def State.histObjects (s : State) : List (Nat × List Byte) :=
  let head := s.regN SEQ_HIST_HEAD
  s.seq.history.zipIdx.map fun (x, i) =>
    (histBase + 16 * ((head + 4096 - 1 - i) % 4096), x.descriptor x.pid)

/-- The candidate delay sets: channel 0, then channel 1, each in order of preference (15 R376). -/
def State.candObjects (s : State) : List (Nat × List Byte) :=
  [(candBase, (s.mem.cands.flatMap id).flatMap id)]

/-! Engines (07 R179, R180). -/

/-- Window offsets of an engine's memories. -/
abbrev E_C (i : Nat) := 0x10000 + 0x10000 * i
abbrev E_W (i : Nat) := 0x30000 + 0x4000 * i
abbrev E_PROFILE (slot : Nat) := 0x38000 + 2048 * slot
abbrev E_SHOTS := 0x3C000
abbrev E_KEPT := 0x40000
abbrev E_DATA (half : Nat) := 0x48000 + 0x2000 * half
abbrev E_RECQ := 0x4C000
abbrev E_SCRATCH := 0x4E000
abbrev E_PEAKS := 0x4FC00
abbrev E_BANK (i : Nat) := 0x50000 + 0x10000 * i
abbrev E_SEQ := 0x70000

/-- The 256 bytes of an engine's sequencer state (07 R180). The head of the event queue and the
contents of a loop stack entry are not stated: free values. -/
def State.seqBytes (s : State) (e : Nat) : List Byte :=
  let x := (s.refreshImage e).eng e
  let stack := (List.range 4).flatMap fun i =>
    if i < x.loops.length then leBytes 8 (Config.freeNat (100 + i) s.drawn) else List.replicate 8 0
  x.v.flatMap (leBytesInt 4) ++ leBytes 4 x.pc ++ stack ++ leBytes 4 (Config.freeNat 104 s.drawn) ++
    leBytes 4 x.events.length ++ leBytes 1 x.activeHalf ++ leBytes 1 x.activeHalf ++ [0, 0] ++
    leBytes 4 x.imgGen.toNat ++ List.replicate 140 0

/-- The record queue: its records stand from the start of its region, oldest first. -/
def recqBytes (x : Engine) : List Byte := (x.recq.flatMap Rec.bytes).take 8192

/-- Bytes of an engine's window (07 R180). -/
def State.engineBytes (s : State) (e off n : Nat) : List Byte :=
  let x := s.eng e
  overlay [(off, x.bytes off n), (E_RECQ, recqBytes x), (E_SEQ, s.seqBytes e)] off n

/-- Writes bytes over the records of a queue, keeping each record's length. -/
def patchRecs (off : Nat) (d : List Byte) : Nat → List Rec → List Rec
  | _, [] => []
  | at_, r :: t =>
    let n := r.bytes.length
    let lo := max off at_
    let hi := min (off + d.length) (at_ + n)
    (if lo < hi then { r with bytes := patch r.bytes (lo - at_) (slice d (lo - off) (hi - lo)) } else r) ::
      patchRecs off d (at_ + n) t

/-- Writes bytes into an engine's memory at a window offset. -/
def Engine.store (x : Engine) (off : Nat) (d : List Byte) : Engine :=
  { x with mem := Sparse.setMany zeroByte x.mem off d, recq := patchRecs off d E_RECQ x.recq }

/-! The windows. -/

/-- Length of window 0x02 (15 R375, R383). -/
def State.dramSize (s : State) : Nat :=
  if s.mem.capGB = 0 || s.mem.chans.all DramChan.failed then 0
  else match s.mem.fallback with
    | some _ => s.mem.capGB * 2 ^ 30 - 2 ^ 20
    | none => 2 * s.mem.capGB * 2 ^ 30

/-- Where the reserved megabytes begin: the top 1 MB of each channel (15 R375). -/
def State.dramTop (s : State) : Nat :=
  if s.mem.fallback.isSome then s.dramSize else s.dramSize - 2 ^ 21

/-- Bytes of window 0x02: the reserved megabytes read as zero. -/
def State.dramBytes (s : State) (off n : Nat) : List Byte :=
  (List.range n).map fun i => if off + i < s.dramTop then Sparse.get zeroByte s.mem.dram (off + i) else 0

/-- Some burst of a span of window 0x02 is poisoned (15 R382). -/
def State.poisoned (s : State) (off n : Nat) : Bool :=
  s.mem.poison.any fun b => decide (off < 64 * b + 64) && decide (64 * b < off + n)

/-- Bytes of window 0x01 (15 R370). The layout of the control cores' regions, of INGRESS and of the
rest of WORK is the firmware's own: free values. -/
def State.sramBytes (s : State) (off n : Nat) : List Byte :=
  let part (base size : Nat) (f : Nat → Nat → List Byte) : List (Nat × List Byte) :=
    if off < base + size ∧ base < off + n then
      let lo := max off base
      [(lo, f (lo - base) (min (off + n) (base + size) - lo))]
    else []
  let free (base size : Nat) : List (Nat × List Byte) :=
    part base size fun o k => (List.range k).map fun i => Config.coreByte (base + o + i) s.drawn
  overlay (free 0 0x200000 ++ part 0x200000 0x200000 s.storeBytes ++ part 0x400000 0x240000 s.calBytes ++
    part 0x640000 0x20000 s.liveBytes ++ part 0x660000 0x40000 s.ptpLogBytes ++
    part 0x6A0000 0x20000 s.eventBytes ++ part 0x6C0000 0x10000 s.incidentBytes ++
    part 0x6D0000 0x10000 (fun o k => slice s.mapBytes o k) ++ free 0x6E0000 0x40000 ++
    free 0x720000 0x80000 ++ s.histObjects ++ s.candObjects ++
    part 0x7A0000 0x10000 (fun o k => Sparse.getMany zeroByte s.mem.host o k)) off n

/-- Length of a window; none for a window that is not defined (02 R52). -/
def State.windowSize (s : State) (w : Nat) : Option Nat :=
  if w = 0x00 then some 0x100000
  else if w = 0x01 then some 0x800000
  else if w = 0x02 then some s.dramSize
  else if 0x10 ≤ w ∧ w ≤ 0x53 then some 0x70100
  else match w with
    | 0x70 => some storeSize
    | 0x71 => some 0x240000
    | 0x72 => some 0x10000
    | 0x73 => some 0x10000
    | 0x74 => some 0x20000
    | 0x78 | 0x79 | 0x7A | 0x7B =>
      match nth s.pk.snapshots (w - 0x78) none with
      | some x => some x.image.length
      | none => some 0
    | _ => none

/-- Bytes of a window other than the register space. -/
def State.windowBytes (s : State) (w off n : Nat) : List Byte :=
  if 0x10 ≤ w ∧ w ≤ 0x53 then s.engineBytes (w - 0x10) off n
  else match w with
    | 0x01 => s.sramBytes off n
    | 0x02 => s.dramBytes off n
    | 0x70 => s.storeBytes off n
    | 0x71 => s.calBytes off n
    | 0x72 => s.incidentBytes off n
    | 0x73 => slice s.mapBytes off n
    | 0x74 => s.eventBytes off n
    | 0x78 | 0x79 | 0x7A | 0x7B =>
      match nth s.pk.snapshots (w - 0x78) none with
      | some x => slice x.image off n
      | none => List.replicate n 0
    | _ => List.replicate n 0

/-- A span lies within a window and has its alignment (02 R52). -/
def State.spanOk (s : State) (w off n : Nat) : Bool :=
  let a := if w = 0 then 4 else 16
  match s.windowSize w with
  | some z => off % a == 0 && n % a == 0 && decide (off + n ≤ z)
  | none => false

/-- A write that a window takes (02 R52, 14 R359, 15 R370, R371). R52 says of a window only that it is not writable:
that a write of it answers BAD_ADDRESS is a DESIGN CHOICE (notes/assumptions). -/
def State.spanWritable (w off n : Nat) : Bool :=
  if w = 0x00 ∨ w = 0x02 then true
  else if 0x10 ≤ w ∧ w ≤ 0x53 then decide (off + n ≤ E_SEQ)
  else if w = 0x01 then
    (decide (0x500000 ≤ off) && decide (off + n ≤ 0x520000)) ||
      (decide (0x7A0000 ≤ off) && decide (off + n ≤ 0x7B0000))
  else if w = 0x71 then decide (0x100000 ≤ off) && decide (off + n ≤ 0x120000)
  else false

/-- Writes bytes into a window other than the register space, at a span that it takes. -/
def State.writeWindow (s : State) (w off : Nat) (d : List Byte) : State :=
  if 0x10 ≤ w ∧ w ≤ 0x53 then s.setEng (w - 0x10) fun e => e.store off d
  else if w = 0x02 then
    let keep := d.take (s.dramTop - off)
    { s with mem.dram := Sparse.setMany zeroByte s.mem.dram off keep
             mem.poison := s.mem.poison.filter fun b => !(decide (off ≤ 64 * b) && decide (64 * b + 64 ≤ off + keep.length)) }
  else if w = 0x71 then { s with thm.staging := Sparse.setMany zeroByte s.thm.staging (off - 0x100000) d }
  else if w = 0x01 then
    if off < 0x7A0000 then
      { s with thm.staging := Sparse.setMany zeroByte s.thm.staging (off - 0x500000) d }
    else { s with mem.host := Sparse.setMany zeroByte s.mem.host (off - 0x7A0000) d }
  else s

end Sys2Proof.Machine
end

