-- ==== Sys2Proof/Machine/Serve.lean ====
section
/-!
DEFINITION. How a command packet is taken, checked, carried out and answered (01 R21; 02 R36 to R48,
R57 to R62; 17 R424; 18 R454; 19 R473): one operation, serve, over which every opcode's meaning is
written.
-/
namespace Sys2Proof

/-- The ingress queue of an origin, in the order of 02 R57. -/
def Origin.queue : Origin → Nat
  | .ring n => n.val
  | .udp p .. => 4 + p.val
  | .mspi => 8
  | .ifl p .. => 9 + p.val
  | .internal => 13

/-- A UDP session. -/
def Origin.isUdp : Origin → Bool
  | .udp .. => true
  | _ => false

end Sys2Proof

namespace Sys2Proof.Machine

/-- The active pair executes firmware: it has no fault for which a switchover is due (17 R424). -/
def State.thrumi (s : State) : Bool := s.boot.firmware && s.rep.switch.isNone

/-- Whether a packet of this origin can be taken now (02 R58, R61): its server runs, and a ring has a
reply buffer. -/
def State.served (s : State) (o : Origin) : Bool :=
  match o with
  | .mspi => s.thrumi || s.boot.responder
  | .ring n =>
    s.thrumi && (match s.pk.rings[n.val]? with
      | some r => r.enabled && !r.replyBufs.isEmpty
      | none => false)
  | _ => s.thrumi

/-- The responder executes the packets of this origin (02 R61). -/
def State.byResponder (s : State) (o : Origin) : Bool := decide (o = .mspi) && s.boot.responder

/-- Queues passed before a queue's turn in the round robin comes (01 R21). -/
def State.ahead (s : State) (q : Nat) : Nat := (q + 13 - s.pk.lastQueue) % 14

/-- It is the turn of a queue: no waiting packet that could be taken stands in a queue before it. What the responder
serves is none of Thrumi's queues (02 R61). -/
def State.turn (s : State) (q : Nat) : Bool :=
  s.pk.ingress.all fun x =>
    x.origin.queue == q || !s.served x.origin || s.byResponder x.origin || decide (s.ahead q ≤ s.ahead x.origin.queue)

/-- The oldest packet of a queue. -/
def State.queueHead (s : State) (q : Nat) : Option Queued :=
  s.pk.ingress.find? fun x => x.origin.queue == q

/-- Bytes that an entry takes in its queue. -/
def Arrival.size : Arrival → Nat
  | .packet p => 20 + p.payload.length
  | .raw l => l.length

/-- The time from which the reply bound of what arrives now runs (02 R42): its arrival, and for a packet from another
device its ingress there, which no packet carries: a free value before its arrival (notes/assumptions). -/
def State.entry (s : State) (o : Origin) : Nat × State :=
  match o with
  | .ifl .. =>
    let x := s.draw 80
    (s.time - x.1, x.2)
  | _ => (s.time, s)

/-- Puts what arrives at the end of its ingress queue. An Ethernet queue of 16 KB drops what does not fit and counts
it (01 R25, 02 R59). An Ifeche Link queue of 8 KB (01 R25) does the same: DESIGN CHOICE, the spec does not say what
a full one does (notes/assumptions). -/
def State.enqueue (s : State) (o : Origin) (a : Arrival) : State :=
  let size := (s.pk.ingress.filter fun x => x.origin.queue == o.queue).foldl (fun n x => n + x.item.size) a.size
  let e := s.entry o
  let stored := { e.2 with pk.ingress := s.pk.ingress ++ [{ origin := o, item := a, entered := e.1 }] }
  match o with
  | .udp .. => if 16384 < size then s.bump GLB_RX_DROP else stored
  | .ifl p .. => if 8192 < size then s.bump (IFL_FRM_DROP p) else stored
  | _ => stored

/-! Sessions (02 R44, R56, R59, R62). -/

/-- The lowest session place that is free. -/
def State.freeNum (s : State) : Nat :=
  ((List.range (s.pk.sessions.length + 1)).find? fun n => s.pk.sessions.all fun x => x.num != n).getD 0

/-- A session as it opens (02 R44, R56). -/
def Session.fresh (o : Origin) (num now : Nat) : Session :=
  { origin := o, num := num, mask := 1, newest := none, cache := [], stage := none, lastUse := now }

/-- Opens a session. -/
def State.openSession (s : State) (o : Origin) : State :=
  { s with pk.sessions := s.pk.sessions ++ [Session.fresh o s.freeNum s.time] }

/-- The UDP session idle longest. -/
def State.idlest (s : State) : Option Session :=
  (s.pk.sessions.filter fun x => x.origin.isUdp).foldl (fun b x =>
    match b with
    | none => some x
    | some y => if x.lastUse < y.lastUse then some x else some y) none

/-- The session of a packet is open, or opens now: a new UDP endpoint needs one of the 24 slots or the
slot of a session idle for 10 s (02 R59). Replies and EVENTs go back the way of the latest packet. None means
SESSION_FULL. -/
def State.ensureSession (s : State) (o : Origin) : Option State :=
  match s.session o with
  | some _ => some (s.setSession o fun x => { x with lastUse := s.time, origin := o })
  | none =>
    if o.isUdp ∧ 24 ≤ (s.pk.sessions.filter fun x => x.origin.isUdp).length then
      match s.idlest with
      | some x =>
        if x.lastUse + ticksS 10 ≤ s.time then
          some ({ s with pk.sessions := s.pk.sessions.filter fun y => !y.origin.same x.origin }.openSession o)
        else none
      | none => none
    else some (s.openSession o)

/-! Replies (02 R39 to R42, R44). -/

/-- The opcodes marked +1 (02 R50). -/
def gensUp (opcode : Nat) : Bool :=
  [0x11, 0x12, 0x20, 0x23, 0x30, 0x31, 0x32, 0x34, 0x35, 0x40, 0x41, 0x42, 0x43, 0x51, 0x52, 0x60, 0x61,
    0x62, 0x70, 0x71, 0x73, 0x74, 0x81, 0x82, 0x85, 0x90, 0x91, 0x92, 0x93, 0xC1, 0xC2, 0xC4, 0xD1,
    0xE1].contains opcode

/-- Reply bound of a class in ticks (02 R42); a reserved class is answered under the class 0 bound. -/
def classBound (cls : Byte) : Nat :=
  ticksMs (nth [2, 10, 100, 1000] (cls.toNat % 16) 2)

/-- The reply to a packet (02 R39, R40). -/
def Packet.reply (p : Packet) (gen : Word) (status detail : Nat) (payload : List Byte) : Packet :=
  { opcode := p.opcode, flags := (p.flags &&& 2) ||| 1, status := BitVec.ofNat 8 status
    sequence := p.sequence, target := p.target, cls := p.cls, gen := gen
    payload := if status ≤ ACCEPTED then payload else leBytes 4 detail }

/-- A packet asks for its OK reply to be suppressed (02 R36, R39). -/
def Packet.quiet (p : Packet) : Bool := bit p.flags.toNat 2

/-- Sends a reply that no cache keeps. -/
def State.answer (s : State) (o : Origin) (p : Packet) (entered status detail : Nat) : State :=
  s.sendTo o (entered + classBound p.cls) (p.reply s.gen status detail [])

/-- Ends a packet: GEN advances for a +1 opcode that ends OK, which a submission with MORE set does not
yet (02 R47, R48), the journal keeps its record (17
R424; the record is written and the change applied in one step), the reply goes out unless QUIET suppresses it, and the session caches it, but for the reply of
SESSION_CLOSE (02 R44). -/
def State.finish (s : State) (o : Origin) (p : Packet) (entered status detail : Nat)
    (payload : List Byte) : State :=
  let up := gensUp p.opcode.toNat && status == OK && !(p.opcode == 0x20 && bit p.flags.toNat 5)
  let s := if up then s.bumpGen else s
  let rep := p.reply s.gen status detail payload
  let s := if up then
      { s with rep.journal := [{ packet := p, effect := s.regs, reply := rep, gen := s.gen, applied := true }] } else s
  let hush := p.quiet && status == OK
  let keep := if s.byResponder o then 1 else 16
  let s := if p.opcode = 0x04 then s else s.setSession o fun x =>
    { x with cache := ((CacheEntry.mk p.sequence p.crc rep hush) :: x.cache).take keep }
  if hush then s else s.sendTo o (entered + classBound p.cls) rep

/-- Ends the packet whose reply was deferred. -/
def State.finishDeferred (s : State) (status : Nat) (detail : Nat := 0) (payload : List Byte := []) :
    State :=
  match s.pk.deferred with
  | none => s
  | some d => { s with pk.deferred := none }.finish d.origin d.packet d.entered status detail payload

/-! Forwarding (02 R62, 18 R454). -/

/-- The port of a device through which a target lies below it, following the tree description from
the target upward. -/
def Tree.portTo (t : Tree) (own : Nat) : Nat → Nat → Option Nat
  | 0, _ => none
  | fuel + 1, target =>
    match t.entries.find? fun e => e.dev == target with
    | none => none
    | some e => if e.parent = own then some e.port else t.portTo own fuel e.parent

/-- The ports of a worker on which a child has been met. -/
def Tree.children (t : Tree) : List Nat :=
  (List.range 4).filter fun p =>
    let x := nth t.ports p .reset
    p != t.parentPort && x.peer != 0 && !x.unlisted

/-- The port of a worker below which a device lies: that of the child itself, else of a child that is a free choice;
none without children. -/
def Tree.childPort (t : Tree) (target : Nat) : Option Nat :=
  match t.children.find? fun p => (nth t.ports p .reset).peer == target with
  | some p => some p
  | none => t.children[Config.childOf t.dev target % t.children.length]?

/-- The port towards a device: from a worker up the tree, unless what goes there came down from the parent; the manager
follows its description. -/
def State.portFor (s : State) (fromParent : Bool) (target : Nat) : Option Nat :=
  if s.role = 2 then (if fromParent then s.ifl.childPort target else some s.ifl.parentPort)
  else if s.role = 0 then none else s.ifl.portTo s.ifl.dev 16 target

/-- What came on the link's port to the parent. -/
def State.fromParent (s : State) (o : Origin) : Bool :=
  match o with
  | .ifl p .. => p.val == s.ifl.parentPort
  | _ => false

/-- Where a packet for another device goes: a port, or the status that refuses it. -/
def State.route (s : State) (o : Origin) (target : Nat) : Nat ⊕ Nat :=
  let port := s.portFor (s.fromParent o) target
  match port with
  | none => .inr BAD_TARGET
  | some q => if (nth s.ifl.ports q .reset).state = 3 then .inl q else .inr LINK_DOWN

/-- The device and session that a forwarded packet names as its origin (02 R62). -/
def State.originOf (s : State) (o : Origin) : Nat × Byte :=
  match o with
  | .ifl _ dev sess => (dev.val, sess)
  | _ => (s.ifl.dev, match s.session o with | some x => BitVec.ofNat 8 x.num | none => 0)

/-- The device at which a packet first entered keeps its ingress time for the deadline of its reply (02 R42). -/
def State.noteAway (s : State) (o : Origin) (p : Packet) (entered : Nat) : State :=
  match o with
  | .ifl .. => s
  | _ =>
    let n := (s.originOf o).2.toNat
    { s with ifl.away := (n, p.sequence, entered) :: s.ifl.away.filter fun x => x.1 != n || x.2.1 != p.sequence }

/-- Forwards a packet with FWD set and a recomputed trailer. -/
def State.forward (s : State) (o : Origin) (p : Packet) (entered : Nat) : State :=
  match s.route o (p.target.toNat / 16) with
  | .inr st => s.answer o p entered st 0
  | .inl q =>
    let from_ := s.originOf o
    (s.noteAway o p entered).linkSend q 0 from_.1 from_.2 { p with flags := p.flags ||| 0x10 }.bytes

/-! What an opcode is. -/

/-- The outcome of an opcode's effect: the state, the reply, or a reply that is deferred. -/
structure Done where
  st      : State
  status  : Nat := OK
  detail  : Nat := 0
  payload : List Byte := []
  defer   : Bool := false
  /-- The effect has answered the packet, or will: no reply is sent now, and no other packet waits. -/
  taken   : Bool := false

/-- A refusal without effect. -/
def State.refuse (s : State) (status : Nat) (detail : Nat := 0) : Done :=
  { st := s, status := status, detail := detail }

/-- An effect behind checks on the state: the first failing check refuses. -/
def State.doneIf (s : State) (checks : List Check) (f : State → Done) : Done :=
  match firstFail checks with
  | some x => s.refuse x.1 x.2
  | none => f s

/-- An opcode. -/
structure OpSpec where
  opcode     : Nat
  /-- The opcode table holds it. -/
  known      : Bool := true
  /-- The responder executes it (02 R61). -/
  responder  : Bool := false
  /-- MORE is allowed (02 R48). -/
  staging    : Bool := false
  /-- It answers STATE before READY (19 R473). -/
  needsReady : Bool := false
  /-- Ticks that the packet takes before its reply, where the spec gives them (02 R42). -/
  duration   : State → List Byte → Nat := fun _ _ => 0
  /-- LENGTH fits the opcode. -/
  lengthOk   : List Byte → Bool
  /-- It touches a register that the responder may not write (20 R489). -/
  barred     : List Byte → Bool := fun _ => false
  /-- The parameters, and the addresses that they name. -/
  check      : State → List Byte → Check := fun _ _ => none
  /-- The effect, and the refusals that depend on the state. -/
  act        : State → Origin → Packet → Done

/-- The unit that a family's packets must name; none where it is ignored (02 R45). -/
def familyUnit (opcode : Nat) : Option Nat :=
  nth [none, some 1, some 1, some 2, some 4, some 5, some 7, some 3, some 9, some 0xA, some 0xD, some 0xE,
    none, some 0xB, some 0xF, none] (opcode / 16) none

/-- The checks of 02 R43 between the sequence and CAS: opcode, unit, unit presence, class, length,
parameters; what the responder may not write goes before the checks of its value, which need Thrumi (20 R489). -/
def State.opChecks (s : State) (op : OpSpec) (o : Origin) (p : Packet) : Check :=
  firstFail [
    need (!s.byResponder o || op.responder) FW_ABSENT,
    need op.known BAD_OPCODE,
    need (match familyUnit op.opcode with
      | some u => p.target.toNat % 16 == u
      | none => true) BAD_TARGET,
    need (s.sb || op.opcode / 16 != 0xA) UNIT_ABSENT,
    need (decide (p.cls.toNat % 16 ≤ 3)) BAD_PARAM 11,
    need (op.lengthOk p.payload) BAD_LENGTH,
    need (op.staging || !bit p.flags.toNat 5) BAD_PARAM 4,
    need (!s.byResponder o || !op.barred p.payload) FW_ABSENT,
    op.check s p.payload ]

/-- CAS, the deadline, a pending reset and READY (02 R42, R43; 19 R465, R473). The bound of SAF_PARAM does not run
before the island's decision (02 R42). -/
def State.stateChecks (s : State) (op : OpSpec) (p : Packet) (entered : Nat) : Check :=
  firstFail [
    need (!bit p.flags.toNat 1 || decide (p.gen = s.gen)) GEN_MISMATCH,
    need (op.opcode == 0xA1 || decide (s.time + op.duration s p.payload ≤ entered + classBound p.cls)) DEADLINE,
    need s.pk.resetPend.isNone STATE,
    need (!op.needsReady || s.boot.phase == .ready) STATE ]

/-- Sets a session's staged transfer. -/
def State.setStage (s : State) (o : Origin) (x : Option Stage) : State :=
  s.setSession o fun y => { y with stage := x }

/-- The commit of a staged transfer: TABLE_COMMIT, ENG_COMMIT or a last PROG_SUBMIT (R48). -/
def Packet.commits (p : Packet) : Bool :=
  p.opcode == 0x11 || p.opcode == 0x51 || (p.opcode == 0x20 && !bit p.flags.toNat 5)

/-- A packet is refused before its effect; a commit that finds another generation discards what is staged
(R48). -/
def State.turnDown (s : State) (p : Packet) (o : Origin) (status : Nat) : State :=
  if status = GEN_MISMATCH ∧ p.commits then s.setStage o none else s

/-- Carries out a packet behind all its checks. -/
def State.perform (s : State) (op : OpSpec) (o : Origin) (p : Packet) (entered : Nat) : State :=
  match firstFail [s.opChecks op o p, s.stateChecks op p entered] with
  | some x => (s.turnDown p o x.1).finish o p entered x.1 x.2 []
  | none =>
    let d := op.act s o p
    if d.taken then d.st
    else if d.defer then
      { d.st with pk.deferred := some { origin := o, packet := p, entered := entered, since := s.time } }
    else d.st.finish o p entered d.status d.detail d.payload

/-- The sequence rules (02 R43, R44): a cached sequence is answered from the cache or refused, a stale
one is refused, and any other becomes the newest. -/
def State.sequenced (s : State) (op : OpSpec) (o : Origin) (p : Packet) (entered : Nat) : State :=
  match s.session o with
  | none => s
  | some x =>
    match x.cache.find? fun e => e.sequence == p.sequence with
    | some e =>
      if e.crc = p.crc then
        if e.quiet then s else s.sendTo o (entered + classBound p.cls) e.reply
      else s.answer o p entered SEQ_CONFLICT 0
    | none =>
      let stale : Option Half := match x.newest with
        | some n => if 32768 ≤ (p.sequence - n).toNat then some n else none
        | none => none
      match stale with
      | some n => s.answer o p entered SEQ_STALE n.toNat
      | none => (s.setSession o fun x => { x with newest := some p.sequence }).perform op o p entered

/-- Handles a packet taken from its queue (02 R43). -/
def State.handle (s : State) (op : OpSpec) (o : Origin) (p : Packet) (entered : Nat) : State :=
  if bit p.flags.toNat 0 || bit p.flags.toNat 6 then s.bump GLB_RX_FLAG
  else
    match s.ensureSession o with
    | none => s.answer o p entered SESSION_FULL 0
    | some s =>
      if p.target.toNat / 16 ≠ s.ifl.dev then s.forward o p entered
      else s.sequenced op o p entered

/-- A command descriptor is taken: the ring's command head moves on (02 R58). -/
def State.ringTake (s : State) (o : Origin) : State :=
  match o with
  | .ring n =>
    { s with pk.rings := upd s.pk.rings n.val (fun (r : RingPair) =>
      { r with cmdHead := (r.cmdHead + 1) % (2 ^ s.fld (OUT_CMDQ_SIZE n.val) 3 0) }) }
  | _ => s

/-- A packet is taken from its queue: the round robin of Thrumi's queues moves on, and firmware has serviced MSPI. -/
def State.take (s : State) (o : Origin) : State :=
  { (s.ringTake o) with
    pk.lastQueue := if s.byResponder o then s.pk.lastQueue else o.queue
    pk.mspiServed := if o = .mspi ∧ ¬ s.byResponder o then s.time else s.pk.mspiServed }

/-- A ring pair that takes no descriptor, and the hold of PORST_L: no packet can arrive (02 R58, 19
R464). -/
def State.deaf (s : State) (o : Origin) : Bool :=
  s.boot.held || (match o with
    | .ring n => (match s.pk.rings[n.val]? with | some r => !r.enabled | none => true)
    | _ => false)

/-- When what arrives can be taken now, its time of entry and the state with it taken from its queue. A deferred reply
holds Thrumi, and not the responder (01 R21; 02 R61). -/
def State.taken (s : State) (o : Origin) (a : Arrival) : Option (Nat × State) :=
  if !s.served o || !(s.byResponder o || (s.pk.deferred.isNone && s.turn o.queue)) then none
  else
    match s.queueHead o.queue with
    | none =>
      let e := s.entry o
      some (e.1, e.2.take o)
    | some h =>
      if h.origin = o ∧ h.item = a then
        some (h.entered, { s with pk.ingress := s.pk.ingress.erase h }.take o)
      else none

/-- It stands at the head of its queue. -/
def State.waits (s : State) (o : Origin) (a : Arrival) : Bool :=
  match s.queueHead o.queue with
  | some h => decide (h.origin = o) && decide (h.item = a)
  | none => false

/-- A packet of an opcode: it is taken and handled when its turn has come, and otherwise waits in its
ingress queue. -/
def State.serve (s : State) (op : OpSpec) (o : Origin) (r : Request) : State :=
  let p := r.packet op.opcode
  if s.deaf o then s
  else
    match s.taken o (.packet p) with
    | some x => x.2.handle op o p x.1
    | none => if s.waits o (.packet p) then s else s.enqueue o (.packet p)

end Sys2Proof.Machine
end

