-- ==== Sys2Proof/Machine/Session.lean ====
section
/-!
DEFINITION. Family 0x0: NOP, IDENT, STATUS, SESSION_OPEN, SESSION_CLOSE (02 R44, R50, R56, R61; 20 R492).
-/
namespace Sys2Proof.Machine

/-- An opcode without a request payload. -/
def noPayload (d : List Byte) : Bool := d.isEmpty

/-- A request payload of a fixed length. -/
def exactly (n : Nat) (d : List Byte) : Bool := d.length == n

/-- A request payload of a length in a range. -/
def between (lo hi : Nat) (d : List Byte) : Bool := decide (lo ≤ d.length) && decide (d.length ≤ hi)

def nopOp : OpSpec :=
  { opcode := 0x00, responder := true, lengthOk := fun _ => true
    act := fun s _ p => { st := s, payload := p.payload } }

/-- NOP (R50). -/
def execNop (o : Origin) (r : Request) (s : State) : Res := .next (s.serve nopOp o r)

/-- Devices in the tree: this one and the workers that it describes. A worker holds no description: a
free value. -/
def State.treeSize (s : State) : Nat × State :=
  if s.role = 2 then s.draw 2 else (1 + s.ifl.entries.length, s)

def identOp : OpSpec :=
  { opcode := 0x01, responder := true, lengthOk := noPayload
    act := fun s _ _ =>
      let n := s.treeSize
      { st := n.2
        payload := leBytes 4 s.ident ++ leBytes 4 (s.view BOOT_FW_VER) ++ leBytes 1 s.ifl.dev ++
          leBytes 1 n.1 ++ [0, 0] ++ leBytes 8 Config.serial.toNat } }

/-- IDENT (R50): GLB_IDENT, the Thrumi version, the device ID, the tree size and the serial number. -/
def execIdent (o : Origin) (r : Request) (s : State) : Res := .next (s.serve identOp o r)

/-- The reply of STATUS; the responder's gives zero for programs and incidents (R61). -/
def State.statusReply (s : State) (resp : Bool) : List Byte :=
  let n (v : Nat) : Nat := if resp then 0 else v
  leBytes 4 s.gen.toNat ++ leBytes 4 s.glbStatus ++ leBytes 4 (n s.openIncidents) ++
    leBytes 2 (n (s.present.filter fun p => p.2.live).length) ++
    leBytes 2 (n (s.countProgs fun x => x == .suspended)) ++ leBytes 1 (b2n s.tim.warm) ++
    leBytes 1 s.thm.step ++ [0, 0]

def statusOp : OpSpec :=
  { opcode := 0x02, responder := true, lengthOk := noPayload
    act := fun s o _ => { st := s, payload := s.statusReply (s.byResponder o) } }

/-- STATUS (R50). -/
def execStatus (o : Origin) (r : Request) (s : State) : Res := .next (s.serve statusOp o r)

def sessionOpenOp : OpSpec :=
  { opcode := 0x03, lengthOk := exactly 4
    act := fun s o p =>
      let num := match s.session o with | some x => x.num | none => 0
      { st := s.setSession o fun x => { x with mask := BitVec.ofNat 32 (field p.payload 0 4 % 2 ^ 14) }
        payload := [Config.sessionNumber num, 0, 0, 0] } }

/-- SESSION_OPEN (R56): sets the event class mask; bits [31:14] are reserved. -/
def execSessionOpen (o : Origin) (r : Request) (s : State) : Res := .next (s.serve sessionOpenOp o r)

/-- Ends a session: a ring pair or MSPI opens again as a new session at once; any other session is gone
(R44). -/
def State.closeSession (s : State) (o : Origin) : State :=
  match o with
  | .ring _ | .mspi => s.setSession o fun x => Session.fresh o x.num s.time
  | _ => { s with pk.sessions := s.pk.sessions.filter fun x => x.origin ≠ o }

def sessionCloseOp : OpSpec :=
  { opcode := 0x04, lengthOk := noPayload
    act := fun s o _ => { st := s.closeSession o } }

/-- SESSION_CLOSE (R44). -/
def execSessionClose (o : Origin) (r : Request) (s : State) : Res := .next (s.serve sessionCloseOp o r)

/-! Staged transfers (R48). -/

/-- The transfer of a session that has not been idle for 1 s. -/
def State.stageOf (s : State) (o : Origin) : Option Stage :=
  match s.session o with
  | none => none
  | some x => x.stage.filter fun t => decide (s.time ≤ t.last + ticksS 1)

/-- The most that a session may stage: 16 MB. -/
def stageMax : Nat := 16777216

/-- A staging packet for an object: `mem` selects the data memory of an engine, and no offset means
behind what has arrived. A packet for another object, or one after the transfer's last, begins a new
transfer. A packet that would carry the session past 16 MB answers STAGE_ABORT and the transfer is discarded: R48 gives
the limit but no status (DESIGN CHOICE, notes/assumptions). -/
def State.stageAdd (s : State) (o : Origin) (p : Packet) (obj : StageObj) (mem : Bool)
    (offset : Option Nat) (data : List Byte) : Done :=
  let fresh : Stage :=
    { obj := obj, data := [], dataMem := [], gen := s.gen, cas := bit p.flags.toNat 1, whole := false
      last := s.time }
  let t : Stage := match s.stageOf o with
    | some t => if t.obj = obj ∧ ¬ t.whole then t else fresh
    | none => fresh
  let part := if mem then t.dataMem else t.data
  if offset.getD part.length ≠ part.length ∨ stageMax < t.data.length + t.dataMem.length + data.length then
    (s.setStage o none).refuse STAGE_ABORT
  else
    let t := if mem then { t with dataMem := t.dataMem ++ data } else { t with data := t.data ++ data }
    { st := s.setStage o (some { t with whole := !bit p.flags.toNat 5, last := s.time }) }

/-- Takes a session's complete transfer of an object for its commit: the staged data is gone from the
session, whatever the commit then answers. -/
def State.stageTake (s : State) (o : Origin) (obj : StageObj) : State × Option Stage × Check :=
  let s' := s.setStage o none
  match s.stageOf o with
  | none => (s', none, some (STAGE_ABORT, 0))
  | some t =>
    if t.obj ≠ obj ∨ ¬ t.whole then (s', none, some (STAGE_ABORT, 0))
    else if t.cas ∧ t.gen ≠ s.gen then (s', none, some (GEN_MISMATCH, 0))
    else (s', some t, none)

/-- STAGE_TIMEOUT (R48): a transfer that has been idle for 1 s is discarded. -/
def execStageTimeout (o : Origin) (s : State) : Res :=
  .next (match s.session o with
    | some x =>
      match x.stage with
      | some t => if t.last + ticksS 1 ≤ s.time then s.setStage o none else s
      | none => s
    | none => s)

end Sys2Proof.Machine
end

