-- ==== Sys2Proof/Machine/TableOps.lean ====
section
/-!
DEFINITION. Family 0x1: TABLE_LOAD, TABLE_COMMIT, TABLE_DELETE, TABLE_LIST (02 R48, R50, R521; 03 R79;
07 R192), and the profile slots of the engines.
-/
namespace Sys2Proof.Machine

/-! Profile slots (07 R192). -/

/-- The profile versions that an engine must hold: those that the segments of programs name and whose
shots reach its group, by table ID and store offset. -/
def State.wantedProfiles (s : State) (e : Nat) : List (Half × Nat) :=
  match s.engineGroup e with
  | none => []
  | some g =>
    ((s.present.flatMap fun p => (s.member p.1 p.2.image).profiles g).eraseDups).filterMap fun i =>
      (s.table 4 i).map fun t => (t.id, t.offset)

/-- Returns the slots that nothing names or uses, and loads the profiles that are missing into the
lowest free slots, padded with zeros to 2 KB. -/
def State.syncEngine (s : State) (e : Nat) : State :=
  let want := s.wantedProfiles e
  let x := s.eng e
  let held := x.profiles.zipIdx.map fun (y, i) =>
    match y with
    | some v => if want.contains v || x.slotUsed i then some v else none
    | none => none
  let missing := want.filter fun v => !held.contains (some v)
  let x := missing.foldl (fun (x : Engine) v =>
    match (List.range 8).find? fun i => nth x.profiles i none == none with
    | none => x
    | some i =>
      let data := slice ((s.tableData 4 v.1.toNat).getD []) 0 2048
      { x with profiles := x.profiles.set i (some v)
               mem := Sparse.setMany zeroByte x.mem (E_PROFILE i) data }) { x with profiles := held }
  s.setEng e fun _ => x

/-- Brings the slots of every engine into line with the programs. -/
def State.syncProfiles (s : State) : State :=
  (List.range 68).foldl State.syncEngine s

/-! Opcodes. -/

/-- Kind and ID of a table opcode (R50, R521). -/
def tableParams (d : List Byte) : Check :=
  firstFail [need (within (field d 0 1) 1 8) BAD_PARAM 16, need (field d 2 2 != 0xFFFF) BAD_PARAM 18]

def tableLoadOp : OpSpec :=
  { opcode := 0x10, staging := true, lengthOk := between 8 4080, check := fun _ d => tableParams d
    act := fun s o p =>
      let d := p.payload
      s.stageAdd o p (.table (BitVec.ofNat 8 (field d 0 1)) (BitVec.ofNat 16 (field d 2 2))) false
        (some (field d 4 4)) (d.drop 8) }

/-- TABLE_LOAD (R48). -/
def execTableLoad (o : Origin) (r : Request) (s : State) : Res := .next (s.serve tableLoadOp o r)

/-- Puts a table into the store in place of the one of its kind and ID. -/
def State.putTable (s : State) (t : Table) : State :=
  { s with
    pg.tables := s.pg.tables.filter (fun x => !(x.kind == t.kind && x.id == t.id)) ++ [t]
    mem.corrupt := s.mem.corrupt.filter fun c => !(c.1 == t.kind && c.2 == t.id) }

/-- Commits a table whose length and CRC match (R79): its format, the rules across tables and admission
of every program that names it, and a run of the store. `s` is the state to which a refusal leads. -/
def State.commitTable (s : State) (kind id : Nat) (data : List Byte) : Done :=
  let t : Table :=
    { kind := BitVec.ofNat 8 kind, id := BitVec.ofNat 16 id, data := data, gen := s.gen + 1
      offset := (s.findRun (16 * ceilDiv data.length 16)).getD 0 }
  let s' := s.putTable t
  let users := s.present.filter fun p => names p.2.image kind id
  if ¬ okTable kind data then s.refuse IMAGE_INVALID
  else if ¬ users.all (fun p => s'.tablesExist p.2.image && s'.crossRules p.2.image) then s.refuse IMAGE_INVALID
  else
    match (if users.isEmpty then none else s'.admissionNow) with
    | some d => s.countRefusal.refuse ADM_REFUSED d
    | none =>
      if (s.findRun (16 * ceilDiv data.length 16)).isNone then s.refuse STATE
      else { st := (if users.isEmpty then s' else s'.postShares).syncProfiles }

def tableCommitOp : OpSpec :=
  { opcode := 0x11, lengthOk := exactly 12, check := fun _ d => tableParams d
    act := fun s o p =>
      let d := p.payload
      let kind := field d 0 1
      let id := field d 2 2
      let x := s.stageTake o (.table (BitVec.ofNat 8 kind) (BitVec.ofNat 16 id))
      match x.2.1, x.2.2 with
      | some t, none =>
        if t.data.length ≠ field d 4 4 ∨ crc32c t.data ≠ BitVec.ofNat 32 (field d 8 4) then
          x.1.refuse STAGE_ABORT
        else x.1.commitTable kind id t.data
      | _, some f => x.1.refuse f.1 f.2
      | none, none => x.1.refuse STAGE_ABORT }

/-- TABLE_COMMIT (R79). -/
def execTableCommit (o : Origin) (r : Request) (s : State) : Res := .next (s.serve tableCommitOp o r)

/-- A selection register names a table (R79). -/
def State.selected (s : State) (kind id : Nat) : Bool :=
  match kind with
  | 6 => (List.range 4).any fun g => s.fld (EMT_COMP_SEL g) 15 0 == id
  | 7 => (List.range 64).any fun g => s.fld (HCH_WALK_SEL g) 15 0 == id
  | 8 => (List.range 24).any fun n => s.fld (HKA_USER_SEL n) 15 0 == id
  | _ => false

def tableDeleteOp : OpSpec :=
  { opcode := 0x12, lengthOk := exactly 4, check := fun _ d => tableParams d
    act := fun s _ p =>
      let kind := field p.payload 0 1
      let id := field p.payload 2 2
      s.doneIf [need (s.table kind id).isSome NOT_FOUND,
        need (!(s.present.any fun q => names q.2.image kind id)) STATE,
        need (!s.selected kind id) STATE] fun s =>
        { st := { s with pg.tables := s.pg.tables.filter fun t => !(t.kind.toNat == kind && t.id.toNat == id) } } }

/-- TABLE_DELETE (R79). -/
def execTableDelete (o : Origin) (r : Request) (s : State) : Res := .next (s.serve tableDeleteOp o r)

/-- The tables of a kind from an ID on, in ascending ID. -/
def State.listTables (s : State) (kind first : Nat) : List Table :=
  sortBy (fun a b => decide (a.id.toNat < b.id.toNat))
    (s.pg.tables.filter fun t => t.kind.toNat == kind && decide (first ≤ t.id.toNat))

def tableListOp : OpSpec :=
  { opcode := 0x13, lengthOk := exactly 4
    check := fun _ d => need (within (field d 0 1) 1 8) BAD_PARAM 16
    act := fun s _ p =>
      let all := s.listTables (field p.payload 0 1) (field p.payload 2 2)
      let l := all.take 254
      { st := s
        payload := leBytes 2 l.length ++ leBytes 2 (b2n (decide (254 < all.length))) ++
          l.flatMap fun t => leBytes 2 t.id.toNat ++ [0, 0] ++ leBytes 4 t.data.length ++
            leBytes 4 t.gen.toNat ++ leBytes 4 t.offset } }

/-- TABLE_LIST (R521). -/
def execTableList (o : Origin) (r : Request) (s : State) : Res := .next (s.serve tableListOp o r)

end Sys2Proof.Machine
end

