-- ==== Sys2Proof/Machine/ProgOps.lean ====
section
/-!
DEFINITION. Family 0x2: PROG_SUBMIT, PROG_START, PROG_STOP, PROG_WITHDRAW, PROG_STATUS (03 R64, R76, R522;
02 R48, R521; 07 R186, R200; 11 R279; 14 R356; 18 R455).
-/
namespace Sys2Proof.Machine

/-- The program ID of a family 0x2 packet, 0 to 63 (R64). -/
def progParam (d : List Byte) : Check := need (decide (field d 0 2 ≤ 63)) BAD_PARAM 16

/-! Submission. -/

/-- The answer that the manager gives a worker's submission of a ROUTE 2 stream (18 R455): what another
device holds is a free value. -/
def State.managerAnswer (s : State) : Check × State :=
  let x := s.draw 3
  if x.1 = 0 then (none, x.2)
  else if x.1 = 1 then (some (NOT_FOUND, 0), x.2)
  else
    let y := x.2.draw 4
    (some (ADM_REFUSED, y.1 % 2 ^ 24), y.2)

/-- A program as it enters the machine. -/
def Prog.fresh (image : List Byte) (gen : Word) (offset : Nat) : Prog :=
  { image := image, state := .idle, cause := 0, outOfSet := false, genSubmit := gen, offset := offset
    segment := 0, passes := 0, entry := 0, last := none, passTabs := [], startMode := 0, startTick := 0
    nominal := 0, fired := false, released := false, waitFrom := 0, waitEdges := 0, waitHit := none, unreported := false
    waitLate := false, waitTmo := false, sources := [] }

/-- Places a program and opens its stream: FSEQ counts from 0, and the late and host-stalled counts clear
(10 R265, 20 R496). -/
def State.putProg (s : State) (pid : Nat) (q : Prog) : State :=
  let s := { s with
    pg.progs := s.pg.progs.set pid (some q)
    pg.admitted := s.pg.admitted.filter (· != pid) ++ [pid]
    out.streams := upd s.out.streams pid fun x =>
      { x with desc := imStream q.image, lost := 0, stalled := false, dry := none } }
  ((s.setRegN (OUT_STREAM_FSEQ pid) 0).setRegN (SEQ_PROG_LATE pid) 0).setRegN (SEQ_PROG_STALL pid) 0

/-- The checks of R64 in their order, but for admission and the store. -/
def State.submitCheck (s : State) (pid : Nat) (img : List Byte) : Check :=
  match need (s.prog pid).isNone STATE with
  | some x => some x
  | none =>
    match checkImage img (s.role == 2) (s.fld GLB_CMD_UDP_PORT 15 0) with
    | some x => some x
    | none =>
      if ¬ s.tablesExist img then some (NOT_FOUND, 0)
      else if ¬ s.crossRules img then some (IMAGE_INVALID, 0)
      else none

/-- A complete submission (R64): the checks, admission of every program with the candidate, a run of the
store, and the summary. -/
def State.submit (s : State) (pid : Nat) (img : List Byte) : Done :=
  match s.submitCheck pid img with
  | some x => s.refuse x.1 x.2
  | none =>
    let x := if stRoute (imStream img) = 2 then s.managerAnswer else (none, s)
    match x.1 with
    | some r => (if r.1 = ADM_REFUSED then x.2.countRefusal else x.2).refuse r.1 r.2
    | none =>
      let s := x.2
      let m := s.member pid img
      match s.admission (s.admSet ++ [m]) with
      | some d => s.countRefusal.refuse ADM_REFUSED d
      | none =>
        match s.findRun (16 * ceilDiv img.length 16) with
        | none => s.refuse STATE
        | some off =>
          let s := (s.putProg pid (.fresh img (s.gen + 1) off)).postShares.syncProfiles
          { st := s, payload := s.summary s.admSet m }

def progSubmitOp : OpSpec :=
  { opcode := 0x20, staging := true, needsReady := true, lengthOk := between 4 4080
    check := fun _ d => progParam d
    act := fun s o p =>
      let pid := field p.payload 0 2
      let obj := StageObj.program (BitVec.ofNat 16 pid)
      let a := s.stageAdd o p obj false none (p.payload.drop 4)
      if a.status ≠ OK ∨ bit p.flags.toNat 5 then a
      else
        let x := a.st.stageTake o obj
        match x.2.1, x.2.2 with
        | some t, none => x.1.submit pid t.data
        | _, some f => x.1.refuse f.1 f.2
        | none, none => x.1.refuse STAGE_ABORT }

/-- PROG_SUBMIT (R64). -/
def execProgSubmit (o : Origin) (r : Request) (s : State) : Res := .next (s.serve progSubmitOp o r)

/-! Start. -/

/-- The groups of an engine count from PROG_START, so that the first uses bank 0, and its attribution interval
begins (07 R184, R186). While groups of an earlier program still collect, numbers go on from theirs and the interval
goes on from their last (DESIGN CHOICE, notes/assumptions). -/
def Engine.restart (x : Engine) (tick : Nat) : Engine :=
  { x with nextGroup := if x.groups.isEmpty then 0 else 2 * ((x.nextGroup + 1) / 2)
           attrFrom := if x.groups.isEmpty then 32 * tick else x.attrFrom
           early := if x.groups.isEmpty then List.replicate 8 0 else x.early }

/-- Restarts the engines that serve a program's receive groups. -/
def State.restartEngines (s : State) (img : List Byte) : State :=
  (List.range 64).foldl (fun t g =>
    if bit (s.rxOf img) g then t.setEng (t.groupEngine g) fun x => x.restart t.tim.shot else t) s

/-- The start instant and state of a program that PROG_START starts (R69, R522). -/
def State.begin (s : State) (pid mode tick : Nat) : State :=
  let s := s.setProg pid fun q =>
    { q with state := .armed, outOfSet := false, segment := imFirst q.image, passes := 0, entry := 0
             last := none, passTabs := [], startMode := mode, startTick := tick, nominal := 0
             fired := false, released := false, waitFrom := 0, waitEdges := 0, waitHit := none, unreported := false
             waitLate := false, waitTmo := false, sources := [] }
  let s := { s.setRegN (SEQ_PROG_SHOTS pid) 0 with ifl.lastSync := s.ifl.lastSync.set pid none }
  if mode = 0 then s.runProg pid s.unitNow else s

/-- The time that mode 1 gives, as an unwrapped tick. -/
def State.startTime (s : State) (d : List Byte) : Nat :=
  nearest 48 s.tim.shot (field d 4 8 % 2 ^ 48)

/-- Checks of a start on the state (R76, R522; 07 R200; 14 R356). -/
def State.startChecks (s : State) (pid : Nat) (q : Prog) : List Check :=
  let live := s.present.filter fun p => p.2.live
  [ need (q.state == .idle || q.state == .stopped || q.state == .suspended) STATE,
    need (!s.thm.shutdown) STATE, need (decide (live.length < 8)) STATE,
    need (live.all fun p => p.1 == pid || !s.shares q.image p.2.image) STATE,
    need ((List.range 64).all fun g => !bit (s.rxOf q.image) g ||
      (let e := s.eng (s.groupEngine g); e.st == .idle || e.st == .busy)) STATE ]

def progStartOp : OpSpec :=
  { opcode := 0x21, needsReady := true, lengthOk := exactly 12
    check := fun s d => firstFail [progParam d, need (decide (field d 2 1 ≤ 2)) BAD_PARAM 18,
      need (field d 2 1 != 1 || decide (s.tim.shot + 128 ≤ s.startTime d)) BAD_PARAM 20]
    act := fun s _ p =>
      let pid := field p.payload 0 2
      match s.prog pid with
      | none => s.refuse NOT_FOUND
      | some q => s.doneIf (s.startChecks pid q) fun s =>
        let in_ := s.setProg pid fun q => { q with outOfSet := false }
        match (if q.state = .suspended then in_.admissionNow true else none) with
        | some d => s.countRefusal.refuse ADM_REFUSED d
        | none =>
          let s := (if q.outOfSet then in_.postShares else s).restartEngines q.image
          { st := s.begin pid (field p.payload 2 1) (s.startTime p.payload)
            payload := List.replicate 8 0xFF } }

/-- PROG_START (R522). No shot is committed before the reply, so the reply carries no number. -/
def execProgStart (o : Origin) (r : Request) (s : State) : Res := .next (s.serve progStartOp o r)

/-! Stop. -/

/-- Stop of either mode (R522). -/
def progStopAct (mode : Nat) (s : State) (_ : Origin) (p : Packet) : Done :=
  let pid := field p.payload 0 2
  match s.prog pid with
  | none => s.refuse NOT_FOUND
  | some q => s.doneIf [need q.live STATE] fun s =>
    if q.state = .armed then { st := s.stopProg pid, payload := List.replicate 8 0xFF }
    else if mode = 1 then { st := s.stopProg pid, payload := shotField q.last }
    else if q.state = .waiting then { st := s.stopProg pid, payload := List.replicate 8 0xFF }
    else { st := s.setProg pid fun q => { q with state := .stopping }, payload := List.replicate 8 0xFF }

def progStopOp (mode : Nat) : OpSpec :=
  { opcode := 0x22, lengthOk := exactly 4
    check := fun _ d => firstFail [progParam d, need (decide (field d 2 1 ≤ 1)) BAD_PARAM 18]
    act := progStopAct mode }

/-- The value by which the table splits an opcode into rows: what a packet of the fixed length carries at an
offset when that is some row's, and otherwise the row's own. -/
def rowValue (r : Request) (len off mine : Nat) (rows : List Nat) : Nat :=
  let v := field r.payload off 1
  if r.payload.length = len ∧ rows.contains v then v else mine

/-- PROG_STOP, mode 0 (R522). -/
def execProgStopEndOfSegment (o : Origin) (r : Request) (s : State) : Res :=
  .next (s.serve (progStopOp (rowValue r 4 2 0 [0, 1])) o r)

/-- PROG_STOP, mode 1 (R522). -/
def execProgStopImmediate (o : Origin) (r : Request) (s : State) : Res :=
  .next (s.serve (progStopOp (rowValue r 4 2 1 [0, 1])) o r)

/-! Withdrawal and status. -/

def progWithdrawOp : OpSpec :=
  { opcode := 0x23, lengthOk := exactly 4, check := fun _ d => progParam d
    act := fun s _ p =>
      let pid := field p.payload 0 2
      match s.prog pid with
      | none => s.refuse NOT_FOUND
      | some q => s.doneIf [need (!q.live) STATE] fun s =>
        { st := { s with
            pg.progs := s.pg.progs.set pid none
            pg.admitted := s.pg.admitted.filter (· != pid) }.postShares.syncProfiles } }

/-- PROG_WITHDRAW (R522). -/
def execProgWithdraw (o : Origin) (r : Request) (s : State) : Res := .next (s.serve progWithdrawOp o r)

def progStatusOp : OpSpec :=
  { opcode := 0x24, lengthOk := exactly 4, check := fun _ d => progParam d
    act := fun s _ p =>
      let pid := field p.payload 0 2
      match s.prog pid with
      | none => s.refuse NOT_FOUND
      | some q =>
        { st := s
          payload := leBytes 1 q.state.code ++ leBytes 1 q.cause ++ leBytes 2 q.segment ++ [0, 0, 0, 0] ++
            shotField q.last ++ leBytes 4 (s.regN (SEQ_PROG_LATE pid)) ++
            leBytes 4 (s.regN (SEQ_PROG_STALL pid)) } }

/-- PROG_STATUS (R522). -/
def execProgStatus (o : Origin) (r : Request) (s : State) : Res := .next (s.serve progStatusOp o r)

end Sys2Proof.Machine
end

