-- ==== Sys2Proof/Machine/EmitOps.lean ====
section
/-!
DEFINITION. Family 0x3 and the emitter chain: FIRE_CONFIG, MATRIX_CONFIG, BUDGET_SET, SHORT_TEST,
CHAIN_WRITE, WIRE_WRITE and their completions, and the over-temperature shutdowns (04 R85 to R114).
-/
namespace Sys2Proof.Machine

/-- A rule on the segments of an image holds in a state for every program that has not been withdrawn (R91, R97, R113). -/
def State.keepsRule (s : State) (rule : State → List Byte → SegTabs → Bool) : Bool :=
  s.present.all fun p => (imAllSegs p.2.image).all fun g =>
    match s.segTabs g with
    | some t => rule s g t
    | none => false

/-! Fire outputs and matrix. -/

def fireConfigOp : OpSpec :=
  { opcode := 0x30, lengthOk := exactly 8
    check := fun _ d => firstFail [need (decide (field d 0 1 ≤ 7)) BAD_PARAM 16,
      need (decide (field d 1 1 ≤ 3)) BAD_PARAM 17, need (decide (40 ≤ field d 6 2)) BAD_PARAM 22]
    act := fun s _ p =>
      let d := p.payload
      let n := field d 0 1
      let s' := (s.setRegN (EMT_FIRE_TIME n) (field d 6 2 * 65536 + field d 4 2)).setFld
        (EMT_FIRE_MODE n) 1 0 (field d 1 1)
      if s.fld (EMT_FIRE_MODE n) 1 0 = field d 1 1 ∨ s'.keepsRule State.groupRule then { st := s' }
      else s.refuse STATE }

/-- FIRE_CONFIG (R113): writes DELAY, W_MAX and GROUP of one fire output. -/
def execFireConfig (o : Origin) (r : Request) (s : State) : Res := .next (s.serve fireConfigOp o r)

def matrixConfigOp : OpSpec :=
  { opcode := 0x31, lengthOk := exactly 12
    check := fun _ d => firstFail [need (within (field d 8 2) 10 2000) BAD_PARAM 24,
      need (within (field d 10 2) 10 2000) BAD_PARAM 26]
    act := fun s _ p =>
      let d := p.payload
      let s' := ((s.setRegN EMT_MATRIX_LINES_A (field d 0 2)).setRegN EMT_MATRIX_LINES_K (field d 4 4)).setRegN
        EMT_MATRIX_CFG (field d 8 2 * 65536 + field d 10 2)
      if s'.keepsRule State.matrixRule then { st := s' } else s.refuse STATE }

/-- MATRIX_CONFIG (R89, R91). -/
def execMatrixConfig (o : Origin) (r : Request) (s : State) : Res := .next (s.serve matrixConfigOp o r)

/-! Budget. -/

/-- Ranges of a group's budget parameters (R95); the offsets are those of the fields. -/
def budgetRanges (rated top refill offRated offOver offRefill : Nat) : Check :=
  firstFail [need (within rated 1 0xFFFFFF) BAD_PARAM offRated,
    need (within top 0x100 0x200) BAD_PARAM offOver, need (within refill 1 rated) BAD_PARAM offRefill]

/-- B is limited to the capacity in force (R95). -/
def State.limitBudget (s : State) (g : Nat) : State :=
  { s with emt.budgets := upd s.emt.budgets g fun (b : Budget) => { b with level := min b.level (s.budgetCap g) } }

def budgetSetOp : OpSpec :=
  { opcode := 0x32, lengthOk := exactly 16
    check := fun _ d => firstFail [need (decide (field d 0 1 ≤ 3)) BAD_PARAM 16,
      budgetRanges (field d 4 4) (field d 8 2) (field d 12 4) 20 24 28]
    act := fun s _ p =>
      let d := p.payload
      let g := field d 0 1
      let s' := ((s.setRegN (EMT_BUDGET_RATED g) (field d 4 4)).setRegN (EMT_BUDGET_OVERDRIVE g) (field d 8 2)).setRegN
        (EMT_BUDGET_REFILL g) (field d 12 4)
      if s'.keepsRule State.drawRule then { st := s'.limitBudget g } else s.refuse STATE }

/-- BUDGET_SET (R95, R97). -/
def execBudgetSet (o : Origin) (r : Request) (s : State) : Res := .next (s.serve budgetSetOp o r)

/-! Neighbour short test. -/

def shortTestOp : OpSpec :=
  { opcode := 0x33, needsReady := true, lengthOk := exactly 4
    act := fun s o p => s.doneIf [need (!s.anyLive) STATE, need s.emt.shortTest.isNone BUSY] fun s =>
      let s := (List.range 6).foldl (fun t i => t.setRegN (EMT_SHORT_GND i) 0) s
      let s := s.unlatch EMT_STATUS 0x200
      { st := { s with emt.shortTest := some (BitVec.ofNat 32 (field p.payload 0 4 % 8), o, p.sequence) }
        status := ACCEPTED } }

/-- SHORT_TEST (R101): the background test begins and its result registers clear. -/
def execShortTest (o : Origin) (r : Request) (s : State) : Res := .next (s.serve shortTestOp o r)

/-- The group bit of a pin index (R99's table). -/
def pinGroup (i : Nat) : Nat := if i < 8 then 0 else if i < 57 then 1 else 2

/-- Whether an index shows GND, OPEN, and NEIGH with its upper neighbour, at V_i and V_j in mV (R101). -/
def pinGnd (i vi : Nat) : Bool := decide (vi < (if i < 8 then 4 else 20))
def pinOpen (i vi : Nat) : Bool := decide ((if i < 8 then 48 else 900) < vi)
def pinNeigh (i vi vj : Nat) : Bool := decide (vi < 2 * vj) && !pinGnd i vi

/-- SHORT_TEST_DONE (R101): every selected index, and every pair of neighbours of which one is selected,
is judged on the voltages measured, and the EVENT of completion carries OK. -/
def execShortTestDone (readings : List (Nat × Nat)) (s : State) : Res :=
  .next (match s.emt.shortTest with
    | none => s
    | some (mask, owner, q) =>
      let sel (i : Nat) : Bool := decide (i < 61) && bit mask.toNat (pinGroup i)
      let v (i : Nat) : Nat × Nat := nth readings i (0, 0)
      let word (f : Nat → Bool) (k : Nat) : Nat := flags ((List.range 32).map fun j => f (32 * k + j))
      let gnd (i : Nat) : Bool := sel i && pinGnd i (v i).1
      let opn (i : Nat) : Bool := sel i && pinOpen i (v i).1
      let nei (i : Nat) : Bool := decide (i < 60) && (sel i || sel (i + 1)) && pinNeigh i (v i).1 (v i).2
      let s := (((((s.setRegN (EMT_SHORT_GND 0) (word gnd 0)).setRegN (EMT_SHORT_GND 1) (word gnd 1)).setRegN
        (EMT_SHORT_NEIGH 0) (word nei 0)).setRegN (EMT_SHORT_NEIGH 1) (word nei 1)).setRegN
        (EMT_SHORT_OPEN 0) (word opn 0)).setRegN (EMT_SHORT_OPEN 1) (word opn 1)
      let s := if (List.range 61).any fun i => gnd i || opn i || nei i then s.latch EMT_STATUS 0x200 else s
      { s with emt.shortTest := none }.complete (owner, q) OK 2)

/-! Emitter chain. -/

def State.boards (s : State) : Nat := s.fld EMT_CHAIN_CFG 5 0
def State.wordBytes (s : State) : Nat := s.fld EMT_CHAIN_CFG 13 8

/-- The lowest board whose status word lacks the 0xA5 marker in its top byte (R104). -/
def State.badBoard (s : State) (readback : List Byte) : Option Nat :=
  (List.range s.boards).find? fun b => nth readback (s.wordBytes * b + s.wordBytes - 1) 0 != 0xA5

/-- A missing marker (R104): no latch follows, the fault is shown and an incident recorded. -/
def State.chainFault (s : State) (board : Nat) : State :=
  let s := s.setRegN EMT_CHAIN_STATUS (0x8000 + (s.regN EMT_CHAIN_STATUS &&& 0x4000) + board)
  (s.report (causeKey 8 3 (0x100 + board)) 2 board false).openEvent 9 2

/-- A chain transfer latched (R105, R114): EMT_CHAIN_STATUS clears, and the fault that it showed has
ended. -/
def State.chainLatched (s : State) : State :=
  let b := s.fld EMT_CHAIN_STATUS 5 0
  let s := if bit (s.regN EMT_CHAIN_STATUS) 15 then s.endCause (causeKey 8 3 (0x100 + b)) else s
  { s.setRegN EMT_CHAIN_STATUS 0 with emt.chainRead := none }

/-- Ticks of an EMD_SCK period (R106). -/
def State.sckTicks (s : State) : Nat := 2 * (s.fld EMT_CHAIN_CFG 31 24 + 1)

/-- Ticks that a chain frame's clocks take (R106). -/
def State.chainTicks (s : State) (d : List Byte) : Nat := 8 * (d.length - 4) * s.sckTicks

def chainWriteOp (sdi : List Byte) : OpSpec :=
  { opcode := 0x34, needsReady := true, lengthOk := between 4 4080, duration := fun s d => s.chainTicks d + s.sckTicks
    check := fun s d => firstFail [need (d.length == 4 + s.boards * s.wordBytes) BAD_LENGTH,
      need (s.boards != 0 && field d 0 1 == s.boards) BAD_PARAM 16]
    act := fun s _ p =>
      { st := { s with emt.chainOut := (p.payload.drop 4).reverse
                       emt.chainRead := some ((slice sdi 0 (s.boards * s.wordBytes)).reverse,
                         s.time + s.chainTicks p.payload) }
        defer := true } }

/-- CHAIN_WRITE (R103 to R105): the frame leaves on EMD_SDO from the word of board BOARDS - 1 on, most significant bit
first, so that its bytes leave in reverse; sdi are the bytes received on EMD_SDI over the same clocks, in the order of
the line. The packet completes with CHAIN_LATCH. -/
def execChainWrite (o : Origin) (r : Request) (sdi : List Byte) (s : State) : Res :=
  .next (s.serve (chainWriteOp sdi) o r)

/-- Time of the first activity of a committed shot on the fire outputs or the matrix, in 25 ps units
(R85, R90). -/
def Shot.firstEdge (x : Shot) : Nat :=
  if beMatrix x.beam then x.fire - 40 * (x.tLine + 5 + x.tPre)
  else x.fire + ((List.range 8).filter fun n => bit (beFire x.beam) n).foldl
    (fun m n => min m (nth x.delays n 0)) 65535

/-! Single-wire configuration. -/

/-- One bit of the CRC-8 of a share: polynomial 0x07, most significant bit first (R108). -/
def crc8Bit (c : Byte) : Byte := if c.getLsbD 7 then (c <<< 1) ^^^ 0x07#8 else c <<< 1

/-- CRC-8 of a share (R108). -/
def crc8 (l : List Byte) : Byte :=
  l.foldl (fun c b => crc8Bit (crc8Bit (crc8Bit (crc8Bit (crc8Bit (crc8Bit (crc8Bit (crc8Bit (c ^^^ b))))))))) 0

/-- A frame parses into exactly a number of shares whose CRCs hold (R108). -/
def okWire : Nat → List Byte → Bool
  | 0, l => l.isEmpty
  | n + 1, l =>
    match l with
    | [] => false
    | len :: t =>
      decide (len.toNat < t.length) && decide (crc8 (len :: t.take len.toNat) = nth t len.toNat 0) &&
        okWire n (t.drop (len.toNat + 1))

/-- The bits of bytes in the order in which a line carries them, each byte most significant bit first (R103, R108). -/
def lineBits (l : List Byte) : List Bool := l.flatMap fun b => (List.range 8).map fun i => b.getLsbD (7 - i)

/-- The level of EMD_1W at a time from the start of a transfer with a bit period (R107, R108): the reset, the bits by
their high time, the end-of-frame level. -/
def wireLevel (period : Nat) (frame : List Byte) (t : Nat) : Bool :=
  if t < 32 * period then false
  else
    let k := (t - 32 * period) / period
    let into := (t - 32 * period) % period
    match (lineBits frame)[k]? with
    | some b => decide (4 * into < (if b then 3 else 1) * period)
    | none => true

/-- The level of EMD_1W (R107, R108): during a transfer that of its coding. -/
def State.oneWire (s : State) : Bool :=
  match s.emt.wireEnd with
  | none => s.emt.wireHigh
  | some end_ =>
    let period := 125 * s.fld EMT_1W_CFG 7 0
    wireLevel period s.emt.wireOut (s.time + (40 + 8 * s.emt.wireOut.length) * period - end_)

/-- Ticks of a single-wire transfer (R108). -/
def State.wireTicks (s : State) (d : List Byte) : Nat :=
  (40 + 8 * (d.length - 4)) * (125 * s.fld EMT_1W_CFG 7 0)

def wireWriteOp : OpSpec :=
  { opcode := 0x35, needsReady := true, lengthOk := between 4 4080, duration := State.wireTicks
    act := fun s _ p => s.doneIf [need (!s.anyLive) STATE,
        need (okWire (field p.payload 0 1) (p.payload.drop 4)) IMAGE_INVALID] fun s =>
      { st := { s with emt.wireOut := p.payload.drop 4, emt.wireHigh := false
                       emt.wireEnd := some (s.time + s.wireTicks p.payload) }
        defer := true } }

/-- WIRE_WRITE (R108): the transfer begins; the packet completes with WIRE_DONE. -/
def execWireWrite (o : Origin) (r : Request) (s : State) : Res := .next (s.serve wireWriteOp o r)

/-- WIRE_DONE (R108): the end-of-frame level has been held for 8 T; the wire idles high. -/
def execWireDone (s : State) : Res :=
  .next (match s.emt.wireEnd with
    | some t => if t ≤ s.time then
        { s with emt.wireEnd := none, emt.wireHigh := true }.finishDeferred OK
      else s
    | none => s)

/-! Over-temperature. -/

/-- Applies a change of a shot wherever the machine holds it. -/
def State.mapShot (s : State) (number : Long) (f : Shot → Shot) : State :=
  let h (x : Shot) : Shot := if x.number = number then f x else x
  let hg (g : GroupCtx) : GroupCtx := { g with first := h g.first, members := g.members.map h }
  let he (x : EngShot) : EngShot := { x with shot := h x.shot }
  let hv (v : EngEvent) : EngEvent := { v with shot := v.shot.map he, group := v.group.map hg }
  { s with
    seq.history := s.seq.history.map h
    seq.efu := s.seq.efu.map h
    hen := s.hen.map fun y =>
      { y with shots := y.shots.map he, groups := y.groups.map hg, closed := y.closed.map (Option.map hg)
               events := y.events.map hv, run := y.run.map fun r => { r with event := hv r.event } }
    wfd.units := s.wfd.units.map fun u => { u with armShot := u.armShot.map h } }

/-- Adds conditions of a shot to the groups that hold it. -/
def State.groupCond (s : State) (number : Long) (c : Word) : State :=
  let hg (g : GroupCtx) : GroupCtx :=
    if g.members.any fun x => x.number == number then { g with cond := g.cond ||| c } else g
  let hv (v : EngEvent) : EngEvent := { v with group := v.group.map hg }
  { s with hen := s.hen.map fun y =>
      { y with groups := y.groups.map hg, closed := y.closed.map (Option.map hg), events := y.events.map hv
               run := y.run.map fun r => { r with event := hv r.event } } }

/-- OT_PIN_SHUTDOWN (R99): EMD_OT_L has been low for 200 ns; emission of every group shuts down, with one
incident. -/
def execOtPinShutdown (s : State) : Res :=
  let s := { s with emt.otLow := true }
  .next (if bit (s.regN EMT_STATUS) 8 then s
    else ((s.latch EMT_STATUS 0x100).report (causeKey 8 1 0xFF) 2 0 false).openEvent 9 2)

/-- Shutdown of a group by its threshold (R99). -/
def State.groupShutdown (s : State) (g : Nat) : State :=
  if bit (s.regN EMT_STATUS) (4 + g) then s
  else ((s.latch EMT_STATUS (2 ^ (4 + g))).report (causeKey 8 2 g) 2 g false).openEvent 9 2

/-- The newest result of a group's input is above THRESHOLD - 5.0 degrees: values in 1/32 degree against
0.1 degree (R99). -/
def State.groupHot (s : State) (g : Nat) : Bool :=
  let n := s.fld (EMT_OT_CFG g) 31 24
  let r := s.hkRes n
  decide (n < 24) && r.valid &&
    decide (32 * (signed 16 (s.fld (EMT_OT_CFG g) 15 0) - 50) < 10 * r.value)

/-- A write of ones to the shutdown bits of EMT_STATUS (R99): a bit clears unless the pin is low or the
group is still hot, and the incident's cause has then ended. The other latched bits written clear (R110). -/
def State.clearOt (s : State) (value : Nat) : State :=
  let s := if bit value 8 && bit (s.regN EMT_STATUS) 8 && !s.emt.otLow then
      (s.unlatch EMT_STATUS 0x100).endCause (causeKey 8 1 0xFF) else s
  let s := s.unlatch EMT_STATUS (value &&& 0x3800)
  (List.range 4).foldl (fun t g =>
    if bit value (4 + g) && bit (t.regN EMT_STATUS) (4 + g) && !t.emt.otLow && !t.groupHot g then
      (t.unlatch EMT_STATUS (2 ^ (4 + g))).endCause (causeKey 8 2 g) else t) s

/-- OT_CLEAR (R99): the host writes ones to EMT_STATUS while the pin is at a level. -/
def execOtClear (value : Word) (pinLow : Bool) (s : State) : Res :=
  .next ({ s with emt.otLow := pinLow }.clearOt value.toNat)

end Sys2Proof.Machine
end

