-- ==== Sys2Proof/Machine/Stamps.lean ====
section
/-!
DEFINITION. From stamps to calibrated times (06 R152 to R155, R162; 14 R363), and the calibration set that
converts a stamp.
-/
namespace Sys2Proof.Machine

/-- The versions of the applied set in force at a tick: the newest whose effective tick is not later (14
R363). -/
def State.appliedAt (s : State) (tick : Nat) : Option Applied :=
  s.thm.applied.find? fun x => decide (x.effect ≤ tick)

/-- Number of the version that shots committed at a tick use; 0 while none is in force. -/
def State.versionAt (s : State) (tick : Nat) : Nat :=
  match s.appliedAt tick with | some x => x.version | none => 0

/-- The bytes of a version; a version no longer kept reads as the oldest one that is. -/
def State.setOf (s : State) (version : Nat) : List Byte :=
  match s.thm.applied.find? fun x => decide (x.version ≤ version) with
  | some x => x.bytes
  | none => match s.thm.applied.getLast? with | some x => x.bytes | none => []

/-- The number that converts stamps outside any shot: by COARSE (14 R363). -/
def State.setAt (s : State) (tick : Nat) : List Byte := s.setOf (s.versionAt tick)

/-- A lane of a TDC: upper or lower. -/
def State.lane (s : State) (t : Nat) (upper : Bool) : Lane :=
  if upper then (s.tdc t).upper else (s.tdc t).lower

/-- A lane converts with its live table: it is CONVERGED, or holds after it was (R155, R161). -/
def Lane.converged (l : Lane) : Bool := l.state == 2 || (l.state == 3 && l.before == 2)

/-- The tap widths and gain that convert a stamp, and whether they are the calibration set's (R154,
R155). -/
def State.tapTable (s : State) (t : Nat) (upper : Bool) (tick : Nat) (cal : List Byte) :
    List Nat × Nat × Bool :=
  let l := s.lane t upper
  let fromCal := ((List.range 32).map fun i => field cal (CAL_TAP t (b2n upper) + 2 * i) 2,
    field cal (CAL_TAP t (b2n upper) + 64) 2, true)
  if l.converged then
    match l.versions.find? fun v => decide (v.effective ≤ tick) with
    | some v => (v.w, v.g, false)
    | none => fromCal
  else fromCal

/-- fine of a tap and a residue (R153). -/
def fineOf (w : List Nat) (g tap res : Nat) : Int :=
  let b : Nat := (w.take tap).foldl (· + ·) 0
  let r : Int := roundDiv (((2 * res + 1) * g : Nat) : Int) 512
  let f16 : Int := (b : Int) + min r ((nth w tap 0 : Nat) : Int)
  roundDiv f16 16

/-- D_route of a channel's lane on the route in force (R153, R164); auxiliary inputs have none. -/
def State.routeDelay (s : State) (cal : List Byte) (chan : Option Nat) (t : Nat) (upper : Bool) : Int :=
  match chan with
  | none => 0
  | some c =>
    let m := if t < 512 then 0 else
      match (List.range 4).find? fun m => 512 + (c / 16 + 8 * m) % 32 == t with | some m => m + 1 | none => 0
    let m := if (s.chan c).tdc = t then (s.chan c).route else m
    fieldInt cal (CAL_DROUTE c m (b2n upper)) 2

/-- The calibrated stamp in fine LSB (R153; on a worker less D_tree, 18 R446), and whether it was converted before
its lane converged. -/
def State.calibrate (s : State) (t : Nat) (upper : Bool) (chan : Option Nat) (tick tap res : Nat)
    (cal : List Byte) : Int × Bool :=
  let x := s.tapTable t upper tick cal
  (2048 * (tick : Int) + fineOf x.1 x.2.1 tap res - fieldInt cal (CAL_DLANE t (b2n upper)) 2 -
    s.routeDelay cal chan t upper - s.treeShift tick, x.2.2)

/-- The TDC that serves auxiliary input i, 0 to 22 (R87, R162, R164). -/
def State.auxTdc (s : State) (i : Nat) : Nat := (nth s.hch.auxSpare i none).getD (544 + i)

/-- The TDC that takes auxiliary input i's stamps of a tick: below a changeover tick it is still the old one (R165). -/
def State.auxTdcAt (s : State) (i tick : Nat) : Nat :=
  match nth s.hch.auxSwap i none with
  | some (t, old) => if tick < t then old else s.auxTdc i
  | none => s.auxTdc i

/-- The coarse tick of a stamp, not wrapped. -/
def State.stampTick (s : State) (x : Stamp) : Nat := nearest 48 s.tim.shot x.tick.toNat

/-- The 59-bit stamp value on unwrapped ticks (R152). -/
def State.stampValue (s : State) (x : Stamp) : Nat := 2048 * s.stampTick x + 64 * x.tap.toNat + x.res.toNat

/-- An auxiliary stamp calibrated by its COARSE, outside any shot. -/
def State.auxTime (s : State) (i : Nat) (x : Stamp) : Int × Bool :=
  let t := s.stampTick x
  s.calibrate (s.auxTdcAt i t) false none t x.tap.toNat x.res.toNat (s.setAt t)

/-! Lanes (R149). -/

/-- Changes a lane of a TDC. -/
def State.setLane (s : State) (t : Nat) (upper : Bool) (f : Lane → Lane) : State :=
  s.setTdc t fun x => if upper then { x with upper := f x.upper } else { x with lower := f x.lower }

/-- An edge in the blind time of a lane: it is lost, and counted once for each blind time, or each time in that of an
injection (R149, R158). -/
def State.blindEdge (s : State) (t : Nat) (upper rising : Bool) : State :=
  let l := s.lane t upper
  let s := if l.injected || !l.lost then s.bump (TDC_BLIND t) else s
  s.setLane t upper fun l => { l with level := rising, lost := l.lost || !l.injected }

/-- A lane is blind to an edge at a stamp value: less than 2 ticks after the edge that it stamped (R149). -/
def State.blindAt (s : State) (t : Nat) (upper : Bool) (value : Nat) : Bool := decide (value < (s.lane t upper).blindUntil)

/-- The next stamp of a lane carries BLIND (R149): an edge was lost before it, or the TDC has just taken over (R165). -/
def State.edgeBlind (s : State) (t : Nat) (upper : Bool) : Bool := (s.lane t upper).lost || (s.tdc t).markBlind

/-- A lane takes an edge, which blinds it for 2 ticks (R149, R158). -/
def Lane.take (l : Lane) (rising : Bool) (value : Nat) : Lane :=
  { l with blindUntil := value + 4096, injected := false, stamped := rising, level := rising, lost := false }

/-- A lane stamps an edge. -/
def State.stampEdge (s : State) (t : Nat) (upper rising : Bool) (value : Nat) : State :=
  (s.setLane t upper fun l => l.take rising value).setTdc t fun x => { x with markBlind := false }

/-- A lane edge that its channel does not stamp still changes the comparator's level, and in the blind time it counts as
an edge that arrived then: the level that the lane finds at the end of the blind time is not the stamped one (R149). -/
def State.laneLevel (s : State) (t : Nat) (upper rising : Bool) (value : Nat) : State :=
  if s.blindAt t upper value then s.blindEdge t upper rising
  else s.setLane t upper fun l => { l with level := rising }

/-- An edge that the matrix drives to the new TDC too before a changeover: its lane sees it and is blind after it, but its
stamp is not taken (R165). -/
def State.shadowEdge (s : State) (t : Nat) (upper rising : Bool) (value : Nat) : State :=
  if s.blindAt t upper value then s.blindEdge t upper rising
  else s.setLane t upper fun l => { l.take rising value with lost := l.lost }

/-- The TDC to which an edge is driven beside the one that takes it, in the 4 ticks before a changeover (R165). -/
def shadowTdc (swap : Option (Nat × Nat)) (new tick : Nat) : Option Nat :=
  match swap with
  | some (t, _) => if t ≤ tick + 4 ∧ tick < t then some new else none
  | none => none

/-- The watermark of a TDC: every stamp below it has been enqueued (01 R28, R150). -/
def State.watermark (s : State) (t : Nat) : Nat :=
  let x := s.tdc t
  (x.lower.buffer ++ x.upper.buffer).foldl (fun m h => min m h.tick) s.tim.shot

/-- A time that may not be below zero, as an unwrapped count. -/
def clip0 (t : Int) : Nat := t.toNat

end Sys2Proof.Machine
end

