-- ==== Sys2Proof/Machine/Capture.lean ====
section
/-!
DEFINITION. Capture units: their lanes, sample times, arming and disarming (09 R224, R225, R235 to R238).
-/
namespace Sys2Proof.Machine

/-- Changes a capture unit. -/
def State.setCap (s : State) (u : Nat) (f : CapUnit → CapUnit) : State :=
  { s with wfd.units := upd s.wfd.units u f }

/-- The lane to which a unit is bound (R252). -/
def State.capLane (s : State) (u : Nat) : Nat := s.fld (WFD_CAP_CFG u) 19 16

/-- Averaging exponent of a unit. -/
def State.capAvg (s : State) (u : Nat) : Nat := s.fld (WFD_CAP_CFG u) 31 28

/-- PRE and POST of a unit. -/
def State.capPre (s : State) (u : Nat) : Nat := s.fld (WFD_CAP_PRE u) 15 0
def State.capPost (s : State) (u : Nat) : Nat := s.regN (WFD_CAP_POST u)

/-- The input that a lane carries, if it is used and exists in the mode (R225). -/
def State.laneInput (s : State) (l : Nat) : Option Nat :=
  let i := (nth s.wfd.laneIn l 0xFF).toNat
  if l < 2 ^ s.wfd.mode ∧ i < 16 then some i else none

/-- The lane that carries an input. -/
def State.inputLane (s : State) (i : Nat) : Option Nat :=
  (List.range 16).find? fun l => s.laneInput l == some i

/-- D_in of a lane's input (R224). -/
def State.laneDelay (s : State) (l : Nat) : Int :=
  match s.laneInput l with | some i => nth s.wfd.din i 0 | none => 0

/-- A lane's sample period in fine LSB (R225). -/
def State.lanePeriod (s : State) : Nat := 320 * 2 ^ s.wfd.mode

/-- Time of sample k of a lane (R224, R225; 18 R446). -/
def State.sampleTime (s : State) (l : Nat) (k : Int) : Int :=
  k * s.lanePeriod + 320 * l + s.laneDelay l - s.treeShift (k * s.lanePeriod / 2048).toNat

/-- The first sample of a lane at or after a time. -/
def State.sampleFrom (s : State) (l : Nat) (t : Int) : Int :=
  -((320 * (l : Int) + s.laneDelay l - s.ownTime t) / (s.lanePeriod : Int))

/-- Base of a unit's capture area in window 0x02. -/
def State.areaBase (s : State) (u : Nat) : Nat :=
  (s.regN (WFD_CAP_AREA_LO u) + 2 ^ 32 * s.regN (WFD_CAP_AREA_HI u)) / 4096 * 4096

/-- In single-channel mode, the unit's area lies below the end of window 0x02 (15 R383). -/
def State.areaFits (s : State) (u : Nat) : Bool :=
  s.mem.fallback.isNone || decide (s.areaBase u + s.regN (WFD_CAP_AREA_SIZE u) ≤ s.dramSize)

/-- The conditions under which a unit can be armed (R236, R244). -/
def State.armable (s : State) (u : Nat) : Bool :=
  (s.laneInput (s.capLane u)).isSome && s.regN (WFD_CAP_AREA_SIZE u) != 0 &&
  decide (s.captureSize u ≤ s.regN (WFD_CAP_AREA_SIZE u)) && s.areaFits u &&
  (s.capAvg u == 0 || (decide (s.capPre u + s.capPost u ≤ 16384) && decide (s.capPre u ≤ 28672)))

/-- The unit enters ARMED at the first lane sample at or after an instant (R236). Triggers taken before it that lie at or
after that sample stay candidates, but for those of an earlier arming shot. -/
def State.arm (s : State) (u : Nat) (at_ : Int) (shot : Option Shot) : State :=
  let l := s.capLane u
  let t := s.sampleTime l (s.sampleFrom l at_)
  s.setCap u fun x =>
    { x with st := .armed, armedAt := t, armShot := shot, cands := x.cands.filter fun y => decide (t ≤ y.2) && y.1 != 3 && y.1 != 4
             disarm := false, holdTo := 0 }

/-- Discards the partial sum of an averaging sequence, also that of an interval in POST; the sequence starts again, or is
over (R236, R244). -/
def State.dropSums (s : State) (u : Nat) (ended : Bool := false) : State :=
  if ¬ (s.capUnit u).seq then s
  else
    let s := (s.latch (WFD_CAP_STAT u) 0x40).latch WFD_STATUS 0x1
    s.setCap u fun x =>
      { x with avgCount := 0, sums := [], avgMarks := [], avgPre := 0, avgShort := false
               avgFirst := none, restarted := true, seq := !ended, void := x.st == .post }

/-- A trigger missed while its unit was in POST, REARM or HELD, or between intervals (R242). The time kept is that of the
earliest one. -/
def State.missTrigger (s : State) (u : Nat) (t : Int) : State :=
  let kept := signed 64 (s.regN (WFD_CAP_MISS_T u) + 2 ^ 32 * s.regN (WFD_CAP_MISS_T u + 4))
  let first := (s.capUnit u).missed == 0 || decide (t < kept)
  let s := ((s.bump (WFD_CAP_MISSED u)).latch (WFD_CAP_STAT u) 0x10).latch WFD_STATUS 0x8
  let s := if first then
      (s.setRegN (WFD_CAP_MISS_T u) (enc 64 t % 2 ^ 32)).setRegN (WFD_CAP_MISS_T u + 4) (enc 64 t / 2 ^ 32)
    else s
  s.setCap u fun x => { x with missed := min 0xFFFF (x.missed + 1) }

/-- The triggers that a unit kept from before a time are missed (R242). -/
def State.missKept (s : State) (u : Nat) (t : Int) : State :=
  ((s.capUnit u).cands.filter fun x => decide (x.2 < t)).foldl (fun v x => v.missTrigger u x.2) s

/-- DISARM of a unit (R236): ARMED and HELD go to IDLE at once, POST and REARM when the capture is
closed, and an incomplete averaging sequence is discarded. What a HELD unit kept from its time in HELD was missed (R242). -/
def State.disarm (s : State) (u : Nat) : State :=
  let idle (t : State) : State := (t.dropSums u true).setCap u fun x => { x with st := .idle, armShot := none, cands := [] }
  match (s.capUnit u).st with
  | .idle => s
  | .armed => idle s
  | .held => idle (s.missKept u s.fineNow)
  | .post | .rearm => (s.dropSums u true).setCap u fun x => { x with disarm := true }

/-- The fire time of a unit's arming shot becomes known behind its trigger sample: a missed trigger (R239, R242). -/
def State.fireMissed (s : State) (number : Long) (t : Int) : State :=
  (List.range 16).foldl (fun v u =>
    let c := v.capUnit u
    if (c.st == .post || c.st == .rearm || c.st == .held) && bit (v.fld (WFD_CAP_SRC u) 6 0) 4 &&
        (match c.armShot with | some x => x.number == number | none => false) then v.missTrigger u t else v) s

/-- A trigger of a source at a time (R239, R241, R242): a candidate while the unit is ARMED, if it is not
earlier than ARMED; missed while a capture is under way; ignored while IDLE. -/
def State.trigger (s : State) (u source : Nat) (t : Int) : State :=
  if ¬ bit (s.fld (WFD_CAP_SRC u) 6 0) source then s
  else match (s.capUnit u).st with
    | .idle => s
    | .armed =>
      if t < (s.capUnit u).armedAt then s
      else s.setCap u fun x => { x with cands := x.cands ++ [(source, t)] }
    | _ => s.missTrigger u t

/-- A trigger for every unit that a condition selects. -/
def State.triggerAll (s : State) (source : Nat) (sel : Nat → Bool) (t : Int) : State :=
  (List.range 16).foldl (fun s u => if sel u then s.trigger u source t else s) s

/-- A committed shot with WF_ARM arms the IDLE units of its beam's WF_MASK; a unit that cannot be armed
leaves an incident (R236; 17 R523). -/
def State.shotArms (s : State) (x : Shot) : State :=
  if ¬ bit x.flags.toNat 2 then s else
  (List.range 16).foldl (fun t u =>
    if bit (beWf x.beam) u && (t.capUnit u).st == .idle then
      if t.armable u then t.arm u t.fineNow (some x)
      else t.report (causeKey 4 3 (0x100 + u)) 7 u true
    else t) s

end Sys2Proof.Machine
end

