-- ==== Sys2Proof/Machine/Shots.lean ====
section
/-!
DEFINITION. The shot sequencer and the firing unit: planning and commitment of shots, budget and pulse
widths, delivery to the engines, fire edges and fire stamps, waits and start instants (01 R19; 03 R66 to
R83; 04 R84 to R99; 07 R184 to R191; 18 R450).
-/
namespace Sys2Proof.Machine

/-! Dither and patterns (R73). -/

/-- One step of the Galois register with mask 0xB400. -/
def lfsrStep (x : Half) : Half := if x.getLsbD 0 then (x >>> 1) ^^^ 0xB400#16 else x >>> 1

/-- Steps until the low 8 bits do not exceed DITHER_MAX: the register and the dither. -/
def lfsrNext (max : Nat) : Nat → Half → Half × Nat
  | 0, x => (x, 0)
  | fuel + 1, x =>
    let y := lfsrStep x
    let d := y.toNat % 256
    if d ≤ max then (y, d) else lfsrNext max fuel y

/-- The source of a code set in a program; it starts afresh at PROG_START. Where the code set in use is replaced under R79,
its position, register and rotation carry over to the new set (DESIGN CHOICE, notes/assumptions). -/
def Prog.source (q : Prog) (code : Nat) (cs : List Byte) : CodeSource :=
  match q.sources.find? fun x => x.code.toNat == code with
  | some x => x
  | none => { code := BitVec.ofNat 16 code, pos := 0, lfsr := BitVec.ofNat 16 (csSeed cs), rotation := 0 }

/-- The dither of a shot and the source after it. -/
def ditherStep (x : CodeSource) (cs e : List Byte) : Nat × CodeSource :=
  if seNoDither e then (0, x)
  else match csMode cs with
    | 1 => (csDither cs (x.pos % csDitherCount cs), { x with pos := (x.pos + 1) % csDitherCount cs })
    | 2 =>
      let y := lfsrNext (csDitherMax cs) 65535 x.lfsr
      (y.2, { x with lfsr := y.1 })
    | _ => (0, x)

/-- The pattern index of a shot, its pattern and the source after it; a single pulse has none (R72, R191 of
07). -/
def patternStep (x : CodeSource) (cs e : List Byte) : Nat × List Byte × CodeSource :=
  let n := csPatterns cs
  if n = 0 then (0, [], x)
  else if sePattern e = 0xFF then
    (x.rotation % n, csPattern cs (x.rotation % n), { x with rotation := (x.rotation + 1) % n })
  else (sePattern e, csPattern cs (sePattern e), x)

/-! Planning (R69, R79). -/

/-- The version of a table with which the pass in progress began. -/
def Prog.passTab (q : Prog) (kind id : Nat) : List Byte :=
  match q.passTabs.find? fun t => t.kind.toNat == kind && t.id.toNat == id with
  | some t => t.data
  | none => []

/-- The next shot of a program as it is planned. -/
structure Plan where
  pid     : Nat
  entry   : List Byte
  /-- Nominal and planned fire time. -/
  nominal : Nat
  fire    : Nat
  dither  : Nat
  pattern : Nat × List Byte
  source  : Option CodeSource

/-- An interval under the throttle step in force (R69; 14 R353). -/
def State.throttled (s : State) (interval : Nat) : Nat :=
  stretched (if s.thm.step = 0 then 0x100 else s.stepFactor s.thm.step) interval

/-- The plan of a program's next entry. -/
def State.plan (s : State) (pid : Nat) (q : Prog) : Plan :=
  let g := imSeg q.image q.segment
  let e := slice (q.passTab 1 (sgShot g)) (16 * (sgFirst g + q.entry)) 16
  let n := q.nominal + s.throttled (seInterval e)
  if sgCoded g then
    let cs := q.passTab 5 (sgCode g)
    let d := ditherStep (q.source (sgCode g) cs) cs e
    let p := patternStep d.2 cs e
    { pid := pid, entry := e, nominal := n, fire := n + 32 * d.1, dither := d.1, pattern := (p.1, p.2.1)
      source := some p.2.2 }
  else
    { pid := pid, entry := e, nominal := n, fire := n, dither := 0, pattern := (0, []), source := none }

/-- A program has an entry to issue: it runs or stops, and no wait holds its pass. -/
def Prog.issues (q : Prog) : Bool :=
  (q.state == .running || q.state == .stopping) && q.released &&
    decide (q.entry < sgCount (imSeg q.image q.segment))

/-- A worker's announced shots are committed by their announcements (18 R451). -/
def State.announced (s : State) (e : List Byte) : Bool := s.role == 2 && seSync e

/-- How long before its fire time a shot with this beam begins its matrix sequence; 0 without the matrix (04 R90). -/
def State.matrixLead (s : State) (b : List Byte) : Nat :=
  if beMatrix b then 40 * (s.fld EMT_MATRIX_CFG 31 16 + s.fld EMT_MATRIX_CFG 15 0 + 5) else 0

/-- The beam of a planned shot. -/
def State.planBeam (s : State) (p : Plan) : List Byte :=
  match s.prog p.pid with
  | some q => slice (q.passTab 2 (sgBeam (imSeg q.image q.segment))) (32 * seBeam p.entry) 32
  | none => []

/-- The commitment leads: 64 ticks, the whole sequence of a matrix shot, and 5,000 ticks for a shot that the manager
announces (01 R19, 04 R90, 18 R450). No shot is committed before the horizon of all programs, so that the order of
commitment is that of the planned fire times (R75). -/
def State.leadOk (s : State) (p : Plan) : Bool :=
  decide (s.unitNow + max (s.matrixLead (s.planBeam p)) (32 * (if s.role == 1 && seSync p.entry then 5000 else 64)) ≤ p.fire) &&
    decide (p.fire ≤ s.unitNow + s.horizon)

/-- The shot that is committed next: the earliest planned fire time, the lower program ID first (R75). -/
def State.nextPlan (s : State) : Option Plan :=
  ((s.present.filter fun p => p.2.issues).map fun p => s.plan p.1 p.2).foldl (fun b p =>
    if s.announced p.entry || !s.leadOk p then b
    else match b with
      | none => some p
      | some x => if p.fire < x.fire then some p else b) none

/-! Budget (04 R95, R96). -/

/-- What a rate in Eu per ms adds in a time of 25 ps units, in 2^-16 Eu. -/
def refillOf (rate dt : Nat) : Nat := (roundDiv ((rate * dt * 65536 : Nat) : Int) 40000000).toNat

/-- n idle updates of 10 us (R96): the budget gains at the rate of its state, and the clipped state ends
at the capacity. -/
def State.idleSteps (s : State) (g n : Nat) (b : Budget) : Budget :=
  let c := s.budgetCap g
  let rate := if b.clipped then s.fld (EMT_BUDGET_REFILL g) 23 0 else s.fld (EMT_BUDGET_RATED g) 23 0
  if n = 0 then b
  else
    let l := min c (b.level + n * refillOf rate 400000)
    { level := l, clipped := b.clipped && l != c, updated := b.updated + 400000 * n }

/-- The idle updates that fall due before a time. -/
def State.idleBefore (s : State) (g t : Nat) (b : Budget) : Budget :=
  s.idleSteps g ((t - b.updated - 1) / 400000) b

/-- A shot's update (R96): the budget after it, the energy, whether the peak cap acted and whether the shot
is energy-clipped, and the draw, which is charged at once where the shot is to have an edge. -/
def State.shotBudget (s : State) (g request fire : Nat) (charged : Bool) (b : Budget) :
    Budget × Nat × Bool × Bool × Nat :=
  let b := s.idleBefore g fire b
  let c := s.budgetCap g
  let cap := s.fld (EMT_BUDGET_OVERDRIVE g) 15 0 * 128 / 256
  let req := min request cap
  let capped := decide (cap < request)
  let dt := fire - b.updated
  if b.clipped then
    let l := min c (b.level + refillOf (s.fld (EMT_BUDGET_REFILL g) 23 0) dt)
    ({ level := l, clipped := l != c, updated := fire }, min req 128, capped, capped || decide (128 < req), 0)
  else
    let l := min c (b.level + refillOf (s.fld (EMT_BUDGET_RATED g) 23 0) dt)
    let draw := if charged then req * 65536 else 0
    if l < draw then
      ({ level := l, clipped := true, updated := fire }, min req 128, capped, capped || decide (128 < req), 0)
    else ({ level := l - draw, clipped := false, updated := fire }, req, capped, capped, req * 65536)

/-- The budget settles with a shot when it is known whether it has an edge (R96): a shot that was committed under a
shutdown and has an edge all the same is charged then, and one that was charged and has none gets its charge back (DESIGN
CHOICE, notes/assumptions). -/
def State.settle (s : State) (x : Shot) (edge : Bool) : State :=
  let g := beGroup x.beam
  if edge ∧ x.owed ≠ 0 then
    { s with emt.budgets := upd s.emt.budgets g fun (b : Budget) =>
        if b.clipped then b
        else if b.level < x.owed then { b with clipped := true }
        else { b with level := b.level - x.owed } }
  else if ¬ edge ∧ x.drawn ≠ 0 then
    { s with emt.budgets := upd s.emt.budgets g fun (b : Budget) =>
        { b with level := min (s.budgetCap g) (b.level + x.drawn) } }
  else s

/-- BUDGET_IDLE_UPDATE (R96): 10 us have passed since the group's last update. -/
def execBudgetIdleUpdate (g : Fin 4) (s : State) : Res :=
  .next (if (s.budget g).updated + 400000 ≤ s.unitNow then
      { s with emt.budgets := upd s.emt.budgets g fun (b : Budget) => s.idleSteps g 1 b }
    else s)

/-! Pulse widths (04 R92 to R94). -/

/-- The temperature of a compensation table's source in 0.1 degree, and whether it is a held value. A source
that has neither a result nor a held value leaves the temperature open: a free value (notes/assumptions). -/
def State.compTemp (s : State) (src : Nat) : (Rat × Bool) × State :=
  let c := if src = 0xFF then 0x22 else src
  let r := s.hkRes c
  let deg (v : Int) : Rat := (v : Rat) * 10 / 32
  if r.valid && !r.open_ && !s.hkStale c then ((deg r.value, false), s)
  else match r.held with
    | some v => ((deg v, true), s)
    | none =>
      let x := s.draw 7
      ((deg (signed 16 x.1), true), x.2)

/-- W0 and WR at a temperature, and whether it lies outside the points (R94). -/
def compWidths (d : List Byte) (t : Rat) : Rat × Rat × Bool :=
  let pts := (List.range (field d 1 1)).map (compPoint d)
  match pts.filter (fun p => decide ((p.1 : Rat) ≤ t)) |>.getLast?, pts.find? (fun p => decide (t < (p.1 : Rat))) with
  | some a, some b =>
    let k := (t - (a.1 : Rat)) / ((b.1 - a.1 : Int) : Rat)
    ((a.2.1 : Rat) + ((b.2.1 : Rat) - (a.2.1 : Rat)) * k, (a.2.2 : Rat) + ((b.2.2 : Rat) - (a.2.2 : Rat)) * k, false)
  | some a, none => ((a.2.1 : Rat), (a.2.2 : Rat), decide ((a.1 : Rat) < t))
  | none, some b => ((b.2.1 : Rat), (b.2.2 : Rat), true)
  | none, none => (0, 0, true)

/-- The fire outputs of a beam. -/
def outputs (b : List Byte) : List Nat := (List.range 8).filter fun n => bit (beFire b) n

/-- W_MAX of a beam: the smallest of its outputs', or the matrix's (R94). -/
def State.widthMax (s : State) (b : List Byte) : Nat :=
  if beMatrix b then s.fld EMT_MATRIX_WMAX 15 0
  else ((outputs b).map fun n => s.fld (EMT_FIRE_TIME n) 31 16).foldl min 65535

/-- The shares of a shot's energy by pulse: the numerators over their sum. -/
def pulseShares (pattern : List Byte) : List Nat × Nat :=
  if paPulses pattern ≤ 1 then ([1], 1)
  else
    let w := (List.range (paPulses pattern)).map fun i => paWeight pattern (i + 1)
    (w, w.foldl (· + ·) 0)

/-- The widths of a shot's pulses, whether the cap acted, and the conditions that EMT_STATUS latches
(R92, R94). -/
def State.pulseWidths (s : State) (b pattern : List Byte) (energy : Nat) (cal : List Byte) :
    (List Nat × Bool) × State :=
  let g := beGroup b
  let wmax := s.widthMax b
  let gain : Rat := (field cal (CAL_GCAL g) 2 : Rat) / 16384
  let sh := pulseShares pattern
  let q (i : Nat) : Rat := (energy : Rat) / 128 * ((nth sh.1 i 0 : Nat) : Rat) / ((max 1 sh.2 : Nat) : Rat)
  let sel := s.fld (EMT_COMP_SEL g) 15 0
  let x : (Rat × Rat) × State := match s.tableData 6 sel with
    | some d =>
      let t := s.compTemp (field d 2 1)
      let w := compWidths d t.1.1
      ((w.1, w.2.1), t.2.latch EMT_STATUS ((if w.2.2 then 0x1000 else 0) + if t.1.2 then 0x2000 else 0))
    | none => ((0, (wmax : Rat)), s)
  let raw (i : Nat) : Int := (x.1.1 + (x.1.2 - x.1.1) * gain * q i + 1 / 2).floor
  let ws := (List.range sh.1.length).map raw
  let cap := ws.any fun w => decide ((wmax : Int) < w)
  ((ws.map fun w => min (max w.toNat 40) (max wmax 40), cap),
    if cap then x.2.latch EMT_STATUS 0x800 else x.2)

/-! Delivery to the engines (01 R19; 03 R83; 07 R186, R191). -/

/-- A group's context as it opens. -/
def GroupCtx.fresh (index slot : Nat) (x : Shot) : GroupCtx :=
  { index := index, first := x, slot := slot, shots := 0, begun := false, ended := false
    outside := List.replicate 8 0, exposure := List.replicate 8 0, inside := List.replicate 8 0
    pairs := List.replicate 8 0, sat := 0, cond := 0, chCond := List.replicate 8 0, warm := true
    members := [], abort := false, lost := false }

/-- A shot joins its group: the open group of its program and beam set, or a new one (R83). -/
def Engine.joinGroup (y : Engine) (x : Shot) (slot : Nat) : Engine × Nat :=
  let open_ (g : GroupCtx) : Bool := g.first.pid == x.pid && g.first.beamSet == x.beamSet && !g.ended
  let y := if y.groups.any open_ then y
    else { y with groups := y.groups ++ [.fresh y.nextGroup slot x], nextGroup := y.nextGroup + 1 }
  let index := match y.groups.find? open_ with | some g => g.index | none => 0
  ({ y with groups := y.groups.map fun g =>
      if open_ g then
        { g with shots := g.shots + 1, members := g.members ++ [x], ended := bit x.flags.toNat 1
                 cond := g.cond ||| (x.cond &&& ~~~0x8#32), warm := g.warm && bit x.cond.toNat 3 }
      else g }, index)

/-- An engine takes a descriptor: its place in SHOTS is written and the shot is pending. -/
def Engine.take (y : Engine) (x : Shot) (offset : Nat) : Engine :=
  let slot := ((List.range 8).find? fun i => nth y.profiles i none == some (x.profile, offset)).getD 0
  let j := y.joinGroup x slot
  let e : EngShot :=
    { shot := x, opened := false, slotOvf := false, closed := false, ring := y.ring, group := j.2, slot := slot
      pairs := List.replicate 8 0, kept := List.replicate 8 [], cond := List.replicate 8 0 }
  { j.1 with shots := j.1.shots ++ [e], passes := x :: j.1.passes, ring := (y.ring + 1) % 1024
             mem := Sparse.setMany zeroByte j.1.mem (E_SHOTS + 16 * y.ring) (x.descriptor slot) }

/-- A descriptor reaches an engine. A failed one takes none: they wait in XC02 and the shot history (17 R422). -/
def Engine.receive (y : Engine) (x : Shot) (offset : Nat) : Engine :=
  if y.st = .failed then { y with xc02 := (y.xc02 ++ [(x, offset)]).drop (y.xc02.length - 4095) }
  else y.take x offset

/-- The engines that serve a beam's receive groups. -/
def State.enginesOf (s : State) (rx : Nat) : List Nat :=
  (((List.range 64).filter fun g => bit rx g).map s.groupEngine).eraseDups

/-- Delivers a descriptor to every engine that serves the shot's beam. -/
def State.deliver (s : State) (x : Shot) (offset : Nat) : State :=
  (s.enginesOf (beRx x.beam)).foldl (fun t e => t.setEng e fun y => y.receive x offset) s

/-! Commitment (R19, R75). -/

/-- The index of the fire lead of a beam: its lowest output, or the matrix (14 R358). -/
def leadIndex (b : List Byte) : Nat := if beMatrix b then 8 else (outputs b).headD 0

/-- DELAY of a shot's lowest output; the matrix has none. -/
def Shot.delay (x : Shot) : Nat := if beMatrix x.beam then 0 else nth x.delays (leadIndex x.beam) 0

/-- t_fire without a stamp (R88): planned fire time, DELAY and fire lead, in fine LSB; a calibrated time (18 R446). -/
def State.plannedStamp (s : State) (x : Shot) : Int :=
  64 * ((x.fire + x.delay : Nat) : Int) + fieldInt (s.setOf x.calVer) (CAL_LEAD (leadIndex x.beam)) 4 -
    s.treeShift (x.fire / 32)

/-- The shot of a plan, before its energy. -/
def State.shotOf (s : State) (q : Prog) (p : Plan) (number : Long) : Shot :=
  let g := imSeg q.image q.segment
  let e := p.entry
  let b := slice (q.passTab 2 (sgBeam g)) (32 * seBeam e) 32
  let w := sePassSel e
  let pass := q.passTab 3 (sgPass g)
  let n := leadIndex b
  let cs := if sgCoded g then q.passTab 5 (sgCode g) else []
  { number := number, pid := p.pid, fire := p.fire, dither := p.dither, beam := b, beamIdx := seBeam e
    beamSet := sgBeam g, passSel := w, flags := BitVec.ofNat 16 (seFlags e), tag := BitVec.ofNat 16 (seTag e)
    patternIdx := p.pattern.1, pattern := p.pattern.2, burstK := csBurstK cs, burstTol := csBurstTol cs
    coded := sgCoded g, start := pwStart pass w, bins := pwLength pass w, binExp := pwExp pass w
    adj := pwAdjs pass, profile := BitVec.ofNat 16 (sgProfile g), energy := 0, widths := [], drawn := 0, owed := 0, gen := s.gen
    cond := BitVec.ofNat 32 (8 * b2n s.tim.warm + 16 * b2n (seDark e) + 256 * b2n q.waitLate +
      512 * b2n q.waitTmo)
    tFire := none, tFlags := 0, delays := (List.range 8).map fun n => s.fld (EMT_FIRE_TIME n) 15 0
    tPre := s.fld EMT_MATRIX_CFG 31 16, tLine := s.fld EMT_MATRIX_CFG 15 0
    stampSrc := if beMatrix b then 0 else s.fld (EMT_FIRE_MODE n) 19 16
    stampWin := s.fld (EMT_FIRE_MODE n) 31 24, ng := imNg q.image, edgeDone := false, angle := none
    calVer := s.versionAt s.tim.shot, commit := s.tim.shot, rcv := s.regs.filter fun r => r.1 / 0x10000 == 4
    walks := s.pg.tables.filter fun t => t.kind == 7 }

/-- Emission of a group stands still: an over-temperature or a thermal shutdown (R99; 14 R355). -/
def State.noEmission (s : State) (g : Nat) : Bool := s.emitOff g || s.thm.shutdown

/-- Fixes a shot's energy and widths and charges its group's budget (R92, R94, R96). -/
def State.energise (s : State) (x : Shot) (request : Nat) : Shot × State :=
  let g := beGroup x.beam
  let dark := bit x.flags.toNat 0
  let r := s.shotBudget g (if dark then 0 else request) x.fire (!s.noEmission g) (s.budget g)
  let s := { s with emt.budgets := upd s.emt.budgets g fun _ => r.1 }
  let s := if r.2.2.1 then s.latch EMT_CLIPPED (2 ^ (4 + g)) else s
  if dark then (x, s)
  else
    let w := s.pulseWidths x.beam x.pattern r.2.1 (s.setOf x.calVer)
    let off := s.noEmission g
    ({ x with energy := r.2.1, widths := w.1.1
              drawn := if off then 0 else r.2.2.2.2, owed := if off then r.2.2.2.2 else 0
              cond := x.cond ||| BitVec.ofNat 32 (128 * b2n (r.2.2.2.1 || w.1.2)) }, w.2)

/-- Moves a program past the entry that it has issued (R66, R69). -/
def State.advance (s : State) (q : Prog) (p : Plan) (number : Long) : State :=
  let s := s.setProg p.pid fun y =>
    { y with nominal := p.nominal, fired := true, last := some number, entry := y.entry + 1, waitLate := false
             waitTmo := false
             sources := match p.source with
               | some c => c :: y.sources.filter fun z => z.code != c.code
               | none => y.sources }
  if sgCount (imSeg q.image q.segment) ≤ q.entry + 1 then s.endPass p.pid else s

/-- Commits a shot under a number: energy, history, programs, engines, firing queue, capture units. -/
def State.commitShot (s : State) (q : Prog) (p : Plan) (number : Long) : State :=
  let x := s.shotOf q p number
  let x := if bit x.flags.toNat 0 then { x with tFire := some (s.plannedStamp x) } else x
  let r := s.energise x (seEnergy p.entry)
  let x := r.1
  let s := r.2
  let offset := match q.passTabs.find? fun t => t.kind.toNat == 4 with | some t => t.offset | none => 0
  let s := { s with
    seq.history := (x :: s.seq.history).take 4096
    seq.efu := s.seq.efu ++ [x] }
  let s := (s.bump SEQ_HIST_HEAD).bump (SEQ_PROG_SHOTS p.pid)
  (((s.deliver x offset).advance q p number).shotArms x)

/-- Takes the next number of the shot counter (R75). -/
def State.takeNumber (s : State) : Long × State :=
  let n := s.seq.next
  let s := { s with seq.next := n + 1 }
  (n, if n = 0xFFFFFFFFFFFF then (s.latch SEQ_STATUS 0x10).noteWrap 1 0 SEQ_NEXT_LO 48 else s)

/-- The manager announces a shot (18 R450): SYNC_SHOT, after SYNC_FULL for the program's first such shot and
where the numbers differ by 2^15 or more. -/
def State.announce (s : State) (pid : Nat) (number : Long) (fire : Nat) : State :=
  let full := match nth s.ifl.lastSync pid none with
    | none => true
    | some m => decide (2 ^ 15 ≤ (number - m).toNat)
  let s := if full then s.sendBlock 0x50 number.toNat else s
  let s := s.sendBlock 0x51 (pid % 64 * 2 ^ 42 + number.toNat % 65536 * 2 ^ 26 + fire % 2 ^ 26)
  { s with ifl.lastSync := s.ifl.lastSync.set pid (some number) }

/-- SHOT_COMMIT (01 R19): the next planned shot is committed; nothing is committed while none is planned,
after a loss of both clocks, or under a thermal shutdown. -/
def execShotCommit (s : State) : Res :=
  .next (if s.seq.clockHold || s.thm.shutdown then s
    else match s.nextPlan with
      | none => s
      | some p =>
        match s.prog p.pid with
        | none => s
        | some q =>
          let n := s.takeNumber
          let t := n.2.commitShot q p n.1
          if s.role == 1 && seSync p.entry then t.announce p.pid n.1 p.fire else t)

/-! Start instants and waits (R69, R77, R78). -/

/-- PROGRAM_START_INSTANT (R69): an ARMED program of mode 1 reaches its start time. -/
def execProgramStartInstant (pid : Fin 64) (s : State) : Res :=
  .next (match s.prog pid with
    | some q =>
      if q.state = .armed ∧ q.startMode = 1 ∧ q.startTick ≤ s.tim.shot then s.runProg pid (32 * q.startTick)
      else s
    | none => s)

/-- The release instant of the wait that a program holds, in 25 ps units rounded up, and whether it had
passed when the wait began; none while it is not known (R69, R77). -/
def Prog.releaseAt (q : Prog) (ref : Nat) : Option (Nat × Bool) :=
  let g := imSeg q.image q.segment
  if sgWaitKind g = 2 then some (timeRelease q ref)
  else q.waitHit.map fun t => (ceilDiv t 64, false)

/-- The expiry instant of a wait with a timeout (R78). -/
def Prog.expiry (q : Prog) : Option Nat :=
  let t := sgWaitTmo (imSeg q.image q.segment)
  if t = 0 then none else some (q.waitFrom + 40000000 * t)

/-- Releases a wait at an instant; the pass begins, and its first announcement is preceded by a full one. -/
def State.releaseWait (s : State) (pid at_ : Nat) (late tmo : Bool) : State :=
  let s := { s with ifl.lastSync := s.ifl.lastSync.set pid none }
  (s.setProg pid fun q => { q with nominal := at_, waitLate := late, waitTmo := tmo }).beginPass pid

/-- WAIT_RELEASED (R77): the release instant has come, and the wait has not expired before it. -/
def execWaitReleased (pid : Fin 64) (s : State) : Res :=
  .next (match s.prog pid with
    | some q =>
      if q.state = .waiting then
        match q.releaseAt s.tim.shot with
        | some (t, late) =>
          let inTime : Bool := match q.expiry with | some x => decide (t ≤ x) | none => true
          if t ≤ s.unitNow ∧ inTime then s.releaseWait pid t late false else s
        | none => s
      else s
    | none => s)

/-- WAIT_TIMEOUT (R78): the wait releases at its expiry, or the program is suspended. -/
def execWaitTimeout (pid : Fin 64) (s : State) : Res :=
  .next (match s.prog pid with
    | some q =>
      match q.expiry with
      | some x =>
        let released : Bool := match q.releaseAt s.tim.shot with | some (t, _) => decide (t ≤ x) | none => false
        if q.state = .waiting ∧ x ≤ s.unitNow ∧ ¬ released then
          let s := s.latch SEQ_STATUS 0x4
          if sgWaitOnTmo (imSeg q.image q.segment) then s.releaseWait pid x false true else s.suspend pid 1
        else s
      | none => s
    | none => s)

/-! Fire edges and fire stamps (04 R84 to R90). -/

/-- The pulses of a shot (R85): line, rising and falling edge in 25 ps units. -/
def Shot.firePulses (x : Shot) : List (Nat × Nat × Nat) :=
  (outputs x.beam).flatMap fun n => x.widths.zipIdx.map fun (w, i) =>
    let r := x.fire + paOffset x.pattern (i + 1) + nth x.delays n 0
    (n, r, r + w)

/-- The matrix sequence of a shot (R90): precharge, anode selection and cathode drive; the anode line stays
high 10 ns after the last pulse. Lines under the index of R101. -/
def Shot.matrixPulses (x : Shot) : List (Nat × Nat × Nat) :=
  let a := x.fire - 40 * x.tLine
  let ks := (List.range 32).filter fun k => bit (beCathodes x.beam) k
  let ps := x.widths.zipIdx.map fun (w, i) =>
    let r := x.fire + paOffset x.pattern (i + 1)
    (r, r + w)
  let last := ps.foldl (fun m p => max m p.2) x.fire
  [(8, a - 200 - 40 * x.tPre, a - 200), (9 + beAnode x.beam, a, last + 400)] ++
    ks.flatMap fun k => ps.map fun p => (25 + k, p.1, p.2)

/-- The shot's pulses on the lines. -/
def Shot.pulses (x : Shot) : List (Nat × Nat × Nat) :=
  if beMatrix x.beam then x.matrixPulses else x.firePulses

/-- p1 and the fraction of R134 of 05 at a fire time: the newest edge at or before it, and the edge before
that; none while the encoder has no two such edges. -/
def State.angleAt (s : State) (enc_ : Nat) (t : Int) : Option (Int × Nat) :=
  match (nth s.cle.enc enc_ { levelA := false, levelB := false, edges := [], armed := true, held := [] }).edges.dropWhile
      fun e => decide (t < (e.time : Int)) with
  | e1 :: e0 :: _ =>
    let f := 65536 * (t - (e1.time : Int)) / ((max 1 (e1.time - e0.time) : Nat) : Int)
    some (signed 32 e1.pos.toNat, (clampInt 0 65535 f).toNat)
  | _ => none

/-- The encoder that a stream descriptor names for a beam (10 R264). -/
def encoderOf (desc : List Byte) (beam : Nat) : Nat :=
  match stEncSel desc with
  | 0 => 0
  | 1 => 1
  | _ => if beam < stEncSplit desc then 0 else 1

/-- The fire stamp of a shot is known: t_fire, its flags and conditions reach every holder of the shot. A shot with ANGLE
gets its angle once the encoder's filter has let through the edges before the stamp (05 R131, R134). -/
def State.stampShot (s : State) (x : Shot) (t : Int) (tFlags : Nat) (cond : Word) : State :=
  let enc_ := encoderOf (nth s.out.streams x.pid
    { desc := [], waiting := [], openFr := none, closed := [], lost := 0, stalled := false, dry := none }).desc x.beamIdx
  let s := if bit x.flags.toNat 3 then { s with cle.angles := s.cle.angles ++ [(x.number, enc_, t, s.tim.shot)] } else s
  let s := (s.mapShot x.number fun y =>
    { y with tFire := some t, tFlags := tFlags, cond := y.cond ||| cond, edgeDone := true })
  let s := if cond = 0 then s else s.groupCond x.number cond
  let s := if x.tFire.isNone then s.fireMissed x.number t else s
  { s with seq.efu := s.seq.efu.filter fun y => y.number != x.number }

/-- The shot has no stamp: t_fire is substituted (R88). The spec names the substitute for an EVk source and a DARK shot;
for a shot without an edge, and for a pad source without a stamp, the model takes it too (DESIGN CHOICE,
notes/assumptions). -/
def State.stampMissing (s : State) (x : Shot) (cond : Word) : State := s.stampShot x (s.plannedStamp x) 0 cond

/-- An auxiliary TDC that failed and has no spare leaves its input unstamped (17 R419). -/
def State.auxDead (s : State) (i : Nat) : Bool :=
  let t := s.auxTdc i
  s.rep.tdcFail.contains t && s.rep.migs.all fun m => m.kind != 0 || m.failed != t

/-- A fire edge at its pad in the blind time of its TDC is lost (06 R149, R158). -/
def State.padBlind (s : State) (x : Shot) (p : Stamp) : Bool :=
  s.blindAt (s.auxTdcAt (leadIndex x.beam) (s.stampTick p)) false (s.stampValue p)

/-- The falling edge of a fire pulse: within the blind time that its rising edge began it is one that was lost (06 R149). -/
def State.padFall (s : State) (x : Shot) (t : Nat) : State :=
  if nth x.widths 0 64 < 64 then s.blindEdge t false false else s.setLane t false fun l => { l with level := false }

/-- The lead of a stamped shot, from its t_fire in the device's own time: step FIRE of a calibration run takes the mean of
an output's last 4,096 (14 R365). -/
def State.noteLead (s : State) (x : Shot) (own : Int) : State :=
  { s with emt.leads := upd s.emt.leads (leadIndex x.beam) fun (l : List Int) => ((own - 64 * (x.fire + x.delay : Nat)) :: l).take 4096 }

/-- The pad stamp of a shot (R87, 06 R152, R153): FTDCn of its lowest output, FTDC8 for the matrix. -/
def State.padStamp (s : State) (x : Shot) (p : Stamp) : State :=
  let i := leadIndex x.beam
  let t := s.auxTdcAt i (s.stampTick p)
  let blind := s.edgeBlind t false
  let s := (s.stampEdge t false true (s.stampValue p)).padFall x t
  let r := s.calibrate t false none (s.stampTick p) p.tap.toNat p.res.toNat (s.setOf x.calVer)
  let s := s.noteLead x (r.1 + s.treeShift (s.stampTick p))
  s.stampShot x r.1 (16 + 4 * b2n blind + 2 * b2n (decide (t < 544)) + b2n (decide (p.res.toNat = 63)))
    (if r.2 then 0x1000 else 0)

/-- When the firing unit deals with a shot: its first activity, or a DARK shot's fire time. -/
def Shot.due (x : Shot) : Nat := if bit x.flags.toNat 0 then x.fire + x.delay else x.firstEdge

/-- A line of R101's index may be driven high: a matrix line only while it is enabled (R89). -/
def State.lineOn (s : State) (i : Nat) : Bool :=
  decide (i < 9) || (if i < 25 then bit (s.regN EMT_MATRIX_LINES_A) (i - 9) else bit (s.regN EMT_MATRIX_LINES_K) (i - 25))

/-- An emitter's own line: a fire output or a cathode line. -/
def FireLine.lights (l : FireLine) : Bool := decide (l.line < 8) || decide (25 ≤ l.line)

/-- The pulses of a shot on enabled lines as they stand at a time (R84, R89). -/
def State.firing (s : State) (x : Shot) : Firing :=
  let ls := (x.pulses.filter fun p => s.lineOn p.1).map fun p =>
    ({ line := p.1, rise := p.2.1, fall := p.2.2, begun := decide (p.2.1 ≤ s.unitNow) } : FireLine)
  { group := beGroup x.beam, shot := x.number, lines := ls, lit := ls.any fun l => l.begun && l.lights }

/-- The pulses of a shot on the lines, beside those of the shots before it (R84, R89). -/
def State.drive (s : State) (x : Shot) : State :=
  { s with emt.firings := s.emt.firings ++ [s.firing x]
           emt.busyUntil := x.pulses.foldl (fun (m : Nat) (p : Nat × Nat × Nat) => max m p.2.2) s.emt.busyUntil }

/-- The pulses of a shot after a time: those that have risen have begun, or never begin while emission of the group is shut
down, and those that have fallen are past (R84, R99). -/
def Firing.after (now : Nat) (off : Bool) (f : Firing) : Firing :=
  let ls := (f.lines.filter fun l => l.begun || decide (now ≤ l.rise) || !off).map fun l =>
    { l with begun := l.begun || decide (l.rise < now) }
  { f with lines := ls.filter fun l => !(l.begun && decide (l.fall ≤ now))
           lit := f.lit || ls.any fun l => l.begun && l.lights }

/-- A shot of which no pulse has begun has no edge: it carries the emission-disabled flag, the budget does not charge it,
and a pad has stamped nothing (R88, R96, R99). -/
def State.noEdge (s : State) (number : Long) : State :=
  match s.seq.history.find? fun x => x.number == number with
  | none => s
  | some x =>
    ((s.settle x false).mapShot number fun y =>
      { y with cond := y.cond ||| 0x20#32
               tFire := if 8 ≤ y.stampSrc then y.tFire else some (s.plannedStamp y) }).groupCond number 0x20#32

/-- A tick on the fire outputs and the matrix. -/
def State.pulseTick (s : State) : State :=
  if s.emt.firings.isEmpty then s
  else
    let fs := s.emt.firings.map fun f => f.after s.unitNow (s.noEmission f.group)
    (fs.filter fun f => f.lines.isEmpty && !f.lit).foldl (fun t f => t.noEdge f.shot)
      { s with emt.firings := fs.filter fun f => !f.lines.isEmpty }

/-- FIRE_EDGE (R85, R88, R90, R99): the earliest shot whose edge is due gets its pulses and its fire stamp, or,
while emission of its group is shut down, neither: it carries the emission-disabled flag, without the flag of a missing
stamp (DESIGN CHOICE, notes/assumptions). A shot whose stamp comes from EVk waits for it unless it has come. A pad whose
TDC is dead leaves its shots unstamped (17 R419): they carry the flag of a missing stamp (DESIGN CHOICE,
notes/assumptions). -/
def execFireEdge (stamp : Option Stamp) (s : State) : Res :=
  .next (match (s.seq.efu.filter fun x => !x.edgeDone).foldl (fun (b : Option Shot) x =>
      match b with | none => some x | some y => if x.due < y.due then some x else b) none with
    | none => s
    | some x =>
      if s.unitNow < x.due then s
      else if bit x.flags.toNat 0 then s.stampMissing x 0
      else if s.noEmission (beGroup x.beam) then
        let s := s.settle x false
        match x.tFire with
        | some t => s.stampShot x t x.tFlags 0x20
        | none => s.stampMissing x 0x20
      else
        let s := (s.settle x true).drive x
        if 8 ≤ x.stampSrc then
          match x.tFire with
          | some t => s.stampShot x t x.tFlags 0
          | none => s.mapShot x.number fun y => { y with edgeDone := true }
        else match stamp with
          | some p =>
            if s.auxDead (leadIndex x.beam) then s.stampMissing x 0x40
            else if s.padBlind x p then
              (s.blindEdge (s.auxTdcAt (leadIndex x.beam) (s.stampTick p)) false true).stampMissing x 0x40
            else s.padStamp x p
          | none => s.stampMissing x 0x40)

/-- FIRE_STAMP_MISSING (R88): no EVk stamp within STAMP_WIN of the planned fire time. -/
def execFireStampMissing (shot : Long) (s : State) : Res :=
  .next (match s.seq.efu.find? fun x => x.number == shot with
    | some x =>
      if x.edgeDone ∧ 8 ≤ x.stampSrc ∧ x.fire + 32 * x.stampWin < 32 * s.watermark (s.auxTdc (7 + x.stampSrc)) then
        s.stampMissing x 0x40
      else s
    | none => s)

/-! The chain latch (04 R104, R105). -/

/-- The earliest activity that a live program may still bring to the fire outputs or the matrix, in 25 ps units: its planned
shot, or behind a wait its shortest interval from now. -/
def State.soonest (s : State) (pid : Nat) (q : Prog) : Nat :=
  if q.issues then
    let p := s.plan pid q
    p.fire - s.matrixLead (s.planBeam p)
  else
    (imAllSegs q.image).foldl (fun m g => match s.segTabs g with
      | some t => (issued g t).foldl (fun m e => min m (s.unitNow + seInterval e - s.matrixLead (t.beam e))) m
      | none => m) (s.unitNow + 4096)

/-- A boundary between two shots at which EMD_LAT may pulse (R105): every shot committed before the shift ended has had its
edge, one committed after it is known, 40 ns have passed since all output activity ended, and the pulse of 40 ns ends
40 ns before that shot, or any that a program may still commit, begins. -/
def State.latchBoundary (s : State) (shiftEnd : Nat) : Bool :=
  let left := s.seq.efu.filter fun x => !x.edgeDone && !bit x.flags.toNat 0
  !left.isEmpty &&
  left.all (fun x => decide (shiftEnd + s.tim.shot ≤ x.commit + s.time) &&
    decide (s.unitNow + 3200 ≤ x.firstEdge)) &&
  (s.present.filter fun p => p.2.live).all (fun p => decide (s.unitNow + 3200 ≤ s.soonest p.1 p.2)) &&
  decide (s.emt.busyUntil + 1600 ≤ s.unitNow)

/-- EMD_LAT can rise (R105): 1 SCK period after the shift while no program is live, else at a boundary within 10 ms. -/
def State.latchReady (s : State) (shiftEnd : Nat) : Bool :=
  if s.anyLive then decide (shiftEnd ≤ s.time) && decide (s.time ≤ shiftEnd + ticksMs 10) && s.latchBoundary shiftEnd
  else decide (shiftEnd + s.sckTicks ≤ s.time)

/-- CHAIN_LATCH (R104, R105): the shift has ended; with every marker there the frame is latched as soon as it can be and
the packet completes, and without one the packet answers STATE. -/
def execChainLatch (s : State) : Res :=
  .next (match s.emt.chainRead, s.pk.deferred with
    | some (readback, end_), some _ =>
      if s.time < end_ then s
      else match s.badBoard readback with
        | some b => (State.chainFault { s with emt.chainRead := none } b).finishDeferred STATE
        | none => if s.latchReady end_ then s.chainLatched.finishDeferred OK 0 readback else s
    | _, _ => s)

/-- CHAIN_LAT_TIMEOUT (R105): no boundary within 10 ms of the last shift. -/
def execChainLatTimeout (s : State) : Res :=
  .next (match s.emt.chainRead, s.pk.deferred with
    | some (readback, end_), some _ =>
      if end_ + ticksMs 10 ≤ s.time ∧ (s.badBoard readback).isNone then
        { s.latch EMT_CHAIN_STATUS 0x4000 with emt.chainRead := none }.finishDeferred STATE
      else s
    | _, _ => s)

/-! The emitter supply (01 R23; 16 R396). -/

/-- Either LEN pad is seen low. A part without the island has no emitter supply of its own to remove. -/
def State.lenLow (s : State) : Bool := s.sb && !(nth s.saf.pads 0 false && nth s.saf.pads 1 false)

/-- A shot whose planned fire time falls in the tick that begins while either LEN pad is seen low carries the
emission-disabled flag. -/
def State.markUnlit (s : State) : State :=
  if ¬ s.lenLow then s
  else (s.seq.history.filter fun x => x.fire / 32 == s.tim.shot).foldl (fun t x =>
    (t.mapShot x.number fun y => { y with cond := y.cond ||| 0x20#32 }).groupCond x.number 0x20#32) s

end Sys2Proof.Machine
end

