-- ==== Sys2Proof/Machine/Migrate.lean ====
section
/-!
DEFINITION. What every migration leaves behind: the repair map, the migration registers, the interruption and
the incident (17 R416, R428, R429, R431, R437), and the migrations that wait (17 R418).
-/
namespace Sys2Proof.Machine

/-- The replacement of a map entry that has none (R428). -/
def noSpare : Nat := 0xFFFFFFFF

/-- One more change of the repair map, which waits to be written to flash (R428, R429), with its EVENT (02
R56). -/
def State.mapChanged (s : State) : State :=
  let s := if s.rep.mapSeq = 0xFFFFFFFF then s.noteWrap 0xE 0x73 4 32 else s
  { s with rep.mapSeq := s.rep.mapSeq + 1, rep.mapPend := some (s.rep.mapPend.getD s.time) }.openEvent 4 0xE

/-- Adds an entry to the repair map (R428). A unit that a REP_MIGRATE withdrew and that has failed since keeps its entry,
with the origin of the failure. -/
def State.mapAdd (s : State) (kind origin failed spare : Nat) : State :=
  let old (e : MapEntry) : Bool := e.kind == kind && e.failed == failed && e.origin == 4
  if s.rep.map.any old && spare == noSpare then
    { s with rep.map := s.rep.map.map fun (e : MapEntry) => if old e then { e with origin := origin, flags := 0 } else e }.mapChanged
  else
    { s with rep.map := s.rep.map ++
        [(MapEntry.mk kind origin 0 failed spare (s.sysNs / 1000000000 % 2 ^ 32))] }.mapChanged

/-- The newest entry of the repair map was made for the incidents of a unit (R433). -/
def State.mapMade (s : State) (cls obj : Nat) (causes : List Nat) : State :=
  causes.foldl (fun t c => t.incidentRepair (causeKey cls c obj) t.rep.mapSeq) s

/-- Removes the entry of a commanded migration whose unit has returned to its pool (R429). -/
def State.mapRemove (s : State) (kind failed : Nat) : State :=
  let stays (e : MapEntry) : Bool := e.kind != kind || e.failed != failed || e.origin != 4
  if s.rep.map.all stays then s
  else { s with rep.map := s.rep.map.filter stays }.mapChanged

/-- The registers of the latest migration (R437). Each phase is rounded up to its unit (20 R501). Where within its 50 us
the decide phase ends is a free value (notes/assumptions). -/
def State.migReport (s : State) (m : Migration) (outcome failed spare : Nat) : State :=
  let (f, s) := s.draw 30
  let span := s.time - m.decideAt
  let decide_ := f % (min span (ticksUs 50) + 1)
  let us (t : Nat) : Nat := min 255 (ceilDiv t 1250)
  let s := s.setRegN REP_MIG_STAT
    (m.kind * 2 ^ 29 + b2n m.commanded * 2 ^ 28 + outcome * 2 ^ 26 + failed % 1024 * 2 ^ 16 + spare % 1024)
  let s := s.setRegN REP_MIG_TIME
    (us (m.detected - m.stopped) * 2 ^ 24 + us decide_ * 2 ^ 16 + min 0xFFFF (ceilDiv (span - decide_) 125))
  (s.bump REP_MIG_COUNT).latch REP_STATUS 0x1

/-- A migration is over: the next of its kind begins its decide phase (R418), and its EVENT goes out, to the sender of its
REP_MIGRATE with a code, or as that of a fault. -/
def State.migEnd (s : State) (m : Migration) (code : Nat) : State :=
  let rest := s.rep.migs.filter fun x => x.kind != m.kind || x.failed != m.failed
  let first := rest.findIdx? fun x => x.kind == m.kind
  let s := { s with rep.migs := rest.zipIdx.map fun ((x, i) : Migration × Nat) =>
      if first = some i then { x with decideAt := s.time } else x }
  match m.owner with
  | some o => s.complete o code 0xE
  | none => s.openEvent 4 0xE

/-- The end of a migration (R416, R426, R437): its report, with a spare that failed and was replaced named so, the
interruption and its EVENT. One that a later fault has ended carries INTERNAL (DESIGN CHOICE, notes/assumptions). -/
def State.migDone (s : State) (m : Migration) (outcome failed spare : Nat) : State :=
  ((s.migReport m (if outcome = 0 ∧ m.replaced then 2 else outcome) failed spare).interruption).migEnd m
    (if outcome = 3 then INTERNAL else OK)

/-- A migration whose unit serves nothing any more has nothing to do. -/
def State.migVoid (s : State) (m : Migration) : State := s.migEnd m OK

/-- A spare is about to be marked failed: where the migration of its kind that runs would take it, the decide phase starts
again and the restart is a further interruption (R418). -/
def State.spareFails (s : State) (kind unit : Nat) : State :=
  match s.rep.migs.findIdx? fun m => m.kind == kind with
  | none => s
  | some i =>
    if (nth (s.rep.migs.map Migration.failed) i 0xFFFF |> s.spareFor kind) = some unit then
      { s with rep.migs := upd s.rep.migs i fun (m : Migration) => { m with decideAt := s.time, replaced := true } }.interruption
    else s

/-- A unit's work waits for a migration of its kind (R418). A fault that is known keeps its place; a fault of a unit that
a REP_MIGRATE was to withdraw ends that migration. -/
def State.queueMig (s : State) (kind failed stopped : Nat) (owner : Option (Origin × Half) := none) : State :=
  let new : Migration :=
    { kind := kind, failed := failed, commanded := owner.isSome, owner := owner, stopped := stopped
      detected := s.time, decideAt := s.time, replaced := false }
  match s.rep.migs.find? fun m => m.kind == kind && m.failed == failed with
  | none => { s with rep.migs := s.rep.migs ++ [new] }
  | some m =>
    if m.commanded && !new.commanded then
      let s := s.migDone m 3 failed 0x3FF
      { s with rep.migs := s.rep.migs ++ [new] }
    else s

/-- The migration of a kind that runs: the first one detected (R418). -/
def State.mig (s : State) (kind : Nat) : Option Migration := s.rep.migs.find? fun m => m.kind == kind

/-- The incidents of a unit are repaired: the map entry made for them is named, and their cause has ended
(R431, R433). -/
def State.repaired (s : State) (cls obj : Nat) (causes : List Nat) : State :=
  causes.foldl (fun t c => (t.incidentRepair (causeKey cls c obj) t.rep.mapSeq).endCause (causeKey cls c obj)) s

/-- The map entry of a fault: ORIGIN 2, or 4 for a commanded migration (R428). -/
def Migration.origin (m : Migration) : Nat := if m.commanded then 4 else 2

/-- Longest time of detection of a fault of a kind that migrates when it is detected (R417). -/
def detectMax (kind : Nat) : Nat := if kind = 2 then ticksUs 1 else if kind = 3 then ticksUs 2 else ticksUs 50

/-- A migration made at once by a fault that is detected now (R417). When within the limit of detection its unit stopped
serving is a free value (notes/assumptions). -/
def State.faultMig (s : State) (kind failed : Nat) : Migration × State :=
  let x := s.draw 81
  ({ kind := kind, failed := failed, commanded := false, owner := none, stopped := s.time - x.1 % (detectMax kind + 1)
     detected := s.time, decideAt := s.time, replaced := false }, x.2)

/-- The repair of an SRAM or DRAM row as a migration (R415, R417), since the row's fault was found. The numbers that stand
for the rows in REP_MIG_STAT are not stated: free values (notes/assumptions). -/
def State.rowDone (s : State) (kind since : Nat) (spare : Bool) : State :=
  let x := s.draw 82
  x.2.migDone { kind := kind, failed := 0, commanded := false, owner := none, stopped := since, detected := since,
                decideAt := since, replaced := false } 0 (x.1 % 1024) (if spare then x.1 / 1024 % 1024 else 0x3FF)

end Sys2Proof.Machine
end

