-- ==== Sys2Proof/Machine/Records.lean ====
section
/-!
DEFINITION. How a record reaches a stream (10 R253, R262, R263, R270), and how a fault of a unit reaches the
repair controller (17 R416 to R420).
-/
namespace Sys2Proof.Machine

/-! Streams. -/

/-- A stream by its program ID. -/
def State.stream (s : State) (pid : Nat) : Stream :=
  nth s.out.streams pid
    { desc := [], waiting := [], openFr := none, closed := [], lost := 0, stalled := false, dry := none }

/-- Changes a stream. -/
def State.setStream (s : State) (pid : Nat) (f : Stream → Stream) : State :=
  { s with out.streams := upd s.out.streams pid f }

/-- Records of a stream discarded (R265, R270): counted for its next frame and in its register. -/
def State.loseRecs (s : State) (pid n : Nat) : State :=
  if n = 0 then s
  else
    ((s.setStream pid fun x => { x with lost := x.lost + n }).bumpBy (OUT_STREAM_LOST pid) n).latch OUT_STATUS 0x20

/-- Late records of a program (R274). -/
def State.lateRecs (s : State) (pid n : Nat) : State :=
  if n = 0 then s else (s.bumpBy (SEQ_PROG_LATE pid) n).latch SEQ_STATUS 0x1

/-- A record or capture that no stream takes (R262). -/
def State.orphan (s : State) : State := (s.bump OUT_ORPHAN).latch OUT_STATUS 0x100

/-- The credit of a stream's ring (R269, R270). -/
def State.credit (s : State) (desc : List Byte) : Bool :=
  match s.out.rings[stRing desc]? with
  | some r => r.enabled && !r.bufs.isEmpty
  | none => false

/-- The staging reservation of a stream in bytes (R264). -/
def State.reservation (s : State) (pid : Nat) : Nat := 65536 * stStage (s.stream pid).desc

/-- Records that a stream's full staging reservation cannot take are discarded (R270, R274): they are counted for the
stream's next frame, and as host-stalled on PCIe, where that frame carries HOST_STALLED, or as late on Ethernet, with
an incident of the route. -/
def State.discardRecs (s : State) (pid n : Nat) : State :=
  let s := s.loseRecs pid n
  match stRoute (s.stream pid).desc with
  | 0 => (s.setStream pid fun x => { x with stalled := true }).bumpBy (SEQ_PROG_STALL pid) n
  | 1 => (s.lateRecs pid n).report (causeKey 0xB 2 (1 + stRing (s.stream pid).desc)) 8 pid true
  | _ => s

/-- A record reaches its stream, or is discarded at a full staging reservation (R270). -/
def State.takeRec (s : State) (pid : Nat) (r : Rec) : State :=
  if s.stageBytes pid + r.bytes.length ≤ s.reservation pid then
    s.setStream pid fun x => { x with waiting := x.waiting ++ [r] }
  else s.discardRecs pid 1

/-- Programs whose streams take system records and captures: those that run, wait or stop (R262). -/
def State.takers (s : State) (want : List Byte → Bool) : List Nat :=
  (s.present.filter fun p => (p.2.state == .running || p.2.state == .waiting || p.2.state == .stopping) &&
    want (imStream p.2.image)).map Prod.fst

/-- A record for every stream that wants it; an orphan when there is none. -/
def State.spread (s : State) (want : List Byte → Bool) (r : Rec) : State :=
  match s.takers want with
  | [] => s.orphan
  | ps => ps.foldl (fun t p => t.takeRec p r) s

/-- The key of a record that no shot owns (R263). -/
def State.keyNow (s : State) : Long := match s.lastShot with | some x => x.number | none => 0

/-- The number of the shot committed last at a tick (R263). -/
def State.keyAt (s : State) (t : Nat) : Long :=
  match s.seq.history.find? fun x => decide (x.commit ≤ t) with
  | some x => x.number
  | none => match s.seq.history.getLast? with
    | some x => if s.seq.history.length < 4096 ∨ x.number = 0 then 0 else x.number - 1
    | none => 0

/-- The record of an event input's edge (R256, R260). -/
def State.inputRecord (s : State) (k : Nat) (rising : Bool) (flags5 : Nat) (t : Int) : Rec :=
  { bytes := [0x06, 1] ++ leBytes 2 k ++ leBytes 2 (b2n (!rising)) ++ [0, 0] ++ leBytes 4 0 ++
      [0xFF, 0xFF, 0, 0] ++ leBytes 8 (flags5 * 2 ^ 59 + enc 59 t) ++ leBytes 6 (s.keyAt (t / 2048).toNat).toNat ++
      leBytes 2 (b2n s.tim.warm + 2 * b2n (bit flags5 2))
    key := s.keyAt (t / 2048).toNat, chan := none, origin := (t / 2048).toNat, frees := none, pid := none }

/-! Faults of units. -/

/-- A TDC has a fault (17 R417, R435): it is marked failed, the incident opens, and what it serves waits for
a spare. One that serves nothing is mapped out at once (17 R428). -/
def State.faultTdc (s : State) (t cause stopped : Nat) : State :=
  if s.rep.tdcFail.contains t then s
  else
    let serves := s.tdcServes t ≠ 0xFFFF
    let s := s.spareFails 0 t
    let s := { s with rep.tdcFail := s.rep.tdcFail ++ [t] }.report (causeKey 2 cause t) 4 t false
    if serves then s.queueMig 0 t stopped else (s.mapAdd 0 2 t noSpare).mapMade 2 t [cause]

/-- An engine has a fault: it is failed, the incident opens, and its group waits for another engine. A
spare leaves the pool, and an engine that serves no group is mapped out at once (17 R428). -/
def State.faultEngine (s : State) (e cause stopped : Nat) : State :=
  if s.rep.engFail.contains e then s
  else
    let serves := (s.engineGroup e).isSome
    let s := s.spareFails 1 e
    let s := { s with rep.engFail := s.rep.engFail ++ [e], rep.pool := s.rep.pool.filter (· != e) }
    let s := (s.setEng e fun x =>
      { x with st := .failed, wasHalted := x.st == .halted }).report (causeKey 3 cause e) 5 e false
    if serves then s.queueMig 1 e stopped else (s.mapAdd 1 2 e noSpare).mapMade 3 e [cause]

end Sys2Proof.Machine
end

