-- ==== Sys2Proof/Machine/Tick.lean ====
section
/-!
DEFINITION. What one tick of 800 ps does to the time bases (12 R296, R304, R306, R307). It is what the block does
while no command waits (a design choice, notes/assumptions).
-/
namespace Sys2Proof.Machine

/-- A value of a base brought into 64 bits, and the direction of the wrap that this takes (12 R307). -/
def ptpWrap (v : Int) : Nat × Option Bool :=
  ((v % 2 ^ 64).toNat, if v < 0 then some false else if 2 ^ 64 ≤ v then some true else none)

/-- A base stops or counts again from its latest MAC edge on (12 R308). -/
def PtpBase.setCounting (b : PtpBase) (on : Bool) : PtpBase :=
  if b.counting = on then b
  else { b with counting := on, past := ((b.edge, b.value, b.incr, b.counting) :: b.past).take 16 }

/-- One correction: a step adds modulo 2^64 and may wrap, an increment replaces (12 R306, R307). -/
def PtpBase.correct (b : PtpBase) (c : PtpCorr) : PtpBase × Option Bool :=
  if c.isStep then
    let v := ptpWrap ((b.value : Int) + c.value)
    ({ b with value := v.1 }, v.2)
  else ({ b with incr := c.value.toNat }, none)

/-- One MAC edge of a PTP base: it adds INCR while the base counts (12 R304). -/
def PtpBase.edgeStep (edge : Nat) (b : PtpBase) : PtpBase × Option Bool :=
  if b.counting then
    let v := ptpWrap ((b.value : Int) + b.incr)
    ({ b with value := v.1, edge := edge }, v.2)
  else ({ b with edge := edge }, none)

/-- A correction's MAC edge is there: it lies at least 50 ns after the acceptance (12 R306). -/
def PtpCorr.due (edge : Nat) (c : PtpCorr) : Bool := decide (10 * c.at_ + 625 ≤ 2 * edge)

/-- The corrections whose MAC edge this is, in acceptance order (12 R306), and the directions of their wraps. `tick` is
the TB_SHOT tick of the edge. -/
def PtpBase.applyDue (tick : Nat) (b : PtpBase) : PtpBase × List Bool :=
  let now := b.corrs.takeWhile (PtpCorr.due b.edge)
  if now.isEmpty ∨ ¬ b.counting then (b, [])
  else
    let x := now.foldl (fun (m : PtpBase × List Bool) c =>
      let r := m.1.correct c
      (r.1, m.2 ++ r.2.toList)) (b, [])
    ({ x.1 with corrs := b.corrs.dropWhile (PtpCorr.due b.edge), done := some tick
                past := ((b.edge, b.value, b.incr, true) :: b.past).take 16 }, x.2)

/-- The MAC edge of TB_PTP that falls in the tick that ends, if one does: one edge every 2.56 ns, that is every
sixteen fifths of a tick (01 R24); and the directions of the wraps at it. `now` and `shot` are the time and TB_SHOT at
the tick's end. -/
def PtpBase.tick (now shot : Nat) (b : PtpBase) : PtpBase × List Bool :=
  if b.edge + 16 ≤ 5 * now then
    let x := b.edgeStep (b.edge + 16)
    let y := x.1.applyDue ((5 * shot - (5 * now - (b.edge + 16))) / 5)
    (y.1, x.2.toList ++ y.2)
  else (b, [])

/-- The MAC edge at which a base stands after a tick, in fine LSB (12 R307; 18 R446). -/
def edgeStamp (now shot : Nat) (shift : Int) (edge : Nat) : Nat :=
  ((2048 * shot - 2048 * (5 * now - edge) / 5 : Nat) - shift).toNat

/-- The pending command cross-stamp of a source sees its first event, at a time in fine LSB (12 R313). -/
def State.crossSeen (s : State) (source : Nat) (t : Int) : State :=
  match s.tim.xsPend with
  | some p => if p.1 = source ∧ s.tim.xsHit.isNone then { s with tim.xsHit := some t } else s
  | none => s

/-- A wrap of a base whose EVENT is to be sent (12 R307). -/
def State.ptpWrapped (s : State) (p : Nat) (forward : Bool) (edge : Nat) : State :=
  let s := { s with tim.ptpWraps := s.tim.ptpWraps ++ [(p, forward, edge)] }
  if forward then s.crossSeen (0x20 + p) edge else s

/-- One tick of a PTP base, with its wraps. -/
def State.ptpTick (s : State) (p : Nat) : State :=
  match s.tim.ptp[p]? with
  | none => s
  | some b =>
    let x := b.tick s.time s.tim.shot
    x.2.foldl (fun t d => t.ptpWrapped p d (edgeStamp s.time s.tim.shot (s.treeShift s.tim.shot) x.1.edge))
      { s with tim.ptp := s.tim.ptp.set p x.1 }

/-- The time block of a superframe on a port (18 R442): TB_SHOT at its start, D_tree, the echo, or the status. What a device
estimates of its own skew is a free value. -/
def State.timeBlock (s : State) (p : Nat) : Nat :=
  let d : Int := match s.ifl.dtree with | x :: _ => x.2 | [] => 0
  match s.tim.shot / 512 % 4 with
  | 0 => s.tim.shot % 2 ^ 48
  | 1 => (d % 2 ^ 48).toNat
  | 2 => (nth s.ifl.ports p .reset).echo
  | _ =>
    let joined := s.role == 1 || (nth s.ifl.ports s.ifl.parentPort .reset).state == 3
    s.ifl.dev % 16 * 2 ^ 44 + s.ifl.hops % 4 * 2 ^ 42 + b2n s.tim.warm * 2 ^ 41 + b2n joined * 2 ^ 40 +
      (if s.role = 2 then Config.freeNat 82 s.tim.shot % 65536 else 0) * 2 ^ 24

/-- At the first tick of a superframe every port with block lock sends its time block (18 R441). -/
def State.superframe (s : State) : State :=
  if s.tim.shot % 512 = 0 then
    { s with ifl.timeBlocks := ((List.range 4).filter fun p => (nth s.ifl.ports p .reset).locked).map fun p =>
        (p, 0x40 + s.tim.shot / 512 % 4, s.timeBlock p) }
  else s

/-- One tick. TB_SHOT and TB_SYS stand while both of their sources are lost (01 R33; 18 R444), and
while PORST_L holds the core (19 R464). -/
def State.tick (s : State) : State :=
  let alive := (s.hasRef || s.tim.xsys) && !s.boot.held
  let shot := if s.tim.running && alive then s.tim.shot + 1 else s.tim.shot
  let sys5 := if alive then s.tim.sys5 + 4 else s.tim.sys5
  let now := s.time + 1
  let wraps := s.tim.running && alive && shot % 2 ^ 48 == 0
  let s := { s with time := now, tim.shot := shot, tim.sys5 := sys5, tim.safe25 := s.tim.safe25 + 2 }
  let s := if wraps then s.noteWrap 9 0 TIM_SHOT_LO 48 else s
  let s := if s.tim.running && alive then s.superframe else s
  (List.range 4).foldl State.ptpTick s

end Sys2Proof.Machine
end

