-- ==== Sys2Proof/Machine/Receiver.lean ====
section
/-!
DEFINITION. Family 0x4 and the hit channels: thresholds, enables, capture modes, lanes, dead time, the XC01
queues, code-density calibration, event inputs and frequency measurement (01 R27 to R30; 06 R144 to R177).
-/
namespace Sys2Proof.Machine

/-! Configuration. -/

/-- First channel and count of a channel range (R145, R146). -/
def chanRange (d : List Byte) : Check :=
  firstFail [need (decide (field d 0 2 ≤ 511)) BAD_PARAM 16,
    need (decide (1 ≤ field d 2 2) && decide (field d 0 2 + field d 2 2 ≤ 512)) BAD_PARAM 18]

/-- A threshold code pair of one channel (R145). -/
def codesOk (lower upper : Nat) : Bool :=
  decide (lower ≤ 1023) && decide (upper ≤ 1023) && (upper == 0 || decide (lower < upper))

/-- Threshold codes written for a channel: the change is pending until t_u (R148). -/
def State.setThreshold (s : State) (c lower upper : Nat) : State :=
  (s.setRegN (HCH_THRESH c) (upper * 65536 + lower)).setChan c fun x =>
    { x with pending := some (s.time, s.seq.next) }

def threshSetOp : OpSpec :=
  { opcode := 0x40, lengthOk := fun d => decide (4 ≤ d.length) && d.length == 4 + 4 * field d 2 2
    check := fun _ d => firstFail (chanRange d :: (List.range (field d 2 2)).flatMap fun i =>
      let l := field d (4 + 4 * i) 2
      let u := field d (6 + 4 * i) 2
      [need (decide (l ≤ 1023)) BAD_PARAM (20 + 4 * i), need (codesOk (min l 1023) u) BAD_PARAM (22 + 4 * i)])
    act := fun s _ p =>
      let d := p.payload
      { st := (List.range (field d 2 2)).foldl (fun t i =>
          t.setThreshold (field d 0 2 + i) (field d (4 + 4 * i) 2) (field d (6 + 4 * i) 2)) s } }

/-- THRESH_SET (R145, R148). -/
def execThreshSet (o : Origin) (r : Request) (s : State) : Res := .next (s.serve threshSetOp o r)

def chanEnableOp : OpSpec :=
  { opcode := 0x41, lengthOk := exactly 64
    act := fun s _ p =>
      { st := (List.range 512).foldl (fun t c =>
          t.setFld (HCH_CFG c) 0 0 (b2n (bit (field p.payload (c / 8) 1) (c % 8)))) s } }

/-- CHAN_ENABLE (R146). -/
def execChanEnable (o : Origin) (r : Request) (s : State) : Res := .next (s.serve chanEnableOp o r)

def captureModeOp : OpSpec :=
  { opcode := 0x42, lengthOk := exactly 8
    check := fun _ d => firstFail [chanRange d, need (decide (field d 4 1 ≤ 1)) BAD_PARAM 20,
      need (within (field d 5 1) 1 8) BAD_PARAM 21]
    act := fun s _ p =>
      let d := p.payload
      let s' := (List.range (field d 2 2)).foldl (fun t i =>
        let c := field d 0 2 + i
        (t.setFld (HCH_CFG c) 1 1 (field d 4 1)).setFld (HCH_CFG c) 11 8 (field d 5 1)) s
      { st := s' } }

/-- CAPTURE_MODE (R146). -/
def execCaptureMode (o : Origin) (r : Request) (s : State) : Res := .next (s.serve captureModeOp o r)

def eventInputOp : OpSpec :=
  { opcode := 0x43, lengthOk := exactly 4
    check := fun _ d => firstFail [need (decide (field d 0 1 ≤ 7)) BAD_PARAM 16,
      need (decide (field d 1 1 ≤ 3)) BAD_PARAM 17]
    act := fun s _ p => { st := s.setFld (HCH_EV_CFG (field p.payload 0 1)) 1 0 (field p.payload 1 1) } }

/-- EVENT_INPUT (R170). -/
def execEventInput (o : Origin) (r : Request) (s : State) : Res := .next (s.serve eventInputOp o r)

/-! Lanes (R149, R150). -/

/-- The 59-bit stamp value on unwrapped ticks. -/
def HitStamp.value (x : HitStamp) : Nat := 2048 * x.tick + 64 * x.tap + x.res

/-- The channel that a TDC serves, if any. -/
def State.tdcChan (s : State) (t : Nat) : Option Nat :=
  (List.range 512).find? fun c => (s.chan c).tdc == t

/-- A stamp of a TDC is lost to a full buffer or queue (01 R30, 06 R150). -/
def State.dropStamp (s : State) (t tick : Nat) : State :=
  let s := s.bump (TDC_DROP t)
  match s.tdcChan t with
  | some c => s.setChan c fun x => { x with losses := tick :: x.losses }
  | none => s

/-- Moves one stamp from the lane buffers into the XC01 queue, if one stands there and its turn has come:
the smaller value first, lane L first on a tie, one stamp per 2 ticks (R150). -/
def State.mergeOne (s : State) (t now : Nat) : State :=
  let x := s.tdc t
  let pick : Option (Bool × HitStamp) := match x.lower.buffer.head?, x.upper.buffer.head? with
    | some a, some b => if b.value < a.value then some (true, b) else some (false, a)
    | some a, none => some (false, a)
    | none, some b => some (true, b)
    | none, none => none
  match pick with
  | none => s
  | some (up, h) =>
    let at_ := max x.mergeAt h.tick
    if now < at_ then s
    else
      let s := (s.setLane t up fun l => { l with buffer := l.buffer.drop 1 }).setTdc t fun y =>
        { y with mergeAt := at_ + 2 }
      if 64 ≤ x.queue.length then s.dropStamp t h.tick
      else s.setTdc t fun y => { y with queue := y.queue ++ [h] }

/-- Merges what can be merged by a tick: the two buffers hold at most 8 stamps. -/
def State.merge (s : State) (t now : Nat) : State :=
  (List.range 8).foldl (fun s _ => s.mergeOne t now) s

/-- The edges of EDGES that a kind of edge needs: none for L rising (R147). -/
def edgeIn (edges : Nat) (upper rising : Bool) : Bool :=
  match upper, rising with
  | false, true => true
  | false, false => bit edges 0
  | true, true => bit edges 1
  | true, false => bit edges 2

/-- The edges that a channel stamps (R147). -/
def State.edgeEnabled (s : State) (c : Nat) (upper rising : Bool) : Bool :=
  edgeIn (s.fld (HCH_CFG c) 19 17) upper rising

/-- A span of 2 ticks from a stamp value on in which a channel was blind, for the exposure of the Plain (R158, 07 R184). -/
def State.noteBlind (s : State) (c value : Nat) : State :=
  s.setChan c fun x => { x with blinds := (value / 64, value / 64 + 64) :: x.blinds }

/-- The window of a shot on a channel, in 25 ps units (03 R71). -/
def Shot.window (x : Shot) (c : Nat) : Int × Int :=
  let a : Int := (x.fire : Int) + (x.start : Int) + nth x.adj c 0
  (a, a + ((x.bins * 2 ^ x.binExp : Nat) : Int))

/-- The shots pending or in flight on the engine of a channel's group. -/
def State.chanShots (s : State) (c : Nat) : List Shot :=
  let y := s.eng (s.groupEngine (c / 8))
  (y.shots.map EngShot.shot ++ y.xc02.map Prod.fst).filter fun x => bit (beRx x.beam) (c / 8)

/-- A receiver register at a shot's commitment (01 R20). -/
def Shot.rcvReg (x : Shot) (a : Nat) : Nat := (Sparse.get regReset x.rcv a).toNat

/-- A shot takes an edge kind of a channel: EN and EDGES as they were at its commitment (01 R20; R146, R147). -/
def Shot.takesEdge (x : Shot) (c : Nat) (upper rising : Bool) : Bool :=
  let cfg := x.rcvReg (HCH_CFG c)
  bit cfg 0 && edgeIn (bits cfg 19 17) upper rising

/-- The edges that a channel stamps: those enabled now, and those that a shot pending or in flight was committed with (01
R20; R146, R147). -/
def State.edgeTaken (s : State) (c : Nat) (upper rising : Bool) : Bool :=
  (bit (s.regN (HCH_CFG c)) 0 && s.edgeEnabled c upper rising) ||
    (s.chanShots c).any fun x => x.takesEdge c upper rising

/-- The shots whose Pass was open on a channel in the 1 ms from a tick (11 R284). -/
def State.openIn (s : State) (c from_ : Nat) : Nat :=
  (s.seq.history.filter fun x => bit (beRx x.beam) (c / 8) &&
    decide ((x.window c).1 < 32 * ((from_ + 1250000 : Nat) : Int)) && decide (32 * (from_ : Int) < (x.window c).2)).length

/-- The L-rising edges of a channel in the 1 ms from a tick exceed the assumption: more than the ambient rate gives and 4
for each shot whose Pass was open in it (11 R284). -/
def State.overIn (s : State) (c from_ : Nat) (l : List Nat) : Bool :=
  decide (s.regN ADM_AMBIENT + 4000 * s.openIn c from_ <
    1000 * (l.filter fun t => decide (from_ ≤ t) && decide (t < from_ + 1250000)).length)

/-- The edges of a channel exceed the assumption over some 1 ms that ends by a tick (11 R284). The count less 4 for each
open Pass is the largest where the 1 ms ends with an edge or begins as a Pass closes. -/
def State.ambientOver (s : State) (c now : Nat) (l : List Nat) : Bool :=
  (l.any fun t => s.overIn c (t + 1 - 1250000) l) ||
    s.seq.history.any fun x => bit (beRx x.beam) (c / 8) &&
      (let a := (ceilDiv (x.window c).2.toNat 32)
       decide (a + 1250000 ≤ now + 1) && s.overIn c a l)

/-- Notes that a channel's count has exceeded the assumption. -/
def State.noteAmbient (s : State) (c : Nat) (over_ : Bool) : State :=
  if over_ && !s.adm.exceeded.contains c then { s with adm.exceeded := c :: s.adm.exceeded } else s

/-- One more L-rising edge of a channel (11 R284). The edges of the last 2 ms are kept. -/
def State.countAmbient (s : State) (c tick : Nat) : State :=
  let l := tick :: nth s.adm.ambient c []
  let s := s.noteAmbient c (s.ambientOver c tick l)
  { s with adm.ambient := s.adm.ambient.set c (l.filter fun t => decide (tick < t + 2500000)) }

/-- The TDC that takes a channel's edge: until the changeover tick it is still the old one (R165). -/
def Chan.takes (x : Chan) (tick : Nat) : Nat :=
  match x.swap with
  | some (t, old) => if tick < t then old else x.tdc
  | none => x.tdc

/-- COMPARATOR_EDGE (R147, R149, R150; 01 R27, R30): an edge of a kind that the channel stamps is
stamped by its lane and passes to the XC01 queue, behind every stamp of an earlier tick. An L-rising stamp that the lane
keeps is also a hit trigger of the capture units that name its channel (09 R239). -/
def execComparatorEdge (c : Fin 512) (upper : Bool) (rising : Bool) (stamp : Stamp) (s : State) : Res :=
  .next (
    let ch := s.chan c
    let tick := s.stampTick stamp
    let value := s.stampValue stamp
    let t := ch.takes tick
    if s.rep.chanLost.contains c.val || (upper && ch.upper == 0) then s
    else if ¬ s.edgeTaken c upper rising then s.laneLevel t upper rising value
    else
      let s := s.merge ch.tdc (tick - 1)
      let s := match shadowTdc ch.swap ch.tdc tick with | some n => s.shadowEdge n upper rising value | none => s
      if s.blindAt t upper value then s.blindEdge t upper rising
      else
        let blind := s.edgeBlind t upper
        let s := (s.stampEdge t upper rising value).noteBlind c value
        let hit := !upper && rising
        let s := if hit then s.countAmbient c tick else s
        let h : HitStamp :=
          { rising := rising, upper := upper, blind := blind, spare := decide (512 ≤ t), tdc := t, tick := tick
            tap := stamp.tap.toNat, res := stamp.res.toNat }
        let full := decide (4 ≤ (s.lane ch.tdc upper).buffer.length)
        let s := if full then s.dropStamp ch.tdc tick
          else s.setLane ch.tdc upper fun l => { l with buffer := l.buffer ++ [h] }
        if hit && !full then
          let time := (s.calibrate t false (some c) tick h.tap h.res (s.setAt tick)).1
          s.triggerAll 2 (fun u => s.fld (WFD_CAP_SRC u) 31 23 == c.val) time
        else s)

/-! Code-density calibration (R157 to R161). -/

/-- N_CAL. -/
def State.nCal (s : State) : Nat := 2 ^ s.fld HCH_CAL_CFG 23 19

/-- A qualifying stamp of a lane (R159). The accumulators stand while an update is due. -/
def State.qualify (s : State) (t : Nat) (upper : Bool) (tap res : Nat) : State :=
  s.setLane t upper fun l =>
    if s.nCal ≤ l.total then l
    else
      { l with n := l.n.modify tap (· + 1), m := l.m.modify tap (· + (2 * res + 1)), total := l.total + 1
               ovr := l.ovr + b2n (res == 63) }

/-- A calibration run carries out a step (14 R365). -/
def State.calStep (s : State) (k : Nat) : Bool :=
  match s.thm.run with | some r => bit r.mask k && r.cause == 0 | none => false

/-- The pulser feeds a lane (R158): the source is on and a rate is set, for spares their own; or step TAP of a calibration
run gives the lanes that have not converged 1,000 kHz (14 R365). With SRC clear the pulser injects nothing otherwise (DESIGN
CHOICE, notes/assumptions). -/
def State.pulserOn (s : State) (t : Nat) (upper : Bool) : Bool :=
  !(upper && decide (544 ≤ t)) && (s.calStep 0 && !(s.lane t upper).converged ||
    bit (s.regN HCH_CAL_CFG) 26 && ((decide (512 ≤ t) && decide (t < 544)) || s.fld HCH_CAL_CFG 15 8 != 0))

/-- PULSER_INJECT (R158): the injected edge blinds the lane; its stamp serves calibration only. A blind lane
takes no injection. In step SKEW of a calibration run a lane that the pulser does not feed takes the reference edge, at the
pulser's rate: it blinds the lane and serves no tap table (14 R365). -/
def execPulserInject (t : Fin 567) (upper : Bool) (stamp : Stamp) (s : State) : Res :=
  .next (
    let value := s.stampValue stamp
    let on := s.pulserOn t upper
    let skew := s.calStep 1 && !(upper && decide (544 ≤ t.val)) && s.fld HCH_CAL_CFG 15 8 != 0
    if ¬ (on ∨ skew) ∨ s.blindAt t upper value then s
    else
      let s := s.setLane t upper fun l => { l with blindUntil := value + 4096, injected := true }
      let s := match s.tdcChan t with | some c => s.noteBlind c value | none => s
      if on then s.qualify t upper stamp.tap.toNat stamp.res.toNat else s)

/-- normalise of R159 on values in 2^-16 units. -/
def normalise (a : List Nat) : List Nat :=
  let w := a.map (· / 65536)
  let sum := w.foldl (· + ·) 0
  let top := w.foldl max 0
  let j := (w.findIdx? (· == top)).getD 0
  w.modify j fun x => x + 32768 - sum

/-- Four consecutive zero widths below the highest tap that is struck (R160). -/
def deadTaps (w : List Nat) : Bool :=
  let top := ((List.range 32).filter fun j => nth w j 0 != 0).getLastD 0
  (List.range 32).any fun j => decide (j + 4 ≤ top) && (List.range 4).all fun i => nth w (j + i) 0 == 0

/-- A lane returns to UNCAL (R161). -/
def Lane.uncal (l : Lane) : Lane :=
  { l with state := 0, versions := [], a := [], n := List.replicate 32 0, m := List.replicate 32 0
           total := 0, ovr := 0, updates := 0, updated := none }

/-- The health check of R160; `stamps` and `ovr` count the update's stamps. -/
def healthy (w : List Nat) (g stamps ovr : Nat) : Bool :=
  w.all (fun x => decide (x ≤ 3072)) && !deadTaps w && within g 2560 10240 && decide (100 * ovr ≤ stamps)

/-- a and g before an update: the lane's own, or those of the calibration set when it leaves UNCAL (R159). -/
def State.seed (s : State) (t : Nat) (upper : Bool) : List Nat × Nat :=
  let l := s.lane t upper
  if l.a.isEmpty then
    let cal := s.setAt s.tim.shot
    ((List.range 32).map fun i => 65536 * field cal (CAL_TAP t (b2n upper) + 2 * i) 2,
      field cal (CAL_TAP t (b2n upper) + 64) 2)
  else (l.a, l.g)

/-- The state after an update is published (R161). -/
def Lane.moved (l : Lane) : Nat :=
  match l.state with
  | 0 => 1
  | 1 => if 8 ≤ l.updates + 1 then 2 else 1
  | 3 => if l.before == 1 && decide (8 ≤ l.updates + 1) then 2 else l.before
  | n => n

/-- What an update of a lane computes from its accumulators (R159): a, the widths w, and g. -/
def State.nextTable (s : State) (t : Nat) (upper : Bool) : List Nat × List Nat × Nat :=
  let l := s.lane t upper
  let n := s.nCal
  let ag := s.seed t upper
  let a := ag.1.zipIdx.map fun (x, j) =>
    (roundDiv (7 * n * x + 32768 * 65536 * nth l.n j 0 : Nat) (8 * n)).toNat
  let w := normalise a
  let g := ag.2
  let use := (List.range 32).filter fun j => decide (256 * nth w j 0 ≤ 60 * g) && nth l.n j 0 != 0
  let num := use.foldl (fun m j => m + nth l.n j 0 * nth w j 0) 0
  let den := use.foldl (fun m j => m + nth l.m j 0) 0
  (a, w, if use.isEmpty then g else
    ((g : Int) + roundDiv (256 * (num : Int) - (g : Int) * (den : Int)) (8 * max 1 den)).toNat)

/-- A healthy table is published (R161): it takes effect 64 ticks past the watermark, and the accumulators start again.
Its VERSION in window 0x01 may wrap (R155; 02 R520). -/
def State.publishTable (s : State) (t : Nat) (upper : Bool) (a w : List Nat) (g : Nat) : State :=
  let l := s.lane t upper
  let s := if l.version = 0xFFFFFFFF then s.noteWrap 4 1 (0x640000 + 192 * t + 96 * b2n upper + 68) 32 else s
  let v : LiveTable :=
    { w := w, g := g, state := l.moved, version := l.version + 1, effective := s.watermark t + 64
      updates := l.updates + 1 }
  s.setLane t upper fun l =>
    { l with a := a, g := g, versions := (v :: l.versions).take 8, state := l.moved, updates := l.updates + 1
             version := l.version + 1, updated := some s.time, n := List.replicate 32 0
             m := List.replicate 32 0, total := 0, ovr := 0 }

/-- LIVE_TABLE_UPDATE (R159 to R161): a lane with N_CAL qualifying stamps updates its table, checks it and
publishes it, or reports a lane fault. -/
def execLiveTableUpdate (t : Fin 567) (upper : Bool) (s : State) : Res :=
  .next (
    let l := s.lane t upper
    if l.total < s.nCal ∨ l.fault then s
    else
      let x := s.nextTable t upper
      if healthy x.2.1 x.2.2 l.total l.ovr then s.publishTable t upper x.1 x.2.1 x.2.2
      else
        let s := (s.setLane t upper fun l => { l with a := x.1, g := x.2.2, fault := true }).latch HCH_STATUS 0x4
        s.faultTdc t 3 s.time)

/-- LANE_HOLD (R161): no update for 30 s. -/
def execLaneHold (t : Fin 567) (upper : Bool) (s : State) : Res :=
  .next (
    let l := s.lane t upper
    match l.updated with
    | some u =>
      if (l.state = 1 ∨ l.state = 2) ∧ u + ticksS 30 ≤ s.time then
        s.setLane t upper fun l => { l with before := l.state, state := 3 }
      else s
    | none => s)

/-! Thresholds (R148). -/

/-- The instant t_u of a change pending on a channel, in 25 ps units (R148): the last Pass on the channel of a shot
committed before the change closes, or the commitment of the change when none is open then. Both cases of the rule give
it: an instant before the next Pass opens where there is one, and this closing where there is none. -/
def State.applyAt (s : State) (c since : Nat) (number : Long) : Int :=
  ((s.seq.history.filter fun x => bit (beRx x.beam) (c / 8) && decide (0 < (number - x.number).toNat ∧ (number - x.number).toNat < 2 ^ 47)).map fun x =>
    (x.window c).2).foldl max (32 * ((s.tim.shot - (s.time - since) : Nat) : Int))

/-- Marks the shots whose Pass on a channel is open within 200 ns of t_u, in 25 ps units (R148). -/
def State.splitShots (s : State) (c : Nat) (lo : Int) : State :=
  s.setEng (s.groupEngine (c / 8)) fun y =>
    { y with shots := y.shots.map fun x =>
        let w := x.shot.window c
        if bit (beRx x.shot.beam) (c / 8) ∧ w.1 < lo + 8000 ∧ lo < w.2 then
          { x with cond := x.cond.modify (c % 8) (· ||| 0x800) }
        else x }

/-- The code that a threshold DAC is driven with: code and trim, saturated to 0 to 1,023 (R144). -/
def dacCode (code : Nat) (trim : Int) : Nat := (clampInt 0 1023 ((code : Int) + trim)).toNat

/-- THRESHOLD_APPLY (R144, R148): t_u has come; the codes and the trims of the newest applied set reach the DACs. -/
def execThresholdApply (c : Fin 512) (s : State) : Res :=
  .next (match (s.chan c).pending with
    | none => s
    | some (since, n) =>
      let tu := s.applyAt c since n
      if (s.unitNow : Int) < tu then s
      else
        let l := fieldInt s.appliedSet (CAL_CMP c 0) 2
        let u := fieldInt s.appliedSet (CAL_CMP c 1) 2
        let v := s.regN (HCH_THRESH c)
        (s.setChan c fun x =>
          { x with lower := bits v 9 0, upper := bits v 25 16, pending := none, applied := some tu.toNat
                   trimL := l, trimU := u, dacL := dacCode (bits v 9 0) l, dacU := dacCode (bits v 25 16) u
                   }).splitShots c tu)

/-- WATERMARK_STALL (01 R29): the watermark of a TDC has not advanced for 1.0 us; the TDC is faulty and its
work waits for a spare. -/
def execWatermarkStall (t : Fin 567) (s : State) : Res := .next (s.faultTdc t 1 (s.time - ticksUs 1))

/-! Event inputs (R170, R171). -/

/-- The event waits that an edge counts for (03 R77). -/
def State.eventWaits (s : State) (k : Nat) (rising : Bool) (t : Int) : State :=
  { s with pg.progs := s.pg.progs.map (Option.map fun q =>
      let g := imSeg q.image q.segment
      if q.state = .waiting ∧ sgWaitKind g = 3 ∧ sgWaitArg g % 8 = k ∧ bit (sgWaitArg g) 3 = !rising ∧
          q.waitHit.isNone ∧ 64 * (q.waitFrom : Int) ≤ s.ownTime t then
        if q.waitEdges + 1 = sgWaitValue g % 2 ^ 32 then
          { q with waitEdges := q.waitEdges + 1, waitHit := some (s.ownTime t).toNat }
        else { q with waitEdges := q.waitEdges + 1 }
      else q) }

/-- An EVk stamp is the fire stamp of every shot that still has none and in whose window it is the first (04 R87): a shot
whose edge has been dealt with is complete with it. -/
def State.evFireStamp (s : State) (k : Nat) (t : Int) (tFlags : Nat) (uncal : Bool) : State :=
  let cond : Word := if uncal then 0x1000 else 0
  (s.seq.efu.filter fun x => x.stampSrc == 8 + k && x.tFire.isNone && decide (64 * (x.fire : Int) ≤ s.ownTime t) &&
      decide (s.ownTime t ≤ 64 * (x.fire : Int) + 2048 * (x.stampWin : Int))).foldl (fun s x =>
    let s := s.noteLead x (s.ownTime t)
    if x.edgeDone then s.stampShot x t tFlags cond
    else ((s.fireMissed x.number t).mapShot x.number fun y =>
      { y with tFire := some t, tFlags := tFlags, cond := y.cond ||| cond }).groupCond x.number cond) s

/-- The frequency unit takes a stamp (R172); `warm` is the warm-up flag where the gate opens. -/
def FreqUnit.take (f : FreqUnit) (t : Nat) (blind warm : Bool) : FreqUnit :=
  match f.first with
  | none => { f with first := some t, lastT := t, n := 1, st := 0, sit := 0, blind := blind, warm := warm }
  | some t0 =>
    if t < t0 + 2048 * f.gate then
      { f with lastT := t, n := f.n + 1, st := f.st + (t - t0), sit := f.sit + f.n * (t - t0)
               blind := f.blind || blind, rate := f.rate || decide (t - f.lastT < 5120) }
    else f

/-- The least-squares period of stamps by their number, sum and weighted sum (R172). -/
def slope (n : Nat) (st sit : Int) : Rat := 12 * ((sit : Rat) - ((n : Rat) - 1) * (st : Rat) / 2) / ((n * (n * n - 1) : Nat) : Rat)

/-- A stamp of the measured edge: the rising edge when EDGE is 2 (R172). A falling one then only shows the edges lost before
it in the gate (R173). -/
def State.freqStamp (s : State) (k : Nat) (rising blind : Bool) (t : Int) : State :=
  if s.fld (HCH_EV_CFG k) 1 0 = 2 ∧ ¬ rising then
    { s with hch.freq := upd s.hch.freq k (Option.map fun (f : FreqUnit) =>
        { f with blind := f.blind || (blind && f.first.any fun t0 => decide (t < ((t0 + 2048 * f.gate : Nat) : Int))) }) }
  else { s with hch.freq := upd s.hch.freq k (Option.map fun f => f.take t.toNat blind s.tim.warm) }

/-- An event stamp, at its time and with its flags, serves its users (R171): event waits, fire stamps, the frequency unit,
a pending cross stamp (12 R313), capture triggers and, with RECORD, the streams. -/
def State.serveStamp (s : State) (k : Nat) (rising blind uncal : Bool) (t : Int) (fl : Nat) : State :=
  let s := (s.eventWaits k rising t).evFireStamp k t fl uncal
  let s := (s.freqStamp k rising blind t).crossSeen (0x10 + k) t
  let s := s.triggerAll 5 (fun u => s.fld (WFD_CAP_SRC u) 22 20 == k) t
  if bit (s.regN (HCH_EV_CFG k)) 3 then s.spread (fun d => bit (stSysMask d) 0) (s.inputRecord k rising fl t) else s

/-- The flags [63:59] of an event stamp (R152). -/
def HitStamp.evFlags (h : HitStamp) : Nat :=
  16 * b2n h.rising + 4 * b2n h.blind + 2 * b2n h.spare + b2n (h.res == 63)

/-- EV_EDGE (R170, R171): an enabled edge of an event input is stamped by its TDC and passes to its XC01 queue; the stamp
serves its users once the watermark has passed it. -/
def execEvEdge (k : Fin 8) (rising : Bool) (stamp : Stamp) (s : State) : Res :=
  .next (
    let i := 15 + k.val
    let tick := s.stampTick stamp
    let value := s.stampValue stamp
    let t := s.auxTdcAt i tick
    let q := s.auxTdc i
    let e := s.fld (HCH_EV_CFG k) 1 0
    if s.auxDead i then s
    else if e = 3 ∨ (e = 0 ∧ ¬ rising) ∨ (e = 1 ∧ rising) then s.laneLevel t false rising value
    else
      let s := s.merge q (tick - 1)
      let s := match shadowTdc (nth s.hch.auxSwap i none) q tick with
        | some n => s.shadowEdge n false rising value | none => s
      if s.blindAt t false value then s.blindEdge t false rising
      else
        let blind := s.edgeBlind t false
        let s := s.stampEdge t false rising value
        let h : HitStamp :=
          { rising := rising, upper := false, blind := blind, spare := decide (t < 544), tdc := t, tick := tick
            tap := stamp.tap.toNat, res := stamp.res.toNat }
        if 4 ≤ (s.lane q false).buffer.length then s.dropStamp q tick
        else s.setLane q false fun l => { l with buffer := l.buffer ++ [h] })

/-- The stamps of an event input below its watermark serve their users, in the order of their values (R171; 01 R28). -/
def State.serveEvents (k : Nat) : Nat → State → State
  | 0, s => s
  | fuel + 1, s =>
    let q := s.auxTdc (15 + k)
    match (s.tdc q).queue with
    | h :: rest =>
      if h.tick < s.watermark q then
        let s := s.setTdc q fun x => { x with queue := rest }
        let x := s.calibrate h.tdc false none h.tick h.tap h.res (s.setAt h.tick)
        State.serveEvents k fuel (s.serveStamp k h.rising h.blind x.2 x.1 h.evFlags)
      else s
    | [] => s

/-- A tick on the event inputs: what their lanes hold of earlier ticks is merged and served. -/
def State.eventTick (s : State) : State :=
  (List.range 8).foldl (fun t k =>
    let q := t.auxTdc (15 + k)
    let x := t.tdc q
    if x.lower.buffer.isEmpty && x.queue.isEmpty then t
    else
      let t := t.merge q (t.tim.shot - 1)
      State.serveEvents k (t.tdc q).queue.length t) s

/-! Frequency measurement (R172, R173). -/

def freqMeasureOp : OpSpec :=
  { opcode := 0x44, lengthOk := exactly 8
    check := fun _ d => firstFail [need (decide (field d 0 1 ≤ 7)) BAD_PARAM 16,
      need (within (field d 4 4) 1000 10000000) BAD_PARAM 20]
    act := fun s o p =>
      let k := field p.payload 0 1
      s.doneIf [need (s.fld (HCH_EV_CFG k) 1 0 != 3) STATE, need (nth s.hch.freq k none).isNone BUSY] fun s =>
        let f : FreqUnit :=
          { owner := o, sequence := p.sequence, gate := ticksUs (field p.payload 4 4), first := none, lastT := 0
            n := 0, st := 0, sit := 0, blind := false, rate := false, warm := true }
        { st := (s.setRegN (HCH_FREQ k + 12) 0x80000000).setRegN (HCH_FREQ k + 8) 0 |>.setRegN (HCH_FREQ k) 0
            |>.setRegN (HCH_FREQ k + 4) 0 |> fun t => { t with hch.freq := t.hch.freq.set k (some f) }
          status := ACCEPTED } }

/-- FREQ_MEASURE (R172). -/
def execFreqMeasure (o : Origin) (r : Request) (s : State) : Res := .next (s.serve freqMeasureOp o r)

/-- The period in units of 2^-16 fine LSB (R172, R173); 0 for fewer than 3 edges. -/
def FreqUnit.period (f : FreqUnit) : Nat :=
  if f.n < 3 then 0 else (roundRat (slope f.n f.st f.sit * 65536)).toNat

/-- The STAT flags of a measurement (R173, R177). -/
def FreqUnit.flags (f : FreqUnit) : Nat :=
  16 * b2n f.warm + 8 * b2n f.rate + 4 * b2n f.blind + 2 * b2n (decide (f.n < 3)) + b2n (decide (3 ≤ f.n))

/-- FREQ_GATE_CLOSE (R173): the gate time has passed since the first stamp; the result is written and the
EVENT sent. -/
def execFreqGateClose (k : Fin 8) (s : State) : Res :=
  .next (match nth s.hch.freq k none with
    | some f =>
      match f.first with
      | some t =>
        if t + 2048 * f.gate ≤ s.fineNow then
          let f := { f with warm := f.warm && !(s.tim.warmLost.any fun x =>
                decide ((s.ownTime t).toNat / 2048 ≤ x) && decide (x ≤ (s.ownTime t).toNat / 2048 + f.gate)) }
          let p := f.period
          let s := (((s.setRegN (HCH_FREQ k) (p % 2 ^ 32)).setRegN (HCH_FREQ k + 4) (p / 2 ^ 32)).setRegN
            (HCH_FREQ k + 8) f.n).setRegN (HCH_FREQ k + 12) f.flags
          { s with hch.freq := s.hch.freq.set k none }.complete (f.owner, f.sequence) OK 4
            (leBytes 8 p ++ leBytes 4 f.n ++ leBytes 4 f.flags)
        else s
      | none => s
    | none => s)

/-- AMBIENT_CHECK (11 R284): a channel's L-rising count over some 1 ms has exceeded the assumption. -/
def execAmbientCheck (c : Fin 512) (s : State) : Res :=
  .next (
    let s := s.noteAmbient c (s.ambientOver c s.tim.shot (nth s.adm.ambient c []))
    if s.adm.exceeded.contains c.val then
      { s with adm.exceeded := s.adm.exceeded.filter (· != c.val) }.latch ADM_STATUS 0x20
    else s)

end Sys2Proof.Machine
end

