-- ==== Sys2Proof/Machine/Engine.lean ====
section
/-!
DEFINITION. Family 0x5 and the histogram engines: images, mapping and control, Passes, release, pairing and
binning of hits, burst tests, group handover and events (01 R28; 03 R80 to R83; 06 R166 to R169; 07 R178 to
R200).
-/
namespace Sys2Proof.Machine

/-! Loading and mapping. -/

/-- The engine number of a family 0x5 payload. -/
def engParam (d : List Byte) : Check := need (decide (field d 0 1 ≤ 67)) BAD_PARAM 16

def engLoadOp : OpSpec :=
  { opcode := 0x50, staging := true, lengthOk := between 8 4080
    check := fun _ d => firstFail [engParam d, need (decide (field d 1 1 ≤ 1)) BAD_PARAM 17]
    act := fun s o p =>
      let d := p.payload
      s.stageAdd o p (.engine (BitVec.ofNat 8 (field d 0 1))) (field d 1 1 == 1) (some (field d 4 4)) (d.drop 8) }

/-- ENG_LOAD (R197). -/
def execEngLoad (o : Origin) (r : Request) (s : State) : Res := .next (s.serve engLoadOp o r)

/-- Puts a checked image into the standby halves and makes it the newest (R199): active at once where the engine
serves no live program, otherwise with the first shot committed from now on. Earlier shots and groups keep the
image they began with. -/
def Engine.commitImage (y : Engine) (prog data : List Byte) (crc : Word) (live : Bool) (next : Long) : Engine :=
  let half := 1 - y.activeHalf
  let waits := live && y.image.isSome
  let h := imgHeader prog crc next waits
  let m := Sparse.setMany zeroByte (Sparse.clear y.mem (0x8000 * half) 0x8000) (0x8000 * half) prog
  let m := Sparse.setMany zeroByte (Sparse.clear m (E_DATA half) 0x2000) (E_DATA half) data
  { y with mem := m, half := half, headers := y.headers.set half (some h), copies := y.copies.set half (prog, data)
           standbyBusy := !waits && y.image.isSome }.settle

/-- Some program that has not been withdrawn uses the engine. -/
def State.engineUsed (s : State) (e : Nat) : Bool :=
  match s.engineGroup e with | some g => s.presentNames g | none => false

/-- Sets the timer of an engine to its active image's period; an image that waits leaves the timer. -/
def Engine.setTimer (y : Engine) (now : Nat) : Engine :=
  match y.activeImage with
  | some h => { y with timerAt := now + ticksUs h.timerUs }
  | none => y

def engCommitOp : OpSpec :=
  { opcode := 0x51, needsReady := true, lengthOk := exactly 12, check := fun _ d => engParam d
    act := fun s o p =>
      let d := p.payload
      let e := field d 0 1
      let s := s.refreshImage e
      let x := s.stageTake o (.engine (BitVec.ofNat 8 e))
      match x.2.1, x.2.2 with
      | some t, none => x.1.doneIf [need ((s.eng e).st != .failed) STATE, need (!(s.eng e).standbyBusy) BUSY,
          checkEngImage t.data t.dataMem (field d 4 4) (field d 8 4)] fun s =>
        let s' := s.setEng e fun y =>
          let z := y.commitImage t.data t.dataMem (BitVec.ofNat 32 (field d 8 4)) (s.engineLive e) s.seq.next
          if z.image.any ImgHeader.waits then z else z.setTimer s.time
        match (if s.engineUsed e then s'.admissionNow true else none) with
        | some f => s.countRefusal.refuse ADM_REFUSED f
        | none => { st := if s.engineUsed e then s'.postShares else s' }
      | _, some f => x.1.refuse f.1 f.2
      | none, none => x.1.refuse STAGE_ABORT }

/-- ENG_COMMIT (R198, R199). -/
def execEngCommit (o : Origin) (r : Request) (s : State) : Res := .next (s.serve engCommitOp o r)

def engMapOp : OpSpec :=
  { opcode := 0x52, lengthOk := exactly 4
    check := fun _ d => firstFail [need (decide (field d 0 1 ≤ 63)) BAD_PARAM 16,
      need (decide (field d 1 1 ≤ 67)) BAD_PARAM 17]
    act := fun s _ p =>
      let g := field p.payload 0 1
      let e := field p.payload 1 1
      let y := s.eng e
      s.doneIf [need (!s.liveNames g) STATE,
        need (match s.engineGroup e with | some h => h == g | none => true) STATE,
        need (y.st != .failed && y.image.isSome) STATE] fun s =>
        let s := s.endCause (causeKey 3 5 (s.groupEngine g))
        let s := s.setRegN (HEN_MAP g) e
        { st := { s with rep.pool := s.rep.pool.filter (· != e) }.syncProfiles.postShares } }

/-- ENG_MAP (R181). A group without an engine is served again: that incident's cause has ended (17 R421, R431). -/
def execEngMap (o : Origin) (r : Request) (s : State) : Res := .next (s.serve engMapOp o r)

/-! Events (R189). -/

/-- The entry of an image for a kind of event. -/
def ImgHeader.entry (h : ImgHeader) : EvKind → Nat
  | .init => h.entryInit | .group => h.entryGroup | .shot => h.entryShot | .timer => h.entryTimer

/-- The half whose image serves an event (R199): the active one for INIT and TIMER, and the newest one for shots
and groups that are not older than it. -/
def Engine.halfFor (y : Engine) (v : EngEvent) : Nat :=
  let n : Option Long := match v.group, v.shot with
    | some g, _ => some g.first.number
    | none, some x => some x.shot.number
    | none, none => none
  match y.image, n with
  | some h, some k =>
    if notBefore k h.fromShot ∨ (nth y.headers (1 - y.half) none).isNone then y.half else 1 - y.half
  | _, _ => y.activeHalf

/-- The entry of an event in its image; none when the image has none, so that the event starts no run. -/
def Engine.entryFor (y : Engine) (v : EngEvent) : Option Nat :=
  match nth y.headers (y.halfFor v) none with
  | some h => if h.entry v.kind = 0xFFFF then none else some (h.entry v.kind)
  | none => none

/-- Queues an event; one without an entry is discarded, which ends its group's use of the image. INIT stands
first. -/
def Engine.raise (y : Engine) (v : EngEvent) : Engine :=
  match y.entryFor v with
  | none => match v.group with
    | some g => { y with closed := y.closed.set (g.index % 2) none }
    | none => y
  | some _ => { y with events := if v.kind = .init then v :: y.events else y.events ++ [v] }

/-- Discards the queued events; the closed images of GROUP events among them are read by nothing more (R200). -/
def Engine.dropEvents (y : Engine) : Engine :=
  let freed (c : Option GroupCtx) : Option GroupCtx := c.filter fun z =>
    !(y.events.any fun v => v.kind == .group && (match v.group with | some g => g.index == z.index | none => false))
  { y with events := [], closed := y.closed.map freed }.settle

/-! Control (R200). -/

def engControlCheck (d : List Byte) : Check :=
  firstFail [engParam d, need (decide (field d 1 1 ≤ 1)) BAD_PARAM 17]

def engRunOp : OpSpec :=
  { opcode := 0x53, needsReady := true, lengthOk := exactly 4, check := fun _ d => engControlCheck d
    act := fun s _ p =>
      let e := field p.payload 0 1
      let y := s.eng e
      s.doneIf [need (y.image.isSome && y.st != .failed) STATE] fun s =>
        let v : EngEvent := { kind := .init, tick := s.tim.shot, shot := none, group := none }
        { st := ((s.refreshImage e).unlatch (HEN_STAT e) 0x7F).setEng e fun y =>
            { (y.setTimer s.time).raise v with
              st := if y.run.isSome then .busy else .idle, halting := false, heartbeat := s.time } } }

def engHaltOp : OpSpec :=
  { opcode := 0x53, lengthOk := exactly 4, check := fun _ d => engControlCheck d
    act := fun s _ p =>
      let e := field p.payload 0 1
      s.doneIf [need (!s.engineLive e) STATE] fun s =>
        { st := s.setEng e fun y =>
            { y.dropEvents with halting := y.run.isSome
                                st := if y.st = .failed ∨ y.run.isSome then y.st else .halted } } }

/-- ENG_CONTROL of an action. -/
def engControlOp (action : Nat) : OpSpec := if action = 1 then engRunOp else engHaltOp

/-- ENG_CONTROL run (R200). -/
def execEngControlRun (o : Origin) (r : Request) (s : State) : Res :=
  .next (s.serve (engControlOp (rowValue r 4 1 1 [0, 1])) o r)

/-- ENG_CONTROL halt (R200). -/
def execEngControlHalt (o : Origin) (r : Request) (s : State) : Res :=
  .next (s.serve (engControlOp (rowValue r 4 1 0 [0, 1])) o r)

/-- The engine runs: it is IDLE or BUSY. -/
def Engine.on (y : Engine) : Bool := y.st == .idle || y.st == .busy

/-- ENGINE_TIMER (R189): a TIMER event every TIMER_US while the engine runs; one that finds another queued is
dropped. -/
def execEngineTimer (e : Fin 68) (s : State) : Res :=
  .next (
    let s := s.refreshImage e
    let y := s.eng e
    match y.activeImage with
    | some h =>
      if ¬ y.on ∨ h.timerUs = 0 ∨ s.time < y.timerAt then s
      else
        let s := s.setEng e fun y => { y with timerAt := y.timerAt + ticksUs h.timerUs }
        if y.events.any fun v => v.kind == .timer then s.latch (HEN_STAT e) 0x40
        else s.setEng e fun y => y.raise { kind := .timer, tick := s.tim.shot, shot := none, group := none }
    | none => s)

/-! Passes (03 R80, R83). -/

/-- The channels of an engine's group. -/
def groupChans (g : Nat) : List Nat := (List.range 8).map fun i => 8 * g + i

/-- Opening and closing of a shot's Pass on a group, in 25 ps units. -/
def Shot.opening (x : Shot) (g : Nat) : Int :=
  (groupChans g).foldl (fun m c => min m (x.window c).1) (x.window (8 * g)).1
def Shot.closing (x : Shot) (g : Nat) : Int :=
  (groupChans g).foldl (fun m c => max m (x.window c).2) (x.window (8 * g)).2

/-- Changes a shot of an engine. -/
def Engine.setShot (y : Engine) (n : Long) (f : EngShot → EngShot) : Engine :=
  { y with shots := y.shots.map fun x => if x.shot.number = n then f x else x }

/-- Changes a group of an engine whose collection has not ended. -/
def Engine.setGroup (y : Engine) (index : Nat) (f : GroupCtx → GroupCtx) : Engine :=
  { y with groups := y.groups.map fun g => if g.index = index then f g else g }

/-- Adds two lists of counts, saturating at 32 bits (R184). -/
def addCounts (a b : List Nat) : List Nat := (a.zip b).map fun p => min 0xFFFFFFFF (p.1 + p.2)

/-- PASS_OPEN (03 R80, R83; 06 R148; 07 R184): a pending shot's Pass opens on an engine. Its group's collection
begins, and takes the hits that waited for it; a shot that finds 16 others in flight takes no hits. A Pass that has
closed by then is not in flight, whether PASS_CLOSE has dealt with it or not. -/
def execPassOpen (e : Fin 68) (shot : Long) (s : State) : Res :=
  .next (match s.engineGroup e, (s.eng e).shots.find? fun x => x.shot.number == shot with
    | some g, some x =>
      if x.opened ∨ (s.eng e).st = .failed ∨ (s.unitNow : Int) < x.shot.opening g then s
      else
        let full := 16 ≤ ((s.eng e).shots.filter fun z =>
          z.opened && !z.slotOvf && decide (x.shot.opening g < z.shot.closing g)).length
        let splits : List Word := (groupChans g).map fun c => match (s.chan c).applied with
          | some t =>
            let w := x.shot.window c
            if w.1 < (t : Int) + 8000 ∧ (t : Int) < w.2 then 0x800 else 0
          | none => 0
        let c : Word := if full then 0x400 else 0
        let s := s.setEng e fun y =>
          let y := y.setShot shot fun z =>
            { z with opened := true, slotOvf := full
                     cond := (z.cond.zip splits).map fun p => p.1 ||| p.2 ||| c }
          let first := y.groups.any fun z => z.index == x.group && !z.begun
          let early := y.early
          let y := y.setGroup x.group fun z =>
            { z with begun := true, outside := if first then addCounts z.outside early else z.outside }
          if first then { y with early := List.replicate 8 0 } else y
        if full then s.latch SEQ_STATUS 0x8 else s
    | _, _ => s)

/-! Release of hits (01 R28; 06 R157, R167, R168). -/

/-- The walk table that a shot's channel has, if one was selected at its commitment (01 R20, R166). -/
def Shot.walkTable (x : Shot) (c : Nat) : Option (List Byte) :=
  let sel := bits (x.rcvReg (HCH_WALK_SEL (c / 8))) 15 0
  if sel = 0xFFFF then none else (x.walks.find? fun t => t.id.toNat == sel).map Table.data

/-- PAIR_WIN in ticks, the capture mode and STAMPS of a channel, at a shot's commitment (01 R20). -/
def Shot.pairWin (x : Shot) : Nat := bits (x.rcvReg HCH_WALK_CFG) 7 0
def Shot.stampMode (x : Shot) (c : Nat) : Bool := bit (x.rcvReg (HCH_CFG c)) 1
def Shot.stamps (x : Shot) (c : Nat) : Nat := bits (x.rcvReg (HCH_CFG c)) 11 8

/-- The longest PAIR_WIN that a shot of an engine asks for on a channel: that of shots with a walk table or in stamp
mode (R168). -/
def State.longestWin (s : State) (e c : Nat) : Nat :=
  (s.eng e).shots.foldl (fun m x =>
    if (x.shot.walkTable c).isSome || x.shot.stampMode c then max m x.shot.pairWin else m) 0

/-- Merges the lanes of a group's TDCs: the stamps of every tick that has ended. -/
def State.mergeGroup (s : State) (g : Nat) : State :=
  (groupChans g).foldl (fun t c => t.merge (t.chan c).tdc (t.tim.shot - 1)) s

/-- The smallest watermark of a group's channels (01 R28). -/
def State.groupMark (s : State) (g : Nat) : Nat :=
  (groupChans g).foldl (fun m c => min m (s.watermark (s.chan c).tdc)) s.tim.shot

/-- The stamp that a group releases next: the smallest value, the lower channel first. -/
def State.nextStamp (s : State) (g : Nat) : Option (Nat × HitStamp) :=
  (List.range 8).foldl (fun b i =>
    match (s.tdc (s.chan (8 * g + i)).tdc).queue.head?, b with
    | some h, some (j, k) => if h.value < k.value then some (i, h) else some (j, k)
    | some h, none => some (i, h)
    | none, b => b) none

/-- Ticks by which the watermark must have passed a stamp: an L-rising stamp of a channel that pairs edges
waits for them, and one that may calibrate waits for the absence of an upper edge. -/
def State.holdFor (s : State) (e c : Nat) (h : HitStamp) : Nat :=
  if h.upper ∨ ¬ h.rising then 0
  else max (s.longestWin e c)
    (if bit (s.regN HCH_CAL_CFG) 25 then 4 else 0)

/-- The stamps of a channel up to its next L-rising stamp. -/
def untilNext (l : List HitStamp) : List HitStamp := l.takeWhile fun x => !(x.rising && !x.upper)

/-- The first stamp of an edge kind within a number of ticks after an L-rising stamp; blind stamps do not
serve (R167). -/
def partner (l : HitStamp) (rest : List HitStamp) (upper rising : Bool) (win : Nat) : Option HitStamp :=
  (untilNext rest).find? fun x =>
    x.upper == upper && x.rising == rising && !x.blind && decide (x.value ≤ l.value + 2048 * win)

/-- The calibrated time of a stamp of a channel, and whether its lane had not converged. -/
def State.stampTime (s : State) (c : Nat) (h : HitStamp) (cal : List Byte) : Int × Bool :=
  s.calibrate h.tdc h.upper (some c) h.tick h.tap h.res cal

/-- C at an index value by a section of a walk table, and whether an end value served (R167). -/
def walkAt (pts : List (Nat × Int)) (x : Int) : Int × Bool :=
  match (pts.filter fun p => decide ((p.1 : Int) ≤ x)).getLast?, pts.find? fun p => decide (x < (p.1 : Int)) with
  | some a, some b =>
    (a.2 + roundDiv ((b.2 - a.2) * (x - (a.1 : Int))) (b.1 - a.1), false)
  | some a, none => (a.2, decide (1 < pts.length) && decide ((a.1 : Int) < x))
  | none, some b => (b.2, decide (1 < pts.length))
  | none, none => (0, false)

/-- What a hit is under a calibration set: its walk-corrected time, its rise interval and time over
threshold, and its condition flags as 10 R254 places them. -/
structure Timed where
  time : Int
  rise : Option Int
  tot  : Option Int
  cond : Word

/-- Times of a hit under the configuration of a shot (06 R153, R167; 01 R20): with a walk table that finds an edge
within PAIR_WIN, T - C - a_c; otherwise T. -/
def State.timed (s : State) (g : Nat) (h : Hit) (x : Shot) : Timed :=
  let c := 8 * g + h.chan
  let cal := s.setOf x.calVer
  let near (y : HitStamp) : Bool :=
    decide (y.value ≤ h.l.value + 2048 * x.pairWin) && x.takesEdge c y.upper y.rising
  let t := s.stampTime c h.l cal
  let ut := (h.u.filter near).map fun y => s.stampTime c y cal
  let dt := (h.d.filter near).map fun y => s.stampTime c y cal
  let u := ut.map fun y => y.1 - t.1
  let d := dt.map fun y => y.1 - t.1
  let raw (useU useD : Bool) : Word :=
    if t.2 || (useU && ut.any Prod.snd) || (useD && dt.any Prod.snd) then 0x1000 else 0
  let both := x.stampMode c
  match x.walkTable c with
  | none => { time := t.1, rise := u, tot := d, cond := raw both both }
  | some w =>
    let a := walkA w
    let b := walkB w
    let useU := u.isSome && !a.isEmpty
    let uncal := raw (both || useU) (both || (!useU && !b.isEmpty))
    let fix : Option (Int × Bool) := match u, d with
      | some x, _ => if a.isEmpty then (match d with
          | some y => if b.isEmpty then none else some (walkAt b y)
          | none => none) else some (walkAt a x)
      | none, some y => if b.isEmpty then none else some (walkAt b y)
      | none, none => none
    match fix with
    | some f => { time := t.1 - f.1 - fieldInt cal (CAL_WALK c) 2, rise := u, tot := d
                  cond := uncal ||| (if f.2 then 0x10000 else 0) }
    | none => { time := t.1, rise := u, tot := d, cond := uncal ||| 0x8000 }

/-! Pairing and binning (03 R82; 07 R182 to R185). -/

/-- Adds one to a bin of a bank; a full bin stays and saturates. -/
def Engine.countBin (y : Engine) (bank chan bin : Nat) : Engine × Bool :=
  let a := E_BANK bank + 0x2000 * chan + 2 * bin
  let v := leNat (y.bytes a 2)
  if v = 0xFFFF then (y, true) else ({ y with mem := Sparse.setMany zeroByte y.mem a (leBytes 2 (v + 1)) }, false)

/-- The bin of a delay, in a window with adjusted start and exponent (R182); none outside the window. -/
def Shot.binOf (x : Shot) (c : Nat) (time : Int) : Option Nat :=
  let d := time - 64 * (x.window c).1
  let b := d / ((64 * 2 ^ x.binExp : Nat) : Int)
  if 0 ≤ d ∧ b < (x.bins : Int) then some b.toNat else none

/-- An earlier group still holds the bank of a group (R187). -/
def Engine.bankHeld (y : Engine) (group : Nat) : Bool :=
  y.groups.any fun z => decide (z.index < group) && z.index % 2 == group % 2

/-- Bins a pairing of a group on a channel in its bank; a saturated bin marks the group (R183). While an earlier group
holds the bank, the pairing is held (R187). -/
def State.binPairing (s : State) (e group chan bin : Nat) : State :=
  if (s.eng e).bankHeld group then s.setEng e fun y => { y with heldPairs := y.heldPairs ++ [(group, chan, bin)] }
  else
    let r := (s.eng e).countBin (group % 2) chan bin
    let s := s.setEng e fun _ => r.1
    if r.2 then
      (s.latch (HEN_STAT e) 0x2).setEng e fun y => y.setGroup group fun g =>
        { g with sat := g.sat ||| 2 ^ chan, chCond := g.chCond.modify chan (· ||| 0x4000) }
    else s

/-- Bins the pairings that were held, as far as their banks are free by now. -/
def State.binHeld (s : State) (e : Nat) : State :=
  (s.eng e).heldPairs.foldl (fun t p => t.binPairing e p.1 p.2.1 p.2.2) (s.setEng e fun y => { y with heldPairs := [] })

/-- A hit of a pairing enters KEPT (06 R169; 07 R185); further hits than STAMPS set the stamp-limit flag. -/
def State.keepHit (s : State) (e g : Nat) (n : Long) (chan : Nat) (t : Timed) : State :=
  let y := s.eng e
  match y.shots.find? fun x => x.shot.number == n with
  | none => s
  | some x =>
    let full := x.shot.stamps (8 * g + chan) ≤ (nth x.kept chan []).length
    if full then s.setEng e fun y =>
      (y.setShot n fun x => { x with cond := x.cond.modify chan (· ||| 0x20000) }).setGroup x.group fun z =>
        { z with chCond := z.chCond.modify chan (· ||| 0x20000) }
    else
      let part (v : Option Int) : List Byte := match v with | some i => leBytesInt 4 i | none => leBytes 4 0xFFFFFFFF
      s.setEng e fun y =>
        { y.setShot n fun x => { x with kept := x.kept.modify chan (· ++ [y.keptAt]) } with
          mem := Sparse.setMany zeroByte y.mem (E_KEPT + 16 * y.keptAt) (leBytesInt 8 t.time ++ part t.rise ++ part t.tot)
          keptAt := (y.keptAt + 1) % 2048 }

/-- Pairs a hit with one shot in flight: counts, flags, and the bin or the kept hit. A pulse pattern leaves
the bin to the burst test. -/
def State.pairOne (s : State) (e g : Nat) (h : Hit) (x : EngShot) (t : Timed) (bin : Nat) : State :=
  let c := h.chan
  let s := (s.bump (HEN_PAIRS e)).setEng e fun y =>
    (y.setShot x.shot.number fun z =>
      { z with pairs := z.pairs.modify c (· + 1), cond := z.cond.modify c (· ||| t.cond) }).setGroup x.group fun z =>
        { z with pairs := z.pairs.modify c (· + 1), chCond := z.chCond.modify c (· ||| t.cond) }
  if x.shot.stampMode (8 * g + c) then s.keepHit e g x.shot.number c t
  else if 1 < paPulses x.shot.pattern then
    let last := h.l.value + 64 * (paLast x.shot.pattern + x.shot.burstTol)
    s.setEng e fun y =>
      { y with bursts := y.bursts ++ [{ hit := h, shot := x.shot.number, until_ := last / 2048 + 1 }] }
  else s.binPairing e x.group c bin

/-- The shots in flight whose window holds a hit, in ascending shot number, with its times and bin under each. -/
def State.pairingsOf (s : State) (e g : Nat) (h : Hit) : List (EngShot × Timed × Nat) :=
  (s.eng e).shots.filterMap fun x =>
    if x.opened && !x.slotOvf then
      let t := s.timed g h x.shot
      (x.shot.binOf (8 * g + h.chan) t.time).map fun b => (x, t, b)
    else none

/-- A group collects at a stamp: it has begun, and the closing of its last Pass has not come before the stamp
(R184, R186). -/
def GroupCtx.collects (z : GroupCtx) (g : Nat) (h : HitStamp) : Bool :=
  z.begun && !(z.ended && z.members.all fun x => decide (64 * x.closing g ≤ (h.value : Int)))

/-- A hit outside every Pass counts for the lowest collecting group, or for the next group (R184). -/
def Engine.countOutside (y : Engine) (g chan : Nat) (h : HitStamp) : Engine :=
  match y.groups.find? fun z => z.collects g h with
  | some g => y.setGroup g.index fun z => { z with outside := z.outside.modify chan fun n => min 0xFFFFFFFF (n + 1) }
  | none => { y with early := y.early.modify chan fun n => min 0xFFFFFFFF (n + 1) }

/-- A released hit is paired with every shot in flight whose window holds it and with which its channel was enabled (01
R20; 03 R82). -/
def State.pairHit (s : State) (e g : Nat) (h : Hit) : State :=
  let all := s.pairingsOf e g h
  let ps := all.filter fun p => p.1.shot.takesEdge (8 * g + h.chan) false true
  let s := s.setEng e fun y =>
    { y with recent := (h :: y.recent).filter fun z =>
        decide (h.l.tick ≤ z.l.tick + 4096) || y.bursts.any fun b => decide (b.hit.l.tick ≤ z.l.tick + 4096) }
  if all.isEmpty then s.setEng e fun y => y.countOutside g h.chan h.l
  else
    let s := ps.foldl (fun t p => t.pairOne e g h p.1 p.2.1 p.2.2) s
    let gs := (ps.map fun p => p.1.group).eraseDups
    s.setEng e fun y => gs.foldl (fun y i => y.setGroup i fun z =>
      { z with inside := z.inside.modify h.chan fun n => min 0xFFFFFFFF (n + 1) }) y

/-- A released stamp qualifies for its lane's calibration outside every Pass, or as an L-rising stamp in a Pass
that has no U-rising stamp within 4 ticks (06 R157). -/
def State.qualifyStamp (s : State) (g chan : Nat) (h : HitStamp) (rest : List HitStamp) : State :=
  let c := 8 * g + chan
  let inPass := (s.chanShots c).any fun x =>
    decide (2048 * (x.window c).1 ≤ 32 * (h.value : Int)) && decide (32 * (h.value : Int) < 2048 * (x.window c).2)
  let cfg := s.regN HCH_CAL_CFG
  let ok := if inPass then bit cfg 25 && h.rising && !h.upper && !(rest.any fun x =>
      x.upper && x.rising && decide (x.value ≤ h.value + 8192))
    else bit cfg 24
  if ok && decide (h.tdc < 512) then s.qualify h.tdc h.upper h.tap h.res else s

/-- A pending shot whose Pass opens at or before a stamp: the stamp waits for it (01 R28). -/
def State.openFirst (s : State) (e g : Nat) (h : HitStamp) : Bool :=
  (s.eng e).shots.any fun x => !x.opened && decide (64 * x.shot.opening g ≤ (h.value : Int))

/-- Takes the next released stamp of a group from its queue: `hit` says whether it was an L-rising stamp. -/
def State.releaseOne (s : State) (e g : Nat) : State × Bool :=
  match s.nextStamp g with
  | none => (s, true)
  | some (i, h) =>
    let c := 8 * g + i
    if s.groupMark g ≤ h.tick + s.holdFor e c h ∨ s.openFirst e g h then (s, true)
    else
      let t := (s.chan c).tdc
      let rest := (s.tdc t).queue.drop 1
      let s := (s.setTdc t fun x => { x with queue := rest }).qualifyStamp g i h rest
      if h.rising ∧ ¬ h.upper then
        (s.pairHit e g { chan := i, l := h, u := partner h rest true true (s.longestWin e c)
                         d := partner h rest false false (s.longestWin e c) }, true)
      else (s, false)

/-- Releases stamps up to and including the next hit. -/
def State.releaseHit (s : State) (e g : Nat) : Nat → State
  | 0 => s
  | fuel + 1 => match s.releaseOne e g with
    | (t, true) => t
    | (t, false) => t.releaseHit e g fuel

/-- HIT_RELEASE (01 R28; 03 R82; 06 R168): the next hit of an engine's channels that the watermarks have passed
is paired, or counted for the Plain. Nothing is released while 256 pairings wait (R182). -/
def execHitRelease (e : Fin 68) (s : State) : Res :=
  .next (match s.engineGroup e with
    | none => s
    | some g =>
      if (s.eng e).st = .failed then s
      else if 256 ≤ (s.eng e).bursts.length + (s.eng e).heldPairs.length then s.latch (HEN_STAT e) 0x1
      else (s.mergeGroup g).releaseHit e g 520)

/-- The hits of a channel that stand in its XC01 queue. -/
def State.queuedHits (s : State) (e g chan : Nat) : List Hit :=
  let win := s.longestWin e (8 * g + chan)
  let rec go : List HitStamp → List Hit
    | [] => []
    | h :: rest =>
      if h.rising && !h.upper then
        { chan := chan, l := h, u := partner h rest true true win, d := partner h rest false false win } :: go rest
      else go rest
  go (s.tdc (s.chan (8 * g + chan)).tdc).queue

/-- The pulses of a pattern that find a hit, the candidate counting as pulse 1 (03 R82): among the hits released and those
that still wait, which a full pairing queue may hold back. -/
def State.burstMatches (s : State) (e g : Nat) (h : Hit) (x : Shot) (time : Int) : Nat :=
  let ts := (((s.eng e).recent.filter fun z => z.chan == h.chan) ++ s.queuedHits e g h.chan).map fun z => (s.timed g z x).time
  ((List.range (paPulses x.pattern)).filter fun i =>
    i == 0 || ts.any fun t =>
      let d := t - (time + 64 * (paOffset x.pattern (i + 1) : Int))
      decide (-(64 * (x.burstTol : Int)) ≤ d) && decide (d ≤ 64 * (x.burstTol : Int))).length

/-- Every hit of an engine's channels up to a tick has been released. -/
def State.releasedTo (s : State) (g tick : Nat) : Bool :=
  decide (tick < s.groupMark g) && (match s.nextStamp g with
    | some (_, h) => decide (tick < h.tick)
    | none => true)

/-- BURST_TEST (03 R82): the watermark has passed the last offset of the oldest pairing that waits; it is binned
if at least BURST_K pulses found a hit. -/
def execBurstTest (e : Fin 68) (s : State) : Res :=
  .next (match s.engineGroup e, (s.eng e).bursts with
    | some g, b :: rest =>
      let s := s.mergeGroup g
      if (s.eng e).st = .failed ∨ s.groupMark g ≤ b.until_ then s
      else
        let s' := s.setEng e fun y => { y with bursts := rest }
        match (s.eng e).shots.find? fun x => x.shot.number == b.shot with
        | none => s'
        | some x =>
          let t := (s.timed g b.hit x.shot).time
          match x.shot.binOf (8 * g + b.hit.chan) t with
          | some bin => if x.shot.burstK ≤ s.burstMatches e g b.hit x.shot t then
              s'.binPairing e x.group b.hit.chan bin else s'
          | none => s'
    | _, _ => s)

/-! Closing (R186 to R191). -/

/-- The tick by which every hit of a shot has been released. -/
def Shot.closeTick (x : Shot) (g : Nat) : Nat := (-((-(x.closing g)) / 32)).toNat + 4

/-- The channels of a group whose stamps were lost while a shot's Pass was open (01 R30). -/
def State.lossFlags (s : State) (g : Nat) (x : Shot) : List Word :=
  (groupChans g).map fun c =>
    let w := x.window c
    if (s.chan c).losses.any fun t => decide (w.1 < 32 * ((t : Int) + 1)) && decide (32 * (t : Int) < w.2) then
      0x2000 else 0

/-- PASS_CLOSE (R189): a shot's Pass has closed on every channel and its hits are counted; the shot leaves
the engine as a SHOT event. Its channel flags reach its group. -/
def execPassClose (e : Fin 68) (shot : Long) (s : State) : Res :=
  .next (match s.engineGroup e, (s.eng e).shots.find? fun x => x.shot.number == shot with
    | some g, some x =>
      let s := s.mergeGroup g
      if ¬ x.opened ∨ (s.eng e).st = .failed ∨ (s.unitNow : Int) < x.shot.closing g ∨ ¬ s.releasedTo g (x.shot.closeTick g) ∨
          (s.eng e).bursts.any (fun b => b.shot == shot) then s
      else
        let x := { x with closed := true, cond := (x.cond.zip (s.lossFlags g x.shot)).map fun p => p.1 ||| p.2 }
        s.setEng e fun y =>
          let y := { y with shots := y.shots.filter fun z => z.shot.number != shot }
          let y := y.setGroup x.group fun z =>
            { z with chCond := (z.chCond.zip x.cond).map fun p => p.1 ||| p.2 }
          (y.raise { kind := .shot, tick := s.tim.shot, shot := some x, group := none }).settle
    | _, _ => s)

/-- The total length of a union of intervals that are ordered by their start, from a point on. -/
def unionFrom : Int → List (Int × Int) → Int
  | _, [] => 0
  | at_, (a, b) :: t =>
    let lo := max at_ a
    if lo < b then (b - lo) + unionFrom b t else unionFrom at_ t

/-- EXPOSURE of a channel over an interval of 25 ps units, in ns (R184): the time without an open window and
without blindness. -/
def State.exposure (s : State) (e c : Nat) (from_ till : Int) : Nat :=
  let wins := (s.eng e).passes.map fun x => x.window c
  let blind := (s.chan c).blinds.map fun b => ((b.1 : Int), (b.2 : Int))
  let iv := ((wins ++ blind).map fun w => (max from_ w.1, min till w.2)).filter fun w => decide (w.1 < w.2)
  let busy := unionFrom from_ (sortBy (fun a b => decide (a.1 < b.1)) iv)
  min 0xFFFFFFFF (roundDiv (till - from_ - busy) 40).toNat

/-- The cycles that a run has taken (R194, R195): those of its words, and of the WAIT or the stall in progress. -/
def State.runCycles (s : State) (e : Nat) (r : EngRun) : Nat :=
  r.cycles + match r.waiting with
    | some (_, stop, _, _) =>
      (nth ((s.eng e).words r.half) (s.eng e).pc (Prim.ofNat 0)).d - (stop - s.tim.shot) * 4 / 5
    | none => if r.stalled then (s.time - r.stallAt) * 4 / 5 else 0

/-- Ends the run of an engine (R189, R195): the counters advance and the sequencer is free. -/
def State.endRun (s : State) (e : Nat) : State :=
  match (s.eng e).run with
  | none => s
  | some r =>
    let s := s.bump (HEN_RUNS e)
    let s := if s.regN (HEN_MAXRUN e) < s.runCycles e r then s.setRegN (HEN_MAXRUN e) (s.runCycles e r) else s
    let s := s.setEng e fun y =>
      let y := if y.halting then y.dropEvents else y
      { y with run := none, loops := [], pc := 0, heartbeat := s.time, halting := false
               st := if y.st = .failed then .failed else if y.halting then .halted else .idle
               closed := match r.event.group with
                 | some g => if r.event.kind = .group then y.closed.set (g.index % 2) none else y.closed
                 | none => y.closed }
    (s.setEng e Engine.settle).syncEngine e

/-- The STAT records of a GROUP context that stand in RECQ carry DET_ABORT (R187; 10 R257). -/
def Engine.markStats (y : Engine) (key : Long) : Engine :=
  { y with recq := y.recq.map fun r =>
      if r.key = key ∧ r.bytes.head? = some 0x05#8 ∧ field r.bytes 1 1 % 2 = 1 then
        { r with bytes := patch r.bytes 1 (leBytes 1 (field r.bytes 1 1 ||| 8)) } else r }

/-- The event or the run that still reads a closed image is ended, and its group is marked (R187); the answer says
so. -/
def State.abortImage (s : State) (e i : Nat) : State × Bool :=
  let reads (v : EngEvent) : Bool := v.kind == .group && (match v.group with | some g => g.index % 2 == i | none => false)
  let running : Bool := match (s.eng e).run with | some r => reads r.event | none => false
  let waiting := (s.eng e).events.any reads
  if running ∨ waiting then
    let mark (y : Engine) : Engine :=
      match nth (s.eng e).closed i none with | some g => y.markStats g.first.number | none => y
    let s := s.latch (HEN_STAT e) 0x4
    let s := if running then s.endRun e else s
    (s.setEng e fun y =>
      mark { y with events := y.events.filter fun v => !reads v }, true)
  else (s, false)

/-- Copies a bank into its closed image over the window's bins, clears the copied bins and zeroes the image
beyond them (R186). -/
def Engine.copyBank (y : Engine) (i bins : Nat) : Engine :=
  let moved (p : Nat × Byte) : Bool :=
    decide (E_BANK i ≤ p.1) && decide (p.1 < E_BANK i + 0x10000) && decide ((p.1 - E_BANK i) % 0x2000 < 2 * bins)
  let cells := y.mem.filter moved
  let rest := Sparse.clear (y.mem.filter fun p => !moved p) (E_C i) 0x10000
  { y with mem := cells.foldl (fun m p => Sparse.set zeroByte m (p.1 - E_BANK i + E_C i) p.2) rest }

/-- A group can be handed over: its collection has ended, its last pairing is counted, and no earlier group has its
bank (R186, R187). -/
def Engine.canHand (y : Engine) (z : GroupCtx) : Bool :=
  y.st != .failed && z.begun && z.ended && !(y.shots.any fun x => x.group == z.index && x.shot.pid == z.first.pid) && !y.bankHeld z.index

/-- GROUP_HANDOVER (R186, R187): the collection of a group has ended and its last pairing is counted; the oldest such
group's bank is copied and cleared, its record written and its GROUP event queued, and the pairings that waited for the
bank are counted in it. A group that lost a word of its bank gets no run (17 R423). -/
def execGroupHandover (e : Fin 68) (s : State) : Res :=
  .next (match s.engineGroup e, (s.eng e).groups.find? fun z => (s.eng e).canHand z with
    | some g, some z =>
        let i := z.index % 2
        let a := s.abortImage e i
        let s := a.1
        let close := z.members.foldl (fun m x => max m (x.closing g)) (z.first.closing g)
        let from_ : Int := (s.eng e).attrFrom
        let z := { z with abort := a.2 || z.abort
                          exposure := (groupChans g).map fun c => s.exposure e c from_ (max from_ close) }
        let s := s.setEng e fun y =>
          let y := { y.copyBank i z.first.bins with
            groups := y.groups.filter fun w => w.index != z.index
            passes := y.passes.filter fun x => decide (max from_ close < x.closing g)
            closed := y.closed.set i (if z.lost then none else some z), attrFrom := (max from_ close).toNat }
          if z.lost then y.settle
          else (y.raise { kind := .group, tick := s.tim.shot, shot := none, group := some z }).settle
        s.binHeld e
    | _, _ => s)

/-! Runs (R189). -/

/-- RUN_START (R189, R196, R199): the sequencer is idle and starts a run for the oldest event: the slots and the
peak lists are zero, and an image's first run advances its generation. -/
def execRunStart (e : Fin 68) (s : State) : Res :=
  .next (
    let s := s.refreshImage e
    let y := s.eng e
    match y.events with
    | v :: rest =>
      match y.entryFor v with
      | some pc =>
        if y.st ≠ .idle then s
        else
          let h := y.halfFor v
          let fresh := match nth y.headers h none with | some z => !z.started | none => false
          let r : EngRun :=
            { event := v, half := h, cur := 0, flag := 0, cond := List.replicate 8 0, plain := List.replicate 8 0
              peaks := List.replicate 8 0, stlist := List.replicate 8 false, cycles := 0, waiting := none
              stalled := false, held := [], queued := 0, stallAt := 0, seed := s.drawn, started := s.time }
          let s := if fresh && y.imgGen == 0xFFFFFFFF then s.noteWrap 5 0 (HEN_IMG e + 4) 32 else s
          { s with drawn := s.drawn + 1 }.setEng e fun y =>
            { y with st := .busy, events := rest, run := some r, v := List.replicate 16 0, pc := pc, loops := []
                     mem := Sparse.clear y.mem E_PEAKS 1024
                     headers := y.headers.modify h (Option.map fun z => { z with started := true })
                     imgGen := if fresh then y.imgGen + 1 else y.imgGen }
      | none => s.setEng e fun y => { y with events := rest }
    | [] => s)

end Sys2Proof.Machine
end

