-- ==== Sys2Proof/Machine/Prims.lean ====
section
/-!
DEFINITION. The primitives of an engine's sequencer but for the detection primitives: control, slots, vectors,
peak lists and the record queue (07 R190 to R196; 10 R253 to R260).
-/
namespace Sys2Proof.Machine

/-! The sequencer (R189, R193, R194). -/

/-- The word that an engine's run executes next: the engine is BUSY and its run neither waits nor stalls. -/
def State.primAt (s : State) (e : Nat) : Option (Engine × EngRun × Prim) :=
  let y := s.eng e
  match y.run with
  | none => none
  | some r =>
    if y.st ≠ .busy ∨ r.waiting.isSome ∨ r.stalled then none
    else (y.words r.half)[y.pc]?.map fun w => (y, r, w)

/-- Changes the run of an engine. -/
def State.setRun (s : State) (e : Nat) (f : EngRun → EngRun) : State :=
  s.setEng e fun y => { y with run := y.run.map f }

/-- Ends LOOP bodies that end before the pc: another iteration, or the loop is left. -/
def Engine.loopBack : Nat → Engine → Engine × Nat
  | 0, y => (y, 0)
  | fuel + 1, y =>
    match y.loops with
    | f :: rest =>
      if y.pc = f.stop + 1 then
        if 0 < f.left then
          ({ y with pc := f.body, v := y.v.set f.slot ((f.done + 1 : Nat) : Int)
                    loops := { f with left := f.left - 1, done := f.done + 1 } :: rest }, 2)
        else Engine.loopBack fuel { y with loops := rest }
      else (y, 0)
    | [] => (y, 0)

/-- A run that has passed its last word ends with ADDR_ERR (R189). -/
def State.closePast (s : State) (e : Nat) : State :=
  let y := s.eng e
  match y.run with
  | none => s
  | some r =>
    if r.stalled ∨ y.pc < (y.words r.half).length then s
    else (s.latch (HEN_STAT e) 0x10).endRun e

/-- Goes on to the next word after one that took some cycles. -/
def State.nextWord (s : State) (e cycles : Nat) : State :=
  let y := s.eng e
  let b := Engine.loopBack 5 { y with pc := y.pc + 1 }
  ((s.setEng e fun _ => b.1).setRun e fun r => { r with cycles := r.cycles + cycles + b.2 }).closePast e

/-- N: the LENGTH of the window of the run's context (R190 selector 0). -/
def EngRun.bins (r : EngRun) : Nat :=
  match r.event.group, r.event.shot with
  | some g, _ => g.first.bins
  | none, some x => x.shot.bins
  | none, none => 0

/-- The cycles of a word in a run (R194): by its bins, the entries of its peak list and its kept hits. -/
def EngRun.cyclesOf (r : EngRun) (w : Prim) : Nat :=
  let h := match r.event.shot with | some x => (nth x.kept r.cur []).length | none => 0
  (w.cost r.bins (nth r.peaks r.cur 0) h).cycles

/-- Carries out the word at the pc if it has the row's code, and goes on. -/
def State.prim (s : State) (e op : Nat) (f : State → Engine → EngRun → Prim → State) : State :=
  match s.primAt e with
  | some (y, r, w) => if w.op = op then (f s y r w).nextWord e (r.cyclesOf w) else s
  | none => s

/-- A primitive that changes the engine only. -/
def State.primEng (s : State) (e op : Nat) (f : Engine → EngRun → Prim → Engine) : State :=
  s.prim e op fun s y r w => s.setEng e fun _ => f y r w

/-! Slots and saturation (R195). -/

/-- A value limited to 32 bits signed. -/
def sat32 (v : Int) : Int := clampInt (-2147483648) 2147483647 v

/-- A value as 32 bits signed. -/
def wrap32 (n : Nat) : Int := signed 32 n

/-- A slot. -/
def Engine.slot (y : Engine) (i : Nat) : Int := nth y.v i 0

/-- Sets a slot of an engine; a value out of range saturates and sets VSAT. -/
def State.setSlot (s : State) (e i : Nat) (v : Int) : State :=
  let s := s.setEng e fun y => { y with v := y.v.set i (sat32 v) }
  if sat32 v = v then s else s.latch (HEN_STAT e) 0x8

/-! Control primitives. -/

/-- NOP (R194). -/
def execPrimNop (e : Fin 68) (s : State) : Res := .next (s.primEng e 0x00 fun y _ _ => y)

/-- END (R194): the run ends. -/
def execPrimEnd (e : Fin 68) (s : State) : Res :=
  .next (match s.primAt e with
    | some (_, _, w) =>
      if w.op = 0x01 then (s.setRun e fun r => { r with cycles := r.cycles + 1 }).endRun e else s
    | none => s)

/-- The condition of a BRANCH. -/
def branchTaken (y : Engine) (r : EngRun) (w : Prim) : Bool :=
  let v := y.slot w.b
  match w.a with
  | 0 => true
  | 1 => v == 0
  | 2 => v != 0
  | 3 => decide (v < 0)
  | 4 => decide (0 ≤ v)
  | _ => match r.event.group with | some g => bit g.sat r.cur | none => false

/-- BRANCH (R194). -/
def execPrimBranch (e : Fin 68) (s : State) : Res :=
  .next (s.primEng e 0x02 fun y r w => if branchTaken y r w then { y with pc := y.pc + w.c } else y)

/-- LOOP (R194): 2 cycles, and 2 for each iteration. -/
def execPrimLoop (e : Fin 68) (s : State) : Res :=
  .next (s.prim e 0x03 fun s y _ w =>
    (s.setEng e fun _ =>
      { y with v := y.v.set w.a 0
               loops := { slot := w.a, body := y.pc + 1, stop := y.pc + w.c, left := w.d - 1, done := 0 } :: y.loops
               }).setRun e fun r => { r with cycles := r.cycles + 3 })

/-- Engine cycles as ticks: a cycle is 1 ns, of the 1.0 GHz engine and fabric domain (01 R24). -/
def cycleTicks (n : Nat) : Nat := ceilDiv (5 * n) 4

/-- WAIT (R194): the run waits; WAIT_RESUME ends it. -/
def execPrimWait (e : Fin 68) (s : State) : Res :=
  .next (match s.primAt e with
    | some (y, _, w) =>
      if w.op = 0x04 then
        let mark := nearest 32 s.tim.shot (enc 32 (y.slot w.b))
        s.setRun e fun r => { r with waiting := some (w.a, s.tim.shot + cycleTicks w.d, w.b, mark) }
      else s
    | none => s)

/-- WAIT_RESUME (R195): D cycles have passed, or, for kind 1, the watermark has passed the tick in the slot; a
kind 1 wait that times out sets the slot to -1. -/
def execWaitResume (e : Fin 68) (s : State) : Res :=
  .next (match (s.eng e).run with
    | some r =>
      match r.waiting with
      | some (kind, stop, slot, mark) =>
        let passed : Bool := match s.engineGroup e with | some g => decide (mark < s.groupMark g) | none => false
        if ¬ (kind = 1 ∧ passed) ∧ s.tim.shot < stop then s
        else
          let w := nth ((s.eng e).words r.half) (s.eng e).pc (Prim.ofNat 0)
          let left := (stop - s.tim.shot) * 4 / 5
          let s := s.setRun e fun r => { r with waiting := none }
          let s := if kind = 1 ∧ ¬ passed then s.setSlot e slot (-1) else s
          s.nextWord e (w.d - left)
      | none => s
    | none => s)

/-- CHAN (R194). -/
def execPrimChan (e : Fin 68) (s : State) : Res :=
  .next (s.prim e 0x05 fun s y _ w =>
    s.setRun e fun r => { r with cur := if w.a = 0 then w.c else (y.slot w.b % 8).toNat })

/-- SETV (R194). -/
def execPrimSetv (e : Fin 68) (s : State) : Res :=
  .next (s.prim e 0x06 fun s _ _ w => s.setSlot e w.a (wrap32 w.d))

/-- MOVV (R194). -/
def execPrimMovv (e : Fin 68) (s : State) : Res :=
  .next (s.prim e 0x07 fun s y _ w => s.setSlot e w.a (y.slot w.b))

/-- ADDV (R194): the addend is signed. -/
def execPrimAddv (e : Fin 68) (s : State) : Res :=
  .next (s.prim e 0x08 fun s y _ w => s.setSlot e w.a (y.slot w.a + y.slot w.b + signed 16 w.c))

/-- SUBV (R194). -/
def execPrimSubv (e : Fin 68) (s : State) : Res :=
  .next (s.prim e 0x09 fun s y _ w => s.setSlot e w.a (y.slot w.a - y.slot w.b))

/-- MULV (R194): the product is shifted and rounded. -/
def execPrimMulv (e : Fin 68) (s : State) : Res :=
  .next (s.prim e 0x0A fun s y _ w => s.setSlot e w.a (roundDiv (y.slot w.a * y.slot w.b) (2 ^ w.c)))

/-- The address of LDV and STV behind SCRATCH, when the word lies in its range: LDV reaches the peak lists too. -/
def scratchAt (y : Engine) (w : Prim) (size : Nat) : Option Nat :=
  let a := (w.d : Int) + 4 * y.slot w.b
  if 0 ≤ a ∧ a + 4 ≤ (size : Int) then some a.toNat else none

/-- LDV (R194, R195). -/
def execPrimLdv (e : Fin 68) (s : State) : Res :=
  .next (s.prim e 0x0B fun s y _ w =>
    match scratchAt y w 0x2000 with
    | some a => s.setSlot e w.a (wrap32 (leNat (y.bytes (E_SCRATCH + a) 4)))
    | none => (s.latch (HEN_STAT e) 0x10).setSlot e w.a 0)

/-- STV (R194, R195). -/
def execPrimStv (e : Fin 68) (s : State) : Res :=
  .next (s.prim e 0x0C fun s y _ w =>
    match scratchAt y w 0x1C00 with
    | some a => s.setEng e fun y => y.store (E_SCRATCH + a) (leBytesInt 4 (y.slot w.a))
    | none => s.latch (HEN_STAT e) 0x10)

/-! The context of a run (R190). -/

/-- The shots of the context: the group's, or the one shot. -/
def EngRun.members (r : EngRun) : List Shot :=
  match r.event.group, r.event.shot with
  | some g, _ => g.members
  | none, some x => [x.shot]
  | none, none => []

/-- The shot of the context: the group's first shot, or the shot; none for INIT and TIMER. -/
def EngRun.first (r : EngRun) : Option Shot :=
  match r.event.group, r.event.shot with
  | some g, _ => some g.first
  | none, some x => some x.shot
  | none, none => none

/-- Number of shots of the context. -/
def EngRun.shots (r : EngRun) : Nat :=
  match r.event.group, r.event.shot with
  | some g, _ => g.shots
  | none, some _ => 1
  | none, none => 0

/-- OUTSIDE, EXPOSURE and INSIDE of a channel: those of the group; the spec gives a single shot none, so they
are free values in a SHOT run, and zero in INIT and TIMER runs (notes/assumptions). -/
def EngRun.counts (r : EngRun) (c : Nat) : Nat × Nat × Nat :=
  let free (label : Nat) : Nat := Config.freeNat (label + c) r.seed % 2 ^ 32
  match r.event.group, r.event.shot with
  | some g, _ => (nth g.outside c 0, nth g.exposure c 0, nth g.inside c 0)
  | none, some _ => (free 20, free 28, free 36)
  | none, none => (0, 0, 0)

/-- Pairings of a channel in the context. -/
def EngRun.pairings (r : EngRun) (c : Nat) : Nat :=
  match r.event.group, r.event.shot with
  | some g, _ => nth g.pairs c 0
  | none, some x => nth x.pairs c 0
  | none, none => 0

/-- Profile slot of the context; a free value in INIT and TIMER runs. -/
def EngRun.slotNo (r : EngRun) : Nat :=
  match r.event.group, r.event.shot with
  | some g, _ => g.slot
  | none, some x => x.slot
  | none, none => Config.freeNat 9 r.seed % 8

/-- Conditions of the context's shots and of a channel's hits; WARM as it stood at the shots' commitment. -/
def EngRun.condOf (r : EngRun) (c : Nat) : Word :=
  match r.event.group, r.event.shot with
  | some g, _ => (g.cond &&& ~~~ 0x8#32) ||| (if g.warm then 0x8 else 0) ||| nth g.chCond c 0
  | none, some x => x.shot.cond ||| nth x.cond c 0
  | none, none => 0

/-- Conditions of the context over all channels. -/
def EngRun.condAll (r : EngRun) : Word := (List.range 8).foldl (fun m c => m ||| r.condOf c) 0

/-- SAT mask of the context, a free value where there is no group, and its DET_ABORT mark. -/
def EngRun.satMask (r : EngRun) : Nat :=
  match r.event.group with | some g => g.sat | none => Config.freeNat 10 r.seed % 256
def EngRun.aborted (r : EngRun) : Bool := match r.event.group with | some g => g.abort | none => false

/-- Kept hits of the current channel: entries of KEPT. -/
def EngRun.kept (r : EngRun) : List Nat :=
  match r.event.shot with | some x => nth x.kept r.cur [] | none => []

/-- A selector of R190; none for a code that is not defined. INIT and TIMER runs see zero but in 7 and 12. -/
def EngRun.selector (r : EngRun) (d : Nat) : Option Nat :=
  let x := r.first
  let n := match x with | some z => z.number.toNat | none => 0
  let cs := r.counts r.cur
  let all := r.condAll.toNat
  match d with
  | 0 => some r.bins
  | 1 => some (match x with | some z => z.binExp | none => 0)
  | 2 => some (match x with | some z => z.start % 2 ^ 32 | none => 0)
  | 3 => some (match x with | some z => z.start / 2 ^ 32 | none => 0)
  | 4 => some (n % 2 ^ 32)
  | 5 => some (n / 2 ^ 32)
  | 6 => some r.shots
  | 7 => some r.slotNo
  | 8 => some cs.1
  | 9 => some cs.2.1
  | 10 => some cs.2.2
  | 11 => some (r.pairings r.cur)
  | 12 => some r.satMask
  | 13 => some (flags [r.aborted, bit all 11, bit all 13, bit all 5])
  | 14 => some r.kept.length
  | 15 => some (match r.event.kind with | .init | .timer => 0 | _ => r.event.tick % 2 ^ 32)
  | _ => none

/-- GETD (R190). -/
def execPrimGetd (e : Fin 68) (s : State) : Res :=
  .next (s.prim e 0x0D fun s _ r w =>
    match r.selector w.c with
    | some v => s.setSlot e w.a (wrap32 v)
    | none => (s.latch (HEN_STAT e) 0x10).setSlot e w.a 0)

/-- A field of the profile of the context. -/
def Engine.profile (y : Engine) (r : EngRun) (off size : Nat) : Nat := leNat (y.bytes (E_PROFILE r.slotNo + off) size)

/-- GETP (R194). -/
def execPrimGetp (e : Fin 68) (s : State) : Res :=
  .next (s.prim e 0x0E fun s y r w => s.setSlot e w.a (wrap32 (y.profile r (4 * w.c) 4)))

/-- FLAG (R194; 10 R254). -/
def execPrimFlag (e : Fin 68) (s : State) : Res :=
  .next (s.prim e 0x0F fun s _ _ w => s.setRun e fun r => { r with flag := r.flag ||| BitVec.ofNat 32 w.d })

/-! Vectors (R193 to R195). -/

/-- A vector operand of N bins. IMG is the closed image of a GROUP run; the spec gives a SHOT run none, and its
bins are free values (notes/assumptions). -/
def Engine.vec (y : Engine) (r : EngRun) (v : Nat) : List Int :=
  let n := r.bins
  match v with
  | 0 =>
    match r.event.group with
    | some g =>
      let b := y.bytes (E_C (g.index % 2) + 0x2000 * r.cur) (2 * n)
      (List.range n).map fun i => ((field b (2 * i) 2 : Nat) : Int)
    | none => (List.range n).map fun i => ((Config.freeNat (1000 + i) r.seed % 65536 : Nat) : Int)
  | 1 | 2 =>
    let b := y.bytes (E_W (v - 1)) (4 * n)
    (List.range n).map fun i => wrap32 (field b (4 * i) 4)
  | _ => []

/-- Writes a work vector, 1 or 2, with saturation. -/
def State.setVec (s : State) (e v : Nat) (l : List Int) : State :=
  let s := s.setEng e fun y => y.store (E_W (v - 1)) (l.flatMap fun x => leBytesInt 4 (sat32 x))
  if l.all fun x => sat32 x == x then s else s.latch (HEN_STAT e) 0x8

/-- A primitive that writes a work vector from two vectors. -/
def State.primVec (s : State) (e op : Nat) (dst : Prim → Nat) (f : Engine → Prim → List Int → List Int → List Int) :
    State :=
  s.prim e op fun s y r w => s.setVec e (dst w) (f y w (y.vec r w.a) (y.vec r w.b))

/-- The fields of a kept hit: its time, and its time over threshold when present (R185). -/
def Engine.keptHit (y : Engine) (i : Nat) : Int × Option Int :=
  let b := y.bytes (E_KEPT + 16 * i) 16
  (fieldInt b 0 8, if field b 12 4 = 0xFFFFFFFF then none else some (fieldInt b 12 4))

/-- The delay of a kept hit of the context's shot in fine LSB. -/
def EngRun.delayOf (r : EngRun) (t : Int) : Int :=
  match r.first with | some x => t - 64 * (x.fire : Int) | none => t

/-- BIN (R194, R195): the kept hits of CUR are binned from V[A] in 25 ps units on; those outside the bins are not
counted. -/
def execPrimBin (e : Fin 68) (s : State) : Res :=
  .next (s.prim e 0x10 fun s y r w =>
    let n := r.bins
    let at_ := r.kept.map fun i => (r.delayOf (y.keptHit i).1 - 64 * y.slot w.a) / ((64 * 2 ^ w.c : Nat) : Int)
    let l := at_.foldl (fun (l : List Int) b => if 0 ≤ b then l.modify b.toNat (· + 1) else l) (List.replicate n 0)
    s.setVec e w.b (((y.vec r w.b).zip l).map fun p => p.1 + p.2))

/-- CLEAR (R194). -/
def execPrimClear (e : Fin 68) (s : State) : Res :=
  .next (s.prim e 0x11 fun s _ r w => s.setVec e w.a (List.replicate r.bins 0))

/-- COPY (R194). -/
def execPrimCopy (e : Fin 68) (s : State) : Res := .next (s.primVec e 0x12 Prim.b fun _ _ a _ => a)

/-- DECAY (R194). -/
def execPrimDecay (e : Fin 68) (s : State) : Res :=
  .next (s.primVec e 0x13 Prim.b fun _ w a b => (a.zip b).map fun p => p.2 - p.2 / ((2 ^ w.c : Nat) : Int) + p.1)

/-- VADD (R194). -/
def execPrimVadd (e : Fin 68) (s : State) : Res :=
  .next (s.primVec e 0x14 Prim.b fun _ _ a b => (a.zip b).map fun p => p.2 + p.1)

/-- VSCALE (R194). -/
def execPrimVscale (e : Fin 68) (s : State) : Res :=
  .next (s.primVec e 0x15 Prim.b fun y w a _ => a.map fun x => roundDiv (x * y.slot w.d) (2 ^ w.c))

/-- The Q15 taps of an image's data section. -/
def Engine.taps (y : Engine) (r : EngRun) (count off : Nat) : List Int :=
  let b := y.bytes (E_DATA r.half + off) (2 * count)
  (List.range count).map fun i => fieldInt b (2 * i) 2

/-- CONV (R194; 08 R211). -/
def execPrimConv (e : Fin 68) (s : State) : Res :=
  .next (s.prim e 0x16 fun s y r w =>
    let x := y.vec r w.a
    let h := (y.taps r w.c (w.d % 65536)).zipIdx
    s.setVec e w.b ((List.range r.bins).map fun b =>
      roundDiv (h.foldl (fun m p => m + p.1 * nth x (b + p.2) 0) 0) 32768))

/-- VSUM (R194). -/
def execPrimVsum (e : Fin 68) (s : State) : Res :=
  .next (s.prim e 0x17 fun s y r w => s.setSlot e w.b ((y.vec r w.a).foldl (· + ·) 0))

/-- An extreme value of a vector and its lowest bin; of no bins, free values. -/
def extreme (seed : Nat) (better : Int → Int → Bool) (l : List Int) : Int × Nat :=
  match l with
  | [] => (wrap32 (Config.freeNat 11 seed), Config.freeNat 15 seed)
  | a :: t => t.zipIdx.foldl (fun m p => if better p.1 m.1 then (p.1, p.2 + 1) else m) (a, 0)

/-- VMAX (R194). -/
def execPrimVmax (e : Fin 68) (s : State) : Res :=
  .next (s.prim e 0x18 fun s y r w =>
    let m := extreme r.seed (fun a b => decide (b < a)) (y.vec r w.a)
    (s.setSlot e w.b m.1).setSlot e (w.b + 1) m.2)

/-- VMIN (R194). -/
def execPrimVmin (e : Fin 68) (s : State) : Res :=
  .next (s.prim e 0x19 fun s y r w =>
    let m := extreme r.seed (fun a b => decide (a < b)) (y.vec r w.a)
    (s.setSlot e w.b m.1).setSlot e (w.b + 1) m.2)

/-! Peak lists (R196). -/

/-- A peak-list entry. -/
structure Peak where
  pos    : Int
  height : Int
  width  : Nat
  cls    : Nat
  flags  : Nat
  col    : Nat
  deriving DecidableEq, Repr

/-- The 16 bytes of an entry. -/
def Peak.bytes (p : Peak) : List Byte :=
  leBytesInt 4 p.pos ++ leBytesInt 4 p.height ++ leBytes 2 p.width ++ leBytes 1 p.cls ++ leBytes 1 p.flags ++
    leBytes 1 p.col ++ [0, 0, 0]

/-- The entry that 16 bytes hold. -/
def Peak.ofBytes (b : List Byte) : Peak :=
  { pos := fieldInt b 0 4, height := fieldInt b 4 4, width := field b 8 2, cls := field b 10 1
    flags := field b 11 1, col := field b 12 1 }

/-- The peak list of a channel. -/
def Engine.peakList (y : Engine) (r : EngRun) (c : Nat) : List Peak :=
  (List.range (nth r.peaks c 0)).map fun i => Peak.ofBytes (y.bytes (E_PEAKS + 128 * c + 16 * i) 16)

/-- Replaces the peak list of a channel; entries beyond it read as zero. -/
def State.setPeaks (s : State) (e c : Nat) (l : List Peak) : State :=
  (s.setEng e fun y => y.store (E_PEAKS + 128 * c) (slice (l.flatMap Peak.bytes) 0 128)).setRun e fun r =>
    { r with peaks := r.peaks.set c l.length }

/-- MAX_PEAKS of the image of a run. -/
def Engine.maxPeaks (y : Engine) (r : EngRun) : Nat :=
  match nth y.headers r.half none with | some h => h.maxPeaks | none => 1

/-- Runs of equal values: first bin, last bin and value. -/
def plateaus : Nat → List Int → List (Nat × Nat × Int)
  | _, [] => []
  | i, a :: t =>
    match plateaus (i + 1) t with
    | (lo, hi, b) :: rest => if a = b then (i, hi, b) :: rest else (i, i, a) :: (lo, hi, b) :: rest
    | [] => [(i, i, a)]

/-- The strict local maxima: a plateau counts at its lowest bin, and a missing neighbour is lower than any
value, so a plateau over the whole window is one. -/
def maximaFrom : Option Int → List (Nat × Nat × Int) → List (Nat × Int)
  | _, [] => []
  | left, (lo, _, v) :: rest =>
    let up : Bool := match left with | some a => decide (a < v) | none => true
    let down : Bool := match rest with | (_, _, b) :: _ => decide (b < v) | [] => true
    if up && down then (lo, v) :: maximaFrom (some v) rest else maximaFrom (some v) rest

/-- Keeps the highest maxima that stand at least D bins from every one kept before, the lower bin on a tie. -/
def keepHighest (count sep : Nat) (cands : List (Nat × Int)) : List (Nat × Int) :=
  let sorted := sortBy (fun a b => decide (b.2 < a.2) || (a.2 == b.2 && decide (a.1 < b.1))) cands
  sorted.foldl (fun kept p =>
    let far := kept.all fun q => decide (sep ≤ p.1 - q.1 + (q.1 - p.1))
    if kept.length < count ∧ far then kept ++ [p] else kept) []

/-- Contiguous bins around a bin at or above half of its height. -/
def widthAt (l : List Int) (b : Nat) (h : Int) : Nat :=
  let ok (v : Int) : Bool := decide (h ≤ 2 * v)
  ((l.drop b).takeWhile ok).length + ((l.take b).reverse.takeWhile ok).length

/-- PSCAN (R196). -/
def execPrimPscan (e : Fin 68) (s : State) : Res :=
  .next (s.prim e 0x20 fun s y r w =>
    let a := y.vec r w.a
    let n := r.bins
    let floor := if w.b = 0xF then List.replicate n (y.slot 0) else y.vec r w.b
    let cands := (maximaFrom none (plateaus 0 a)).filter fun p => decide (nth floor p.1 0 < p.2)
    let kept := sortBy (fun p q => decide (p.1 < q.1)) (keepHighest w.c w.d cands)
    let s := s.setPeaks e r.cur (kept.map fun p =>
      { pos := 256 * (p.1 : Int), height := p.2, width := min 65535 (widthAt a p.1 p.2), cls := 0
        flags := if p.1 = 0 ∨ p.1 + 1 = n then 2 else 0, col := 0 })
    s.setRun e fun r => { r with stlist := r.stlist.set r.cur false })

/-- STLOAD (R194; 08 R215): the kept hits of CUR become its peak list. -/
def execPrimStload (e : Fin 68) (s : State) : Res :=
  .next (s.prim e 0x38 fun s y r w =>
    let k := match r.first with | some x => x.binExp | none => 0
    let start := match r.first, s.engineGroup e with
      | some x, some g => (x.start : Int) + nth x.adj (8 * g + r.cur) 0
      | some x, none => (x.start : Int)
      | none, _ => 0
    let ps := (r.kept.take 8).map fun i =>
      let h := y.keptHit i
      ({ pos := roundDiv (256 * (r.delayOf h.1 - 64 * start)) (64 * 2 ^ k), height := h.2.getD 0, width := 0, cls := 0
         flags := 0, col := 0 } : Peak)
    ((s.setPeaks e r.cur ps).setRun e fun r => { r with stlist := r.stlist.set r.cur true }).setSlot e w.a ps.length)

/-! The record queue (R195; 10 R253). -/

/-- RECQ entries of a record. -/
def Rec.entries (r : Rec) : Nat := r.bytes.length / 16

/-- Entries in use. -/
def Engine.recqUse (y : Engine) : Nat := y.recq.foldl (fun n r => n + r.entries) 0 - y.drained

/-- Drains entries from a queue: the records that have left, the queue, and the drained entries of its head. -/
def drainSome : Nat → Nat → List Rec → List Rec × List Rec × Nat
  | _, _, [] => ([], [], 0)
  | n, done, r :: t =>
    if r.entries ≤ n + done then
      let x := drainSome (n + done - r.entries) 0 t
      (r :: x.1, x.2.1, x.2.2)
    else ([], r :: t, n + done)

/-- The program that takes the records of a run without a shot: the lowest that runs, waits or stops and names
the engine's group (notes/assumptions). -/
def State.idleTaker (s : State) (e : Nat) : Option Nat :=
  match s.engineGroup e with
  | none => none
  | some g => ((s.present.filter fun p => (p.2.state == .running || p.2.state == .waiting || p.2.state == .stopping) &&
      bit (s.rxOf p.2.image) g).map Prod.fst).head?

/-- A record leaves RECQ for its program's stream; with no such program it is an orphan (10 R262). -/
def State.engineRec (s : State) (e : Nat) (r : Rec) : State :=
  let pid := match r.pid with | some p => (s.prog p).map fun _ => p | none => s.idleTaker e
  match pid with
  | some p => s.takeRec p r
  | none => s.orphan

/-- Drains RECQ as far as the time since its last drain allows: one entry per 160 ns. It does not while a switchover runs
(17 R424). -/
def State.drain (s : State) (e : Nat) : State :=
  let y := s.eng e
  if y.recq.isEmpty ∨ s.time < y.drainAt ∨ s.rep.switch.isSome then s
  else
    let n := (s.time - y.drainAt) / 200 + 1
    let x := drainSome n y.drained y.recq
    let s := s.setEng e fun y =>
      { y with recq := x.2.1, drained := x.2.2, drainAt := y.drainAt + 200 * n }
    x.1.foldl (fun t r => t.engineRec e r) s

/-- Moves the records that a run holds into RECQ while it has room for the next one; a record larger than
RECQ enters an empty one. -/
def Engine.admitRecs (now : Nat) : List Rec → Engine → List Rec × Engine
  | [], y => ([], y)
  | x :: t, y =>
    if y.recq.isEmpty then
      Engine.admitRecs now t { y with recq := [x], drained := 0, drainAt := now + 200 }
    else if y.recqUse + x.entries ≤ 512 then Engine.admitRecs now t { y with recq := y.recq ++ [x] }
    else (x :: t, y)

/-- Carries the records that the run holds into RECQ as far as it has room (R195); the run waits while one is
left or RECQ holds more than its 512 entries. The cycles of the wait count in the run (R194, R203). -/
def State.pumpRecs (s : State) (e : Nat) : State :=
  let s := s.drain e
  match (s.eng e).run with
  | none => s
  | some r =>
    let x := Engine.admitRecs s.time r.held (s.eng e)
    let n := r.held.length - x.1.length
    let full := !x.1.isEmpty || decide (512 < x.2.recqUse)
    let gone := if r.stalled && !full then (s.time - r.stallAt) * 4 / 5 else 0
    let r' := { r with held := x.1, stalled := full, queued := r.queued + n, cycles := r.cycles + gone
                       stallAt := if r.stalled then r.stallAt else s.time }
    ((s.setEng e fun y => { y with recq := x.2.recq, drained := x.2.drained, drainAt := x.2.drainAt
                                   run := some r' }).bumpBy (HEN_RECS e) n)

/-- Queues the records of a primitive (R195): it waits while RECQ is full, and sets REC_STALL. -/
def State.queueRecs (s : State) (e : Nat) (l : List Rec) : State :=
  let s := (s.setRun e fun r => { r with held := r.held ++ l }).pumpRecs e
  match (s.eng e).run with
  | some r => if r.stalled then s.latch (HEN_STAT e) 0x20 else s
  | none => s

/-- EMIT_RESUME (R195): RECQ has room again. -/
def execEmitResume (e : Fin 68) (s : State) : Res :=
  .next (match (s.eng e).run with
    | some r => if r.stalled then (s.pumpRecs e).closePast e else s
    | none => s)

/-! Records (10 R253 to R260). -/

/-- The device channel of the current channel; local numbering without a group. -/
def State.devChan (s : State) (e : Nat) (r : EngRun) : Nat :=
  match s.engineGroup e with | some g => 8 * g + r.cur | none => r.cur

/-- The key shot number and origin of a record of the context (10 R263, R267). -/
def EngRun.key (r : EngRun) : Long := match r.first with | some x => x.number | none => 0
def EngRun.origin (r : EngRun) : Nat := match r.first with | some x => x.fire / 32 | none => 0

/-- The record of a context. -/
def State.ctxRec (s : State) (e : Nat) (r : EngRun) (bytes : List Byte) : Rec :=
  { bytes := padTo 16 bytes, key := r.key, chan := some (s.devChan e r), origin := r.origin, frees := none
    pid := r.first.map Shot.pid }

/-- The warm-up flag has cleared in the context of a run: between the commitment of its first shot and its event. -/
def State.cooled (s : State) (r : EngRun) : Bool :=
  match r.first with
  | some x => s.tim.warmLost.any fun t => decide (x.commit ≤ t) && decide (t ≤ r.event.tick)
  | none => false

/-- FLAGS of a record of the current channel (10 R254), but for the fields of a peak entry. -/
def State.flagWord (s : State) (r : EngRun) : Nat :=
  let c := r.condOf r.cur
  ((((if s.cooled r then c &&& ~~~ 0x8#32 else c) ||| nth r.cond r.cur 0 ||| r.flag)) &&& 0x00FFFFFF#32).toNat

/-- The fire lead of a shot in fine LSB: its stamp, or R88's substitute, from its planned fire time P, which is also what
the delays of its hits count from (08 R219). -/
def State.leadOf (s : State) (x : Shot) : Int := x.tFire.getD (s.plannedStamp x) - 64 * (x.fire : Int)

/-- The mean fire lead of the context. -/
def State.meanLead (s : State) (r : EngRun) : Rat :=
  let l := r.members.map s.leadOf
  if l.isEmpty then 0 else ((l.foldl (· + ·) 0 : Int) : Rat) / ((l.length : Nat) : Rat)

/-- The signed POS_BIAS of the context's profile. -/
def Engine.posBias (y : Engine) (r : EngRun) : Int := signed 32 (y.profile r 48 4)

/-- The delta of 08 R219 in fine LSB. -/
def State.delta (s : State) (e : Nat) (y : Engine) (r : EngRun) (p : Peak) : Rat :=
  match r.first with
  | none => 0
  | some x =>
    ((64 * ((x.start : Int) + nth x.adj (s.devChan e r) 0) : Int) : Rat) +
      (((p.pos - y.posBias r) * ((2 ^ x.binExp : Nat) : Int) : Int) : Rat) / 4 - s.meanLead r

/-- offset_ch of the current channel under the context's calibration set (00 R16). -/
def State.offsetCh (s : State) (e : Nat) (r : EngRun) : Int :=
  match r.first with
  | some x => fieldInt (s.setOf x.calVer) (CAL_OFFSET (s.devChan e r)) 4
  | none => 0

/-- RANGE in 0.0625 mm units of a time in fine LSB with group index N_G in millionths, and whether it saturates
(00 R16, R17). One fine LSB is 25/64 ps. The exact range decides whether it lies
below 0 or beyond the largest value. -/
def rangeOf (t : Rat) (ng : Nat) : Nat × Bool :=
  let mm : Rat := t * 25 / 64 * 299792458 / 1000000000 / (2 * ((ng : Nat) : Rat) / 1000000)
  let u := mm * 16
  if u < 0 then (0, true) else if 0xFFFFFFFF < u then (0xFFFFFFFF, true) else ((roundRat u).toNat, false)

/-- The first 8 bytes of an ECHO or EPOCH record (10 R255). -/
def State.echoHead (s : State) (e : Nat) (r : EngRun) (type : Nat) (p : Peak) : List Byte :=
  leBytes 1 type ++ leBytes 1 p.cls ++ leBytes 2 (min 127 p.width * 512 + s.devChan e r) ++
    leBytes 2 (r.key.toNat % 65536) ++ leBytes 2 (clampInt 0 0xFFFF p.height).toNat

/-- FLAGS of a record of a peak entry. -/
def State.peakFlags (s : State) (r : EngRun) (p : Peak) (outRange : Bool) : Nat :=
  p.col % 256 * 2 ^ 24 + (s.flagWord r ||| (b2n (bit p.flags 0) + 2 * b2n (bit p.flags 1) + 4 * b2n outRange))

/-- The ECHO record of an entry (10 R255). -/
def State.echoRec (s : State) (e : Nat) (y : Engine) (r : EngRun) (p : Peak) : Rec :=
  let ng := match r.first with | some x => x.ng | none => 1000270
  let v := rangeOf (s.delta e y r p - ((s.offsetCh e r : Int) : Rat)) ng
  s.ctxRec e r (s.echoHead e r 0x01 p ++ leBytes 4 v.1 ++ leBytes 4 (s.peakFlags r p v.2))

/-- An epoch stamp (10 R256). -/
def epochStamp (flags5 : Nat) (t : Int) : List Byte := leBytes 8 (flags5 * 2 ^ 59 + enc 59 t)

/-- TAG of the context (10 R256). -/
def EngRun.tag (r : EngRun) : Nat := match r.first with | some x => x.tag.toNat | none => 0

/-- The EPOCH record of an entry (10 R256). -/
def State.epochRec (s : State) (e : Nat) (y : Engine) (r : EngRun) (p : Peak) : Rec :=
  let ng := match r.first with | some x => x.ng | none => 1000270
  let d := s.delta e y r p - ((s.offsetCh e r : Int) : Rat)
  let fire : Rat := match r.first with
    | some x => ((64 * (x.fire : Int) : Int) : Rat) + s.meanLead r
    | none => 0
  let fl := match r.event.shot with | some x => x.shot.tFlags | none => 0
  s.ctxRec e r (s.echoHead e r 0x02 p ++ epochStamp 0 (roundRat (fire + d)) ++ epochStamp fl (roundRat fire) ++
    leBytes 4 (s.peakFlags r p (rangeOf d ng).2) ++ leBytes 2 r.tag)

/-- The encoder that serves a beam of a program. -/
def State.encoderFor (s : State) (x : Shot) : Nat := encoderOf (s.stream x.pid).desc x.beamIdx

/-- The current channel of a run is lost (17 R420): it emits no echo records, and INSIDE and OUTSIDE of its STAT records
are 0. -/
def State.chanGone (s : State) (e : Nat) (r : EngRun) : Bool := s.rep.chanLost.contains (s.devChan e r)

/-- The STAT record of the current channel (10 R257). The angle is that of the first shot that sets ANGLE, and absent
where that shot got none. -/
def State.statRec (s : State) (e : Nat) (r : EngRun) : Rec :=
  let turn := (r.members.find? fun x => bit x.flags.toNat 3).filter fun x => x.angle.isSome
  let a : Int × Nat := match turn with | some x => x.angle.getD (0, 0) | none => (0, 0)
  let enc1 : Bool := match turn with | some x => s.encoderFor x == 1 | none => false
  let n := r.counts r.cur
  let cs := if s.chanGone e r then (0, n.2.1, 0) else n
  s.ctxRec e r (([0x05] : List Byte) ++ leBytes 1 (flags [r.event.group.isSome, turn.isSome, enc1, r.aborted]) ++
    leBytes 2 (s.devChan e r) ++ leBytes 6 r.key.toNat ++ leBytes 2 r.shots ++ leBytesInt 4 (nth r.plain r.cur 0) ++
    leBytes 4 cs.1 ++ leBytes 4 cs.2.1 ++ leBytes 4 cs.2.2 ++ leBytes 4 (s.flagWord r - s.flagWord r % 8) ++
    leBytesInt 4 a.1 ++ leBytes 2 a.2 ++
    leBytes 2 (match turn with | some x => x.number.toNat % 65536 | none => 0) ++
    leBytes 4 (r.pairings r.cur) ++ leBytes 2 r.tag ++ [0, 0])

/-- EMIT (R194; 08 R217; 10 R253): an ECHO or EPOCH record for each entry of CUR whose class the mask selects, or
one STAT record. A lost channel has no entry (17 R420). -/
def execPrimEmit (e : Fin 68) (s : State) : Res :=
  .next (match s.primAt e with
    | some (y, r, w) =>
      if w.op ≠ 0x30 then s
      else
        let lost := s.chanGone e r
        let ps := (y.peakList r r.cur).filter fun p => !lost && p.cls &&& w.c % 256 != 0
        let l := match w.a with
          | 1 => ps.map (s.echoRec e y r)
          | 2 => ps.map (s.epochRec e y r)
          | _ => [s.statRec e r]
        (s.queueRecs e l).nextWord e (4 + 2 * l.length)
    | none => s)

/-- DUMP (R194; 10 R258). A first bin at or past N queues a record without bins. -/
def execPrimDump (e : Fin 68) (s : State) : Res :=
  .next (s.prim e 0x31 fun s y r w =>
    let v := (y.vec r w.a).drop w.d
    let wide := w.a != 0
    let body := v.flatMap fun x => leBytesInt (if wide then 4 else 2) x
    let k := match r.first with | some x => x.binExp | none => 0
    let start : Int := match r.first with | some x => (x.start : Int) + nth x.adj (s.devChan e r) 0 | none => 0
    let len := histBytes v.length (if wide then 4 else 2)
    s.queueRecs e [s.ctxRec e r (([0x03] : List Byte) ++ leBytes 1 (b2n wide + 2 * b2n r.event.group.isSome + 16 * k) ++
      leBytes 2 (s.devChan e r) ++ leBytes 4 len ++ leBytes 6 r.key.toNat ++ leBytes 2 r.shots ++ leBytes 2 w.d ++
      leBytes 2 v.length ++ leBytes 4 (s.flagWord r - s.flagWord r % 8) ++ leBytesInt 6 start ++ leBytes 2 r.tag ++ body)])

/-- EMITEV (R194; 10 R260). -/
def execPrimEmitev (e : Fin 68) (s : State) : Res :=
  .next (s.prim e 0x32 fun s y r w =>
    let chan := match s.engineGroup e with | some g => 8 * g + r.cur | none => 0xFFFF
    let x := s.ctxRec e r (([0x06, 0] : List Byte) ++ leBytes 2 e.val ++ leBytes 2 w.c ++ [0, 0] ++ leBytesInt 4 (y.slot w.a) ++
      leBytes 2 chan ++ [0, 0] ++ epochStamp 0 (2048 * (r.event.tick : Int) - s.treeShift r.event.tick) ++ leBytes 6 r.key.toNat ++
      leBytes 2 (b2n s.tim.warm))
    s.queueRecs e [{ x with origin := r.event.tick, chan := (s.engineGroup e).map fun g => 8 * g + r.cur }])

/-- XSTAMP (R194, R195): a cross-stamp is requested; until its image is complete its first word reads 0. One request of
an engine is in flight; those behind it wait for it (12 R315; the waiting is a DESIGN CHOICE, notes/assumptions). A
command cross-stamp of source 1 sees the event (12 R313). -/
def execPrimXstamp (e : Fin 68) (s : State) : Res :=
  .next (s.prim e 0x33 fun s _ _ w =>
    (s.setEng e fun y =>
      { y.store (E_SCRATCH + w.d) (leBytes 4 0) with xstamps := y.xstamps ++ [(w.d, s.time)] }).crossSeen 1 s.fineNow)

end Sys2Proof.Machine
end

