-- ==== Sys2Proof/Machine/Detect.lean ====
section
/-!
DEFINITION. The detection primitives: Plain, ghost pedestal, Valley, refinement, Col, veils and classes
(08 R207 to R220).
-/
namespace Sys2Proof.Machine

/-- Sets a condition of the current channel for the rest of the run, and latches it in DET_STATUS (R220,
R222). -/
def State.runCond (s : State) (e : Nat) (flag status : Nat) : State :=
  (s.setRun e fun r => { r with cond := r.cond.modify r.cur (· ||| BitVec.ofNat 32 flag) }).latch DET_STATUS status

/-! Plain (R209). -/

/-- Sums of the 16 blocks of L bins from bin E on. -/
def blockSums (a : List Int) (edge l : Nat) : List Int :=
  (List.range 16).map fun i => ((a.drop (edge + l * i)).take l).foldl (· + ·) 0

/-- The Plain in counts per bin, and whether it is thin and whether it was raised to its floor. -/
def plainOf (y : Engine) (r : EngRun) (a : List Int) : Rat × Bool × Bool :=
  let src := y.profile r 4 1
  let edge := y.profile r 6 2
  let l0 := (r.bins - 2 * edge) / 16
  let body := bit src 1 && l0 != 0
  let l : Nat := if body then l0 else 0
  let m : Int := if body then (((sortBy (fun p q => decide (p < q)) (blockSums a edge l0)).drop 4).take 8).foldl (· + ·) 0
    else 0
  let cs := r.counts r.cur
  let o : Nat := if bit src 0 then cs.1 else 0
  let x : Nat := if bit src 0 then cs.2.1 else 0
  let k := match r.first with | some z => z.binExp | none => 0
  let out : Rat := if r.shots = 0 then 0 else ((40 * x : Nat) : Rat) / ((2 ^ k * r.shots : Nat) : Rat)
  let neq : Rat := out + ((8 * l : Nat) : Rat)
  let floor : Rat := ((y.profile r 8 4 : Nat) : Rat) / 65536
  if neq = 0 then (floor, true, false)
  else
    let p : Rat := (((o : Int) + m : Int) : Rat) / neq
    let thin := decide (neq < ((y.profile r 12 4 : Nat) : Rat))
    if p < floor then (floor, thin, true) else (p, thin, false)

/-- PLAIN (R209): a result past the slot saturates there and sets VSAT (07 R195). -/
def execPrimPlain (e : Fin 68) (s : State) : Res :=
  .next (s.prim e 0x23 fun s y r w =>
    let p := plainOf y r (y.vec r w.a)
    let v := roundRat (p.1 * 65536)
    let s := s.setRun e fun r => { r with plain := r.plain.set r.cur (min 0x7FFFFFFF v) }
    let s := if p.2.1 then s.runCond e 0x40000 0x1 else s
    let s := if p.2.2 then s.runCond e 0x80000 0x2 else s
    s.setSlot e w.b v)

/-! Ghost pedestal (R210). -/

/-- The weight of a band at a distance from its centre. -/
def bandWeight (h : Nat) (x : Int) : Rat :=
  if x.natAbs ≤ h then ((h + 1 - x.natAbs : Nat) : Rat) / (((h + 1) * (h + 1) : Nat) : Rat) else 0

/-- The pedestal of a bin from the peak list of the current channel. -/
def pedestal (y : Engine) (r : EngRun) (b : Nat) : Rat :=
  let k := match r.first with | some z => z.binExp | none => 0
  let interval := y.profile r 28 4
  let bands := y.profile r 33 1
  let h := (roundDiv ((32 * y.profile r 32 1 : Nat) : Int) (2 ^ k)).toNat
  if interval = 0 ∨ bands = 0 then 0
  else
    let ps := (y.peakList r r.cur).filter fun p => !bit p.flags 2
    ps.foldl (fun acc p =>
      let a : Rat := ((p.height * (y.profile r 34 2 : Int) : Int) : Rat) / 256
      (List.range bands).foldl (fun acc i =>
        let off : Rat := (((i + 1) * interval * 256 : Nat) : Rat) / ((2 ^ k : Nat) : Rat)
        let c (v : Rat) : Int := roundRat (v / 256)
        acc + a * bandWeight h ((b : Int) - c ((p.pos : Rat) + off)) +
          a * bandWeight h ((b : Int) - c ((p.pos : Rat) - off))) acc) 0

/-- GHOST (R210). -/
def execPrimGhost (e : Fin 68) (s : State) : Res :=
  .next (s.prim e 0x27 fun s y r w =>
    let ped := (List.range r.bins).map (pedestal y r)
    let s := s.setVec e w.a (((y.vec r w.a).zip ped).map fun p => p.1 - roundRat p.2)
    if ped.any fun p => roundRat p != 0 then s.runCond e 0x100000 0x4 else s)

/-! Valley (R212). -/

/-- The integer square root of a number below 2^512. -/
def isqrt (n : Nat) : Nat :=
  (List.range 256).foldr (fun b x => if (x + 2 ^ b) * (x + 2 ^ b) ≤ n then x + 2 ^ b else x) 0

/-- The scale of the fixed-point numbers of the Poisson tail. -/
def tailScale : Nat := 2 ^ 192

/-- 2^(1 / 2^i) in that scale. -/
def rootTwo : Nat → Nat
  | 0 => 2 * tailScale
  | i + 1 => isqrt (rootTwo i * tailScale)

/-- 2^(-F / 256) in that scale. -/
def tailBound (f : Nat) : Nat :=
  let p := (List.range 8).foldl (fun p b => if bit f b then p * rootTwo (8 - b) / tailScale else p) tailScale
  tailScale * tailScale / p / 2 ^ (f / 256)

/-- Poisson terms from a term on upward and downward, each from its neighbour. -/
def termsUp (nu : Rat) : Nat → Nat → Nat → List Nat
  | 0, _, _ => []
  | fuel + 1, k, t => t :: termsUp nu fuel (k + 1) (t * nu.num.toNat / (nu.den * (k + 1)))
def termsDown (nu : Rat) : Nat → Nat → List Nat
  | 0, _ => []
  | k + 1, t =>
    let t' := t * (k + 1) * nu.den / nu.num.toNat
    t' :: termsDown nu k t'

/-- The terms of a Poisson distribution by count, in proportion, far past the bound's reach. -/
def poissonTerms (nu : Rat) : List Nat :=
  let m := nu.floor.toNat
  (termsDown nu m tailScale).reverse ++ termsUp nu (m + 400) m tailScale

/-- The smallest count from n on whose tail stays under the bound. A tail within 2^-12 of the bound takes the
larger count. -/
def quantile (bound total : Nat) : Nat → Nat → List Nat → Nat
  | n, _, [] => n
  | n, tail, t :: rest =>
    if tail * 4096 * tailScale ≤ 4095 * total * bound then n else quantile bound total (n + 1) (tail - t) rest

/-- n* of R212 for a Poisson mean. -/
def nStar (nu : Rat) (f nmin : Nat) : Nat :=
  let ts := poissonTerms nu
  let total := ts.foldl (· + ·) 0
  let above := ts.drop (nmin + 1)
  quantile (tailBound f) total nmin (above.foldl (· + ·) 0) above

/-- The floor of a bin from the expected counts under the taps. Where the taps and counts leave no Poisson
equivalent although mu is positive, the spec states none: a free value. -/
def valleyOf (h lam : List Rat) (f nmin seed b : Nat) : Int :=
  let z := h.zip lam
  let mu : Rat := z.foldl (fun m p => m + p.1 * p.2) 0
  let var : Rat := z.foldl (fun m p => m + p.1 * p.1 * p.2) 0
  if mu ≤ 0 then 0x7FFFFFFF
  else if var ≤ 0 then wrap32 (Config.freeNat (6000 + b) seed)
  else (var / mu * ((nStar (mu * mu / var) f nmin : Nat) : Rat)).ceil

/-- VALLEY (R212). -/
def execPrimValley (e : Fin 68) (s : State) : Res :=
  .next (s.prim e 0x24 fun s y r w =>
    let h := (y.taps r w.c (w.d % 65536)).map fun (t : Int) => (t : Rat) / 32768
    let base : Rat := (y.slot w.a : Rat) / 65536
    let lam := (List.range r.bins).map fun j => if bit w.d 16 then base + pedestal y r j else base
    s.setVec e w.b ((List.range r.bins).map fun b =>
      valleyOf h (lam.drop b) (y.profile r 16 2) (y.profile r 18 1) r.seed b))

/-! Refinement (R213, R214). -/

/-- Changes the peak list of the current channel. -/
def State.mapPeaks (s : State) (e : Nat) (y : Engine) (r : EngRun) (f : Peak → Peak) : State :=
  s.setPeaks e r.cur ((y.peakList r r.cur).map f)

/-- PARAB of one entry. -/
def parab (a : List Int) (n : Nat) (p : Peak) : Peak :=
  let j := p.pos / 256
  if bit p.flags 2 ∨ j < 0 ∨ (n : Int) ≤ j then p
  else if j = 0 ∨ j = (n : Int) - 1 then { p with flags := p.flags ||| 2 }
  else
    let v (i : Int) : Int := nth a i.toNat 0
    let den := 2 * (v (j - 1) - 2 * v j + v (j + 1))
    if 0 ≤ den then p
    else
      let d : Rat := ((v (j - 1) - v (j + 1) : Int) : Rat) / (den : Rat)
      let d := max (-1 / 2) (min (1 / 2) d)
      { p with pos := 256 * j + roundRat (256 * d), flags := p.flags ||| 1 }

/-- PARAB (R213). -/
def execPrimParab (e : Fin 68) (s : State) : Res :=
  .next (s.prim e 0x22 fun s y r w => s.mapPeaks e y r (parab (y.vec r w.a) r.bins))

/-- CENTROID of one entry. -/
def centroid (a : List Int) (n half : Nat) (p : Peak) : Peak :=
  let j := p.pos / 256
  if bit p.flags 2 ∨ j < 0 ∨ (n : Int) ≤ j then p
  else
    let lo := max 0 (j - half)
    let hi := min ((n : Int) - 1) (j + half)
    let bs := (List.range (hi - lo + 1).toNat).map fun (i : Nat) => lo + (i : Int)
    let v (i : Int) : Int := nth a i.toNat 0
    let least := bs.foldl (fun m b => min m (v b)) (v lo)
    let sum := bs.foldl (fun m b => m + (v b - least)) 0
    let mom := bs.foldl (fun m b => m + b * (v b - least)) 0
    let p := if sum = 0 then p
      else { p with pos := roundRat ((256 * mom : Int) / (sum : Rat)), flags := p.flags ||| 1 }
    if lo = j - half ∧ hi = j + half then p else { p with flags := p.flags ||| 2 }

/-- CENTROID (R214). -/
def execPrimCentroid (e : Fin 68) (s : State) : Res :=
  .next (s.prim e 0x21 fun s y r w => s.mapPeaks e y r (centroid (y.vec r w.a) r.bins w.c))

/-! Col (R215). -/

/-- A list holds an entry, not a veil, within a span of a position. -/
def holdsNear (l : List Peak) (at_ span : Rat) : Bool :=
  l.any fun p => !bit p.flags 2 && decide (at_ - span ≤ (p.pos : Rat)) && decide ((p.pos : Rat) ≤ at_ + span)

/-- The coincidence count of an entry. -/
def colCount (y : Engine) (r : EngRun) (mode n span : Nat) (p : Peak) : Nat :=
  let w : Rat := ((256 * span : Nat) : Rat)
  if mode = 0 then
    let mask := y.profile r (20 + r.cur) 1
    let set := r.cur :: ((List.range 8).filter fun i => bit mask i).take (n - 1)
    (set.filter fun c => holdsNear (y.peakList r c) (p.pos : Rat) w).length
  else
    let pat := match r.first with | some x => x.pattern | none => []
    let k := match r.first with | some x => x.binExp | none => 0
    1 + (((List.range (min n (paPulses pat) - 1)).filter fun i =>
      holdsNear (y.peakList r r.cur)
        ((p.pos : Rat) + ((paOffset pat (i + 2) * 256 : Nat) : Rat) / ((2 ^ k : Nat) : Rat)) w)).length

/-- COLTEST (R215). -/
def execPrimColtest (e : Fin 68) (s : State) : Res :=
  .next (s.prim e 0x25 fun s y r w =>
    s.mapPeaks e y r fun p =>
      if bit p.flags 2 then p
      else
        let c := colCount y r w.a (w.d / 256) w.c p
        { p with col := c % 128 + (if c < w.d % 256 then 128 else 0) })

/-! Veils (R216). -/

/-- Runs of bins above a threshold, with gaps bridged: first and last bin of each, the last run first. -/
def veilRuns (t : Int) (gap : Nat) (a : List Int) : List (Nat × Nat) :=
  a.zipIdx.foldl (fun runs (v, i) =>
    if v ≤ t then runs
    else match runs with
      | (lo, hi) :: rest => if i - hi - 1 ≤ gap then (lo, i) :: rest else (i, i) :: (lo, hi) :: rest
      | [] => [(i, i)]) []

/-- Enters a veil in POS order, or in place of the lowest entry in its span when the list is full; none when
there is no room. -/
def enterVeil (l : List Peak) (maxPeaks : Nat) (inSpan : Peak → Bool) (v : Peak) : Option (List Peak) :=
  let put (l : List Peak) : List Peak := insertBy (fun a b => decide (a.pos < b.pos)) v l
  if l.length < maxPeaks then some (put l)
  else
    let low := (l.filter inSpan).foldl (fun (b : Option Peak) p =>
      match b with
      | none => some p
      | some q => if p.height < q.height ∨ (p.height = q.height ∧ q.pos < p.pos) then some p else b) none
    low.map fun p => put (l.erase p)

/-- VEIL (R216). -/
def execPrimVeil (e : Fin 68) (s : State) : Res :=
  .next (s.prim e 0x28 fun s y r w =>
    let a := y.vec r w.a
    let t := roundRat (((nth r.plain r.cur 0 * (y.profile r 40 4 : Int) : Int) : Rat) / 4294967296)
    let old := ((y.peakList r r.cur).filter fun p => !bit p.flags 2).map fun p =>
      if (y.peakList r r.cur).any (fun q => bit q.flags 2) ∧ p.cls = 0x80 then { p with cls := 0 } else p
    match ((veilRuns t (y.profile r 44 1) a).reverse).find? fun x => decide (w.c ≤ x.2 - x.1 + 1) with
    | none => s.setPeaks e r.cur old
    | some (lo, hi) =>
      let len := hi - lo + 1
      let sum : Int := ((a.drop lo).take len).foldl (· + ·) 0
      let v : Peak :=
        { pos := 256 * (lo : Int), height := roundRat ((sum : Rat) / ((len : Nat) : Rat)), width := min 65535 len
          cls := 0x10, flags := 4, col := 0 }
      let inSpan (p : Peak) : Bool := decide (256 * (lo : Int) ≤ p.pos) && decide (p.pos < 256 * ((hi : Int) + 1))
      match enterVeil old (y.maxPeaks r) inSpan v with
      | none => (s.setPeaks e r.cur old).runCond e 0x200000 0x8
      | some l =>
        let sub (p : Peak) : Bool := !bit p.flags 2 && inSpan p &&
          decide (p.height * 256 ≤ v.height * (y.profile r 46 2 : Int))
        let s := s.setPeaks e r.cur (l.map fun p => if sub p then { p with cls := 0x80 } else p)
        (s.bump DET_VEIL_CNT).bumpBy DET_SUBM_CNT (l.filter sub).length)

/-! Classification (R217, R218). -/

/-- The index of the best entry of a list of indices, the earlier one on a tie. -/
def bestOf (better : Nat → Nat → Bool) (l : List Nat) : Nat :=
  match l with
  | [] => 0
  | a :: t => t.foldl (fun m i => if better i m then i else m) a

/-- The strength of an entry. -/
def strength (a : List Int) (n half : Nat) (st : Bool) (p : Peak) : Int :=
  if st then p.height
  else
    let j := roundDiv p.pos 256
    (List.range (2 * half + 1)).foldl (fun (m : Int) (i : Nat) =>
      let b := j - (half : Int) + (i : Int)
      if 0 ≤ b ∧ b < (n : Int) then m + nth a b.toNat 0 else m) 0

/-- The classes of a list's entries, and how many qualified echoes were dropped. -/
def classify (l : List Peak) (power : Peak → Int) (echoMax ifrWidth : Nat) : List Peak × Nat :=
  let keeps (p : Peak) : Bool := p.cls == 0x10 || p.cls == 0x80
  let base := l.map fun p =>
    if keeps p then p
    else if bit p.col 7 then { p with cls := 0x40 }
    else if 0 < ifrWidth ∧ ifrWidth ≤ p.width then { p with cls := 0x20 }
    else { p with cls := 0 }
  let q := (List.range base.length).filter fun i => match base[i]? with | some p => p.cls == 0 | none => false
  if q.isEmpty then (base, 0)
  else
    let at_ (i : Nat) : Peak := nth base i { pos := 0, height := 0, width := 0, cls := 0, flags := 0, col := 0 }
    let pos (i : Nat) : Int := (at_ i).pos
    let pw (i : Nat) : Int := power (at_ i)
    let stronger (i j : Nat) : Bool := decide (pw j < pw i) || (pw i == pw j && decide (pos i < pos j))
    let first := bestOf (fun i j => decide (pos i < pos j)) q
    let last := bestOf (fun i j => decide (pos j < pos i)) q
    let top := bestOf stronger q
    let kept := ([top, first, last].eraseDups).take echoMax
    let rest := sortBy stronger (q.filter fun i => !([top, first, last].contains i))
    let others := rest.take (echoMax - kept.length)
    let cls (i : Nat) : Nat :=
      if kept.contains i then b2n (i == first) + 2 * b2n (i == last) + 4 * b2n (i == top)
      else if others.contains i then 8 else 0
    (base.zipIdx.map fun (p, i) => if q.contains i then { p with cls := cls i } else p,
      q.length - kept.length - others.length)

/-- CLASSIFY (R218). -/
def execPrimClassify (e : Fin 68) (s : State) : Res :=
  .next (s.prim e 0x26 fun s y r w =>
    let a := y.vec r w.a
    let c := classify (y.peakList r r.cur)
      (strength a r.bins (y.profile r 36 1) (nth r.stlist r.cur false)) (y.profile r 37 1) (y.profile r 38 2)
    let n (f : Peak → Bool) : Nat := (c.1.filter f).length
    let s := s.setPeaks e r.cur c.1
    let s := ((s.bumpBy DET_ECHO_CNT (n fun p => p.cls % 16 != 0)).bumpBy DET_COLF_CNT
      (n fun p => p.cls == 0x40)).bumpBy DET_IFR_CNT (n fun p => p.cls == 0x20)
    if c.2 = 0 then s else (s.bumpBy DET_LIMIT_CNT c.2).runCond e 0x400000 0x10)

end Sys2Proof.Machine
end

