-- ==== Sys2Proof/Machine/Wave.lean ====
section
/-!
DEFINITION. The waveform digitiser: allocation, gain ranges, lane filters, capture units from their command
to the WAVE parts, and the slice rotation (09 R223 to R252; 10 R259).
-/
namespace Sys2Proof.Machine

/-! Marks of lanes (R226, R228, R229, R230, R246). -/

/-- Marks a run of n samples of a lane from a time on. -/
def State.markLane (s : State) (l bit_ n : Nat) (from_ : Int) (invalid : Bool) (was : Nat := 0)
    (wasTaps : List Int := []) (quiet : Bool := false) : State :=
  let m : LaneMark :=
    { bit := bit_, start := from_, stop := from_ + (n * s.lanePeriod : Nat), invalid := invalid, pos := none, was := was
      wasTaps := wasTaps, quiet := quiet }
  { s with wfd.marks := upd s.wfd.marks l fun (x : List LaneMark) => (m :: x).take 1024 }

/-- Time of the first sample of a lane at or after now. -/
def State.nextSample (s : State) (l : Nat) : Int := s.sampleTime l (s.sampleFrom l s.fineNow)

/-- The units that are bound to a lane. -/
def State.laneUnits (s : State) (l : Nat) : List Nat := (List.range 16).filter fun u => s.capLane u == l

/-- Discards the averaging sequences of a lane's units (R244). -/
def State.dropLane (s : State) (l : Nat) : State := (s.laneUnits l).foldl (fun t u => t.dropSums u) s

/-! Allocation (R225, R226). -/

/-- The lanes whose positions or input differ between two allocations, and the lanes that the new one
removes. A change of the mode changes the positions of every lane. -/
def changedLanes (mode : Nat) (ins : List Byte) (mode' : Nat) (ins' : List Byte) : List Nat :=
  (List.range 16).filter fun l =>
    mode != mode' || (nth ins l 0xFF != nth ins' l 0xFF)

/-- The inputs of an allocation (R225). -/
def okLanes (mode : Nat) (ins : List Byte) : Check :=
  firstFail ((List.range 16).map fun l =>
    let i := (nth ins l 0xFF).toNat
    need (i == 0xFF || (decide (i < 16) && decide (l < 2 ^ mode) &&
      (List.range l).all fun k => (nth ins k 0xFF).toNat != i)) BAD_PARAM (20 + l))

/-- The first slice-clock edge at least 100 ns from now, in the device's own time in fine LSB: the edges follow every
5,120 fine LSB (R224, R226). -/
def State.allocEdge (s : State) : Nat := 5120 * ceilDiv (2048 * s.tim.shot + 256000) 5120

/-- Time of the first sample of a lane at or after a slice-clock edge. -/
def State.sampleAtEdge (s : State) (l edge : Nat) : Int :=
  s.sampleTime l (ceilDiv (edge - 320 * l) s.lanePeriod : Nat)

/-- The allocation accepted last: the one that the next command changes (R226). -/
def State.lastAlloc (s : State) : Nat × List Byte :=
  match s.wfd.alloc.getLast? with | some (m, ins, _) => (m, ins) | none => (s.wfd.mode, s.wfd.laneIn)

def wfAllocOp : OpSpec :=
  { opcode := 0x60, lengthOk := exactly 20
    check := fun _ d => firstFail [need (decide (field d 0 1 ≤ 4)) BAD_PARAM 16,
      okLanes (field d 0 1) (slice d 4 16)]
    act := fun s _ p =>
      let mode := field p.payload 0 1
      let ins := slice p.payload 4 16
      let ch := changedLanes s.lastAlloc.1 s.lastAlloc.2 mode ins
      s.doneIf [need ((List.range 16).all fun u => (s.capUnit u).st == .idle || !ch.contains (s.capLane u)) STATE]
        fun s => { st := { s with wfd.alloc := s.wfd.alloc ++ [(mode, ins, s.allocEdge)] } } }

/-- WF_ALLOC (R225, R226): the allocation comes into effect at a slice-clock edge. -/
def execWfAlloc (o : Origin) (r : Request) (s : State) : Res := .next (s.serve wfAllocOp o r)

/-- ALLOC_EFFECT (R226): for the oldest allocation that waits, the first slice-clock edge at least 100 ns after the command's execution is there, and the
allocation is in force; the first 64 samples from it on of every lane that changed are invalid. -/
def execAllocEffect (s : State) : Res :=
  .next (match s.wfd.alloc with
    | [] => s
    | (mode, ins, edge) :: later =>
      if 2048 * s.tim.shot < edge then s
      else
        let ch := changedLanes s.wfd.mode s.wfd.laneIn mode ins
        let s := { s with wfd.mode := mode, wfd.laneIn := ins, wfd.alloc := later }
        ch.foldl (fun t l =>
          if (t.laneInput l).isSome then (t.dropLane l).markLane l 22 64 (t.sampleAtEdge l edge) true else t.dropLane l) s)

/-! Gain ranges (R227, R228). -/

/-- The triggers of the arming shot: the opening of its Pass, as a calibrated time (18 R446), and its fire time (R239). -/
def State.shotTriggers (s : State) (u : Nat) : List (Nat × Int) :=
  match (s.capUnit u).armShot with
  | none => []
  | some x =>
    let now := ((s.seq.history.find? fun y => y.number == x.number).getD x)
    [(3, 64 * (x.window (s.fld (WFD_CAP_SRC u) 31 23)).1 - s.treeShift (x.fire / 32))] ++
      (match now.tFire with | some t => [(4, t)] | none => [])

/-- The fire time of an armed unit's arming shot is a trigger that has come and is not known yet. -/
def State.fireDue (s : State) (u : Nat) : Bool :=
  match (s.capUnit u).armShot with
  | some x => ((s.seq.history.find? fun y => y.number == x.number).getD x).tFire.isNone &&
      decide (64 * (x.fire : Int) ≤ s.ownTime s.fineNow)
  | none => false

/-- An armed unit already has a trigger, at or before now: a stamp or command that it keeps, or its arming shot's. -/
def State.triggered (s : State) (u : Nat) : Bool :=
  let m := s.fld (WFD_CAP_SRC u) 6 0
  (s.capUnit u).st == .armed &&
    ((((s.capUnit u).cands ++ s.shotTriggers u).any fun x =>
      bit m x.1 && decide ((s.capUnit u).armedAt ≤ x.2) && decide (x.2 ≤ s.fineNow)) || (bit m 4 && s.fireDue u))

/-- No unit bound to an input's lane is in POST, with a trigger that it has not fixed yet counted in, or inside an
averaging sequence; an input without a lane has its boundary at any time (R228). -/
def State.boundary (s : State) (i : Nat) : Bool :=
  match s.inputLane i with
  | none => true
  | some l => (s.laneUnits l).all fun u => (s.capUnit u).st != .post && !(s.capUnit u).seq && !s.triggered u

/-- A change of an input's range: 24 samples of its lane from the change on are invalid (R228). At a boundary they must
never fall into a post-trigger part: no trigger sample is taken whose capture would hold them there (DESIGN CHOICE,
notes/assumptions). -/
def State.setGain (s : State) (i range : Nat) (quiet : Bool := true) : State :=
  let old := nth s.wfd.gain i 0
  let s := { s with wfd.gain := s.wfd.gain.set i range }
  match s.inputLane i with
  | none => s
  | some l => s.markLane l 23 24 (s.nextSample l) true old [] quiet

def wfGainOp : OpSpec :=
  { opcode := 0x61, lengthOk := exactly 4
    check := fun _ d => firstFail [need (decide (field d 0 1 ≤ 15)) BAD_PARAM 16,
      need (decide (field d 1 1 ≤ 3)) BAD_PARAM 17, need (decide (field d 2 1 ≤ 1)) BAD_PARAM 18]
    act := fun s _ p =>
      let i := field p.payload 0 1
      let range := field p.payload 1 1
      if field p.payload 2 1 = 1 then
        let s := match s.inputLane i with | some l => s.dropLane l | none => s
        { st := s.setGain i range false }
      else if s.boundary i then { st := s.setGain i range }
      else { st := { s with wfd.gainPend := some (i, range, s.time) }, defer := true } }

/-- WF_GAIN (R228, R244): timing 0 waits for a capture boundary, timing 1 acts at the lane's next sample and
restarts the averaging sequences on the lane. -/
def execWfGain (o : Origin) (r : Request) (s : State) : Res := .next (s.serve wfGainOp o r)

/-- D_in of an input in the applied set (14 R358). -/
def State.setDin (s : State) (i : Nat) : Int := fieldInt s.appliedSet (CAL_DIN i) 4

/-- An input takes D_in and its gain trims from the applied set, marked as a change of its range (14 R363). -/
def State.takeDin (s : State) (i : Nat) : State :=
  { s with wfd.din := s.wfd.din.set i (s.setDin i), wfd.dinPend := s.wfd.dinPend.filter (· != i) }.setGain i
    (nth s.wfd.gain i 0)

/-- GAIN_BOUNDARY (R228; 14 R363): an input's capture boundary, at which a timing-0 change that waits takes
effect and is answered, unless its 100 ms are over, and an applied set that waits for the boundary comes into force. -/
def execGainBoundary (input : Fin 16) (s : State) : Res :=
  .next (
    let i := input.val
    if ¬ s.boundary i then s
    else
      let s := if s.wfd.dinPend.contains i then
          s.takeDin i else s
      match s.wfd.gainPend with
      | some (j, range, since) =>
        if j = i ∧ s.time ≤ since + ticksMs 100 then { s.setGain i range with wfd.gainPend := none }.finishDeferred OK else s
      | none => s)

/-- GAIN_TIMEOUT (R228): no boundary within 100 ms. -/
def execGainTimeout (input : Fin 16) (s : State) : Res :=
  .next (match s.wfd.gainPend with
    | some (j, _, since) =>
      if j = input.val ∧ since + ticksMs 100 ≤ s.time then
        ({ s with wfd.gainPend := none }.latch WFD_STATUS 0x10).finishDeferred STATE
      else s
    | none => s)

/-! Lane filters (R229). -/

/-- Tap i of a lane's shadow filter, Q1.14. -/
def State.shadowTap (s : State) (l i : Nat) : Int :=
  signed 16 (s.regN (WFD_FILT_COEF l + 4 * (i / 2)) / 65536 ^ (i % 2) % 65536)

/-- The shadow buffer of a lane. -/
def State.shadowFilter (s : State) (l : Nat) : LaneFilter :=
  { enabled := bit (s.regN (WFD_FILT_CTRL l)) 8
    taps := (List.range 32).map (s.shadowTap l), count := s.fld (WFD_FILT_CTRL l) 5 0 }

/-- Stores a filter as a lane's shadow buffer. -/
def State.setShadow (s : State) (l : Nat) (f : LaneFilter) : State :=
  let s := s.setRegN (WFD_FILT_CTRL l) (b2n f.enabled * 256 + f.count % 64)
  (List.range 16).foldl (fun t i => t.setRegN (WFD_FILT_COEF l + 4 * i) (tapWord f.taps i)) s

def State.laneFilter (s : State) (l : Nat) : LaneFilter :=
  nth s.wfd.filters l { enabled := false, taps := List.replicate 32 0, count := 1 }

/-- The taps that a filter applies: a disabled filter passes the samples, one tap of 1.0 (R229). -/
def LaneFilter.active (f : LaneFilter) : List Int := if f.enabled then f.taps.take f.count else [0x4000]

/-- The swap of a lane's filter buffers, all their taps and the controls, at its next sample (R229, R244). -/
def State.applyFilter (s : State) (l : Nat) : State :=
  let old := s.laneFilter l
  let new := s.shadowFilter l
  let s := (s.dropLane l).setShadow l old
  let s := { s with wfd.filters := s.wfd.filters.set l new }
  s.markLane l 21 (max old.active.length new.active.length) (s.nextSample l) true 0 old.active

/-- APPLY (R229): a write of 1 to WFD_FILT_CTRL_l.APPLY. -/
def execApply (l : Fin 16) (s : State) : Res := .next (if s.boot.held then s else s.applyFilter l)

/-- DISARM (R236): a write of 1 to WFD_CAP_CFG_u.DISARM. -/
def execDisarm (u : Fin 16) (s : State) : Res := .next (if s.boot.held then s else s.disarm u)

/-! Capture units: configuration, arming, command triggers (R234, R236, R243). -/

/-- The averaging limits of a configuration (R244). -/
def avgLimits (n pre post : Nat) : Bool := n == 0 || (decide (pre + post ≤ 16384) && decide (pre ≤ 28672))

def captureConfigOp : OpSpec :=
  { opcode := 0x62, lengthOk := exactly 12
    check := fun s d => firstFail [need (decide (field d 0 1 ≤ 15)) BAD_PARAM 16,
      need (decide (field d 6 1 ≤ 8)) BAD_PARAM 22, need (field d 8 4 != 0) BAD_PARAM 24,
      need (avgLimits (field d 6 1) (s.capPre (field d 0 1)) (field d 8 4)) BAD_PARAM 22]
    act := fun s _ p =>
      let d := p.payload
      let u := field d 0 1
      s.doneIf [need ((s.capUnit u).st == .idle) STATE] fun s =>
        { st := (((s.setFld (WFD_CAP_SRC u) 6 0 (field d 2 2)).setRegN (WFD_CAP_THRESH u) (field d 4 2)).setFld
            (WFD_CAP_CFG u) 31 28 (field d 6 1)).setRegN (WFD_CAP_POST u) (field d 8 4) } }

/-- CAPTURE_CONFIG (R234, R244). -/
def execCaptureConfig (o : Origin) (r : Request) (s : State) : Res := .next (s.serve captureConfigOp o r)

/-- The units that a mask names. -/
def maskUnits (m : Nat) : List Nat := (List.range 16).filter fun u => bit m u

def captureArmOp : OpSpec :=
  { opcode := 0x63, needsReady := true, lengthOk := exactly 4
    act := fun s _ p =>
      let us := (maskUnits (field p.payload 0 2)).filter fun u => (s.capUnit u).st == .idle
      s.doneIf [need (!s.thm.shutdown) STATE, need (us.all s.armable) STATE] fun s =>
        { st := us.foldl (fun t u => t.arm u t.fineNow none) s } }

/-- CAPTURE_ARM (R236; 14 R356). -/
def execCaptureArm (o : Origin) (r : Request) (s : State) : Res := .next (s.serve captureArmOp o r)

def captureTriggerOp : OpSpec :=
  { opcode := 0x64, lengthOk := exactly 4
    act := fun s _ p =>
      let us := maskUnits (field p.payload 0 2)
      s.doneIf [need (us.all fun u => bit (s.regN (WFD_CAP_SRC u)) 6) STATE] fun s =>
        { st := us.foldl (fun t u => t.trigger u 6 (t.nextSample (t.capLane u))) s } }

/-- CAPTURE_TRIGGER (R239, R243). -/
def execCaptureTrigger (o : Origin) (r : Request) (s : State) : Res := .next (s.serve captureTriggerOp o r)

/-! The stream of a lane (R229, R240, R246). -/

/-- The marks of a lane that cover a sample time. -/
def State.marksAt (s : State) (l : Nat) (t : Int) : List LaneMark :=
  (nth s.wfd.marks l []).filter fun m => decide (m.start ≤ t) && decide (t < m.stop)

/-- The oldest mark of a kind that begins after a sample time: what was in force before it held then. -/
def State.markAfter (s : State) (l bit_ : Nat) (t : Int) : Option LaneMark :=
  ((nth s.wfd.marks l []).filter fun m => m.bit == bit_ && decide (t < m.start)).getLast?

/-- The filter taps in force at a sample time. -/
def State.tapsAt (s : State) (l : Nat) (t : Int) : List Int :=
  match s.markAfter l 21 t with | some m => m.wasTaps | none => (s.laneFilter l).active

/-- The gain range in force at a sample time. -/
def State.rangeAt (s : State) (l : Nat) (t : Int) : Nat :=
  match s.markAfter l 23 t with
  | some m => m.was
  | none => match s.laneInput l with | some i => nth s.wfd.gain i 0 | none => 0

/-- The position that converts a lane's sample (R225). -/
def State.samplePos (s : State) (l : Nat) (k : Int) : Nat := ((k * (2 ^ s.wfd.mode : Nat) + l) % 16).toNat

/-- The slice that holds the position of a lane's sample had failed by then and no spare took it (17 R417, R419). -/
def State.badSlice (s : State) (l : Nat) (k : Int) : Bool :=
  s.wfd.slices.any fun x => x.state == 4 && x.pos == some (s.samplePos l k) && decide (x.since ≤ s.sampleTime l k)

/-- A sample is invalid (R246). -/
def State.invalidAt (s : State) (l : Nat) (k : Int) : Bool :=
  ((s.marksAt l (s.sampleTime l k)).any fun m => m.invalid && (m.pos.getD (s.samplePos l k) == s.samplePos l k)) ||
    s.badSlice l k

/-- The output code of the filter at the sample that follows `before`, newest first: x_(k-i) are the codes
converted, less 128 (R229). -/
def filterCode (taps : List Int) (newest : List Byte) : Nat :=
  let y := ((taps.zip newest).map fun (h, c) => h * ((c.toNat : Int) - 128)).foldl (· + ·) 0
  (clampInt (-128) 127 (roundDiv y 16384) + 128).toNat

/-- The filtered codes of consecutive samples of a lane: `raw` begins 32 samples before sample k0, and the
answer begins at k0. -/
def State.stream32 (s : State) (l : Nat) (k0 : Int) (raw : List Byte) : List Nat :=
  (List.range (raw.length - 32)).map fun (i : Nat) =>
    filterCode (s.tapsAt l (s.sampleTime l (k0 + i))) ((raw.drop (i + 1)).take 32).reverse

/-- The threshold detector (R240): a low and a high sample seen since ARMED and since the previous crossing. -/
structure Detector where
  low  : Bool
  high : Bool
  /-- The sample before, and whether it was invalid. -/
  prev : Option (Nat × Bool)
  /-- Crossings: the source, the time, and the sample that completes it. -/
  found : List (Nat × Int × Int)
  deriving DecidableEq, Repr

/-- One sample through the detector. -/
def State.detect (s : State) (u l : Nat) (z : Detector) (k : Int) (x : Nat) : Detector :=
  let level : Int := s.fld (WFD_CAP_THRESH u) 7 0
  let hyst : Int := s.fld (WFD_CAP_THRESH u) 15 8
  let bad := s.invalidAt l k
  let x' : Int := x
  let ts : Int := s.lanePeriod
  let tPrev := s.sampleTime l (k - 1)
  let up : Option Int := match z.prev with
    | some (p, b) =>
      if (p : Int) < level ∧ level ≤ x' ∧ z.low ∧ ¬ b ∧ ¬ bad then
        some (tPrev + roundDiv (ts * (level - p)) (x - p))
      else none
    | none => none
  let down : Option Int := match z.prev with
    | some (p, b) =>
      if level < (p : Int) ∧ x' ≤ level ∧ z.high ∧ ¬ b ∧ ¬ bad then
        some (tPrev + roundDiv (ts * (p - level)) (p - x))
      else none
    | none => none
  { low := (z.low && up.isNone) || decide (x' ≤ level - hyst)
    high := (z.high && down.isNone) || decide (level + hyst ≤ x')
    prev := some (x, bad)
    found := z.found ++ (match up with | some t => [(0, t, k)] | none => []) ++
      (match down with | some t => [(1, t, k)] | none => []) }

/-- The detector over consecutive samples from sample k0. -/
def State.detectAll (s : State) (u l : Nat) (z : Detector) (k0 : Int) (ys : List Nat) : Detector :=
  (ys.zipIdx).foldl (fun z (x, i) => s.detect u l z (k0 + i) x) z

/-! Triggers of a unit (R239, R241). -/

/-- The watermarks of the enabled stamp sources have passed a time (R241; 01 R28): that of the hit channel's
TDC and of the event input's, and the fire stamp of the arming shot is known. -/
def State.sourcesPassed (s : State) (u : Nat) (t : Int) : Bool :=
  let m := s.fld (WFD_CAP_SRC u) 6 0
  let past (w : Nat) : Bool := decide (s.ownTime t < 2048 * (w : Int))
  (!bit m 2 || past (s.watermark (s.chan (s.fld (WFD_CAP_SRC u) 31 23)).tdc)) &&
  (!bit m 5 || past (s.watermark (s.auxTdc (15 + s.fld (WFD_CAP_SRC u) 22 20)))) &&
  (!bit m 4 || (match (s.capUnit u).armShot with
    | some x => ((s.seq.history.find? fun y => y.number == x.number).getD x).tFire.isSome ||
        decide (s.ownTime t < 64 * (x.fire : Int))
    | none => true))

/-- A trigger sample whose post-trigger part of n samples would hold the marks of a timing-0 change (R228). -/
def State.quietIn (s : State) (l : Nat) (k : Int) (n : Nat) : Bool :=
  (nth s.wfd.marks l []).any fun m =>
    m.quiet && decide (m.start < s.sampleTime l (k + n)) && decide (s.sampleTime l k < m.stop)

/-- The smallest of some values. -/
def least (l : List Int) : Option Int :=
  l.foldl (fun (best : Option Int) x => match best with | none => some x | some k => some (min k x)) none

/-- The triggers that an armed unit has: source, time and trigger sample, from the crossings on its lane and from the
other enabled sources (R239 to R241); those with a sample that takes none stand in the second list. -/
def State.unitTriggers (s : State) (u : Nat) (found : List (Nat × Int × Int)) :
    List (Nat × Int × Int) × List (Nat × Int × Int) :=
  let c := s.capUnit u
  let l := s.capLane u
  let other := (c.cands ++ s.shotTriggers u).map fun (x : Nat × Int) => (x.1, x.2, s.sampleFrom l x.2)
  let all := (found ++ other).filter fun x =>
    bit (s.fld (WFD_CAP_SRC u) 6 0) x.1 && decide (c.armedAt ≤ x.2.1)
  all.partition fun x => !s.quietIn l x.2.2 (s.capPost u)

/-- TRIGGER_SAMPLE (R237, R240, R241): `codes` are the codes converted on the unit's lane from 32 samples
before the first sample recorded since ARMED. The earliest trigger sample among the enabled sources becomes
the capture's once the lane and the watermarks have passed it. Triggers of later samples in POST are missed, and those
behind POST stay with the unit (R242). -/
def execTriggerSample (u : Fin 16) (codes : List Byte) (s : State) : Res :=
  .next (
    let c := s.capUnit u
    let l := s.capLane u
    if c.st ≠ .armed then s
    else
      let k0 := s.sampleFrom l c.armedAt
      let ys := s.stream32 l k0 codes
      let z := s.detectAll u l { low := false, high := false, prev := none, found := [] } k0 ys
      let ts := s.unitTriggers u z.found
      let cands := ts.1.filter fun x => decide (x.2.2 < k0 + ys.length)
      match least (cands.map fun x => x.2.2) with
      | none => s
      | some k =>
        if s.fineNow < s.sampleTime l k ∨ ¬ s.sourcesPassed u (s.sampleTime l k) then s
        else
          let here := cands.filter fun x => x.2.2 == k
          let src := flags ((List.range 7).map fun b => here.any fun x => x.1 == b)
          let first := (List.range 7).findSome? fun b => least ((here.filter fun x => x.1 == b).map fun x => x.2.1)
          let a := (k - k0).toNat
          let z' := s.detectAll u l { low := false, high := false, prev := none, found := [] } k0 (ys.take (a + 1))
          let stop := k + s.capPost u
          let behind := (c.cands ++ s.shotTriggers u).filter fun x =>
            bit (s.fld (WFD_CAP_SRC u) 6 0) x.1 && decide (stop ≤ s.sampleFrom l x.2)
          let rest := ts.1.filter fun x => 2 ≤ x.1 && decide (k < x.2.2) && decide (x.2.2 < stop)
          let missed := (ts.2.filter fun x => decide (x.2.2 < k)) ++ rest
          let s := s.setCap u fun x =>
            { x with st := .post, trigIdx := a, trigTime := first.getD (s.sampleTime l k), srcMask := src
                     cands := behind, lowSeen := z'.low, highSeen := z'.high, seq := s.capAvg u != 0 }
          let s := if a < s.capPre u then (s.latch (WFD_CAP_STAT u) 0x20).latch WFD_STATUS 0x4 else s
          missed.foldl (fun t x => t.missTrigger u x.2.1) s)

/-! The capture's contents (R244 to R247; 10 R259). -/

/-- DDR5 was paused at a sample time (15 R378). -/
def State.dramPausedAt (s : State) (t : Int) : Bool :=
  let own := s.ownTime t
  (s.mem.pauses.any fun x => decide (2048 * (x.1 : Int) ≤ own) && decide (own < 2048 * (x.2 : Int))) ||
    s.mem.chans.any fun x => x.paused && decide (2048 * (x.pauseAt : Int) ≤ own)

/-- A sample's marks: bit 0 invalid, and the sideband bits 21 to 25. -/
def State.sampleMarks (s : State) (l : Nat) (k : Int) (code : Nat) : Nat :=
  let ms := s.marksAt l (s.sampleTime l k)
  b2n (s.invalidAt l k) + ([21, 22, 23, 24].map fun b => if ms.any fun m => m.bit == b then 2 ^ b else 0).foldl (· + ·) 0 +
    (if code = 0 ∨ code = 255 then 2 ^ 25 else 0)

/-- What a finished capture holds. -/
structure Capture where
  pre     : Nat
  samples : List Nat
  marks   : List Nat
  /-- Range at the first sample of each block. -/
  ranges  : List Nat
  first   : Int
  trigAt  : Int
  trig    : Int
  src     : Nat
  shot    : Option Shot
  short   : Bool
  /-- Bytes of a sample. -/
  width   : Nat
  deriving DecidableEq, Repr

/-- The sideband word of a block (R246). -/
def Capture.sideband (c : Capture) (b : Nat) : Nat :=
  let ms := (c.marks.drop (16 * b)).take 16
  let any_ (n : Nat) : Nat := if ms.any fun m => bit m n then 2 ^ n else 0
  nth c.ranges b 0 * 2 ^ 26 + any_ 25 + any_ 24 + any_ 23 + any_ 22 + any_ 21 +
    (if c.pre / 16 = b then 2 ^ 20 else 0) + flags (ms.map fun m => bit m 0)

/-- Bytes that a capture takes in its area (R245). -/
def Capture.size (c : Capture) : Nat := 32 + c.width * c.samples.length + 4 * ceilDiv c.samples.length 16

/-- The sideband words and samples of n samples from an index. -/
def Capture.body (c : Capture) (from_ n : Nat) : List Byte :=
  ((List.range (ceilDiv n 16)).flatMap fun b => leBytes 4 (c.sideband (from_ / 16 + b))) ++
    ((c.samples.drop from_).take n).flatMap (leBytes c.width)

/-- The 32-byte header of a part of n samples from an index (10 R259). -/
def State.waveHeader (s : State) (u : Nat) (c : Capture) (from_ n part : Nat) (isLast : Bool) : List Byte :=
  let l := s.capLane u
  ([0x04] : List Byte) ++ leBytes 1 (16 * u + l) ++ leBytes 1 (16 * s.capAvg u + s.wfd.mode) ++
    leBytes 1 (b2n s.tim.warm * 128 + b2n (s.wfd.rotDead || !bit (s.regN WFD_ROT_CFG) 16) * 64 +
      b2n (s.capUnit u).restarted * 32 + b2n c.short * 16 + (s.laneInput l).getD 0) ++
    leBytes 4 n ++ leBytesInt 8 (c.first + (from_ * s.lanePeriod : Nat)) ++
    (match c.shot with | some x => leBytes 6 x.number.toNat | none => List.replicate 6 0xFF) ++
    leBytes 2 c.pre ++ leBytes 2 (s.capUnit u).missed ++ leBytesInt 2 (c.trig - c.trigAt) ++ leBytes 1 c.src ++
    leBytes 1 (b2n isLast) ++ leBytes 2 part

/-- The WAVE parts of a capture (10 R259). -/
def State.waveParts (s : State) (u : Nat) (c : Capture) : List Rec :=
  let total := c.samples.length
  let parts := ceilDiv total 32768
  (List.range parts).map fun (i : Nat) =>
    let n := min 32768 (total - 32768 * i)
    let lastAt := c.first + ((total - 1) * s.lanePeriod : Nat)
    { bytes := padTo 16 (s.waveHeader u c (32768 * i) n i (i + 1 == parts) ++ c.body (32768 * i) n)
      key := s.keyAt (lastAt / 2048).toNat, chan := none, origin := (lastAt / 2048).toNat
      frees := some (u, c.size, s.regN (WFD_CAP_COUNT u)), pid := none }

/-- Size of a unit's capture area (R238). -/
def State.areaSize (s : State) (u : Nat) : Nat := s.regN (WFD_CAP_AREA_SIZE u)

/-- Writes a capture into the ring of its area (R238): header, sideband and samples. It is the unit's next by
WFD_CAP_COUNT. -/
def State.storeCapture (s : State) (u : Nat) (c : Capture) : State :=
  let d := s.waveHeader u c 0 c.samples.length 0 true ++ c.body 0 c.samples.length
  let room := s.areaSize u - (s.capUnit u).wr
  let s := s.writeWindow 2 (s.areaBase u + (s.capUnit u).wr) (d.take room)
  let s := s.writeWindow 2 (s.areaBase u) (d.drop room)
  let s := s.setRegN (WFD_CAP_AREA_FREE u) (s.regN (WFD_CAP_AREA_FREE u) - c.size)
  s.setCap u fun x =>
    { x with wr := if s.areaSize u = 0 then 0 else (x.wr + c.size) % s.areaSize u
             placed := ((s.regN (WFD_CAP_COUNT u) + 1) % 2 ^ 32, x.wr, c.size) :: x.placed.take 63 }

/-- Frees the area bytes of a capture (R238). -/
def State.freeArea (s : State) (u bytes : Nat) : State :=
  s.setRegN (WFD_CAP_AREA_FREE u) (min (s.areaSize u) (s.regN (WFD_CAP_AREA_FREE u) + bytes))

/-- Every record that a stream or a server still holds. -/
def State.heldRecs (s : State) : List Rec :=
  s.out.streams.flatMap (fun x =>
    x.waiting ++ (match x.openFr with | some f => f.recs | none => []) ++ x.closed.flatMap Frame.recs) ++
    s.out.servers.flatMap fun x => match x with | some (.frame f) => f.recs | _ => []

/-- Bytes of a unit's captures that are not delivered yet: they stand in its area (R238). -/
def State.heldBytes (s : State) (u : Nat) : Nat :=
  ((s.heldRecs.filterMap Rec.frees).eraseDups.filter fun x => x.1 == u).foldl (fun n x => n + x.2.1) 0

/-- The areas of the 16 capture units are free again once no part of their capture is held (10 R259). -/
def State.settleFrees (s : State) (gone : List Rec) : State :=
  let caps := ((gone.filterMap Rec.frees).foldl (fun (l : List (Nat × Nat × Nat)) x =>
    if l.contains x then l else l ++ [x]) [])
  let held := s.heldRecs.filterMap Rec.frees
  caps.foldl (fun t x =>
    if 16 ≤ x.1 || held.any fun y => y.1 == x.1 && y.2.2 == x.2.2 then t else t.freeArea x.1 x.2.1) s

/-- A finished capture goes to the record builder (10 R262): to its arming shot's program, or to every stream
whose CAP_MASK names the unit. A capture that no stream takes is an orphan, and its area is free again; so is the area
of a capture none of whose parts found room. -/
def State.handCapture (s : State) (u : Nat) (c : Capture) : State :=
  let takes (d : List Byte) : Bool := bit (stCapMask d) u
  let ps := match c.shot with
    | some x => if (s.prog x.pid).isSome then [x.pid] else []
    | none => s.takers takes
  let recs := s.waveParts u c
  match ps with
  | [] => s.orphan.freeArea u c.size
  | _ => (ps.foldl (fun t p => recs.foldl (fun t r => t.takeRec p r) t) s).settleFrees recs

/-- The capture is complete (R238, R242, R247): it is stored, counted and handed on, and the count of missed
triggers starts again. -/
def State.finishCapture (s : State) (u : Nat) (c : Capture) : State :=
  let s := (s.storeCapture u c).bump (WFD_CAP_COUNT u)
  let s := s.handCapture u c
  let s := (s.setRegN (WFD_CAP_MISS_T u) 0).setRegN (WFD_CAP_MISS_T u + 4) 0
  s.setCap u fun x =>
    { x with missed := 0, restarted := false, avgCount := 0, sums := [], avgMarks := [], avgPre := 0
             avgShort := false, avgFirst := none, seq := false }

/-- Adds an interval to the sums, aligned at the trigger sample (R244). -/
def alignAdd (pre : Nat) (a : List Nat) (pre' : Nat) (b : List Nat) (f : Nat → Nat → Nat) : List Nat :=
  let m := min pre pre'
  List.zipWith f (a.drop (pre - m)) (b.drop (pre' - m))

/-- CAPTURE_END (R235, R238, R240, R242, R244): `codes` are the codes converted on the unit's lane from 32
samples before the capture's first sample to its last. Threshold crossings behind the trigger sample were
missed. What arrived in POST while DDR5 was paused is not stored: code 128, and invalid (15 R378). An interval in which
its averaging sequence was restarted is not summed. -/
def execCaptureEnd (u : Fin 16) (codes : List Byte) (s : State) : Res :=
  .next (
    let c := s.capUnit u
    let l := s.capLane u
    let pre := min (s.capPre u) c.trigIdx
    let post := s.capPost u
    let kTrig := s.sampleFrom l c.armedAt + c.trigIdx
    let k0 := kTrig - pre
    if c.st ≠ .post ∨ codes.length ≠ 32 + pre + post ∨ s.fineNow < s.sampleTime l (kTrig + post - 1) then s
    else
      let ys := s.stream32 l k0 codes
      let gone (i : Nat) : Bool := decide (pre ≤ i) && s.dramPausedAt (s.sampleTime l (k0 + i))
      let kept := ys.zipIdx.map fun (x, i) => if gone i then 128 else x
      let ms := kept.zipIdx.map fun (x, i) => s.sampleMarks l (k0 + i) x ||| b2n (gone i)
      let prev := nth ys pre 0
      let z := s.detectAll u l
        { low := c.lowSeen, high := c.highSeen, prev := some (prev, s.invalidAt l kTrig), found := [] } (kTrig + 1)
        (ys.drop (pre + 1))
      let mask := s.fld (WFD_CAP_SRC u) 6 0
      let s := (z.found.filter fun x => bit mask x.1).foldl (fun t x => t.missTrigger u x.2.1) s
      let short := decide (c.trigIdx < s.capPre u)
      let ranges := (List.range (ceilDiv ys.length 16)).map fun (b : Nat) => s.rangeAt l (s.sampleTime l (k0 + 16 * b))
      let factor := s.stepFactor s.thm.step
      let hold := ceilDiv ((factor - 256) * ys.length * s.lanePeriod) (256 * 2048)
      let tTrig := s.sampleTime l kTrig
      let n := s.capAvg u
      let s :=
        if n = 0 then
          s.finishCapture u
            { pre := pre, samples := kept, marks := ms, ranges := ranges, first := s.sampleTime l k0, trigAt := tTrig
              trig := c.trigTime, src := c.srcMask, shot := c.armShot, short := short, width := 1 }
        else if c.disarm then (s.latch (WFD_CAP_STAT u) 0x40).latch WFD_STATUS 0x1
        else if c.void then s
        else
          let begun := c.avgCount ≠ 0
          let m := if begun then min c.avgPre pre else pre
          let sums := if begun then alignAdd c.avgPre c.sums pre kept (· + ·) else kept
          let marks := if begun then alignAdd c.avgPre c.avgMarks pre ms (· ||| ·) else ms
          let first := c.avgFirst.getD (tTrig, c.trigTime, c.srcMask, c.armShot)
          if c.avgCount + 1 < 2 ^ n then
            s.setCap u fun x =>
              { x with avgCount := x.avgCount + 1, sums := sums, avgMarks := marks, avgPre := m
                       avgShort := x.avgShort || short, avgFirst := some first }
          else
            let start := first.1 - (m * s.lanePeriod : Nat)
            s.finishCapture u
              { pre := m, samples := sums, marks := marks
                ranges := (List.range (ceilDiv sums.length 16)).map fun (b : Nat) =>
                  s.rangeAt l (start + (16 * b * s.lanePeriod : Nat))
                first := start, trigAt := first.1, trig := first.2.1, src := first.2.2.1, shot := first.2.2.2
                short := c.avgShort || short, width := 2 }
      s.setCap u fun x =>
        if c.disarm then { x with st := .idle, disarm := false, void := false, armShot := none, cands := [] }
        else
          { x with st := .rearm, holdTo := s.time + hold, void := false, lowSeen := z.low
                   highSeen := z.high, lastSeen := z.prev, seenTo := kTrig + post })

/-- The crossings in samples that a unit in REARM or HELD sees are missed (R240, R242): `codes` are the codes converted
on its lane from 32 samples before the one after the last that it has seen. -/
def State.missCrossings (s : State) (u : Nat) (codes : List Byte) : State :=
  let c := s.capUnit u
  let l := s.capLane u
  let codes := codes.take (32 + (s.sampleFrom l (s.fineNow + 1) - c.seenTo).toNat)
  let ys := s.stream32 l c.seenTo codes
  let z := s.detectAll u l { low := c.lowSeen, high := c.highSeen, prev := c.lastSeen, found := [] } c.seenTo ys
  let mask := s.fld (WFD_CAP_SRC u) 6 0
  let s := (z.found.filter fun x => bit mask x.1).foldl (fun t x => t.missTrigger u x.2.1) s
  s.setCap u fun x =>
    { x with lowSeen := z.low, highSeen := z.high, lastSeen := z.prev, seenTo := c.seenTo + ys.length }

/-- What follows REARM and HELD (R235): HELD while the area cannot hold the largest capture, else ARMED under
AUTO or within an averaging sequence, else IDLE. -/
def State.leaveRearm (s : State) (u : Nat) : State :=
  if s.regN (WFD_CAP_AREA_FREE u) < s.captureSize u then
    if (s.capUnit u).st = .held then s
    else ((s.latch (WFD_CAP_STAT u) 0x80).latch WFD_STATUS 0x2).setCap u fun x => { x with st := .held }
  else if bit (s.regN (WFD_CAP_CFG u)) 27 ∨ (s.capUnit u).seq then
    (s.missKept u (s.nextSample (s.capLane u))).arm u s.fineNow none
  else (s.missKept u s.fineNow).setCap u fun x => { x with st := .idle, armShot := none, cands := [] }

/-- REARM_DONE (R235, R238): the unit has seen these codes in REARM. -/
def execRearmDone (seen : CaptureSeen) (s : State) : Res :=
  .next (
    let u := seen.unit
    if (s.capUnit u).st ≠ .rearm ∨ s.time < (s.capUnit u).holdTo then s
    else
      let s := s.missCrossings u seen.codes
      if (s.capUnit u).disarm then
        (s.missKept u s.fineNow).setCap u fun x => { x with st := .idle, disarm := false, armShot := none, cands := [] }
      else s.leaveRearm u)

/-- CAPTURE_AREA_FREE (R235): the unit has seen these codes in HELD. -/
def execCaptureAreaFree (seen : CaptureSeen) (s : State) : Res :=
  .next (if (s.capUnit seen.unit).st = .held then (s.missCrossings seen.unit seen.codes).leaveRearm seen.unit else s)

/-! Slices (R230 to R232). -/

def State.setSlice (s : State) (j : Nat) (f : Slice → Slice) : State :=
  { s with wfd.slices := upd s.wfd.slices j f }

/-- The time of the first sample of a position from the next slice-clock edge on. -/
def State.swapTime (s : State) (pos : Nat) : Int :=
  let edge := (2048 * s.tim.shot + 5119) / 5120
  s.sampleTime (pos % 2 ^ s.wfd.mode) ((16 * edge + pos) / 2 ^ s.wfd.mode : Nat)

/-- A slice takes a position at the next slice-clock edge: the lane that uses the position marks the first
sample from it with CAL_SWAP. -/
def State.takePosition (s : State) (j pos : Nat) : State :=
  let l := pos % 2 ^ s.wfd.mode
  let t := s.swapTime pos
  (s.setSlice j fun x => { x with pos := some pos, state := 0 }).markLane l 24 1 t false

/-- A slice leaves its position in a state; the trims of an applied set that wait for it come into force (14 R363). -/
def State.leavePosition (s : State) (j state : Nat) : State :=
  let b := s.appliedSet
  s.setSlice j fun x =>
    if x.fresh then
      { x with pos := none, state := state, fresh := false, offset := fieldInt b (CAL_WS j) 2
               gain := fieldInt b (CAL_WS j + 2) 2, skew := fieldInt b (CAL_WS j + 4) 2 }
    else { x with pos := none, state := state }

/-- The fine time of the first failing block of 16 samples of a slice (17 R417). Where it lies within the 1 us of
detection is not stated: a free value, at least the block's 32 ns ago. -/
def State.failedFrom (s : State) : Int × State :=
  let x := s.draw 73
  (x.2.fineNow - (81920 + x.1 % 2478081 : Nat), x.2)

/-- The samples that a failing slice has converted from its first failing block to the swap are invalid (17 R417). -/
def State.failedSamples (s : State) (pos : Nat) : State :=
  let x := s.failedFrom
  let m : LaneMark :=
    { bit := 0, start := x.1, stop := x.2.swapTime pos, invalid := true, pos := some pos, was := 0
      wasTaps := [], quiet := false }
  { x.2 with wfd.marks := upd x.2.wfd.marks (pos % 2 ^ s.wfd.mode) fun (l : List LaneMark) => (m :: l).take 1024 }

/-- The spare has passed its shadow comparison and takes the next position, whose former holder is the spare (R230). -/
def State.rotate (s : State) (j : Nat) : State :=
  let p := s.wfd.rotPos
  let s := match (List.range 17).find? fun k => (s.wfdSlice k).pos == some p with
    | some k => s.leavePosition k 3
    | none => s
  { s.takePosition j p with wfd.rotPos := (p + 1) % 16, wfd.retried := false }

/-- A shadow comparison has failed (R231): once, and calibration is repeated; a second time, and the slice is faulty. -/
def State.shadowFailed (s : State) (j : Nat) : State :=
  if ¬ s.wfd.retried then
    { (s.latch WFD_STATUS 0x20).setSlice j fun x => { x with state := 1 } with wfd.retried := true }
  else
    let s := s.spareFails 2 j
    let s := (s.latch WFD_STATUS 0x40).setSlice j fun x => { x with state := 4 }
    let s := { s with wfd.retried := false, wfd.rotDead := true, rep.wfdFail := s.rep.wfdFail ++ [j] }
    (((s.report (causeKey 4 1 j) 7 j false).openEvent 10 7).mapAdd 2 2 j noSpare).mapMade 4 j [1]

/-- WFD_ROTATION_STEP (R230, R231): the step goes on to its next part. A step that is due begins the calibration of the
spare; the calibration ends with the trims that it found, offset, gain and skew codes, and shadowing begins; the shadowing
ends 4,096 slice samples later, with the offset difference in 1/1000 LSB and the deviation of the gain ratio in 1/1000 %
that it measured. -/
def execWfdRotationStep (shadow : List Int) (trims : List Byte) (s : State) : Res :=
  .next (match s.wfdSpare with
    | none => s
    | some j =>
      let within_ (v bound : Int) : Bool := decide (-bound ≤ v) && decide (v ≤ bound)
      if s.wfd.rotDead ∨ ¬ bit (s.regN WFD_ROT_CFG) 16 then s
      else if (s.wfdSlice j).state = 1 then
        { s.setSlice j fun x =>
            { x with state := 2, offset := fieldInt trims 0 2, gain := fieldInt trims 2 2, skew := fieldInt trims 4 2 } with
          wfd.shadowAt := s.time }
      else if (s.wfdSlice j).state = 2 then
        if s.time < s.wfd.shadowAt + 10240 then s
        else if within_ (nth shadow 0 0) 500 && within_ (nth shadow 1 0) 300 then s.rotate j
        else s.shadowFailed j
      else if s.time < s.wfd.rotAt + ticksMs (s.fld WFD_ROT_CFG 7 0) then s
      else { s.setSlice j fun x => { x with state := 1 } with wfd.rotAt := s.time })

/-- WFD_SLICE_MIGRATION (R232; 17 R417, R419, R426): a slice in service has failed, or leaves under a
REP_MIGRATE. The spare takes its position at the next slice-clock edge; after a fault rotation stops, and
without a spare the position stays on the failing slice. -/
def execWfdSliceMigration (j : Fin 17) (s : State) : Res :=
  .next (match (s.wfdSlice j).pos with
    | none => s
    | some p =>
      if (s.wfdSlice j).state = 4 then s
      else
        let x := match s.rep.migs.find? fun m => m.kind == 2 && m.failed == j.val with
          | some m => (m, s)
          | none => s.faultMig 2 j
        let m := x.1
        let s := x.2
        if m.commanded then
          match s.wfdSpare with
          | none => s.migDone m 3 j 0x3FF
          | some k =>
            let s := (s.leavePosition j 3).takePosition k p
            ({ s with rep.released := s.rep.released ++ [(2, j.val)] }.mapAdd 2 4 j k).migDone m 0 j k
        else
          let s := ((s.latch WFD_STATUS 0x40).report (causeKey 4 2 j) 7 j false).openEvent 10 7
          let s := { s with wfd.rotDead := true, rep.wfdFail := s.rep.wfdFail ++ [j.val] }
          match s.wfdSpare with
          | none =>
            let x := s.failedFrom
            let s := x.2.setSlice j fun y => { y with state := 4, since := x.1 }
            ((s.mapAdd 2 2 j noSpare).mapMade 4 j [2]).migDone m 1 j 0x3FF
          | some k =>
            let s := ((s.failedSamples p).leavePosition j 4).takePosition k p
            ((s.mapAdd 2 2 j k).repaired 4 j [2]).migDone m 0 j k)

end Sys2Proof.Machine
end

