-- ==== Sys2Proof/Machine/Flash.lean ====
section
/-!
DEFINITION. The boot flash (19 R466): its bytes, its regions, and which of two copies is used.
-/
namespace Sys2Proof.Machine

/-- A byte of an erased flash. -/
abbrev erased : Nat → Byte := fun _ => 0xFF

/-- Length of the flash in bytes (R466, R481). -/
def State.flashSize (s : State) : Nat := s.regN BOOT_FLASH_MB * 2 ^ 20

/-- Bytes of the flash. -/
def State.flashRead (s : State) (off n : Nat) : List Byte := Sparse.getMany erased s.boot.flash off n

/-- Programs bytes of the flash. A write that begins on a 64 KB boundary first erases that sector, and a
programmed bit stays 0 until then (R469). -/
def State.flashWrite (s : State) (off : Nat) (d : List Byte) : State :=
  let f := if off % 65536 = 0 then Sparse.clear s.boot.flash off 65536 else s.boot.flash
  let cells := (List.range d.length).map fun i => Sparse.get erased f (off + i) &&& nth d i 0xFF
  { s with boot.flash := Sparse.setMany erased f off cells }

/-- Writes an object of any length: every sector that it touches is erased first, so it begins on a sector. -/
def State.flashStore (s : State) (off size : Nat) (d : List Byte) : State :=
  { s with boot.flash := Sparse.setMany erased (Sparse.clear s.boot.flash off size) off d }

/-! Offsets of the regions (R466). -/
abbrev FL_HEADER := 0x000000
abbrev FL_SLOT (i : Nat) := 0x010000 + 0x400000 * i
abbrev FL_PROFILE := 0x810000
abbrev FL_CALIB (copy k : Nat) := 0x850000 + 0x100000 * copy + 0x20000 * k
abbrev FL_REPAIR (copy : Nat) := 0xA50000 + 0x10000 * copy
abbrev FL_FREE := 0xA70000

/-- Count a is later than count b under 00 R15. -/
def later32 (a b : Nat) : Bool := a != b && decide ((a + 2 ^ 32 - b) % 2 ^ 32 < 2 ^ 31)

/-- The repair map of a copy, when its CRC holds (R466; 17 R428). -/
def State.mapCopy (s : State) (copy : Nat) : Option (List Byte) :=
  let n := 32 + 16 * field (s.flashRead (FL_REPAIR copy) 32) 2 2
  let b := s.flashRead (FL_REPAIR copy) n
  if field b 0 2 = 1 ∧ n ≤ 65536 ∧ crcBlank b 8 = BitVec.ofNat 32 (field b 8 4) then some b else none

/-- The copy of the repair map that counts: the valid one whose MAPSEQ is later. -/
def State.mapNewest (s : State) : Option Nat :=
  match s.mapCopy 0, s.mapCopy 1 with
  | some a, some b => some (if later32 (field b 4 4) (field a 4 4) then 1 else 0)
  | some _, none => some 0
  | none, some _ => some 1
  | none, none => none

end Sys2Proof.Machine
end

