-- ==== Sys2Proof/Machine/RepairOps.lean ====
section
/-!
DEFINITION. Family 0xB and the repair controller: faults of units, TDC and engine migration, the control-core
switchover, self-tests and the repair map (06 R164, R165; 17 R415 to R429).
-/
namespace Sys2Proof.Machine

/-! Faults (R417). -/

/-- PARITY_ERROR (R417): an XC01 stamp parity error of TDC idx, or a binning-unit parity error of engine
idx. -/
def execParityError (engine : Bool) (idx : Nat) (s : State) : Res :=
  .next (
    if engine then (if idx < 68 then s.faultEngine idx 2 s.time else s)
    else if idx < 567 then s.faultTdc idx 2 s.time else s)

/-- HEARTBEAT_TIMEOUT (R417): no heartbeat for HB_TMO_US. -/
def execHeartbeatTimeout (e : Fin 68) (s : State) : Res :=
  .next (s.faultEngine e 3 (s.time - ticksUs (s.fld REP_CFG 15 8)))

/-- RUN_LONGER_THAN_WCET (R417): a run has taken more than 2 x HEN_WCET_e cycles. -/
def execRunLongerThanWcet (e : Fin 68) (s : State) : Res :=
  .next (match (s.eng e).run with
    | some r => if 2 * s.regN (HEN_WCET e) < s.runCycles e r then s.faultEngine e 4 s.time else s
    | none => s)

/-! TDC migration (06 R164, R165; R419, R420). -/

/-- The work of a TDC passes to another at the changeover tick: what it has queued and what its lanes still hold is
released first, the lanes see the comparators' levels, and after a fault the first stamp of the new one carries BLIND (06
R165). After a health failure the lanes of the new one start at UNCAL (06 R161). What the queue cannot take is counted
(01 R30). -/
def State.changeover (s : State) (old new : Nat) (failed : Bool) : State :=
  let x := s.tdc old
  let sick := x.lower.fault || x.upper.fault
  let level (a b : Lane) : Lane :=
    let a := if sick then a.uncal else a
    { a with level := b.level, stamped := b.level, lost := b.lost }
  let held := sortBy (fun (a b : HitStamp) => decide (a.value < b.value) || (a.value == b.value && !a.upper && b.upper))
    (x.lower.buffer ++ x.upper.buffer)
  let all := x.queue ++ held
  let s := s.setTdc new fun y =>
    { y with queue := all.take 64, markBlind := failed, lower := level y.lower x.lower, upper := level y.upper x.upper }
  let s := s.setTdc old fun y =>
    { y with queue := [], lower := { y.lower with buffer := [] }, upper := { y.upper with buffer := [] } }
  (all.drop 64).foldl (fun t h => t.dropStamp old h.tick) s

/-- The changeover tick that the repair function chooses: 4 ticks ahead, so that the matrix drives both TDCs from now on
(06 R165). -/
def State.switchTick (s : State) : Nat := s.tim.shot + 4

/-- TDC_MIGRATION (06 R165; 17 R417 to R420): the first migration of kind 0 that waits is made, when it is
that of channel c or of an auxiliary input. -/
def execTdcMigration (c : Fin 512) (s : State) : Res :=
  .next (match s.mig 0 with
    | none => s
    | some m =>
      let t := m.failed
      let failed := !m.commanded
      let w := s.tdcServes t
      if w = 0xFFFF then s.migVoid m
      else if w < 512 then
        if w ≠ c.val then s
        else match s.spareRoute c with
          | some (r, n) =>
            let s := s.changeover t n failed
            let s := s.setChan c fun x => { x with tdc := n, route := r + 1, swap := some (s.switchTick, t) }
            ((s.mapAdd 0 m.origin t n).repaired 2 t [1, 2, 3]).migDone m 0 t n
          | none =>
            if m.commanded then s.migDone m 3 t 0x3FF else
            let s := { s with rep.chanLost := s.rep.chanLost ++ [c.val] }
            let s := s.report (causeKey 2 4 (0x8000 + c)) 0xE c false
            ((s.mapAdd 0 2 t noSpare).mapMade 2 t [1, 2, 3]).mapMade 2 (0x8000 + c) [4] |>.migDone m 1 t 0x3FF
      else match s.spareAux with
        | some n =>
          let s := s.changeover t n failed
          let s := { s with hch.auxSpare := s.hch.auxSpare.set (w - 544) (some n)
                            hch.auxSwap := s.hch.auxSwap.set (w - 544) (some (s.switchTick, t)) }
          ((s.mapAdd 0 m.origin t n).repaired 2 t [1, 2, 3]).migDone m 0 t n
        | none =>
          if m.commanded then s.migDone m 3 t 0x3FF
          else ((s.mapAdd 0 2 t noSpare).mapMade 2 t [1, 2, 3]).migDone m 1 t 0x3FF)

/-! Engine migration (R419, R421 to R423). -/

/-- The window offsets that the copy takes: both closed images, SHOTS, KEPT, SCRATCH and both banks (R422). -/
def copied (off : Nat) : Bool :=
  [(E_C 0, E_W 0), (E_SHOTS, E_DATA 0), (E_SCRATCH, E_PEAKS), (E_BANK 0, E_SEQ)].any fun r =>
    decide (r.1 ≤ off) && decide (off < r.2)

/-- The memories of a spare (R422): the state copied from an engine, and the program and DATA halves loaded from Thrumi's
copies of the committed images. -/
def Engine.moveMem (spare from_ : Engine) : List (Nat × Byte) :=
  let put (m : List (Nat × Byte)) (i : Nat) : List (Nat × Byte) :=
    let c := nth from_.copies i ([], [])
    let m := Sparse.setMany zeroByte (Sparse.clear m (0x8000 * i) 0x8000) (0x8000 * i) c.1
    Sparse.setMany zeroByte (Sparse.clear m (E_DATA i) 0x2000) (E_DATA i) c.2
  put (put ((from_.mem.filter fun p => copied p.1).foldl (fun l p => Sparse.set zeroByte l p.1 p.2)
    (spare.mem.filter fun p => !copied p.1)) 0) 1

/-- The shots whose Pass on a group was open during the freeze carry STAMP_LOSS when one of its XC01 queues dropped a
stamp meanwhile (R423). -/
def State.frozenLoss (s : State) (g e since : Nat) : State :=
  let from_ := s.tim.shot - (s.time - since)
  let dropped := (groupChans g).any fun c => (s.chan c).losses.any fun t => decide (from_ ≤ t)
  if dropped then
    let hit (x : EngShot) : EngShot :=
      if x.shot.opening g < 32 * ((s.tim.shot : Int) + 1) ∧ 32 * (from_ : Int) < x.shot.closing g then
        { x with cond := x.cond.map fun w => w ||| 0x2000 } else x
    s.setEng e fun y => { y with shots := y.shots.map hit }
  else s

/-- The next group on an image carries DET_ABORT (07 R187, R190). -/
def State.markAbort (s : State) (e i : Nat) : State :=
  s.setEng e fun y =>
    { y with groups := y.groups.map fun (z : GroupCtx) => if z.index % 2 = i then { z with abort := true } else z }

/-- A word that cannot be copied intact (R423). The group of a closed image or of a bank is ended as under 07 R187: its
run does not come, its STAT records in RECQ carry DET_ABORT, and so does selector 13 of the next group on the image. -/
def State.lostWord (s : State) (e off : Nat) : State :=
  let closeOff : Option Nat :=
    if E_C 0 ≤ off ∧ off < E_C 2 then some ((off - E_C 0) / 0x10000) else none
  let bank : Option Nat :=
    if E_BANK 0 ≤ off ∧ off < E_BANK 2 then some ((off - E_BANK 0) / 0x10000) else none
  match closeOff, bank with
  | some i, _ =>
    let x := s.abortImage e i
    if x.2 then x.1.markAbort e i else s
  | none, some i => match (s.eng e).groups.find? fun z => z.index % 2 == i with
    | some z => ((s.latch (HEN_STAT e) 0x4).markAbort e i).setEng e fun y => y.setGroup z.index fun w => { w with lost := true }
    | none => s
  | none, none =>
    if E_KEPT ≤ off ∧ off < E_DATA 0 then
      let k := (off - E_KEPT) / 16
      s.setEng e fun y =>
        { y with shots := y.shots.map fun x =>
            { x with
              cond := x.cond.zipIdx.map fun (w, i) => if (nth x.kept i []).contains k then w ||| 0x2000 else w
              kept := x.kept.map fun l => if l.contains k then [] else l } }
    else if E_SCRATCH ≤ off ∧ off < E_PEAKS then
      let w := off / 4 * 4
      (s.latch (HEN_STAT e) 0x10).setEng e fun y => y.store w [0, 0, 0, 0]
    else s

/-- No engine can take a failed engine's group (R421). -/
def State.groupUnserved (s : State) (m : Migration) (g e : Nat) : State :=
  let held := match (s.eng e).run with | some r => r.held | none => []
  let lost := ((s.eng e).recq ++ held).map fun r => match r.pid with | some p => some p | none => s.idleTaker e
  let s := s.suspendAll (fun q => bit (s.rxOf q.image) g) 6
  let s := lost.foldl (fun t r => match r with | some p => t.loseRecs p 1 | none => t.orphan) s
  let s := s.setEng e fun y => { y with recq := [], run := none, events := [] }
  let s := s.report (causeKey 3 5 e) 0xE e false
  ((s.mapAdd 1 2 e noSpare).mapMade 3 e [1, 2, 3, 4, 5]).migDone m 1 e 0x3FF

/-- ENGINE_MIGRATION (R422, R423): the first migration of kind 1 that waits is made. The run in progress ends,
its records leave RECQ, the committed images are loaded and the state copied, the descriptors that waited are taken, HEN_MAP
names the spare, and the run starts again from its
entry. `uncopyable` are the window offsets of words that could not be copied intact. -/
def execEngineMigration (uncopyable : List Nat) (s : State) : Res :=
  .next (match s.mig 1 with
    | none => s
    | some m =>
      let e := m.failed
      match s.engineGroup e with
      | none => s.migVoid m
      | some g =>
        match s.spareFor 1 e with
        | none => if m.commanded then s.migDone m 3 e 0x3FF else s.groupUnserved m g e
        | some n =>
          let x := s.eng e
          let y := s.eng n
          let done := x.recq.length - (match x.run with | some r => r.queued | none => 0)
          let ev := (match x.run with | some r => [r.event] | none => []) ++ x.events
          let new : Engine :=
            { x with st := if x.st = .halted ∨ x.wasHalted then .halted else .idle, mem := y.moveMem x, run := none, events := ev
                     recq := x.recq.take done, pc := 0, loops := [], heartbeat := s.time, halting := x.halting && x.run.isSome
                     wasHalted := false, xc02 := [] }
          let s := (s.setEng n fun _ => x.xc02.foldl (fun z d => z.take d.1 d.2) new).frozenLoss g n m.stopped
          let s := s.setRegN (HEN_WCET n) (s.regN (HEN_WCET e))
          let s := s.setEng e fun z =>
            { z with run := none, events := [], recq := [], shots := [], groups := [], closed := [none, none]
                     bursts := [], recent := [], xstamps := [], loops := [], pc := 0, heldPairs := [], passes := [], xc02 := []
                     early := List.replicate 8 0, halting := false
                     st := if m.commanded then (if x.st = .halted then .halted else .idle) else .failed }
          let s := { s.setRegN (HEN_MAP g) n with rep.pool := s.rep.pool.filter (· != n) }
          let s := uncopyable.foldl (fun t off => t.lostWord n off) s.syncProfiles
          let s := if m.commanded then
              { s with rep.released := s.rep.released ++ [(1, e)] }.mapAdd 1 4 e n
            else (s.mapAdd 1 2 e n).repaired 3 e [1, 2, 3, 4]
          s.postShares.migDone m 0 e n)

/-! Control cores (R424, R425). -/

/-- The pair that does not serve. -/
def State.otherPair (s : State) : Nat := 1 - s.rep.active

/-- A fault of the active pair (R417, R425): a switchover is due, or, without a standby, the device is left
without firmware. -/
def State.faultPair (s : State) (cause : Nat) : State :=
  if ¬ s.boot.firmware ∨ s.rep.switch.isSome then s
  else
    let s := s.report (causeKey 7 cause s.rep.active) 0xE s.rep.active false
    if s.rep.standby then { s with rep.switch := some s.time }
    else
      let s := s.report (causeKey 7 3 s.rep.active) 0xE s.rep.active false
      { s with boot.firmware := false, boot.responder := true }

/-- LOCKSTEP_MISMATCH (R417, R425). -/
def execLockstepMismatch (s : State) : Res := .next (s.faultPair 1)

/-- THRUMI_WATCHDOG (R417, R425). -/
def execThrumiWatchdog (s : State) : Res := .next (s.faultPair 2)

/-- A calibration run fails (14 R366): a step with its cause, or none; every set stays. -/
def State.failRun (s : State) (r : CalRun) (step : Option Nat) (cause : Nat) : State :=
  let low := ((List.range 6).find? fun i => bit r.mask i).getD 0
  let s := s.setRegN CAL_RUN_STAT (cause * 65536 + (match step with | some k => 2 ^ (8 + k) | none => 0))
  let s := (s.latch CAL_STATUS 0x10).report (causeKey 0xC cause (step.getD low)) 0xB (step.getD low) true
  let s := { s with thm.run := none }
  match r.owner with
  | some o => s.complete o CAL_FAILED 0xB
  | none => { s with thm.retryAt := some s.time }.event CAL_FAILED 6 0xB []

/-- The background operations of the old pair end (R424): a calibration run with CAL_FAILED, cause aborted; a
snapshot assembly, a firmware activation or a self-test with an EVENT carrying INTERNAL. -/
def State.endBackground (s : State) : State :=
  let s := match s.thm.run with
    | some r => s.failRun r none 5
    | none => s
  let s := s.pk.snapshots.zipIdx.foldl (fun t (x, i) =>
    match x with
    | some y =>
      if y.done then t
      else { t with pk.snapshots := t.pk.snapshots.set i none }.complete (y.owner, y.sequence) INTERNAL 0
    | none => t) s
  let s := match s.boot.activate with
    | some (_, o, q) => { s with boot.activate := none }.complete (o, q) INTERNAL 0
    | none => s
  match s.rep.selftest with
  | some (_, some o) => { s with rep.selftest := none }.complete o INTERNAL 0xE
  | some (_, none) => { s with rep.selftest := none }
  | none => s

/-- The journal records that are not marked applied are applied again, by the final values that they hold (R424). -/
def State.replay (s : State) : State :=
  let s := s.rep.journal.foldl (fun (t : State) (x : JournalRec) =>
    if x.applied then t else x.effect.foldl (fun t e => t.setReg e.1 e.2) t) s
  { s with rep.journal := s.rep.journal.map fun (x : JournalRec) => { x with applied := true } }

/-- RECQ of every engine drains again from now on: none drained while the switchover ran (R424). -/
def State.drainsResume (s : State) : State :=
  { s with hen := s.hen.map fun (y : Engine) => { y with drainAt := max y.drainAt s.time } }

/-- CC_SWITCHOVER (R424): the standby pair becomes active. Every change of the model is one step, so each
journal record is applied when the switchover begins. -/
def execCcSwitchover (s : State) : Res :=
  .next (
    let fault : Option (Migration × State) := s.rep.switch.map fun t =>
      let x := { s with time := t }.faultMig 4 s.rep.active
      (x.1, { x.2 with time := s.time })
    if ¬ s.rep.standby then s
    else match (fault <|> (s.mig 4).map fun m => (m, s)) with
    | none => s
    | some (m, s) =>
      let old := s.rep.active
      let new := s.otherPair
      let s := s.endBackground.replay.drainsResume
      let s := { s with rep.active := new, rep.standby := false, rep.switch := none, rep.withdrawn := some old
                        boot.responder := false, pk.mspiServed := s.time }
      let s := match (if m.commanded then none else s.mig 4) with
        | some c => s.migDone c 3 old 0x3FF
        | none => s
      let s := if m.commanded then s.mapAdd 4 4 old new
        else [1, 2].foldl (fun t c => t.endCause (causeKey 7 c old)) s
      s.migDone m 0 old new)

/-- PAIR_REJOIN (R425, R426, R429): the former active pair ends its self-test and the reload of its region. -/
def execPairRejoin (ok : Bool) (s : State) : Res :=
  .next (
    let p := s.otherPair
    if s.rep.standby ∨ ¬ s.boot.firmware ∨ s.rep.map.any (fun e => e.kind == 4 && e.failed == p && e.origin != 4) then s
    else if ok then { s.mapRemove 4 p with rep.standby := true, rep.withdrawn := none }
    else ((s.report (causeKey 7 0x10 p) 0xE p false).mapAdd 4 3 p noSpare).mapMade 7 p [0x10])

/-! Family 0xB. -/

/-- The spare engines that ENG_MAP has taken from the pool (07 R181). -/
def State.takenEngines (s : State) : List Nat :=
  [64, 65, 66, 67].filter fun e => !s.rep.pool.contains e && !s.rep.engFail.contains e &&
    s.rep.map.all fun f => f.kind != 1 || (f.failed != e && f.spare != e)

/-- Spare units that serve in place of a failed or withdrawn one, engines that ENG_MAP has taken from the pool, and rows
and columns replaced (R415; 07 R181). The standby pair serves in place of one that a fault or a command withdrew. -/
def State.sparesInUse (s : State) (kind : Nat) : Nat :=
  if kind = 4 then b2n s.rep.withdrawn.isSome else
  (if kind = 1 then s.takenEngines.length else 0) +
  (s.rep.map.filter fun e => e.kind == kind &&
    (decide (5 ≤ kind) || (e.spare != noSpare && (s.rep.map.all fun f => f.kind != kind || f.failed != e.spare)))).length

def repSummaryOp : OpSpec :=
  { opcode := 0xB0, lengthOk := noPayload
    act := fun s _ _ =>
      { st := s
        payload := ((List.range 8).flatMap fun k => leBytes 2 (s.sparesInUse k)) ++ leBytes 4 s.mapLength ++
          List.replicate 12 0 } }

/-- REP_SUMMARY (R415, R428). -/
def execRepSummary (o : Origin) (r : Request) (s : State) : Res := .next (s.serve repSummaryOp o r)

/-- Instances of a kind that REP_MIGRATE takes (R426). -/
def kindCount (kind : Nat) : Nat := nth [567, 68, 17, 3, 2] kind 0

/-- A unit of a kind is failed. -/
def State.unitFailed (s : State) (kind i : Nat) : Bool :=
  match kind with
  | 0 => s.rep.tdcFail.contains i
  | 1 => s.rep.engFail.contains i
  | 2 => s.rep.wfdFail.contains i
  | 3 => s.rep.hkaFail.contains i
  | _ => false

/-- A unit of a kind serves work. -/
def State.unitServes (s : State) (kind i : Nat) : Bool :=
  match kind with
  | 0 => s.tdcServes i != 0xFFFF
  | 1 => (s.engineGroup i).isSome
  | 2 => (s.wfdSlice i).pos.isSome
  | 3 => s.hka.paths.any fun p => p.slice == some i
  | _ => i == s.rep.active

/-- A spare is left for a unit of a kind (R419). -/
def State.unitSpare (s : State) (kind i : Nat) : Bool :=
  match kind with
  | 4 => s.rep.standby
  | k => (s.spareFor k i).isSome

def repMigrateOp : OpSpec :=
  { opcode := 0xB1, lengthOk := exactly 4
    check := fun _ d => firstFail [need (decide (field d 0 1 ≤ 4)) BAD_PARAM 16,
      need (decide (field d 2 2 < kindCount (field d 0 1))) BAD_PARAM 18]
    act := fun s o p =>
      let k := field p.payload 0 1
      let i := field p.payload 2 2
      s.doneIf [need (!s.unitFailed k i && s.unitServes k i && s.unitSpare k i) STATE,
        need ((s.mig k).isNone && (k != 4 || s.rep.switch.isNone)) BUSY] fun s =>
        { st := s.queueMig k i s.time (some (o, p.sequence)), status := ACCEPTED } }

/-- REP_MIGRATE (R426). -/
def execRepMigrate (o : Origin) (r : Request) (s : State) : Res := .next (s.serve repMigrateOp o r)

def repSelftestOp : OpSpec :=
  { opcode := 0xB2, lengthOk := exactly 4
    check := fun _ d => need (decide (field d 0 4 < 64)) BAD_PARAM 16
    act := fun s o p => s.doneIf [need s.rep.selftest.isNone BUSY] fun s =>
      { st := { s with rep.selftest := some (field p.payload 0 4, some (o, p.sequence)) }, status := ACCEPTED } }

/-- REP_SELFTEST (R427). -/
def execRepSelftest (o : Origin) (r : Request) (s : State) : Res := .next (s.serve repSelftestOp o r)

/-- BIST_PERIODIC (R427, R436). -/
def execBistPeriodic (s : State) : Res :=
  .next (
    if bit (s.regN REP_CFG) 0 ∧ s.boot.firmware ∧ s.rep.selftest.isNone ∧
        s.rep.bistAt + ticksS (s.fld REP_CFG 31 16) ≤ s.time then
      { s with rep.selftest := some (0x3F, none), rep.bistAt := s.time }
    else s)

/-- The tests that judge units of a kind, as a mask: TDCs by bits 0 and 3, engines by 1, slices by 4, the
standby pair by 2, scrubber passes (kind 5) by 5 (R427). -/
def kindTests (kind : Nat) : Nat := nth [0x9, 0x2, 0x10, 0x10, 0x4, 0x20] kind 0

/-- Marks a unit that failed a self-test (R427): only a unit that serves no work is tested. -/
def State.testFailed (s : State) (mask : Nat) (x : Nat × Nat) : State :=
  let (kind, i) := x
  if mask &&& kindTests kind = 0 ∨ (kind = 4 ∧ ¬ s.rep.standby) ∨ (kind < 5 ∧ (kindCount kind ≤ i ∨ s.unitFailed kind i ∨ s.unitServes kind i)) then s
  else
    let s := ((s.latch REP_STATUS 0x4).openEvent 4 0xE).spareFails kind i
    let s := { s with rep.released := s.rep.released.erase (kind, i) }
    match kind with
    | 0 => ({ s with rep.tdcFail := s.rep.tdcFail ++ [i] }.report (causeKey 2 0x10 i) 0xE i false |>.mapAdd 0 3 i noSpare).mapMade 2 i [0x10]
    | 1 =>
      let s := { s with rep.engFail := s.rep.engFail ++ [i], rep.pool := s.rep.pool.filter (· != i) }
      ((((s.setEng i fun y => { y with st := .failed }).report (causeKey 3 0x10 i) 0xE i false).mapAdd 1 3 i noSpare).mapMade 3 i [0x10]).postShares
    | 2 =>
      let s := { s.setSlice i fun y => { y with state := 4 } with rep.wfdFail := s.rep.wfdFail ++ [i], wfd.rotDead := true }
      ((s.report (causeKey 4 0x10 i) 0xE i false).mapAdd 2 3 i noSpare).mapMade 4 i [0x10]
    | 3 =>
      let s := { s with rep.hkaFail := s.rep.hkaFail ++ [i], hka.spare := none, hka.rotDead := true }
      ((s.report (causeKey 5 0x10 i) 0xE i false).mapAdd 3 3 i noSpare).mapMade 5 i [0x10]
    | 4 => (({ s with rep.standby := false }.report (causeKey 7 0x10 i) 0xE i false).mapAdd 4 3 i noSpare).mapMade 7 i [0x10]
    | _ => s.report (causeKey 6 0x10 i) 0xE i true

/-- The self-test of a unit that a commanded migration released ends (R426, R429): it returns to the pool and its map entry
goes, or it is marked failed. One that serves again in the meantime is not tested, and its entry goes. -/
def State.releaseDone (s : State) (failed : List (Nat × Nat)) (x : Nat × Nat) : State :=
  let s := { s with rep.released := s.rep.released.erase x }
  if s.unitServes x.1 x.2 then s.mapRemove x.1 x.2
  else if failed.contains x then s.testFailed (kindTests x.1) x
  else
    (match x.1 with
    | 1 => { s with rep.pool := sortBy (fun a b => decide (a < b)) (x.2 :: s.rep.pool) }
    | 3 => { s with hka.spare := some x.2 }
    | _ => s).mapRemove x.1 x.2

/-- SELFTEST_DONE (R426, R427): `failed` are the units that failed, by kind and instance; kind 5 is a scrubber pass
with its object of R523. It ends the self-test that runs and the tests of released units. -/
def execSelftestDone (failed : List (Nat × Nat)) (s : State) : Res :=
  .next (
    let out := s.rep.released
    let s := out.foldl (fun t x => t.releaseDone failed x) s
    match s.rep.selftest with
    | none => s
    | some (mask, owner) =>
      let s := (failed.filter fun x => !out.contains x).foldl (fun t x => t.testFailed mask x) s
      let s := if bit mask 5 then { s with mem.sramAt := s.time, mem.dramAt := s.time } else s
      let s := { s with rep.selftest := none }
      match owner with
      | some o => s.complete o OK 0xE
      | none => s)

/-! Repair map (R429). -/

/-- REPAIR_MAP_WRITEBACK (R429; 19 R466): a changed map is written to the copy that does not count. -/
def execRepairMapWriteback (s : State) : Res :=
  .next (
    if s.rep.mapPend.isNone ∨ ¬ s.boot.firmware then s
    else
      let s := { s with rep.map := s.rep.map.map fun (e : MapEntry) => { e with flags := e.flags ||| 1 } }
      let copy := match s.mapNewest with | some c => 1 - c | none => 0
      { s.flashStore (FL_REPAIR copy) 0x10000 s.mapBytes with rep.mapPend := none })

end Sys2Proof.Machine
end

