-- ==== Sys2Proof/Machine/Loops.lean ====
section
/-!
DEFINITION. Family 0x7 and the control loop engine: banks, modes, one evaluation of a loop, its inputs and
outputs, the encoders (05 R115 to R142).
-/
namespace Sys2Proof.Machine

/-! Number formats (R118, R119). -/

def satQ15 (v : Int) : Int := clampInt (-32768) 32767 v
def satQ31 (v : Int) : Int := clampInt (-2147483648) 2147483647 v

/-- A Q31 value rounded to Q15, not saturated (R120). -/
def q15 (v : Int) : Int := roundDiv v 65536

/-- A sum of Q30 products multiplied by 2^e and rounded (R119). -/
def scaleSum (sum e : Int) : Int :=
  if 0 ≤ e then sum * (2 ^ e.toNat : Nat) else roundDiv sum (2 ^ (-e).toNat)

/-- A term rounded to Q15, before saturation. -/
def termQ15 (sum e : Int) : Int := scaleSum sum (e - 15)

/-- A term rounded to Q31, before saturation. -/
def termQ31 (sum e : Int) : Int := scaleSum sum (e + 1)

/-- E of an exponent byte (R125). -/
def expOf (b : Nat) : Int := signed 6 b

/-! Banks (R125). -/

def bkNm (b : List Byte) : Nat := field b 1 1 % 16
def bkNo (b : List Byte) : Nat := field b 1 1 / 16
def bkMant (b : List Byte) (off : Nat) : Int := fieldInt b off 2
def bkExp (b : List Byte) (off : Nat) : Int := expOf (field b off 1)

/-- An exponent is allowed for a loop (R118). -/
def expOk (k : Nat) (b : Nat) : Bool := decide (4 ≤ k) || (decide (0 ≤ expOf b) && decide (expOf b ≤ 3))

/-- The checks of a bank for a loop; a failing field's offset is its offset in the packet (R125). -/
def checkBank (k : Nat) (b : List Byte) : Check :=
  let at_ (ok : Bool) (off : Nat) : Check := need ok BAD_PARAM (20 + off)
  let nm := bkNm b
  let no := bkNo b
  firstFail ([ at_ (field b 0 1 == 1) 0, at_ (decide (nm + no ≤ 4)) 1, at_ (decide (field b 2 1 ≤ 2)) 2,
      at_ (if field b 2 1 == 1 then decide (field b 3 1 ≤ 0x1F) else field b 3 1 == 0) 3,
      at_ (decide (800 ≤ bankDiv b)) 4, at_ (decide (fieldInt b 8 2 < fieldInt b 10 2)) 10,
      at_ (decide (fieldInt b 12 2 ≤ fieldInt b 14 2)) 14, at_ (decide (field b 16 4 ≤ 0x7FFFFFFF)) 16,
      at_ (decide (field b 20 4 ≤ 0x7FFFFFFF)) 20, at_ (decide (field b 26 1 ≤ 31)) 26,
      at_ (expOk k (field b 40 1)) 40, at_ (expOk k (field b 41 1)) 41, at_ (expOk k (field b 42 1)) 42,
      at_ (expOk k (field b 43 1)) 43 ] ++
    (List.range 4).flatMap fun j =>
      if j < nm + no then [at_ (expOk k (field b (58 + 16 * j) 1)) (58 + 16 * j)]
      else (List.range 6).map fun i =>
        at_ (if i < 5 then field b (48 + 16 * j + 2 * i) 2 == 0 else field b (58 + 16 * j) 1 % 64 == 0)
          (48 + 16 * j + 2 * i))

/-- Changes a loop. -/
def State.setLoop (s : State) (k : Nat) (f : ControlLoop → ControlLoop) : State :=
  { s with cle.loops := upd s.cle.loops k f }

def loopCoefOp : OpSpec :=
  { opcode := 0x70, lengthOk := exactly 116
    check := fun _ d => firstFail [need (decide (field d 0 1 ≤ 15)) BAD_PARAM 16, checkBank (field d 0 1) (slice d 4 112)]
    act := fun s _ p =>
      { st := s.setLoop (field p.payload 0 1) fun l => { l with shadow := slice p.payload 4 112, shdValid := true } } }

/-- LOOP_COEF (R125). -/
def execLoopCoef (o : Origin) (r : Request) (s : State) : Res := .next (s.serve loopCoefOp o r)

/-! The rate budget (R116). -/

/-- The mode that a loop is to have, and its sample period in 5 ns units, once what waits has taken effect. -/
def ControlLoop.nextMode (l : ControlLoop) : Nat := l.pendMode.getD l.mode
def ControlLoop.nextDiv (l : ControlLoop) : Nat := max 1 (bankDiv (if l.pendSwap then l.shadow else l.active))

/-- The sum of the sample rates does not exceed 4,000,000 per second. -/
def State.rateOk (s : State) : Bool :=
  let sum := (s.cle.loops.filter fun l => l.nextMode != 0).foldl
    (fun (n : Rat) l => n + (200000000 : Rat) / (l.nextDiv : Rat)) 0
  decide (sum ≤ 4000000)

/-! Swaps (R126, R127). -/

/-- The path of stage j under a bank: 1 measurement, 2 output, 0 unused. -/
def stagePath (b : List Byte) (j : Nat) : Nat :=
  if j < bkNm b then 1 else if j < bkNm b + bkNo b then 2 else 0

def StageHist.zero : StageHist := { x1 := 0, x2 := 0, y1 := 0, y2 := 0 }

/-- Exchanges the banks of a loop: the histories of a stage whose path is unchanged are kept (R127). -/
def ControlLoop.swapBanks (l : ControlLoop) : ControlLoop :=
  { l with active := l.shadow, shadow := l.active, actValid := l.shdValid, shdValid := l.actValid
           pendSwap := false, swapped := true
           hist := l.hist.zipIdx.map fun (h, j) =>
             if stagePath l.active j = stagePath l.shadow j ∧ stagePath l.shadow j ≠ 0 then h else .zero }

/-- A LOOP_SWAP is answered once its last loop has swapped (R126). -/
def State.swapDone (s : State) : State :=
  match s.pk.deferred with
  | some d =>
    if d.packet.opcode = 0x71 ∧ (List.range 16).all (fun k => !(bit (field d.packet.payload 0 2) k && (s.loop k).pendSwap)) then
      s.finishDeferred OK
    else s
  | none => s

def loopSwapOp : OpSpec :=
  { opcode := 0x71, lengthOk := exactly 4
    act := fun s _ p =>
      let ks := maskUnits (field p.payload 0 2)
      let s' := ks.foldl (fun t k => t.setLoop k fun l => { l with pendSwap := true }) s
      s.doneIf [need (ks.all fun k => (s.loop k).shdValid) STATE,
        need (s'.rateOk || ks.all fun k => (s.loop k).nextMode == 0) STATE] fun _ =>
        let s := ks.foldl (fun t k => if (t.loop k).mode = 0 then t.setLoop k ControlLoop.swapBanks else t) s'
        { st := s, defer := ks.any fun k => (s.loop k).pendSwap } }

/-- LOOP_SWAP (R126). -/
def execLoopSwap (o : Origin) (r : Request) (s : State) : Res := .next (s.serve loopSwapOp o r)

/-! Set-points (R124). -/

/-- A new set-point of a loop: at the next sample boundary, or at once in mode 0. -/
def State.setPoint (s : State) (k : Nat) (w : Int) : State :=
  s.setLoop k fun l => if l.mode = 0 then { l with w := w } else { l with pendW := some w }

def loopSetpointOp : OpSpec :=
  { opcode := 0x72, lengthOk := exactly 8
    check := fun _ d => need (decide (field d 0 1 ≤ 15)) BAD_PARAM 16
    act := fun s _ p =>
      let k := field p.payload 0 1
      s.doneIf [need (!s.cascaded k) STATE] fun s => { st := s.setPoint k (fieldInt p.payload 4 4) } }

/-- LOOP_SETPOINT (R124). -/
def execLoopSetpoint (o : Origin) (r : Request) (s : State) : Res := .next (s.serve loopSetpointOp o r)

/-! Outputs (R135 to R138). -/

/-- Puts an output into its safe state: a PWM output, a DAC, an SPI slot; a cascaded set-point stays
(R137). -/
def State.safeOutput (s : State) (sel : Nat) : State :=
  if sel < 16 then
    let both := sel % 2 == 0 && bit (s.regN (CLE_PWM_CFG sel)) 27
    let off := s.cle.pwmHigh.set sel none
    { s with cle.pwm := s.cle.pwm.set sel (none, none), cle.pwmPast := s.cle.pwmPast.set sel none
             cle.pwmHigh := if both then off.set (sel + 1) none else off }
  else if sel < 22 then
    { s with cle.dac := s.cle.dac.set (sel - 16) (BitVec.ofNat 16 (s.regN (CLE_DAC_SAFE (sel - 16)))) }
  else if 0x18 ≤ sel ∧ sel ≤ 0x1B then { s with cle.spi := s.cle.spi.filter fun x => x.1 != sel - 0x18 }
  else s

/-- The duty count of a Q15 output (R136). -/
def State.duty (s : State) (n : Nat) (u : Int) : Nat :=
  let period := s.fld (CLE_PWM_CFG n) 15 0
  let d := if bit (s.regN (CLE_PWM_CFG n)) 29 then roundDiv ((u + 32768) * period) 65536
    else roundDiv (max 0 u * period) 32768
  (clampInt 0 period d).toNat

/-- The spans of a PWM output from one cycle to another, none where it has no length. -/
def span (a b : Nat) : List (Nat × Nat) := if a < b then [(a, b)] else []

/-- The high span of a PWM output in a period without dead time, from its start to its end (R136): D cycles from the start,
or about the middle with CENTRE. -/
def State.pwmBase (s : State) (n d : Nat) : Nat × Nat :=
  let cfg := s.regN (CLE_PWM_CFG n)
  let a := if bit cfg 28 ∧ d ≠ 0 then (bits cfg 15 0 - d) / 2 else 0
  (a, a + d)

/-- What the period after one with a duty finds: the level without dead time at its end, and the cycles since that began. -/
def State.pwmEnd (s : State) (n d : Nat) (past : Option (Bool × Nat)) : Bool × Nat :=
  let period := s.fld (CLE_PWM_CFG n) 15 0
  let x := s.pwmBase n d
  let long (level : Bool) : Nat := match past with | some (p, k) => if p = level then k + period else period | none => period
  if x.1 = x.2 then (false, long false)
  else if x.2 < period then (false, period - x.2)
  else (true, if x.1 = 0 then long true else period - x.1)

/-- When a PWM output is high in a period, in cycles from its start (R136). With COMP on the even output of a pair, the odd
one is its complement, and each rising edge of either comes DEADTIME later: an edge of the period before too, and one at
the start of the period where the level without dead time changes there. -/
def State.pwmSpans (s : State) (n : Nat) : Option (List (Nat × Nat)) :=
  let comp (i : Nat) : Bool := i % 2 == 0 && bit (s.regN (CLE_PWM_CFG i)) 27
  let odd := n % 2 == 1 && comp (n - 1)
  let m := if odd then n - 1 else n
  let cfg := s.regN (CLE_PWM_CFG m)
  let period := bits cfg 15 0
  (nth s.cle.pwm m (none, none)).1.map fun d =>
    let x := s.pwmBase m d
    let dead := if comp m then bits cfg 23 16 else 0
    let start (level : Bool) : Nat :=
      match nth s.cle.pwmPast m none with | some (p, k) => if p = level then dead - k else dead | none => dead
    if odd then
      if x.1 = x.2 then span (start false) period
      else span (if x.1 = 0 then 0 else start false) x.1 ++ span (x.2 + dead) period
    else if x.1 = 0 then span (start true) x.2
    else span (x.1 + dead) x.2

/-- Maps a loop's output to the output that it drives (R135, R136, R138). A new SPI value that replaces a pending one
keeps its place in the order of the frames (DESIGN CHOICE, notes/assumptions). -/
def State.driveOutput (s : State) (sel : Nat) (u : Int) : State :=
  let code : Half := BitVec.ofNat 16 (32768 + u).toNat
  if sel < 16 then
    { s with cle.pwm := upd s.cle.pwm sel fun (x : Option Nat × Option Nat) => (x.1, some (s.duty sel u)) }
  else if sel < 22 then { s with cle.dac := s.cle.dac.set (sel - 16) code }
  else if 0x18 ≤ sel ∧ sel ≤ 0x1B then
    let slot := sel - 0x18
    if s.cle.spi.any fun x => x.1 == slot then
      { s with cle.spi := s.cle.spi.map fun (x : Nat × Half) => if x.1 = slot then (slot, code) else x }.latch CLE_STATUS 0x20000
    else { s with cle.spi := s.cle.spi ++ [(slot, code)] }
  else if 0x20 ≤ sel ∧ sel ≤ 0x2F then s.setPoint (sel - 0x20) (u * 65536)
  else s

/-- PWM_PERIOD (R136): the newest duty is in force from the period's start, and the output's waveform, with that of its
complement, follows. -/
def execPwmPeriod (n : Fin 16) (s : State) : Res :=
  .next (
    let past := (nth s.cle.pwm n (none, none)).1.map fun d => s.pwmEnd n d (nth s.cle.pwmPast n none)
    let s := { s with cle.pwm := upd s.cle.pwm n fun (x : Option Nat × Option Nat) => (x.2, x.2)
                      cle.pwmPast := s.cle.pwmPast.set n past }
    let own := s.cle.pwmHigh.set n (s.pwmSpans n)
    let pair := n.val % 2 == 0 && bit (s.regN (CLE_PWM_CFG n)) 27
    { s with cle.pwmHigh := if pair then own.set (n + 1) (s.pwmSpans (n + 1)) else own })

/-- SPI_FRAME (R138): the frame of the slot whose value has waited longest; `miso` are the bits clocked
in. -/
def execSpiFrame (miso : BitVec 24) (s : State) : Res :=
  .next (match s.cle.spi with
    | [] => s
    | (slot, code) :: rest =>
      if s.cle.pllLost ∨ s.seq.clockHold then s
      else
      let hdr := s.fld (CLE_SPI_SLOT slot) 23 16
      { s.setRegN (CLE_SPI_RX slot) miso.toNat with
        cle.spi := rest, cle.spiSent := some (slot, BitVec.ofNat 32 (hdr * 65536 + code.toNat)) })

/-! Modes (R128, R129). -/

/-- A loop goes to mode 0: its output takes its safe state; limiter, histories and I are cleared, and w is
kept. A swap that waits takes place. -/
def State.loopOff (s : State) (k : Nat) : State :=
  let s := s.safeOutput (s.loop k).outSel.toNat
  s.setLoop k fun l =>
    let l := if l.pendSwap then l.swapBanks else l
    { l with mode := 0, pendMode := none, r := 0, v := 0, integ := 0, hist := List.replicate 4 .zero, mf := 0
             uPrev := 0, vPrev := 0, entered := none, swapped := false, w := l.pendW.getD l.w, pendW := none }

/-- A loop enters mode 1 or 2 from a mode. -/
def ControlLoop.enter (l : ControlLoop) (mode : Nat) : ControlLoop :=
  let clear := { l with r := 0, v := 0, integ := 0, hist := List.replicate 4 StageHist.zero, vPrev := 0, uPrev := 0 }
  let l' := if l.mode = 0 then clear else if mode = 1 then { l with integ := 0 } else l
  { l' with mode := mode, pendMode := none, entered := some l.mode }

/-- Time in units of 0.2 ns. -/
def State.time5 (s : State) : Nat := 4 * s.time

def loopModeOp : OpSpec :=
  { opcode := 0x73, lengthOk := exactly 4
    check := fun _ d => firstFail [need (decide (field d 0 1 ≤ 15)) BAD_PARAM 16,
      need (decide (field d 1 1 ≤ 2)) BAD_PARAM 17]
    act := fun s _ p =>
      let k := field p.payload 0 1
      let m := field p.payload 1 1
      let l := s.loop k
      let s' := s.setLoop k fun l => { l with pendMode := some m }
      s.doneIf [need (m == 0 || (if l.pendSwap then l.shdValid else l.actValid)) STATE,
        need (m != 2 || l.inSel != 0xFF) STATE, need (m == 0 || s'.rateOk) STATE] fun _ =>
        if l.mode ≠ 0 then { st := if m = l.mode then s.setLoop k fun l => { l with pendMode := none } else s' }
        else if m = 0 then { st := s }
        else { st := s.setLoop k fun l => { l.enter m with nextAt := s.time5 } } }

/-- LOOP_MODE (R116, R128). -/
def execLoopMode (o : Origin) (r : Request) (s : State) : Res := .next (s.serve loopModeOp o r)

/-! Selects (R130, R135). -/

def okInSel (c : Nat) : Bool := decide (c ≤ 0x23) || c == 0xFF
def okOutSel (c : Nat) : Bool :=
  decide (c ≤ 0x15) || (decide (0x18 ≤ c) && decide (c ≤ 0x1B)) || (decide (0x20 ≤ c) && decide (c ≤ 0x2F)) || c == 0xFF

/-- Following cascades from loop j reaches loop k. -/
def State.cascadeReaches (s : State) (k : Nat) : Nat → Nat → Bool
  | 0, _ => false
  | fuel + 1, j =>
    if j = k then true
    else
      let o := (s.loop j).outSel.toNat
      if 0x20 ≤ o ∧ o ≤ 0x2F then s.cascadeReaches k fuel (o - 0x20) else false

def loopIoOp : OpSpec :=
  { opcode := 0x74, lengthOk := exactly 4
    check := fun _ d => firstFail [need (decide (field d 0 1 ≤ 15)) BAD_PARAM 16,
      need (okInSel (field d 1 1)) BAD_PARAM 17, need (okOutSel (field d 2 1)) BAD_PARAM 18]
    act := fun s _ p =>
      let k := field p.payload 0 1
      let out := field p.payload 2 1
      let driven := out != 0xFF && (List.range 16).any fun j => j != k && (s.loop j).outSel.toNat == out
      let cycle := decide (0x20 ≤ out ∧ out ≤ 0x2F) && s.cascadeReaches k 17 (out - 0x20)
      s.doneIf [need ((s.loop k).mode == 0) STATE, need (!driven) STATE, need (!cycle) STATE] fun s =>
        { st := s.setLoop k fun l =>
            { l with inSel := BitVec.ofNat 8 (field p.payload 1 1), outSel := BitVec.ofNat 8 out } } }

/-- LOOP_IO (R130, R135). -/
def execLoopIo (o : Origin) (r : Request) (s : State) : Res := .next (s.serve loopIoOp o r)

/-! Inputs (R122, R130, R133). -/

/-- The newest result of a housekeeping input-select code as Q15; one that is OPEN or stale is replaced by
the last good value, and the answer says so. Where there is none yet, the value is free. -/
def State.hkInput (s : State) (code : Nat) : Int × Bool × State :=
  let c := if code < 0x18 then code else 0x20 + (code - 0x18)
  let r := s.hkRes c
  if r.open_ || s.hkStale c then
    match r.held with
    | some v => (satQ15 v, true, s)
    | none => let (f, s) := s.draw 60; (signed 16 f, true, s)
  else (satQ15 r.value, false, s)

def State.encoder (s : State) (n : Nat) : Encoder :=
  nth s.cle.enc n { levelA := false, levelB := false, edges := [], armed := true, held := [] }

/-- Position of an encoder. -/
def State.encPos (s : State) (n : Nat) : Int := signed 32 (s.regN (CLE_ENC_POS n))

/-- The speed at a sample as counts over a number of fine LSB (R133). `first` says that the loop has no
previous sample. -/
def State.encSpeed (s : State) (n : Nat) (l : ControlLoop) (first : Bool) : Int × Nat :=
  match (s.encoder n).edges with
  | [] => (0, 1)
  | e :: _ =>
    let p1 := signed 32 e.pos.toNat
    let idle := s.fineNow - e.time
    if ticksMs 10 * 2048 < idle ∨ first then (0, 1)
    else if p1 ≠ l.encP then (signed 32 ((p1 - l.encP) % 2 ^ 32).toNat, max 1 (e.time - l.encT))
    else if l.encVn.natAbs * idle ≤ l.encVd then (l.encVn, l.encVd)
    else (l.encVn.sign, max 1 idle)

/-- The measurement of a loop (R130): its value, whether it is stale, and the loop's encoder values. The difference of
CLE_ENC_POS and CLE_ENC_ZERO wraps at 32 bits before it is scaled (DESIGN CHOICE, notes/assumptions). -/
def State.measure (s : State) (l : ControlLoop) (first : Bool) : Int × Bool × ControlLoop × State :=
  let c := l.inSel.toNat
  if c < 0x20 then
    let x := s.hkInput c
    (x.1, x.2.1, l, x.2.2)
  else if c = 0xFF then (0, false, l, s)
  else
    let n := c % 2
    let off := ¬ bit (s.regN (CLE_ENC_CFG n)) 0
    if c < 0x22 then
      let p := signed 32 ((s.encPos n - signed 32 (s.regN (CLE_ENC_ZERO n))) % 2 ^ 32).toNat
      (if off then 0 else satQ15 (roundDiv (p * 32768) (max 1 (s.regN (CLE_ENC_PFS n)))), off, l, s)
    else
      let v := s.encSpeed n l first
      let m := satQ15 (roundDiv (v.1 * 2560000000000 * 32768) (max 1 (v.2 * s.regN (CLE_ENC_VFS n))))
      let l := match (s.encoder n).edges with
        | e :: _ => { l with encP := signed 32 e.pos.toNat, encT := e.time, encVn := v.1, encVd := v.2 }
        | [] => { l with encP := 0, encT := s.fineNow, encVn := 0, encVd := 1 }
      (if off then 0 else m, off, l, s)

/-! One evaluation (R115, R120 to R123, R127). -/

/-- One biquad stage: its output, whether it saturated, and its new history (R120). -/
def biquad (b : List Byte) (j : Nat) (h : StageHist) (x : Int) : Int × Bool × StageHist :=
  let o := 48 + 16 * j
  let sum := bkMant b o * x + bkMant b (o + 2) * h.x1 + bkMant b (o + 4) * h.x2 - bkMant b (o + 6) * h.y1 -
    bkMant b (o + 8) * h.y2
  let y := termQ15 sum (bkExp b (o + 10))
  (satQ15 y, decide (satQ15 y ≠ y), { x1 := x, x2 := h.x1, y1 := satQ15 y, y2 := h.y1 })

/-- Stages from one on, in turn: the output, whether one saturated, and the histories. -/
def runStages (b : List Byte) (hist : List StageHist) (from_ n : Nat) (x : Int) : Int × Bool × List StageHist :=
  (List.range n).foldl (fun (acc : Int × Bool × List StageHist) i =>
    let j := from_ + i
    let r := biquad b j (nth acc.2.2 j .zero) acc.1
    (r.1, acc.2.1 || r.2.1, acc.2.2.set j r.2.2)) (x, false, hist)

/-- The largest k with amax * k * (k + 1) / 2 at most a distance (R123). -/
def brakeSteps (amax dist : Nat) : Nat :=
  ((List.range 32).reverse).foldl (fun k i =>
    let t := k + 2 ^ i
    if amax * (t * (t + 1) / 2) ≤ dist then t else k) 0

/-- One step of the set-point limiter (R123). -/
def limiter (rmax amax : Nat) (w r v : Int) : Int × Int :=
  let rcap : Int := if rmax = 0 then 2147483647 else rmax
  if amax = 0 then (w, 0)
  else
    let a : Int := amax
    let d := w - r
    if d.natAbs ≤ amax ∧ (v - d).natAbs ≤ amax then (w, d)
    else
      let k := brakeSteps amax d.natAbs
      let vc := d.sign * min ((k : Int) * a) rcap
      let vn := v + clampInt (-a) a (vc - v)
      let vn := if v ≠ 0 ∧ vn.sign = -v.sign then 0 else vn
      let r' := satQ31 (r + vn)
      (r', r' - r)

/-- Feed-forward (R122): its value, and whether it used a held supply value. With the limiter bypassed f of source 2 is
0. -/
def State.feedForward (s : State) (l : ControlLoop) : Int × Bool × State :=
  let b := l.active
  let ff (f : Int) : Int := satQ15 (termQ15 (bkMant b 38 * f) (bkExp b 43))
  match field b 2 1 with
  | 1 =>
    let h := s.hkInput (field b 3 1)
    (ff (satQ15 (fieldInt b 24 2 - h.1)), h.2.1, h.2.2)
  | 2 => if field b 20 4 = 0 then (ff 0, false, s) else (ff (satQ15 (roundDiv ((l.v - l.vPrev) * (2 ^ field b 26 1 : Nat)) 65536)), false, s)
  | _ => (0, false, s)

/-- The integrator and clamp of R120 step 6: I, u and the sat result. -/
def integrate (b : List Byte) (i p d ff e : Int) : Int × Int × Bool :=
  let umin := fieldInt b 8 2
  let umax := fieldInt b 10 2
  let inc := satQ31 (termQ31 (bkMant b 34 * e) (bkExp b 41))
  let ic := satQ31 (i + inc)
  let uc := p + q15 ic + d + ff
  let held := decide (umax < uc ∧ 0 < inc) || decide (uc < umin ∧ inc < 0)
  let ic := if held then i else ic
  let i' := clampInt (fieldInt b 12 2 * 65536) (fieldInt b 14 2 * 65536) ic
  (i', clampInt umin umax (p + q15 i' + d + ff),
    held || decide (i' ≠ ic) || decide (uc < umin) || decide (umax < uc))

/-- The integrator of a swap's sample and of the first sample after mode 1 (R127, R128). -/
def reintegrate (b : List Byte) (uPrev p d ff : Int) : Int × Int :=
  let i := satQ31 ((uPrev - p - d - ff) * 65536)
  let i := clampInt (fieldInt b 12 2 * 65536) (fieldInt b 14 2 * 65536) i
  (i, clampInt (fieldInt b 8 2) (fieldInt b 10 2) (p + q15 i + d + ff))

/-- The evaluation of a loop in mode 1 or 2 with the changes of its boundary applied. -/
def State.evaluate (s : State) (k : Nat) : State :=
  let l := s.loop k
  let b := l.active
  let fresh := l.entered == some 0
  let (m, stale, l, s) := if l.mode = 2 then s.measure l l.entered.isSome else (0, false, l, s)
  let meas : Int × Bool × List StageHist :=
    if l.mode ≠ 2 then (l.mf, false, l.hist)
    else if fresh then (m, false, l.hist)
    else runStages b l.hist 0 (bkNm b) m
  let mf := meas.1
  let lim := limiter (field b 16 4) (field b 20 4) l.w l.r l.v
  let vPrev := l.v
  let l := if l.mode = 2 ∧ fresh then { l with r := mf * 65536, v := 0, vPrev := 0, integ := 0, mf := mf }
    else { l with r := lim.1, v := lim.2, vPrev := vPrev }
  let ff := s.feedForward l
  let s := ff.2.2
  let core : Int × Int × Option Bool :=
    if l.mode = 1 then
      (0, clampInt (fieldInt b 8 2) (fieldInt b 10 2) (q15 l.r + ff.1), none)
    else
      let e := satQ15 (q15 l.r - mf)
      let p := satQ15 (termQ15 (bkMant b 32 * e) (bkExp b 40))
      let d := satQ15 (termQ15 (bkMant b 36 * (l.mf - mf)) (bkExp b 42))
      if l.swapped ∧ l.entered ≠ some 0 ∨ l.entered = some 1 then
        let r := reintegrate b l.uPrev p d ff.1
        (r.1, r.2, none)
      else
        let r := integrate b l.integ p d ff.1 e
        (r.1, r.2.1, some r.2.2)
  let out := runStages b meas.2.2 (bkNm b) (bkNo b) core.2.1
  let s := s.setLoop k fun _ =>
    { l with mf := mf, integ := core.1, uPrev := core.2.1, u := out.1, hist := out.2.2, entered := none
             swapped := false }
  let s := match core.2.2 with
    | some true => s.latch (CLE_LOOP_STAT k) 0x18
    | some false => s.unlatch (CLE_LOOP_STAT k) 0x8
    | none => s
  let s := if meas.2.1 || out.2.1 then s.latch (CLE_LOOP_STAT k) 0x100 else s
  let s := if ff.2.1 then s.latch (CLE_LOOP_STAT k) 0x80 else s
  let s := if stale then s.latch (CLE_LOOP_STAT k) 0x40 else s
  s.driveOutput l.outSel.toNat out.1

/-- A loop of a lower number is due (R117). -/
def State.loopBefore (s : State) (k : Nat) : Bool :=
  (s.cle.loops.take k).any fun l => l.mode != 0 && decide (l.nextAt ≤ s.time5)

/-- LOOP_EVALUATION (R115, R117, R120, R129): at a due sample the changes that wait are applied in their
order, and the loop is evaluated. A loop waits for the evaluation in progress, of 46 CLE cycles, and for the due loops of
lower number. A start after the loop's next instant sets OVERRUN and skips the instants missed. -/
def execLoopEvaluation (k : Fin 16) (s : State) : Res :=
  .next (
    let l := s.loop k
    if l.mode = 0 ∨ s.cle.pllLost ∨ s.seq.clockHold ∨ s.time5 < l.nextAt ∨ s.time5 < s.cle.evalUntil ∨
        s.loopBefore k then s
    else if l.pendMode = some 0 then (s.loopOff k).swapDone
    else
      let s := if l.pendSwap then s.setLoop k ControlLoop.swapBanks else s
      let s := match (s.loop k).pendMode with
        | some m => s.setLoop k fun l => l.enter m
        | none => s
      let s := s.setLoop k fun l => { l with w := l.pendW.getD l.w, pendW := none }
      let div := 25 * max 1 (bankDiv (s.loop k).active)
      let late := div < s.time5 - l.nextAt
      let s := if late then (s.latch (CLE_LOOP_STAT k) 0x20).latch CLE_STATUS 0x10000 else s
      let s := s.setLoop k fun x => { x with nextAt := l.nextAt + div * max 1 (ceilDiv (s.time5 - l.nextAt) div) }
      let s := { s with cle.evalUntil := s.time5 + 1150 }
      (s.evaluate k).swapDone)

/-! Encoders (R131, R132). -/

/-- The change of the position that an edge makes: +1 in the forward sequence (R131). -/
def edgeStep (chanB rising other dir : Bool) : Int :=
  let forward := if chanB then rising == other else rising != other
  if forward != dir then 1 else -1

/-- Changes an encoder. -/
def State.setEncoder (s : State) (n : Nat) (f : Encoder → Encoder) : State :=
  { s with cle.enc := upd s.cle.enc n f }

/-- Adds counts to a position; a change of sign through the ends of its range is a wrap (R131; 00 R15). -/
def State.addPos (s : State) (n : Nat) (d : Int) : State :=
  let p := s.encPos n + d
  let s := if p < -2147483648 ∨ 2147483647 < p then s.noteWrap 3 0 (CLE_ENC_POS n) 32 else s
  s.setRegN (CLE_ENC_POS n) (enc 32 p)

/-- The angle waits that an edge of a direction releases: it makes the position equal their value (03 R77). -/
def State.angleWaits (s : State) (n : Nat) (pos : Word) (d : Int) (t : Nat) : State :=
  { s with pg.progs := s.pg.progs.map (Option.map fun (q : Prog) =>
      let g := imSeg q.image q.segment
      let dir := sgWaitArg g / 2 % 4
      if q.state = .waiting ∧ sgWaitKind g = 1 ∧ sgWaitArg g % 2 = n ∧ q.waitHit.isNone ∧
          64 * (q.waitFrom : Int) ≤ s.ownTime t ∧ pos.toNat = sgWaitValue g % 2 ^ 32 ∧
          (dir = 0 ∨ (dir = 1 ∧ 0 < d) ∨ (dir = 2 ∧ d < 0)) then
        { q with waitHit := some (s.ownTime t).toNat }
      else q) }

/-- An edge that passes the filter changes the position by one (R131); behind the filter the level follows. -/
def State.countEdge (s : State) (n : Nat) (chanB rising : Bool) (t : Nat) : State :=
  let x := s.encoder n
  let d := edgeStep chanB rising (if chanB then x.levelA else x.levelB) (bit (s.regN (CLE_ENC_CFG n)) 3)
  let s := s.addPos n d
  let pos := s.reg (CLE_ENC_POS n)
  (s.angleWaits n pos d t).setEncoder n fun y =>
    { y with edges := ((EncEdge.mk chanB t pos d) :: y.edges).take 16
             levelA := if chanB then y.levelA else rising, levelB := if chanB then rising else y.levelB }

/-- An illegal transition (R131): both levels follow, the position does not change, the error is counted, and the loops that
measure by the encoder see it. -/
def State.illegalEdges (s : State) (n : Nat) (a b : Bool) : State :=
  let s := (s.setEncoder n fun y => { y with levelA := a, levelB := b }).bump (CLE_ENC_ERR n)
  (List.range 16).foldl (fun t k =>
    let c := (t.loop k).inSel.toNat
    if c = 0x20 + n ∨ c = 0x22 + n then t.latch (CLE_LOOP_STAT k) 0x40 else t) s

/-- An index edge (R132; 03 R69): it latches the position, may set it to zero, and starts the programs that wait for it. -/
def State.indexEdge (s : State) (n t : Nat) : State :=
  let cfg := s.regN (CLE_ENC_CFG n)
  let s := s.setReg (CLE_ENC_IDX n) (s.reg (CLE_ENC_POS n))
  let zero := bits cfg 5 4 == 2 || (bits cfg 5 4 == 1 && (s.encoder n).armed)
  let s := if zero then (s.setRegN (CLE_ENC_POS n) 0).setEncoder n fun y => { y with armed := false } else s
  if b2n (bit (s.regN (CLE_ENC_CFG 0)) 31) ≠ n then s
  else
    (s.present.filter fun p => p.2.state == .armed && p.2.startMode == 2).foldl
      (fun u p => u.runProg p.1 ((s.ownTime t + 63) / 64).toNat) s

/-- The order in which edges apply: by tick, the count edges of a tick before its index, then by stamp (R132). -/
def EncItem.before (a b : EncItem) : Bool :=
  decide (a.tick < b.tick) || (a.tick == b.tick &&
    (if a.chanB.isNone == b.chanB.isNone then decide (a.time < b.time) else b.chanB.isNone))

/-- An edge joins those that wait for the filter. -/
def holdItem (l : List EncItem) (e : EncItem) : List EncItem :=
  l.takeWhile (fun x => !e.before x) ++ e :: l.dropWhile (fun x => !e.before x)

/-- How long an edge waits, in ticks: FILT, within which an edge of the same input rejects it, and at least the 2 ticks
within which one of the other input makes it illegal (R131). -/
def State.filterTicks (s : State) (n : Nat) : Nat := max 2 (s.fld (CLE_ENC_CFG n) 11 8)

/-- The first edge that waits applies once its wait is over: an index acts, an edge of A or B counts, or is an illegal
transition with one of the other input, whose wait is over too. None while the edge must wait. -/
def State.settleOne (s : State) (n : Nat) : Option State :=
  let due (e : EncItem) : Bool := decide (e.tick + s.filterTicks n ≤ s.tim.shot)
  match (s.encoder n).held with
  | [] => none
  | e :: rest =>
    if ¬ due e then none
    else
      let s' := s.setEncoder n fun y => { y with held := rest }
      match e.chanB with
      | none => some (s'.indexEdge n e.time)
      | some b =>
        match rest.find? fun f => f.chanB == some (!b) && decide (f.time < e.time + 4096) with
        | none => some (s'.countEdge n b e.rising e.time)
        | some f =>
          if due f then
            some ((s.setEncoder n fun y => { y with held := rest.erase f }).illegalEdges n
              (if b then f.rising else e.rising) (if b then e.rising else f.rising))
          else none

/-- The edges of an encoder whose wait is over apply, in their order. -/
def State.settleEdges (n : Nat) : Nat → State → State
  | 0, s => s
  | fuel + 1, s => match s.settleOne n with | some t => State.settleEdges n fuel t | none => s

/-- The shots whose angle waits get it when the edges before their fire stamps have applied (R134). -/
def State.settleAngles (s : State) : State :=
  (s.cle.angles.filter fun x => decide (x.2.2.2 + s.filterTicks x.2.1 + 2 ≤ s.tim.shot)).foldl (fun t x =>
    let angle := t.angleAt x.2.1 x.2.2.1
    { t.mapShot x.1 (fun y => { y with angle := angle }) with cle.angles := t.cle.angles.filter fun z => z.1 != x.1 }) s

/-- A tick on the encoders. -/
def State.encoderTick (s : State) : State :=
  let s := (List.range 2).foldl (fun t n => State.settleEdges n (t.encoder n).held.length t) s
  if s.cle.angles.isEmpty then s else s.settleAngles

/-- ENCODER_EDGE (R131): an edge of A or B is stamped. Within FILT of the preceding edge of its input that the filter holds
it is rejected together with that edge; else it waits for the filter. A rejected edge is no preceding edge of a later one
(DESIGN CHOICE, notes/assumptions). A disabled encoder, or one whose edge no TDC stamps, still follows the level. -/
def execEncoderEdge (n : Fin 2) (chanB : Bool) (rising : Bool) (stamp : Stamp) (s : State) : Res :=
  .next (
    let cfg := s.regN (CLE_ENC_CFG n)
    if ¬ bit cfg 0 ∨ s.auxDead (9 + 3 * n.val + b2n chanB) then
      s.setEncoder n fun y => if chanB then { y with levelB := rising } else { y with levelA := rising }
    else
      let t := (s.auxTime (9 + 3 * n.val + b2n chanB) stamp).1.toNat
      match (s.encoder n).held.reverse.find? fun e => e.chanB == some chanB with
      | some e =>
        if t < e.time + 2048 * bits cfg 11 8 then s.setEncoder n fun y => { y with held := y.held.erase e }
        else s.setEncoder n fun y =>
          { y with held := holdItem y.held { chanB := some chanB, rising := rising, time := t, tick := s.stampTick stamp } }
      | none => s.setEncoder n fun y =>
          { y with held := holdItem y.held { chanB := some chanB, rising := rising, time := t, tick := s.stampTick stamp } })

/-- ENCODER_INDEX (R132; 03 R69): a rising edge of the index is stamped; it acts when the edges of A and B before it have
passed the filter. -/
def execEncoderIndex (n : Fin 2) (stamp : Stamp) (s : State) : Res :=
  .next (
    if ¬ bit (s.regN (CLE_ENC_CFG n)) 0 ∨ s.auxDead (11 + 3 * n.val) then s
    else
      let t := (s.auxTime (11 + 3 * n.val) stamp).1.toNat
      s.setEncoder n fun y =>
        { y with held := holdItem y.held { chanB := none, rising := true, time := t, tick := s.stampTick stamp } })

/-! The loss of both references (01 R33; R137). -/

/-- The outputs of the control loops on a loss of clocks (R137): PWM outputs take their safe states, the DACs
hold, SPI slots send no further frame. -/
def State.loopsSafe (s : State) : State :=
  { s with cle.pwm := List.replicate 16 (none, none), cle.pwmHigh := List.replicate 16 none
           cle.pwmPast := List.replicate 16 none, cle.spi := [] }

/-- The key of REFIN and XSYS together (17 R523). -/
def bothKey : Word := causeKey 1 1 2

/-- REFIN and XSYS are both lost, or on a worker its parent's clock and XSYS (01 R33; 17 R523; 18 R444). -/
def State.bothLost (s : State) : State :=
  { s.loopsSafe with seq.clockHold := true }.report bothKey 0 0 false

/-- A safe code of a DAC reaches it unless a loop in mode 1 or 2 drives it or a loss of clocks holds it (R137). -/
def State.dacSafe (t : State) (n : Nat) : State :=
  if t.cle.pllLost || t.seq.clockHold || t.cle.loops.any fun l => l.mode != 0 && l.outSel.toNat == 0x10 + n then t
  else { t with cle.dac := t.cle.dac.set n (BitVec.ofNat 16 (t.regN (CLE_DAC_SAFE n))) }

/-- The clocks of the control loops are back: the DACs that no loop drives take their safe codes, which may have been
written meanwhile (R137). -/
def State.dacsSafe (s : State) : State := (List.range 6).foldl State.dacSafe s

/-- A reference or XSYS is back: what ended with both goes on. -/
def State.bothEnded (s : State) : State :=
  if s.seq.clockHold then (State.endCause { s with seq.clockHold := false } bothKey).dacsSafe else s

/-! Pins (21 R509). -/

/-- What a PWM pin shows in its safe state: low until HARDWARE ends, then SAFE of its CLE_PWM_CFG; none is high
impedance (R137, R142; 21 R509). -/
def State.pwmSafe (s : State) (n : Nat) : Option Bool :=
  if s.boot.phase = .hardware ∨ s.fld (CLE_PWM_CFG n) 31 30 = 0 then some false
  else if s.fld (CLE_PWM_CFG n) 31 30 = 1 then some true
  else none

/-- The code that a DAC pin shows; none is high impedance, until HARDWARE ends (21 R509). -/
def State.dacPin (s : State) (n : Nat) : Option Half := if s.boot.phase = .hardware then none else s.cle.dac[n]?

end Sys2Proof.Machine
end

