-- ==== Sys2Proof/Machine/Time.lean ====
section
/-!
DEFINITION. Family 0x8 and the time bases: the reference and its warm-up flag, PTP corrections and wraps, PTP
stamps, cross-stamps, timed launches (12 R296 to R320), and the wrap events of counters (02 R520).
-/
namespace Sys2Proof.Machine

/-! PTP arithmetic (R304, R309, R313). -/

/-- Changes a PTP base. -/
def State.setPtp (s : State) (p : Nat) (f : PtpBase → PtpBase) : State :=
  { s with tim.ptp := upd s.tim.ptp p f }

/-- A time in fifths of a fine LSB of TB_SHOT: that of a base's latest MAC edge (a T_SHOT value, 18 R446). -/
def State.edge5 (s : State) (b : PtpBase) : Int :=
  10240 * (s.tim.shot : Int) - 2048 * (5 * (s.time : Int) - b.edge) - 5 * s.treeShift s.tim.shot

/-- The latest MAC edge of a base in fine LSB. -/
def State.edgeFine (s : State) (b : PtpBase) : Nat := (s.edge5 b / 5).toNat

/-- A span in fifths of a fine LSB as 2^-32 ns of a base, rounded (R309): 12,800 of them are 1 ns. -/
def PtpBase.span (b : PtpBase) (d5 : Int) : Int :=
  if b.counting then roundDiv (d5 * 2 ^ 32 * (b.incr : Int)) (12800 * incrNom) else 0

/-- A base as it was at an instant, so many fifths of a tick from its latest MAC edge: with every correction and stop whose
edge lies at or before the instant, and no other (R306, R308). -/
def PtpBase.before (b : PtpBase) (d : Int) : PtpBase :=
  b.past.foldl (fun x p =>
    if (b.edge : Int) + d < (p.1 : Int) then
      { x with edge := p.1, value := p.2.1, incr := p.2.2.1, counting := p.2.2.2 } else x) b

/-- A base n MAC edges from its latest one: the value that it took there, and the base as it was. -/
def PtpBase.atEdge (b : PtpBase) (n : Int) : Int × PtpBase :=
  let x := b.before (16 * n)
  (if x.counting then (x.value : Int) + (16 * n + b.edge - x.edge) / 16 * x.incr else x.value, x)

/-- A base interpolated to an instant in fine LSB: from the latest MAC edge at or before it (R309, R313). -/
def State.ptpAt (s : State) (p : Nat) (t : Int) : Nat :=
  let b := s.ptp p
  let d := 5 * t - s.edge5 b
  let x := b.atEdge (d / 32768)
  ((x.1 + x.2.span (d % 32768)) % 2 ^ 64).toNat

/-- A base as it stood at a MAC edge stamped at a time in fine LSB: the value that it took there, and INCR. -/
def State.ptpAtEdge (s : State) (p : Nat) (t : Int) : Int × PtpBase :=
  let b := s.ptp p
  b.atEdge (roundDiv (5 * t - s.edge5 b) 32768)

/-- Path latencies in ps: receive and transmit (R309). -/
def pathLatency (speed10 : Bool) (fec : Nat) : Nat × Nat :=
  match speed10, fec with
  | false, 0 => (48650, 35850)
  | false, 1 => (87050, 40975)
  | false, _ => (215050, 56325)
  | true, 0 => (96000, 70400)
  | true, _ => (230400, 89600)

/-- Latency and asymmetry of a direction, in ps (R309). -/
def State.pathPs (s : State) (p : Nat) (rx : Bool) : Int :=
  let cfg := s.regN (OUT_ETH_CFG p)
  let lat := pathLatency (bit cfg 2) (bits cfg 5 4)
  let asym := signed 16 (if rx then s.fld (TIM_PTP_ASYM p) 31 16 else s.fld (TIM_PTP_ASYM p) 15 0)
  ((if rx then lat.1 else lat.2 : Nat) : Int) + 25 * asym

/-- The time of a frame's timestamp point: T in 2^-32 ns and the epoch time in fine LSB (R309). -/
def State.framePoint (s : State) (p : Nat) (rx : Bool) (tEvt tEdge : Int) : Nat × Int :=
  let b := s.ptpAtEdge p tEdge
  let ps := s.pathPs p rx
  let sgn : Int := if rx then -1 else 1
  let scaled : Int := if b.2.counting then (tEvt - tEdge) * (b.2.incr : Int) * 1000 else 0
  let t := b.1 + roundDiv (2 ^ 32 * (scaled + sgn * ps * 2560 * incrNom)) (2560000 * incrNom)
  ((t % 2 ^ 64).toNat, tEvt + sgn * (ps * 64 / 25))

/-- The same from the two stamps of the port's TDC, which are in the device's own time (18 R446). -/
def State.ptpPoint (s : State) (p : Nat) (rx : Bool) (tEvt tEdge : Quad) : Nat × Int :=
  let d := s.treeShift (tEvt.toNat / 2048)
  s.framePoint p rx (tEvt.toNat - d) (tEdge.toNat - d)

/-- The log entry of a PTP frame (R311): it is written, HEAD advances, and NOTIFY sends an EVENT. -/
def State.ptpLog (s : State) (p kind length lseq flags_ t : Nat) (tShot : Int) (data : List Byte) : State :=
  let head := s.regN (TIM_PTP_HEAD p)
  let fl := flags_ + (if 224 < data.length then 4 else 0) + b2n s.tim.warm + 8 * b2n (s.ptp p).stopped
  let e := leBytes 1 kind ++ leBytes 1 p ++ leBytes 2 length ++ leBytes 2 lseq ++ leBytes 2 fl ++ leBytes 8 t ++
    leBytesInt 8 (tShot % 2 ^ 59) ++ List.replicate 8 0 ++ slice data 0 224
  let s := { s with tim.logs := (s.tim.logs.filter fun (x : Nat × Nat × List Byte) => x.1 != p || x.2.1 != head % 256) ++ [(p, head % 256, e)] }
  let s := s.bump (TIM_PTP_HEAD p)
  if bit (s.regN (TIM_PTP_CFG p)) 0 then
    s.event OK 7 9 (leBytes 1 p ++ leBytes 1 kind ++ [0, 0] ++ leBytes 4 (s.regN (TIM_PTP_HEAD p)))
  else s

/-- PTP_INGRESS (R311): a datagram to port 319 or 320 that has passed the receive filter, stamped at tEvt, with
the MAC edge before it at tEdge, in fine LSB. -/
def execPtpIngress (p : Fin 4) (udpPort : Half) (payload : List Byte) (tEvt tEdge : Quad) (s : State) : Res :=
  .next (
    if ¬ nth s.out.ethUp p false ∨ (udpPort ≠ 319 ∧ udpPort ≠ 320) then s
    else if ¬ bit (s.regN (TIM_PTP_CFG p)) 1 then s.bump (OUT_ETH_RXDROP p)
    else
      let x := s.ptpPoint p true tEvt tEdge
      s.ptpLog p 1 payload.length 0 0 x.1 x.2 payload)

/-! PTP corrections and wraps (R304 to R308). -/

/-- Refuses a correction (R305). -/
def State.jumpRefused (s : State) : Done := (s.latch TIM_STATUS 0x4).refuse JUMP_REFUSED

/-- A correction waits for its MAC edge (R306). -/
def State.correct (s : State) (p : Nat) (isStep : Bool) (v : Int) : State :=
  s.setPtp p fun b => { b with corrs := b.corrs ++ [{ isStep := isStep, value := v, at_ := s.time }] }

def timeIncrOp : OpSpec :=
  { opcode := 0x81, lengthOk := exactly 12
    check := fun _ d => need (decide (field d 0 1 ≤ 3)) BAD_PARAM 16
    act := fun s _ p =>
      let b := field p.payload 0 1
      let v := field p.payload 4 8
      let dev := ((v : Int) - incrNom).natAbs
      if s.fld (TIM_PTP_CFG b) 23 16 * incrNom < dev * 1000000 then s.jumpRefused
      else { st := s.correct b false v } }

/-- TIME_INCR (R304, R305). -/
def execTimeIncr (o : Origin) (r : Request) (s : State) : Res := .next (s.serve timeIncrOp o r)

def timeStepOp : OpSpec :=
  { opcode := 0x82, lengthOk := exactly 12
    check := fun _ d => need (decide (field d 0 1 ≤ 3)) BAD_PARAM 16
    act := fun s _ p =>
      let b := field p.payload 0 1
      let v := fieldInt p.payload 4 8
      let limit := s.regN (TIM_PTP_JUMP b)
      if limit ≠ 0xFFFFFFFF ∧ limit * 2 ^ 32 < v.natAbs then s.jumpRefused
      else
        let s := s.setPtp b fun x => { x with stopped := x.stopped && !x.counting }
        { st := if v = 0 then s else s.correct b true v } }

/-- TIME_STEP (R305, R308): a step ends PTP_STOPPED once the clock is there. -/
def execTimeStep (o : Origin) (r : Request) (s : State) : Res := .next (s.serve timeStepOp o r)

/-- PTP_CORRECTION_EFFECT (R306): corrections of a base have taken effect at their MAC edge, which `State.tick` gives
them there; the device writes the TB_SHOT tick of that edge. -/
def execPtpCorrectionEffect (p : Fin 4) (s : State) : Res :=
  .next (match (s.ptp p).done with
    | none => s
    | some tick =>
      let s := s.setPtp p fun x => { x with done := none }
      (s.setRegN (TIM_PTP_CORR_LO p) (tick % 2 ^ 48 % 2 ^ 32)).setRegN (TIM_PTP_CORR_HI p) (tick % 2 ^ 48 / 2 ^ 32))

/-- PTP_WRAP (R307): the oldest wrap of a base in a direction sends its EVENT. -/
def execPtpWrap (p : Fin 4) (forward : Bool) (s : State) : Res :=
  .next (match s.tim.ptpWraps.find? fun w => w.1 == p.val && w.2.1 == forward with
    | none => s
    | some w =>
      let s := { s with tim.ptpWraps := s.tim.ptpWraps.erase w }
      let a := TIM_PTP_WRAPS p
      let v := if forward then s.regN a + 1 else s.regN a + (2 ^ 32 - 1)
      let wraps := if forward then decide (2 ^ 32 ≤ v) else s.regN a == 0
      let s := s.setRegN a v
      let s := if wraps then s.noteWrap 9 0 a 32 else s
      s.event OK 7 9 (leBytes 1 p ++ [if forward then 0x01 else 0xFF] ++ [0, 0] ++ leBytes 4 (s.regN a) ++
        leBytes 8 (w.2.2 % 2 ^ 59)))

/-- COUNTER_WRAP (02 R520): the oldest wrap of another counter sends its EVENT of class 8, dated by the wrap. -/
def execCounterWrap (s : State) : Res :=
  .next (match s.pk.wraps with
    | [] => s
    | w :: rest =>
      { s with pk.wraps := rest }.event OK 8 w.unit.toNat
        ([w.window] ++ [0, 0, 0] ++ leBytes 8 w.offset ++ leBytes 1 w.width ++ [0, 0, 0]) none (some w.at_))

/-! Warm-up flag (R300 to R303). -/

/-- A change of the warm-up flag (R303). -/
def State.setWarm (s : State) (on : Bool) (cause : Nat) : State :=
  if s.tim.warm = on then s
  else
    let s := { s with
      tim.warm := on, tim.gates := if on then s.tim.gates else 0
      tim.warmLost := if on then s.tim.warmLost else (s.tim.shot :: s.tim.warmLost).take 256 }
    let s := s.event OK 7 9 (leBytes 1 (b2n on) ++ leBytes 1 cause ++ [0, 0] ++
      leBytes 4 (s.regN TIM_REF_OFFSET) ++ leBytes 8 (s.fineNow % 2 ^ 59))
    if on then s.endCause (causeKey 0xA 1 4)
    else (s.latch TIM_STATUS 0x1).report (causeKey 0xA 1 4) 9 4 false

/-- OCXO_WARM_CHANGE (R300): the pin changes its level. -/
def execOcxoWarmChange (level : Bool) (s : State) : Res :=
  .next (if s.tim.pin = level then s else { s with tim.pin := level, tim.pinAt := s.time })

/-- The level of OCXO_WARM that counts is the active one of TIM_WARM_CFG.POL. -/
def State.pinActive (s : State) : Bool := s.tim.pinLevel.any (· != bit (s.regN TIM_WARM_CFG) 2)

/-- A level of OCXO_WARM counts once it has been stable for 200 us; a pin that leaves its active level clears the warm-up
flag (R300, R302). A write of POL acts at the later gates only (R320). -/
def State.qualifyPin (s : State) : State :=
  if s.tim.pinLevel = some s.tim.pin ∨ s.time < s.tim.pinAt + ticksUs 200 then s
  else
    let was := s.pinActive
    let s := { s with tim.pinLevel := some s.tim.pin, tim.pinOkAt := s.time }
    if was && !s.pinActive && bit (s.regN TIM_WARM_CFG) 1 && s.role != 2 then s.setWarm false 2 else s

/-- The fractional offset y_g of REFIN in 10^-12 that the stamps of a gate give, in fine LSB: their period against the
102,400,000 fine LSB that 1,000 periods of 25 MHz last (R301, 06 R172). Fewer than two stamps have no slope: a free
value. -/
def gateOffset (seed : Nat) (stamps : List Quad) : Int :=
  let ts := stamps.map fun t => (t.toNat : Int) - (stamps.headD 0).toNat
  if ts.length < 2 then Config.freeNat 92 seed
  else
    let p := slope ts.length (ts.foldl (· + ·) 0) (ts.zipIdx.foldl (fun m x => m + (x.2 : Int) * x.1) 0)
    roundRat ((p / 102400000 - 1) * 1000000000000)

/-- WARMUP_GATE (R301, R302; not on a worker, 18 R448): a gate of 1 s ends, in which a dedicated TDC has stamped every
1,000th edge of XSYS, at these times in fine LSB. y_g saturates in its register (00 R13). The first gate has no
predecessor to be compared with and does not pass. -/
def execWarmupGate (stamps : List Quad) (s : State) : Res :=
  .next (
    if s.time < s.tim.gateAt + ticksS 1 ∨ ¬ s.tim.xsys ∨ s.role = 2 then s
    else
      let cfg := s.regN TIM_WARM_CFG
      let y := gateOffset s.drawn stamps
      let s := if stamps.length < 2 then { s with drawn := s.drawn + 1 } else s
      let drift := match s.tim.prevY with
        | some z => decide ((y - z).natAbs ≤ bits cfg 23 8 * 100)
        | none => false
      let offset := bits cfg 7 4 == 0 || decide (y.natAbs ≤ bits cfg 7 4 * 1000000)
      let pass := drift && offset
      let s := s.setRegN TIM_REF_OFFSET (enc 32 (clampInt (-2147483648) 2147483647 y))
      let s := { s with tim.gateAt := s.time, tim.prevY := some y, tim.gateOk := pass
                        tim.gates := if pass then s.tim.gates + 1 else 0 }
      if bit cfg 3 && !pass then s.setWarm false (if drift then 4 else 3)
      else
        let n := bits cfg 31 24
        let from_ := s.time - ticksS n
        let ref := s.tim.onRef && decide (s.tim.refAt ≤ from_)
        let pin := !bit cfg 1 || (s.pinActive && decide (s.tim.pinOkAt ≤ from_))
        if ref && pin && (!bit cfg 3 || decide (n ≤ s.tim.gates)) then s.setWarm true 0 else s)

/-! Reference (R299). -/

def refSelectOp : OpSpec :=
  { opcode := 0x85, lengthOk := exactly 4
    check := fun _ d => need (decide (field d 0 1 ≤ 2)) BAD_PARAM 16
    act := fun s _ p =>
      let c := field p.payload 0 1
      if s.role = 2 then s.refuse STATE
      else if c = s.tim.refCode then { st := s }
      else s.doneIf [need (!s.anyLive) STATE, need (s.wfd.units.all fun u => u.st == .idle) STATE] fun s =>
        let s := { s with tim.onRef := false, tim.refNew := some c }
        { st := s.setWarm false 1, defer := true } }

/-- REF_SELECT (R299; 18 R444). -/
def execRefSelect (o : Origin) (r : Request) (s : State) : Res := .next (s.serve refSelectOp o r)

/-- REF_LOCK (R299): the timing PLL locks to REFIN, which answers the REF_SELECT that waits, or has failed to
within 20 ms. -/
def execRefLock (ok : Bool) (s : State) : Res :=
  .next (match s.tim.refNew with
    | some c =>
      if ok then
        { s with tim.refNew := none, tim.refCode := c, tim.onRef := s.tim.refin, tim.refAt := s.time }.finishDeferred OK
      else
        let since := match s.pk.deferred with | some d => d.since | none => 0
        if s.time < since + ticksMs 20 then s else { s with tim.refNew := none }.finishDeferred STATE
    | none =>
      if ok && s.tim.refin && !s.tim.onRef && s.boot.phase != .hardware && s.role != 2 then
        { s with tim.onRef := true, tim.refAt := s.time }
      else s)

/-! Cross-stamps (R313 to R315). -/

/-- A cross-stamp is taken on an event at a time in fine LSB: XSEQ advances, and this is the image (R313,
R314). -/
def State.crossImage (s : State) (source : Nat) (t : Int) : List Byte × State :=
  let back : Int := s.fineNow - t
  let sys := -(-(((s.tim.sys5 : Int) * 2048 - 4 * back)) / 10240)
  let safe := -(-(((s.tim.safe25 : Int) * 2048 - 2 * back)) / 51200)
  let state := b2n s.tim.warm + 2 * b2n (!s.tim.onRef) + 16 * flags (s.tim.ptp.map PtpBase.stopped)
  let s := if s.tim.xseq = 0xFFFFFFFF then s.noteWrap 9 0xFF 0 32 else s
  let seq := s.tim.xseq + 1
  (([0x01] : List Byte) ++ leBytes 1 source ++ leBytes 1 state ++ [0] ++ leBytes 4 seq.toNat ++ leBytesInt 8 (t % 2 ^ 59) ++
    ((List.range 4).flatMap fun p => leBytes 8 (s.ptpAt p t)) ++ leBytesInt 8 sys ++ leBytesInt 8 safe,
    { s with tim.xseq := seq })

def timeReadOp : OpSpec :=
  { opcode := 0x80, lengthOk := noPayload
    act := fun s _ _ => s.doneIf [need s.tim.xsPend.isNone BUSY] fun s =>
      let x := s.crossImage 0 s.fineNow
      { st := { x.2 with tim.xsImage := x.1 }, payload := x.1 } }

/-- TIME_READ (R313 to R315). -/
def execTimeRead (o : Origin) (r : Request) (s : State) : Res := .next (s.serve timeReadOp o r)

def okSource (c : Nat) : Bool :=
  decide (c ≤ 1) || (decide (0x10 ≤ c) && decide (c ≤ 0x17)) || (decide (0x20 ≤ c) && decide (c ≤ 0x23))

def crossStampOp : OpSpec :=
  { opcode := 0x83, lengthOk := exactly 4
    check := fun _ d => need (okSource (field d 0 1)) BAD_PARAM 16
    act := fun s o p => s.doneIf [need s.tim.xsPend.isNone BUSY] fun s =>
      { st := { s with tim.xsPend := some (field p.payload 0 1, o, p.sequence, s.time), tim.xsHit := none }, status := ACCEPTED } }

/-- CROSS_STAMP (R315). -/
def execCrossStamp (o : Origin) (r : Request) (s : State) : Res := .next (s.serve crossStampOp o r)

/-- The time in fine LSB of the event that a pending cross-stamp waits for (R313): the command's own execution, or the
first event of its source that it has seen: an engine's XSTAMP, a forward wrap's MAC edge, or an enabled edge of the
event input. An edge that no EV_EDGE has brought is the one that the stamp gives. -/
def State.crossTime (s : State) (source since : Nat) (rising : Bool) (stamp : Stamp) : Option Int :=
  let at_ := s.tim.shot - (s.time - since)
  if source = 0 then some (2048 * (at_ : Int) - s.treeShift at_)
  else
    match s.tim.xsHit with
    | some t => some t
    | none =>
      let k := source - 0x10
      let e := s.fld (HCH_EV_CFG k) 1 0
      if source < 0x10 ∨ 0x20 ≤ source ∨ e = 3 ∨ (e = 0 ∧ ¬ rising) ∨ (e = 1 ∧ rising) ∨ s.auxDead (15 + k) then none
      else some (s.auxTime (15 + k) stamp).1

/-- CROSS_STAMP_EVENT (R313 to R315): the event of the pending cross-stamp. The operand is the edge of an event
input. -/
def execCrossStampEvent (edge : EventEdge) (s : State) : Res :=
  .next (match s.tim.xsPend with
    | none => s
    | some (source, o, q, since) =>
      match s.crossTime source since edge.rising edge.stamp with
      | none => s
      | some t =>
        let x := s.crossImage source t
        { x.2 with tim.xsImage := x.1, tim.xsPend := none, tim.xsHit := none }.complete (o, q) OK 9)

/-- CROSS_STAMP_TIMEOUT (R315). -/
def execCrossStampTimeout (s : State) : Res :=
  .next (match s.tim.xsPend with
    | none => s
    | some (_, o, q, since) =>
      if s.time < since + ticksS 10 then s else { s with tim.xsPend := none, tim.xsHit := none }.complete (o, q) STATE 9)

/-- XSTAMP_COMPLETE (07 R194, R195; R313): the image of an engine's oldest request, stamped with the tick at
which the request arrived, is written into its SCRATCH; the next request that waits is in flight from then on (R315). -/
def execXstampComplete (e : Fin 68) (s : State) : Res :=
  .next (match (s.eng e).xstamps with
    | [] => s
    | (off, at_) :: rest =>
      let k := s.tim.shot - (s.time - at_)
      let x := s.crossImage 1 (2048 * (k : Int) - s.treeShift k)
      x.2.setEng e fun y => { y.store (E_SCRATCH + off) x.1 with xstamps :=
        match rest with | (o, _) :: r => (o, s.time) :: r | [] => [] })

/-! Timed launches (R316, R317). -/

/-- The time from now to a launch in 2^-32 ns: the next instant at which a base takes a value, or an epoch
stamp. A launch against a base whose value lies 2^31 ns or more ahead is in the past. -/
def State.launchIn (s : State) (base time : Nat) : Int :=
  if base < 4 then
    let b := s.ptp base
    let v := s.ptpAt base s.fineNow
    let d : Int := signed 64 (time + 2 ^ 64 - v)
    d * incrNom / (max 1 b.incr : Nat)
  else if base = 4 then
    let d := signed 59 (time + 2 ^ 59 - s.fineNow % 2 ^ 59)
    d * 2 ^ 32 / 2560
  else 0

/-- Time on the wire of a frame in 2^-32 ns: preamble, frame, FCS and gap. -/
def State.wireTime (s : State) (p : Nat) (frame : List Byte) : Int :=
  ((frame.length + 24) * 8 * 2 ^ 32 / (if bit (s.regN (OUT_ETH_CFG p)) 2 then 10 else 25) : Nat)

/-- Two transmissions on a port overlap. -/
def State.overlaps (s : State) (p : Nat) (t : Int) (f : List Byte) (x : LaunchReq) : Bool :=
  let u := s.launchIn x.base x.time
  decide (t < u + s.wireTime p x.frame) && decide (u < t + s.wireTime p f)

/-- The frame's length is allowed (R316). -/
def State.launchLength (s : State) (p : Nat) (f : List Byte) : Bool :=
  let tag := if field f 12 2 = 0x0081 then 4 else 0
  decide (60 ≤ f.length) && decide (f.length ≤ s.fld (OUT_ETH_CFG p) 23 10 + 18 + tag)

def launchAtOp : OpSpec :=
  { opcode := 0x84, lengthOk := between 72 4080
    check := fun s d => firstFail [need (decide (field d 0 1 ≤ 3)) BAD_PARAM 16,
      need (field d 1 1 == field d 0 1 || field d 1 1 == 4 || field d 1 1 == 0xFF) BAD_PARAM 17,
      need (field d 1 1 != 0xFF || field d 4 8 == 0) BAD_PARAM 20,
      need (s.launchLength (field d 0 1) (d.drop 12)) BAD_LENGTH]
    act := fun s _ p =>
      let port := field p.payload 0 1
      let base := field p.payload 1 1
      let time := field p.payload 4 8
      let f := p.payload.drop 12
      let t := s.launchIn base time
      let q := nth s.tim.launches port []
      s.doneIf [need (nth s.out.ethUp port false) STATE,
        need (base == 0xFF || (decide (20000 * 2 ^ 32 ≤ t) && decide (t ≤ 1000000000 * 2 ^ 32))) STATE,
        need (base == 0xFF || q.all fun x => x.base == 0xFF || !s.overlaps port t f x) STATE,
        need (decide (q.length < 8)) BUSY] fun s =>
        let q' := q ++ [(LaunchReq.mk base time f p.sequence)]
        { st := { s with tim.launches := s.tim.launches.set port q' } } }

/-- LAUNCH_AT (R316). -/
def execLaunchAt (o : Origin) (r : Request) (s : State) : Res := .next (s.serve launchAtOp o r)

/-- The block period of a port in 2^-32 ns (R317's table). -/
def State.blockTime (s : State) (p : Nat) : Int :=
  if bit (s.regN (OUT_ETH_CFG p)) 2 then 640 * 2 ^ 32 / 100 else 256 * 2 ^ 32 / 100

/-- How long after its launch time a frame left, in 2^-32 ns, from the stamps of its timestamp point. -/
def State.leftAfter (base time t : Nat) (tShot : Int) : Int :=
  if base < 4 then signed 64 (t + 2 ^ 64 - time)
  else if base = 4 then signed 59 ((tShot - time) % 2 ^ 59).toNat * 2 ^ 32 / 2560
  else 0

/-- LAUNCH (R311, R317): the launch of a port that is due first is sent, and its egress stamp is logged. `tEvt`
and `tEdge` are the stamps of its pulse and of the MAC edge before it, in fine LSB. -/
def execLaunch (p : Fin 4) (tEvt tEdge : Quad) (s : State) : Res :=
  .next (
    let due := (nth s.tim.launches p []).filter fun x => decide (s.launchIn x.base x.time ≤ 0)
    match due.foldl (fun (b : Option LaunchReq) x => match b with
      | none => some x
      | some y => if s.launchIn x.base x.time < s.launchIn y.base y.time then some x else some y) none with
    | none => s
    | some x =>
      if ¬ nth s.out.ethUp p false then s
      else
        let pt := s.ptpPoint p false tEvt tEdge
        let late := decide (s.blockTime p < State.leftAfter x.base x.time pt.1 pt.2)
        let s := { s with tim.launches := upd s.tim.launches p fun (q : List LaunchReq) => q.erase x
                          out.direct := s.out.direct ++ [(p, x.frame)] }
        let s := if late then s.latch TIM_STATUS 0x2 else s
        s.ptpLog p 2 x.frame.length x.sequence.toNat (2 * b2n late) pt.1 pt.2 x.frame)

end Sys2Proof.Machine
end

