-- ==== Sys2Proof/Machine/Its90.lean ====
section
/-!
DEFINITION. The ITS-90 reference functions of thermocouple types K, N and T (13 R331, R333). The spec names the functions
and leaves their coefficients to the standard, from which they are taken (PRESUMED, notes/assumptions).
-/
namespace Sys2Proof.Machine

/-- The coefficients of the reference function of a type, below 0 degrees and from there on: of powers of a temperature in
units of 1000 degrees, in 10^-18 mV (R333). -/
def its90 (curve : Nat) (below : Bool) : List Int :=
  match curve, below with
  | 0x30, true =>
    [0, 39450128025000000000, 23622373598000000000, -328589067840000000000, -4990482877700000000000,
     -67509059173000000000000, -574103274280000000000000, -3108887289400000000000000,
     -10451609365000000000000000, -19889266878000000000000000, -16322697486000000000000000]
  | 0x30, false =>
    [-17600413686000000, 38921204975000000000, 18558770032000000000, -99457592874000000000, 318409457190000000000,
     -560728448890000000000, 560750590590000000000, -320207200030000000000, 97151147152000000000,
     -12104721275000000000]
  | 0x31, true =>
    [0, 26159105962000000000, 10957484228000000000, -93841111554000000000, -46412039759000000000,
     -2630335771600000000000, -22653438003000000000000, -76089300791000000000000, -93419667835000000000000]
  | 0x31, false =>
    [0, 25929394601000000000, 15710141880000000000, 43825627237000000000, -252611697940000000000,
     643118193390000000000, -1006347151900000000000, 997453389920000000000, -608632456070000000000,
     208492293390000000000, -30682196151000000000]
  | _, true =>
    [0, 38748106364000000000, 44194434347000000000, 118443231050000000000, 20032973554000000000000,
     901380195590000000000000, 22651156593000000000000000, 360711542050000000000000000,
     3849393988300000000000000000, 28213521925000000000000000000, 142515947790000000000000000000,
     487686622860000000000000000000, 1079553927000000000000000000000, 1394502706200000000000000000000,
     797951539270000000000000000000]
  | _, false =>
    [0, 38748106364000000000, 33292227880000000000, 206182434040000000000, -2188225684600000000000,
     10996880928000000000000, -30815758772000000000000, 45479135290000000000000, -27512901673000000000000]

/-- exp (-y) for a y in units of 2^-96, in those units: the series at y / 256, and eight squarings. -/
def expNeg (y : Nat) : Int :=
  let z : Int := y / 256
  let s := ((List.range 24).foldl (fun (a : Int × Int) (k : Nat) =>
    (a.1 + a.2, -(a.2 * z / 2 ^ 96) / (k + 1 : Nat))) (0, 2 ^ 96)).1
  (List.range 8).foldl (fun v _ => v * v / 2 ^ 96) s

/-- E of a type at q/d degrees in 10^-18 mV (R333): the polynomial, and for type K from 0 degrees on the exponential term
0.1185976 mV exp (-1.183432e-4 (t - 126.9686)^2). -/
def tcVolt (curve : Nat) (q : Int) (d : Nat) : Int :=
  let D : Int := 1000 * d
  let p := (its90 curve (decide (q < 0))).reverse.foldl
    (fun (a : Int × Int) c => (a.1 * q + c * a.2, a.2 * D)) (0, 1)
  let w := (10000 * q - 1269686 * d).natAbs
  p.1 * D / p.2 +
    (if curve = 0x30 ∧ 0 ≤ q then
      118597600000000000 * expNeg (1183432 * w ^ 2 * 2 ^ 96 / (10 ^ 18 * d ^ 2)) / 2 ^ 96 else 0)

/-- A temperature in 1/32 degree lies where the reference function of a type is defined. -/
def tcKnown (curve : Nat) (t : Int) : Bool :=
  decide (-8640 ≤ t) && decide (t ≤ (match curve with | 0x30 => 43904 | 0x31 => 41600 | _ => 12800))

/-- The largest number from lo up, within 2^k, for which a test that holds up to a bound holds. -/
def lastTrue (test : Int → Bool) : Nat → Int → Int
  | 0, lo => lo
  | k + 1, lo => if test (lo + 2 ^ k) then lastTrue test k (lo + 2 ^ k) else lastTrue test k lo

/-- The inverse function of a type within a range that ends at hi, in 1/32 degree, rounded under R13, with an error e in
10^-4 degree (R331, R333). The answer lies one beyond the range where the temperature does. -/
def tcTemp (curve : Nat) (volt hi e : Int) : Int :=
  lastTrue (fun v => decide (v ≤ hi + 1) && decide (tcVolt curve (10000 * (2 * v - 1) - 64 * e) 640000 ≤ volt)) 16 (-6401)

end Sys2Proof.Machine
end

