-- ==== Sys2Proof/Machine/House.lean ====
section
/-!
DEFINITION. The housekeeping converter (13): inputs, sequences, steps, linearisation, injected runs and the
rotation of its slices.
-/
namespace Sys2Proof.Machine

/-- A conversion path by its number. -/
def State.hkPath (s : State) (i : Nat) : HkPath := nth s.hka.paths i { slice := none, step := none, free := 0, next := none, fresh := false, common := [] }

def State.setHkPath (s : State) (i : Nat) (f : HkPath → HkPath) : State :=
  { s with hka.paths := upd s.hka.paths i f }

def State.setHkRes (s : State) (c : Nat) (f : HkResult → HkResult) : State :=
  { s with hka.results := upd s.hka.results c f }

/-- The converter converts: it has started (19 R475) and its PLL runs (01 R33). -/
def State.hkOn (s : State) : Bool :=
  (s.boot.phase == .bringup || s.boot.phase == .ready) && !s.hka.pllLost

/-! Configuration (R325, R331, R336). -/

/-- Curves of R331. -/
def hkCurve (c : Nat) : Bool :=
  c == 0x00 || within c 0x10 0x12 || within c 0x20 0x27 || within c 0x30 0x32 || c == 0x40

/-- A curve that measures a resistance. -/
def hkOhmic (c : Nat) : Bool := within c 0x10 0x12 || within c 0x20 0x27

/-- The gain of an input's configuration: 1, 4, 16 or 64 (R322). -/
def hkGain (cfg : Nat) : Nat := 4 ^ bits cfg 9 8

/-- An input's configuration changes (R325): a change of CURVE or gain clears its held value. -/
def State.setHkInput (s : State) (n : Nat) (cfg : Nat) : State :=
  let old := s.regN (HKA_IN_CFG n)
  let s := s.setRegN (HKA_IN_CFG n) cfg
  if bits old 31 24 = bits cfg 31 24 ∧ bits old 9 8 = bits cfg 9 8 then s
  else s.setHkRes n fun r => { r with held := none }

/-- HK_CHANNEL (R325). -/
def hkChannelOp : OpSpec :=
  { opcode := 0x91, lengthOk := exactly 8
    check := fun s d =>
      let n := field d 0 1
      let curve := field d 1 1
      let src := field d 2 1
      let ua := field d 4 2
      firstFail [
        need (decide (n ≤ 23)) BAD_PARAM 16,
        need (hkCurve curve) BAD_PARAM 17,
        need (decide (src ≤ 3) || src == 0xFF) BAD_PARAM 18,
        need (if src = 0xFF then ua == 0 else within ua 10 2000) BAD_PARAM 20,
        need (!hkOhmic curve || src != 0xFF) BAD_PARAM 18,
        need (curve != 0x40 || (s.table 8 (s.fld (HKA_USER_SEL n) 15 0)).isSome) NOT_FOUND ]
    act := fun s _ p =>
      let d := p.payload
      let n := field d 0 1
      let src := field d 2 1
      let old := s.regN (HKA_IN_CFG n)
      let keep := bits old 9 0
      let exc := if src = 0xFF then 0 else 2 ^ 23 + src * 2 ^ 21 + field d 4 2 * 2 ^ 10
      { st := s.setHkInput n (field d 1 1 * 2 ^ 24 + exc + keep) } }

/-- HK_CHANNEL (R325). -/
def execHkChannel (o : Origin) (r : Request) (s : State) : Res := .next (s.serve hkChannelOp o r)

/-- Step i of a sequence as HK_SEQUENCE carries it (R326). -/
def hkStepAt (d : List Byte) (i : Nat) : HkStep :=
  { code := field d (4 + 4 * i) 1, avg := field d (5 + 4 * i) 1, settle := field d (6 + 4 * i) 2 }

/-- Codes of R326. -/
def hkCode (c : Nat) : Bool := decide (c ≤ 0x17) || within c 0x20 0x2D

/-- The input is the odd member of a DIFF pair (R323). -/
def State.hkOdd (s : State) (c : Nat) : Bool :=
  decide (c < 24) && c % 2 == 1 && bit (s.regN (HKA_IN_CFG (c - 1))) 7

/-- HK_SEQUENCE (R336). -/
def hkSequenceOp : OpSpec :=
  { opcode := 0x90, lengthOk := fun d => decide (4 ≤ d.length) && d.length == 4 + 4 * field d 1 1
    check := fun s d =>
      let kind := field d 0 1
      let n := field d 1 1
      firstFail ([
        need (decide (kind ≤ 1)) BAD_PARAM 16,
        need (decide (n ≤ if kind = 0 then 32 else 8)) BAD_PARAM 17 ] ++
        (List.range n).flatMap fun i =>
          let x := hkStepAt d i
          let at_ := 20 + 4 * i
          [ need (hkCode x.code) BAD_PARAM at_, need (!s.hkOdd x.code) BAD_PARAM at_,
            need (decide (x.avg ≤ 6)) BAD_PARAM (at_ + 1), need (decide (x.settle ≤ 10000)) BAD_PARAM (at_ + 2) ])
    act := fun s _ p =>
      let d := p.payload
      let l := (List.range (field d 1 1)).map (hkStepAt d)
      { st := if field d 0 1 = 0 then { s with hka.newReg := some l } else { s with hka.newInj := some l } } }

/-- HK_SEQUENCE (R336). -/
def execHkSequence (o : Origin) (r : Request) (s : State) : Res := .next (s.serve hkSequenceOp o r)

/-! Starting steps (R324, R327, R337). -/

/-- The excitation source of a step in progress; none without excitation. -/
def HkRun.source (x : HkRun) : Option Nat :=
  if x.step.code < 24 ∧ bit x.cfg 23 then some (bits x.cfg 22 21) else none

/-- The inputs that a step connects, or its internal channel. -/
def HkRun.inputs (x : HkRun) : List Nat :=
  if x.step.code < 24 ∧ bit x.cfg 7 then [x.step.code, x.step.code + 1] else [x.step.code]

/-- Length of a step in ticks (R327): 3.0 us, the settling time and 2^n us; 0.5 us for the channel RING. -/
def HkStep.ticks (x : HkStep) : Nat :=
  if x.code = 0x23 then 625 else 125 * (30 + x.settle + 10 * 2 ^ x.avg)

/-- The path that a step takes: free and with a slice, the path free first, P0 on a tie (R337). -/
def State.hkFreePath (s : State) : Option Nat :=
  let free (i : Nat) : Bool := (s.hkPath i).step.isNone && (s.hkPath i).slice.isSome
  if free 0 && (!free 1 || decide ((s.hkPath 0).free ≤ (s.hkPath 1).free)) then some 0
  else if free 1 then some 1 else none

/-- Starts the steps of a run that can start, in list order; the answer holds those that wait (R337). A step of an input
that is part of a DIFF pair by now is left out (R323; DESIGN CHOICE, notes/assumptions). -/
def State.hkStart (s : State) (injected : Bool) : List HkStep → State × List HkStep
  | [] => (s, [])
  | x :: rest =>
    let r : HkRun :=
      { step := x, start := s.time, injected := injected, cfg := s.regN (HKA_IN_CFG x.code)
        cycle := s.regN HKA_CYCLES % 256, left := rest.length, made := false }
    let r := if x.code < 24 then r else { r with cfg := 0 }
    if s.hkOdd x.code then s.hkStart injected rest else
    match s.hkFreePath with
    | none => (s, x :: rest)
    | some i =>
      let clash := match (s.hkPath (1 - i)).step with
        | none => false
        | some y => y.inputs.any (fun c => r.inputs.contains c) || (r.source.isSome && r.source == y.source)
      if clash then (s, x :: rest)
      else
        (s.setHkPath i fun p => { p with step := some r }).hkStart injected rest

/-- The make of a path's step, 0.5 us behind its start: break and discharge are over, its input is connected and its
excitation comes on (R324, R327). The channel RING uses no analog path. -/
def State.hkMake (s : State) (i : Nat) : State :=
  match (s.hkPath i).step with
  | none => s
  | some x =>
    if x.made ∨ x.step.code = 0x23 ∨ ¬ s.hkOn ∨ s.time < x.start + 625 then s
    else
      let s := s.setHkPath i fun p => { p with step := some { x with made := true } }
      match x.source with
      | none => s
      | some k => { s with hka.iex := upd s.hka.iex k fun y => (true, false, false, y.2.2.2) }

/-- The steps of the runs in progress start as paths allow: those of an injected run first (R337, R339). -/
def State.hkAdvance (s : State) : State :=
  if s.hka.injRun then
    let x := s.hkStart true s.hka.injTodo
    { x.1 with hka.injTodo := x.2 }
  else if s.hka.inCycle then
    let x := s.hkStart false s.hka.todo
    { x.1 with hka.todo := x.2 }
  else s

/-- A slice takes a path, whose former slice is the spare: as the end of a rotation step, or of the commanded migration of
that slice (R340; 17 R426). -/
def State.hkSwitch (s : State) (i k : Nat) : State :=
  let old := (s.hkPath i).slice
  let s := s.setHkPath i fun p => { p with slice := some k, next := none }
  match old.bind fun j => s.rep.migs.find? fun m => m.kind == 3 && m.failed == j && m.commanded with
  | some m =>
    let s := { s with hka.spare := none, hka.rotStage := 0, hka.retried := false, rep.released := s.rep.released ++ [(3, m.failed)] }
    (s.mapAdd 3 4 m.failed k).migDone m 0 m.failed k
  | none => { s with hka.spare := old, hka.rotPath := 1 - i, hka.rotStage := 0, hka.retried := false }

/-- The boundary between two steps of a path: the reference trim and the diode offset of the applied set come into force, and
a slice that waits takes the path, or its slice takes its trims of that set (R340; 14 R363). -/
def State.hkBoundary (s : State) (i : Nat) : State :=
  let p := s.hkPath i
  let s := if p.fresh then s.setHkPath i fun q => { q with fresh := false, common := slice s.appliedSet CAL_HREF 4 } else s
  match p.next, p.slice with
  | some k, _ => s.hkSwitch i k
  | none, some j =>
    if p.fresh then { s with hka.trims := upd s.hka.trims j fun _ => slice s.appliedSet (CAL_HS j 0) 16 } else s
  | none, none => s

/-- A slice is to take a path at its next boundary, which is now while no step runs on it. -/
def State.hkTake (s : State) (j path : Nat) : State :=
  let s := s.setHkPath path fun p => { p with next := some j }
  if (s.hkPath path).step.isNone then s.hkBoundary path else s

/-- A path leaves its step: its input is disconnected and its excitation is off (R324). -/
def State.hkLeave (s : State) (i : Nat) (x : HkRun) : State :=
  let s := s.setHkPath i fun p => { p with step := none, free := s.time }
  let s := match x.source with
    | none => s
    | some k => { s with hka.iex := upd s.hka.iex k fun y => (false, y.2) }
  s.hkBoundary i

/-- No path runs a step of a kind of run. -/
def State.hkNone (s : State) (injected : Bool) : Bool :=
  s.hka.paths.all fun p => match p.step with | some x => x.injected != injected | none => true

/-- A regular cycle starts (R336, R338). Where no step of its list is left to run, it ends at once. -/
def State.hkCycle (s : State) : State :=
  let s := s.bump HKA_CYCLES
  let period := ticksUs (s.fld HKA_SEQ_CFG 31 16)
  let seq := s.hka.newReg.getD s.hka.regular
  let next := if period = 0 then s.time else s.hka.cycleAt + period * ((s.time - s.hka.cycleAt) / period + 1)
  let s := { s with hka.regular := seq, hka.newReg := none, hka.todo := seq, hka.inCycle := !seq.isEmpty
                    hka.cycleAt := next }.hkAdvance
  { s with hka.inCycle := s.hka.inCycle && !(s.hka.todo.isEmpty && s.hkNone false) }

/-- What follows the end of a step (R337 to R339): the next steps start; a run without steps left ends; the
regular cycle goes on after an injected run; a cycle that is due starts, and is late under a period. -/
def State.hkNext (s : State) : State :=
  let s := if s.hka.injRun && s.hka.injTodo.isEmpty && s.hkNone true then { s with hka.injRun := false } else s
  let s := s.hkAdvance
  if s.hka.inCycle && s.hka.todo.isEmpty && s.hkNone false then
    let s := { s with hka.inCycle := false }
    let period := s.fld HKA_SEQ_CFG 31 16
    if bit (s.regN HKA_SEQ_CFG) 0 && !(s.hka.newReg.getD s.hka.regular).isEmpty then
      if period = 0 then s.hkCycle
      else if s.hka.cycleAt < s.time then (s.latch HKA_STATUS 0x8).hkCycle else s
    else s
  else s

/-! Injected runs (R339). -/

/-- A trigger of an injected run: the regular steps in progress are abandoned and run again, in list order,
after the last injected step. -/
def State.hkTrigger (s : State) : State :=
  if s.hka.injRun then (s.bump HKA_INJ_MISSED).latch HKA_STATUS 0x10
  else
    let old := (s.hka.paths.zipIdx.filterMap fun (p, i) => p.step.map fun x => (i, x))
    let again := (sortBy (fun (a b : Nat × HkRun) => decide (b.2.left < a.2.left)) old).map fun x => x.2.step
    let s := old.foldl (fun t x => t.hkLeave x.1 x.2) s
    let seq := s.hka.newInj.getD s.hka.injected
    { s with hka.injected := seq, hka.newInj := none, hka.injTodo := seq, hka.injRun := true
             hka.todo := again ++ s.hka.todo }.hkAdvance.hkNext

/-- A write of 1 to GO (R339, R344): a trigger under SRC 0. It waits while the converter does not run. -/
def State.hkGo (s : State) : State :=
  if s.fld HKA_INJ_CFG 31 30 ≠ 0 then s
  else if s.hkOn then s.hkTrigger else { s with hka.goPend := true }

/-- A tick on the converter: the makes that are due, and a GO that has waited for it. -/
def State.hkTick (s : State) : State :=
  let s := (s.hkMake 0).hkMake 1
  if s.hka.goPend && s.hkOn then { s with hka.goPend := false }.hkGo else s

/-- GO (R339). -/
def execGo (s : State) : Res := .next s.hkGo

/-! Linearisation (R331 to R335). -/

/-- IEC 60751: whether R(T)/R0 at T = q/d degrees is at most num/den (R332). -/
def rtdAtMost (q : Int) (d : Nat) (num : Int) (den : Nat) : Bool :=
  let D : Int := d
  let r := 10 ^ 15 * D ^ 4 + 3908300000000 * q * D ^ 3 - 577500000 * q ^ 2 * D ^ 2 +
    (if q < 0 then -4183 * (q - 100 * D) * q ^ 3 else 0)
  decide (r * den ≤ num * 10 ^ 15 * D ^ 4)

/-- The temperature of an RTD of R0 = r0 at R = num/den in 1/32 degree, rounded under R13, with an error e in
10^-4 degree (R331, R332). The answer lies one beyond the range where the temperature does. -/
def rtdTemp (r0 : Nat) (num : Int) (den : Nat) (e : Int) : Int :=
  lastTrue (fun v => rtdAtMost (10000 * (2 * v - 1) - 64 * e) 640000 num (den * r0)) 16 (-6401)

/-- ln(num/den) in units of 2^-64: a power of two, and the series of 2 artanh on a mantissa from 1 to 2. -/
def lnFix (num den : Nat) : Int :=
  let k : Int := Nat.log2 num - Nat.log2 den
  let n : Int := num * 2 ^ (den.log2 + 1)
  let d : Int := den * 2 ^ (num.log2 + 1)
  let series (x : Int) : Int :=
    ((List.range 40).foldl (fun (a : Int × Int) (i : Nat) =>
      (a.1 + a.2 / (2 * i + 1 : Nat), a.2 * x / 2 ^ 80 * x / 2 ^ 80)) (0, x)).1
  let x := (n - d) * 2 ^ 80 / max 1 (n + d)
  (k * 2 * series (2 ^ 80 / 3) + 2 * series x) / 2 ^ 16

/-- A finite IEEE 754 single in units of 2^-160 (R332); none for an infinity or a NaN. -/
def singleFix (w : Nat) : Option Int :=
  let e := bits w 30 23
  let m := bits w 22 0
  let sign : Int := if bit w 31 then -1 else 1
  if e = 255 then none
  else if e = 0 then some (sign * (m * 2 ^ 11 : Nat)) else some (sign * ((2 ^ 23 + m) * 2 ^ (e + 10) : Nat))

/-- Steinhart-Hart (R332): the temperature at R = num/den in 1/32 degree, rounded, with an error e in 10^-4
degree; none where the relation gives no temperature. -/
def ntcTemp (a b c : Nat) (num den : Nat) (e : Int) : Option Int :=
  match singleFix a, singleFix b, singleFix c with
  | some a, some b, some c =>
    let l := lnFix num den
    let y := a * 2 ^ 192 + b * l * 2 ^ 128 + c * l ^ 3
    if num = 0 ∨ den = 0 ∨ y = 0 then none
    else
      let n := 320000 * 2 ^ 352 + y * (-87408000 + 32 * e + 5000)
      some (if 0 < y then n / (10000 * y) else -n / (10000 * -y))
  | _, _, _ => none

/-- A user table (R334): the value at a code, and whether the code lies outside the points. -/
def userCurve (d : List Byte) (code : Int) : Int × Bool :=
  let n := field d 2 2
  let x (j : Nat) : Int := fieldInt d (16 + 4 * j) 2
  let y (j : Nat) : Int := fieldInt d (18 + 4 * j) 2
  if code < x 0 then (y 0, true)
  else if x (n - 1) < code then (y (n - 1), true)
  else
    let j := ((List.range (n - 1)).filter fun j => decide (x j ≤ code)).getLast?.getD 0
    let dx := x (j + 1) - x j
    (y j + roundDiv ((y (j + 1) - y j) * (code - x j)) (max 1 dx).toNat, false)

/-- The value of a curve before the range limits: the value, whether RANGE or STALE is set with it, and the
valid range. -/
structure Curved where
  value : Int
  range : Bool
  stale : Bool
  lo    : Int
  hi    : Int

/-- Linearises a mean code under an input's configuration and a mean current in 0.1 uA (R331 to R334). Where
a relation has no value (no current, a resistance without a logarithm, no cold junction yet or one where E is not defined,
no user table) the value is free. -/
def State.hkLinear (s : State) (cfg : Nat) (user : Nat) (code : Int) (current : Nat) : Curved × State :=
  let curve := bits cfg 31 24
  let free (lo hi : Int) : Curved × State :=
    let f := s.draw 61
    (Curved.mk (signed 16 f.1) false false lo hi, f.2)
  let e := clampInt (-100) 100 (Config.curveSlack curve code current)
  let num := code * 12500000
  let den := hkGain cfg * 32768 * current
  if within curve 0x10 0x12 then
    if current = 0 then free (-6400) 27200
    else (Curved.mk (rtdTemp (nth [100, 500, 1000] (curve - 0x10) 100) num den e) false false (-6400) 27200, s)
  else if within curve 0x20 0x27 then
    let k := curve - 0x20
    let t := if code ≤ 0 then none
      else ntcTemp (s.regN (HKA_SH k 0)) (s.regN (HKA_SH k 1)) (s.regN (HKA_SH k 2)) num.toNat den e
    match t with
    | none => free (-32768) 32767
    | some v => (Curved.mk v false false (-32768) 32767, s)
  else if within curve 0x30 0x32 then
    let hi : Int := if curve = 0x32 then 12800 else 32767
    let cj := bits cfg 4 0
    let c := if cj = 31 then 0x22 else cj
    let r := s.hkRes c
    let bad := r.open_ || s.hkStale c
    let t := if bad then r.held else if r.valid then some r.value else none
    match t.filter (tcKnown curve) with
    | none => let x := free (-6400) hi; (Curved.mk x.1.value false bad (-6400) hi, x.2)
    | some t =>
      let v := code * 1250 * 10 ^ 18 / ((hkGain cfg * 32768 : Nat) : Int) + tcVolt curve t 32
      (Curved.mk (tcTemp curve v hi e) false bad (-6400) hi, s)
  else if curve = 0x40 then
    match s.table 8 user with
    | none => free (-32768) 32767
    | some t => let x := userCurve t.data code; (Curved.mk x.1 x.2 false (-32768) 32767, s)
  else (Curved.mk code false false (-32768) 32767, s)

/-- VALUE of a channel (R331, R335): RING takes the mean of thermal management, ZERO its raw code, the other
internal channels their conversions, the inputs their curves. -/
def State.hkValue (s : State) (x : HkRun) (code : Int) (current : Nat) : Curved × State :=
  let c := x.step.code
  if c < 24 then s.hkLinear x.cfg (s.fld (HKA_USER_SEL c) 15 0) code current
  else if c = 0x23 then (Curved.mk s.thm.tDie false false (-32768) 32767, s)
  else if c = 0x2D then (Curved.mk code false false (-32768) 32767, s)
  else (Curved.mk (Config.internalValue (c - 0x20) code) false false (-32768) 32767, s)

/-! Publication (R327 to R329; 04 R99). -/

/-- What a published result does: a regular result outside the window, or OPEN, triggers an injected run
under SRC 1 (R339), and an emitter group whose input it is shuts down at its threshold (04 R99). -/
def State.hkPublished (s : State) (c : Nat) (injected : Bool) : State :=
  let r := s.hkRes c
  let s := (List.range 4).foldl (fun t g =>
    if t.fld (EMT_OT_CFG g) 31 24 == c && decide (c < 24) &&
        decide (32 * signed 16 (t.fld (EMT_OT_CFG g) 15 0) ≤ 10 * r.value) then t.groupShutdown g else t) s
  let out := r.open_ || decide (r.value < signed 16 (s.fld HKA_WIN 15 0)) ||
    decide (signed 16 (s.fld HKA_WIN 31 16) < r.value)
  if !injected && s.fld HKA_INJ_CFG 31 30 == 1 && s.fld HKA_INJ_CFG 23 16 == c && out then s.hkTrigger else s

/-- A path stays on a slice that has failed (17 R419). -/
def State.hkDead (s : State) (i : Nat) : Bool :=
  match (s.hkPath i).slice with | some j => s.rep.hkaFail.contains j | none => false

/-- HK_STEP (R327, R328): the running step of a path ends with the raw codes of its kept conversions and the mean current
that its monitor measured, in 0.1 uA. A result of a path on a failed slice carries OPEN (17 R419). -/
def execHkStep (path : Fin 2) (codes : List (BitVec 16)) (iexCurrent : Nat) (s : State) : Res :=
  .next (match (s.hkPath path).step with
    | none => s
    | some x =>
      let c := x.step.code
      if ¬ s.hkOn ∨ s.time < x.start + x.step.ticks ∨ (c ≠ 0x23 ∧ codes.length ≠ 2 ^ x.step.avg) then s
      else
        let vals := codes.map BitVec.toInt
        let mean := if c = 0x23 then (s.hkRes c).code else roundDiv vals.sum (2 ^ x.step.avg)
        let clip := c != 0x23 && vals.any fun v => v == 32767 || v == -32768
        let current := if x.source.isSome then iexCurrent else 0
        let dead := c != 0x23 && s.hkDead path
        let s := if s.hka.rotStage = 2 ∧ s.hka.rotPath = path.val ∧ c ≠ 0x23 then
            { s with hka.shadowed := s.hka.shadowed + 2 ^ x.step.avg + 1 } else s
        let s := s.hkLeave path x
        let s := match x.source with
          | none => s
          | some k => { s with hka.iex := upd s.hka.iex k fun y => (y.1, y.2.1, y.2.2.1, current) }
        let y := s.hkValue x mean current
        let v := clampInt y.1.lo y.1.hi y.1.value
        let s := y.2
        let old := s.hkRes c
        let good := if clip || dead then 0 else old.good + 1
        let stays := dead || (old.open_ && decide (good < 3))
        let r : HkResult :=
          { old with
            valid := true, open_ := stays, short := old.short && stays, stale := y.1.stale
            range := y.1.range || v != y.1.value, clip := clip, nocal := s.hkStopped, inj := x.injected
            cycle := x.cycle, value := if stays then 0x7FFF else v, at_ := s.time
            held := if stays || clip then old.held else some v
            good := if stays then good else 0, current := current, code := mean }
        let s := s.setHkRes c fun _ => r
        let s := if old.open_ && !stays then
            (s.endCause (causeKey 5 3 (0x100 + c))).endCause (causeKey 5 4 (0x100 + c))
          else if dead && !old.open_ then s.latch HKA_STATUS 0x20
          else s
        (s.hkPublished c x.injected).hkNext)

/-- HK_MONITOR_REPORT (R329): the excitation monitor of a running step reports a break or a short, at the earliest 0.5 us
behind the make; the step ends at once with a flagged result. The operand is what the monitor has found: the current and
the voltage at the pin are analog (notes/assumptions). -/
def execHkMonitorReport (path : Fin 2) (short : Bool) (s : State) : Res :=
  .next (match (s.hkPath path).step with
    | none => s
    | some x =>
      match x.source with
      | none => s
      | some k =>
        if ¬ s.hkOn ∨ ¬ x.made ∨ s.time < x.start + 1250 then s
        else
          let c := x.step.code
          let s := s.hkLeave path x
          let s := { s with hka.iex := upd s.hka.iex k fun y => (y.1, !short, short, y.2.2.2) }
          let old := s.hkRes c
          let newly := !old.open_ || (short && !old.short)
          let seen := if short then old.seenShort else old.seenOpen
          let s := s.setHkRes c fun r =>
            { r with valid := true, open_ := true, short := short, stale := false, range := false, clip := false
                     nocal := s.hkStopped, inj := x.injected, cycle := x.cycle, value := 0x7FFF, at_ := s.time
                     good := 0, seenOpen := r.seenOpen || !short, seenShort := r.seenShort || short }
          let s := if newly then (s.latch HKA_STATUS (if short then 0x40 else 0x20)).openEvent 11 0xA else s
          let s := if newly && !seen then
              s.report (causeKey 5 (if short then 4 else 3) (0x100 + c)) 0xA c false
            else s
          (s.hkPublished c x.injected).hkNext)

/-- HK_CYCLE_START (R338). A cycle that falls due while the previous one runs starts when that one ends. -/
def execHkCycleStart (s : State) : Res :=
  .next (if s.hkOn ∧ bit (s.regN HKA_SEQ_CFG) 0 ∧ ¬ s.hka.inCycle ∧ s.hka.cycleAt ≤ s.time then s.hkCycle else s)

/-! Rotation (R340). -/

/-- A shadow comparison has failed (R340): once, and it is repeated; a second time, and the slice is faulty. -/
def State.hkShadowFailed (s : State) (j : Nat) : State :=
  if ¬ s.hka.retried then { s.latch HKA_STATUS 0x80 with hka.retried := true, hka.shadowed := 0 }
  else
    let s := (s.spareFails 3 j).latch HKA_STATUS 0x100
    let s := { s with hka.spare := none, hka.retried := false, hka.rotDead := true, hka.rotStage := 0
                      rep.hkaFail := s.rep.hkaFail ++ [j] }
    ((s.report (causeKey 5 1 j) 0xA j false).mapAdd 3 2 j noSpare).mapMade 5 j [1]

/-- HK_ROTATION_STEP (R340): the step goes on to its next part. A step that is due begins the calibration of the spare; the
calibration ends with the trims that it found, and shadowing begins; the shadow ends after 64 conversions of the path, with
the offset difference in 1/1000 LSB and the deviation of the gain ratio in 1/1000 % that it measured; a spare that passes
takes the path at its next boundary between two steps. -/
def execHkRotationStep (shadow : List Int) (trims : List Byte) (s : State) : Res :=
  .next (match s.hka.spare with
    | none => s
    | some j =>
      let within_ (v bound : Int) : Bool := decide (-bound ≤ v) && decide (v ≤ bound)
      if s.hkStopped ∨ ¬ s.hkOn ∨ s.hka.paths.any (fun p => p.next.isSome) then s
      else if s.hka.rotStage = 1 then
        { s with hka.trims := upd s.hka.trims j fun _ => slice trims 0 16, hka.rotStage := 2, hka.shadowed := 0 }
      else if s.hka.rotStage = 2 then
        if s.hka.shadowed < 64 then s
        else if within_ (nth shadow 0 0) 2000 && within_ (nth shadow 1 0) 10 then
          { s with hka.rotStage := 3 }.hkTake j s.hka.rotPath
        else s.hkShadowFailed j
      else if s.time < s.hka.rotAt + ticksMs (s.fld HKA_ROT_CFG 7 0) then s
      else { s with hka.rotStage := 1, hka.rotAt := s.time })

/-- A slice in service has failed (R340; 17 R417): the spare takes its path, and the step that failed runs again on it. -/
def State.hkReplace (s : State) (j p : Nat) (m : Migration) : State :=
  let s := (s.latch HKA_STATUS 0x100).report (causeKey 5 2 j) 0xA j false
  let s := { s with
    hka.rotDead := true, hka.rotStage := 0, rep.hkaFail := s.rep.hkaFail ++ [j]
    hka.paths := s.hka.paths.map fun (q : HkPath) => { q with next := none } }
  match s.hka.spare with
  | none => ((s.mapAdd 3 2 j noSpare).mapMade 5 j [2]).migDone m 1 j 0x3FF
  | some k =>
    let s := match (s.hkPath p).step.bind HkRun.source with
      | some k => { s with hka.iex := upd s.hka.iex k fun y => (false, y.2) }
      | none => s
    let s := s.setHkPath p fun q =>
      { q with slice := some k, step := q.step.map fun (x : HkRun) => { x with start := s.time, made := false } }
    (({ s with hka.spare := none }.mapAdd 3 2 j k).repaired 5 j [2]).migDone m 0 j k

/-- HK_SLICE_MIGRATION (R340; 17 R417, R419, R426): a slice in service has failed, or leaves under a REP_MIGRATE. After a
fault the spare takes its path at once and rotation stops; without a spare the path stays on the failing slice. On a
command the spare takes the path at its next step boundary. -/
def execHkSliceMigration (j : Fin 3) (s : State) : Res :=
  .next (match (List.range 2).find? fun i => (s.hkPath i).slice == some j.val with
    | none => s
    | some p =>
      if s.rep.hkaFail.contains j.val then s
      else
        let x := match s.rep.migs.find? fun m => m.kind == 3 && m.failed == j.val with
          | some m => (m, s)
          | none => s.faultMig 3 j
        let m := x.1
        let s := x.2
        if ¬ m.commanded then s.hkReplace j p m
        else if s.hka.paths.any (fun q => q.next.isSome) then s
        else match s.hka.spare with
          | none => s.migDone m 3 j 0x3FF
          | some k => s.hkTake k p)

end Sys2Proof.Machine
end

