-- ==== Sys2Proof/Machine/Thermal.lean ====
section
/-!
DEFINITION. Thermal management and calibration sets (14; 19 R475).
-/
namespace Sys2Proof.Machine

/-! Sensors and zones (R346 to R350). -/

/-- A threshold in 0.1 degree as the least temperature in 1/32 degree that reaches it. -/
def tempAt (t : Int) : Int := (32 * t + 9) / 10

/-- Thresholds of a zone in 0.1 degree (R351). -/
def State.zoneWarn (s : State) (z : Nat) : Int := signed 16 (s.fld (THM_ZONE_A z) 15 0)
def State.zoneThrottle (s : State) (z : Nat) : Int := signed 16 (s.fld (THM_ZONE_A z) 31 16)
def State.zoneShutdown (s : State) (z : Nat) : Int := signed 16 (s.fld (THM_ZONE_B z) 15 0)

/-- The reading that stands for a failed sensor: its substitute's own, while that is sound (R347, R350). -/
def State.substitute (s : State) (n : Nat) : Option Int :=
  let m := s.fld (THM_SUBST n) 7 0
  if m < 24 ∧ ¬ (s.sensor m).failed then some (s.tsReading m) else none

/-- The zone temperature in 1/32 degree (R347). -/
def State.zoneTemp (s : State) (z : Nat) : Int :=
  let ns := [3 * z, 3 * z + 1, 3 * z + 2]
  let lost (n : Nat) : Bool := (s.sensor n).failed && (s.substitute n).isNone
  if 2 ≤ (ns.filter lost).length then tempAt (s.zoneShutdown z)
  else
    let eff (n : Nat) : Int :=
      if (s.sensor n).failed then (s.substitute n).getD (roundDiv (32 * (s.zoneThrottle z + 10)) 10)
      else s.tsReading n
    max (eff (3 * z)) (max (eff (3 * z + 1)) (eff (3 * z + 2)))

/-- A level after a reading (R351): entered at its threshold, left below the threshold minus H. -/
def State.level (s : State) (was : Bool) (temp thr : Int) : Bool :=
  decide (32 * thr ≤ 10 * temp) ||
    (was && decide (32 * (thr - (s.fld THM_CFG 23 16 : Nat)) ≤ 10 * temp))

/-- A reading fails its sensor (R349): no count, a count outside -55 to 150 degrees, or a step of more than 10
degrees. -/
def sensorFails (old new : Option Int) : Bool :=
  match old, new with
  | _, none => true
  | none, some v => decide (v < -1760) || decide (4800 < v)
  | some u, some v => decide (v < -1760) || decide (4800 < v) || decide (320 < (v - u).natAbs)

/-- A sensor's reading is taken (R346, R349). -/
def State.readSensor (s : State) (n : Nat) (r : Option Int) : State :=
  let old := s.sensor n
  let fails := !old.failed && sensorFails old.reading r
  let s := { s with thm.sensors := upd s.thm.sensors n fun x =>
      { x with reading := r <|> x.reading, failed := x.failed || fails } }
  if fails then
    ((s.latch THM_STATUS 0x40).report (causeKey 9 1 (0x100 + n)) 0xA n false).openEvent 5 0xA
  else s

/-- The die temperature (R348), with its history over the last minute (19 R475) and what follows from it for a
run in progress: drift (R366). -/
def State.readDie (s : State) : State :=
  let sound := (List.range 24).filter fun n => !(s.sensor n).failed
  let s := if sound.isEmpty then { s with thm.tdieStale := true }
    else { s with thm.tdieStale := false
                  thm.tDie := roundDiv ((sound.map s.tsReading).foldl (· + ·) 0) sound.length }
  let t := s.thm.tDie
  let first := s.thm.tHist.isEmpty
  let recent := s.thm.tHist.filter fun x => decide (s.time ≤ x.1 + ticksS 60)
  let older := (s.thm.tHist.filter fun x => decide (x.1 + ticksS 60 < s.time)).take 1
  let hist := match s.thm.tHist with
    | x :: _ => if x.2 = t then recent ++ older else (s.time, t) :: recent ++ older
    | [] => [(s.time, t)]
  let drift (r : CalRun) : Bool :=
    r.cause == 0 && decide (32 * (s.fld CAL_CFG 15 8 : Int) < 10 * ((t - r.tRun).natAbs : Int))
  { s with
    thm.tHist := hist
    thm.tLast := if first && !s.thm.haveLast then t else s.thm.tLast
    thm.run := s.thm.run.map fun r => if drift r then { r with cause := 3 } else r }

/-- Thermal shutdown (R355): no shot is committed, programs are suspended, captures disarmed, a calibration run
aborted. The firing unit and the sequencer hold while it is in force. -/
def State.thermalShutdown (s : State) (zone : Nat) : State :=
  let s := { s with thm.shutdown := true }.report (causeKey 9 2 zone) 0xA zone false
  let s := (s.openEvent 5 0xA).suspendAll Prog.live 3
  let s := (List.range 16).foldl (fun t u => t.disarm u) s
  match s.thm.run with
  | some r => s.failRun r none 5
  | none => s

/-- The zone levels are evaluated (R347, R351, R352, R355, R356). -/
def State.readZones (s : State) : State :=
  let temps := (List.range 8).map s.zoneTemp
  let old := s.thm
  let lev (was : List Bool) (thr : Nat → Int) : List Bool :=
    (List.range 8).map fun z => s.level (nth was z false) (nth temps z 0) (thr z)
  let warn := lev old.warn s.zoneWarn
  let throt := lev old.throt s.zoneThrottle
  let shut := lev old.shut s.zoneShutdown
  let s := { s with thm.zones := temps, thm.warn := warn, thm.throt := throt, thm.shut := shut
                    thm.cool := (List.range 8).all fun z => !s.level true (nth temps z 0) (s.zoneThrottle z) }
  let s := (List.range 8).foldl (fun t z =>
    if nth warn z false != nth old.warn z false then t.openEvent 5 0xA else t) s
  if s.thm.shutdown then
    if (List.range 8).any fun z => s.level true (nth temps z 0) (s.zoneShutdown z) then s
    else
      let s := { s with thm.shutdown := false }
      let s := (List.range 8).foldl (fun t z => t.endCause (causeKey 9 2 z)) s
      s.openEvent 5 0xA
  else
    match (List.range 8).find? fun z => nth shut z false with
    | some z => s.thermalShutdown z
    | none => s

/-- THERMAL_READING (R346 to R352, R355, R356): the 24 sensors are read, in 1/32 degree, none where a gate yields
no count. -/
def execThermalReading (readings : List (Option Int)) (s : State) : Res :=
  .next (if s.boot.held then s
    else ((List.range 24).foldl (fun t n => t.readSensor n (nth readings n none)) s).readDie.readZones)

/-- THROTTLE_STEP_CHANGE (R354). -/
def execThrottleStepChange (s : State) : Res :=
  .next (
    if s.time < s.thm.stepAt + ticksMs (s.fld THM_CFG 31 24) ∧ s.thm.stepAt ≠ 0 then s
    else
      let hot := s.thm.throt.any id
      let old := s.thm.step
      let new := if hot then (if old + 1 < s.stepCount then old + 1 else old) else if s.thm.cool then old - 1 else old
      if new = old then s
      else
        let top := s.thm.zones.foldl max (nth s.thm.zones 0 0)
        let zone := (s.thm.zones.findIdx? (· == top)).getD 0
        ({ s with thm.step := new, thm.stepAt := s.time }.latch THM_STATUS 0x20).openEvent 5 0xA
          (some [BitVec.ofNat 8 old, BitVec.ofNat 8 new, BitVec.ofNat 8 zone]))

def thermThreshOk (warn thr shut : Int) : Bool :=
  decide (-400 ≤ warn) && decide (warn < thr) && decide (thr < shut) && decide (shut ≤ 1250)

def thermThreshOp : OpSpec :=
  { opcode := 0x92, lengthOk := exactly 8
    check := fun _ d => firstFail [need (decide (field d 0 1 ≤ 7)) BAD_PARAM 16,
      need (thermThreshOk (fieldInt d 2 2) (fieldInt d 4 2) (fieldInt d 6 2)) BAD_PARAM 18]
    act := fun s _ p =>
      let d := p.payload
      let z := field d 0 1
      { st := (s.setRegN (THM_ZONE_A z) (field d 4 2 * 65536 + field d 2 2)).setRegN (THM_ZONE_B z) (field d 6 2) } }

/-- THERM_THRESH (R351). -/
def execThermThresh (o : Origin) (r : Request) (s : State) : Res := .next (s.serve thermThreshOp o r)

/-- The zones adjacent to a zone (R346). -/
def adjacent (z : Nat) : List Nat :=
  nth [[1, 2, 5], [0, 3, 5], [0, 3, 4], [1, 2, 4], [2, 3, 6], [0, 1, 7], [4, 7], [5, 6]] z []

/-- A substitute that a sensor may have (R350). -/
def substOk (n m : Nat) : Bool :=
  m == 0xFF || (decide (m < 24) && (m / 3 == n / 3 || (adjacent (n / 3)).contains (m / 3)))

def thermSubstOp : OpSpec :=
  { opcode := 0x93, lengthOk := exactly 4
    check := fun _ d => firstFail [need (decide (field d 0 1 < 24)) BAD_PARAM 16,
      need (substOk (field d 0 1) (field d 1 1)) BAD_PARAM 17]
    act := fun s _ p =>
      let n := field p.payload 0 1
      let m := field p.payload 1 1
      s.doneIf [need (s.sensor n).failed STATE, need (m == 0xFF || !(s.sensor m).failed) STATE] fun s =>
        { st := s.setRegN (THM_SUBST n) m } }

/-- THERM_SUBST (R350). -/
def execThermSubst (o : Origin) (r : Request) (s : State) : Res := .next (s.serve thermSubstOp o r)

/-! Calibration sets (R358 to R361). -/

/-- TEMP of a set in 0.1 degree. -/
def setTemp (b : List Byte) : Int := fieldInt b 4 2

/-- The tap table of a lane in a set is sound (R360). -/
def tapsOk (b : List Byte) (t lane : Nat) : Bool :=
  laneOk b (CAL_TAP t lane)

/-- The checks of CAL_ACTIVATE on a staging set (R360). -/
def calSetOk (b : List Byte) (k : Nat) : Bool :=
  field b 0 2 == 1 && field b 0x10 4 == calLength && crcBlank b 0x14 == BitVec.ofNat 32 (field b 0x14 4) &&
    field b 2 1 == k && decide (-400 ≤ setTemp b) && decide (setTemp b ≤ 1250) &&
    (List.range 1134).all (fun i => tapsOk b (i / 2) (i % 2)) &&
    (List.range 1024).all (fun i =>
      decide (-256 ≤ fieldInt b (CAL_CMP 0 0 + 2 * i) 2) && decide (fieldInt b (CAL_CMP 0 0 + 2 * i) 2 ≤ 255)) &&
    (List.range 4).all fun g => within (field b (CAL_GCAL g) 2) 0x2000 0x7FFF

/-- Stores a set as stored set k, which waits to be written to flash; a build is due (R360, R363, R366). -/
def State.storeSet (s : State) (k : Nat) (b : List Byte) : State :=
  { s with thm.stored := s.thm.stored.set k (some b), thm.buildDue := true
           thm.writeback := s.thm.writeback.filter (fun x => x.1 != k) ++ [(k, s.time)] }

def calActivateOp : OpSpec :=
  { opcode := 0xD1, lengthOk := exactly 4
    check := fun _ d => need (decide (field d 0 1 ≤ 7)) BAD_PARAM 16
    act := fun s _ p =>
      let k := field p.payload 0 1
      let b := Sparse.getMany zeroByte s.thm.staging 0 calLength
      s.doneIf [need (calSetOk b k) IMAGE_INVALID, need s.thm.run.isNone STATE] fun s => { st := s.storeSet k b } }

/-- CAL_ACTIVATE (R360). -/
def execCalActivate (o : Origin) (r : Request) (s : State) : Res := .next (s.serve calActivateOp o r)

/-- TB_SYS in whole seconds since a set was created. -/
def State.setAge (s : State) (b : List Byte) : Nat := (s.sysNs - field b 8 8) / 1000000000

def calStatusOp : OpSpec :=
  { opcode := 0xD2, lengthOk := noPayload
    act := fun s _ _ =>
      { st := s, payload := s.thm.stored.flatMap fun x => match x with
          | none => leBytes 2 0x8000 ++ [0, 0] ++ leBytes 4 0xFFFFFFFF
          | some b => slice b 4 2 ++ [0, 0] ++ leBytes 4 (s.setAge b) } }

/-- CAL_STATUS (R361). -/
def execCalStatus (o : Origin) (r : Request) (s : State) : Res := .next (s.serve calStatusOp o r)

/-! The applied set (R362, R363). -/

/-- The weight of set b between sets a and b: num / den, with num below den. -/
structure Mix where
  a   : List Byte
  b   : List Byte
  num : Nat
  den : Nat

/-- x_a + (x_b - x_a) · num / den, rounded (R362). -/
def Mix.mid (m : Mix) (x y : Int) : Int := roundDiv (x * (m.den - m.num : Nat) + y * m.num) m.den

/-- Interpolates consecutive signed fields. -/
def Mix.fields (m : Mix) (off size count : Nat) : List Byte :=
  (List.range count).flatMap fun i =>
    leBytesInt size (m.mid (fieldInt m.a (off + size * i) size) (fieldInt m.b (off + size * i) size))

/-- Interpolates a lane's tap table: the widths as values, then floored and normalised; g rounded. -/
def Mix.taps (m : Mix) (off : Nat) : List Byte :=
  let w := (List.range 32).map fun i =>
    65536 * (field m.a (off + 2 * i) 2 * (m.den - m.num) + field m.b (off + 2 * i) 2 * m.num) / m.den
  (normalise w).flatMap (leBytes 2) ++
    leBytesInt 2 (m.mid (field m.a (off + 64) 2) (field m.b (off + 64) 2)) ++ List.replicate 14 0

/-- The elements of a set, from offset 0x40 on. -/
def Mix.body (m : Mix) : List Byte :=
  (List.range 1134).flatMap (fun i => m.taps (0x40 + 80 * i)) ++ m.fields 0x162A0 2 1134 ++ [0, 0, 0, 0] ++
    m.fields 0x16B80 2 5120 ++ m.fields 0x19380 2 1024 ++ m.fields 0x19B80 4 512 ++ m.fields 0x1A380 2 512 ++
    m.fields 0x1A780 4 9 ++ m.fields 0x1A7A4 2 4 ++ [0, 0, 0, 0] ++ m.fields 0x1A7B0 2 132 ++
    m.fields 0x1A8B8 4 16 ++ List.replicate 8 0 ++ m.fields 0x1A900 2 26 ++ List.replicate 12 0

/-- A set from its header fields and its body, with LENGTH and CRC (R358). -/
def calSet (index : Nat) (temp : Int) (sources created : Nat) (body : List Byte) : List Byte :=
  let b := leBytes 2 1 ++ leBytes 1 index ++ [0] ++ leBytesInt 2 temp ++ leBytes 2 sources ++ leBytes 8 created ++
    leBytes 4 calLength ++ leBytes 4 0 ++ List.replicate 40 0 ++ body
  patch b 0x14 (leBytes 4 (crc32c b).toNat)

/-- The sets that a build at a temperature in 1/32 degree uses, and whether it lies outside theirs (R362). -/
def mixOf (sets : List (List Byte)) (t : Int) : Option (Mix × Bool) :=
  let low := sets.filter fun x => decide (32 * setTemp x ≤ 10 * t)
  let high := sets.filter fun x => decide (10 * t < 32 * setTemp x)
  let top (f : Int → Int → Bool) (l : List (List Byte)) : Option (List Byte) :=
    l.foldl (fun (best : Option (List Byte)) (x : List Byte) =>
      match best with
      | none => some x
      | some y => if f (setTemp x) (setTemp y) then some x else some y) none
  match top (fun x y => decide (y < x)) low, top (fun x y => decide (x < y)) high with
  | some a, some b =>
    some (Mix.mk a b (10 * t - 32 * setTemp a).toNat (32 * (setTemp b - setTemp a)).toNat, false)
  | some a, none => some (Mix.mk a a 0 1, decide (32 * setTemp a < 10 * t))
  | none, some b => some (Mix.mk b b 0 1, true)
  | none, none => none

/-- A built set comes into force: a new version with its effective tick; comparator trims wait for their
channels' t_u, inputs of the digitiser for their capture boundaries, slices out of service and paths take
their trims (R363). -/
def State.publishSet (s : State) (b : List Byte) : State :=
  let old := s.appliedSet
  let s := s.bump CAL_VER
  let v := match s.thm.applied with | x :: _ => x.version + 1 | [] => 1
  let s := { s with thm.applied := Applied.mk v (s.tim.shot + 64) b :: s.thm.applied }
  let s := (List.range 512).foldl (fun t c =>
    if fieldInt b (CAL_CMP c 0) 2 = (t.chan c).trimL ∧ fieldInt b (CAL_CMP c 1) 2 = (t.chan c).trimU then t
    else t.setChan c fun x => { x with pending := some (t.time, t.seq.next) }) s
  let changed := (List.range 16).filter fun i =>
    slice b (CAL_DIN i) 4 != slice old (CAL_DIN i) 4 || slice b (CAL_WGAIN i 0) 8 != slice old (CAL_WGAIN i 0) 8
  let s := { s with wfd.dinPend := (s.wfd.dinPend.filter fun i => !changed.contains i) ++ changed }
  let s := changed.foldl (fun t i => if t.boundary i then t.takeDin i else t) s
  let s := { s with
    wfd.slices := s.wfd.slices.zipIdx.map fun (x, j) =>
      if x.pos.isNone && x.state != 4 then
        { x with offset := fieldInt b (CAL_WS j) 2, gain := fieldInt b (CAL_WS j + 2) 2
                 skew := fieldInt b (CAL_WS j + 4) 2, fresh := false }
      else { x with fresh := true }
    hka.paths := s.hka.paths.map fun (p : HkPath) => { p with fresh := true } }
  (List.range 2).foldl (fun t i => if (t.hkPath i).step.isNone then t.hkBoundary i else t) s

/-- A build (R362, R363) at T_i = T_die. The index, sources and creation time in the applied set's header are not
stated: free values; its temperature is T_i. -/
def State.buildSet (s : State) : State :=
  let stored := s.thm.stored.filterMap id
  let factory := stored.isEmpty
  let t := s.thm.tDie
  match mixOf (if factory then (List.range 8).map factorySet else stored) t with
  | none => s
  | some (m, out) =>
    let (f, s) := s.draw 62
    let b := calSet (f % 8) (roundDiv (10 * t) 32) (f / 8 % 64) (f / 512 % 2 ^ 64) m.body
    let s := s.publishSet b
    { s with thm.tApply := t, thm.extrap := out, thm.factory := factory, thm.buildDue := false }

/-- APPLIED_SET_BUILD (R363): a build is due, or the die has moved by more than CAL_CFG.INTERP. -/
def execAppliedSetBuild (s : State) : Res :=
  .next (
    let moved := decide (32 * (s.fld CAL_CFG 31 24 : Int) < 10 * ((s.thm.tDie - s.thm.tApply).natAbs : Int))
    if ¬ s.thm.applied.isEmpty ∧ (s.thm.buildDue ∨ moved) then s.buildSet else s)

/-! Runs (R364 to R366; 19 R475). -/

/-- A run starts. -/
def State.startRun (s : State) (mask : Nat) (owner : Option (Origin × Half)) (first : Bool) : State :=
  { s.setRegN CAL_RUN_STAT mask with
    thm.run := some { mask := mask, started := s.time, tRun := s.thm.tDie, owner := owner, first := first, cause := 0, tapAt := none } }

def calRunOp : OpSpec :=
  { opcode := 0xD0, needsReady := true, lengthOk := exactly 4
    check := fun _ d => need (within (field d 0 4) 1 0x3F) BAD_PARAM 16
    act := fun s o p => s.doneIf [need s.thm.run.isNone BUSY, need (!s.thm.shutdown) STATE] fun s =>
      { st := s.startRun (field p.payload 0 4) (some (o, p.sequence)) false, status := ACCEPTED } }

/-- CAL_RUN (R364). -/
def execCalRun (o : Origin) (r : Request) (s : State) : Res := .next (s.serve calRunOp o r)

/-- What any automatic run needs: Thrumi serves after READY, no run and no shutdown, and a failed run's retry
delay has passed (R356, R364, R366). -/
def State.autoReady (s : State) : Bool :=
  s.boot.phase == .ready && s.boot.firmware && s.thm.run.isNone && !s.thm.shutdown && s.fld CAL_CFG 5 0 != 0 &&
    (match s.thm.retryAt with | some t => decide (t + ticksS (s.fld CAL_CFG 23 16) ≤ s.time) | none => true)

/-- The first run after power-up is still to come and BOOT_CFG.FIRST_CAL holds it (19 R475). -/
def State.firstHeld (s : State) : Bool := s.boot.firstCal && bit (s.regN BOOT_CFG) 8

/-- CAL_AUTO_RUN (R364, R366; 19 R475). -/
def execCalAutoRun (s : State) : Res :=
  .next (
    let due := decide (32 * (s.fld CAL_CFG 15 8 : Int) < 10 * ((s.thm.tDie - s.thm.tLast).natAbs : Int))
    if s.autoReady && bit (s.regN CAL_CFG) 7 && !s.firstHeld && due then
      ({ s with boot.firstCal := false }.startRun (s.fld CAL_CFG 5 0) none false).openEvent 6 0xB
    else s)

/-- T_die has stayed within 0.5 degree over the preceding 60 s (19 R475). -/
def State.settled (s : State) : Bool :=
  let vals := s.thm.tHist.map Prod.snd
  s.thm.tHist.any (fun x => decide (x.1 + ticksS 60 ≤ s.time)) &&
    decide (vals.foldl max s.thm.tDie - vals.foldl min s.thm.tDie ≤ 16)

/-- FIRST_CAL_START (19 R475). -/
def execFirstCalStart (s : State) : Res :=
  .next (
    let late := decide (s.boot.readyAt + ticksS (s.fld BOOT_CFG 31 16) ≤ s.time)
    if s.autoReady && s.firstHeld && ((s.tim.warm && s.settled) || late) then
      (s.startRun (s.fld CAL_CFG 5 0) none true).openEvent 6 0xB
    else s)

/-- The set of a temperature's band (R361). -/
def bandOf (t : Int) : Nat := (clampInt 0 7 ((t + 1600) / 640)).toNat

/-- The regions of a set that the steps of a mask measure and that are not taken from the device's own state
(R365, R366): skews, comparator trims of channels that are not enabled, D_in and gain trims of inputs that
feed no lane in use. -/
def State.measures (s : State) (mask off : Nat) : Bool :=
  (bit mask 1 && decide (0x162A0 ≤ off) && decide (off < 0x19380)) ||
  (bit mask 2 && decide (0x19380 ≤ off) && decide (off < 0x19B80) && !bit (s.regN (HCH_CFG ((off - 0x19380) / 4))) 0) ||
  (bit mask 3 && decide (CAL_WGAIN 0 0 ≤ off) && decide (off < CAL_DIN 0) && (s.inputLane ((off - CAL_WGAIN 0 0) / 8)).isNone) ||
  (bit mask 3 && decide (CAL_DIN 0 ≤ off) && decide (off < CAL_DIN 16) && (s.inputLane ((off - CAL_DIN 0) / 4)).isNone)

/-- Every lane that a TDC in service has is CONVERGED (R365). -/
def State.allConverged (s : State) : Bool :=
  (List.range 567).all fun t =>
    s.rep.tdcFail.contains t || ((s.tdc t).lower.converged && (decide (544 ≤ t) || (s.tdc t).upper.converged))

/-- A tick on a run that measures tap tables: it notes since when every lane is CONVERGED (R365). -/
def State.calTick (s : State) : State :=
  match s.thm.run with
  | some r => if bit r.mask 0 && r.tapAt.isNone && s.allConverged then
      { s with thm.run := some { r with tapAt := some s.time } } else s
  | none => s

/-- What one tick does while no command waits (notes/assumptions). -/
def State.idle (s : State) : State :=
  s.tick.qualifyPin.reportBegun.markUnlit.pulseTick.encoderTick.eventTick.hkTick.calTick

/-- The elements that a run takes from the device: live tables (TAP), rotation trims (WFD, HKA), fire leads
(FIRE). -/
def State.ownElements (s : State) (mask : Nat) : List (Nat × List Byte) :=
  let taps := if bit mask 0 then
      (List.range 1134).filterMap fun i =>
        let l := s.lane (i / 2) (i % 2 == 1)
        match l.versions with
        | v :: _ => if l.converged then
            some (0x40 + 80 * i, (List.range 32).flatMap (fun j => leBytes 2 (nth v.w j 0)) ++ leBytes 2 v.g) else none
        | [] => none
    else []
  let wfd := if bit mask 3 then
      s.wfd.slices.zipIdx.map fun (x, j) => (CAL_WS j, leBytesInt 2 x.offset ++ leBytesInt 2 x.gain ++ leBytesInt 2 x.skew)
    else []
  let hka := if bit mask 4 then s.hka.trims.zipIdx.map fun (x, j) => (CAL_HS j 0, x) else []
  let fire := if bit mask 5 then
      s.emt.leads.zipIdx.filterMap fun (l, n) =>
        if l.length = 4096 then some (CAL_LEAD n, leBytesInt 4 (roundDiv (l.foldl (· + ·) 0) 4096)) else none
    else []
  taps ++ wfd ++ hka ++ fire

/-- The set of a run's elements (R366): what it measured, what it took from the device, and otherwise the applied set. -/
def State.runSet (s : State) (r : CalRun) (measured : List (Nat × List Byte)) : List Byte :=
  let foreign := measured.flatMap fun (off, d) =>
    (d.zipIdx.map fun (x, i) => (off + i, x)).filter fun c => s.measures r.mask c.1
  let b := foreign.foldl (fun (b : List Byte) (c : Nat × Byte) => patch b c.1 [c.2]) s.appliedSet
  (s.ownElements r.mask).foldl (fun (b : List Byte) (c : Nat × List Byte) => patch b c.1 c.2) b

/-- Every comparator trim that a run measured lies within its limits (R365). -/
def State.trimsOk (s : State) (r : CalRun) (measured : List (Nat × List Byte)) : Bool :=
  !bit r.mask 2 || (
    let b := s.runSet r measured
    (List.range 512).all fun c => bit (s.regN (HCH_CFG c)) 0 || (List.range 2).all fun u =>
      decide (-256 ≤ fieldInt b (CAL_CMP c u) 2) && decide (fieldInt b (CAL_CMP c u) 2 ≤ 255))

/-- The step of a run with the longest allowance, and when that ends (R365). -/
def State.lastStep (s : State) (r : CalRun) : Nat × Nat :=
  (List.range 6).foldl (fun (b : Nat × Nat) k =>
    let t := r.started + ticksMs (s.fld (CAL_TMO k) 15 0)
    if bit r.mask k ∧ b.2 < t then (k, t) else b) (0, 0)

/-- A run succeeds (R366): the new set replaces the one of T_run's band, and a build is due. -/
def State.calEnd (s : State) (r : CalRun) (measured : List (Nat × List Byte)) : State :=
  let b := s.runSet r measured
  let k := bandOf r.tRun
  let set_ := calSet k (roundDiv (10 * r.tRun) 32) r.mask s.sysNs (slice b 0x40 (calLength - 0x40))
  let s := (s.storeSet k set_).setRegN CAL_RUN_STAT 0
  let s := { s with thm.run := none, thm.retryAt := none, thm.tLast := r.tRun, thm.haveLast := true }
  let s := if r.first then { s.latch BOOT_STATUS 0x400 with boot.firstCal := false } else s
  match r.owner with
  | some o => s.complete o OK 0xB
  | none => s.event OK 6 0xB []

/-- CAL_RUN_END (R365, R366): the run ends with the elements that it measured, or in a step that failed: by
timeout when the step's allowance has passed, else because a value left its limit. A run whose failure is
certain ends in it; one whose lanes have not all converged goes on until the allowance of step 0 ends, which they must not
pass; measured trims outside their limits fail step 2. That steps 1 to 3 have converged within their own allowances is what
the operand says (notes/assumptions). -/
def execCalRunEnd (result : CalResult) (s : State) : Res :=
  .next (match s.thm.run with
    | none => s
    | some r =>
      if r.cause ≠ 0 then s.failRun r none r.cause
      else if bit r.mask 4 && s.hkStopped then s.failRun r (some 4) 4
      else match result with
        | .ok measured =>
          let last := s.lastStep r
          let taps := r.started + ticksMs (s.fld (CAL_TMO 0) 15 0)
          if bit r.mask 0 && decide (taps < r.tapAt.getD s.time) then s.failRun r (some 0) 1
          else if last.2 < s.time then s.failRun r (some last.1) 1
          else if bit r.mask 0 && r.tapAt.isNone then s
          else if ¬ s.trimsOk r measured then s.failRun r (some 2) 2
          else s.calEnd r measured
        | .failed k =>
          if ¬ bit r.mask k ∨ 6 ≤ k then s
          else s.failRun r (some k) (if r.started + ticksMs (s.fld (CAL_TMO k) 15 0) ≤ s.time then 1 else 2))

/-! Flash (R361; 19 R466). -/

/-- A stored set of a copy in flash, when it is valid. -/
def State.calCopy (s : State) (copy k : Nat) : Option (List Byte) :=
  let b := s.flashRead (FL_CALIB copy k) calLength
  if field b 0 2 = 1 ∧ field b 0x10 4 = calLength ∧ crcBlank b 0x14 = BitVec.ofNat 32 (field b 0x14 4) then some b
  else none

/-- The copy of a stored set that counts: the valid one created later. -/
def State.calNewest (s : State) (k : Nat) : Option (Nat × List Byte) :=
  match s.calCopy 0 k, s.calCopy 1 k with
  | some a, some b => some (if field a 8 8 < field b 8 8 then (1, b) else (0, a))
  | some a, none => some (0, a)
  | none, some b => some (1, b)
  | none, none => none

/-- CALSET_WRITEBACK (R361; 19 R466): a changed stored set is written to the copy that does not count. -/
def execCalsetWriteback (k : Fin 8) (s : State) : Res :=
  .next (
    if ¬ s.boot.firmware ∨ s.thm.writeback.all (fun x => x.1 != k.val) then s
    else match nth s.thm.stored k none with
      | none => s
      | some b =>
        let copy := match s.calNewest k with | some x => 1 - x.1 | none => 0
        { s.flashStore (FL_CALIB copy k) 0x20000 b with
          thm.writeback := s.thm.writeback.filter fun x => x.1 != k.val })

end Sys2Proof.Machine
end

