-- ==== Sys2Proof/Machine/Net.lean ====
section
/-!
DEFINITION. Datagrams as a port sends them (10 R271): Ethernet II, IPv4 without options, UDP.
-/
namespace Sys2Proof.Machine

/-- The n big-endian bytes of a number. -/
def beBytes (n v : Nat) : List Byte := (leBytes n v).reverse

/-- The number that big-endian bytes spell. -/
def beNat (l : List Byte) : Nat := leNat l.reverse

/-- The sum of the 16-bit words of a byte string, padded with a zero byte. -/
def wordSum : List Byte → Nat
  | [] => 0
  | [a] => 256 * a.toNat
  | a :: b :: t => 256 * a.toNat + b.toNat + wordSum t

/-- One's complement folding of a sum to 16 bits. -/
def fold16 (n : Nat) : Nat :=
  let a := n % 65536 + n / 65536
  let b := a % 65536 + a / 65536
  b % 65536 + b / 65536

/-- The Internet checksum. -/
def inetSum (l : List Byte) : Nat := 65535 - fold16 (wordSum l)

/-- MAC and IPv4 address of a port as they stand on the line (10 R276). -/
def State.portMac (s : State) (p : Nat) : List Byte :=
  leBytes 4 (s.regN (OUT_ETH_MAC_LO p)) ++ leBytes 2 (s.fld (OUT_ETH_MAC_HI p) 15 0)
def State.portIp (s : State) (p : Nat) : List Byte := leBytes 4 (s.regN (OUT_ETH_IP p))

/-- An Ethernet header with an 802.1Q tag, if any (10 R271). -/
def taggedHeader (dst src : List Byte) (tag : Option Nat) (type_ : Nat) : List Byte :=
  dst ++ src ++ (match tag with | some t => [0x81, 0x00] ++ beBytes 2 t | none => []) ++ beBytes 2 type_

/-- An Ethernet header, with the 802.1Q tag of a VLAN field whose tag bit is set (10 R264, R271). -/
def etherHeader (dst src : List Byte) (vlan type_ : Nat) : List Byte :=
  taggedHeader dst src (if bit vlan 12 then some (vlan / 8192 * 8192 + vlan % 4096) else none) type_

/-- An IPv4 header (10 R271): `fragment` is the flags and fragment offset word. -/
def ipHeader (dscp ttl ident fragment length : Nat) (src dst : List Byte) : List Byte :=
  let h := [0x45] ++ beBytes 1 (4 * dscp) ++ beBytes 2 (20 + length) ++ beBytes 2 ident ++ beBytes 2 fragment ++
    beBytes 1 ttl ++ [17, 0, 0] ++ src ++ dst
  patch h 10 (beBytes 2 (inetSum h))

/-- A UDP header and its data, the checksum computed (10 R271). -/
def udpBytes (src dst : List Byte) (sport dport : Nat) (d : List Byte) : List Byte :=
  let n := 8 + d.length
  let h := beBytes 2 sport ++ beBytes 2 dport ++ beBytes 2 n
  let c := inetSum (src ++ dst ++ [0, 17] ++ beBytes 2 n ++ h ++ [0, 0] ++ d)
  h ++ beBytes 2 (if c = 0 then 0xFFFF else c) ++ d

/-- The next identification of a port, counted with the datagram (10 R271, R276). -/
def State.nextDatagram (s : State) (p : Nat) : Nat × State :=
  ((nth s.out.ipIdent p 0).toNat,
    { s with out.ipIdent := upd s.out.ipIdent p fun (x : Half) => x + 1 }.bump (OUT_ETH_TXDG p))

/-- An unfragmented datagram of a port (10 R271). -/
def State.datagram (s : State) (p : Nat) (mac ip : List Byte) (sport dport vlan : Nat) (d : List Byte)
    (dscp : Nat := 0) : List Byte × State :=
  let x := s.nextDatagram p
  let u := udpBytes (s.portIp p) ip sport dport d
  (etherHeader mac (s.portMac p) vlan 0x0800 ++
    ipHeader dscp (s.fld (OUT_ETH_CFG p) 31 24) x.1 0x4000 u.length (s.portIp p) ip ++ u, x.2)

/-- A port sends a frame beside the scheduler (10 R273). -/
def State.sendDirect (s : State) (p : Fin 4) (frame : List Byte) : State :=
  { s with out.direct := s.out.direct ++ [(p, frame)] }

end Sys2Proof.Machine
end

