-- ==== Sys2Proof/Machine/Island.lean ====
section
/-!
DEFINITION. The safety island (16; 01 R25, R26; 10 R261). Its times are counts of TB_SAFE, 10 ns each. A demand
toward the safe state prevails over every other result of a cycle (R389).
-/
namespace Sys2Proof.Machine

/-- TB_SAFE, not wrapped (12 R296). -/
def State.safeNow (s : State) : Nat := s.tim.safe25 / 25

/-- The island executes (00 R2, R413). -/
def State.islandOn (s : State) : Bool := s.sb && s.saf.st != .off

/-- A span in ms in TB_SAFE. -/
abbrev safeMs (n : Nat) : Nat := 100000 * n

/-! The parameter block (R406). -/

def pbOwn (b : List Byte) : Nat := field b 8 2
def pbCtrl (b : List Byte) : Nat := field b 10 2
def pbPort (b : List Byte) : Nat := field b 12 2
def pbQual (b : List Byte) : Nat := field b 15 1
def pbMax (b : List Byte) : Nat := field b 16 4
def pbMin (b : List Byte) : Nat := field b 20 4
def pbDisc (b : List Byte) : Nat := safeMs (field b 24 2)
def pbGt (b : List Byte) : Nat := safeMs (field b 26 2)
def pbCyc (b : List Byte) : Nat := safeMs (field b 28 2)
def pbWd (b : List Byte) : Nat := safeMs (field b 30 2)
def pbPair (b : List Byte) : Nat := safeMs (field b 32 2)
def pbSettle (b : List Byte) : Nat := safeMs (field b 34 2)
def pbPulse (b : List Byte) : Nat := 100 * field b 36 2
def pbPeriod (b : List Byte) : Nat := 100000000 * field b 38 2
def pbLenPulse (b : List Byte) : Nat := 100 * field b 40 2
def pbPend (b : List Byte) : Nat := 100000000 * field b 42 2

/-- The block is whole: length, SCRC and FORMAT (R407). -/
def blockSound (b : List Byte) : Bool :=
  b.length == 128 && scrc (b.take 124) == BitVec.ofNat 32 (field b 124 4) && field b 0 2 == 1

/-- The first field of a block outside its range, as its offset in the packet (R406, R407). -/
def blockRange (b : List Byte) (command : Nat) : Option Nat :=
  let checks : List (Nat × Bool) := [
    (2, field b 2 2 == 128), (8, within (pbOwn b) 1 65535),
    (10, within (pbCtrl b) 1 65535 && pbCtrl b != pbOwn b),
    (12, within (pbPort b) 1024 65535 && pbPort b != command), (14, decide (field b 14 1 ≤ 1)),
    (15, decide (2 ≤ pbQual b)), (16, within (pbMax b) 1000 10000000),
    (20, pbMin b == 0 || (decide (100 ≤ pbMin b) && decide (pbMin b < pbMax b))), (24, within (field b 24 2) 10 1000),
    (26, within (field b 26 2) 20 1000), (28, within (field b 28 2) 1 100),
    (30, within (field b 30 2) (3 * field b 28 2) 1000), (32, within (field b 32 2) 1 (field b 30 2)),
    (34, within (field b 34 2) 1 100), (36, within (field b 36 2) 50 2000), (38, within (field b 38 2) 1 3600),
    (40, field b 40 2 == 0 || within (field b 40 2) 10 200), (42, within (field b 42 2) 10 3600),
    (52, !bit (field b 52 1) 0), (58, !bit (field b 58 1) 0) ] ++
    (List.range 56).map fun i => (68 + i, field b (68 + i) 1 == 0)
  (checks.find? fun c => !c.2).map fun c => 16 + c.1

/-! Mailbox, records and faults (R401, R411; 01 R26; 10 R261). -/

/-- The fabric takes what the island has queued, in order: SAFE records go to their streams and telegrams leave
on their ports (10 R262, R273). The fabric runs once its clocks do. -/
def State.takeMail (s : State) : State :=
  if s.boot.held || s.boot.phase == .hardware then s
  else
    s.saf.mailOut.foldl (fun t m =>
      match m with
      | .record b => t.spread (fun d => bit (stSysMask d) 1)
          { bytes := b, key := t.keyNow, chan := none, origin := t.tim.shot, frees := none, pid := none }
      | .telegram net d =>
        let a := t.saf.active
        let x := t.datagram net (slice a (52 + 6 * net) 6) (slice a (44 + 4 * net) 4) (pbPort a) (pbPort a)
          (field a (64 + 2 * net) 2) d
        x.2.sendDirect (if net = 0 then 0 else 1) x.1) { s with saf.mailOut := [] }

def MailOut.isTelegram : MailOut → Bool
  | .record _ => false
  | .telegram _ _ => true

/-- The island queues an entry (01 R26): a full mailbox loses its oldest entry that is no telegram, or the new
one. R26 speaks of a new telegram where only telegrams stand; a new SAFE record is dropped and counted in the same way
(DESIGN CHOICE, notes/assumptions). -/
def State.mailPush (s : State) (m : MailOut) : State :=
  if s.saf.mailOut.length < 16 then { s with saf.mailOut := s.saf.mailOut ++ [m] }
  else match s.saf.mailOut.findIdx? fun x => !x.isTelegram with
    | some i => { s with saf.mailOut := s.saf.mailOut.eraseIdx i ++ [m] }.bump SAF_MBX_OVW
    | none => s.bump SAF_MBX_DROP

/-- OUT and IN of the status (R402). -/
def Island.outByte (x : Island) : Nat := flags (x.outs.take 4)
def Island.inByte (x : Island) : Nat := flags (x.ins.take 4 ++ [x.speedOk, x.guardClosed])

/-- A SAFE record (R411; 10 R261). Its sequence wraps under 00 R15. -/
def State.safeRecord (s : State) (kind cause : Nat) : State :=
  let x := s.saf
  let b := [0x07] ++ leBytes 1 kind ++ leBytes 2 x.iseq.toNat ++ [0, 0, 0, 0] ++ leBytes 8 s.safeNow ++
    leBytes 1 x.st.code ++ leBytes 1 x.outByte ++ leBytes 1 x.inByte ++ leBytes 1 cause ++
    leBytes 4 x.faults.toNat ++ leBytes 4 (field x.active 4 4) ++ leBytes 4 x.tseqTx.toNat
  let s := if x.iseq = 0xFFFF then s.noteWrap 0xD 0xFF 0 16 else s
  { s with saf.iseq := x.iseq + 1 }.mailPush (.record b)

/-- The status DATA (R402). -/
def State.statusData (s : State) : List Byte :=
  let x := s.saf
  leBytes 1 x.st.code ++ leBytes 1 x.outByte ++ leBytes 1 x.inByte ++
    leBytes 1 (flags [x.staged.isSome, x.gtPhase == 2, x.passed.all id, s.wdOk]) ++ leBytes 4 x.faults.toNat ++
    leBytes 4 (min (x.period.getD 0xFFFFFFFF) 0xFFFFFFFF) ++ leBytes 4 (field x.active 4 4) ++
    leBytes 4 (field x.active 124 4) ++ leBytes 4 x.tseqRx.toNat ++ List.replicate 8 0

/-- The levels driven change, and the pads with them; a change of BRK_x begins its settling time (R398), and a status
pair is due (R403). -/
def State.setOuts (s : State) (o : List Bool) : State :=
  let old := s.saf.outs
  let ch (i : Nat) : Bool := nth o i false != nth old i false
  let at_ (i : Nat) (was : Nat) : Nat := if ch i then s.safeNow else was
  { s with
    saf.outs := o
    saf.pads := (List.range 4).map fun i => if ch i then nth o i false else nth s.saf.pads i false
    saf.brkAt := [at_ 2 (nth s.saf.brkAt 0 0), at_ 3 (nth s.saf.brkAt 1 0)]
    saf.statDue := s.saf.statDue || decide (o ≠ old) }

/-- The outputs are driven, with the record of their change and what gave rise to it (R411). -/
def State.driveOuts (s : State) (o : List Bool) (cause : Nat) : State :=
  if s.saf.outs = o then s else (s.setOuts o).safeRecord 1 cause

/-- CAUSE of a test: the fault that its failure latches (R399, R411). -/
def testCause (w : Nat) : Nat := if w < 2 then 3 + w else 5

/-- A demand aborts the test that runs (R400). -/
def State.abortTest (s : State) : State :=
  match s.saf.testing with
  | none => s
  | some (w, _) =>
    ({ s with saf.testing := none, saf.testEnd := some s.safeNow }.bump SAF_TEST_ABORT).safeRecord 3 (testCause w)

/-- A fault is latched (R401, R414): state FAULT with the safe state, an incident, a SAFE record, an EVENT. One that is
latched and holds the island in FAULT already changes nothing; outside FAULT, after an island reset that kept its bit, it
acts again. -/
def State.safeFault (s : State) (n : Nat) : State :=
  if bit s.saf.faults.toNat n && s.saf.st == .fault then s
  else
    let was := s.saf.st
    let s := { s with
      saf.faults := s.saf.faults ||| BitVec.ofNat 32 (2 ^ n)
      saf.st := .fault
      saf.discSeen := if n = 0 then 0 else s.saf.discSeen
      saf.statDue := true }
    let s := (s.abortTest.setOuts [false, false, false, false]).safeRecord 2 n
    let s := if was == .fault then s else s.safeRecord 1 n
    (s.report (causeKey 0xD 1 n) 0xD n false).openEvent 13 0xD

/-- A change of state that no new fault causes, with the request that gave rise to it (R411). -/
def State.safeState (s : State) (st : IslandState) (cause : Nat := 0xFF) : State :=
  if s.saf.st == st then s
  else ({ s with saf.st := st, saf.statDue := true }.safeRecord 1 cause).openEvent 13 0xD

/-- A fault stands that holds the island in FAULT; the causes of an island reset do not (R401, R414). -/
def Island.heldByFault (x : Island) : Bool := x.faults &&& 0x30FF#32 != 0

/-! Guard (R392, R393). -/

/-- Each channel is in its closed state. -/
def Island.aClosed (x : Island) : Bool := nth x.ins 0 false
def Island.bClosed (x : Island) : Bool := if field x.active 14 1 = 1 then !nth x.ins 1 false else nth x.ins 1 false

/-- The channels disagree for longer than DISC_MS. -/
def State.checkDisc (s : State) : State :=
  match s.saf.discFrom with
  | some t => if t + pbDisc s.saf.active < s.safeNow then s.safeFault 0 else s
  | none => s

/-- The second hold of the start-up guard test has ended. A fault that an island reset kept then holds the island in
FAULT, which it leaves by R401 alone (DESIGN CHOICE, notes/assumptions). -/
def State.checkGuardTest (s : State) : State :=
  match s.saf.gtFrom with
  | some t =>
    if s.saf.gtPhase = 1 ∧ t + pbGt s.saf.active ≤ s.safeNow then
      let s := { s with saf.gtPhase := 2, saf.gtFrom := none }
      if s.saf.st == .guardTest then s.safeState (if s.saf.heldByFault then .fault else .run) else s
    else if s.saf.gtPhase = 0 ∧ t + pbGt s.saf.active ≤ s.safeNow then
      { s with saf.gtPhase := 1, saf.gtFrom := none }
    else s
  | none => s

/-- The guard after new samples: since when the channels disagree, the holds of the guard test, the sight of an
opening and a closing after GUARD_DISC, and since when the guard is open for a staged block (R392, R393, R401,
R408). -/
def State.trackGuard (s : State) : State :=
  let x := s.saf
  let a := x.aClosed
  let b := x.bClosed
  let now := s.safeNow
  let hold := x.st != .unconfigured && (if x.gtPhase = 0 then !a && !b else x.gtPhase == 1 && a && b)
  { s with
    saf.discFrom := if a = b then none else some (x.discFrom.getD now)
    saf.gtFrom := if hold then some (x.gtFrom.getD now) else none
    saf.discSeen := if !a && !b then max x.discSeen 1 else if a && b && x.discSeen == 1 then 2 else x.discSeen
    saf.openFrom := if a && b || x.staged.isNone then none else some (x.openFrom.getD now) }

/-- GUARD_DISC (R392). -/
def execGuardDisc (s : State) : Res := .next (if s.islandOn then s.checkDisc.takeMail else s)

/-- GUARD_TEST_DONE (R393). -/
def execGuardTestDone (s : State) : Res :=
  .next (if s.islandOn && s.saf.gtPhase == 1 then s.checkGuardTest.takeMail else s)

/-! Speed (R394). -/

/-- SPDIN_EDGE (R394): a rising edge stamped in TB_SAFE closes a period. One less than 1 us after the edge before it
belongs to a pulse shorter than 1 us and is ignored (R390); an edge stamped later than now, or out of order, is none. -/
def execSpdinEdge (t : Quad) (s : State) : Res :=
  .next (
    if ¬ s.islandOn ∨ s.safeNow < t.toNat then s
    else
      let a := s.saf.active
      match s.saf.edgeAt with
      | none => { s with saf.edgeAt := some t.toNat }
      | some t0 =>
        let p := t.toNat - t0
        if p < 100 then s else
        let s := { s with saf.edgeAt := some t.toNat, saf.period := some p }
        if pbMax a < p then { s with saf.spdCount := 0, saf.speedOk := false }
        else if pbMin a ≠ 0 ∧ p < pbMin a then { s with saf.spdCount := 0, saf.fast := true }
        else
          let n := s.saf.spdCount + 1
          { s with saf.spdCount := n, saf.speedOk := s.saf.speedOk || decide (pbQual a ≤ n) })

/-- SPD_PMAX has passed without an edge. -/
def State.checkSpeed (s : State) : State :=
  match s.saf.edgeAt with
  | some t =>
    if t + pbMax s.saf.active < s.safeNow then { s with saf.speedOk := false, saf.spdCount := 0 } else s
  | none => s

/-- SPEED_BELOW_LIMIT (R394). -/
def execSpeedBelowLimit (s : State) : Res := .next (if s.islandOn then s.checkSpeed else s)

/-! Feedback, pads and the watchdog (R395, R398, R405). -/

/-- Check `i` fails: BRKFB_A or BRKFB_B (0, 1) disagrees with BRK_x outside a test and after the settling time; the
readback of LEN_A, LEN_B, BRK_A or BRK_B (2 to 5) differs from the driven level (R395, R398). -/
def State.mismatch (s : State) (i : Nat) : Bool :=
  if i < 2 then
    s.saf.testing.isNone && decide (nth s.saf.brkAt i 0 + pbSettle s.saf.active < s.safeNow) &&
      nth s.saf.ins (2 + i) false != nth s.saf.outs (2 + i) false
  else nth s.saf.pads (i - 2) false != nth s.saf.outs (i - 2) false

/-- The fault that check `i` latches. -/
def mismatchFault (i : Nat) : Nat := if i < 2 then 1 + i else if i < 4 then 5 else 6

/-- BRAKE_FEEDBACK_CHECK (R398): feedback A and B (0, 1), pads LEN_A, LEN_B, BRK_A, BRK_B (2 to 5). -/
def execBrakeFeedbackCheck (sw : Fin 6) (s : State) : Res :=
  .next (if s.islandOn && s.mismatch sw then (s.safeFault (mismatchFault sw)).takeMail else s)

/-- The watchdog expires (R405): the requests count as 0 until the next valid pair, and the test that runs is
aborted. -/
def State.checkWatchdog (s : State) : State :=
  if s.saf.pairAt.isSome && !s.wdOk then
    { s with saf.pairAt := none, saf.laser := false, saf.brake := false }.abortTest.safeRecord 5 0xFF
  else s

/-- The demand levels of LEN (R393, R395) and of the brake (R397), without test pulses. -/
def State.lenWanted (s : State) : Bool :=
  s.saf.st == .run && s.saf.gtPhase == 2 && s.saf.guardClosed && s.saf.speedOk && s.saf.laser && s.wdOk
def State.brakeWanted (s : State) : Bool :=
  (s.saf.st == .run || s.saf.st == .guardTest) && !s.saf.heldByFault && s.saf.guardClosed && s.saf.brake && s.wdOk && s.saf.passed.all id

/-- The outputs for given levels, with the pulse of the test that runs: a switch released goes off, a switch
applied goes on alone; LEN_A or LEN_B goes off (R399). -/
def State.outLevels (s : State) (len brake : Bool) : List Bool :=
  let w := match s.saf.testing with | some (w, _) => w | none => 4
  [len && w != 2, len && w != 3, if w = 0 then !brake else brake, if w = 1 then !brake else brake]

/-- WATCHDOG_EXPIRY (R405). -/
def execWatchdogExpiry (s : State) : Res :=
  .next (if ¬ s.islandOn then s
    else
      let s := s.checkWatchdog
      (s.driveOuts ((s.outLevels (s.lenWanted) (s.brakeWanted)).zipWith (· && ·) s.saf.outs) 0xFF).takeMail)

/-! Telegrams (R402 to R404). -/

/-- SAFETY_TELEGRAM (R403): a datagram of 64 bytes to UDP_PORT enters the mailbox of XC15, unless it is full. -/
def execSafetyTelegram (port : Fin 2) (data : List Byte) (s : State) : Res :=
  .next (
    if ¬ s.sb then s
    else if data.length ≠ 64 then s.bump (OUT_ETH_RXDROP port)
    else if 16 ≤ s.saf.mailIn.length then s.bump SAF_MBX_RXDROP
    else { s with saf.mailIn := s.saf.mailIn ++ [MailIn.telegram port data] })

/-- The bytes 16 to 55 of a NET 1 copy are inverted (R402). -/
def uninvert (net : Nat) (d : List Byte) : List Byte :=
  if net = 1 then d.take 16 ++ ((d.drop 16).take 40).map (fun b => ~~~b) ++ d.drop 56 else d

/-- A command copy passes every check of R404. -/
def State.copyOk (s : State) (port : Nat) (raw : List Byte) : Bool :=
  let a := s.saf.active
  let d := uninvert port raw
  let tseq := BitVec.ofNat 32 (field d 8 4)
  let zero (off n : Nat) : Bool := (slice d off n).all fun b => b == 0
  slice raw 0 4 == [0x5A, 0x54, 0x01, 0x02] && scrc (raw.take 60) == BitVec.ofNat 32 (field raw 60 4) &&
    zero 13 3 && field d 24 1 / 16 == 0 && zero 25 3 && zero 32 24 && zero 56 4 &&
    field d 4 2 == pbCtrl a && field d 6 2 == pbOwn a && field d 12 1 == port &&
    (match nth s.saf.newest port none with
      | some n => tseq != n && decide ((tseq - n).toNat < 2 ^ 31)
      | none => true) &&
    s.saf.sent.any fun x => x.1 == BitVec.ofNat 32 (field d 28 4) && decide (s.safeNow ≤ x.2 + pbWd a)

/-- What the copies of a cycle demand: LEN removed, the brake applied (R404). -/
structure Demands where
  len   : Bool
  brake : Bool

/-- A copy is checked, acts toward safe on its own, and may complete a valid pair (R404). -/
def State.takeCopy (s : State) (q : Demands) (port : Nat) (raw : List Byte) : State × Demands :=
  if ¬ s.copyOk port raw then (s.bump (SAF_TG_BAD port), q)
  else
    let d := uninvert port raw
    let tseq := BitVec.ofNat 32 (field d 8 4)
    let data := slice d 24 32
    let req := field data 0 1
    let now := s.safeNow
    let q : Demands := { len := q.len || !bit req 0, brake := q.brake || !bit req 1 }
    let s := { s with
      saf.newest := s.saf.newest.set port (some tseq)
      saf.laser := s.saf.laser && bit req 0
      saf.brake := s.saf.brake && bit req 1 }
    let fresh (c : Copy) : Bool := decide (now ≤ c.at_ + pbPair s.saf.active)
    let other := nth s.saf.copies (1 - port) []
    match other.find? fun c => fresh c && c.tseq == tseq with
    | some c =>
      if c.data = data then
        let back := s.saf.pairAt.isNone
        let s := { s with
          saf.laser := bit req 0, saf.brake := bit req 1, saf.resetReq := s.saf.resetReq || bit req 2
          saf.testReq := s.saf.testReq || bit req 3, saf.pairAt := some now, saf.tseqRx := tseq
          saf.copies := (s.saf.copies.set (1 - port) (other.filter fun x => x.tseq != tseq)) }
        (if back then s.safeRecord 5 0xFF else s, q)
      else (s, q)
    | none =>
      let kept := (Copy.mk tseq data now) :: (nth s.saf.copies port []).filter fresh
      ({ s with saf.copies := s.saf.copies.set port kept }, q)

/-- STATUS_TELEGRAM (R403): a status pair, every T_CYC_MS and after a change; none under the factory block (R406). -/
def execStatusTelegram (s : State) : Res :=
  .next (
    let x := s.saf
    if ¬ s.islandOn ∨ x.st = .unconfigured ∨ pbOwn x.active = 0 ∨ ¬ (x.statDue ∨ x.statAt + pbCyc x.active ≤ s.safeNow) then s
    else
      let tseq := if x.sent.isEmpty then Config.islandNoise x.starts else x.tseqTx + 1
      let data := s.statusData
      let copy (net : Nat) : List Byte :=
        let body := [0x5A, 0x54, 0x01, 0x01] ++ leBytes 2 (pbOwn x.active) ++ leBytes 2 (pbCtrl x.active) ++
          leBytes 4 tseq.toNat ++ leBytes 1 net ++ [0, 0, 0] ++ leBytes 8 s.safeNow ++ data ++ [0, 0, 0, 0]
        let body := uninvert net body
        body ++ leBytes 4 (scrc body).toNat
      let s := if x.tseqTx = 0xFFFFFFFF ∧ ¬ x.sent.isEmpty then s.noteWrap 0xD 0 0xD001C 32 else s
      let s := { s with
        saf.tseqTx := tseq, saf.sent := ((tseq, s.safeNow) :: x.sent).take 64, saf.statDue := false
        saf.statAt := s.safeNow, saf.statData := data }
      ((s.mailPush (.telegram 0 (copy 0))).mailPush (.telegram 1 (copy 1))).takeMail)

/-! Parameters (R407, R408). -/

/-- The retries that came while a copy waited get its reply (02 R39, R44). -/
def State.answerAgain (s : State) (r : Deferred) : State :=
  let hit (x : Origin × Packet) : Bool := x.1.same r.origin && decide (x.2 = r.packet)
  (s.saf.again.filter hit).foldl (fun t x =>
    match (t.session x.1).bind fun y => y.cache.find? fun e => e.sequence == x.2.sequence with
    | some e => t.sendTo x.1 (t.time + classBound x.2.cls) e.reply
    | none => t) { s with saf.again := s.saf.again.filter fun x => !hit x }

/-- Replies to a copy of a parameter block under its class, from the decision on (R407). -/
def State.paramReply (s : State) (r : Deferred) (status : Nat) (detail : Nat := 0) : State :=
  (s.finish r.origin r.packet s.time status detail []).answerAgain r

/-- The island decides a pair of equal blocks (R407). -/
def State.decideParam (s : State) (b : List Byte) : Nat × Nat × State :=
  let a := s.saf.active
  if s.saf.staged.isSome then (STATE, 0, s)
  else if field b 4 4 ≠ (field a 4 4 + 1) % 2 ^ 32 ∨ (pbOwn a ≠ 0 ∧ pbOwn b ≠ pbOwn a) then (STATE, 0, s)
  else match blockRange b (s.fld GLB_CMD_UDP_PORT 15 0) with
    | some off => (BAD_PARAM, off, s)
    | none => (SAFETY_PENDING, 0, { s with saf.staged := some (b, s.safeNow), saf.openFrom := none }.safeRecord 4 0xFF)

/-- What the blocks of the copies answer before they are compared (R407): LENGTH, then SCRC and FORMAT. -/
def paramStatus (blocks : List (List Byte)) : Option Nat :=
  if blocks.any fun b => b.length != 128 then some BAD_LENGTH
  else if blocks.any fun b => !blockSound b then some IMAGE_INVALID
  else none

/-- A copy that no partner joined within PAIR_MS is decided (R407). -/
def State.paramAlone (s : State) (r : Deferred) : State :=
  s.paramReply r ((paramStatus [r.packet.payload]).getD SAFETY_UNPAIRED)

/-- The island takes a copy of a parameter block (R407): it waits for its partner from the other port, and both receive the
same reply, by the first check that fails. -/
def State.takeParam (s : State) (port : Nat) (r : Deferred) : State :=
  match s.saf.paramCopy with
  | some (q, r', t) =>
    let s := { s with saf.paramCopy := none }
    if q ≠ port ∧ s.safeNow ≤ t + pbPair s.saf.active then
      let a := r'.packet.payload
      let b := r.packet.payload
      let x : Nat × Nat × State := match paramStatus [a, b] with
        | some status => (status, 0, s)
        | none => if a = b then s.decideParam b else (SAFETY_UNPAIRED, 0, s)
      (x.2.2.paramReply r' x.1 x.2.1).paramReply r x.1 x.2.1
    else { s.paramAlone r' with saf.paramCopy := some (port, r, s.safeNow) }
  | none => { s with saf.paramCopy := some (port, r, s.safeNow) }

/-- The same packet is already on its way to the island. -/
def State.paramWaits (s : State) (o : Origin) (p : Packet) : Bool :=
  let hit (r : Deferred) : Bool := r.origin.same o && decide (r.packet = p)
  (match s.saf.paramCopy with | some (_, r, _) => hit r | none => false) ||
    s.saf.mailIn.any fun m => match m with | .param _ r => hit r | .telegram _ _ => false

def safParamOp : OpSpec :=
  { opcode := 0xA1, lengthOk := fun _ => true
    act := fun s o p =>
      match o with
      | .udp port .. =>
        if 2 ≤ port.val ∨ ¬ bit p.flags.toNat 3 then s.refuse SAFETY_UNPAIRED
        else if s.paramWaits o p then { st := { s with saf.again := s.saf.again ++ [(o, p)] }, taken := true }
        else if 16 ≤ s.saf.mailIn.length then { st := s.bump SAF_MBX_RXDROP, status := SAFETY_UNPAIRED }
        else
          { st := { s with saf.mailIn := s.saf.mailIn ++
              [MailIn.param port { origin := o, packet := p, entered := s.time, since := s.safeNow }] }
            taken := true }
      | _ => s.refuse SAFETY_UNPAIRED }

/-- SAF_PARAM (R407; 02 R49): a copy goes through XC15 to the island, which decides the pair. -/
def execSafParam (o : Origin) (r : Request) (s : State) : Res := .next (s.serve safParamOp o r)

/-- SAF_PARAM_PAIR_TIMEOUT (R407): PAIR_MS has passed without a partner for a copy that the island holds or has
not taken. -/
def execSafParamPairTimeout (s : State) : Res :=
  .next (
    let late (t : Nat) : Bool := decide (t + pbPair s.saf.active ≤ s.safeNow)
    let old := s.saf.mailIn.filterMap fun m => match m with
      | .param _ r => if late r.since then some r else none
      | .telegram _ _ => none
    let s := { s with saf.mailIn := s.saf.mailIn.filter fun m => match m with
      | .param _ r => !late r.since
      | .telegram _ _ => true }
    let s := old.foldl State.paramAlone s
    match s.saf.paramCopy with
    | some (_, r, t) =>
      if late t then { s with saf.paramCopy := none }.paramAlone r else s
    | none => s)

/-- PARAM_ACTIVATE (R408): the guard has been open for GT_MIN_MS with a block staged; the block is written to
both copies of the store and, when they verify, becomes active. -/
def execParamActivate (writeOk : Bool) (s : State) : Res :=
  .next (match s.saf.staged, s.saf.openFrom with
    | some (b, _), some t =>
      if ¬ s.islandOn ∨ s.safeNow < t + pbGt s.saf.active then s
      else
        let s := { s with saf.staged := none, saf.openFrom := none }
        (if writeOk then
          let first := s.saf.st == .unconfigured
          let s := { s with saf.store := [b, b], saf.active := b, saf.statDue := true }.safeRecord 4 0xFF
          if first then { s with saf.gtPhase := 0, saf.gtFrom := none }.safeState .guardTest else s
        else s.safeFault 13).takeMail
    | _, _ => s)

/-- PARAM_LAPSE (R408): a staged block lapses after PEND_S. -/
def execParamLapse (s : State) : Res :=
  .next (match s.saf.staged with
    | some (_, t) =>
      if s.islandOn && decide (t + pbPend s.saf.active ≤ s.safeNow) then
        ({ s with saf.staged := none, saf.openFrom := none }.safeRecord 4 0xFF).takeMail
      else s
    | none => s)

def safAbortOp : OpSpec :=
  { opcode := 0xA2, lengthOk := noPayload
    act := fun s _ _ => s.doneIf [need s.saf.staged.isSome STATE] fun s =>
      { st := { s with saf.staged := none, saf.openFrom := none } } }

/-- SAF_ABORT (R408). -/
def execSafAbort (o : Origin) (r : Request) (s : State) : Res := .next (s.serve safAbortOp o r)

def safStatusOp : OpSpec :=
  { opcode := 0xA0, lengthOk := noPayload, act := fun s _ _ => { st := s, payload := s.saf.statData } }

/-- SAF_STATUS (R409). -/
def execSafStatus (o : Origin) (r : Request) (s : State) : Res := .next (s.serve safStatusOp o r)

/-! Tests (R399, R400). -/

/-- The test that starts now, if any: A, B, then the LEN outputs, 10 ms after the last test at the earliest; the first
after a start or a fault reset waits for none. -/
def State.dueTest (s : State) (len : Bool) : Option Nat :=
  let x := s.saf
  let now := s.safeNow
  let due (w : Nat) : Bool := decide (nth x.nextTest w 0 ≤ now)
  if x.testing.isSome || !(x.st == .run || x.st == .guardTest) || (x.testEnd.any fun t => decide (now < t + safeMs 10)) then none
  else if due 0 then some 0
  else if due 1 then some 1
  else if due 2 && len && pbLenPulse x.active != 0 then some 2 else none

/-- The hardware refresh of an output has lapsed: 50 us without a cycle (R387). -/
def State.lapsed (s : State) (out : Nat) : Bool := decide (nth s.saf.refresh out 0 + 5000 ≤ s.safeNow)

/-- TEST_PULSE (R399): the pulse of the test that runs has lasted its time, and `fb` is the level that its
feedback showed: BRKFB of switch A (0) or B (1), the readback of LEN_A (2) or LEN_B (3). The output then goes to the
level that the demands set. An island without a refresh judges no test. -/
def execTestPulse (which : Nat) (fb : Bool) (s : State) : Res :=
  .next (match s.saf.testing with
    | none => s
    | some (w, t) =>
      let len := if w < 2 then pbPulse s.saf.active else pbLenPulse s.saf.active
      if w ≠ which ∨ ¬ s.islandOn ∨ s.safeNow < t + len ∨ (List.range 4).any s.lapsed then s
      else
        let applied := w < 2 ∧ nth s.saf.outs (2 + w) false = true
        let pass := if w < 2 then fb == decide applied else !fb
        let back := if w < 2 then s.saf.outs.set (2 + w) (!applied && s.brakeWanted) else s.saf.outs.set (w - 2) s.lenWanted
        let cause := testCause w
        let s := { s with saf.testing := none, saf.testEnd := some s.safeNow }.bump SAF_TESTS
        let s := s.driveOuts back cause
        let s := if w = 2 then s
          else
            let k := min w 2
            { s with saf.nextTest := s.saf.nextTest.set k (s.safeNow + pbPeriod s.saf.active) }
        let s := if w = 2 ∧ pass then
            { s with saf.testing := some (3, s.safeNow) }.driveOuts (s.saf.outs.set 1 false) cause else s
        (if pass then
          (if applied then { s with saf.passed := s.saf.passed.set w true } else s).safeRecord 3 cause
        else (s.safeRecord 3 cause).safeFault cause).takeMail)

/-! The cycle (R389). -/

/-- Step 1: a level counts when two successive samples agree (R390). -/
def State.samplePins (s : State) (p : SafetyPins) : State :=
  let new := [p.guardA, p.guardB, p.brkFbA, p.brkFbB]
  { s with
    saf.ins := (List.range 4).map fun i =>
      if nth new i false = nth s.saf.prevIns i false then nth new i false else nth s.saf.ins i false
    saf.prevIns := new
    saf.pads := [p.lenA, p.lenB, p.brkA, p.brkB]
    saf.spdin := p.spdin }

/-- Step 2: every entry of the mailbox is taken. -/
def State.takeMailIn (s : State) : State × Demands :=
  s.saf.mailIn.foldl (fun (x : State × Demands) m =>
    match m with
    | .telegram port d => x.1.takeCopy x.2 port d
    | .param port r => (x.1.takeParam port r, x.2)) ({ s with saf.mailIn := [] }, Demands.mk false false)

/-- A latched fault is no longer present (R401). -/
def State.causeGone (s : State) : Bool :=
  let x := s.saf
  let f (n : Nat) : Bool := bit x.faults.toNat n
  (!f 0 || x.discSeen == 2) && (!f 1 || nth x.ins 2 false == nth x.outs 2 false) &&
    (!f 2 || nth x.ins 3 false == nth x.outs 3 false) && (!(f 5 || f 6) || decide (x.pads = x.outs)) &&
    (!f 7 || (match x.period with | some p => decide (pbMin x.active ≤ p) | none => true)) && (!f 12 || pbOwn x.active != 0)

/-- A valid pair with RESET_FAULT (R401, R414). -/
def State.resetFaults (s : State) : State :=
  if s.saf.resetReq && s.saf.guardClosed && s.saf.faults != 0 && s.causeGone then
    let bits_ := (List.range 14).filter fun n => bit s.saf.faults.toNat n
    let s := bits_.foldl (fun t n => (t.endCause (causeKey 0xD 1 n)).endCause (causeKey 0xD 2 n)) { s with saf.faults := 0, saf.statDue := true }
    let s := s.safeRecord 2 2
    if s.saf.st == .fault then
      { s.safeState .run 2 with saf.passed := [false, false], saf.testEnd := none, saf.nextTest := [s.safeNow, s.safeNow, nth s.saf.nextTest 2 0] }
    else s.openEvent 13 0xD
  else s

/-- What gave rise to a change of the outputs in a cycle (R411): the test that starts or is aborted, the request that
changed, or none of these. -/
def outCause (was now : Island) (q : Demands) : Nat :=
  match now.testing, was.testing with
  | some (w, _), none => testCause w
  | _, _ =>
    if q.len || was.laser != now.laser then 0
    else if q.brake || was.brake != now.brake then 1
    else 0xFF

/-- A cycle of 25 us begins now: at the multiples of 2,500 of TB_SAFE, once each (R389). -/
def State.cycleDue (s : State) : Bool :=
  s.islandOn && s.safeNow % 2500 == 0 && s.saf.cycleAt != some s.safeNow

/-- SAFETY_CYCLE (R389). -/
def execSafetyCycle (pins : SafetyPins) (s : State) : Res :=
  .next (
    let now := s.safeNow
    if ¬ s.cycleDue then s
    else
      let s := { s with saf.cycleAt := some now, saf.resetReq := false, saf.testReq := false }
      let was : Island := s.saf
      let s := s.samplePins pins
      let bad := (List.range 6).filter s.mismatch
      let m := s.takeMailIn
      let q := m.2
      let s := m.1.trackGuard
      let s := s.resetFaults
      let s : State := if s.saf.testReq then { s with saf.nextTest := [now, now, now] } else s
      let s := if s.saf.fast then { s with saf.fast := false }.safeFault 7 else s
      let s := s.checkDisc.checkGuardTest.checkSpeed.checkWatchdog
      let s : State := bad.foldl (fun (t : State) (i : Nat) => t.safeFault (mismatchFault i)) s
      let opened := was.guardClosed && !s.saf.guardClosed
      let len := s.lenWanted && !q.len
      let brake := s.brakeWanted && !q.brake
      let aborts := match s.saf.testing with
        | some (w, _) => if w < 2 then q.brake || opened else !len
        | none => false
      let s : State := if aborts then s.abortTest else s
      let s : State := if q.len || q.brake || opened then s
        else match s.dueTest len with
          | some w => { s with saf.testing := some (w, now) }
          | none => s
      let s : State := { s.driveOuts (s.outLevels len brake) (outCause was s.saf q) with saf.refresh := List.replicate 4 now }
      { s with saf.statData := s.statusData }.takeMail)

/-! Resets (R387, R388, R393; 19 R463). -/

/-- OUTPUT_REFRESH_TIMEOUT (R387): 50 us without a refresh. -/
def execOutputRefreshTimeout (out : Nat) (s : State) : Res :=
  .next (if 4 ≤ out ∨ ¬ s.sb ∨ ¬ s.lapsed out then s
    else if s.islandOn then (s.driveOuts (s.saf.outs.set out false) 0xFF).takeMail
    else s.setOuts (s.saf.outs.set out false))

/-- The island starts (R388, R393, R404, R406): from the stored blocks, with given faults. -/
def State.islandStart (s : State) (faults : Nat) : State :=
  let x := s.saf
  let now := s.safeNow
  let a := nth x.store 0 []
  let b := nth x.store 1 []
  let lost := !blockSound a && !blockSound b
  let act := if blockSound a then a else if blockSound b then b else factoryBlock
  let y : Island := { Island.reset with
    st := if lost then .fault else if pbOwn act = 0 then .unconfigured else .guardTest
    spdin := x.spdin, prevIns := x.prevIns
    faults := BitVec.ofNat 32 (faults ||| (if lost then 2 ^ 12 else 0))
    nextTest := [now, now, now + pbPeriod act], refresh := List.replicate 4 now, brkAt := [now, now]
    store := [act, act], active := act, iseq := x.iseq, mailIn := x.mailIn, mailOut := x.mailOut
    paramCopy := x.paramCopy, starts := x.starts + 1, statDue := true, statAt := now, cycleAt := x.cycleAt }
  let s := { s with saf := y }
  let s := if lost then
      ((s.safeRecord 2 12).report (causeKey 0xD 1 12) 0xD 12 false) else s
  (s.safeRecord 1 0xFF).openEvent 13 0xD

/-- The island resets itself (R388): the cause is kept in SAF_FAULT, and the start begins in the guard test. -/
def State.islandReset (s : State) (cause : Nat) : State :=
  if ¬ s.islandOn ∨ cause < 8 ∨ 11 < cause then s
  else
    let s := s.islandStart (s.saf.faults.toNat ||| 2 ^ cause)
    let s := (s.safeRecord 2 cause).report (causeKey 0xD 2 cause) 0xD cause true
    s.takeMail

/-- ISLAND_RESET (R388): lockstep, memory, clock or supply, as the bit 8 to 11 of SAF_FAULT that keeps the
cause. -/
def execIslandReset (cause : Nat) (s : State) : Res := .next (s.islandReset cause)

/-- A copy of the parameter store as it is read: bytes that are no whole block are a copy gone bad; a whole block can
only be the one that was written (R386, R406). -/
def readCopy (read written : List Byte) : List Byte := if blockSound read then written else read

/-- ISLAND_POWER_ON (19 R463; R388, R406): both rails have been in their windows for 1 ms; TB_SAFE starts from 0.
`stores` are the two copies as read from the parameter store: a copy keeps the block that was written to it, or has gone
bad (R386, R406). -/
def execIslandPowerOn (stores : List (List Byte)) (s : State) : Res :=
  .next (
    if ¬ s.sb then s
    else
      let s := { s with tim.safe25 := 0, saf := { Island.reset with starts := s.saf.starts, store := (List.range 2).map fun i => readCopy (nth stores i []) (nth s.saf.store i []) } }
      let s := [SAF_TG_BAD 0, SAF_TG_BAD 1, SAF_MBX_OVW, SAF_MBX_DROP, SAF_MBX_RXDROP, SAF_TESTS, SAF_TEST_ABORT].foldl
        (fun t r => t.setRegN r 0) s
      (s.islandStart 0).takeMail)

end Sys2Proof.Machine
end

