-- ==== Sys2Proof/Machine/Memory.lean ====
section
/-!
DEFINITION. On-chip memory and DDR5 (15): errors, row repair, retraining, and the loss of a channel.
-/
namespace Sys2Proof.Machine

/-! What a stream has staged (10 R270, R275; 09 R238). -/

/-- What a stream has staged is discarded and counted in LOST (10 R275). -/
def State.dropStaged (s : State) (pid : Nat) : State :=
  let x := s.stream pid
  let gone := x.waiting ++ (match x.openFr with | some f => f.recs | none => []) ++ x.closed.flatMap Frame.recs
  let s := s.setStream pid fun x => { x with waiting := [], openFr := none, closed := [] }
  let forwarded := (x.closed.filter fun f => f.raw.isSome).foldl (fun n (f : Frame) => n + f.count) 0
  (s.loseRecs pid (gone.length + forwarded)).settleFrees gone

/-! SRAM (R370 to R372). An address is an offset in window 0x01; from 0x80_0000 on, the engines' 448 KB follow,
HE0 first. A macro is 64 KB from its number on, and a row one word of it (notes/assumptions). -/

/-- The row of R370's table that holds an offset. -/
def sramRegion (a : Nat) : Nat :=
  ((List.range 13).filter fun i => decide (nth [0, 0x100000, 0x200000, 0x400000, 0x640000, 0x660000, 0x6A0000,
    0x6C0000, 0x6D0000, 0x6E0000, 0x720000, 0x7A0000, 0x7B0000] i 0 ≤ a)).length - 1

/-- A program's image names a table. -/
def imNames (d : List Byte) (kind id : Nat) : Bool :=
  (List.range (imSegs d)).any fun i =>
    let g := imSeg d i
    let ids := [sgShot g, sgBeam g, sgPass g, sgProfile g, sgCode g]
    within kind 1 5 && nth ids (kind - 1) 0xFFFF == id

/-- An uncorrectable error in the table store (R371): the table is corrupt, and the programs that name it, or
whose image holds the word, are suspended. -/
def State.tableError (s : State) (off : Nat) : State :=
  let hit (base size : Nat) : Bool := decide (base ≤ off) && decide (off < base + size)
  let bad := s.pg.tables.filter fun t => hit t.offset t.data.length
  let s := { s with mem.corrupt := s.mem.corrupt ++ (bad.map fun (t : Table) => (t.kind, t.id)).filter fun c =>
    !s.mem.corrupt.contains c }
  s.suspendAll (fun q => hit q.offset q.image.length || bad.any fun t => imNames q.image t.kind.toNat t.id.toNat) 7

/-- An uncorrectable error in the code and data of a pair (R371). -/
def State.coreError (s : State) (pair : Nat) : State :=
  if pair ≠ s.rep.active then { s with rep.standby := false }
  else if s.rep.switch.isSome ∨ ¬ s.boot.firmware then s
  else if s.rep.standby then { s with rep.switch := some s.time }
  else
    { s with boot.firmware := false, boot.responder := true }.report (causeKey 7 3 pair) 0xE pair false

/-- A packet of the ingress queues is lost (R371): it is discarded and counted as one of a bad CRC, which moves its ring's
command head on and is answered on MSPI (02 R43, R58). -/
def State.ingressError (s : State) (i : Nat) : State :=
  match s.pk.ingress[i]? with
  | none => s
  | some h =>
    let s := ({ s with pk.ingress := s.pk.ingress.eraseIdx i }.ringTake h.origin).bump GLB_RX_CRC
    let p : Option Packet := match h.item with
      | .packet p => some p
      | .raw raw => match parsePacket raw with | .packet _ p => some p | .crc p => some p | .format => none
    match p with
    | some p => if h.origin = .mspi then s.answer .mspi p h.entered BAD_CRC 0 else s
    | none => s

/-- An uncorrectable SRAM error, by what it hits (R371). -/
def State.sramUe (s : State) (a : Nat) : State :=
  let s := (s.bump MEM_SRAM_UE).latch MEM_STATUS 0x2
  if 0x800000 ≤ a then
    let e := (a - 0x800000) / 0x70000
    if e < 68 then s.faultEngine e 1 s.time else s
  else
    let r := sramRegion a
    let s := s.report (causeKey 6 1 r) 0xC r true
    match r with
    | 0 => s.coreError 0
    | 1 => s.coreError 1
    | 2 => s.tableError (a - 0x200000)
    | 3 =>
      let k := (a - 0x400000) / 0x20000
      if k < 8 then { s with thm.stored := s.thm.stored.set k none, thm.buildDue := true }
      else if k = 9 then { s with thm.buildDue := true } else s
    | 4 =>
      let i := (a - 0x640000) / 96
      if 1134 ≤ i then s
      else s.setLane (i / 2) (i % 2 == 1) Lane.uncal
    | 5 =>
      let i := (a - 0x660000) / 256
      { s with tim.logs := s.tim.logs.map fun (x : Nat × Nat × List Byte) =>
          if 256 * x.1 + x.2.1 = i then (x.1, x.2.1, patch (List.replicate 256 0) 6 [8]) else x }
    | 6 =>
      { s with pk.events := s.pk.events.map fun (e : EventRec) =>
          if e.seq.toNat % 4096 = (a - 0x6A0000) / 32 then { e with payload := List.replicate 32 0 } else e }
    | 9 =>
      if s.pk.ingress.isEmpty then s
      else
        let (f, s) := s.draw 64
        s.ingressError (f % s.pk.ingress.length)
    | 10 =>
      let (f, s) := s.draw 65
      let pid := f % 64
      let x := s.stream pid
      let n := f / 64 % (x.waiting.length + 1)
      let s := s.setStream pid fun (x : Stream) => { x with waiting := x.waiting.drop n }
      (s.loseRecs pid n).settleFrees (x.waiting.take n)
    | 11 => s.writeWindow 1 (a / 8 * 8) (List.replicate 8 0)
    | _ => s

/-- SRAM_ERROR (R371, R372): the row of an uncorrectable error is one to replace. -/
def execSramError (addr : Nat) (s : State) : Res :=
  .next (
    let s := s.sramUe addr
    { s with mem.sramCe := s.mem.sramCe ++ List.replicate 3 (addr / 65536, addr % 65536 / 8, s.time) })

/-- The times of corrections within the last 24 h. -/
def State.recentCe (s : State) (l : List (Nat × Nat × Nat)) : List (Nat × Nat × Nat) :=
  l.filter fun x => decide (s.time ≤ x.2.2 + ticksS 86400)

/-- A self-test with its scrubber passes runs: they come at once (17 R427). -/
def State.scrubTest (s : State) : Bool := match s.rep.selftest with | some (m, _) => bit m 5 | none => false

/-- SRAM_SCRUB (R371): a pass of the scrubber, with the addresses of the words that it corrected. -/
def execSramScrub (errs : List Nat) (s : State) : Res :=
  .next (
    if s.time < s.mem.sramAt + ticksS (s.fld MEM_SCRUB_CFG 7 0) ∧ ¬ s.scrubTest then s
    else
      let s := s.bumpBy MEM_SRAM_CE errs.length
      { s with mem.sramAt := s.time
               mem.sramCe := s.recentCe (s.mem.sramCe ++ errs.map fun a => (a / 65536, a % 65536 / 8, s.time)) })

/-- SRAM_ROW_REPAIR (R372): a row that gave three corrected errors within 24 h, or an uncorrectable one, is replaced by a spare row of its
macro. A macro without a spare row left treats the fault as an uncorrectable error. -/
def execSramRowRepair (macro_ : Nat) (row : Nat) (s : State) : Res :=
  .next (
    let hits := (s.recentCe s.mem.sramCe).filter fun x => x.1 == macro_ && x.2.1 == row
    if 604 ≤ macro_ ∨ 8192 ≤ row ∨ hits.length < 3 then s
    else
      let used := (s.mem.remap.filter fun e => e.1 == 5 && e.2.1 / 2 ^ 22 == macro_).length
      let s := { s with mem.sramCe := s.mem.sramCe.filter fun x => x.1 != macro_ || x.2.1 != row }
      if used < 4 then
        let x := (macro_ * 2 ^ 22 + row, macro_ * 2 ^ 22 + used)
        (({ s with mem.remap := s.mem.remap ++ [(5, x.1, x.2)] }.latch MEM_STATUS 0x1).mapAdd 5 2 x.1 x.2).rowDone 5 s.time true
      else s.sramUe (65536 * macro_ + 8 * row))

/-! DDR5 (R375, R381, R382). -/

/-- The channel of an offset of window 0x02 (R375, R383). -/
def State.dramChannel (s : State) (a : Nat) : Nat :=
  match s.mem.fallback with
  | some c => c
  | none => a / 256 % 2

/-- The subchannel, rank, bank group, bank and row of an offset, as the repair map codes them (R375; 17 R428).
Where rank and row begin is the model's choice (notes/assumptions). -/
def dramCode (a : Nat) : Nat :=
  a / 512 % 2 * 2 ^ 30 + a / 2 ^ 33 % 2 * 2 ^ 29 + a / 1024 % 8 * 2 ^ 26 + a / 8192 % 4 * 2 ^ 24 + a / 32768 % 2 ^ 18

def State.setDram (s : State) (c : Nat) (f : DramChan → DramChan) : State :=
  { s with mem.chans := upd s.mem.chans c f }

/-- DRAM_SCRUB (R381, R384): a pass of the scrubber over both channels, with the offsets of the bursts that it
corrected. More than 64 in a second ask for retraining (R377). -/
def execDramScrub (errs : List Nat) (s : State) : Res :=
  .next (
    if s.time < s.mem.dramAt + ticksS (3600 * s.fld MEM_SCRUB_CFG 15 8) ∧ ¬ s.scrubTest then s
    else
      let s := { s with mem.dramAt := s.time }
      let s := errs.foldl (fun t a => t.bump (MEM_CE (t.dramChannel a))) s
      let s := { s with mem.dramCe := s.recentCe (s.mem.dramCe ++ errs.map fun a => (s.dramChannel a, dramCode a, s.time))
                        mem.ceSecond := (s.mem.ceSecond ++ errs.map fun a => (s.dramChannel a, s.time)).filter fun x =>
                          decide (s.time ≤ x.2 + ticksS 1) }
      (List.range 2).foldl (fun t c =>
        if 64 < (t.mem.ceSecond.filter fun (x : Nat × Nat) => x.1 == c).length then
          t.setDram c fun (x : DramChan) => { x with retrain := true } else t) s)

/-- A channel pauses, to be retrained or for the repair of a row (R377, R381). -/
def State.pauseDram (s : State) (c : Nat) (row : Option Nat) : State :=
  s.setDram c fun (x : DramChan) => { x with paused := true, pauseAt := s.tim.shot, repairs := row }

/-- The pause of a channel is over (R378). -/
def State.resumeDram (s : State) (c : Nat) : State :=
  let x := s.dramChan c
  if ¬ x.paused then s
  else
    { s.setDram c fun (x : DramChan) => { x with paused := false, repairs := none } with
      mem.pauses := ((x.pauseAt, s.tim.shot) :: s.mem.pauses).take 64 }

/-- A staged frame that holds an uncorrectable burst is discarded (R382). Which frame stands at an address is
not stated: a free choice. -/
def State.frameError (s : State) : State :=
  let (f, s) := s.draw 66
  let live := (List.range 64).filter fun p => !(s.stream p).closed.isEmpty
  if live.isEmpty then s
  else
    let pid := nth live (f % live.length) 0
    let x := s.stream pid
    let k := f / 64 % x.closed.length
    match x.closed[k]? with
    | none => s
    | some fr =>
      let s := s.setStream pid fun (x : Stream) => { x with closed := x.closed.eraseIdx k }
      (s.loseRecs pid (if fr.raw.isSome then fr.count else fr.recs.length)).settleFrees fr.recs

/-- The remainder of a capture that holds an uncorrectable burst is discarded (R382): the one that stands at an offset of its
unit's area, if one does. -/
def State.captureError (s : State) (u off : Nat) : State :=
  let mine (r : Rec) : Option Nat := match r.frees with | some (v, _, n) => if v = u then some n else none | none => none
  let held := (s.out.streams.flatMap Stream.waiting).filterMap mine
  let size := s.areaSize u
  match (s.capUnit u).placed.find? fun x => held.contains x.1 && decide ((off + size - x.2.1) % size < x.2.2) with
  | none => s
  | some x =>
    (List.range 64).foldl (fun t p =>
      let gone := (t.stream p).waiting.filter fun r => mine r == some x.1
      if gone.isEmpty then t
      else
        let t := t.setStream p fun (y : Stream) => { y with waiting := y.waiting.filter fun r => mine r != some x.1 }
        (t.loseRecs p gone.length).settleFrees gone) s

/-- A snapshot image that holds an uncorrectable burst (R382). Which handle's is a free choice. -/
def State.snapshotError (s : State) : State :=
  let (f, s) := s.draw 67
  let used := (List.range 4).filter fun h => (nth s.pk.snapshots h none).isSome
  if used.isEmpty then s
  else { s with pk.snapshots := s.pk.snapshots.set (nth used (f % used.length) 0) none }

/-- The effects of an uncorrectable burst at an offset of window 0x02 (R382), by what it holds. -/
def State.dramUe (s : State) (addr : Nat) : State :=
  let c := s.dramChannel addr
  let s := ((s.bump (MEM_UE c)).latch MEM_STATUS 0x8).report (causeKey 6 2 c) 0xC c true
  let b := addr / 64
  let s := { s with mem.poison := if s.mem.poison.contains b then s.mem.poison else s.mem.poison ++ [b] }
  let stage := s.pair ADM_STAGE_BASE_LO
  let snap := s.pair MEM_SNAP_BASE_LO
  if stage ≤ addr ∧ addr < stage + 65536 * s.fld ADM_STAGE_SIZE 15 0 then s.frameError
  else if snap ≤ addr ∧ addr < snap + 2 ^ 20 * s.fld MEM_SNAP_SIZE 15 0 then s.snapshotError
  else match (List.range 16).find? fun u => decide (s.areaBase u ≤ addr) && decide (addr < s.areaBase u + s.areaSize u) with
    | some u => s.captureError u (addr - s.areaBase u)
    | none => s

/-- DRAM_UNCORRECTABLE (R381, R382): an uncorrectable burst at an offset of window 0x02; its row is faulty. -/
def execDramUncorrectable (addr : Nat) (s : State) : Res :=
  .next (
    if s.dramSize ≤ addr then s
    else
      let s := s.dramUe addr
      { s with mem.dramCe := s.mem.dramCe ++ List.replicate 3 (s.dramChannel addr, dramCode addr, s.time) })

/-- The lowest offset of a row (R375). -/
def State.rowBase (s : State) (c code : Nat) : Nat :=
  (if s.mem.fallback.isSome then 0 else 256 * c) + bits code 30 30 * 512 + bits code 29 29 * 2 ^ 33 + bits code 28 26 * 1024 +
    bits code 25 24 * 8192 + bits code 17 0 * 32768

/-- DRAM_ROW_REPAIR (R381): a row with three corrected bursts within 24 h is faulty, and its channel pauses; the repair
then ends, by post-package repair or, where the device has no resource left, by a spare row of the reserved megabyte, and
the channel resumes. Without a spare row the fault is an uncorrectable error that is not repaired. -/
def execDramRowRepair (row : DramRow) (pprOk : Bool) (s : State) : Res :=
  .next (
    let c := row.channel.val
    let code := row.code.toNat
    let x := s.dramChan c
    let hits := (s.recentCe s.mem.dramCe).filter fun y => y.1 == c && y.2.1 == code
    if ¬ x.up then s
    else if ¬ x.paused then (if hits.length < 3 then s else s.pauseDram c (some code))
    else if x.repairs ≠ some code then s
    else
      let since := s.time - (s.tim.shot - x.pauseAt)
      let s := s.resumeDram c
      let s := { s with mem.dramCe := s.mem.dramCe.filter fun y => y.1 != c || y.2.1 != code }
      if pprOk then
        ((s.latch MEM_STATUS 0x4).mapAdd 7 2 (c * 2 ^ 31 + code) noSpare).rowDone 7 since false
      else if 0 < x.spares then
        let (f, s) := s.draw 63
        let s := s.setDram c fun (x : DramChan) => { x with spares := x.spares - 1 }
        ((s.latch MEM_STATUS 0x4).mapAdd 7 2 (c * 2 ^ 31 + code) (c * 2 ^ 31 + f % 2 ^ 31)).rowDone 7 since true
      else s.dramUe (s.rowBase c code))

/-! Retraining and the loss of a channel (R376, R377, R383). -/

/-- Staging and snapshot areas are cut to the part below the end of window 0x02 (R383). -/
def State.cutArea (s : State) (base size unit : Nat) : State :=
  let end_ := s.dramSize
  let b := s.pair base
  s.setRegN size (min (s.fld size 15 0) ((end_ - b) / unit))

/-- A channel fails (R383): single-channel mode, the contents lost, units whose area no longer fits disarmed,
and admission re-run. -/
def State.failChannel (s : State) (c : Nat) : State :=
  if (s.dramChan c).failed then s
  else
    let other := s.dramChan (1 - c)
    let s := s.resumeDram c
    let s := (s.setDram c fun (x : DramChan) => { x with up := false, failed := true, paused := false, retrain := false }).report
      (causeKey 6 3 c) 0xC c false
    let s := { s with mem.fallback := if other.failed then some c else some (1 - c), mem.dram := [], mem.poison := [] }
    let s := (List.range 64).foldl State.dropStaged s
    let s := { s with pk.snapshots := List.replicate 4 none }
    let s := (List.range 16).foldl (fun t u =>
      let t := t.setRegN (WFD_CAP_AREA_FREE u) (t.areaSize u)
      let t := t.setCap u fun (x : CapUnit) => { x with wr := 0 }
      let t := if (t.capUnit u).st == .post then t.setCap u fun (x : CapUnit) => { x with st := .idle, armShot := none, cands := [] } else t
      if t.areaFits u then t else t.disarm u) s
    let s := (s.cutArea ADM_STAGE_BASE_LO ADM_STAGE_SIZE 65536).cutArea MEM_SNAP_BASE_LO MEM_SNAP_SIZE (2 ^ 20)
    s.readmit

/-- CHANNEL_FALLBACK (R383). -/
def execChannelFallback (c : Fin 2) (s : State) : Res :=
  .next (if s.boot.phase == .ready then s.failChannel c else s)

/-- The registers of a candidate set (R376; 19 R470). -/
def State.loadDelays (s : State) (c : Nat) (set_ : List Byte) : State :=
  (List.range 2).foldl (fun t i =>
    let t := (List.range 20).foldl (fun t w => t.setRegN (MEM_DLY c i 0 w) (field set_ (96 * i + 4 * w) 4)) t
    t.setRegN (MEM_CA c i) (field set_ (96 * i + 80) 4)) s

/-- Retraining is due (R377). -/
def State.retrainDue (s : State) (c : Nat) : Bool :=
  let x := s.dramChan c
  x.retrain || decide (32 * s.fld MEM_CFG 7 0 < (nth s.thm.zones 6 0 - x.temp).natAbs)

/-- The candidates of a channel in the order in which they are tried: the set in force first (R377). -/
def State.trialOrder (s : State) (c : Nat) : List Nat :=
  let n := (nth s.mem.cands c []).length
  let k := (s.dramChan c).set_
  (if k < n then [k] else []) ++ (List.range n).filter (· != k)

/-- A channel is trained on the first candidate that passes; none fails it (R377), and so does a PLL that is lost. A failed
channel stays out of service (R383). -/
def State.train (s : State) (c : Nat) (passes : List Bool) : State :=
  if (s.dramChan c).failed ∨ s.tim.lost.contains (.dramPll (if c = 0 then 0 else 1)) then s.failChannel c
  else match (s.trialOrder c).zip passes |>.find? Prod.snd with
  | some (k, _) =>
    let s := s.setDram c fun (x : DramChan) => { x with up := true, set_ := k, temp := nth s.thm.zones 6 0, retrain := false }
    s.loadDelays c (nth (nth s.mem.cands c []) k [])
  | none => s.failChannel c

/-- RETRAIN (R377): a channel that is due pauses; it then tries its candidates and resumes, and `passes` says of each
trial in order whether it passed. The pause counts as an interruption. -/
def execRetrain (c : Fin 2) (passes : List Bool) (s : State) : Res :=
  .next (
    let x := s.dramChan c
    if ¬ x.up then s
    else if ¬ x.paused then (if s.retrainDue c then s.pauseDram c none else s)
    else if x.repairs.isSome then s
    else ((s.resumeDram c).train c passes).interruption)

end Sys2Proof.Machine
end

