-- ==== Sys2Proof/Machine/Packets.lean ====
section
/-!
DEFINITION. Packets as bytes arrive and leave (02 R43, R60 to R62), memory windows read back and snapshots (02 R51
to R55).
-/
namespace Sys2Proof.Machine

/-! Reception (02 R43). -/

/-- The opcodes of the opcode table (02 R50); EVENT is none that a host sends (02 R41). -/
def knownOpcodes : List Nat :=
  [0x00, 0x01, 0x02, 0x03, 0x04, 0x10, 0x11, 0x12, 0x13, 0x20, 0x21, 0x22, 0x23, 0x24, 0x30, 0x31, 0x32, 0x33,
    0x34, 0x35, 0x40, 0x41, 0x42, 0x43, 0x44, 0x50, 0x51, 0x52, 0x53, 0x60, 0x61, 0x62, 0x63, 0x64, 0x70, 0x71,
    0x72, 0x73, 0x74] ++
  [0x80, 0x81, 0x82, 0x83, 0x84, 0x85, 0x90, 0x91, 0x92, 0x93, 0xA0, 0xA1, 0xA2, 0xB0, 0xB1, 0xB2, 0xC0, 0xC1,
    0xC2, 0xC3, 0xC4, 0xC5, 0xC6, 0xD0, 0xD1, 0xD2, 0xE0, 0xE1, 0xE2, 0xF0, 0xF1, 0xF2, 0xF3]

/-- An opcode that the table does not hold. -/
def unknownOp (opcode : Nat) : OpSpec :=
  { opcode := opcode, known := false, lengthOk := fun _ => true, act := fun s _ _ => s.refuse BAD_OPCODE }

/-- The request of a packet. -/
def Packet.request (p : Packet) : Request :=
  { flags := p.flags, status := p.status, sequence := p.sequence, target := p.target, cls := p.cls, gen := p.gen
    payload := p.payload }

/-- The packet that bytes spell when the first checks of R43 pass: format, CRC, flags and version. -/
def soundPacket (raw : List Byte) : Option Packet :=
  match parsePacket raw with
  | .packet v p => if bit p.flags.toNat 0 || bit p.flags.toNat 6 || v != 1 then none else some p
  | _ => none

/-- Bytes that fail one of the first checks, taken from their queue: they are counted and discarded, on MSPI a bad CRC
is answered, and a wrong version is answered everywhere. -/
def State.discard (s : State) (o : Origin) (raw : List Byte) (entered : Nat) : State :=
  match parsePacket raw with
  | .format => s.bump GLB_RX_FMT
  | .crc p => (if o = .mspi then s.answer o p entered BAD_CRC 0 else s).bump GLB_RX_CRC
  | .packet _ p =>
    if bit p.flags.toNat 0 || bit p.flags.toNat 6 then s.bump GLB_RX_FLAG else s.answer o p entered BAD_VERSION 0

/-- Bytes that a transport delivers as a packet. A sound packet enters its ingress queue, and one of an opcode that
the table does not hold is refused in its turn. Bytes that fail one of the first checks are discarded in their turn
(R39, R43, R57): until it comes they wait in their queue. -/
def State.receive (s : State) (o : Origin) (raw : List Byte) : State :=
  if s.deaf o then s
  else match soundPacket raw with
    | some p =>
      if knownOpcodes.contains p.opcode.toNat then s.enqueue o (.packet p)
      else s.serve (unknownOp p.opcode.toNat) o p.request
    | none =>
      match s.taken o (.raw raw) with
      | some x => x.2.discard o raw x.1
      | none => if s.waits o (.raw raw) then s else s.enqueue o (.raw raw)

/-- PACKET_DISCARD (R43). -/
def execPacketDiscard (o : Origin) (raw : List Byte) (s : State) : Res := .next (s.receive o raw)

/-- PACKET_FORWARD (R62): a packet of any opcode that names another device. One that names this device is none
of this row's. -/
def execPacketForward (o : Origin) (opcode : Byte) (r : Request) (s : State) : Res :=
  .next (if r.target.toNat / 16 = s.ifl.dev then s else s.serve (unknownOp opcode.toNat) o r)

/-! MSPI (R60, R61). -/

/-- MSPI has a packet in flight (R60). -/
def State.mspiBusy (s : State) : Bool :=
  s.pk.ingress.any (fun x => decide (x.origin = .mspi)) ||
    (match s.pk.deferred with | some d => decide (d.origin = .mspi) | none => false)

/-- MSPI_WRITE_PACKET (R60). A packet that arrives while one is in flight finds no room and is discarded. -/
def execMspiWritePacket (raw : List Byte) (s : State) : Res :=
  .next (if s.mspiBusy then s else { s with pk.mspiOut := [] }.receive .mspi raw)

/-- MSPI_READ_REPLY (R60): the oldest reply, or 0x00 while none is ready. -/
def execMspiReadReply (s : State) : Res :=
  .next (match s.pk.mspiReply with
    | [] => { s with pk.mspiOut := [0x00] }
    | p :: rest => { s with pk.mspiOut := p.bytes, pk.mspiReply := rest })

/-- MSPI_IRQ_L is asserted, that is low, while a reply waits (R60). -/
def State.mspiIrq (s : State) : Bool := !s.pk.mspiReply.isEmpty

/-- MSPI_READ_STATUS (R60). -/
def execMspiReadStatus (s : State) : Res :=
  .next { s with pk.mspiOut := leBytes 1 (flags [s.mspiIrq, s.boot.firmware, s.mspiBusy]) }

/-- RESPONDER_TAKEOVER (R61): a packet has waited on MSPI for 10 ms in which the active pair has not serviced
its queue. -/
def execResponderTakeover (s : State) : Res :=
  .next (match s.queueHead 8 with
    | some h =>
      if s.boot.responder ∨ s.time < s.pk.mspiServed + ticksMs 10 ∨ s.time < h.entered + ticksMs 10 then s
      else { s with boot.responder := true }
    | none => s)

/-! Reading back (R51 to R53). -/

/-- A snapshot handle's window, and whether the handle is free (R55). -/
def State.freeHandle (s : State) (w : Nat) : Bool :=
  decide (0x78 ≤ w) && decide (w ≤ 0x7B) && (nth s.pk.snapshots (w - 0x78) none).isNone

/-- The window, offset and length that a packet names lie in the address map; a snapshot window whose handle is
free is NOT_FOUND instead (R52, R55). -/
def State.spanCheck (s : State) (w off n : Nat) : Check :=
  need (s.freeHandle w || s.spanOk w off n) BAD_ADDRESS

/-- Bytes of a window, the register space among them, and what reading them leaves. -/
def State.readWindow (s : State) (w off n : Nat) : List Byte × State :=
  if w = 0 then
    let x := s.readRegs off (n / 4)
    (x.1.flatMap (leBytes 4), x.2)
  else (s.windowBytes w off n, s)

/-- A host read of a snapshot keeps its handle for another 60 s (R55). -/
def State.touchSnapshot (s : State) (w : Nat) : State :=
  if 0x78 ≤ w ∧ w ≤ 0x7B then
    { s with pk.snapshots := upd s.pk.snapshots (w - 0x78) (Option.map fun (x : Snapshot) => { x with last := s.time }) }
  else s

def memReadOp : OpSpec :=
  { opcode := 0xC3, responder := true, lengthOk := exactly 16
    check := fun s d => firstFail [need (within (field d 12 4) 16 4064) BAD_PARAM 28,
      s.spanCheck (field d 0 1) (field d 4 8) (field d 12 4)]
    act := fun s _ p =>
      let w := field p.payload 0 1
      let off := field p.payload 4 8
      let n := field p.payload 12 4
      s.doneIf [need (!s.freeHandle w) NOT_FOUND, need (w != 2 || !s.poisoned off n) INTERNAL] fun s =>
        let x := (s.touchSnapshot w).readWindow w off n
        { st := x.2, payload := p.payload.take 12 ++ x.1 } }

/-- MEM_READ (R52). -/
def execMemRead (o : Origin) (r : Request) (s : State) : Res := .next (s.serve memReadOp o r)

/-- A register access that lies in the register space (20 R485). -/
def regSpan (a n : Nat) : Check := need (a % 4 == 0 && decide (a + 4 * n ≤ 0x100000)) BAD_ADDRESS

def regReadOp : OpSpec :=
  { opcode := 0xC0, responder := true, lengthOk := exactly 8
    check := fun _ d => firstFail [need (within (field d 4 2) 1 1018) BAD_PARAM 20,
      regSpan (field d 0 4) (field d 4 2)]
    act := fun s _ p =>
      let x := s.readRegs (field p.payload 0 4) (field p.payload 4 2)
      { st := x.2, payload := slice p.payload 0 6 ++ [0, 0] ++ x.1.flatMap (leBytes 4) } }

/-- REG_READ (R50; 20 R485). -/
def execRegRead (o : Origin) (r : Request) (s : State) : Res := .next (s.serve regReadOp o r)

/-! Snapshots (R54, R55). -/

/-- An object of a snapshot: window, offset, length. -/
def snapObject (d : List Byte) (i : Nat) : Nat × Nat × Nat :=
  (field d (4 + 24 * i) 1, field d (12 + 24 * i) 8, field d (20 + 24 * i) 8)

def snapObjects (d : List Byte) : List (Nat × Nat × Nat) := (List.range (field d 0 1)).map (snapObject d)

/-- Length of an image of objects. -/
def imageLength (os : List (Nat × Nat × Nat)) : Nat :=
  os.foldl (fun n x => n + 16 * ceilDiv x.2.2 16) (16 + 32 * os.length)

/-- Bytes that the images of the handles in use hold. -/
def State.snapUsed (s : State) : Nat :=
  s.pk.snapshots.foldl (fun n (x : Option Snapshot) => match x with | some y => n + y.image.length | none => n) 0

/-- The image (R55). All of it is captured at acceptance (notes/assumptions). -/
def State.snapImage (s : State) (os : List (Nat × Nat × Nat)) : List Byte :=
  leBytes 4 s.gen.toNat ++ leBytes 1 os.length ++ List.replicate 11 0 ++
    (os.flatMap fun x => leBytes 1 x.1 ++ List.replicate 7 0 ++ leBytes 8 x.2.1 ++ leBytes 8 x.2.2 ++
      leBytes 8 s.tbShot) ++
    os.flatMap fun x => padTo 16 (s.readWindow x.1 x.2.1 x.2.2).1

def snapshotOp : OpSpec :=
  { opcode := 0xC5
    lengthOk := fun d => decide (4 ≤ d.length) && d.length == 4 + 24 * field d 0 1
    check := fun s d => firstFail (need (within (field d 0 1) 1 16) BAD_PARAM 16 ::
      (snapObjects d).map fun x => s.spanCheck x.1 x.2.1 x.2.2)
    act := fun s o p =>
      let os := snapObjects p.payload
      match s.pk.snapshots.findIdx? Option.isNone with
      | none => s.refuse BUSY
      | some h =>
        s.doneIf [need (os.all fun x => !s.freeHandle x.1) NOT_FOUND,
            need (os.all fun x => x.1 != 2 || !s.poisoned x.2.1 x.2.2) INTERNAL,
            need (decide (s.snapUsed + imageLength os ≤ 2 ^ 20 * s.fld MEM_SNAP_SIZE 15 0)) BUSY] fun s =>
          let x : Snapshot :=
            { image := s.snapImage os, done := false, owner := o, sequence := p.sequence, last := s.time }
          { st := { s with pk.snapshots := s.pk.snapshots.set h (some x) }, status := ACCEPTED
            payload := leBytes 1 h ++ [0, 0, 0] ++ leBytes 4 s.gen.toNat ++ leBytes 8 x.image.length } }

/-- SNAPSHOT (R54, R55). A burst that cannot be corrected is not copied: as a host's read of it, the packet answers INTERNAL
(15 R374, R382; DESIGN CHOICE, notes/assumptions). -/
def execSnapshot (o : Origin) (r : Request) (s : State) : Res := .next (s.serve snapshotOp o r)

def snapshotReleaseOp : OpSpec :=
  { opcode := 0xC6, lengthOk := exactly 4, check := fun _ d => need (decide (field d 0 1 ≤ 3)) BAD_PARAM 16
    act := fun s _ p =>
      let h := field p.payload 0 1
      s.doneIf [need (nth s.pk.snapshots h none).isSome NOT_FOUND] fun s =>
        { st := { s with pk.snapshots := s.pk.snapshots.set h none } } }

/-- SNAPSHOT_RELEASE (R55). -/
def execSnapshotRelease (o : Origin) (r : Request) (s : State) : Res := .next (s.serve snapshotReleaseOp o r)

/-- SNAPSHOT_DONE (R55): the image is complete. Its copies wait while a DDR5 channel is paused (15 R378). -/
def execSnapshotDone (h : Fin 4) (s : State) : Res :=
  .next (match nth s.pk.snapshots h.val none with
    | some x =>
      if x.done || s.dramPaused then s
      else
        { s with pk.snapshots := s.pk.snapshots.set h.val (some { x with done := true, last := s.time }) }.complete
          (x.owner, x.sequence) OK 0
    | none => s)

/-- SNAPSHOT_EXPIRY (R55): 60 s after the latest read, or after the completing EVENT of an image never read. -/
def execSnapshotExpiry (h : Fin 4) (s : State) : Res :=
  .next (match nth s.pk.snapshots h.val none with
    | some x =>
      if x.done ∧ x.last + ticksS 60 ≤ s.time then { s with pk.snapshots := s.pk.snapshots.set h.val none } else s
    | none => s)

end Sys2Proof.Machine
end

