-- ==== Sys2Proof/Machine/TreeOps.lean ====
section
/-!
DEFINITION. Family 0xE and the Ifeche Link: the tree description, joining and losing a link, tree time,
announcements of shots, worker waits, link frames and forwarded incidents (17 R431; 18 R438 to R461).
-/
namespace Sys2Proof.Machine

/-- A port of the link. -/
def State.port (s : State) (p : Nat) : LinkPort := nth s.ifl.ports p .reset

/-- Changes a port. -/
def State.setPort (s : State) (p : Nat) (f : LinkPort → LinkPort) : State :=
  { s with ifl.ports := upd s.ifl.ports p f }

/-! The tree description (R439, R440, R461). -/

/-- The entries of a TREE_CONFIG payload. -/
def treeEntries (d : List Byte) : List TreeEntry :=
  (List.range (field d 0 1)).map fun i =>
    { dev := field d (4 + 4 * i) 1, parent := field d (5 + 4 * i) 1, port := field d (6 + 4 * i) 1 }

/-- The hops of a device in a list of entries whose parents stand before them; the manager has none. -/
def hopsIn (es : List TreeEntry) : Nat → Nat → Nat
  | 0, _ => 0
  | fuel + 1, d =>
    match es.find? fun e => e.dev == d with
    | some e => 1 + hopsIn es fuel e.parent
    | none => 0

/-- An entry is valid behind the entries before it (R439). -/
def entryOk (before : List TreeEntry) (e : TreeEntry) : Bool :=
  e.dev != 0 && decide (e.dev ≤ 15) && before.all (fun x => x.dev != e.dev) &&
    (e.parent == 0 || before.any fun x => x.dev == e.parent) &&
    decide (e.port ≤ 3) && before.all (fun x => x.parent != e.parent || x.port != e.port) &&
    decide (hopsIn before 16 e.parent < 3) &&
    (e.parent == 0 || decide ((before.filter fun x => x.parent == e.parent).length < 3))

/-- The first entry that is not valid. -/
def badEntry (es : List TreeEntry) : Option Nat :=
  (List.range es.length).find? fun i =>
    match es[i]? with | some e => !entryOk (es.take i) e | none => false

/-- A new tree description moves the port of an entry that changed: its link joins again, and a link that no
entry names stays unjoined (R439, R440). -/
def replacePort (old new : List TreeEntry) (p : Nat) (x : LinkPort) : LinkPort :=
  let at_ (es : List TreeEntry) : Option TreeEntry := es.find? fun e => e.parent == 0 && e.port == p
  if at_ old = at_ new then x
  else
    { x with peer := match at_ new with | some e => e.dev | none => 0
             unlisted := x.locked && (at_ new).isNone
             state := if x.locked then 2 else x.state
             thetas := [], count := 0 }

def treeConfigOp : OpSpec :=
  { opcode := 0xE1
    lengthOk := fun d => decide (4 ≤ d.length) && d.length == 4 + 4 * field d 0 1
    check := fun _ d => (badEntry (treeEntries d)).map fun i => (BAD_PARAM, 20 + 4 * i)
    act := fun s _ p =>
      let es := treeEntries p.payload
      s.doneIf [need (s.role == 1) STATE] fun s =>
        let gone := s.ifl.entries.any fun e => !es.contains e
        -- Whether a removed or moved device has a live program is held by that device: a free value.
        let x : Nat × State := if gone then s.draw 68 else (0, s)
        if x.1 % 2 = 1 then x.2.refuse STATE
        else
          { st := { x.2 with
              ifl.entries := es
              ifl.ports := x.2.ifl.ports.zipIdx.map fun (y, p) => replacePort s.ifl.entries es p y }.latch IFL_STATUS 0x2 } }

/-- TREE_CONFIG (R439). -/
def execTreeConfig (o : Origin) (r : Request) (s : State) : Res := .next (s.serve treeConfigOp o r)

/-- The 8 bytes that TREE_STATUS gives of a device. -/
def treeRow (dev state hops port : Nat) (skew : Int) : List Byte :=
  leBytes 1 dev ++ leBytes 1 state ++ leBytes 1 hops ++ leBytes 1 port ++ leBytesInt 4 skew

/-- The row of a device ID, and what giving it leaves: what only the device itself or its parent holds is a
free value (notes/assumptions). -/
def State.treeRowOf (s : State) (d : Nat) : List Byte × State :=
  if d = s.ifl.dev then
    if s.role = 2 then
      let x := s.draw 70
      (treeRow d (s.port s.ifl.parentPort).state s.ifl.hops s.ifl.parentPort (signed 32 x.1), x.2)
    else (treeRow d (if s.role = 1 then 3 else 0) 0 0 0, s)
  else match s.ifl.entries.find? fun e => e.dev == d with
    | none => (treeRow d 0 0 0 0, s)
    | some e =>
      let h := hopsIn s.ifl.entries 16 d
      match s.ifl.portTo s.ifl.dev 16 d with
      | none => (treeRow d 0 h e.port 0, s)
      | some q =>
        let p := s.port q
        if e.parent = s.ifl.dev then (treeRow d p.state h e.port p.skew, s)
        else if p.state = 4 then (treeRow d 4 h e.port 0, s)
        else
          let x := s.draw 70
          let y := x.2.draw 70
          (treeRow d (x.1 % 5) h e.port (signed 32 y.1), y.2)

def treeStatusOp : OpSpec :=
  { opcode := 0xE0, lengthOk := noPayload
    act := fun s _ _ =>
      let x : List Byte × State := (List.range 16).foldl (fun (a : List Byte × State) d =>
        let r := a.2.treeRowOf d
        (a.1 ++ r.1, r.2)) ([], s)
      { st := x.2, payload := x.1 } }

/-- TREE_STATUS (R461). -/
def execTreeStatus (o : Origin) (r : Request) (s : State) : Res := .next (s.serve treeStatusOp o r)

/-- A port begins time lock again (R447). -/
def LinkPort.relock (p : LinkPort) : LinkPort :=
  { p with state := if p.locked then 2 else p.state, thetas := [], count := 0 }

def workerResyncOp : OpSpec :=
  { opcode := 0xE2, lengthOk := exactly 4
    act := fun s o p =>
      let d := field p.payload 0 1
      let port : Option Nat :=
        if s.role = 2 ∧ d = s.ifl.dev then some s.ifl.parentPort
        else if s.role = 1 ∧ s.ifl.entries.any (fun e => e.dev == d) then s.ifl.portTo s.ifl.dev 16 d
        else none
      match port with
      | none => s.refuse BAD_TARGET
      | some q => s.doneIf [need s.ifl.resync.isNone BUSY] fun s =>
        let s := if s.role = 2 ∨ (s.port q).peer = d then s.setPort q LinkPort.relock else s
        { st := { s with ifl.resync := some (d, o, p.sequence), ifl.joining := false, ifl.slipped := false }
          status := ACCEPTED } }

/-- WORKER_RESYNC (R457): steps 2 to 4 of the join are repeated. -/
def execWorkerResync (o : Origin) (r : Request) (s : State) : Res := .next (s.serve workerResyncOp o r)

/-! Joining (R441, R444 to R448, R457). -/

/-- An enabled port has block lock and begins time lock. A link that no entry of the manager names stays unjoined (R440). -/
def State.gainLock (s : State) (p : Nat) : State :=
  if ¬ bit (s.regN IFL_CFG) p ∨ s.role = 0 ∨ (s.port p).state = 0 ∨ (s.port p).locked then s
  else
    let e := s.ifl.entries.find? fun e => e.parent == 0 && e.port == p
    let s := s.setPort p fun x =>
      { x with locked := true, state := 2, thetas := [], count := 0
               unlisted := s.role == 1 && e.isNone
               peer := if s.role = 1 then (match e with | some y => y.dev | none => 0) else x.peer }
    if s.role = 2 ∧ (s.port p).parent then { s with tim.onRef := true, tim.refAt := s.time }.bothEnded else s

/-- BLOCK_LOCK (R441): an enabled port gains block lock. -/
def execBlockLock (p : Fin 4) (s : State) : Res := .next (s.gainLock p)

/-- Exchanges averaged. -/
def State.averaged (s : State) : Nat := 2 ^ s.fld IFL_CFG 23 20

/-- The mean of doubled offsets, in 1/256 fine LSB. -/
def meanTheta (l : List Int) : Int :=
  if l.isEmpty then 0 else roundDiv (128 * l.foldl (· + ·) 0) l.length

/-- Twice theta, and delta, of an exchange (R445). -/
def exchangeOffsets (x : Exchange) (a : Int) : Int × Int :=
  let d1 := signed 42 ((x.t2 - x.t1) % 2 ^ 42).toNat
  let d2 := signed 42 ((x.t4 - x.t3) % 2 ^ 42).toNat
  (d1 - d2 + a, roundDiv (d1 + d2) 2)

/-- A worker publishes D_tree when it differs from the newest version by at least 1 fine LSB (R446). -/
def State.publishTree (s : State) : State :=
  let d := roundDiv (s.port s.ifl.parentPort).theta 256 + s.ifl.parentD
  let old : Int := match s.ifl.dtree with | x :: _ => x.2 | [] => 0
  if d = old then s
  else { s with ifl.dtree := ((s.tim.shot + 64, d) :: s.ifl.dtree).take 4096 }

/-- A worker's warm-up flag (R448): the parent port is JOINED and the parent reports the flag. -/
def State.treeWarm (s : State) : State :=
  s.setWarm ((s.port s.ifl.parentPort).state == 3 && s.ifl.parentWarm) (if (s.port s.ifl.parentPort).state = 3 then 0 else 1)

/-- The key of a link's loss (17 R523): the parent's ID and the port. -/
def State.linkKey (s : State) (p : Nat) : Word :=
  causeKey 0xE 1 ((if s.role = 2 ∧ (s.port p).parent then (s.port p).peer else s.ifl.dev) * 16 + p)

/-- A link is JOINED: its loss has ended (R457), and the tree's listeners hear of it (02 R56); capacity has returned (11 R292). -/
def State.linkJoined (s : State) (p : Nat) : State :=
  ((s.setPort p fun x => { x with state := 3 }).endCause (s.linkKey p)).readmit.openEvent 12 0xF

/-- The manager's resync of a device ends when its link is JOINED again: whether that device had to load while
it was not idle is held by that device, a free value. -/
def State.resyncSeen (s : State) (p : Nat) : State :=
  match s.ifl.resync with
  | some (d, o, q) =>
    if s.role = 1 ∧ s.ifl.portTo s.ifl.dev 16 d = some p ∧ (s.port p).state = 3 then
      let x := s.draw 69
      { x.2 with ifl.resync := none }.complete (o, q) (if x.1 = 0 then OK else STATE) 0xF
    else s
  | none => s

/-- The value of an echo block (R442): the low 6 bits of the superframe that the peer's block began, and the arrival
stamp modulo 2^42. -/
def echoValue (start arrival : Int) : Nat :=
  (start / (512 * 2048) % 64).toNat * 2 ^ 42 + (arrival % 2 ^ 42).toNat

/-- An exchange on a worker's parent port (R440, R445, R446, R448). A parent that gives the worker no ID (0, the manager's
own) is attached on a port that no entry names: the worker stays unjoined. -/
def State.parentExchange (s : State) (p : Nat) (x : Exchange) : State :=
  let t := exchangeOffsets x (signed 32 (s.regN (IFL_ASYM p)))
  let s := s.setPort p fun y =>
    let l := (t.1 :: y.thetas).take s.averaged
    { y with parent := true, peer := x.dev, skew := x.skew, thetas := l, count := y.count + 1
             theta := meanTheta l, delta := t.2, unlisted := x.own == 0, echo := echoValue x.t1 x.t2 }
  let s := { s with
    ifl.dev := x.own, ifl.hops := min 3 (x.hops.val + 1), ifl.parentPort := p
    ifl.parentD := x.dtree, ifl.parentWarm := x.warm, tim.onRef := true
    tim.refAt := if s.tim.onRef then s.tim.refAt else s.time }
  let s := if (s.port p).state = 3 then s.publishTree else s
  s.bothEnded.treeWarm

/-- An exchange on another port: the peer's status block gives its ID, its skew and whether it is joined
(R442, R461). Whether an entry names the port of a worker is the manager's to know: a free value (R440). -/
def State.childExchange (s : State) (p : Nat) (x : Exchange) : State :=
  let t := exchangeOffsets x (signed 32 (s.regN (IFL_ASYM p)))
  let was := (s.port p).state
  let s := s.setPort p fun y =>
    { y with peer := x.dev, skew := x.skew, count := y.count + 1, delta := t.2, echo := echoValue x.t3 x.t4
             unlisted := y.unlisted || (s.role == 2 && !Config.portNamed s.ifl.dev p) }
  if (s.port p).unlisted then s
  else if x.joined ∧ was ≠ 3 then (s.linkJoined p).resyncSeen p
  else if ¬ x.joined ∧ was = 3 then s.setPort p fun y => { y with state := 2 }
  else s.resyncSeen p

/-- TIME_EXCHANGE (R445, R446): an exchange completes on a port with block lock. A link that went down for want of time
blocks has kept its block lock and returns with them (R456, R457). A worker without a parent takes the first port whose peer
is joined to the tree. -/
def execTimeExchange (p : Fin 4) (x : Exchange) (s : State) : Res :=
  .next (
    let s := if (s.port p).state = 4 then s.gainLock p else s
    if ¬ (s.port p).locked then s
    else if s.role = 2 ∧ ((s.port p).parent ∨ (¬ s.ifl.ports.any LinkPort.parent ∧ x.joined)) then s.parentExchange p x
    else if s.role ≠ 0 then s.childExchange p x
    else s)

/-- The core is idle (R447): no program is live and every capture unit is IDLE. -/
def State.coreIdle (s : State) : Bool := !s.anyLive && s.wfd.units.all fun u => u.st == .idle

/-- Loads TB_SHOT (R447): n ticks are subtracted; crossing a wrap raises a wrap event. -/
def State.loadShot (s : State) (n : Int) : State :=
  let v := (s.tim.shot : Int) - n
  let s := if v < 0 ∨ s.tim.shot / 2 ^ 48 ≠ v.toNat / 2 ^ 48 then s.noteWrap 9 0 TIM_SHOT_LO 48 else s
  { s with tim.shot := (v % 2 ^ 64).toNat }.latch IFL_STATUS 0x4

/-- Step 3 of the join (R447): within 1,024 fine LSB nothing is loaded; otherwise the core is made idle and the offset is
loaded, whereupon the estimate starts afresh. The exchanges of step 4 count from here. -/
def State.loadStep (s : State) (p : Nat) : State :=
  let theta := (s.port p).theta
  let s := { s with ifl.joining := true, ifl.slipped := false }
  if theta.natAbs ≤ 1024 * 256 then s.setPort p fun x => { x with count := 0 }
  else
    let idle := s.coreIdle
    let s := if idle then s
      else
        let s := s.suspendAll Prog.live 9
        { (List.range 16).foldl State.disarm s with ifl.slipped := true }
    (s.loadShot (roundDiv theta (256 * 2048))).setPort p fun x => { x with thetas := [], count := 0, theta := 0 }

/-- Step 4: after convergence the port is JOINED (R447, R457). -/
def State.joinStep (s : State) (p : Nat) : State :=
  let s := { (s.linkJoined p).publishTree with ifl.joining := false }
  let s := s.treeWarm
  match s.ifl.resync with
  | some (_, o, q) => { s with ifl.resync := none }.complete (o, q) (if s.ifl.slipped then STATE else OK) 0xF
  | none => s

/-- LINK_JOIN (R447): a worker whose parent port has its 64 exchanges loads TB_SHOT, and one that has converged
since becomes JOINED. -/
def execLinkJoin (s : State) : Res :=
  .next (
    let p := s.ifl.parentPort
    let x := s.port p
    if s.role ≠ 2 ∨ ¬ x.parent ∨ x.unlisted ∨ x.state ≠ 2 ∨ (¬ s.ifl.joining ∧ x.count < 64) then s
    else
      let s := if s.ifl.joining then s else s.loadStep p
      if s.averaged ≤ (s.port p).count then s.joinStep p else s)

/-! Loss (R456). -/

/-- A program has an entry with SYNC_FIRE. -/
def State.hasSync (s : State) (q : Prog) : Bool :=
  (imAllSegs q.image).any fun g => match s.segTabs g with
    | some t => (issued g t).any seSync
    | none => false

/-- What the loss of its parent link does to a worker: holdover on XSYS, or without XSYS the loss of both references (01
R33), the warm-up flag, ROUTE 2 streams and programs with SYNC_FIRE entries. -/
def State.parentLost (s : State) : State :=
  let s := { s with tim.onRef := false, ifl.joining := false }.setWarm false 1
  let s := if s.tim.xsys then s else s.bothLost
  let up := s.present.filter fun x => stRoute (imStream x.2.image) == 2
  let s := s.suspendAll (fun q => q.live && stRoute (imStream q.image) == 2) 4
  let s := (up.map Prod.fst).foldl State.dropStaged s
  let sync := s.present.filter fun x => x.2.live && s.hasSync x.2
  (sync.map Prod.fst).foldl (fun t p => t.suspend p 8) s

/-- A link goes down (R456), with the capacity of its port (11 R292). -/
def State.linkDown (s : State) (p : Nat) : State :=
  if ¬ (s.port p).locked then s
  else
    let parent := s.role == 2 && (s.port p).parent
    let key := s.linkKey p
    let s := (s.setPort p fun x =>
      { x with state := 4, locked := false, thetas := [], count := 0, tx := x.tx.filter fun f => f.kind != 4 })
    let s := (s.latch IFL_STATUS 0x1).report key 0xF p false
    let s := if parent then s.parentLost else s
    s.readmit.openEvent 12 0xF

/-- LINK_DOWN (R456). -/
def execLinkDown (p : Fin 4) (s : State) : Res := .next (s.linkDown p)

/-! Announcements (R450 to R452). -/

/-- SYNC_FULL (R442, R450): the full number of the SYNC_SHOT that follows, relayed to the children. -/
def execSyncFull (shot : Long) (s : State) : Res :=
  .next (if s.role ≠ 2 then s
    else
      let s := s.sendBlock 0x50 shot.toNat (some s.ifl.parentPort)
      { s with ifl.syncFull := some shot })

/-- The next entry of a program is skipped: no shot is committed for it (R452). -/
def State.skipEntry (s : State) (pid : Nat) : State :=
  match s.prog pid with
  | some q =>
    if q.issues then
      let p := s.plan pid q
      let t := s.setProg pid fun y => { y with nominal := p.nominal, entry := y.entry + 1 }
      if sgCount (imSeg q.image q.segment) ≤ q.entry + 1 then t.endPass pid else t
    else s
  | none => s

/-- Skips entries with SYNC_FIRE and counts them, with one incident (R452). -/
def State.skipSync (s : State) (pid cause counter : Nat) : Nat → State
  | 0 => s
  | n + 1 =>
    match s.prog pid with
    | some q =>
      if q.issues ∧ seSync (s.plan pid q).entry then
        (((s.skipEntry pid).bump counter).report (causeKey 0xE cause (s.ifl.dev * 16 + s.ifl.parentPort)) 0xF
          s.ifl.parentPort true).skipSync pid cause counter n
      else s
    | none => s

/-- The planned fire time of an announcement in the worker's own 25 ps units (R451): the low 26 bits name the
first instant of tree time after the arrival. -/
def State.placed (s : State) (low26 arrival : Nat) : Nat :=
  let shift := roundDiv (s.treeShift arrival) 64
  let from_ := (32 * (arrival : Int) - shift).toNat
  ((from_ + (low26 + 2 ^ 26 - from_ % 2 ^ 26) % 2 ^ 26 : Nat) + shift : Int).toNat

/-- The shot number of an announcement, and whether a SYNC_FULL gave it (R451). -/
def State.announcedNumber (s : State) (low16 : Half) : Long × Bool :=
  match s.ifl.syncFull with
  | some f => (BitVec.ofNat 48 (nearest 16 f.toNat low16.toNat), true)
  | none => (BitVec.ofNat 48 (nearest 16 (match s.ifl.latest with | some f => f.toNat | none => 0) low16.toNat), false)

/-- SYNC_SHOT (R451, R452): the worker commits the next SYNC_FIRE entry of the program under the announced
number and time, after it has skipped the entries of a gap, or skips it when it is late; the block is relayed. -/
def execSyncShot (pid : Fin 64) (low16 : Half) (low26 : BitVec 26) (arrival : Long) (s : State) : Res :=
  .next (if s.role ≠ 2 then s
    else
      let s := s.sendBlock 0x51 (pid.val * 2 ^ 42 + low16.toNat * 2 ^ 26 + low26.toNat) (some s.ifl.parentPort)
      let n := s.announcedNumber low16
      let gap := match s.ifl.latest with
        | some l => if n.2 ∨ ¬ notBefore n.1 (l + 1) then 0 else (n.1 - l - 1).toNat
        | none => 0
      let s := { s with ifl.syncFull := none, ifl.latest := some n.1 }
      let s := s.skipSync pid 2 IFL_SYNC_LOST (min gap 65535)
      match s.prog pid with
      | none => s
      | some q =>
        if ¬ q.issues then s
        else
          let p := s.plan pid q
          let at_ := nearest 48 s.tim.shot arrival.toNat
          let fire := s.placed low26.toNat at_
          if ¬ seSync p.entry then s
          else if fire < 32 * (at_ + 64) then s.skipSync pid 3 IFL_SYNC_LATE 1
          else if s.seq.clockHold ∨ s.thm.shutdown then s
          else s.commitShot q { p with fire := fire, nominal := fire - 32 * p.dither } n.1)

/-! Worker waits (03 R78; R453). -/

/-- A report or release is a repeat of one that was acted on in the two superframes before. -/
def State.repeated (s : State) (dev tag : Nat) : Bool :=
  s.ifl.seen.any fun x => x.1 == dev && x.2.1 == tag && decide (s.tim.shot < x.2.2 + 1536)

/-- The first copy is noted; notes whose repeats are past are dropped. -/
def State.noteSeen (s : State) (dev tag : Nat) : State :=
  { s with ifl.seen := (dev, tag, s.tim.shot) :: s.ifl.seen.filter fun x => decide (s.tim.shot < x.2.2 + 1536) }

/-- WAIT_REPORT (03 R78; R453): the manager acts on the first copy; a worker sends it on towards the manager. -/
def execWaitReport (dev : Fin 16) (tag : Half) (s : State) : Res :=
  .next (
    if s.role = 0 ∨ s.repeated dev tag.toNat then s
    else
      let s := s.noteSeen dev tag.toNat
      if s.role = 1 then s.waitReported dev tag.toNat
      else
        let b : Nat × Nat × Nat := (s.ifl.parentPort, 0x52, dev.val * 2 ^ 44 + tag.toNat * 2 ^ 28)
        if (s.port s.ifl.parentPort).state = 3 then { s with ifl.blocks := b :: b :: b :: s.ifl.blocks } else s)

/-- WAIT_RELEASE (R453): the low 32 bits name the tick nearest the worker's own TB_SHOT. -/
def execWaitRelease (tag : Half) (low32 : Word) (s : State) : Res :=
  .next (
    if s.role ≠ 2 ∨ s.repeated 16 tag.toNat then s
    else
      let s := (s.noteSeen 16 tag.toNat).sendThrice 0x53 (tag.toNat * 2 ^ 32 + low32.toNat) (some s.ifl.parentPort)
      s.releaseTag tag.toNat (nearest 32 s.tim.shot low32.toNat))

/-! Link frames (R443, R454, R455, R458). -/

/-- ACK (R443): the incident frame of the sequence is acknowledged. -/
def execAck (seq : Half) (s : State) : Res :=
  .next { s with ifl.ports := s.ifl.ports.map fun x =>
    { x with tx := x.tx.filter fun f => f.kind != 3 || f.seq != seq } }

/-- INCIDENT_FRAME_REPEAT (R443): an incident frame without an ACK is sent again 20 us after its last sending. -/
def execIncidentFrameRepeat (seq : Half) (s : State) : Res :=
  .next { s with ifl.ports := s.ifl.ports.map fun x =>
    { x with tx := x.tx.map fun (f : LinkTx) =>
      if f.kind = 3 ∧ f.seq = seq ∧ f.sent + ticksUs 20 ≤ s.time then { f with sent := s.time } else f } }

/-- When the bound of a reply or EVENT that comes back began (02 R42): a reply's at the ingress of its packet here, an
EVENT's when it was raised, which no frame carries: a free value. -/
def State.awaited (s : State) (kind : Nat) (sess : Byte) (q : Half) : Nat × State :=
  if kind = 1 then
    match s.ifl.away.find? fun x => x.1 == sess.toNat && x.2.1 == q with
    | some x => (x.2.2, { s with ifl.away := s.ifl.away.erase x })
    | none => (s.time, s)
  else
    let x := s.draw 80
    (s.time - x.1, x.2)

/-- A reply or EVENT for a session of this device, or on its way to another (02 R62). -/
def State.returned (s : State) (p kind dev : Nat) (sess : Byte) (data : List Byte) : State :=
  if dev = s.ifl.dev then
    match parsePacket data with
    | .packet _ k =>
      match s.pk.sessions.find? fun x => x.num == sess.toNat with
      | some x =>
        let a := s.awaited kind sess k.sequence
        a.2.sendTo x.origin (a.1 + classBound k.cls) k
      | none => s
    | _ => s
  else match s.portFor (p == s.ifl.parentPort) dev with
    | some q => if q = p then s else s.linkSend q kind dev sess data
    | none => s

/-- The bytes of an incident frame: the detail of its EVENT (R458; 17 R434; notes/assumptions). -/
def Incident.frame (i : Incident) : List Byte :=
  leBytes 4 i.iseq.toNat ++ leBytes 4 i.key.toNat ++ leBytes 4 i.reports ++ leBytes 2 i.devices.toNat ++
    leBytes 1 i.state ++ [0]

/-- A forwarded incident (17 R432): the port acknowledges every copy; the manager adds the first to its table
as one report, and a worker sends it on. FIRST_BY's block and instance are not forwarded: a free value. -/
def State.incidentFrame (s : State) (p dev : Nat) (sess : Byte) (seq : Half) (data : List Byte) : State :=
  let s := { s with ifl.blocks := (p, 0x54, seq.toNat * 2 ^ 32) :: s.ifl.blocks }
  if s.ifl.incSeen.any fun x => x.1 == 16 * p + dev && x.2 == seq then s
  else
    let s := { s with ifl.incSeen := ((16 * p + dev, seq) :: s.ifl.incSeen).take 256 }
    if s.role = 2 then s.linkSend s.ifl.parentPort 3 dev sess data
    else
      let x := s.draw 71
      x.2.reportWith (BitVec.ofNat 32 (field data 4 4)) (x.1 / 65536 % 16) (x.1 % 65536) (field data 14 1 == 2)
        (field data 8 4) (BitVec.ofNat 16 (field data 12 2)) dev

/-- A record frame of a worker (R455): a worker sends it on; the manager stages it under the reservation of its
own stream of the same program, or discards its records (10 R262, R270). -/
def State.recordFrame (s : State) (dev : Nat) (sess : Byte) (data : List Byte) : State :=
  if s.role = 2 then s.linkSend s.ifl.parentPort 4 dev sess data
  else
    let pid := field data 4 1 % 64
    let f : Frame :=
      { stream := pid, device := field data 5 1 % 16, recs := [], isLast := bit (field data 3 1) 1
        stalled := bit (field data 3 1) 0, fseq := BitVec.ofNat 32 (field data 12 4)
        deadline := nearest 48 s.tim.shot (field data 16 6), key0 := BitVec.ofNat 48 (field data 22 6)
        lost := field data 28 4, raw := some data }
    match s.prog pid with
    | none => (s.bumpBy OUT_ORPHAN f.count).latch OUT_STATUS 0x100
    | some _ =>
      if s.stageBytes pid + f.staged ≤ s.reservation pid then
        s.setStream pid fun x =>
          { x with closed := x.closed ++ [{ f with stalled := f.stalled || (stRoute x.desc == 0 && !s.credit x.desc) }] }
      else s.discardRecs pid f.count

/-- LINK_FRAME (R443, R454, R455, R458): a link frame arrives on a JOINED port. -/
def execLinkFrame (p : Fin 4) (kind dev : Fin 16) (sess : Byte) (seq : Half) (data : List Byte) (crcOk : Bool)
    (s : State) : Res :=
  .next (
    if (s.port p).state ≠ 3 then s
    else if ¬ crcOk then s.bump (IFL_FRM_DROP p)
    else match kind.val with
      | 0 => s.receive (.ifl p dev sess) data
      | 1 => s.returned p 1 dev sess data
      | 2 => s.returned p 2 dev sess data
      | 3 => s.incidentFrame p dev sess seq data
      | 4 => s.recordFrame dev sess data
      | _ => s.bump (IFL_BLK_ERR p))

/-! Incident windows (17 R431, R434; R458). -/

/-- A worker forwards an incident whose window has closed. -/
def State.forwardIncident (s : State) (i : Incident) : State :=
  if s.role = 2 then s.linkSend s.ifl.parentPort 3 s.ifl.dev 0 i.frame else s

/-- INCIDENT_WINDOW_CLOSE (17 R431): 2 ms after it opened, an incident is CLEARED if its cause has ended and
ACTIVE otherwise. -/
def execIncidentWindowClose (iseq : Word) (s : State) : Res :=
  .next (match s.rep.incidents.find? fun i => i.iseq == iseq with
    | some i =>
      if i.state ≠ 0 ∨ s.time ≤ i.closes then s
      else
        let j := { i with state := if i.ended then 2 else 1, lastT := s.sysNs }
        let s := { s with rep.incidents := s.rep.incidents.map fun (x : Incident) => if x.iseq = iseq then j else x }
        (s.incidentEvent j).forwardIncident j
    | none => s)

end Sys2Proof.Machine
end

