-- ==== Sys2Proof/Machine/Output.lean ====
section
/-!
DEFINITION. From records to delivered frames: the record builder, frames, the servers of PCIe and the Ethernet ports
(10 R263 to R275).
-/
namespace Sys2Proof.Machine

/-! The record builder (R263). -/

/-- A shot number is before another. -/
def keyBefore (a b : Long) : Bool := a != b && decide ((b - a).toNat < 2 ^ 47)

/-- A key is at or below another. -/
def keyUpTo (a b : Long) : Bool := !keyBefore b a

/-- The key of what an event will record, and its program: that of its context, and for an INIT or TIMER event key 0
and the program that takes the engine's records without a shot. -/
def EngEvent.keyOf (v : EngEvent) (idle : Option Nat) : Option (Nat × Long) :=
  match v.group, v.shot with
  | some g, _ => some (g.first.pid, g.first.number)
  | none, some x => some (x.shot.pid, x.shot.number)
  | none, none => idle.map fun p => (p, 0)

/-- What an engine still holds for a program: its queued events and its run, and, where its image has an entry
for them, its collecting groups and its shots in flight; the records that a run holds and those of RECQ. -/
def Engine.holds (y : Engine) (idle : Option Nat) (pid : Nat) : List Long :=
  let own (l : List (Nat × Long)) : List Long := (l.filter fun x => x.1 == pid).map Prod.snd
  let entry (f : ImgHeader → Nat) : Bool := match y.image with | some h => f h != 0xFFFF | none => false
  let ofRec (r : Rec) : Option (Nat × Long) := (r.pid.or idle).map fun p => (p, r.key)
  own (y.events.filterMap fun v => v.keyOf idle) ++
    own (match y.run with | some r => (r.event.keyOf idle).toList ++ r.held.filterMap ofRec | none => []) ++
    (if entry ImgHeader.entryGroup then own (y.groups.map fun g => (g.first.pid, g.first.number)) else []) ++
    (if entry ImgHeader.entryShot then own (y.shots.map fun x => (x.shot.pid, x.shot.number)) else []) ++
    own (y.recq.filterMap ofRec)

/-- The keys of the captures of a stream that are in progress: the shot committed last at the capture's last sample
(R263, R267), or the newest shot while that sample is to come. -/
def State.captureKeys (s : State) (pid : Nat) : List Long :=
  let mask := stCapMask (s.stream pid).desc
  s.wfd.units.zipIdx.filterMap fun (c, u) =>
    if c.st == .post && (match c.armShot with | some x => x.pid == pid | none => bit mask u) then
      let l := s.capLane u
      some (s.keyAt (s.sampleTime l (s.sampleFrom l c.armedAt + c.trigIdx + s.capPost u - 1) / 2048).toNat)
    else none

/-- The engines that serve a program's receive groups. -/
def State.sources (s : State) (pid : Nat) : List Nat :=
  match s.prog pid with
  | some q => s.enginesOf (s.rxOf q.image)
  | none => []

/-- Every source of a stream has passed a key. -/
def State.passed (s : State) (pid : Nat) (key : Long) : Bool :=
  (s.sources pid).all (fun e => ((s.eng e).holds (s.idleTaker e) pid).all fun k => !keyUpTo k key) &&
    (s.captureKeys pid).all fun k => !keyUpTo k key

/-- A record is placed before another: ascending key, then channel, records without a channel last. -/
def Rec.before (a b : Rec) : Bool :=
  keyBefore a.key b.key || (a.key == b.key && (match a.chan, b.chan with
    | some x, some y => decide (x < y)
    | some _, none => true
    | none, _ => false))

/-- The record of a stream that is placed next. -/
def nextRec (l : List Rec) : Option Rec :=
  l.foldl (fun b r => match b with | none => some r | some x => if r.before x then some r else some x) none

/-! Frames (R265 to R267). -/

/-- The 32-byte header of a frame (R265). -/
def frameHeader (f : Frame) (length : Nat) : List Byte :=
  [0xA5, 0x46, 0x01] ++ leBytes 1 (b2n f.stalled + 2 * b2n f.isLast) ++ leBytes 1 f.stream ++ leBytes 1 f.device ++
    leBytes 2 f.recs.length ++ leBytes 4 length ++ leBytes 4 f.fseq.toNat ++ leBytes 6 f.deadline ++
    leBytes 6 f.key0.toNat ++ leBytes 4 f.lost

/-- The bytes of a frame; a forwarded frame is delivered unchanged, but for HOST_STALLED. -/
def Frame.bytes (f : Frame) : List Byte :=
  match f.raw with
  | some b => patch b 3 (leBytes 1 (b2n f.stalled + 2 * b2n f.isLast))
  | none =>
    let d := f.recs.flatMap Rec.bytes
    frameHeader f (32 + d.length) ++ d

/-- Bytes of a frame with some records. -/
def frameSize (recs : List Rec) : Nat := recs.foldl (fun n r => n + r.bytes.length) 32

/-- A worker's closed frame goes to its parent as a bulk link frame (18 R455). -/
def State.sendUp (s : State) (f : Frame) : State :=
  let s := (s.linkSend s.ifl.parentPort 4 s.ifl.dev 0 f.bytes).bump (OUT_STREAM_DONE f.stream)
  s.settleFrees f.recs

/-- Closes the open frame of a stream. -/
def State.closeFrame (s : State) (pid : Nat) (isLast : Bool) : State :=
  let x := s.stream pid
  match x.openFr with
  | none => s
  | some o =>
    let first := match o.recs with | r :: _ => r.origin | [] => 0
    let origin := o.recs.foldl (fun m r => min m r.origin) first
    let f : Frame :=
      { stream := pid, device := s.ifl.dev, recs := o.recs, isLast := isLast
        stalled := stRoute x.desc == 0 && (x.stalled || !s.credit x.desc), fseq := s.reg (OUT_STREAM_FSEQ pid)
        deadline := origin + ticksUs (stBound x.desc), key0 := match o.recs with | r :: _ => r.key | [] => 0
        lost := x.lost, raw := none }
    let s := s.bump (OUT_STREAM_FSEQ pid)
    let s := s.setStream pid fun y => { y with openFr := none, lost := 0, stalled := false }
    if stRoute x.desc = 2 then s.sendUp f
    else s.setStream pid fun y =>
      { y with closed := y.closed ++ [f], dry := if y.closed.isEmpty then some s.time else y.dry }

/-- A record can join a frame: neither the size limit nor the key span is passed (R266). A key before KEY0 is not at
or past KEY0 + 32,768. -/
def joins (desc : List Byte) (o : OpenFrame) (r : Rec) : Bool :=
  decide (frameSize (o.recs ++ [r]) ≤ 16 * stFrameMax desc) &&
    (match o.recs with | x :: _ => !keyUpTo (x.key + 32768) r.key | [] => true)

/-- Places a record: an open frame that cannot take it closes first. -/
def State.place (s : State) (pid : Nat) (r : Rec) : State :=
  let x := s.stream pid
  let s := s.setStream pid fun y => { y with waiting := y.waiting.erase r }
  let s : State := match x.openFr with
    | some o => if joins x.desc o r then s else s.closeFrame pid false
    | none => s
  s.setStream pid fun y =>
    { y with openFr := some (match y.openFr with
        | some o => { o with recs := o.recs ++ [r] }
        | none => { recs := [r], opened := s.time }) }

/-- RECORD_BUILD (R263): the next record of a stream is placed once every source has passed its key. The record builder
waits while a DDR5 channel is paused (15 R378) or a switchover runs (17 R424). -/
def execRecordBuild (pid : Fin 64) (s : State) : Res :=
  .next (
    let s := (s.sources pid).foldl State.drain s
    match nextRec (s.stream pid).waiting with
    | none => s
    | some r => if s.passed pid r.key && !s.dramPaused && s.rep.switch.isNone then s.place pid r else s)

/-- A program has ended and its sources have passed its last key: its open frame is the last one (R266). -/
def State.ended (s : State) (pid : Nat) : Bool :=
  (match s.prog pid with
    | some q => (q.state == .stopped || q.state == .suspended) &&
        (match q.last with | some n => s.passed pid n | none => true)
    | none => true) && (s.stream pid).waiting.isEmpty

/-- FRAME_CLOSE (R266): CLOSE us after the frame opened, or at the end of the program. -/
def execFrameClose (pid : Fin 64) (s : State) : Res :=
  .next (match (s.stream pid).openFr with
    | some o =>
      if s.ended pid then s.closeFrame pid true
      else if o.opened + ticksUs (stClose (s.stream pid).desc) ≤ s.time then s.closeFrame pid false
      else s
    | none => s)

/-- STREAM_STALL_SUSPEND (R270; 03 R522): a stream to Ethernet whose closed frames have found no way out for
STALL_LIMIT ms. Its staged frames stay. -/
def execStreamStallSuspend (pid : Fin 64) (s : State) : Res :=
  .next (
    let x := s.stream pid
    match s.prog pid, x.dry with
    | some q, some t =>
      if q.live ∧ stRoute x.desc = 1 ∧ stStall x.desc ≠ 0 ∧ ¬ x.closed.isEmpty ∧
          t + ticksMs (stStall x.desc) ≤ s.time then s.suspend pid 5
      else s
    | _, _ => s)

/-! The servers (R273). -/

/-- The server of a stream: PCIe, or its Ethernet port. -/
def serverOf (desc : List Byte) : Option Nat :=
  match stRoute desc with
  | 0 => some 0
  | 1 => some (1 + stRing desc % 4)
  | _ => none

/-- The server of a packet. -/
def packetServer (o : Origin) : Option Nat :=
  match o with
  | .ring _ => some 0
  | .udp p .. => some (1 + p.val)
  | _ => none

/-- A server's route is up. -/
def State.routeUp (s : State) (v : Nat) : Bool := if v = 0 then s.out.pcieUp else nth s.out.ethUp (v - 1) false

/-- A packet's ring has a reply buffer. -/
def State.replyRoom (s : State) (o : Origin) : Bool :=
  match o with
  | .ring n => (match s.pk.rings[n.val]? with | some r => r.enabled && !r.replyBufs.isEmpty | none => false)
  | _ => true

/-- A frame or packet that competes for a server: its deadline as a tick of TB_SHOT, its place among equal
deadlines, and what it is. -/
structure Bid where
  deadline : Int
  rank     : Nat
  item     : Outgoing
  deriving DecidableEq, Repr

/-- The frames of a stream that may start: for each device the oldest (18 R455). -/
def Stream.heads (x : Stream) : List Frame :=
  (x.closed.foldl (fun (l : List Frame) f => if l.any fun g => g.device == f.device then l else l ++ [f]) [])

/-- A reply leaves behind the earlier replies of its session (02 R57). -/
def State.inTurn (s : State) (x : OutPacket) (i : Nat) : Bool :=
  bit x.packet.flags.toNat 6 ||
    (s.out.packets.take i).all fun y => bit y.packet.flags.toNat 6 || !y.dest.same x.dest

/-- Everything that is eligible on a server (R273). -/
def State.bids (s : State) (v : Nat) : List Bid :=
  if ¬ s.routeUp v then []
  else
    let ps := s.out.packets.zipIdx.filter fun (x, i) =>
      packetServer x.dest == some v && s.replyRoom x.dest && s.inTurn x i
    let fs := s.out.streams.zipIdx.flatMap fun (x, i) =>
      if serverOf x.desc == some v && (v != 0 || s.credit x.desc) then
        x.heads.map fun f => Bid.mk f.deadline (2 ^ 32 + 16 * i + f.device) (.frame f)
      else []
    (ps.map fun (x, i) =>
      Bid.mk ((x.deadline : Int) - s.time + s.tim.shot) i (.packet x.dest x.packet)) ++ fs

/-- The earliest deadline; on equal deadlines the lower place. -/
def bestBid (l : List Bid) : Option Bid :=
  l.foldl (fun b x => match b with
    | none => some x
    | some y => if x.deadline < y.deadline ∨ (x.deadline = y.deadline ∧ x.rank < y.rank) then some x else some y) none

/-- The closed frames of the streams of a ring that has no credit carry HOST_STALLED (R270). -/
def State.markDry (s : State) (n : Nat) : State :=
  { s with out.streams := s.out.streams.map fun (x : Stream) =>
    if serverOf x.desc = some 0 ∧ stRing x.desc = n ∧ ¬ s.credit x.desc then
      { x with closed := x.closed.map fun (f : Frame) => { f with stalled := true } }
    else x }

/-- Size of a data ring. -/
def State.ringSize (s : State) (n : Nat) : Nat := 2 ^ s.fld (OUT_DRING_CFG n) 3 0

/-- Writes the descriptor at the head of a data ring back and consumes it (R269): with the frame's length and DONE, or
with length 0 and ERR where its buffer cannot take the frame. -/
def State.writeBack (s : State) (n length : Nat) : State :=
  let s := { s with out.descs := s.out.descs ++ [(n, s.regN (OUT_DRING_HEAD n), length, if length = 0 then 2 else 1)] }
  let s := s.setRegN (OUT_DRING_HEAD n) ((s.regN (OUT_DRING_HEAD n) + 1) % s.ringSize n)
  let s := { s with out.rings := upd s.out.rings n fun (r : DataRing) =>
    { r with bufs := r.bufs.drop 1, unsig := r.unsig + 1, firstAt := if r.unsig = 0 then s.time else r.firstAt } }
  s.markDry n

/-- A buffer takes a frame (R269). -/
def bufferFits (b : RingBuf) (size : Nat) : Bool := decide (size ≤ b.length.toNat) && b.address.toNat % 16 == 0

/-- The fragments of a frame on a port: offset and bytes (R272). -/
def fragments (f : Nat) (d : List Byte) : List (Nat × List Byte) :=
  (List.range (ceilDiv d.length (max 1 f))).map fun i => (i * f, slice d (i * f) (min f (d.length - i * f)))

/-- Sends one fragment of a frame on an Ethernet port (R271, R272). -/
def State.sendFragment (s : State) (p : Fin 4) (f : Frame) (x : Nat × List Byte) : State :=
  let desc := (s.stream f.stream).desc
  let h : List Byte := [0xA5, 0x47] ++ leBytes 1 f.stream ++ leBytes 1 f.device ++ leBytes 4 f.fseq.toNat ++
    leBytes 4 x.1 ++ leBytes 4 f.bytes.length
  let y := s.datagram p (stDstMac desc) (stDstIp desc) (stSrcPort desc) (stDstPort desc) (stVlan desc) (h ++ x.2)
    (stDscp desc)
  y.2.sendDirect p y.1

/-- Replaces the fragments that a server has still to send. -/
def State.setFrags (s : State) (v : Nat) (l : List (Nat × List Byte)) : State :=
  { s with out.frags := s.out.frags.set v l }

/-- A port sends the next fragment of the frame that it carries. -/
def State.nextFragment (s : State) (p : Fin 4) : State :=
  match nth s.out.servers (1 + p.val) none, nth s.out.frags (1 + p.val) [] with
  | some (.frame f), x :: rest => (s.setFrags (1 + p.val) rest).sendFragment p f x
  | _, _ => s

/-- The command port in force at a time (20 R494). -/
def State.cmdPortAt (s : State) (t : Nat) : Nat :=
  match s.pk.oldPorts.reverse.find? fun x => decide (t < x.1) with
  | some x => x.2
  | none => s.fld GLB_CMD_UDP_PORT 15 0

/-- The command port from which a packet of the scheduler leaves: a reply's is the one in force when its packet came, from
which its bound runs (02 R42; 20 R494). -/
def State.replyPort (s : State) (p : Packet) (deadline : Int) : Nat :=
  s.cmdPortAt (if bit p.flags.toNat 6 then s.time else (deadline - classBound p.cls).toNat)

/-- Sends a reply or EVENT as one datagram, which the IP layer fragments beyond the MTU (02 R59; R271). It carries the
802.1Q tag of the request, bit for bit, and leaves from command port `cmd`. -/
def State.sendPacketUdp (s : State) (p : Fin 4) (mac : Long) (ip : Word) (port : Half) (tag : Option Half) (cmd : Nat)
    (d : List Byte) : State :=
  let dst := leBytes 4 ip.toNat
  let u := udpBytes (s.portIp p) dst cmd port.toNat d
  let mtu := s.fld (OUT_ETH_CFG p) 23 10
  let x := s.nextDatagram p
  let eth := taggedHeader (leBytes 6 mac.toNat) (s.portMac p) (tag.map BitVec.toNat) 0x0800
  let ip_ (word : Nat) (b : List Byte) : List Byte :=
    eth ++ ipHeader 0 (s.fld (OUT_ETH_CFG p) 31 24) x.1 word b.length (s.portIp p) dst ++ b
  if u.length + 20 ≤ mtu then x.2.sendDirect p (ip_ 0x4000 u)
  else
    let n := (mtu - 20) / 8 * 8
    (fragments n u).foldl (fun (t : State) y =>
      let more := decide (y.1 + y.2.length < u.length)
      t.sendDirect p (ip_ (0x2000 * b2n more + y.1 / 8) y.2)) x.2

/-- A frame leaves its stream's staging for a server. -/
def State.startFrame (s : State) (v : Nat) (f : Frame) : State :=
  let s := s.setStream f.stream fun x =>
    let rest := x.closed.erase f
    { x with closed := rest, dry := if rest.isEmpty then none else some s.time }
  let s := { s with out.servers := s.out.servers.set v (some (.frame f)) }
  if f.stalled then s.latch OUT_STATUS 0x40 else s

/-- PCIe begins a frame: a buffer that does not fit is written back with ERR, and the frame waits for the next
(R269). -/
def State.startPcie (s : State) (f : Frame) : State :=
  let n := stRing (s.stream f.stream).desc
  let fits : Bool := match s.out.rings[n]? with
    | some r => (match r.bufs with | b :: _ => bufferFits b f.bytes.length | [] => false)
    | none => false
  if fits then s.startFrame 0 f else s.writeBack n 0

/-- A packet leaves the scheduler for a server. -/
def State.startPacket (s : State) (v : Nat) (dest : Origin) (p : Packet) : State :=
  let drop : List OutPacket → List OutPacket := fun l =>
    match l.findIdx? fun x => decide (x.dest = dest) && decide (x.packet = p) with
    | some i => l.eraseIdx i
    | none => l
  { s with out.packets := drop s.out.packets, out.servers := s.out.servers.set v (some (.packet dest p)) }

/-- From a launch's time less its frame's transmission time on, the port starts no other datagram (R273; 12 R317). Safety
telegrams leave as the island queues them. -/
def State.launchHolds (s : State) (p : Nat) : Bool :=
  (nth s.tim.launches p []).any fun x => decide (s.launchIn x.base x.time ≤ s.wireTime p x.frame)

/-- FRAME_TRANSMIT (R272, R273): an idle server starts the eligible frame, reply or EVENT of the earliest deadline; a
port that carries a frame sends its next fragment. The port waits for a launch. -/
def execFrameTransmit (server : Fin 5) (s : State) : Res :=
  let p : Fin 4 := (BitVec.ofNat 2 (server.val - 1)).toFin
  .next (if server.val ≠ 0 ∧ s.launchHolds p then s
    else if (nth s.out.servers server.val none).isSome then (if server.val = 0 then s else s.nextFragment p)
    else match bestBid (s.bids server.val) with
      | none => s
      | some b =>
        match b.item with
        | .packet dest p =>
          let s := s.startPacket server dest p
          match dest with
          | .udp q mac ip port tag => s.sendPacketUdp q mac ip port tag (s.replyPort p b.deadline) p.bytes
          | _ => s
        | .frame f =>
          if server.val = 0 then s.startPcie f
          else ((s.startFrame server f).setFrags server (fragments (s.fragSize p) f.bytes)).nextFragment p)

/-! Delivery (R274). -/

/-- A frame that is delivered now is late (R274). -/
def State.lateNow (s : State) (v : Nat) (f : Frame) : Bool :=
  let allow := if v = 0 then s.fld OUT_PCIE_ALLOW 15 0 else 0
  decide (4 * f.deadline < 4 * s.tim.shot + 5 * allow)

/-- A frame has been delivered: late or stalled records are counted, and capture areas freed (R259, R274). -/
def State.frameDone (s : State) (v : Nat) (f : Frame) : State :=
  let s :=
    if f.stalled then s.bumpBy (SEQ_PROG_STALL f.stream) f.count
    else if s.lateNow v f then
      (((s.bump OUT_LATE).latch OUT_STATUS 0x80).lateRecs f.stream f.count).report (causeKey 0xB 1 v) 8 v true
    else s
  (s.bump (OUT_STREAM_DONE f.stream)).settleFrees f.recs

/-- The endpoint writes a frame into the buffer at the head of its ring (R269). -/
def State.writeFrame (s : State) (f : Frame) : State :=
  let n := stRing (s.stream f.stream).desc
  let s := { s with out.host := s.out.host ++ [(n, s.regN (OUT_DRING_HEAD n), f.bytes)] }
  (s.bump (OUT_DRING_FRAMES n)).writeBack n f.bytes.length

/-- The endpoint writes a reply into the reply buffer at the head of its ring, writes its descriptor back with the
length and DONE, and raises the ring's vector; a buffer that is too short is written back with length 0 and ERR, and the reply waits for the next (02 R58). -/
def State.writeReply (s : State) (n : Fin 4) (p : Packet) : State :=
  match s.pk.rings[n.val]? with
  | none => s
  | some r =>
    let room := match r.replyBufs with | b :: _ => decide (p.bytes.length ≤ b) | [] => false
    let size := 2 ^ s.fld (OUT_CMDQ_SIZE n) 11 8
    let rest := r.replyBufs.drop 1
    let r' := { r with replyBufs := rest, rplHead := (r.rplHead + 1) % size, irqs := r.irqs + 1
                       dry := if rest.isEmpty then some s.time else none }
    let s := { s with
      pk.rings := s.pk.rings.set n.val r'
      out.descs := s.out.descs ++ [(16 + n.val, r.rplHead, if room then p.bytes.length else 0, if room then 1 else 2)] }
    if room then { s with out.host := s.out.host ++ [(16 + n.val, r.rplHead, p.bytes)] }
    else { s with out.packets := (OutPacket.mk (.ring n) s.time p) :: s.out.packets }

/-- FRAME_DELIVERED (R274): what a server carries has been delivered, its last fragment included. -/
def execFrameDelivered (server : Fin 5) (s : State) : Res :=
  .next (match nth s.out.servers server.val none with
    | none => s
    | some item =>
      if ¬ (nth s.out.frags server.val []).isEmpty then s
      else
      let s := { s with out.servers := s.out.servers.set server.val none }
      match item with
      | .frame f => (if server.val = 0 then s.writeFrame f else s).frameDone server f
      | .packet dest p => (match dest with | .ring n => s.writeReply n p | _ => s))

/-! A route goes down (01 R33; R275). -/

/-- Every stream of a route: its program is suspended, and what it has staged or is sending is discarded and
counted in LOST. -/
def State.routeDown (s : State) (v : Nat) : State :=
  let mine (d : List Byte) : Bool := serverOf d == some v
  let s := s.setFrags v []
  let s := match nth s.out.servers v none with
    | some (.frame f) =>
      (({ s with out.servers := s.out.servers.set v none } : State).loseRecs f.stream f.count).settleFrees f.recs
    | some (.packet ..) => { s with out.servers := s.out.servers.set v none }
    | none => s
  let s := s.suspendAll (fun q => q.live && mine (imStream q.image)) 4
  (List.range 64).foldl (fun t p => if mine (t.stream p).desc then t.dropStaged p else t) s

end Sys2Proof.Machine
end

