-- ==== Sys2Proof/Machine/Endpoint.lean ====
section
/-!
DEFINITION. The PCIe endpoint and the Ethernet ports as the outside sees them: ring tails, resets of the link, and
received frames (02 R58, R59; 10 R268 to R271; 11 R292; 19 R474, R478).
-/
namespace Sys2Proof.Machine

/-! Rings (02 R58; 10 R269; 19 R478). -/

/-- Descriptors that a tail posts behind an old one in a ring. -/
def posted (size old tail : Nat) : Nat := (tail + size - old) % size

/-- A command ring pair becomes enabled: its heads start from 0, and it is a session. -/
def State.enableRing (s : State) (n : Fin 4) : State :=
  let s := if (s.session (.ring n)).isSome then s else s.openSession (.ring n)
  { s with pk.rings := upd s.pk.rings n.val fun (r : RingPair) =>
    { r with enabled := true, cmdHead := 0, rplHead := 0, dry := if r.replyBufs.isEmpty then some s.time else none } }

/-- A host write of a command tail with the packets that its new descriptors hold. An index beyond the ring is
no tail. -/
def State.cmdTail (s : State) (n : Fin 4) (tail : Nat) (packets : List (List Byte)) : State :=
  let size := 2 ^ s.fld (OUT_CMDQ_SIZE n) 3 0
  match s.pk.rings[n.val]? with
  | none => s
  | some r =>
    if size ≤ tail then s
    else if ¬ r.enabled ∧ ¬ (r.cmdBase ∧ r.rplBase) then s.setRegN (OUT_CMDQ_TAIL n) tail
    else
      let old := if r.enabled then s.regN (OUT_CMDQ_TAIL n) else 0
      let s := if r.enabled then s else s.enableRing n
      (packets.take (posted size old tail)).foldl (fun t d => t.receive (.ring n) d) (s.setRegN (OUT_CMDQ_TAIL n) tail)

/-- OUT_CMDQ_TAIL (02 R58). -/
def execOutCmdqTail (n : Fin 4) (tail : Word) (packets : List (List Byte)) (s : State) : Res :=
  .next (s.cmdTail n tail.toNat packets)

/-- The reply bounds of a ring's packets do not run while it has no reply buffer (02 R42). -/
def State.endDry (s : State) (n : Fin 4) (since : Nat) : State :=
  let d := s.time - since
  { s with
    pk.ingress := s.pk.ingress.map fun (x : Queued) =>
      if x.origin = .ring n then { x with entered := x.entered + (s.time - max since x.entered) } else x
    out.packets := s.out.packets.map fun (x : OutPacket) => if x.dest = .ring n then { x with deadline := x.deadline + d } else x }

/-- A host write of a reply tail with the lengths of the buffers that it posts. -/
def State.replyTail (s : State) (n : Fin 4) (tail : Nat) (lens : List Nat) : State :=
  let size := 2 ^ s.fld (OUT_CMDQ_SIZE n) 11 8
  match s.pk.rings[n.val]? with
  | none => s
  | some r =>
    if size ≤ tail then s
    else
      let new := lens.take (posted size (s.regN (OUT_RPLQ_TAIL n)) tail)
      let s := match r.dry with
        | some t => if new.isEmpty then s else s.endDry n t
        | none => s
      let r' := { r with replyBufs := r.replyBufs ++ new, dry := if new.isEmpty then r.dry else none }
      { s with pk.rings := s.pk.rings.set n.val r' }.setRegN (OUT_RPLQ_TAIL n) tail

/-- OUT_RPLQ_TAIL (02 R58). -/
def execOutRplqTail (n : Fin 4) (tail : Word) (bufLens : List Nat) (s : State) : Res :=
  .next (s.replyTail n tail.toNat bufLens)

/-- A host write of a data ring's tail with the buffers that it posts: a disabled ring whose base has been
written becomes enabled, from head 0. -/
def State.dataTail (s : State) (n : Fin 16) (tail : Nat) (bufs : List RingBuf) : State :=
  let size := s.ringSize n
  match s.out.rings[n.val]? with
  | none => s
  | some r =>
    if size ≤ tail then s
    else if ¬ r.enabled ∧ ¬ r.baseSet then s.setRegN (OUT_DRING_TAIL n) tail
    else
      let old := if r.enabled then s.regN (OUT_DRING_TAIL n) else 0
      let s := if r.enabled then s else s.setRegN (OUT_DRING_HEAD n) 0
      let r' := { r with enabled := true, bufs := r.bufs ++ bufs.take (posted size old tail) }
      { s with out.rings := s.out.rings.set n.val r' }.setRegN (OUT_DRING_TAIL n) tail

/-- OUT_DRING_TAIL (R269; 19 R478). -/
def execOutDringTail (n : Fin 16) (tail : Word) (bufs : List RingBuf) (s : State) : Res :=
  .next (s.dataTail n tail.toNat bufs)

/-- DRING_IRQ (R269): IRQ_FRAMES write-backs, or IRQ_US since the first that is not signalled. -/
def execDringIrq (n : Fin 16) (s : State) : Res :=
  .next (match s.out.rings[n.val]? with
    | none => s
    | some r =>
      let us := s.fld (OUT_DRING_CFG n) 31 24
      if r.unsig = 0 ∨ (r.unsig < s.fld (OUT_DRING_CFG n) 23 16 ∧ us ≠ 0 ∧ s.time < r.firstAt + ticksUs us) then s
      else { s with out.rings := s.out.rings.set n.val { r with irqs := r.irqs + 1, unsig := 0 } })

/-- Registers back at their reset values. -/
def State.resetRegs (s : State) (l : List Nat) : State := l.foldl (fun t a => t.setReg a (regReset a)) s

/-- The endpoint's ring state is reset (19 R478): a frame that is not yet written back stays staged and lacks
credit; packets not yet taken stay in host memory, and replies in their caches. -/
def State.resetRings (s : State) : State :=
  let s := match nth s.out.servers 0 none with
    | some (.frame f) =>
      let s := { s with out.servers := s.out.servers.set 0 none }
      s.setStream f.stream fun x => { x with closed := f :: x.closed }
    | some (.packet ..) => { s with out.servers := s.out.servers.set 0 none }
    | none => s
  let s := s.resetRegs (((List.range 4).flatMap fun n =>
      [OUT_CMDQ_BASE n, OUT_CMDQ_BASE n + 4, OUT_CMDQ_SIZE n, OUT_CMDQ_TAIL n, OUT_RPLQ_BASE n, OUT_RPLQ_BASE n + 4,
        OUT_RPLQ_TAIL n]) ++
    (List.range 16).flatMap fun n =>
      [OUT_DRING_BASE n, OUT_DRING_BASE n + 4, OUT_DRING_CFG n, OUT_DRING_TAIL n, OUT_DRING_HEAD n])
  let s := { s with
    pk.rings := PacketUnit.reset.rings
    pk.ingress := s.pk.ingress.filter fun x => match x.origin with | .ring _ => false | _ => true
    pk.sessions := s.pk.sessions.map fun (x : Session) =>
      match x.origin with | .ring _ => { x with mask := 1, stage := none } | _ => x
    out.packets := s.out.packets.filter fun x => match x.dest with | .ring _ => false | _ => true
    out.rings := Output.reset.rings }
  (List.range 16).foldl State.markDry s

/-- FUNCTION_LEVEL_RESET (19 R478). -/
def execFunctionLevelReset (s : State) : Res := .next s.resetRings

/-- PCIE_PERST (19 R478; R275; 11 R282, R292): the endpoint's rings are reset and the link goes down, with its
capacity. -/
def execPciePerst (s : State) : Res :=
  .next (
    let s := { s.resetRings with out.pcieUp := false }
    (s.routeDown 0).readmit)

/-- PCIE_LINK_TRAINED (R268; 11 R292; 19 R474): the link comes up with a width and a speed in GT/s; a change of
capacity runs admission again. -/
def execPcieLinkTrained (width speed : Nat) (s : State) : Res :=
  .next (
    if ¬ [1, 2, 4, 8].contains width ∨ ¬ [2, 5, 8, 16, 32].contains speed ∨ s.boot.phase = .hardware ∨ s.boot.held ∨
        s.tim.lost.contains .pcieRefclk then s
    else
      let old := s.pcieCapacity
      let s := { s with out.pcieUp := true, out.pcieWidth := width, out.pcieSpeed := speed }
      let s := s.endCause (causeKey 1 1 3)
      if s.pcieCapacity = old then s else s.readmit)

/-! Received Ethernet frames (R271; 02 R59). -/

/-- One bit of the reflected CRC-32 register of IEEE 802.3. -/
def fcsBit (c : Word) : Word := if c.getLsbD 0 then (c >>> 1) ^^^ 0xEDB88320#32 else c >>> 1

/-- One byte through it. -/
def fcsByte (c : Word) (b : Byte) : Word :=
  let x := c ^^^ b.setWidth 32
  fcsBit (fcsBit (fcsBit (fcsBit (fcsBit (fcsBit (fcsBit (fcsBit x)))))))

/-- The frame check sequence of IEEE 802.3. -/
def etherFcs (l : List Byte) : Word := l.foldl fcsByte 0xFFFFFFFF#32 ^^^ 0xFFFFFFFF#32

/-- The ARP reply that a port sends (R271; RFC 826), padded to the shortest frame. -/
def State.arpReply (s : State) (p : Fin 4) (mac : Long) (ip : Word) : List Byte :=
  let m := leBytes 6 mac.toNat
  let d := etherHeader m (s.portMac p) 0 0x0806 ++ beBytes 2 1 ++ beBytes 2 0x0800 ++ [6, 4] ++ beBytes 2 2 ++
    s.portMac p ++ s.portIp p ++ m ++ leBytes 4 ip.toNat
  d ++ List.replicate (60 - d.length) 0

/-- ARP_REQUEST (R271): a request for the port address is answered; any other is discarded and counted. The
addresses are given as on the line, first byte lowest. -/
def State.arpAsked (s : State) (p : Fin 4) (target : Word) (mac : Long) (ip : Word) : State :=
  if ¬ nth s.out.ethUp p.val false then s
  else if target = s.reg (OUT_ETH_IP p) then s.sendDirect p (s.arpReply p mac ip)
  else s.bump (OUT_ETH_RXDROP p)

/-- ARP_REQUEST (R271). -/
def execArpRequest (port : Fin 4) (targetIp : Word) (senderMac : Long) (senderIp : Word) (s : State) : Res :=
  .next (s.arpAsked port targetIp senderMac senderIp)

/-- A received frame behind its checks: the sender's MAC, its tag, its type and its data. -/
structure EtherIn where
  mac  : Long
  tag  : Option Half
  type : Nat
  data : List Byte
  deriving DecidableEq, Repr

/-- Reads a frame with its FCS: none for a bad FCS or another destination (R271). -/
def State.readFrame (s : State) (p : Fin 4) (f : List Byte) : Option EtherIn :=
  let n := f.length - 4
  let b := f.take n
  if f.length < 18 ∨ etherFcs b ≠ BitVec.ofNat 32 (field f n 4) ∨
      (b.take 6 ≠ s.portMac p ∧ b.take 6 ≠ List.replicate 6 0xFF) then none
  else
    let mac := BitVec.ofNat 48 (field b 6 6)
    if beNat (slice b 12 2) = 0x8100 ∧ 18 ≤ n then
      some { mac := mac, tag := some (BitVec.ofNat 16 (beNat (slice b 14 2))), type := beNat (slice b 16 2), data := b.drop 18 }
    else some { mac := mac, tag := none, type := beNat (slice b 12 2), data := b.drop 14 }

/-- A datagram behind the checks of IPv4 and UDP: source address and port, destination port, data (R271). -/
def State.readDatagram (s : State) (p : Fin 4) (d : List Byte) : Option (Word × Half × Nat × List Byte) :=
  let total := beNat (slice d 2 2)
  let u := slice d 20 (total - 20)
  let n := beNat (slice u 4 2)
  let sum := beNat (slice u 6 2)
  let pseudo := slice d 12 8 ++ [0, 17] ++ beBytes 2 n
  if nth d 0 0 ≠ 0x45 ∨ total < 28 ∨ d.length < total ∨ beNat (slice d 6 2) % 0x4000 ≠ 0 ∨
      fold16 (wordSum (d.take 20)) ≠ 0xFFFF ∨ nth d 9 0 ≠ 17 ∨ slice d 16 4 ≠ s.portIp p ∨ n < 8 ∨ u.length < n ∨
      (sum ≠ 0 ∧ fold16 (wordSum (pseudo ++ u.take n)) ≠ 0xFFFF) then none
  else some (BitVec.ofNat 32 (field d 12 4), BitVec.ofNat 16 (beNat (slice u 0 2)), beNat (slice u 2 2), slice u 8 (n - 8))

/-- ETH_FRAME_RECEIVED (R271): a frame, with its FCS, is filtered. A command datagram enters ingress; ARP
requests are answered; a datagram to the island's telegram port on ETH0 or ETH1 reaches XC15; PTP datagrams have
a row of their own with their stamps. Everything else is discarded and counted. -/
def execEthFrameReceived (p : Fin 4) (frame : List Byte) (s : State) : Res :=
  if ¬ nth s.out.ethUp p.val false then .next s
  else match s.readFrame p frame with
    | none => .next (s.bump (OUT_ETH_RXDROP p))
    | some e =>
      if e.type = 0x0806 ∧ slice e.data 0 8 = [0, 1, 8, 0, 6, 4, 0, 1] then
        .next (s.arpAsked p (BitVec.ofNat 32 (field e.data 24 4)) (BitVec.ofNat 48 (field e.data 8 6))
          (BitVec.ofNat 32 (field e.data 14 4)))
      else if e.type ≠ 0x0800 then .next (s.bump (OUT_ETH_RXDROP p))
      else match s.readDatagram p e.data with
        | none => .next (s.bump (OUT_ETH_RXDROP p))
        | some (ip, sport, dport, d) =>
          if dport = s.fld GLB_CMD_UDP_PORT 15 0 then
            .next (s.receive (.udp p e.mac ip sport e.tag) d)
          else if dport = 319 ∨ dport = 320 then .next s
          else if s.sb ∧ p.val < 2 ∧ dport = pbPort s.saf.active then
            execSafetyTelegram (BitVec.ofNat 1 p.val).toFin d s
          else .next (s.bump (OUT_ETH_RXDROP p))

end Sys2Proof.Machine
end

