-- ==== Sys2Proof/Machine/Clocks.lean ====
section
/-!
DEFINITION. Loss and return of clocks (01 R33; 05 R137; 10 R275; 11 R292; 12 R297, R303, R308; 17 R523; 18 R444).
-/
namespace Sys2Proof.Machine

/-- The object of a clock in a cause key (17 R523). -/
def clockObject : Clock → Nat
  | .refin => 0
  | .xsys => 1
  | .pcieRefclk => 3
  | .ethRefclk => 4
  | .clePll => 5
  | .hkaPll => 6
  | .dramPll c => 0x10 + c
  | .ethLane p => 0x20 + p
  | .iflLane p => 0x30 + p
  | .xsi => 0

/-- A clock counts as lost. -/
def State.clockLost (s : State) (c : Clock) : Bool :=
  match c with
  | .refin => !s.tim.refin
  | .xsys => !s.tim.xsys
  | c => s.tim.lost.contains c

/-- The incident of a lost clock (17 R523). -/
def State.clockReport (s : State) (c : Clock) : State := s.report (causeKey 1 1 (clockObject c)) 0 0 false

/-- REFIN is lost: the timing PLL runs from XSYS and the warm-up flag clears. A worker does not use REFIN, and only
records the incident (18 R444). -/
def State.loseRefin (s : State) : State :=
  let s := { s with tim.refin := false }
  if s.role = 2 then s.clockReport .refin
  else
    let s := { s with tim.onRef := false }.setWarm false 1
    if s.tim.xsys then s.clockReport .refin else s.bothLost

/-- XSYS is lost: the PLLs run from the timing PLL. -/
def State.loseXsys (s : State) : State :=
  let s := { s with tim.xsys := false }
  if s.hasRef then s.clockReport .xsys else s.bothLost

/-- An Ethernet port goes down: its streams are suspended, and admission runs on what is left. -/
def State.ethStop (s : State) (p : Nat) : State :=
  if nth s.out.ethUp p false then { s with out.ethUp := s.out.ethUp.set p false }.routeDown (1 + p) else s

/-- An enabled port whose clocks are there is up from READY on (19 R472). -/
def State.ethStart (s : State) (p : Nat) : State :=
  let up := bit (s.regN (OUT_ETH_CFG p)) 0 && s.boot.phase == .ready && !s.tim.lost.contains .ethRefclk &&
    (if h : p < 4 then !s.tim.lost.contains (.ethLane ⟨p, h⟩) else false)
  if up then { s with out.ethUp := s.out.ethUp.set p true } else s

/-- The Ethernet reference is lost: ETH0 to ETH3 go down and the PTP bases stop (12 R308). -/
def State.loseEth (s : State) : State :=
  let s := (s.clockReport .ethRefclk)
  let s := { s with tim.ptp := s.tim.ptp.map fun (b : PtpBase) => { b.setCounting false with stopped := true } }
  ((List.range 4).foldl State.ethStop s).readmit

/-- CLOCK_LOSS (01 R33). -/
def execClockLoss (clock : Clock) (s : State) : Res :=
  .next (
    if s.clockLost clock then s
    else match clock with
      | .refin => s.loseRefin
      | .xsys => s.loseXsys
      | .xsi => if s.sb then { s with tim.lost := .xsi :: s.tim.lost }.islandReset 10 else s
      | c =>
        let s := { s with tim.lost := c :: s.tim.lost }
        match c with
        | .dramPll n => (s.clockReport c).failChannel n
        | .pcieRefclk => (({ s.clockReport c with out.pcieUp := false } : State).routeDown 0).readmit
        | .ethRefclk => s.loseEth
        | .ethLane p => ((s.clockReport c).ethStop p).readmit
        | .iflLane p => (s.clockReport c).linkDown p
        | .clePll => ({ s.clockReport c with cle.pllLost := true } : State).loopsSafe
        | .hkaPll => { s.clockReport c with hka.pllLost := true }
        | _ => s)

/-- CLOCK_RETURN (01 R33): the clock is valid again. REF_LOCK brings the timing PLL back to REFIN, and
PCIE_LINK_TRAINED and BLOCK_LOCK bring links up. A failed DRAM channel stays failed (15 R383). -/
def execClockReturn (clock : Clock) (s : State) : Res :=
  .next (
    if ¬ s.clockLost clock then s
    else match clock with
      | .refin =>
        let s := { s with tim.refin := true }
        (if s.role = 2 then s else s.bothEnded).endCause (causeKey 1 1 0)
      | .xsys => ({ s with tim.xsys := true } : State).bothEnded.endCause (causeKey 1 1 1)
      | .xsi => { s with tim.lost := s.tim.lost.erase .xsi }
      | c =>
        let s := ({ s with tim.lost := s.tim.lost.erase c } : State).endCause (causeKey 1 1 (clockObject c))
        match c with
        | .ethRefclk =>
          let s := { s with tim.ptp := s.tim.ptp.map fun (b : PtpBase) => b.setCounting s.tim.running }
          ((List.range 4).foldl State.ethStart s).readmit
        | .ethLane p => (s.ethStart p).readmit
        | .clePll => State.dacsSafe { s with cle.pllLost := false }
        | .hkaPll => { s with hka.pllLost := false }
        | _ => s)

end Sys2Proof.Machine
end

