-- ==== Sys2Proof/Machine/RegWrite.lean ====
section
/-!
DEFINITION. Writes of registers: what each value is checked for, what the registers of a packet then hold, and what
a write starts (20 R485 to R489, R494; and the register tables of every chapter).
-/
namespace Sys2Proof.Machine

/-! Checks by block. A check answers a status; OK passes. It is made on the values that the whole packet would
leave in force (R486): `s` is the state before the packet, `t` the state with those values. -/

/-- OK, or a status where a condition fails. -/
def unless_ (ok : Bool) (status : Nat := BAD_PARAM) : Nat := if ok then OK else status

/-- The first status that is not OK. -/
def firstStatus (l : List Nat) : Nat := (l.find? (· != OK)).getD OK

/-- The first instance of an array that an address names passes its check. -/
def onInst (a base count stride : Nat) (f : Nat → Nat) : Nat :=
  match inst a base count stride with
  | some n => f n
  | none => OK

/-- GLB_CMD_UDP_PORT (20 R494). -/
def State.portFree (s : State) (port : Nat) : Bool :=
  port != 0 && port != 319 && port != 320 &&
    s.present.all (fun p => stRoute (imStream p.2.image) != 1 || stSrcPort (imStream p.2.image) != port) &&
    !(s.sb && pbPort s.saf.active == port)

def State.ruleGlb (_s t : State) (a : Nat) : Nat :=
  if a = GLB_CMD_UDP_PORT then unless_ (t.portFree (t.fld a 15 0)) else OK

/-- A register that selects a table names a committed one, or none (04 R93, 06 R166, 13 R335). -/
def State.selects (t : State) (kind id : Nat) (ok : List Byte → Bool) : Bool :=
  id == 0xFFFF || (match t.tableData kind id with | some d => ok d | none => false)

/-- Block 0x2 (04 R89, R91, R93, R95, R97, R110, R113, R114). -/
def State.ruleEmt (s t : State) (a : Nat) : Nat :=
  if a = EMT_MATRIX_CFG then
    firstStatus [unless_ (within (t.fld a 31 16) 10 2000 && within (t.fld a 15 0) 10 2000),
      unless_ (t.keepsRule State.matrixRule) STATE]
  else if a = EMT_MATRIX_LINES_A ∨ a = EMT_MATRIX_LINES_K then unless_ (t.keepsRule State.matrixRule) STATE
  else if a = EMT_MATRIX_WMAX then
    firstStatus [unless_ (decide (40 ≤ t.fld a 15 0)), unless_ (t.keepsRule State.matrixRule) STATE]
  else if a = EMT_CHAIN_CFG then
    unless_ (decide (24 ≤ t.fld a 31 24) && within (t.fld a 13 8) 1 32 && decide (t.fld a 5 0 ≤ 32))
  else if a = EMT_1W_CFG then unless_ (within (t.fld a 7 0) 5 100)
  else firstStatus [
    onInst a (EMT_FIRE_TIME 0) 8 4 fun _ => unless_ (decide (40 ≤ t.fld a 31 16)),
    onInst a (EMT_FIRE_MODE 0) 8 4 fun _ =>
      firstStatus [unless_ (t.fld a 19 16 == 0 || decide (8 ≤ t.fld a 19 16)),
        unless_ (s.fld a 1 0 == t.fld a 1 0 || t.keepsRule State.groupRule) STATE],
    onInst a (EMT_COMP_SEL 0) 4 4 fun g => unless_ (t.selects 6 (t.fld a 15 0) fun d => field d 0 1 == g) NOT_FOUND,
    onInst a (EMT_BUDGET_RATED 0) 4 16 fun g =>
      let refill := t.fld (EMT_BUDGET_REFILL g) 23 0
      firstStatus [unless_ (1 ≤ t.fld a 23 0 && (decide (refill ≤ t.fld a 23 0) || s.fld (EMT_BUDGET_REFILL g) 23 0 != refill)),
        unless_ (t.keepsRule State.drawRule) STATE],
    onInst a (EMT_BUDGET_REFILL 0) 4 16 fun g =>
      firstStatus [unless_ (within (t.fld a 23 0) 1 (t.fld (EMT_BUDGET_RATED g) 23 0)), unless_ (t.keepsRule State.drawRule) STATE],
    onInst a (EMT_BUDGET_OVERDRIVE 0) 4 16 fun _ => firstStatus [unless_ (within (t.fld a 15 0) 0x100 0x200),
      unless_ (t.keepsRule State.drawRule) STATE],
    onInst a (EMT_OT_CFG 0) 4 4 fun _ => unless_ (decide (t.fld a 31 24 ≤ 0x17) || t.fld a 31 24 == 0xFF) ]

/-- Block 0x3 (05 R124, R139, R142). -/
def State.ruleCle (s t : State) (a : Nat) : Nat :=
  if a = CLE_SPI_CFG then unless_ (decide (3 ≤ t.fld a 7 0))
  else firstStatus [
    onInst a (CLE_LOOP_SP 0) 16 4 fun k => unless_ (!s.cascaded k) STATE,
    onInst a (CLE_PWM_CFG 0) 16 4 fun _ => unless_ (t.fld a 31 30 != 3 && decide (100 ≤ t.fld a 15 0)),
    onInst a (CLE_ENC_CFG 0) 2 32 fun _ => unless_ (t.fld a 5 4 != 3),
    onInst a (CLE_ENC_PFS 0) 2 32 fun _ => unless_ (within (t.regN a) 1 0x7FFFFFFF),
    onInst a (CLE_ENC_VFS 0) 2 32 fun _ => unless_ (within (t.regN a) 1 0x7FFFFFFF) ]

/-- Block 0x4 (06 R145, R146, R166, R174 to R177). -/
def State.ruleHch (_s t : State) (a : Nat) : Nat :=
  if a = HCH_CAL_CFG then unless_ (within (t.fld a 23 19) 12 20 && t.fld a 7 0 != 0)
  else if a = HCH_WALK_CFG then unless_ (within (t.fld a 7 0) 2 64)
  else firstStatus [
    onInst a (HCH_THRESH 0) 512 4 fun _ => unless_ (codesOk (t.fld a 9 0) (t.fld a 25 16)),
    onInst a (HCH_CFG 0) 512 4 fun _ => unless_ (within (t.fld a 11 8) 1 8),
    onInst a (HCH_WALK_SEL 0) 64 4 fun _ => unless_ (t.selects 7 (t.fld a 15 0) fun _ => true) NOT_FOUND ]

/-- The configuration registers of a capture unit as offsets, but for WFD_CAP_CFG (09 R249). -/
def capConfig : List Nat := [0x04, 0x08, 0x0C, 0x10, 0x28, 0x2C, 0x30]

/-- Block 0x7 (09 R234, R244, R249 to R252): a unit's configuration changes only while it is IDLE, but a write
of DISARM passes in every state. -/
def State.ruleWfd (_s t : State) (a v : Nat) : Nat :=
  if a = WFD_ROT_CFG then unless_ (within (t.fld a 7 0) 1 100)
  else if WFD_CAP 0 0 ≤ a ∧ a < WFD_CAP 16 0 then
    let u := (a - WFD_CAP 0 0) / 64
    let off := (a - WFD_CAP 0 0) % 64
    let limits := avgLimits (t.capAvg u) (t.capPre u) (t.capPost u)
    let idle := (t.capUnit u).st == .idle
    if off = 0 then
      firstStatus [unless_ (decide (bits v 31 28 ≤ 8) && (!idle || limits)), unless_ (idle || bit v 24) STATE]
    else if capConfig.contains off then
      firstStatus [
        unless_ (if off = 0x0C then decide (t.capPre u ≤ 61440) && limits
          else if off = 0x10 then t.capPost u != 0 && limits
          else if off = 0x28 ∨ off = 0x30 then v % 4096 == 0
          else true),
        unless_ idle STATE ]
    else OK
  else onInst a (WFD_FILT_CTRL 0) 16 4 fun _ => unless_ (within (t.fld a 5 0) 1 32)

/-- Some program that runs delivers to a route, a ring or a port (10 R276). -/
def State.routeInUse (s : State) (route n : Nat) : Bool :=
  s.present.any fun p => p.2.live && stRoute (imStream p.2.image) == route && stRing (imStream p.2.image) == n

/-- A data ring takes writes: it is disabled (19 R478), or no program that runs delivers to it (10 R276). -/
def State.ringFree (s : State) (n : Nat) : Bool :=
  !(s.out.rings[n]?).any DataRing.enabled || !s.routeInUse 0 n

/-- Admission passes with the values in force (11 R279, R291). -/
def State.admits (t : State) : Bool := (t.admissionNow true).isNone

/-- Block 0x8 (02 R58; 10 R276, R278; 11 R294; 20 R500). -/
def State.ruleOut (_s t : State) (a v : Nat) : Nat :=
  if a = ADM_AMBIENT then firstStatus [unless_ (within (t.regN a) 1 625000000), unless_ t.admits ADM_REFUSED]
  else if a = ADM_STAGE_SIZE then firstStatus [unless_ (t.fld a 15 0 != 0), unless_ t.admits ADM_REFUSED]
  else if a = ADM_STAGE_BASE_LO then unless_ (v % 65536 == 0)
  else firstStatus [
    onInst a (OUT_CMDQ_SIZE 0) 4 32 fun _ => unless_ (within (t.fld a 11 8) 4 12 && within (t.fld a 3 0) 4 12),
    onInst a (OUT_CMDQ_TAIL 0) 4 32 fun n => unless_ (decide (t.fld a 11 0 < 2 ^ t.fld (OUT_CMDQ_SIZE n) 3 0)),
    onInst a (OUT_RPLQ_TAIL 0) 4 32 fun n => unless_ (decide (t.fld a 11 0 < 2 ^ t.fld (OUT_CMDQ_SIZE n) 11 8)),
    onInst a (OUT_DRING_BASE 0) 16 32 fun n => firstStatus [unless_ (v % 16 == 0), unless_ (t.ringFree n) STATE],
    onInst a (OUT_DRING_BASE 0 + 4) 16 32 fun n => unless_ (t.ringFree n) STATE,
    onInst a (OUT_DRING_CFG 0) 16 32 fun n =>
      firstStatus [unless_ (t.fld a 23 16 != 0 && within (t.fld a 3 0) 4 12), unless_ (t.ringFree n) STATE],
    onInst a (OUT_DRING_TAIL 0) 16 32 fun n => unless_ (decide (t.fld a 11 0 < 2 ^ t.fld (OUT_DRING_CFG n) 3 0)),
    onInst a (OUT_ETH_MAC_LO 0) 4 32 fun p => unless_ (!t.routeInUse 1 p) STATE,
    onInst a (OUT_ETH_MAC_HI 0) 4 32 fun p => unless_ (!t.routeInUse 1 p) STATE,
    onInst a (OUT_ETH_IP 0) 4 32 fun p => unless_ (!t.routeInUse 1 p) STATE,
    onInst a (OUT_ETH_CFG 0) 4 32 fun p =>
      firstStatus [
        unless_ (t.fld a 31 24 != 0 && within (t.fld a 23 10) 576 9000 && t.fld a 5 4 != 3 &&
          !(t.fld a 5 4 == 2 && t.fld a 2 2 == 1)),
        unless_ (!t.routeInUse 1 p) STATE ] ]

/-- Block 0x9 (12 R320). -/
def State.ruleTim (_s t : State) (a : Nat) : Nat :=
  if a = TIM_WARM_CFG then unless_ (t.fld a 31 24 != 0)
  else onInst a (TIM_PTP_CFG 0) 4 64 fun _ => unless_ (t.fld a 23 16 != 0)

/-- An input's configuration as HK_CHANNEL checks it (13 R325, R331, R344). -/
def State.ruleInput (t : State) (a n : Nat) : Nat :=
  let curve := t.fld a 31 24
  let on := t.fld a 23 23 == 1
  let ua := t.fld a 20 10
  firstStatus [
    unless_ (hkCurve curve && (if on then within ua 10 2000 else ua == 0) && (!hkOhmic curve || on) &&
      !(t.fld a 7 7 == 1 && n % 2 == 1) && !within (t.fld a 4 0) 24 30),
    unless_ (curve != 0x40 || (t.table 8 (t.fld (HKA_USER_SEL n) 15 0)).isSome) NOT_FOUND ]

/-- The step table ascends strictly from 1.0 and ends at most at 4.0 (14 R353). -/
def State.stepsOk (t : State) : Bool :=
  let n := t.stepCount
  (List.range (n - 1)).all fun i =>
    decide ((if i = 0 then 0x100 else t.stepFactor i) < t.stepFactor (i + 1)) && decide (t.stepFactor (i + 1) ≤ 0x400)

/-- The thresholds of a zone are in order (14 R351). -/
def State.zoneOk (t : State) (z : Nat) : Bool :=
  thermThreshOk (signed 16 (t.fld (THM_ZONE_A z) 15 0)) (signed 16 (t.fld (THM_ZONE_A z) 31 16))
    (signed 16 (t.fld (THM_ZONE_B z) 15 0))

/-- Block 0xA (13 R342 to R344; 14 R350, R351, R353, R367, R368). -/
def State.ruleHka (s t : State) (a : Nat) : Nat :=
  if a = HKA_SEQ_CFG then unless_ (t.fld a 15 8 != 0)
  else if a = HKA_INJ_CFG then unless_ (decide (t.fld a 31 30 ≤ 1) && hkCode (t.fld a 23 16))
  else if a = HKA_ROT_CFG then unless_ (t.fld a 7 0 != 0)
  else if a = THM_CFG then
    firstStatus [
      unless_ (t.fld a 31 24 != 0 && within (t.fld a 23 16) 10 200 && within (t.fld a 3 0) 1 8 && t.stepsOk),
      unless_ (s.stepCount == t.stepCount || t.admits) ADM_REFUSED ]
  else firstStatus [
    onInst a (HKA_IN_CFG 0) 24 4 fun n => t.ruleInput a n,
    onInst a (HKA_USER_SEL 0) 24 4 fun _ => unless_ (t.selects 8 (t.fld a 15 0) fun _ => true) NOT_FOUND,
    onInst a (THM_STEP_TAB 1) 7 4 fun _ => firstStatus [unless_ t.stepsOk, unless_ t.admits ADM_REFUSED],
    onInst a (THM_ZONE_A 0) 8 8 fun z => unless_ (t.zoneOk z),
    onInst a (THM_ZONE_B 0) 8 8 fun z => unless_ (t.zoneOk z),
    onInst a (THM_SUBST 0) 24 4 fun n =>
      let m := t.fld a 7 0
      firstStatus [unless_ (substOk n m),
        unless_ ((t.sensor n).failed && (m == 0xFF || !(t.sensor m).failed)) STATE] ]

/-- Block 0xB (14 R364, R367, R369). -/
def State.ruleCal (_s t : State) (a : Nat) : Nat :=
  if a = CAL_CFG then
    unless_ (within (t.fld a 31 24) 1 50 && t.fld a 23 16 != 0 && within (t.fld a 15 8) 5 200 && t.fld a 5 0 != 0)
  else onInst a (CAL_TMO 0) 6 4 fun _ => unless_ (within (t.fld a 15 0) 10 10000)

/-- Block 0xC (15 R384). -/
def State.ruleMem (_s t : State) (a v : Nat) : Nat :=
  if a = MEM_CFG then unless_ (within (t.fld a 7 0) 2 50)
  else if a = MEM_SCRUB_CFG then unless_ (t.fld a 15 8 != 0 && t.fld a 7 0 != 0)
  else if a = MEM_NR_CFG then unless_ (decide (t.fld a 10 0 ≤ 1024))
  else if a = MEM_SNAP_BASE_LO then unless_ (v % 2 ^ 20 == 0)
  else firstStatus ([(0, 0), (0, 1), (1, 0), (1, 1)].map fun x =>
    onInst a (MEM_DLY x.1 x.2 0 0) 20 4 fun _ =>
      unless_ (((t.dramChan x.1).paused && (t.dramChan x.1).repairs.isNone) || (t.dramChan x.1).failed) STATE)

/-- Blocks 0xE and 0xF (17 R436; 18 R438, R460; 19 R483). -/
def State.ruleRep (_s t : State) (a : Nat) : Nat :=
  if a = REP_CFG then unless_ (decide (10 ≤ t.fld a 31 16) && within (t.fld a 15 8) 20 100) else OK

def State.ruleIfl (s t : State) (a : Nat) : Nat :=
  if a = IFL_CFG then
    firstStatus [unless_ (t.role != 3 && within (t.fld a 23 20) 6 14), unless_ (s.role == t.role || !s.anyLive) STATE]
  else if a = BOOT_CFG then unless_ (decide (60 ≤ t.fld a 31 16))
  else OK

/-- The check of a value written at an address. -/
def State.regRule (s t : State) (a v : Nat) : Nat :=
  match a / 0x10000 with
  | 0x0 => s.ruleGlb t a
  | 0x2 => s.ruleEmt t a
  | 0x3 => s.ruleCle t a
  | 0x4 => s.ruleHch t a
  | 0x7 => s.ruleWfd t a v
  | 0x8 => s.ruleOut t a v
  | 0x9 => s.ruleTim t a
  | 0xA => s.ruleHka t a
  | 0xB => s.ruleCal t a
  | 0xC => s.ruleMem t a v
  | 0xE => s.ruleRep t a
  | 0xF => s.ruleIfl t a
  | _ => OK

/-! Writing. -/

/-- A word written at an address. -/
abbrev RegWrite := Nat × Word

/-- Consecutive registers from an address. -/
def regWrites (a : Nat) (values : List Word) : List RegWrite :=
  values.zipIdx.map fun x => (a + 4 * x.2, x.1)

/-- The RW bits that a write of an address takes: the fields of a capture unit that is not IDLE stay as they
are (09 R252). -/
def State.takenBits (s : State) (a : Nat) : Word :=
  match regDesc a with
  | none => 0
  | some d =>
    match inst a (WFD_CAP_CFG 0) 16 64 with
    | some u => if (s.capUnit u).st = .idle then BitVec.ofNat 32 d.rw else 0
    | none => BitVec.ofNat 32 d.rw

/-- Stores the RW bits of a word (R485). -/
def State.poke (s : State) (w : RegWrite) : State :=
  let m := s.takenBits w.1
  if m = 0 then s else s.setReg w.1 ((s.reg w.1 &&& ~~~ m) ||| (w.2 &&& m))

/-- A device that is no worker has ID 0, no parent and the D_tree 0 (18 R438, R446): the link to its former parent begins
again. -/
def State.leaveTree (s : State) : State :=
  if s.role = 2 then s
  else
    let s := (List.range 4).foldl (fun t p =>
      if (t.port p).parent then (t.linkDown p).setPort p fun x => { x with parent := false, state := 1 } else t) s
    let old : Int := match s.ifl.dtree with | x :: _ => x.2 | [] => 0
    { s with ifl.dev := 0, ifl.hops := 0, ifl.parentPort := 0, ifl.parentD := 0, ifl.parentWarm := false
             ifl.joining := false
             ifl.dtree := if old = 0 then s.ifl.dtree else ((s.tim.shot + 64, 0) :: s.ifl.dtree).take 4096 }

/-- The ports of the link that the role and PORT_EN enable (18 R438, R460). -/
def State.linkPorts (s : State) : State :=
  (List.range 4).foldl (fun t p =>
    if t.role ≠ 0 ∧ bit (t.regN IFL_CFG) p then
      t.setPort p fun x => { x with state := if x.state = 0 then 1 else x.state }
    else (t.linkDown p).setPort p fun x => { x with state := 0 }) s.leaveTree

/-- An Ethernet port's configuration changed (10 R278, 11 R292). -/
def State.ethSet (t : State) (p old : Nat) : State :=
  let new := t.regN (OUT_ETH_CFG p)
  if bit old 0 = bit new 0 ∧ bit old 2 = bit new 2 then t
  else (if bit new 0 then t.ethStart p else t.ethStop p).readmit

/-- What a write of a register starts beside the stored bits; `s` is the state before the packet. -/
def State.regEffect (s t : State) (w : RegWrite) : State :=
  let a := w.1
  let v := w.2.toNat
  let at_ (base count stride : Nat) (f : Nat → State → State) (t : State) : State :=
    match inst a base count stride with | some n => f n t | none => t
  let back (t : State) : State := t.setReg a (s.reg a)
  match a / 0x10000 with
  | 0x0 =>
    if a = GLB_CMD_UDP_PORT ∧ s.fld a 15 0 ≠ t.fld a 15 0 then
      { t with pk.oldPorts := ((s.time, s.fld a 15 0) :: s.pk.oldPorts).take 64 }
    else t
  | 0x2 =>
    if a = EMT_STATUS then t.clearOt v
    else at_ (EMT_BUDGET_RATED 0) 4 16 (fun g t => t.limitBudget g)
      (at_ (EMT_BUDGET_OVERDRIVE 0) 4 16 (fun g t => t.limitBudget g) t)
  | 0x3 =>
    at_ (CLE_LOOP_SP 0) 16 4 (fun k t => (back t).setPoint k w.2.toInt)
      (at_ (CLE_ENC_CFG 0) 2 32 (fun n t =>
        { t with cle.enc := upd t.cle.enc n fun (e : Encoder) => { e with armed := t.fld a 5 4 == 1 } })
        (at_ (CLE_DAC_SAFE 0) 6 4 (fun n t => t.dacSafe n) t))
  | 0x4 => at_ (HCH_THRESH 0) 512 4 (fun c t => (back t).setThreshold c (t.fld a 9 0) (t.fld a 25 16)) t
  | 0x5 => at_ (HEN_MAXRUN 0) 68 4 (fun _ t => if v = 0 then t.setRegN a 0 else t) t
  | 0x7 =>
    if a = WFD_ROT_CFG then (if bit (s.regN a) 16 && !bit (t.regN a) 16 then t.openEvent 10 7 else t)
    else
      let free (u : Nat) (t : State) : State :=
        (t.setRegN (WFD_CAP_AREA_FREE u) (t.regN (WFD_CAP_AREA_SIZE u) - t.heldBytes u)).setCap u fun x =>
          { x with wr := 0 }
      at_ (WFD_CAP_AREA_LO 0) 16 64 free (at_ (WFD_CAP_AREA_HI 0) 16 64 free (at_ (WFD_CAP_AREA_SIZE 0) 16 64 free t))
  | 0x8 =>
    let ring (f : RingPair → RingPair) (n : Nat) (t : State) : State := { t with pk.rings := upd t.pk.rings n f }
    let cmd := ring fun r => { r with cmdBase := true }
    let rpl := ring fun r => { r with rplBase := true }
    let data (n : Nat) (t : State) : State :=
      { t with out.rings := upd t.out.rings n fun (r : DataRing) => { r with baseSet := true } }
    let t := at_ (OUT_CMDQ_BASE 0) 4 32 cmd (at_ (OUT_CMDQ_BASE 0 + 4) 4 32 cmd
      (at_ (OUT_RPLQ_BASE 0) 4 32 rpl (at_ (OUT_RPLQ_BASE 0 + 4) 4 32 rpl
        (at_ (OUT_DRING_BASE 0) 16 32 data (at_ (OUT_DRING_BASE 0 + 4) 16 32 data t)))))
    let t := at_ (OUT_CMDQ_TAIL 0) 4 32 (fun n t =>
      if h : n < 4 then (back t).cmdTail ⟨n, h⟩ (v % 4096) [] else t) t
    let t := at_ (OUT_RPLQ_TAIL 0) 4 32 (fun n t =>
      if h : n < 4 then (back t).replyTail ⟨n, h⟩ (v % 4096) [] else t) t
    let t := at_ (OUT_DRING_TAIL 0) 16 32 (fun n t =>
      if h : n < 16 then (back t).dataTail ⟨n, h⟩ (v % 4096) [] else t) t
    if a = ADM_AMBIENT ∨ a = ADM_STAGE_SIZE then t.postShares
    else at_ (OUT_ETH_CFG 0) 4 32 (fun p t => t.ethSet p (s.regN a)) t
  | 0xA =>
    if THM_STEP_TAB 0 ≤ a ∧ a ≤ THM_STEP_TAB 7 ∨ a = THM_CFG then t.postShares
    else at_ (HKA_IN_CFG 0) 24 4 (fun n t => (back t).setHkInput n (t.regN a)) t
  | 0xF => if a = IFL_CFG ∧ t.boot.phase = .ready then t.linkPorts else t
  | _ => t

/-- The latched bits of a register whose condition holds now (R499): SAT of a loop (05 R141), a full pairing queue and a run
that waits for RECQ (07 R206), an input that reports OPEN or SHORT (13 R343), a failed sensor (14 R368). -/
def State.conditions (t : State) (a : Nat) : Nat :=
  if a = HKA_STATUS then
    b2n ((List.range 24).any fun c => (t.hkRes c).open_ && !(t.hkRes c).short) * 0x20 +
      b2n ((List.range 24).any fun c => (t.hkRes c).short) * 0x40
  else if a = THM_STATUS then b2n (t.thm.sensors.any Sensor.failed) * 0x40
  else match inst a (CLE_LOOP_STAT 0) 16, inst a (HEN_STAT 0) 68 with
    | some _, _ => b2n (bit (t.regN a) 3) * 0x10
    | none, some e =>
      b2n (decide (256 ≤ (t.eng e).bursts.length + (t.eng e).heldPairs.length)) +
        b2n (match (t.eng e).run with | some r => r.stalled | none => false) * 0x20
    | none, none => 0

/-- Clears the W1C bits that a word names; those of EMT_STATUS clear under 04 R99. One whose condition still holds is set
again (R499). -/
def State.clearLatched (t : State) (w : RegWrite) : State :=
  match regDesc w.1 with
  | some d =>
    if d.w1c = 0 ∨ w.1 = EMT_STATUS then t
    else (t.unlatch w.1 (w.2.toNat &&& d.w1c)).latch w.1 (t.regN w.1 &&& t.conditions w.1)
  | none => t

/-- The action that a W1S bit starts, after every other write of the packet (R486). -/
def State.startAction (t : State) (w : RegWrite) : State :=
  match regDesc w.1 with
  | none => t
  | some d =>
    if w.2.toNat &&& d.w1s = 0 then t
    else if w.1 = HKA_INJ_CFG then t.hkGo
    else
      match inst w.1 (WFD_FILT_CTRL 0) 16, inst w.1 (WFD_CAP_CFG 0) 16 64, inst w.1 (MEM_CH_CTRL 0) 2 0x100 with
      | some l, _, _ => t.applyFilter l
      | _, some u, _ => t.disarm u
      | _, _, some c => t.setDram c fun (x : DramChan) => { x with retrain := true }
      | _, _, _ => t

/-- The state that the stored values of a packet leave. -/
def State.tentative (s : State) (ws : List RegWrite) : State := ws.foldl State.poke s

/-- The first value of a packet that fails, as its index and status. -/
def State.badWrite (s : State) (ws : List RegWrite) (only : Nat → Bool) : Option (Nat × Nat) :=
  let t := s.tentative ws
  ws.zipIdx.findSome? fun x =>
    let r := s.regRule t x.1.1 x.1.2.toNat
    if r != OK && only r then some (x.2, r) else none

/-- Writes registers whose values have passed (R486). -/
def State.writeRegs (s : State) (ws : List RegWrite) : State :=
  let t := s.tentative ws
  let t := ws.foldl (fun t w => s.regEffect (t.clearLatched w) w) t
  ws.foldl State.startAction t

/-- The values' own checks, BAD_PARAM among them first (02 R43); `at_` is the packet offset of the first value. -/
def State.checkWrites (s : State) (ws : List RegWrite) (at_ : Nat) : Check :=
  (s.badWrite ws (· == BAD_PARAM)).map fun x => (x.2, at_ + 4 * x.1)

/-- A packet's writes: every check, then the registers (R486). DETAIL of a refusal is given by the index of the
value that fails and its status. -/
def State.performWrites (s : State) (ws : List RegWrite) (detail : Nat → Nat → Nat) (f : State → Done) : Done :=
  match s.badWrite ws fun _ => true with
  | some x => (if x.2 = ADM_REFUSED then s.countRefusal else s).refuse x.2 (detail x.1 x.2)
  | none => f (s.writeRegs ws)

/-- DETAIL of REG_WRITE and MEM_WRITE (R486): the packet offset of the value that fails. -/
def valueOffset (at_ i _status : Nat) : Nat := at_ + 4 * i

/-- DETAIL of REG_MODIFY (02 R40): the offset of the value for BAD_PARAM, the resource code for ADM_REFUSED, else 0. -/
def State.modifyDetail (s : State) (w : RegWrite) (_i status : Nat) : Nat :=
  if status = BAD_PARAM then 24
  else if status = ADM_REFUSED then ((s.tentative [w]).admissionNow true).getD 0
  else 0

/-- Some of the registers is one that the responder may not write (R489). -/
def touchesFw (ws : List RegWrite) : Bool := ws.any fun w => fwOnly w.1

/-! The rows. -/

/-- The words of a packet's payload from an offset. -/
def payloadWords (d : List Byte) (off : Nat) : List Word :=
  (List.range ((d.length - off) / 4)).map fun i => BitVec.ofNat 32 (field d (off + 4 * i) 4)

def regWriteOp : OpSpec :=
  { opcode := 0xC1, responder := true
    lengthOk := fun d => decide (8 ≤ d.length) && d.length == 8 + 4 * field d 4 2
    barred := fun d => touchesFw (regWrites (field d 0 4) (payloadWords d 8))
    check := fun s d => firstFail [need (within (field d 4 2) 1 1018) BAD_PARAM 20,
      regSpan (field d 0 4) (field d 4 2), s.checkWrites (regWrites (field d 0 4) (payloadWords d 8)) 24]
    act := fun s _ p =>
      s.performWrites (regWrites (field p.payload 0 4) (payloadWords p.payload 8)) (valueOffset 24) fun s => { st := s } }

/-- REG_WRITE (R485, R486). -/
def execRegWrite (o : Origin) (r : Request) (s : State) : Res := .next (s.serve regWriteOp o r)

/-- The word that a modify writes: W1C and W1S bits outside the mask are written as 0 (R487). -/
def State.modified (s : State) (a : Nat) (mask value : Word) : Word :=
  let auto := match regDesc a with | some d => BitVec.ofNat 32 (d.w1c ||| d.w1s) | none => 0
  ((BitVec.ofNat 32 (s.view a) &&& ~~~ mask) &&& ~~~ auto) ||| (value &&& mask)

def regModifyOp : OpSpec :=
  { opcode := 0xC2, responder := true, lengthOk := exactly 12, barred := fun d => fwOnly (field d 0 4)
    check := fun s d =>
      let a := field d 0 4
      firstFail [regSpan a 1,
        s.checkWrites [(a, s.modified a (BitVec.ofNat 32 (field d 4 4)) (BitVec.ofNat 32 (field d 8 4)))] 24]
    act := fun s _ p =>
      let d := p.payload
      let a := field d 0 4
      let old := s.readReg a
      let w := s.modified a (BitVec.ofNat 32 (field d 4 4)) (BitVec.ofNat 32 (field d 8 4))
      old.2.performWrites [(a, w)] (old.2.modifyDetail (a, w)) fun s =>
        let new := s.readReg a
        { st := new.2, payload := leBytes 4 old.1 ++ leBytes 4 new.1 } }

/-- REG_MODIFY (R487). -/
def execRegModify (o : Origin) (r : Request) (s : State) : Res := .next (s.serve regModifyOp o r)

/-- The active program half or the active DATA half of an engine lies in a span (07 R180). -/
def State.engineBusy (s : State) (w off n : Nat) : Bool :=
  let h := ((s.refreshImage (w - 0x10)).eng (w - 0x10)).activeHalf
  let meets (lo size : Nat) : Bool := decide (off < lo + size) && decide (lo < off + n)
  decide (0x10 ≤ w ∧ w ≤ 0x53) && (meets (0x8000 * h) 0x8000 || meets (E_DATA h) 0x2000)

def memWriteOp : OpSpec :=
  { opcode := 0xC4, responder := true, lengthOk := fun d => decide (12 ≤ d.length)
    barred := fun d => field d 0 1 == 0 && touchesFw (regWrites (field d 4 8) (payloadWords d 12))
    check := fun s d =>
      let w := field d 0 1
      let off := field d 4 8
      let n := d.length - 12
      firstFail [need (s.spanOk w off n && State.spanWritable w off n) BAD_ADDRESS,
        if w = 0 then s.checkWrites (regWrites off (payloadWords d 12)) 28 else none]
    act := fun s _ p =>
      let d := p.payload
      let w := field d 0 1
      let off := field d 4 8
      if w = 0 then s.performWrites (regWrites off (payloadWords d 12)) (valueOffset 28) fun s => { st := s }
      else s.doneIf [need (!s.engineBusy w off (d.length - 12)) STATE] fun s => { st := s.writeWindow w off (d.drop 12) } }

/-- MEM_WRITE (02 R52; 20 R486). -/
def execMemWrite (o : Origin) (r : Request) (s : State) : Res := .next (s.serve memWriteOp o r)

/-- REGISTER_WRITE (R486, R489): a write through BAR0, which answers nothing and is no packet that moves GEN, or
one that the responder carries out. -/
def execRegisterWrite (path : RegPath) (addr : Nat) (values : List Word) (s : State) : Res :=
  .next (
    let ws := regWrites addr values
    let barred := path == .responder && (!s.boot.responder || touchesFw ws)
    if s.boot.held ∨ barred ∨ (regSpan addr values.length).isSome then s
    else match s.badWrite ws fun _ => true with
      | some x => if x.2 = ADM_REFUSED then s.countRefusal else s
      | none => if path = .responder then (s.writeRegs ws).bumpGen else s.writeRegs ws)

end Sys2Proof.Machine
end

