-- ==== Sys2Proof/Machine/BootOps.lean ====
section
/-!
DEFINITION. Power-up, resets, boot and bring-up, and the flash commands (02 R51; 17 R424, R429; 19 R464 to R478;
20 R490).
-/
namespace Sys2Proof.Machine

/-! Flash commands (R469). -/

/-- A span of the flash that Thrumi does not let a packet write: the slot in use, HEADER, CALIB and REPAIR. -/
def State.flashBarred (s : State) (off n : Nat) : Bool :=
  let meets (lo size : Nat) : Bool := decide (off < lo + size) && decide (lo < off + n)
  meets FL_HEADER 0x10000 || meets (FL_SLOT s.boot.slot) 0x400000 || meets (FL_CALIB 0 0) 0x200000 ||
    meets (FL_REPAIR 0) 0x20000

def fwWriteOp : OpSpec :=
  { opcode := 0xF0, responder := true, lengthOk := fun d => decide (4 ≤ d.length)
    check := fun s d => need (decide (field d 0 4 + (d.length - 4) ≤ s.flashSize)) BAD_ADDRESS
    act := fun s o p =>
      let off := field p.payload 0 4
      let d := p.payload.drop 4
      s.doneIf [need (s.byResponder o || !s.flashBarred off d.length) STATE] fun s => { st := s.flashWrite off d } }

/-- FW_WRITE (R469). -/
def execFwWrite (o : Origin) (r : Request) (s : State) : Res := .next (s.serve fwWriteOp o r)

def flashReadOp : OpSpec :=
  { opcode := 0xF3, responder := true, lengthOk := exactly 8
    check := fun s d => firstFail [need (within (field d 4 4) 1 4072) BAD_PARAM 20,
      need (decide (field d 0 4 + field d 4 4 ≤ s.flashSize)) BAD_ADDRESS]
    act := fun s _ p =>
      { st := s
        payload := slice p.payload 0 4 ++ [0, 0, 0, 0] ++ s.flashRead (field p.payload 0 4) (field p.payload 4 4) } }

/-- FLASH_READ (R469). -/
def execFlashRead (o : Origin) (r : Request) (s : State) : Res := .next (s.serve flashReadOp o r)

/-! Boot header and slots (R467, R468). -/

/-- A copy of the boot header, when it is valid. -/
def State.headerCopy (s : State) (copy : Nat) : Option (List Byte) :=
  let b := s.flashRead (FL_HEADER + 0x8000 * copy) 32
  if b.take 4 = [0x4E, 0x52, 0x58, 0x42] ∧ field b 4 2 = 1 ∧ crc32c (b.take 28) = BitVec.ofNat 32 (field b 28 4) then some b
  else none

/-- The header that counts: the valid copy with the larger HSEQ. -/
def State.bootHeader (s : State) : Option (List Byte) :=
  match s.headerCopy 0, s.headerCopy 1 with
  | some a, some b => some (if later32 (field b 8 4) (field a 8 4) then b else a)
  | some a, none => some a
  | none, b => b

/-- The header of a slot. -/
def State.slotHeader (s : State) (i : Nat) : List Byte := s.flashRead (FL_SLOT i) 64

/-- A slot is valid. -/
def State.slotValid (s : State) (i : Nat) : Bool :=
  let h := s.slotHeader i
  let n := field h 16 4
  h.take 4 == [0x4E, 0x52, 0x58, 0x46] && field h 4 2 == 1 && within n 4096 917504 && n % 16 == 0 &&
    decide (crc32c (h.take 60) = BitVec.ofNat 32 (field h 60 4)) && decide (field h 28 4 ≤ 0x4201) &&
    decide (crc32c (s.flashRead (FL_SLOT i + 64) n) = BitVec.ofNat 32 (field h 20 4))

/-- The slot that a boot mode chooses, and whether it is not the preferred one. -/
def State.chosenSlot (s : State) (mode : Nat) : Option (Nat × Bool) :=
  let first : Nat := match s.bootHeader with | some h => field h 6 1 % 2 | none => 0
  if mode = 2 ∨ mode = 3 then (if s.slotValid (mode - 2) then some (mode - 2, false) else none)
  else if s.slotValid first then some (first, false)
  else if s.slotValid (1 - first) then some (1 - first, true)
  else none

/-- BOOT_SLOT of both slots (R481). -/
def State.slotRegs (s : State) : State :=
  (List.range 2).foldl (fun t i =>
    let h := t.slotHeader i
    let ok := t.slotValid i
    (t.setRegN (BOOT_SLOT i) (field h 8 4)).setRegN (BOOT_SLOT i + 4) (b2n ok * 2 ^ 31 + field h 12 4 % 2 ^ 31)) s

/-! Firmware activation (R469). -/

def fwActivateOp : OpSpec :=
  { opcode := 0xF1, lengthOk := exactly 4, check := fun _ d => need (decide (field d 0 1 ≤ 1)) BAD_PARAM 16
    act := fun s o p => s.doneIf [need (!s.ccSingle) STATE, need s.boot.activate.isNone BUSY] fun s =>
      { st := { s with boot.activate := some (field p.payload 0 1, o, p.sequence) }, status := ACCEPTED } }

/-- FW_ACTIVATE (R469). -/
def execFwActivate (o : Origin) (r : Request) (s : State) : Res := .next (s.serve fwActivateOp o r)

/-- Both header copies, naming a slot, with HSEQ advanced. -/
def State.writeHeaders (s : State) (slot : Nat) : State :=
  let old := s.bootHeader.getD []
  let body := [0x4E, 0x52, 0x58, 0x42] ++ leBytes 2 1 ++ leBytes 1 slot ++ leBytes 1 (field old 7 1) ++
    leBytes 4 ((field old 8 4 + 1) % 2 ^ 32) ++ List.replicate 16 0
  let h := body ++ leBytes 4 (crc32c body).toNat
  s.flashStore FL_HEADER 0x10000 (h ++ List.replicate (0x8000 - 32) 0xFF ++ h)

/-- The standby pair takes over with the firmware of a slot, and the former pair, loaded from the same slot,
stands by (17 R424). -/
def State.switchTo (s : State) (slot : Nat) : State :=
  let s := s.endBackground.replay
  let s := { s with rep.active := s.otherPair, pk.mspiServed := s.time, boot.slot := slot
                     }
  s.setRegN BOOT_FW_VER (field (s.slotHeader slot) 8 4)

/-- FW_ACTIVATE_DONE (R469). -/
def execFwActivateDone (s : State) : Res :=
  .next (match s.boot.activate with
    | none => s
    | some (slot, o, q) =>
      let s := { s with boot.activate := none }
      if ¬ s.rep.standby ∨ ¬ s.slotValid slot then s.complete (o, q) IMAGE_INVALID 0xF
      else (((s.switchTo slot).slotRegs.writeHeaders slot).interruption).complete (o, q) OK 0xF)

/-! Resets (02 R51; R464, R465; 20 R490). -/

/-- What a RESET of a scope starts. Scope 0 is a commanded switchover (17 R424), and without a standby pair there
is none; scopes 1 and 2 take effect once the write-backs have completed (R465). -/
def resetAct (scope : Nat) (s : State) : Done :=
  if scope = 0 then
    s.doneIf [need (s.boot.firmware && s.rep.standby) STATE] fun s =>
      { st :=
          if s.rep.migs.any (fun m => m.kind == 4) then s
          else { s with rep.migs := s.rep.migs ++
                  [{ kind := 4, failed := s.rep.active, commanded := true, owner := none, stopped := s.time
                     detected := s.time, decideAt := s.time, replaced := false }] } }
  else { st := { s with pk.resetPend := some (scope, s.time) } }

/-- A RESET packet: its confirmation, and its scope. -/
def resetOp (scope : Nat) : OpSpec :=
  { opcode := 0xF2, responder := true, lengthOk := exactly 4
    check := fun _ d => firstFail [need (decide (field d 0 1 ≤ 2)) BAD_PARAM 16, need (field d 2 2 == 0x0B0E) BAD_PARAM 18]
    act := fun s _ _ => resetAct scope s }

/-- RESET, scope 0 (02 R51). -/
def execResetFirmwareRestart (o : Origin) (r : Request) (s : State) : Res :=
  .next (s.serve (resetOp (rowValue r 4 0 0 [0, 1, 2])) o r)

/-- RESET, scope 1 (02 R51). -/
def execResetMeasuringCore (o : Origin) (r : Request) (s : State) : Res :=
  .next (s.serve (resetOp (rowValue r 4 0 1 [0, 1, 2])) o r)

/-- RESET, scope 2 (02 R51). -/
def execResetWholeDevice (o : Origin) (r : Request) (s : State) : Res :=
  .next (s.serve (resetOp (rowValue r 4 0 2 [0, 1, 2])) o r)

/-- Adds a member that is not there yet. -/
def addOnce (l : List Nat) (x : Nat) : List Nat := if l.contains x then l else l ++ [x]

/-- Restores one entry of the repair map (17 R429): the unit is mapped out, and its replacement serves. A slice's place is
taken by the slice that is spare at reset, since the rotation of slices begins there again (09 R223, 13 R321). A unit that a
command released is still to pass its self-test (17 R426). -/
def State.restoreEntry (s : State) (e : MapEntry) : State :=
  let gone := e.origin != 4
  let s := if gone ∨ e.kind = 0 ∨ 3 < e.kind ∨ s.rep.released.contains (e.kind, e.failed) then s
    else { s with rep.released := s.rep.released ++ [(e.kind, e.failed)] }
  let t := e.failed
  let n := e.spare
  match e.kind with
  | 0 =>
    let s := if gone then { s with rep.tdcFail := addOnce s.rep.tdcFail t } else s
    let w := s.tdcServes t
    if w = 0xFFFF then s
    else if n = noSpare then (if w < 512 then { s with rep.chanLost := addOnce s.rep.chanLost w } else s)
    else if w < 512 then
      let m := ((List.range 4).find? fun m => 512 + (w / 16 + 8 * m) % 32 == n).getD 0
      s.setChan w fun x => { x with tdc := n, route := m + 1 }
    else { s with hch.auxSpare := s.hch.auxSpare.set (w - 544) (some n) }
  | 1 =>
    let s := { s with rep.pool := s.rep.pool.filter fun x => x != t && x != n }
    let s := if gone then { s.setEng t fun y => { y with st := .failed } with rep.engFail := addOnce s.rep.engFail t } else s
    match s.engineGroup t with
    | some g => if n = noSpare then s else s.setRegN (HEN_MAP g) n
    | none => s
  | 2 =>
    let s := if gone then { s with rep.wfdFail := addOnce s.rep.wfdFail t, wfd.rotDead := true } else s
    if ¬ gone then s
    else
      let pos := (s.wfdSlice t).pos
      let k := s.wfdSpare.filter (· != t)
      let s := s.setSlice t fun y => { y with state := 4, pos := if k.isSome then none else y.pos }
      match k, pos with
      | some k, some p => s.setSlice k fun y => { y with state := 0, pos := some p }
      | _, _ => s
  | 3 =>
    if ¬ gone then s
    else
      { s with
        rep.hkaFail := addOnce s.rep.hkaFail t, hka.rotDead := true
        hka.spare := none
        hka.paths := s.hka.paths.map fun (p : HkPath) =>
          if p.slice = some t ∧ s.hka.spare.isSome then { p with slice := s.hka.spare } else p }
  | 5 | 6 =>
    let room := if e.kind = 5 then 4 else 2
    let used := (s.mem.remap.filter fun x => x.1 == e.kind && x.2.1 / 2 ^ 22 == t / 2 ^ 22).length
    if n = noSpare ∨ room ≤ used ∨ s.mem.remap.contains (e.kind, t, n) then s
    else { s with mem.remap := s.mem.remap ++ [(e.kind, t, n)] }
  | _ => s

/-- Re-establishes what the repair map holds (17 R429). -/
def State.restoreMap (s : State) : State := s.rep.map.foldl State.restoreEntry s

/-- The entries of a repair map as bytes (17 R428). -/
def mapEntries (b : List Byte) : List MapEntry :=
  (List.range (field b 2 2)).map fun i =>
    let o := 32 + 16 * i
    { kind := field b o 1, origin := field b (o + 1) 1, flags := field b (o + 2) 2, failed := field b (o + 4) 4
      spare := field b (o + 8) 4, time := field b (o + 12) 4 }

/-- Reads the repair map from flash (R466; 17 R429). -/
def State.readMap (s : State) : State :=
  match s.mapNewest with
  | none => s
  | some c =>
    let b := (s.mapCopy c).getD []
    { s with rep.map := mapEntries b, rep.mapSeq := BitVec.ofNat 32 (field b 4 4) }

/-- The registers that keep their bits under scope 1 (20 R490), and those that show a boot, the island or the event
sequence (R465; 16 R412). -/
def keptByScope (scope : Nat) (a : Nat) : Bool :=
  a / 0x10000 == 0xD || (scope == 1 && (keptScope1 a || a == GLB_EVT_SEQ || (BOOT_STATUS ≤ a && a != BOOT_CFG && a != BOOT_PRELOAD_ERR)))

/-- Units whose configuration and work every scope but 0 clears (R465): the levels of input pins, lost clocks
and the shutdown pin stand as they are. -/
def State.resetCommon (s : State) (scope : Nat) : State :=
  { s with
    regs := s.regs.filter fun x => keptByScope scope x.1
    pg := .reset
    seq := { Sequencer.reset with clockHold := s.seq.clockHold }
    emt := { Emission.reset with
      otLow := s.emt.otLow, wireHigh := scope == 1
      budgets := Emission.reset.budgets.map fun (b : Budget) => { b with updated := if scope = 1 then s.unitNow else 0 } }
    cle := { LoopUnit.reset with
      pllLost := s.cle.pllLost
      enc := s.cle.enc.map fun (e : Encoder) => { e with edges := [], armed := false } }
    hch := .reset
    hen := List.replicate 68 .reset
    adm := .reset }

/-- RESET scope 1 as it takes effect (02 R51; R465): the links, the time bases, the stored sets, the repair map,
the incidents and the event log stay; latched failures of sensors end (14 R349). -/
def State.resetMeasuring (s : State) : State :=
  let id := s.reg BOOT_ID + 1
  let mode := s.fld BOOT_CFG 1 0
  let rings := (List.range 4).filterMap fun n =>
    if h : n < 4 then (match s.pk.rings[n]? with | some r => if r.enabled then some (Origin.ring ⟨n, h⟩) else none | none => none)
    else none
  let s := { (s.resetCommon 1) with
    pk := { PacketUnit.reset with
      rings := s.pk.rings, mspiReply := s.pk.mspiReply, mspiOut := s.pk.mspiOut, mspiServed := s.time
      events := s.pk.events, wraps := s.pk.wraps }
    wfd := { Wave.reset with
      slices := s.wfd.slices.zipIdx.map fun (x, j) =>
        { nth Wave.reset.slices j x with offset := x.offset, gain := x.gain, skew := x.skew }
      din := (List.range 16).map s.setDin, rotAt := s.time, rotDead := s.wfd.rotDead }
    out := { s.out with
      streams := Output.reset.streams, frags := Output.reset.frags
      servers := s.out.servers.map fun (x : Option Outgoing) => match x with | some (.frame _) => none | y => y }
    tim := { s.tim with xsPend := none, xsHit := none, xsImage := TimeUnit.reset.xsImage, launches := TimeUnit.reset.launches, latches := [], logs := [] }
    hka := { House.reset with
      paths := House.reset.paths.map fun (p : HkPath) => { p with free := s.time }
      rotAt := s.time, rotDead := s.hka.rotDead, trims := s.hka.trims
      pllLost := s.hka.pllLost, cycleAt := s.time }
    thm := { s.thm with
      run := none, retryAt := none, staging := []
      sensors := s.thm.sensors.map fun (x : Sensor) => { x with failed := false } }
    rep := { s.rep with migs := [], journal := [], selftest := none }
    ifl := { s.ifl with resync := none, syncFull := none, latest := none, lastSync := Tree.reset.lastSync, reports := [], seen := [] }
    boot := { s.boot with activate := none } }
  let s := rings.foldl State.openSession s
  let s := (List.range 24).foldl (fun t n => t.endCause (causeKey 9 1 (0x100 + n))) s
  let s := (List.range 2).foldl (fun t c =>
    if (t.dramChan c).up then t.loadDelays c (nth (nth t.mem.cands c []) (t.dramChan c).set_ []) else t) s
  let s := (((s.setReg BOOT_ID id).setFld BOOT_CAUSE 3 0 2).setFld BOOT_CFG 1 0 mode).restoreMap
  if s.thm.applied.isEmpty then s else { s with thm.buildDue := true }

/-- Everything but the island at its reset state, in phase HARDWARE: the header is read, the map restored but for
DRAM rows, and the responder serves MSPI (R464, R465, R472). -/
def State.resetWhole (s : State) (cause : Nat) (bootId : Word) (mode : Nat) (held : Bool) : State :=
  let s := { (s.resetCommon 2) with
    pk := { PacketUnit.reset with mspiServed := s.time }
    wfd := { Wave.reset with rotAt := s.time }
    out := { Output.reset with direct := s.out.direct, host := s.out.host, descs := s.out.descs }
    tim := { TimeUnit.reset with
      ptp := TimeUnit.reset.ptp.map fun (b : PtpBase) => { b with edge := 5 * s.time }
      safe25 := s.tim.safe25, pin := s.tim.pin, pinAt := s.tim.pinAt, refin := s.tim.refin, xsys := s.tim.xsys
      lost := s.tim.lost, gateAt := s.time }
    hka := { House.reset with pllLost := s.hka.pllLost }
    thm := .reset
    mem := .reset
    rep := .reset
    ifl := .reset
    boot := { Boot.reset with flash := s.boot.flash, held := held } }
  let s := { s with seq.clockHold := !s.hasRef && !s.tim.xsys }
  let s := ((s.setReg BOOT_ID bootId).setFld BOOT_CAUSE 3 0 cause).setFld BOOT_CFG 1 0 mode
  let s := if s.bootHeader.isNone then s.latch BOOT_STATUS 0x80 else s
  s.readMap.restoreMap

/-- PORST (R464, R472): power-up, or the release of PORST_L after it was held. The strap pins BOOT_MODE1 and
BOOT_MODE0 are bits 1 and 0; the new BOOT_ID is random. -/
def execPorst (powerUp : Bool) (straps : Byte) (bootId : Word) (s : State) : Res :=
  .next (if ¬ powerUp ∧ ¬ s.boot.held then s
    else s.resetWhole (if powerUp then 0 else 1) bootId (straps.toNat % 4) false)

/-- PORST_L_ASSERT (R464): everything but the island is held in reset. -/
def execPorstLAssert (s : State) : Res := .next (s.resetWhole 1 (s.reg BOOT_ID) (s.fld BOOT_CFG 1 0) true)

/-- LOADING (R468, R472): the boot mode chooses a slot; without one, or in mode 1, the device holds and the
responder goes on serving. -/
def execLoading (s : State) : Res :=
  .next (
    if s.boot.phase ≠ .hardware ∨ s.boot.held then s
    else
      let mode := s.fld BOOT_CFG 1 0
      let hold (s : State) : State := { s with boot.phase := .hold }
      let s := s.slotRegs
      if mode = 1 then hold s
      else match s.chosenSlot mode with
        | none => hold (s.latch BOOT_STATUS 0x20)
        | some (i, other) =>
          let s := if other then s.latch BOOT_STATUS 0x40 else s
          let dead (p : Nat) : Bool := s.rep.map.any fun e => e.kind == 4 && e.failed == p && e.origin != 4
          if dead 0 && dead 1 then hold s
          else
            let s := s.setRegN BOOT_FW_VER (field (s.slotHeader i) 8 4)
            { s with
              boot.phase := .loading, boot.firmware := true, boot.responder := false, boot.slot := i
              rep.active := if dead 0 then 1 else 0, rep.standby := !(dead 0 || dead 1)
              rep.withdrawn := if dead 0 then some 0 else none, pk.mspiServed := s.time })

/-! Bring-up (R470 to R472, R476). -/

/-- The board profile, when its checks pass (R470). -/
def State.profile (s : State) : Option (List Byte) :=
  let n := field (s.flashRead FL_PROFILE 16) 8 4
  if ¬ within n 64 262144 then none
  else
    let b := s.flashRead FL_PROFILE n
    if b.take 4 = [0x4E, 0x52, 0x58, 0x50] ∧ field b 4 2 = 1 ∧ crcBlank b 12 = BitVec.ofNat 32 (field b 12 4) then some b
    else none

/-- A section of the profile by the place of its offset in the header. -/
def State.section_ (s : State) (at_ : Nat) : Option (List Byte) :=
  s.profile.bind fun b => if field b at_ 4 = 0 then none else some (b.drop (field b at_ 4))

/-- Profile, role and reference (R470, R472): TB_SHOT and the PTP bases start at the first lock. -/
def State.bringTime (s : State) (lock : Bool) : State :=
  let s := if s.profile.isNone then s.latch BOOT_STATUS 0x100 else s
  let p := s.profile.getD []
  let small (x : Nat) : Nat := if x ≤ 2 then x else 0
  let s := s.setFld IFL_CFG 31 30 (small (field p 6 1))
  { s with
    tim.refCode := small (field p 7 1)
    tim.onRef := lock && s.tim.refin && s.role != 2
    tim.refAt := s.time, tim.gateAt := s.time
    tim.running := true
    tim.ptp := s.tim.ptp.map fun (b : PtpBase) =>
      { b.setCounting (!s.tim.lost.contains .ethRefclk) with stopped := s.tim.lost.contains .ethRefclk } }

/-- Stored sets and the applied set (R472; 14 R362, R364). -/
def State.bringCal (s : State) : State :=
  let s := { s with
    thm.stored := (List.range 8).map fun k => (s.calNewest k).map Prod.snd
    thm.tLast := s.thm.tDie }
  s.buildSet

/-- The configuration of a memory section is one that the device supports (15 R373; R470). -/
def memOk (b : List Byte) : Bool :=
  decide (field b 0 1 ≤ 2) && within (field b 1 1) 1 2 && decide (field b 2 1 ≤ 2) && decide (field b 3 1 ≤ 1) &&
    within (field b 4 1) 4 32 && within (field b 5 1) 1 8

/-- The post-package repairs of the map become permanent, which is a change of the map (15 R381; 17 R428). A row that a spare
row replaces keeps it. -/
def State.hardRepair (s : State) : State :=
  let soft (e : MapEntry) : Bool := e.kind == 7 && e.spare == noSpare && !bit e.flags 1
  if s.rep.map.any soft then
    { s with rep.map := s.rep.map.map fun (e : MapEntry) => if soft e then { e with flags := e.flags ||| 2 } else e }.mapChanged
  else s

/-- DDR5 (R470, R472; 15 R377, R381, R383): DRAM rows of the map receive hard repair, then each channel is trained
over the profile's candidates. How many spare rows a channel's reserved megabyte holds is not stated: a free
value, from which the rows that the map holds are taken. A configuration that the device does not support leaves both
channels out of service (DESIGN CHOICE, notes/assumptions). -/
def State.bringMem (s : State) (passes : List (List Bool)) : State :=
  match s.section_ 16 with
  | none => (s.failChannel 0).failChannel 1
  | some b =>
    let n := field b 5 1
    let sets (c : Nat) : List (List Byte) := (List.range n).map fun k => slice b (8 + 192 * (n * c + k)) 192
    let (x, s) := s.draw 72
    let mapped (c : Nat) : Nat :=
      (s.rep.map.filter fun e => e.kind == 7 && e.spare != noSpare && e.failed / 2 ^ 31 == c).length
    let s := { s with
      mem.speed := field b 0 1, mem.ranks := field b 1 1, mem.density := field b 2 1, mem.width := field b 3 1
      mem.capGB := field b 4 1, mem.cands := [sets 0, sets 1]
      mem.chans := s.mem.chans.zipIdx.map fun (y : DramChan × Nat) => { y.1 with spares := x - mapped y.2 } }
    if memOk b then
      let s := s.hardRepair
      (s.train 0 (nth passes 0 [])).train 1 (nth passes 1 [])
    else (s.failChannel 0).failChannel 1

/-- A fault of the chain at start-up (R476). -/
def State.bringChainFault (s : State) (board : Nat) : State := (s.chainFault board).latch BOOT_STATUS 0x200

/-- The emitter section (R470, R476): its wire frame, the probe of the chain with zero bytes, and its chain frame,
which latches when every marker is there. A section whose values no register takes is left out. -/
def State.bringChain (s : State) (probe write : List Byte) : State :=
  let s := { s with emt.wireHigh := true }
  match s.section_ 20 with
  | none => s
  | some b =>
    let boards := field b 0 1
    let bytes := field b 1 1
    let wireLen := field b 4 2
    let chainLen := field b 6 2
    if ¬ (boards ≤ 32 ∧ within bytes 1 32 ∧ 24 ≤ field b 2 1 ∧ within (field b 3 1) 5 100 ∧ wireLen ≤ 4076 ∧
        (chainLen = 0 ∨ chainLen = boards * bytes)) then s
    else
      let s := (s.setRegN EMT_CHAIN_CFG (field b 2 1 * 2 ^ 24 + bytes * 256 + boards)).setFld EMT_1W_CFG 7 0 (field b 3 1)
      let wire := slice b 8 wireLen
      let s := if wireLen ≠ 0 ∧ okWire boards wire then { s with emt.wireOut := wire } else s
      if boards = 0 then s
      else
        let s := { s with emt.chainOut := List.replicate (boards * bytes) 0 }
        match s.badBoard probe with
        | some k => s.bringChainFault k
        | none =>
          if chainLen = 0 then s
          else
            let s := { s with emt.chainOut := (slice b (8 + wireLen) chainLen).reverse }
            match s.badBoard write with
            | some k => s.bringChainFault k
            | none => s.chainLatched

/-- One pair of the preload (R471): what REG_WRITE would refuse is skipped and counted. -/
def State.preloadPair (s : State) (i : Nat) (w : RegWrite) : State :=
  if (regSpan w.1 1).isNone && (s.badWrite [w] fun _ => true).isNone then s.writeRegs [w]
  else
    let n := s.fld BOOT_PRELOAD_ERR 27 16
    let s := s.setFld BOOT_PRELOAD_ERR 27 16 (n + 1)
    if n = 0 then s.setFld BOOT_PRELOAD_ERR 10 0 i else s

/-- The preload section (R471). -/
def State.preload (s : State) : State :=
  match s.section_ 24 with
  | none => s
  | some b =>
    (List.range (min 2048 (field b 0 4))).foldl (fun t i =>
      t.preloadPair i (field b (4 + 8 * i) 4, BitVec.ofNat 32 (field b (8 + 8 * i) 4))) s

/-- BRINGUP (R472): the actions in order; `b` says what the reference, the chain and the memories answered. -/
def execBringup (b : BringupInputs) (s : State) : Res :=
  .next (
    if s.boot.phase ≠ .loading then s
    else
      let s := { s with boot.phase := .bringup }
      let s := (s.bringTime b.refLock).bringCal
      let s := { s with wfd.rotAt := s.time, hka.rotAt := s.time, hka.cycleAt := s.time }
      let s := ((s.bringMem b.ddr).bringChain b.chainSdi b.writeSdi).preload
      { s with boot.firstCal := true })

/-- READY (R472): the ports that the preload enabled come up. -/
def execReady (s : State) : Res :=
  .next (
    if s.boot.phase ≠ .bringup then s
    else
      let s := { s with boot.phase := .ready, boot.readyAt := s.time, rep.bistAt := s.time, mem.sramAt := s.time
                        mem.dramAt := s.time }
      ((List.range 4).foldl State.ethStart s).linkPorts.postShares)

/-- A reply to RESET has not left the device (02 R50). -/
def State.resetUnanswered (s : State) : Bool :=
  let mine (p : Packet) : Bool := p.opcode == 0xF2
  s.pk.mspiReply.any mine || s.out.packets.any (fun x => mine x.packet) ||
    s.out.servers.any (fun x => match x with | some (.packet _ p) => mine p | _ => false) ||
    s.ifl.ports.any fun p => p.tx.any fun f => f.kind == 1 && field f.data 3 1 == 0xF2

/-- RESET_TAKES_EFFECT (R465; 02 R50): the reply has been sent, and no write-back of a stored set or of the map is left, or no firmware runs that
could make one. -/
def execResetTakesEffect (s : State) : Res :=
  .next (match s.pk.resetPend with
    | none => s
    | some (scope, _) =>
      if s.resetUnanswered then s
      else if s.boot.firmware ∧ (¬ s.thm.writeback.isEmpty ∨ s.rep.mapPend.isSome) then s
      else if scope = 1 then
        let s := s.resetMeasuring
        if s.boot.firmware then s.preload.postShares else s
      else s.resetWhole 3 (s.reg BOOT_ID + 1) (s.fld BOOT_CFG 1 0) false)

end Sys2Proof.Machine
end

