-- ==== Sys2Proof/Machine/Dispatch.lean ====
section
/-! DEFINITION. One arm for each command: a direct call of its meaning. -/
namespace Sys2Proof.Machine

def exec (i : Instr) (s : State) : Host.Outcome State Fault Refusal :=
  match i with
  | .nop o r => Sys2Proof.Machine.execNop o r s
  | .ident o r => Sys2Proof.Machine.execIdent o r s
  | .status o r => Sys2Proof.Machine.execStatus o r s
  | .sessionOpen o r => Sys2Proof.Machine.execSessionOpen o r s
  | .sessionClose o r => Sys2Proof.Machine.execSessionClose o r s
  | .tableLoad o r => Sys2Proof.Machine.execTableLoad o r s
  | .tableCommit o r => Sys2Proof.Machine.execTableCommit o r s
  | .tableDelete o r => Sys2Proof.Machine.execTableDelete o r s
  | .tableList o r => Sys2Proof.Machine.execTableList o r s
  | .progSubmit o r => Sys2Proof.Machine.execProgSubmit o r s
  | .progStart o r => Sys2Proof.Machine.execProgStart o r s
  | .progStopEndOfSegment o r => Sys2Proof.Machine.execProgStopEndOfSegment o r s
  | .progStopImmediate o r => Sys2Proof.Machine.execProgStopImmediate o r s
  | .progWithdraw o r => Sys2Proof.Machine.execProgWithdraw o r s
  | .progStatus o r => Sys2Proof.Machine.execProgStatus o r s
  | .fireConfig o r => Sys2Proof.Machine.execFireConfig o r s
  | .matrixConfig o r => Sys2Proof.Machine.execMatrixConfig o r s
  | .budgetSet o r => Sys2Proof.Machine.execBudgetSet o r s
  | .shortTest o r => Sys2Proof.Machine.execShortTest o r s
  | .chainWrite o r sdi => Sys2Proof.Machine.execChainWrite o r sdi s
  | .wireWrite o r => Sys2Proof.Machine.execWireWrite o r s
  | .threshSet o r => Sys2Proof.Machine.execThreshSet o r s
  | .chanEnable o r => Sys2Proof.Machine.execChanEnable o r s
  | .captureMode o r => Sys2Proof.Machine.execCaptureMode o r s
  | .eventInput o r => Sys2Proof.Machine.execEventInput o r s
  | .freqMeasure o r => Sys2Proof.Machine.execFreqMeasure o r s
  | .engLoad o r => Sys2Proof.Machine.execEngLoad o r s
  | .engCommit o r => Sys2Proof.Machine.execEngCommit o r s
  | .engMap o r => Sys2Proof.Machine.execEngMap o r s
  | .engControlRun o r => Sys2Proof.Machine.execEngControlRun o r s
  | .engControlHalt o r => Sys2Proof.Machine.execEngControlHalt o r s
  | .wfAlloc o r => Sys2Proof.Machine.execWfAlloc o r s
  | .wfGain o r => Sys2Proof.Machine.execWfGain o r s
  | .captureConfig o r => Sys2Proof.Machine.execCaptureConfig o r s
  | .captureArm o r => Sys2Proof.Machine.execCaptureArm o r s
  | .captureTrigger o r => Sys2Proof.Machine.execCaptureTrigger o r s
  | .loopCoef o r => Sys2Proof.Machine.execLoopCoef o r s
  | .loopSwap o r => Sys2Proof.Machine.execLoopSwap o r s
  | .loopSetpoint o r => Sys2Proof.Machine.execLoopSetpoint o r s
  | .loopMode o r => Sys2Proof.Machine.execLoopMode o r s
  | .loopIo o r => Sys2Proof.Machine.execLoopIo o r s
  | .timeRead o r => Sys2Proof.Machine.execTimeRead o r s
  | .timeIncr o r => Sys2Proof.Machine.execTimeIncr o r s
  | .timeStep o r => Sys2Proof.Machine.execTimeStep o r s
  | .crossStamp o r => Sys2Proof.Machine.execCrossStamp o r s
  | .launchAt o r => Sys2Proof.Machine.execLaunchAt o r s
  | .refSelect o r => Sys2Proof.Machine.execRefSelect o r s
  | .hkSequence o r => Sys2Proof.Machine.execHkSequence o r s
  | .hkChannel o r => Sys2Proof.Machine.execHkChannel o r s
  | .thermThresh o r => Sys2Proof.Machine.execThermThresh o r s
  | .thermSubst o r => Sys2Proof.Machine.execThermSubst o r s
  | .safStatus o r => Sys2Proof.Machine.execSafStatus o r s
  | .safParam o r => Sys2Proof.Machine.execSafParam o r s
  | .safAbort o r => Sys2Proof.Machine.execSafAbort o r s
  | .repSummary o r => Sys2Proof.Machine.execRepSummary o r s
  | .repMigrate o r => Sys2Proof.Machine.execRepMigrate o r s
  | .repSelftest o r => Sys2Proof.Machine.execRepSelftest o r s
  | .regRead o r => Sys2Proof.Machine.execRegRead o r s
  | .regWrite o r => Sys2Proof.Machine.execRegWrite o r s
  | .regModify o r => Sys2Proof.Machine.execRegModify o r s
  | .memRead o r => Sys2Proof.Machine.execMemRead o r s
  | .memWrite o r => Sys2Proof.Machine.execMemWrite o r s
  | .snapshot o r => Sys2Proof.Machine.execSnapshot o r s
  | .snapshotRelease o r => Sys2Proof.Machine.execSnapshotRelease o r s
  | .calRun o r => Sys2Proof.Machine.execCalRun o r s
  | .calActivate o r => Sys2Proof.Machine.execCalActivate o r s
  | .calStatus o r => Sys2Proof.Machine.execCalStatus o r s
  | .treeStatus o r => Sys2Proof.Machine.execTreeStatus o r s
  | .treeConfig o r => Sys2Proof.Machine.execTreeConfig o r s
  | .workerResync o r => Sys2Proof.Machine.execWorkerResync o r s
  | .fwWrite o r => Sys2Proof.Machine.execFwWrite o r s
  | .fwActivate o r => Sys2Proof.Machine.execFwActivate o r s
  | .resetFirmwareRestart o r => Sys2Proof.Machine.execResetFirmwareRestart o r s
  | .resetMeasuringCore o r => Sys2Proof.Machine.execResetMeasuringCore o r s
  | .resetWholeDevice o r => Sys2Proof.Machine.execResetWholeDevice o r s
  | .resetTakesEffect => Sys2Proof.Machine.execResetTakesEffect s
  | .flashRead o r => Sys2Proof.Machine.execFlashRead o r s
  | .packetForward o opcode r => Sys2Proof.Machine.execPacketForward o opcode r s
  | .packetDiscard o raw => Sys2Proof.Machine.execPacketDiscard o raw s
  | .stageTimeout o => Sys2Proof.Machine.execStageTimeout o s
  | .snapshotDone h => Sys2Proof.Machine.execSnapshotDone h s
  | .snapshotExpiry h => Sys2Proof.Machine.execSnapshotExpiry h s
  | .registerWrite path addr values => Sys2Proof.Machine.execRegisterWrite path addr values s
  | .mspiWritePacket raw => Sys2Proof.Machine.execMspiWritePacket raw s
  | .mspiReadReply => Sys2Proof.Machine.execMspiReadReply s
  | .mspiReadStatus => Sys2Proof.Machine.execMspiReadStatus s
  | .responderTakeover => Sys2Proof.Machine.execResponderTakeover s
  | .outCmdqTail n tail packets => Sys2Proof.Machine.execOutCmdqTail n tail packets s
  | .outRplqTail n tail bufLens => Sys2Proof.Machine.execOutRplqTail n tail bufLens s
  | .outDringTail n tail bufs => Sys2Proof.Machine.execOutDringTail n tail bufs s
  | .functionLevelReset => Sys2Proof.Machine.execFunctionLevelReset s
  | .pciePerst => Sys2Proof.Machine.execPciePerst s
  | .arpRequest port targetIp senderMac senderIp => Sys2Proof.Machine.execArpRequest port targetIp senderMac senderIp s
  | .dringIrq n => Sys2Proof.Machine.execDringIrq n s
  | .shotCommit => Sys2Proof.Machine.execShotCommit s
  | .budgetIdleUpdate g => Sys2Proof.Machine.execBudgetIdleUpdate g s
  | .programStartInstant pid => Sys2Proof.Machine.execProgramStartInstant pid s
  | .fireEdge stamp => Sys2Proof.Machine.execFireEdge stamp s
  | .fireStampMissing shot => Sys2Proof.Machine.execFireStampMissing shot s
  | .waitReleased pid => Sys2Proof.Machine.execWaitReleased pid s
  | .waitTimeout pid => Sys2Proof.Machine.execWaitTimeout pid s
  | .otPinShutdown => Sys2Proof.Machine.execOtPinShutdown s
  | .otClear value pinLow => Sys2Proof.Machine.execOtClear value pinLow s
  | .shortTestDone readings => Sys2Proof.Machine.execShortTestDone readings s
  | .chainLatch => Sys2Proof.Machine.execChainLatch s
  | .chainLatTimeout => Sys2Proof.Machine.execChainLatTimeout s
  | .wireDone => Sys2Proof.Machine.execWireDone s
  | .loopEvaluation k => Sys2Proof.Machine.execLoopEvaluation k s
  | .pwmPeriod n => Sys2Proof.Machine.execPwmPeriod n s
  | .spiFrame miso => Sys2Proof.Machine.execSpiFrame miso s
  | .encoderEdge n chanB rising stamp => Sys2Proof.Machine.execEncoderEdge n chanB rising stamp s
  | .encoderIndex n stamp => Sys2Proof.Machine.execEncoderIndex n stamp s
  | .comparatorEdge c upper rising stamp => Sys2Proof.Machine.execComparatorEdge c upper rising stamp s
  | .pulserInject t upper stamp => Sys2Proof.Machine.execPulserInject t upper stamp s
  | .liveTableUpdate t upper => Sys2Proof.Machine.execLiveTableUpdate t upper s
  | .laneHold t upper => Sys2Proof.Machine.execLaneHold t upper s
  | .thresholdApply c => Sys2Proof.Machine.execThresholdApply c s
  | .watermarkStall t => Sys2Proof.Machine.execWatermarkStall t s
  | .evEdge k rising stamp => Sys2Proof.Machine.execEvEdge k rising stamp s
  | .freqGateClose k => Sys2Proof.Machine.execFreqGateClose k s
  | .passOpen e shot => Sys2Proof.Machine.execPassOpen e shot s
  | .hitRelease e => Sys2Proof.Machine.execHitRelease e s
  | .burstTest e => Sys2Proof.Machine.execBurstTest e s
  | .passClose e shot => Sys2Proof.Machine.execPassClose e shot s
  | .groupHandover e => Sys2Proof.Machine.execGroupHandover e s
  | .engineTimer e => Sys2Proof.Machine.execEngineTimer e s
  | .runStart e => Sys2Proof.Machine.execRunStart e s
  | .primNop e => Sys2Proof.Machine.execPrimNop e s
  | .primEnd e => Sys2Proof.Machine.execPrimEnd e s
  | .primBranch e => Sys2Proof.Machine.execPrimBranch e s
  | .primLoop e => Sys2Proof.Machine.execPrimLoop e s
  | .primWait e => Sys2Proof.Machine.execPrimWait e s
  | .waitResume e => Sys2Proof.Machine.execWaitResume e s
  | .primChan e => Sys2Proof.Machine.execPrimChan e s
  | .primSetv e => Sys2Proof.Machine.execPrimSetv e s
  | .primMovv e => Sys2Proof.Machine.execPrimMovv e s
  | .primAddv e => Sys2Proof.Machine.execPrimAddv e s
  | .primSubv e => Sys2Proof.Machine.execPrimSubv e s
  | .primMulv e => Sys2Proof.Machine.execPrimMulv e s
  | .primLdv e => Sys2Proof.Machine.execPrimLdv e s
  | .primStv e => Sys2Proof.Machine.execPrimStv e s
  | .primGetd e => Sys2Proof.Machine.execPrimGetd e s
  | .primGetp e => Sys2Proof.Machine.execPrimGetp e s
  | .primFlag e => Sys2Proof.Machine.execPrimFlag e s
  | .primBin e => Sys2Proof.Machine.execPrimBin e s
  | .primClear e => Sys2Proof.Machine.execPrimClear e s
  | .primCopy e => Sys2Proof.Machine.execPrimCopy e s
  | .primDecay e => Sys2Proof.Machine.execPrimDecay e s
  | .primVadd e => Sys2Proof.Machine.execPrimVadd e s
  | .primVscale e => Sys2Proof.Machine.execPrimVscale e s
  | .primConv e => Sys2Proof.Machine.execPrimConv e s
  | .primVsum e => Sys2Proof.Machine.execPrimVsum e s
  | .primVmax e => Sys2Proof.Machine.execPrimVmax e s
  | .primVmin e => Sys2Proof.Machine.execPrimVmin e s
  | .primPscan e => Sys2Proof.Machine.execPrimPscan e s
  | .primCentroid e => Sys2Proof.Machine.execPrimCentroid e s
  | .primParab e => Sys2Proof.Machine.execPrimParab e s
  | .primPlain e => Sys2Proof.Machine.execPrimPlain e s
  | .primValley e => Sys2Proof.Machine.execPrimValley e s
  | .primColtest e => Sys2Proof.Machine.execPrimColtest e s
  | .primClassify e => Sys2Proof.Machine.execPrimClassify e s
  | .primGhost e => Sys2Proof.Machine.execPrimGhost e s
  | .primVeil e => Sys2Proof.Machine.execPrimVeil e s
  | .primEmit e => Sys2Proof.Machine.execPrimEmit e s
  | .primDump e => Sys2Proof.Machine.execPrimDump e s
  | .primEmitev e => Sys2Proof.Machine.execPrimEmitev e s
  | .emitResume e => Sys2Proof.Machine.execEmitResume e s
  | .primXstamp e => Sys2Proof.Machine.execPrimXstamp e s
  | .xstampComplete e => Sys2Proof.Machine.execXstampComplete e s
  | .primStload e => Sys2Proof.Machine.execPrimStload e s
  | .recordBuild pid => Sys2Proof.Machine.execRecordBuild pid s
  | .frameClose pid => Sys2Proof.Machine.execFrameClose pid s
  | .frameTransmit server => Sys2Proof.Machine.execFrameTransmit server s
  | .frameDelivered server => Sys2Proof.Machine.execFrameDelivered server s
  | .streamStallSuspend pid => Sys2Proof.Machine.execStreamStallSuspend pid s
  | .ambientCheck c => Sys2Proof.Machine.execAmbientCheck c s
  | .allocEffect => Sys2Proof.Machine.execAllocEffect s
  | .gainBoundary input => Sys2Proof.Machine.execGainBoundary input s
  | .gainTimeout input => Sys2Proof.Machine.execGainTimeout input s
  | .apply l => Sys2Proof.Machine.execApply l s
  | .disarm u => Sys2Proof.Machine.execDisarm u s
  | .triggerSample u codes => Sys2Proof.Machine.execTriggerSample u codes s
  | .captureEnd u codes => Sys2Proof.Machine.execCaptureEnd u codes s
  | .rearmDone u => Sys2Proof.Machine.execRearmDone u s
  | .captureAreaFree u => Sys2Proof.Machine.execCaptureAreaFree u s
  | .wfdRotationStep shadow trims => Sys2Proof.Machine.execWfdRotationStep shadow trims s
  | .wfdSliceMigration j => Sys2Proof.Machine.execWfdSliceMigration j s
  | .hkCycleStart => Sys2Proof.Machine.execHkCycleStart s
  | .hkStep path codes iexCurrent => Sys2Proof.Machine.execHkStep path codes iexCurrent s
  | .hkMonitorReport path short => Sys2Proof.Machine.execHkMonitorReport path short s
  | .go => Sys2Proof.Machine.execGo s
  | .hkRotationStep shadow trims => Sys2Proof.Machine.execHkRotationStep shadow trims s
  | .hkSliceMigration j => Sys2Proof.Machine.execHkSliceMigration j s
  | .thermalReading readings => Sys2Proof.Machine.execThermalReading readings s
  | .throttleStepChange => Sys2Proof.Machine.execThrottleStepChange s
  | .appliedSetBuild => Sys2Proof.Machine.execAppliedSetBuild s
  | .calAutoRun => Sys2Proof.Machine.execCalAutoRun s
  | .calRunEnd result => Sys2Proof.Machine.execCalRunEnd result s
  | .firstCalStart => Sys2Proof.Machine.execFirstCalStart s
  | .calsetWriteback k => Sys2Proof.Machine.execCalsetWriteback k s
  | .warmupGate stamps => Sys2Proof.Machine.execWarmupGate stamps s
  | .ocxoWarmChange level => Sys2Proof.Machine.execOcxoWarmChange level s
  | .clockLoss clock => Sys2Proof.Machine.execClockLoss clock s
  | .clockReturn clock => Sys2Proof.Machine.execClockReturn clock s
  | .refLock ok => Sys2Proof.Machine.execRefLock ok s
  | .ptpCorrectionEffect p => Sys2Proof.Machine.execPtpCorrectionEffect p s
  | .ptpWrap p forward => Sys2Proof.Machine.execPtpWrap p forward s
  | .counterWrap => Sys2Proof.Machine.execCounterWrap s
  | .ptpIngress p udpPort payload tEvt tEdge => Sys2Proof.Machine.execPtpIngress p udpPort payload tEvt tEdge s
  | .launch p tEvt tEdge => Sys2Proof.Machine.execLaunch p tEvt tEdge s
  | .crossStampEvent stamp => Sys2Proof.Machine.execCrossStampEvent stamp s
  | .crossStampTimeout => Sys2Proof.Machine.execCrossStampTimeout s
  | .safetyCycle pins => Sys2Proof.Machine.execSafetyCycle pins s
  | .spdinEdge t => Sys2Proof.Machine.execSpdinEdge t s
  | .speedBelowLimit => Sys2Proof.Machine.execSpeedBelowLimit s
  | .guardDisc => Sys2Proof.Machine.execGuardDisc s
  | .guardTestDone => Sys2Proof.Machine.execGuardTestDone s
  | .brakeFeedbackCheck sw => Sys2Proof.Machine.execBrakeFeedbackCheck sw s
  | .testPulse which fb => Sys2Proof.Machine.execTestPulse which fb s
  | .watchdogExpiry => Sys2Proof.Machine.execWatchdogExpiry s
  | .safetyTelegram port data => Sys2Proof.Machine.execSafetyTelegram port data s
  | .statusTelegram => Sys2Proof.Machine.execStatusTelegram s
  | .safParamPairTimeout => Sys2Proof.Machine.execSafParamPairTimeout s
  | .paramActivate writeOk => Sys2Proof.Machine.execParamActivate writeOk s
  | .paramLapse => Sys2Proof.Machine.execParamLapse s
  | .outputRefreshTimeout out => Sys2Proof.Machine.execOutputRefreshTimeout out s
  | .islandReset cause => Sys2Proof.Machine.execIslandReset cause s
  | .islandPowerOn stores => Sys2Proof.Machine.execIslandPowerOn stores s
  | .incidentWindowClose iseq => Sys2Proof.Machine.execIncidentWindowClose iseq s
  | .incidentFrameRepeat seq => Sys2Proof.Machine.execIncidentFrameRepeat seq s
  | .tdcMigration c => Sys2Proof.Machine.execTdcMigration c s
  | .engineMigration uncopyable => Sys2Proof.Machine.execEngineMigration uncopyable s
  | .heartbeatTimeout e => Sys2Proof.Machine.execHeartbeatTimeout e s
  | .ccSwitchover => Sys2Proof.Machine.execCcSwitchover s
  | .thrumiWatchdog => Sys2Proof.Machine.execThrumiWatchdog s
  | .pairRejoin ok => Sys2Proof.Machine.execPairRejoin ok s
  | .bistPeriodic => Sys2Proof.Machine.execBistPeriodic s
  | .repairMapWriteback => Sys2Proof.Machine.execRepairMapWriteback s
  | .sramError addr => Sys2Proof.Machine.execSramError addr s
  | .sramRowRepair macro_ row => Sys2Proof.Machine.execSramRowRepair macro_ row s
  | .sramScrub errs => Sys2Proof.Machine.execSramScrub errs s
  | .retrain c passes => Sys2Proof.Machine.execRetrain c passes s
  | .dramRowRepair row pprOk => Sys2Proof.Machine.execDramRowRepair row pprOk s
  | .dramUncorrectable addr => Sys2Proof.Machine.execDramUncorrectable addr s
  | .channelFallback c => Sys2Proof.Machine.execChannelFallback c s
  | .blockLock p => Sys2Proof.Machine.execBlockLock p s
  | .timeExchange p x => Sys2Proof.Machine.execTimeExchange p x s
  | .linkJoin => Sys2Proof.Machine.execLinkJoin s
  | .linkDown p => Sys2Proof.Machine.execLinkDown p s
  | .syncFull shot => Sys2Proof.Machine.execSyncFull shot s
  | .syncShot pid low16 low26 arrival => Sys2Proof.Machine.execSyncShot pid low16 low26 arrival s
  | .waitReport dev tag => Sys2Proof.Machine.execWaitReport dev tag s
  | .waitRelease tag low32 => Sys2Proof.Machine.execWaitRelease tag low32 s
  | .ack seq => Sys2Proof.Machine.execAck seq s
  | .linkFrame p kind dev sess seq data crcOk => Sys2Proof.Machine.execLinkFrame p kind dev sess seq data crcOk s
  | .porst powerUp straps bootId => Sys2Proof.Machine.execPorst powerUp straps bootId s
  | .loading => Sys2Proof.Machine.execLoading s
  | .bringup b => Sys2Proof.Machine.execBringup b s
  | .ready => Sys2Proof.Machine.execReady s
  | .ethFrameReceived p frame => Sys2Proof.Machine.execEthFrameReceived p frame s
  | .pcieLinkTrained width speed => Sys2Proof.Machine.execPcieLinkTrained width speed s
  | .porstLAssert => Sys2Proof.Machine.execPorstLAssert s
  | .parityError engine idx => Sys2Proof.Machine.execParityError engine idx s
  | .runLongerThanWcet e => Sys2Proof.Machine.execRunLongerThanWcet e s
  | .lockstepMismatch => Sys2Proof.Machine.execLockstepMismatch s
  | .dramScrub errs => Sys2Proof.Machine.execDramScrub errs s
  | .fwActivateDone => Sys2Proof.Machine.execFwActivateDone s
  | .selftestDone failed => Sys2Proof.Machine.execSelftestDone failed s

end Sys2Proof.Machine
end

