-- ==== Sys2Proof/Safety.lean ====
section
/-!
DEFINITION. The terms in which the claims are stated: when a packet is accepted, which parts of the state a command
leaves alone, and the canonical form of every store.
-/
namespace Sys2Proof.Machine

/-! Acceptance of a packet (01 R21; 02 R43, R44, R57 to R62). -/

/-- The sequence of a packet is neither in its session's cache nor stale (02 R44). -/
def Session.accepts (x : Session) (q : Half) : Bool :=
  !(x.cache.any fun e => e.sequence == q) &&
    (match x.newest with
      | some n => decide ((q - n).toNat < 32768)
      | none => true)

/-- The packet of an opcode is taken now from its queue, and comes up to the checks of 02 R43 that look at its opcode:
the state in which these are made, and the time at which the packet entered its queue. None where it waits, is
discarded, forwarded, or answered for its sequence. -/
def State.arrived (s : State) (opcode : Nat) (o : Origin) (r : Request) : Option (State × Nat) :=
  let p := r.packet opcode
  if s.deaf o then none
  else match s.taken o (.packet p) with
    | none => none
    | some x =>
      if bit p.flags.toNat 0 || bit p.flags.toNat 6 then none
      else match x.2.ensureSession o with
        | none => none
        | some t =>
          if p.target.toNat / 16 ≠ t.ifl.dev then none
          else match t.session o with
            | none => none
            | some y =>
              if y.accepts p.sequence then
                some (t.setSession o fun z => { z with newest := some p.sequence }, x.1)
              else none

/-- The packet of an opcode arrives and passes every check that 02 R43 makes before its effect: the state in which the
effect begins, and the time at which the packet entered its queue. -/
def State.accepted (s : State) (op : OpSpec) (o : Origin) (r : Request) : Option (State × Nat) :=
  match s.arrived op.opcode o r with
  | none => none
  | some x =>
    match firstFail [x.1.opChecks op o (r.packet op.opcode), x.1.stateChecks op (r.packet op.opcode) x.2] with
    | some _ => none
    | none => some x

/-- The state after a packet that entered its queue at a time has completed with status OK: the generation, the
journal, the cache and the reply of State.finish. -/
def State.answered (t : State) (opcode : Nat) (o : Origin) (r : Request) (entered : Nat)
    (payload : List Byte := []) : State :=
  t.finish o (r.packet opcode) entered OK 0 payload

/-- The state after a packet that completes later has been answered ACCEPTED. -/
def State.answeredAccepted (t : State) (opcode : Nat) (o : Origin) (r : Request) (entered : Nat)
    (payload : List Byte := []) : State :=
  t.finish o (r.packet opcode) entered ACCEPTED 0 payload

/-- The state after a packet has been refused with a status and a detail. -/
def State.answeredRefusal (t : State) (opcode : Nat) (o : Origin) (r : Request) (entered status detail : Nat) : State :=
  t.finish o (r.packet opcode) entered status detail []

/-- The state in which a packet's reply waits for an effect outside Thrumi. -/
def State.deferring (t : State) (opcode : Nat) (o : Origin) (r : Request) (entered since : Nat) : State :=
  { t with pk.deferred := some { origin := o, packet := r.packet opcode, entered := entered, since := since } }

/-! What a command leaves alone. -/

/-- The parts of the state. -/
inductive Part where
  | pending | time | drawn | sb | regs | pk | pg | seq | emt | cle | hch | hen | wfd | out | adm | tim | hka | thm
  | mem | saf | rep | ifl | boot
  deriving DecidableEq, Repr

/-- A part is the same in two states. -/
def Part.same (p : Part) (s t : State) : Prop :=
  match p with
  | .pending => t.pending = s.pending
  | .time => t.time = s.time
  | .drawn => t.drawn = s.drawn
  | .sb => t.sb = s.sb
  | .regs => t.regs = s.regs
  | .pk => t.pk = s.pk
  | .pg => t.pg = s.pg
  | .seq => t.seq = s.seq
  | .emt => t.emt = s.emt
  | .cle => t.cle = s.cle
  | .hch => t.hch = s.hch
  | .hen => t.hen = s.hen
  | .wfd => t.wfd = s.wfd
  | .out => t.out = s.out
  | .adm => t.adm = s.adm
  | .tim => t.tim = s.tim
  | .hka => t.hka = s.hka
  | .thm => t.thm = s.thm
  | .mem => t.mem = s.mem
  | .saf => t.saf = s.saf
  | .rep => t.rep = s.rep
  | .ifl => t.ifl = s.ifl
  | .boot => t.boot = s.boot

/-- Every part but those listed is the same in two states. -/
def State.keeps (s t : State) (changed : List Part) : Prop := ∀ p, p ∉ changed → p.same s t

/-- Every register but those of a list reads the same in two states. -/
def State.keepsRegs (s t : State) (changed : List Nat) : Prop := ∀ a, a ∉ changed → t.reg a = s.reg a

/-- The parts of the state that the safety island may change: its own, and what its records, incidents, EVENTs and
replies pass through (16 R401, R411; 17 R430). -/
def islandParts : List Part := [.saf, .out, .regs, .rep, .drawn, .pk, .ifl]

/-! Runs of an engine (07 R189, R194, R195). -/

/-- An engine's run executes a word that no loop holds and that is not the last of its program. -/
def State.straight (s : State) (e : Nat) (y : Engine) (r : EngRun) (w : Prim) : Prop :=
  s.primAt e = some (y, r, w) ∧ y.loops = [] ∧ y.pc + 1 < (y.words r.half).length ∧ y.v.length = 16

/-- The run of an engine has gone on by one word of some cycles: every other engine, every part but the engines and
the registers, and every register but those of a list are as before. -/
def State.goesOn (s t : State) (e cycles : Nat) (changed : List Nat) : Prop :=
  (t.eng e).pc = (s.eng e).pc + 1 ∧
    (t.eng e).run.map EngRun.cycles = (s.eng e).run.map (fun r => r.cycles + cycles) ∧
    (∀ k, k ≠ e → t.eng k = s.eng k) ∧ s.keepsRegs t changed ∧ s.keeps t [.regs, .hen]

/-- One slot of an engine has taken a value limited to 32 bits; VSAT says whether it was limited. No other slot and
no byte of the engine's memory has changed. -/
def State.slotSet (s t : State) (e i : Nat) (v : Int) : Prop :=
  (t.eng e).v = (s.eng e).v.set i (sat32 v) ∧ (t.eng e).mem = (s.eng e).mem ∧
    bit (t.regN (HEN_STAT e)) 3 = (bit (s.regN (HEN_STAT e)) 3 || sat32 v != v)

/-! Stores. -/

/-- Every store of the state has its canonical form: addresses strictly rising, and no entry equal to what an
unlisted address reads as. -/
def State.wf (s : State) : Bool :=
  Sparse.wf regReset s.regs && Sparse.wf zeroByte s.mem.dram && Sparse.wf zeroByte s.mem.host &&
    Sparse.wf zeroByte s.thm.staging && Sparse.wf erased s.boot.flash &&
    s.hen.all fun x => Sparse.wf zeroByte x.mem

end Sys2Proof.Machine
end

