-- ==== Sys2Proof/WellFormed.lean ====
section
/-!
DEFINITION. Well-formed commands: what the row of a command requires of its operands beyond their types (02 R35,
R51; 03 R522; 07 R200; 20 R484, R486). A meaning is total all the same; an ill-formed command is one that its row
does not name.
-/
namespace Sys2Proof

/-- LENGTH is at most 4,080 (02 R35). -/
def Request.fits (r : Request) : Bool := decide (r.payload.length ≤ 4080)

/-- The byte at an offset of a payload of the opcode's length is the value of the row: one opcode may have several
rows, split by that byte. -/
def Request.carries (r : Request) (len off value : Nat) : Bool :=
  r.payload.length != len || Machine.field r.payload off 1 == value

/-- A number stands in a range. -/
def within_ (v lo hi : Nat) : Bool := decide (lo ≤ v) && decide (v ≤ hi)

/-- The origin, the opcode and the request of a row that is a command packet. -/
def Instr.sent (i : Instr) : Option (Origin × Byte × Request) :=
  match i with
  | .nop o r => some (o, 0x00#8, r)
  | .ident o r => some (o, 0x01#8, r)
  | .status o r => some (o, 0x02#8, r)
  | .sessionOpen o r => some (o, 0x03#8, r)
  | .sessionClose o r => some (o, 0x04#8, r)
  | .tableLoad o r => some (o, 0x10#8, r)
  | .tableCommit o r => some (o, 0x11#8, r)
  | .tableDelete o r => some (o, 0x12#8, r)
  | .tableList o r => some (o, 0x13#8, r)
  | .progSubmit o r => some (o, 0x20#8, r)
  | .progStart o r => some (o, 0x21#8, r)
  | .progStopEndOfSegment o r => some (o, 0x22#8, r)
  | .progStopImmediate o r => some (o, 0x22#8, r)
  | .progWithdraw o r => some (o, 0x23#8, r)
  | .progStatus o r => some (o, 0x24#8, r)
  | .fireConfig o r => some (o, 0x30#8, r)
  | .matrixConfig o r => some (o, 0x31#8, r)
  | .budgetSet o r => some (o, 0x32#8, r)
  | .shortTest o r => some (o, 0x33#8, r)
  | .chainWrite o r _ => some (o, 0x34#8, r)
  | .wireWrite o r => some (o, 0x35#8, r)
  | .threshSet o r => some (o, 0x40#8, r)
  | .chanEnable o r => some (o, 0x41#8, r)
  | .captureMode o r => some (o, 0x42#8, r)
  | .eventInput o r => some (o, 0x43#8, r)
  | .freqMeasure o r => some (o, 0x44#8, r)
  | .engLoad o r => some (o, 0x50#8, r)
  | .engCommit o r => some (o, 0x51#8, r)
  | .engMap o r => some (o, 0x52#8, r)
  | .engControlRun o r => some (o, 0x53#8, r)
  | .engControlHalt o r => some (o, 0x53#8, r)
  | .wfAlloc o r => some (o, 0x60#8, r)
  | .wfGain o r => some (o, 0x61#8, r)
  | .captureConfig o r => some (o, 0x62#8, r)
  | .captureArm o r => some (o, 0x63#8, r)
  | .captureTrigger o r => some (o, 0x64#8, r)
  | .loopCoef o r => some (o, 0x70#8, r)
  | .loopSwap o r => some (o, 0x71#8, r)
  | .loopSetpoint o r => some (o, 0x72#8, r)
  | .loopMode o r => some (o, 0x73#8, r)
  | .loopIo o r => some (o, 0x74#8, r)
  | .timeRead o r => some (o, 0x80#8, r)
  | .timeIncr o r => some (o, 0x81#8, r)
  | .timeStep o r => some (o, 0x82#8, r)
  | .crossStamp o r => some (o, 0x83#8, r)
  | .launchAt o r => some (o, 0x84#8, r)
  | .refSelect o r => some (o, 0x85#8, r)
  | .hkSequence o r => some (o, 0x90#8, r)
  | .hkChannel o r => some (o, 0x91#8, r)
  | .thermThresh o r => some (o, 0x92#8, r)
  | .thermSubst o r => some (o, 0x93#8, r)
  | .safStatus o r => some (o, 0xA0#8, r)
  | .safParam o r => some (o, 0xA1#8, r)
  | .safAbort o r => some (o, 0xA2#8, r)
  | .repSummary o r => some (o, 0xB0#8, r)
  | .repMigrate o r => some (o, 0xB1#8, r)
  | .repSelftest o r => some (o, 0xB2#8, r)
  | .regRead o r => some (o, 0xC0#8, r)
  | .regWrite o r => some (o, 0xC1#8, r)
  | .regModify o r => some (o, 0xC2#8, r)
  | .memRead o r => some (o, 0xC3#8, r)
  | .memWrite o r => some (o, 0xC4#8, r)
  | .snapshot o r => some (o, 0xC5#8, r)
  | .snapshotRelease o r => some (o, 0xC6#8, r)
  | .calRun o r => some (o, 0xD0#8, r)
  | .calActivate o r => some (o, 0xD1#8, r)
  | .calStatus o r => some (o, 0xD2#8, r)
  | .treeStatus o r => some (o, 0xE0#8, r)
  | .treeConfig o r => some (o, 0xE1#8, r)
  | .workerResync o r => some (o, 0xE2#8, r)
  | .fwWrite o r => some (o, 0xF0#8, r)
  | .fwActivate o r => some (o, 0xF1#8, r)
  | .resetFirmwareRestart o r => some (o, 0xF2#8, r)
  | .resetMeasuringCore o r => some (o, 0xF2#8, r)
  | .resetWholeDevice o r => some (o, 0xF2#8, r)
  | .resetTakesEffect => none
  | .flashRead o r => some (o, 0xF3#8, r)
  | .packetForward o opcode r => some (o, opcode, r)
  | .packetDiscard _ _ => none
  | .stageTimeout _ => none
  | .snapshotDone _ => none
  | .snapshotExpiry _ => none
  | .registerWrite _ _ _ => none
  | .mspiWritePacket _ => none
  | .mspiReadReply => none
  | .mspiReadStatus => none
  | .responderTakeover => none
  | .outCmdqTail _ _ _ => none
  | .outRplqTail _ _ _ => none
  | .outDringTail _ _ _ => none
  | .functionLevelReset => none
  | .pciePerst => none
  | .arpRequest _ _ _ _ => none
  | .dringIrq _ => none
  | .shotCommit => none
  | .budgetIdleUpdate _ => none
  | .programStartInstant _ => none
  | .fireEdge _ => none
  | .fireStampMissing _ => none
  | .waitReleased _ => none
  | .waitTimeout _ => none
  | .otPinShutdown => none
  | .otClear _ _ => none
  | .shortTestDone _ => none
  | .chainLatch => none
  | .chainLatTimeout => none
  | .wireDone => none
  | .loopEvaluation _ => none
  | .pwmPeriod _ => none
  | .spiFrame _ => none
  | .encoderEdge _ _ _ _ => none
  | .encoderIndex _ _ => none
  | .comparatorEdge _ _ _ _ => none
  | .pulserInject _ _ _ => none
  | .liveTableUpdate _ _ => none
  | .laneHold _ _ => none
  | .thresholdApply _ => none
  | .watermarkStall _ => none
  | .evEdge _ _ _ => none
  | .freqGateClose _ => none
  | .passOpen _ _ => none
  | .hitRelease _ => none
  | .burstTest _ => none
  | .passClose _ _ => none
  | .groupHandover _ => none
  | .engineTimer _ => none
  | .runStart _ => none
  | .primNop _ => none
  | .primEnd _ => none
  | .primBranch _ => none
  | .primLoop _ => none
  | .primWait _ => none
  | .waitResume _ => none
  | .primChan _ => none
  | .primSetv _ => none
  | .primMovv _ => none
  | .primAddv _ => none
  | .primSubv _ => none
  | .primMulv _ => none
  | .primLdv _ => none
  | .primStv _ => none
  | .primGetd _ => none
  | .primGetp _ => none
  | .primFlag _ => none
  | .primBin _ => none
  | .primClear _ => none
  | .primCopy _ => none
  | .primDecay _ => none
  | .primVadd _ => none
  | .primVscale _ => none
  | .primConv _ => none
  | .primVsum _ => none
  | .primVmax _ => none
  | .primVmin _ => none
  | .primPscan _ => none
  | .primCentroid _ => none
  | .primParab _ => none
  | .primPlain _ => none
  | .primValley _ => none
  | .primColtest _ => none
  | .primClassify _ => none
  | .primGhost _ => none
  | .primVeil _ => none
  | .primEmit _ => none
  | .primDump _ => none
  | .primEmitev _ => none
  | .emitResume _ => none
  | .primXstamp _ => none
  | .xstampComplete _ => none
  | .primStload _ => none
  | .recordBuild _ => none
  | .frameClose _ => none
  | .frameTransmit _ => none
  | .frameDelivered _ => none
  | .streamStallSuspend _ => none
  | .ambientCheck _ => none
  | .allocEffect => none
  | .gainBoundary _ => none
  | .gainTimeout _ => none
  | .apply _ => none
  | .disarm _ => none
  | .triggerSample _ _ => none
  | .captureEnd _ _ => none
  | .rearmDone _ => none
  | .captureAreaFree _ => none
  | .wfdRotationStep _ _ => none
  | .wfdSliceMigration _ => none
  | .hkCycleStart => none
  | .hkStep _ _ _ => none
  | .hkMonitorReport _ _ => none
  | .go => none
  | .hkRotationStep _ _ => none
  | .hkSliceMigration _ => none
  | .thermalReading _ => none
  | .throttleStepChange => none
  | .appliedSetBuild => none
  | .calAutoRun => none
  | .calRunEnd _ => none
  | .firstCalStart => none
  | .calsetWriteback _ => none
  | .warmupGate _ => none
  | .ocxoWarmChange _ => none
  | .clockLoss _ => none
  | .clockReturn _ => none
  | .refLock _ => none
  | .ptpCorrectionEffect _ => none
  | .ptpWrap _ _ => none
  | .counterWrap => none
  | .ptpIngress _ _ _ _ _ => none
  | .launch _ _ _ => none
  | .crossStampEvent _ => none
  | .crossStampTimeout => none
  | .safetyCycle _ => none
  | .spdinEdge _ => none
  | .speedBelowLimit => none
  | .guardDisc => none
  | .guardTestDone => none
  | .brakeFeedbackCheck _ => none
  | .testPulse _ _ => none
  | .watchdogExpiry => none
  | .safetyTelegram _ _ => none
  | .statusTelegram => none
  | .safParamPairTimeout => none
  | .paramActivate _ => none
  | .paramLapse => none
  | .outputRefreshTimeout _ => none
  | .islandReset _ => none
  | .islandPowerOn _ => none
  | .incidentWindowClose _ => none
  | .incidentFrameRepeat _ => none
  | .tdcMigration _ => none
  | .engineMigration _ => none
  | .heartbeatTimeout _ => none
  | .ccSwitchover => none
  | .thrumiWatchdog => none
  | .pairRejoin _ => none
  | .bistPeriodic => none
  | .repairMapWriteback => none
  | .sramError _ => none
  | .sramRowRepair _ _ => none
  | .sramScrub _ => none
  | .retrain _ _ => none
  | .dramRowRepair _ _ => none
  | .dramUncorrectable _ => none
  | .channelFallback _ => none
  | .blockLock _ => none
  | .timeExchange _ _ => none
  | .linkJoin => none
  | .linkDown _ => none
  | .syncFull _ => none
  | .syncShot _ _ _ _ => none
  | .waitReport _ _ => none
  | .waitRelease _ _ => none
  | .ack _ => none
  | .linkFrame _ _ _ _ _ _ _ => none
  | .porst _ _ _ => none
  | .loading => none
  | .bringup _ => none
  | .ready => none
  | .ethFrameReceived _ _ => none
  | .pcieLinkTrained _ _ => none
  | .porstLAssert => none
  | .parityError _ _ => none
  | .runLongerThanWcet _ => none
  | .lockstepMismatch => none
  | .dramScrub _ => none
  | .fwActivateDone => none
  | .selftestDone _ => none

/-- The checks of a command's operands. -/
def Instr.wf (i : Instr) : Bool :=
  match i with
  | .nop _ r => r.fits
  | .ident _ r => r.fits
  | .status _ r => r.fits
  | .sessionOpen _ r => r.fits
  | .sessionClose _ r => r.fits
  | .tableLoad _ r => r.fits
  | .tableCommit _ r => r.fits
  | .tableDelete _ r => r.fits
  | .tableList _ r => r.fits
  | .progSubmit _ r => r.fits
  | .progStart _ r => r.fits
  | .progStopEndOfSegment _ r => r.fits && r.carries 4 2 0
  | .progStopImmediate _ r => r.fits && r.carries 4 2 1
  | .progWithdraw _ r => r.fits
  | .progStatus _ r => r.fits
  | .fireConfig _ r => r.fits
  | .matrixConfig _ r => r.fits
  | .budgetSet _ r => r.fits
  | .shortTest _ r => r.fits
  | .chainWrite _ r _ => r.fits
  | .wireWrite _ r => r.fits
  | .threshSet _ r => r.fits
  | .chanEnable _ r => r.fits
  | .captureMode _ r => r.fits
  | .eventInput _ r => r.fits
  | .freqMeasure _ r => r.fits
  | .engLoad _ r => r.fits
  | .engCommit _ r => r.fits
  | .engMap _ r => r.fits
  | .engControlRun _ r => r.fits && r.carries 4 1 1
  | .engControlHalt _ r => r.fits && r.carries 4 1 0
  | .wfAlloc _ r => r.fits
  | .wfGain _ r => r.fits
  | .captureConfig _ r => r.fits
  | .captureArm _ r => r.fits
  | .captureTrigger _ r => r.fits
  | .loopCoef _ r => r.fits
  | .loopSwap _ r => r.fits
  | .loopSetpoint _ r => r.fits
  | .loopMode _ r => r.fits
  | .loopIo _ r => r.fits
  | .timeRead _ r => r.fits
  | .timeIncr _ r => r.fits
  | .timeStep _ r => r.fits
  | .crossStamp _ r => r.fits
  | .launchAt _ r => r.fits
  | .refSelect _ r => r.fits
  | .hkSequence _ r => r.fits
  | .hkChannel _ r => r.fits
  | .thermThresh _ r => r.fits
  | .thermSubst _ r => r.fits
  | .safStatus _ r => r.fits
  | .safParam _ r => r.fits
  | .safAbort _ r => r.fits
  | .repSummary _ r => r.fits
  | .repMigrate _ r => r.fits
  | .repSelftest _ r => r.fits
  | .regRead _ r => r.fits
  | .regWrite _ r => r.fits
  | .regModify _ r => r.fits
  | .memRead _ r => r.fits
  | .memWrite _ r => r.fits
  | .snapshot _ r => r.fits
  | .snapshotRelease _ r => r.fits
  | .calRun _ r => r.fits
  | .calActivate _ r => r.fits
  | .calStatus _ r => r.fits
  | .treeStatus _ r => r.fits
  | .treeConfig _ r => r.fits
  | .workerResync _ r => r.fits
  | .fwWrite _ r => r.fits
  | .fwActivate _ r => r.fits
  | .resetFirmwareRestart _ r => r.fits && r.carries 4 0 0
  | .resetMeasuringCore _ r => r.fits && r.carries 4 0 1
  | .resetWholeDevice _ r => r.fits && r.carries 4 0 2
  | .resetTakesEffect => true
  | .flashRead _ r => r.fits
  | .packetForward _ _ r => r.fits
  | .packetDiscard _ raw => decide (raw.length ≤ 65536)
  | .stageTimeout _ => true
  | .snapshotDone _ => true
  | .snapshotExpiry _ => true
  | .registerWrite _ addr values => addr % 4 == 0 && decide (addr + 4 * values.length ≤ 0x100000) && !values.isEmpty
  | .mspiWritePacket _ => true
  | .mspiReadReply => true
  | .mspiReadStatus => true
  | .responderTakeover => true
  | .outCmdqTail _ tail packets => decide (tail.toNat ≤ 4095) && packets.all fun x => decide (x.length ≤ 4100)
  | .outRplqTail _ tail _ => decide (tail.toNat ≤ 4095)
  | .outDringTail _ tail _ => decide (tail.toNat ≤ 4095)
  | .functionLevelReset => true
  | .pciePerst => true
  | .arpRequest _ _ _ _ => true
  | .dringIrq _ => true
  | .shotCommit => true
  | .budgetIdleUpdate _ => true
  | .programStartInstant _ => true
  | .fireEdge _ => true
  | .fireStampMissing _ => true
  | .waitReleased _ => true
  | .waitTimeout _ => true
  | .otPinShutdown => true
  | .otClear _ _ => true
  | .shortTestDone readings => readings.length == 61
  | .chainLatch => true
  | .chainLatTimeout => true
  | .wireDone => true
  | .loopEvaluation _ => true
  | .pwmPeriod _ => true
  | .spiFrame _ => true
  | .encoderEdge _ _ _ _ => true
  | .encoderIndex _ _ => true
  | .comparatorEdge _ _ _ _ => true
  | .pulserInject _ _ _ => true
  | .liveTableUpdate _ _ => true
  | .laneHold _ _ => true
  | .thresholdApply _ => true
  | .watermarkStall _ => true
  | .evEdge _ _ _ => true
  | .freqGateClose _ => true
  | .passOpen _ _ => true
  | .hitRelease _ => true
  | .burstTest _ => true
  | .passClose _ _ => true
  | .groupHandover _ => true
  | .engineTimer _ => true
  | .runStart _ => true
  | .primNop _ => true
  | .primEnd _ => true
  | .primBranch _ => true
  | .primLoop _ => true
  | .primWait _ => true
  | .waitResume _ => true
  | .primChan _ => true
  | .primSetv _ => true
  | .primMovv _ => true
  | .primAddv _ => true
  | .primSubv _ => true
  | .primMulv _ => true
  | .primLdv _ => true
  | .primStv _ => true
  | .primGetd _ => true
  | .primGetp _ => true
  | .primFlag _ => true
  | .primBin _ => true
  | .primClear _ => true
  | .primCopy _ => true
  | .primDecay _ => true
  | .primVadd _ => true
  | .primVscale _ => true
  | .primConv _ => true
  | .primVsum _ => true
  | .primVmax _ => true
  | .primVmin _ => true
  | .primPscan _ => true
  | .primCentroid _ => true
  | .primParab _ => true
  | .primPlain _ => true
  | .primValley _ => true
  | .primColtest _ => true
  | .primClassify _ => true
  | .primGhost _ => true
  | .primVeil _ => true
  | .primEmit _ => true
  | .primDump _ => true
  | .primEmitev _ => true
  | .emitResume _ => true
  | .primXstamp _ => true
  | .xstampComplete _ => true
  | .primStload _ => true
  | .recordBuild _ => true
  | .frameClose _ => true
  | .frameTransmit _ => true
  | .frameDelivered _ => true
  | .streamStallSuspend _ => true
  | .ambientCheck _ => true
  | .allocEffect => true
  | .gainBoundary _ => true
  | .gainTimeout _ => true
  | .apply _ => true
  | .disarm _ => true
  | .triggerSample _ _ => true
  | .captureEnd _ _ => true
  | .rearmDone _ => true
  | .captureAreaFree _ => true
  | .wfdRotationStep _ trims => trims.length == 6
  | .wfdSliceMigration _ => true
  | .hkCycleStart => true
  | .hkStep _ _ _ => true
  | .hkMonitorReport _ _ => true
  | .go => true
  | .hkRotationStep _ trims => trims.length == 16
  | .hkSliceMigration _ => true
  | .thermalReading readings => readings.length == 24
  | .throttleStepChange => true
  | .appliedSetBuild => true
  | .calAutoRun => true
  | .calRunEnd _ => true
  | .firstCalStart => true
  | .calsetWriteback _ => true
  | .warmupGate _ => true
  | .ocxoWarmChange _ => true
  | .clockLoss _ => true
  | .clockReturn _ => true
  | .refLock _ => true
  | .ptpCorrectionEffect _ => true
  | .ptpWrap _ _ => true
  | .counterWrap => true
  | .ptpIngress _ _ _ _ _ => true
  | .launch _ _ _ => true
  | .crossStampEvent _ => true
  | .crossStampTimeout => true
  | .safetyCycle _ => true
  | .spdinEdge _ => true
  | .speedBelowLimit => true
  | .guardDisc => true
  | .guardTestDone => true
  | .brakeFeedbackCheck _ => true
  | .testPulse which _ => decide (which < 4)
  | .watchdogExpiry => true
  | .safetyTelegram _ data => data.length == 64
  | .statusTelegram => true
  | .safParamPairTimeout => true
  | .paramActivate _ => true
  | .paramLapse => true
  | .outputRefreshTimeout out => decide (out < 4)
  | .islandReset cause => within_ cause 8 11
  | .islandPowerOn stores => stores.length == 2
  | .incidentWindowClose _ => true
  | .incidentFrameRepeat _ => true
  | .tdcMigration _ => true
  | .engineMigration _ => true
  | .heartbeatTimeout _ => true
  | .ccSwitchover => true
  | .thrumiWatchdog => true
  | .pairRejoin _ => true
  | .bistPeriodic => true
  | .repairMapWriteback => true
  | .sramError _ => true
  | .sramRowRepair macro_ row => decide (macro_ < 604) && decide (row < 8192)
  | .sramScrub _ => true
  | .retrain _ _ => true
  | .dramRowRepair _ _ => true
  | .dramUncorrectable _ => true
  | .channelFallback _ => true
  | .blockLock _ => true
  | .timeExchange _ _ => true
  | .linkJoin => true
  | .linkDown _ => true
  | .syncFull _ => true
  | .syncShot _ _ _ _ => true
  | .waitReport _ _ => true
  | .waitRelease _ _ => true
  | .ack _ => true
  | .linkFrame _ _ _ _ _ _ _ => true
  | .porst _ straps _ => decide (straps.toNat < 4)
  | .loading => true
  | .bringup _ => true
  | .ready => true
  | .ethFrameReceived _ _ => true
  | .pcieLinkTrained _ _ => true
  | .porstLAssert => true
  | .parityError engine idx => decide (idx < if engine then 68 else 567)
  | .runLongerThanWcet _ => true
  | .lockstepMismatch => true
  | .dramScrub _ => true
  | .fwActivateDone => true
  | .selftestDone _ => true

end Sys2Proof
end

