-- ==== Sys2Proof/Certificates/Slice0/Obligations.lean ====
section
/-!
DEFINITION. The statements for the provers.
-/
open Sys2Proof Sys2Proof.Machine

/-- An accepted NOP echoes its payload; IDENT answers identity, firmware version, device, tree size and serial
number; STATUS answers the generation, the state word, and the counts of incidents and programs; SESSION_OPEN
writes the event class mask of its session, bits 13 to 0 only, and answers the session number; SESSION_CLOSE
ends the session. Nothing else changes but what the end of every packet changes. (The session number is a free
value.) -/
def Obligations.SessionCommandsComplete : Prop :=
  (∀ s u o r e, s.accepted nopOp o r = some (u, e) →
    exec (.nop o r) s = .next (u.answered 0x00 o r e r.payload)) ∧
  (∀ s u o r e, s.accepted identOp o r = some (u, e) →
    exec (.ident o r) s = .next (u.treeSize.2.answered 0x01 o r e
      (leBytes 4 u.ident ++ leBytes 4 (u.view BOOT_FW_VER) ++ leBytes 1 u.ifl.dev ++ leBytes 1 u.treeSize.1 ++
        [0, 0] ++ leBytes 8 Config.serial.toNat))) ∧
  (∀ s u o r e, s.accepted statusOp o r = some (u, e) → u.byResponder o = false →
    exec (.status o r) s = .next (u.answered 0x02 o r e
      (leBytes 4 u.gen.toNat ++ leBytes 4 u.glbStatus ++ leBytes 4 u.openIncidents ++
        leBytes 2 (u.present.filter fun p => p.2.live).length ++
        leBytes 2 (u.countProgs fun x => x == .suspended) ++ leBytes 1 (b2n u.tim.warm) ++
        leBytes 1 u.thm.step ++ [0, 0]))) ∧
  (∀ s u o r e, s.accepted statusOp o r = some (u, e) → u.byResponder o = true →
    exec (.status o r) s = .next (u.answered 0x02 o r e
      (leBytes 4 u.gen.toNat ++ leBytes 4 u.glbStatus ++ leBytes 4 0 ++ leBytes 2 0 ++ leBytes 2 0 ++
        leBytes 1 (b2n u.tim.warm) ++ leBytes 1 u.thm.step ++ [0, 0]))) ∧
  (∀ s u o r e x, s.accepted sessionOpenOp o r = some (u, e) → u.session o = some x →
    exec (.sessionOpen o r) s = .next
      ((u.setSession o fun y => { y with mask := BitVec.ofNat 32 (field r.payload 0 4 % 2 ^ 14) }).answered
        0x03 o r e [Config.sessionNumber x.num, 0, 0, 0])) ∧
  (∀ s u o r e, s.accepted sessionCloseOp o r = some (u, e) →
    exec (.sessionClose o r) s = .next ((u.closeSession o).answered 0x04 o r e))

/-- An accepted TABLE_LOAD completes: at offset 0, with no open transfer of the table in its session, it begins one;
with one, at the offset that the transfer has reached, it appends, up to 16 MB; at any other offset it answers
STAGE_ABORT and the transfer is gone. An accepted TABLE_COMMIT of a complete transfer whose length and CRC
match, with the format right, the tables and cross rules of every program that names it kept, admission passing
and room in the store, puts the table into the store at the lowest free run with the next generation. An
accepted TABLE_DELETE removes a table that exists, that no program names and no register selects. An accepted
TABLE_LIST answers the first 254 tables of the kind in ascending ID, and whether more exist. STAGE_TIMEOUT
discards a transfer idle for 1 s. -/
def Obligations.StagingAndTableCommandsComplete : Prop :=
  (∀ s u o r e, s.accepted tableLoadOp o r = some (u, e) →
    (∀ t, u.stageOf o = some t → t.whole = true ∨
      t.obj ≠ .table (BitVec.ofNat 8 (field r.payload 0 1)) (BitVec.ofNat 16 (field r.payload 2 2))) →
    exec (.tableLoad o r) s = .next (
      if field r.payload 4 4 = 0 then
        (u.setStage o (some
          { obj := .table (BitVec.ofNat 8 (field r.payload 0 1)) (BitVec.ofNat 16 (field r.payload 2 2))
            data := r.payload.drop 8, dataMem := [], gen := u.gen, cas := bit r.flags.toNat 1
            whole := !bit r.flags.toNat 5, last := u.time })).answered 0x10 o r e
      else (u.setStage o none).answeredRefusal 0x10 o r e STAGE_ABORT 0)) ∧
  (∀ s u o r e t, s.accepted tableLoadOp o r = some (u, e) → u.stageOf o = some t →
    t.obj = .table (BitVec.ofNat 8 (field r.payload 0 1)) (BitVec.ofNat 16 (field r.payload 2 2)) → t.whole = false →
    exec (.tableLoad o r) s = .next (
      if field r.payload 4 4 = t.data.length ∧ t.data.length + t.dataMem.length + (r.payload.length - 8) ≤ 2 ^ 24 then
        (u.setStage o (some
          { t with data := t.data ++ r.payload.drop 8, whole := !bit r.flags.toNat 5, last := u.time })).answered
            0x10 o r e
      else (u.setStage o none).answeredRefusal 0x10 o r e STAGE_ABORT 0)) ∧
  (∀ s u o r e t off, s.accepted tableCommitOp o r = some (u, e) → u.stageOf o = some t →
    t.obj = .table (BitVec.ofNat 8 (field r.payload 0 1)) (BitVec.ofNat 16 (field r.payload 2 2)) → t.whole = true →
    (t.cas = true → t.gen = u.gen) →
    t.data.length = field r.payload 4 4 → crc32c t.data = BitVec.ofNat 32 (field r.payload 8 4) →
    okTable (field r.payload 0 1) t.data = true →
    (u.setStage o none).findRun (16 * ceilDiv t.data.length 16) = some off →
    let v := (u.setStage o none).putTable
      { kind := BitVec.ofNat 8 (field r.payload 0 1), id := BitVec.ofNat 16 (field r.payload 2 2), data := t.data
        gen := u.gen + 1, offset := off }
    let named := u.present.any fun p => names p.2.image (field r.payload 0 1) (field r.payload 2 2)
    (∀ p ∈ u.present, names p.2.image (field r.payload 0 1) (field r.payload 2 2) = true →
      v.tablesExist p.2.image = true ∧ v.crossRules p.2.image = true) →
    (named = true → v.admissionNow = none) →
    exec (.tableCommit o r) s = .next ((if named then v.postShares else v).syncProfiles.answered 0x11 o r e)) ∧
  (∀ s u o r e, s.accepted tableDeleteOp o r = some (u, e) →
    (u.table (field r.payload 0 1) (field r.payload 2 2)).isSome = true →
    (∀ p ∈ u.present, names p.2.image (field r.payload 0 1) (field r.payload 2 2) = false) →
    u.selected (field r.payload 0 1) (field r.payload 2 2) = false →
    exec (.tableDelete o r) s = .next (State.answered { u with
      pg.tables := u.pg.tables.filter fun t =>
        !(t.kind.toNat == field r.payload 0 1 && t.id.toNat == field r.payload 2 2) } 0x12 o r e)) ∧
  (∀ s u o r e, s.accepted tableListOp o r = some (u, e) →
    exec (.tableList o r) s = .next (u.answered 0x13 o r e
      (let all := u.listTables (field r.payload 0 1) (field r.payload 2 2)
       leBytes 2 (all.take 254).length ++ leBytes 2 (b2n (decide (254 < all.length))) ++
         (all.take 254).flatMap fun t =>
           leBytes 2 t.id.toNat ++ [0, 0] ++ leBytes 4 t.data.length ++ leBytes 4 t.gen.toNat ++ leBytes 4 t.offset))) ∧
  (∀ (s : State) o x t, s.session o = some x → x.stage = some t → t.last + 1250000000 ≤ s.time →
    exec (.stageTimeout o) s = .next (s.setStage o none))

/-- A PROG_SUBMIT with MORE begins the session's transfer of a program image, or goes on with it; the packet that
completes an image, alone or behind what is staged, places the program in state IDLE when the checks of R64, the
admission of all programs with it and the search for a run of the store succeed, and answers the admission
summary. PROG_START arms a program that passes its checks, a suspended one only when admission passes again with
it, and answers FFh eight times. PROG_WITHDRAW removes a program that is not live. PROG_STATUS answers state,
cause, segment, last shot and counts. Mode 1 stops a live program at once and answers its last shot; mode 0
stops an ARMED or a WAITING program at once, and makes any other live one STOPPING, answering FFh eight times.
Of an ARMED program either mode answers FFh eight times. A program that is not live is refused with STATE, and
one that is not present with NOT_FOUND. -/
def Obligations.ProgramCommandsComplete : Prop :=
  ((∀ s u o r e t, s.accepted progSubmitOp o r = some (u, e) → bit r.flags.toNat 5 = true →
     (u.stageOf o = none ∧ t = { obj := .program (BitVec.ofNat 16 (field r.payload 0 2)), data := [], dataMem := []
                                 gen := u.gen, cas := bit r.flags.toNat 1, whole := false, last := u.time } ∨
       u.stageOf o = some t ∧ t.whole = false ∧ t.obj = .program (BitVec.ofNat 16 (field r.payload 0 2)) ∧
       t.data.length + t.dataMem.length + 4080 ≤ 2 ^ 24) →
     exec (.progSubmit o r) s = .next ((u.setStage o (some
       { t with data := t.data ++ r.payload.drop 4, whole := false, last := u.time })).answered 0x20 o r e)) ∧
   (∀ s u o r e before off, s.accepted progSubmitOp o r = some (u, e) → bit r.flags.toNat 5 = false →
     (u.stageOf o = none ∧ before = [] ∨ ∃ t, u.stageOf o = some t ∧ t.whole = false ∧ t.cas = false ∧
       t.obj = .program (BitVec.ofNat 16 (field r.payload 0 2)) ∧ before = t.data ∧
       t.data.length + t.dataMem.length + 4080 ≤ 2 ^ 24) →
     let pid := field r.payload 0 2
     let img := before ++ r.payload.drop 4
     let v := u.setStage o none
     let m := if stRoute (imStream img) = 2 then v.managerAnswer else (none, v)
     v.submitCheck pid img = none → m.1 = none → m.2.admission (m.2.admSet ++ [m.2.member pid img]) = none →
     m.2.findRun (16 * ceilDiv img.length 16) = some off →
     let w := (m.2.putProg pid (.fresh img (m.2.gen + 1) off)).postShares.syncProfiles
     exec (.progSubmit o r) s = .next (w.answered 0x20 o r e (w.summary w.admSet (m.2.member pid img)))) ∧
   (∀ s u o r e q, s.accepted progStartOp o r = some (u, e) →
     let pid := field r.payload 0 2
     u.prog pid = some q → firstFail (u.startChecks pid q) = none →
     (q.state = .suspended → (u.setProg pid fun x => { x with outOfSet := false }).admissionNow true = none) →
     let v := if q.outOfSet then (u.setProg pid fun x => { x with outOfSet := false }).postShares else u
     exec (.progStart o r) s = .next
       (((v.restartEngines q.image).begin pid (field r.payload 2 1) ((v.restartEngines q.image).startTime r.payload)).answered
         0x21 o r e (List.replicate 8 0xFF))) ∧
   (∀ s u o r e q, s.accepted progWithdrawOp o r = some (u, e) → u.prog (field r.payload 0 2) = some q →
     q.live = false →
     exec (.progWithdraw o r) s = .next
       ((State.syncProfiles (State.postShares { u with
         pg.progs := u.pg.progs.set (field r.payload 0 2) none
         pg.admitted := u.pg.admitted.filter (· != field r.payload 0 2) })).answered 0x23 o r e)) ∧
   (∀ s u o r e q, s.accepted progStatusOp o r = some (u, e) → u.prog (field r.payload 0 2) = some q →
     exec (.progStatus o r) s = .next (u.answered 0x24 o r e
       (leBytes 1 q.state.code ++ leBytes 1 q.cause ++ leBytes 2 q.segment ++ [0, 0, 0, 0] ++ shotField q.last ++
         leBytes 4 (u.regN (SEQ_PROG_LATE (field r.payload 0 2))) ++
         leBytes 4 (u.regN (SEQ_PROG_STALL (field r.payload 0 2))))))) ∧
  ((∀ s u o r e q, s.accepted (progStopOp 1) o r = some (u, e) → (Instr.progStopImmediate o r).wf = true →
     u.prog (field r.payload 0 2) = some q →
     exec (.progStopImmediate o r) s = .next (
       if q.state = .armed then (u.stopProg (field r.payload 0 2)).answered 0x22 o r e (List.replicate 8 0xFF)
       else if q.live = true then (u.stopProg (field r.payload 0 2)).answered 0x22 o r e (shotField q.last)
       else u.answeredRefusal 0x22 o r e STATE 0)) ∧
   (∀ s u o r e q, s.accepted (progStopOp 0) o r = some (u, e) → (Instr.progStopEndOfSegment o r).wf = true →
     u.prog (field r.payload 0 2) = some q →
     exec (.progStopEndOfSegment o r) s = .next (
       if q.state = .armed ∨ q.state = .waiting then
         (u.stopProg (field r.payload 0 2)).answered 0x22 o r e (List.replicate 8 0xFF)
       else if q.live = true then
         (u.setProg (field r.payload 0 2) fun x => { x with state := .stopping }).answered 0x22 o r e
           (List.replicate 8 0xFF)
       else u.answeredRefusal 0x22 o r e STATE 0)) ∧
   (∀ s u o r e, s.accepted (progStopOp 0) o r = some (u, e) → (Instr.progStopEndOfSegment o r).wf = true →
     u.prog (field r.payload 0 2) = none →
     exec (.progStopEndOfSegment o r) s = .next (u.answeredRefusal 0x22 o r e NOT_FOUND 0)) ∧
   (∀ s u o r e, s.accepted (progStopOp 1) o r = some (u, e) → (Instr.progStopImmediate o r).wf = true →
     u.prog (field r.payload 0 2) = none →
     exec (.progStopImmediate o r) s = .next (u.answeredRefusal 0x22 o r e NOT_FOUND 0)))

/-- An accepted FIRE_CONFIG writes W_MAX, DELAY and GROUP of its fire output if GROUP does not change or the rule on
groups still holds for every program present; MATRIX_CONFIG writes the enabled lines and the precharge and line
times if the rule on line addresses and spacings still holds; BUDGET_SET writes the rated energy, the overdrive
factor and the refill rate of its group and limits B to the capacity in force if the rule on the mean draw still
holds. Else each is refused with STATE and writes nothing. -/
def Obligations.EmitterConfigurationCompletes : Prop :=
  (∀ s u o r e, s.accepted fireConfigOp o r = some (u, e) →
    let n := field r.payload 0 1
    let v := (u.setRegN (EMT_FIRE_TIME n) (field r.payload 6 2 * 65536 + field r.payload 4 2)).setFld
      (EMT_FIRE_MODE n) 1 0 (field r.payload 1 1)
    exec (.fireConfig o r) s = .next
      (if u.fld (EMT_FIRE_MODE n) 1 0 = field r.payload 1 1 ∨ v.keepsRule State.groupRule = true then
        v.answered 0x30 o r e
       else u.answeredRefusal 0x30 o r e STATE 0)) ∧
  (∀ s u o r e, s.accepted matrixConfigOp o r = some (u, e) →
    let v := ((u.setRegN EMT_MATRIX_LINES_A (field r.payload 0 2)).setRegN EMT_MATRIX_LINES_K
      (field r.payload 4 4)).setRegN EMT_MATRIX_CFG (field r.payload 8 2 * 65536 + field r.payload 10 2)
    exec (.matrixConfig o r) s = .next
      (if v.keepsRule State.matrixRule = true then v.answered 0x31 o r e
       else u.answeredRefusal 0x31 o r e STATE 0)) ∧
  (∀ s u o r e, s.accepted budgetSetOp o r = some (u, e) →
    let g := field r.payload 0 1
    let v := ((u.setRegN (EMT_BUDGET_RATED g) (field r.payload 4 4)).setRegN (EMT_BUDGET_OVERDRIVE g)
      (field r.payload 8 2)).setRegN (EMT_BUDGET_REFILL g) (field r.payload 12 4)
    exec (.budgetSet o r) s = .next
      (if v.keepsRule State.drawRule = true then
        State.answered { v with emt.budgets := upd v.emt.budgets g fun (b : Budget) =>
          { b with level := min b.level (v.budgetCap g) } } 0x32 o r e
       else u.answeredRefusal 0x32 o r e STATE 0))

/-- SHORT_TEST clears its six result registers and the latched bit and runs in the background. CHAIN_WRITE shifts
its frame out from the word of the last board on, most significant bit first, and its reply waits for the latch.
CHAIN_LATCH after the shift, every status word carrying its marker and the latch ready (1 SCK period after the
shift while no program is live, else a boundary between shots), latches the frame and answers the readback; with
a marker missing it answers STATE without a latch and shows the fault. CHAIN_LAT_TIMEOUT 10 ms after the shift
answers STATE and latches bit 14. WIRE_WRITE starts its transfer, and WIRE_DONE at its end leaves the line high
and answers. While a short test runs, SHORT_TEST_DONE leaves, for each of the 61 pins i, the GND and OPEN bits
of i set exactly when i is selected and its voltage shows them, and the NEIGH bit of i set exactly when i or its
upper neighbour is selected and the two voltages show it; all other bits of the six registers are clear; the
test no longer runs; and every unit but the packet unit, the output, the links, the register file and the
emitter's test is unchanged. -/
def Obligations.EmitterTransfersComplete : Prop :=
  ((∀ s u o r e, s.accepted shortTestOp o r = some (u, e) → u.anyLive = false → u.emt.shortTest = none →
     let v := ((List.range 6).foldl (fun t i => t.setRegN (EMT_SHORT_GND i) 0) u).unlatch EMT_STATUS 0x200
     exec (.shortTest o r) s = .next (State.answeredAccepted
       { v with emt.shortTest := some (BitVec.ofNat 32 (field r.payload 0 4 % 8), o, r.sequence) } 0x33 o r e)) ∧
   (∀ s u o r e sdi, s.accepted (chainWriteOp sdi) o r = some (u, e) →
     exec (.chainWrite o r sdi) s = .next (State.deferring
       { u with emt.chainOut := (r.payload.drop 4).reverse
                emt.chainRead := some ((slice sdi 0 (u.boards * u.wordBytes)).reverse,
                  u.time + 8 * (r.payload.length - 4) * (2 * (u.fld EMT_CHAIN_CFG 31 24 + 1))) }
       0x34 o r e u.time)) ∧
   (∀ s u o r e, s.accepted wireWriteOp o r = some (u, e) → u.anyLive = false →
     okWire (field r.payload 0 1) (r.payload.drop 4) = true →
     exec (.wireWrite o r) s = .next (State.deferring
       { u with emt.wireOut := r.payload.drop 4, emt.wireHigh := false
                emt.wireEnd := some (u.time + (40 + 8 * (r.payload.length - 4)) * (125 * u.fld EMT_1W_CFG 7 0)) }
       0x35 o r e u.time)) ∧
   (∀ (s : State) readback end_ d, s.emt.chainRead = some (readback, end_) → s.pk.deferred = some d → end_ ≤ s.time →
     (s.badBoard readback = none → s.latchReady end_ = true) →
     exec .chainLatch s = .next (match s.badBoard readback with
       | some b => (State.chainFault { s with emt.chainRead := none } b).finishDeferred STATE
       | none => s.chainLatched.finishDeferred OK 0 readback)) ∧
   (∀ (s : State) readback end_ d, s.emt.chainRead = some (readback, end_) → s.pk.deferred = some d →
     s.badBoard readback = none → end_ + 12500000 ≤ s.time →
     exec .chainLatTimeout s = .next
       (State.finishDeferred { s.latch EMT_CHAIN_STATUS 0x4000 with emt.chainRead := none } STATE)) ∧
   (∀ (s : State) t, s.emt.wireEnd = some t → t ≤ s.time →
     exec .wireDone s = .next (State.finishDeferred { s with emt.wireEnd := none, emt.wireHigh := true } OK))) ∧
  (∀ (s : State) (readings : List (Nat × Nat)) mask owner,
   s.emt.shortTest = some (mask, owner) →
   ∃ t, exec (.shortTestDone readings) s = .next t ∧
     (∀ i, i < 61 →
       bit (t.regN (EMT_SHORT_GND (i / 32))) (i % 32) =
         (bit mask.toNat (pinGroup i) && pinGnd i (nth readings i (0, 0)).1) ∧
       bit (t.regN (EMT_SHORT_OPEN (i / 32))) (i % 32) =
         (bit mask.toNat (pinGroup i) && pinOpen i (nth readings i (0, 0)).1)) ∧
     (∀ i, i < 60 →
       bit (t.regN (EMT_SHORT_NEIGH (i / 32))) (i % 32) =
         ((bit mask.toNat (pinGroup i) || bit mask.toNat (pinGroup (i + 1))) &&
           pinNeigh i (nth readings i (0, 0)).1 (nth readings i (0, 0)).2)) ∧
     (∀ i, 61 ≤ i → i < 64 →
       bit (t.regN (EMT_SHORT_GND 1)) (i % 32) = false ∧ bit (t.regN (EMT_SHORT_OPEN 1)) (i % 32) = false) ∧
     (∀ i, 60 ≤ i → i < 64 → bit (t.regN (EMT_SHORT_NEIGH 1)) (i % 32) = false) ∧
     t.emt = { s.emt with shortTest := none } ∧
     s.keepsRegs t [EMT_SHORT_GND 0, EMT_SHORT_GND 1, EMT_SHORT_OPEN 0, EMT_SHORT_OPEN 1, EMT_SHORT_NEIGH 0,
       EMT_SHORT_NEIGH 1, EMT_STATUS, GLB_EVT_SEQ] ∧
     s.keeps t [.regs, .pk, .emt, .out, .ifl])

/-- OT_PIN_SHUTDOWN, the latched bit being clear, latches bit 8 of EMT_STATUS, after which no group has emission;
while its group has none, a tick lets no pulse of a shot begin: a pulse on its line is one that was on it
before. OT_CLEAR at a level of the pin leaves bit 8 set exactly when it was set and the host did not write a one
to it or the pin is low, and bit 4 + g set exactly when it was set and the host did not write a one to it, or
the pin is low, or the group's input is still hot; the pin's level is noted, and no other register of the
emission unit changes. -/
def Obligations.OverTemperatureLatchesAndClears : Prop :=
  (∀ s : State, bit (s.regN EMT_STATUS) 8 = false →
    ∃ t, exec .otPinShutdown s = .next t ∧
      t.emt = { s.emt with otLow := true } ∧ t.regN EMT_STATUS = s.regN EMT_STATUS ||| 0x100 ∧
      ∀ g, t.noEmission g = true) ∧
  (∀ (f : Firing) (now : Nat), ∀ l ∈ (f.after now true).lines, l.begun = true →
    ∃ k ∈ f.lines, k.begun = true ∧ k.line = l.line ∧ k.rise = l.rise ∧ k.fall = l.fall) ∧
  (∀ s : State, bit (s.regN EMT_STATUS) 8 = true →
    exec .otPinShutdown s = .next { s with emt.otLow := true }) ∧
  (∀ (s : State) (value : Word) (pinLow : Bool),
    ∃ t, exec (.otClear value pinLow) s = .next t ∧ t.emt = { s.emt with otLow := pinLow } ∧
      bit (t.regN EMT_STATUS) 8 = (bit (s.regN EMT_STATUS) 8 && (!bit value.toNat 8 || pinLow)) ∧
      (∀ g, g < 4 → bit (t.regN EMT_STATUS) (4 + g) =
        (bit (s.regN EMT_STATUS) (4 + g) && (!bit value.toNat (4 + g) || pinLow || s.groupHot g))) ∧
      (∀ a, EMT_STATUS < a → a < 0x30000 → t.reg a = s.reg a))

/-- An accepted THRESH_SET writes the lower and upper code of every channel of its range and marks the change
pending from now and from the next shot; CHAN_ENABLE writes the enable bit of all 512 channels from its bitmap
and no other bit; CAPTURE_MODE writes the mode and the stamps per shot of its range; EVENT_INPUT writes the
edges of one input; FREQ_MEASURE of an input that is not off and not being measured clears its result, sets its
busy bit and begins. Every other register and every other unit is as before, but for what the end of a packet
changes. -/
def Obligations.HitChannelConfigurationWritesItsChannels : Prop :=
  (∀ s u o r e, s.accepted threshSetOp o r = some (u, e) →
    let first := field r.payload 0 2
    let n := field r.payload 2 2
    ∃ v, exec (.threshSet o r) s = .next (v.answered 0x40 o r e) ∧
      (∀ i, i < n → v.regN (HCH_THRESH (first + i)) = field r.payload (6 + 4 * i) 2 * 65536 + field r.payload (4 + 4 * i) 2) ∧
      v.hch.chans = u.hch.chans.mapIdx (fun c (x : Chan) =>
        if first ≤ c ∧ c < first + n then { x with pending := some (u.time, u.seq.next) } else x) ∧
      v.hch = { u.hch with chans := v.hch.chans } ∧
      (∀ a, (∀ i, i < n → a ≠ HCH_THRESH (first + i)) → v.reg a = u.reg a) ∧ u.keeps v [.regs, .hch]) ∧
  (∀ s u o r e, s.accepted chanEnableOp o r = some (u, e) →
    ∃ v, exec (.chanEnable o r) s = .next (v.answered 0x41 o r e) ∧
      (∀ c, c < 512 → bit (v.regN (HCH_CFG c)) 0 = bit (field r.payload (c / 8) 1) (c % 8) ∧
        v.regN (HCH_CFG c) / 2 = u.regN (HCH_CFG c) / 2) ∧
      (∀ a, (∀ c, c < 512 → a ≠ HCH_CFG c) → v.reg a = u.reg a) ∧ u.keeps v [.regs]) ∧
  (∀ s u o r e, s.accepted captureModeOp o r = some (u, e) →
    let first := field r.payload 0 2
    let n := field r.payload 2 2
    ∃ v, exec (.captureMode o r) s = .next (v.answered 0x42 o r e) ∧
      (∀ i, i < n → v.regN (HCH_CFG (first + i)) =
        u.regN (HCH_CFG (first + i)) - bits (u.regN (HCH_CFG (first + i))) 1 1 * 2 -
          bits (u.regN (HCH_CFG (first + i))) 11 8 * 256 + field r.payload 4 1 * 2 + field r.payload 5 1 * 256) ∧
      (∀ a, (∀ i, i < n → a ≠ HCH_CFG (first + i)) → v.reg a = u.reg a) ∧ u.keeps v [.regs]) ∧
  (∀ s u o r e, s.accepted eventInputOp o r = some (u, e) →
    exec (.eventInput o r) s = .next
      ((u.setFld (HCH_EV_CFG (field r.payload 0 1)) 1 0 (field r.payload 1 1)).answered 0x43 o r e)) ∧
  (∀ s u o r e, s.accepted freqMeasureOp o r = some (u, e) →
    let k := field r.payload 0 1
    u.fld (HCH_EV_CFG k) 1 0 ≠ 3 → nth u.hch.freq k none = none →
    ∃ v, exec (.freqMeasure o r) s = .next (v.answeredAccepted 0x44 o r e) ∧
      v.hch = { u.hch with freq := u.hch.freq.set k (some
        { owner := o, sequence := r.sequence, gate := 1250 * field r.payload 4 4, first := none, lastT := 0, n := 0
          st := 0, sit := 0, blind := false, rate := false, warm := true }) } ∧
      v.regN (HCH_FREQ k) = 0 ∧ v.regN (HCH_FREQ k + 4) = 0 ∧ v.regN (HCH_FREQ k + 8) = 0 ∧
      v.regN (HCH_FREQ k + 12) = 0x80000000 ∧
      u.keepsRegs v [HCH_FREQ k, HCH_FREQ k + 4, HCH_FREQ k + 8, HCH_FREQ k + 12] ∧ u.keeps v [.regs, .hch])

/-- A comparator edge on a channel without a TDC, or of the upper comparator while it is off, changes nothing. An
edge that the configuration of the channel and of its shots in flight does not enable changes only the
comparator's level, and in the blind time counts as an edge of it. An edge in the blind time is not stamped and
counted once, or each time in that of an injection. Any other edge is stamped by the TDC that takes it, at the
end of the lane's buffer in the TDC that serves the channel, or dropped and counted when four stamps stand
there; it blinds the lane for 1.6 ns from its stamp, counts for the ambient check when it is a lower rising one,
and leaves the other lane and every other TDC as the merge of the earlier stamps, and in the 4 ticks before a
changeover the edge's own blind time in the TDC that takes over, left it. An injected edge on a lane that is not
blind, of the spares and of every TDC with an injection rate while the source is on, and of a lane not yet
converged while a calibration run takes its taps, blinds it for 1.6 ns and counts for calibration only. -/
def Obligations.HitEdgesAreStamped : Prop :=
  (∀ (s : State) (c : Fin 512) upper rising stamp,
    (s.rep.chanLost.contains c.val = true ∨ upper = true ∧ (s.chan c).upper = 0) →
    exec (.comparatorEdge c upper rising stamp) s = .next s) ∧
  (∀ (s : State) (c : Fin 512) upper rising stamp,
    s.rep.chanLost.contains c.val = false → (upper = true → (s.chan c).upper ≠ 0) →
    s.edgeTaken c upper rising = false →
    exec (.comparatorEdge c upper rising stamp) s = .next
      (let t := (s.chan c).takes (s.stampTick stamp)
       if s.stampValue stamp < (s.lane t upper).blindUntil then s.blindEdge t upper rising
       else s.setLane t upper fun l => { l with level := rising })) ∧
  (∀ (s : State) (c : Fin 512) upper rising stamp,
    let t := (s.chan c).takes (s.stampTick stamp)
    let m0 := s.merge (s.chan c).tdc (s.stampTick stamp - 1)
    let m : State := match shadowTdc (s.chan c).swap (s.chan c).tdc (s.stampTick stamp) with
      | some n => m0.shadowEdge n upper rising (s.stampValue stamp)
      | none => m0
    s.rep.chanLost.contains c.val = false → (upper = true → (s.chan c).upper ≠ 0) →
    s.edgeTaken c upper rising = true →
    t < s.hch.tdcs.length → s.stampValue stamp < (m.lane t upper).blindUntil →
    ∃ v, exec (.comparatorEdge c upper rising stamp) s = .next v ∧ v.hch.chans = m.hch.chans ∧
      v.lane t upper = { m.lane t upper with
        level := rising, lost := (m.lane t upper).lost || !(m.lane t upper).injected } ∧
      v.reg (TDC_BLIND t) = m.reg (TDC_BLIND t) +
        (if (m.lane t upper).injected = true ∨ (m.lane t upper).lost = false then 1 else 0) ∧
      s.keeps v [.regs, .hch, .pk]) ∧
  (∀ (s : State) (c : Fin 512) upper rising stamp,
    let q := (s.chan c).tdc
    let tick := s.stampTick stamp
    let t := (s.chan c).takes tick
    let m0 := s.merge q (tick - 1)
    let m : State := match shadowTdc (s.chan c).swap q tick with
      | some n => m0.shadowEdge n upper rising (s.stampValue stamp)
      | none => m0
    s.rep.chanLost.contains c.val = false → (upper = true → (s.chan c).upper ≠ 0) →
    s.edgeTaken c upper rising = true →
    s.hch.tdcs.length = 567 → t < 567 → q < 567 → (m.lane t upper).blindUntil ≤ s.stampValue stamp →
    let h : HitStamp :=
      { rising := rising, upper := upper, blind := (m.lane t upper).lost || (m.tdc t).markBlind
        spare := decide (512 ≤ t), tdc := t, tick := tick, tap := stamp.tap.toNat, res := stamp.res.toNat }
    ∃ v, exec (.comparatorEdge c upper rising stamp) s = .next v ∧
      (v.lane q upper).buffer = (m.lane q upper).buffer ++
        (if 4 ≤ (m.lane q upper).buffer.length then [] else [h]) ∧
      (4 ≤ (m.lane q upper).buffer.length → v.reg (TDC_DROP q) = m.reg (TDC_DROP q) + 1) ∧
      (v.lane t upper).blindUntil = s.stampValue stamp + 4096 ∧ (v.lane t upper).level = rising ∧ (v.lane t upper).lost = false ∧
      v.lane t (!upper) = m.lane t (!upper) ∧ v.lane q (!upper) = m.lane q (!upper) ∧
      (v.tdc q).queue = (m.tdc q).queue ∧
      v.adm = (if upper = false ∧ rising = true then s.countAmbient c tick else s).adm ∧
      (∀ t', t' ≠ t → t' ≠ q → v.tdc t' = m.tdc t') ∧ s.keeps v [.regs, .hch, .pk, .adm, .wfd]) ∧
  (∀ (s : State) (t : Fin 567) upper stamp,
    (upper = true → t.val < 544) →
    (bit (s.regN HCH_CAL_CFG) 26 = true ∧ (512 ≤ t.val ∧ t.val < 544 ∨ s.fld HCH_CAL_CFG 15 8 ≠ 0) ∨
      s.calStep 0 = true ∧ (s.lane t upper).converged = false) →
    t.val < s.hch.tdcs.length → (s.lane t upper).blindUntil ≤ s.stampValue stamp →
    ∃ v, exec (.pulserInject t upper stamp) s = .next v ∧
      (v.lane t upper).blindUntil = s.stampValue stamp + 4096 ∧ (v.lane t upper).injected = true ∧
      (v.lane t upper).buffer = (s.lane t upper).buffer ∧
      (v.lane t upper).total = (if (s.lane t upper).total < s.nCal then (s.lane t upper).total + 1 else
        (s.lane t upper).total) ∧
      (∀ t', t' ≠ t.val → v.tdc t' = s.tdc t') ∧ v.regs = s.regs ∧ s.keeps v [.hch])

/-- LIVE_TABLE_UPDATE of a lane with N_CAL stamps and no fault publishes the table that the update computes, when it
is healthy, as a version that takes effect 64 ticks past the watermark, and clears the accumulators, a version
that wraps being noted for its EVENT; an unhealthy one marks a lane fault, bit 2 of HCH_STATUS, and the TDC
failed. LANE_HOLD after 30 s without an update holds a lane that was converging or converged. THRESHOLD_APPLY
from t_u on makes the pending codes and the trims of the applied set those in force, drives the DACs with their
sums, and marks the shots whose Pass is open within 200 ns of t_u. WATERMARK_STALL marks a TDC failed and queues
the migration of what it serves. AMBIENT_CHECK latches bit 5 of ADM_STATUS for a channel whose count has
exceeded the assumption, at an edge or in a 1 ms that has ended since; else it changes nothing. -/
def Obligations.HitChannelUpkeepCompletes : Prop :=
  (∀ (s : State) (t : Fin 567) upper, let l := s.lane t upper
    s.nCal ≤ l.total → l.fault = false → t.val < s.hch.tdcs.length →
    let x := s.nextTable t upper
    (healthy x.2.1 x.2.2 l.total l.ovr = true →
      exec (.liveTableUpdate t upper) s = .next ((if l.version = 0xFFFFFFFF then
          s.noteWrap 4 1 (0x640000 + 192 * t + 96 * b2n upper + 68) 32 else s).setLane t upper fun y =>
        { y with
          a := x.1, g := x.2.2, state := y.moved, updates := y.updates + 1, version := y.version + 1
          updated := some s.time, n := List.replicate 32 0, m := List.replicate 32 0, total := 0, ovr := 0
          versions := (({ w := x.2.1, g := x.2.2, state := l.moved, version := l.version + 1
                          effective := s.watermark t + 64, updates := l.updates + 1 } : LiveTable) ::
            y.versions).take 8 })) ∧
    (healthy x.2.1 x.2.2 l.total l.ovr = false →
      ∃ v, exec (.liveTableUpdate t upper) s = .next v ∧
        v.lane t upper = { l with a := x.1, g := x.2.2, fault := true } ∧
        bit (v.regN HCH_STATUS) 2 = true ∧ v.rep.tdcFail.contains t.val = true ∧
        s.keeps v [.hch, .regs, .rep, .pk, .drawn, .out, .ifl, .adm])) ∧
  (∀ (s : State) (t : Fin 567) upper at_, (s.lane t upper).updated = some at_ →
    ((s.lane t upper).state = 1 ∨ (s.lane t upper).state = 2) → at_ + 37500000000 ≤ s.time →
    exec (.laneHold t upper) s = .next (s.setLane t upper fun l => { l with before := l.state, state := 3 })) ∧
  (∀ (s : State) (c : Fin 512) since n, (s.chan c).pending = some (since, n) →
    let tu := s.applyAt c since n
    let trim (i : Nat) : Int := fieldInt s.appliedSet (CAL_CMP c i) 2
    let lower := s.fld (HCH_THRESH c) 9 0
    let upper := s.fld (HCH_THRESH c) 25 16
    tu ≤ (s.unitNow : Int) →
    exec (.thresholdApply c) s = .next
      ((s.setChan c fun x =>
        { x with lower := lower, upper := upper, pending := none, applied := some tu.toNat
                 trimL := trim 0, trimU := trim 1
                 dacL := (clampInt 0 1023 (lower + trim 0)).toNat
                 dacU := (clampInt 0 1023 (upper + trim 1)).toNat }).splitShots c tu)) ∧
  (∀ (s : State) (t : Fin 567), s.rep.tdcFail.contains t.val = false →
    ∃ v, exec (.watermarkStall t) s = .next v ∧ v.rep.tdcFail = s.rep.tdcFail ++ [t.val] ∧ v.hch = s.hch ∧
      (s.tdcServes t ≠ 0xFFFF → v.rep.migs.any (fun m => m.kind == 0 && m.failed == t.val) = true)) ∧
  (∀ (s : State) (c : Fin 512), s.adm.exceeded.contains c.val = true →
    exec (.ambientCheck c) s = .next { s.setReg ADM_STATUS (s.reg ADM_STATUS ||| 0x20) with
      adm.exceeded := s.adm.exceeded.filter (· != c.val) }) ∧
  (∀ (s : State) (c : Fin 512), s.adm.exceeded.contains c.val = false →
    let over_ := s.ambientOver c s.tim.shot (nth s.adm.ambient c [])
    exec (.ambientCheck c) s = .next (if over_ = true then
      { s.setReg ADM_STATUS (s.reg ADM_STATUS ||| 0x20) with adm.exceeded := s.adm.exceeded.filter (· != c.val) }
      else s))

/-- An edge of an event input whose TDC has failed changes nothing; one that the input's configuration does not
stamp changes the level only, or counts as an edge in the blind time; one in the blind time is lost; any other
blinds the TDC that takes it for 1.6 ns and waits in the buffer of the input's TDC, or is dropped and counted
when four wait there. When the watermark has passed it, a stamp serves in order the event waits, the fire
stamps, the frequency unit, a pending cross stamp of the input, the capture units that name it, and with RECORD
the streams. FREQ_GATE_CLOSE after the gate time writes period, edges and flags, WARM set only if warm-up did
not end within the gate, frees the unit and sends the completion EVENT. -/
def Obligations.EventInputEdgesAreStamped : Prop :=
  (∀ (s : State) (k : Fin 8) rising stamp, s.auxDead (15 + k) = true → exec (.evEdge k rising stamp) s = .next s) ∧
  (∀ (s : State) (k : Fin 8) rising stamp, let e := s.fld (HCH_EV_CFG k) 1 0
    let t := s.auxTdcAt (15 + k) (s.stampTick stamp)
    s.auxDead (15 + k) = false → (e = 3 ∨ e = 0 ∧ rising = false ∨ e = 1 ∧ rising = true) →
    exec (.evEdge k rising stamp) s = .next
      (if s.stampValue stamp < (s.lane t false).blindUntil then s.blindEdge t false rising
       else s.setLane t false fun l => { l with level := rising })) ∧
  (∀ (s : State) (k : Fin 8) rising stamp, let e := s.fld (HCH_EV_CFG k) 1 0
    let tick := s.stampTick stamp
    let t := s.auxTdcAt (15 + k) tick
    let q := s.auxTdc (15 + k)
    let m0 := s.merge q (tick - 1)
    let m : State := match shadowTdc (nth m0.hch.auxSwap (15 + k.val) none) q tick with
      | some n => m0.shadowEdge n false rising (s.stampValue stamp)
      | none => m0
    let h : HitStamp :=
      { rising := rising, upper := false, blind := (m.lane t false).lost || (m.tdc t).markBlind
        spare := decide (t < 544), tdc := t, tick := tick, tap := stamp.tap.toNat, res := stamp.res.toNat }
    let v := m.stampEdge t false rising (s.stampValue stamp)
    (e = 2 ∨ e = 0 ∧ rising = true ∨ e = 1 ∧ rising = false) → s.auxDead (15 + k) = false →
    exec (.evEdge k rising stamp) s = .next (
      if s.stampValue stamp < (m.lane t false).blindUntil then m.blindEdge t false rising
      else if 4 ≤ (v.lane q false).buffer.length then v.dropStamp q tick
      else v.setLane q false fun l => { l with buffer := l.buffer ++ [h] })) ∧
  (∀ (s : State) (k : Fin 8) n h rest, let q := s.auxTdc (15 + k)
    (s.tdc q).queue = h :: rest → h.tick < s.watermark q →
    let v := s.setTdc q fun x => { x with queue := rest }
    let x := v.calibrate h.tdc false none h.tick h.tap h.res (v.setAt h.tick)
    let fl := 16 * b2n h.rising + 4 * b2n h.blind + 2 * b2n h.spare + b2n (h.res == 63)
    let u := (((v.eventWaits k h.rising x.1).evFireStamp k x.1 fl x.2).freqStamp k h.rising h.blind x.1).crossSeen
      (0x10 + k) x.1
    let w := u.triggerAll 5 (fun j => u.fld (WFD_CAP_SRC j) 22 20 == k.val) x.1
    State.serveEvents k (n + 1) s = State.serveEvents k n
      (if bit (w.regN (HCH_EV_CFG k)) 3 = true then
        w.spread (fun d => bit (stSysMask d) 0) (w.inputRecord k h.rising fl x.1) else w)) ∧
  (∀ (s : State) (k : Fin 8) f t, nth s.hch.freq k none = some f → f.first = some t →
    t + 2048 * f.gate ≤ s.fineNow →
    let own := (s.ownTime t).toNat / 2048
    let g := { f with warm := f.warm && !(s.tim.warmLost.any fun x => decide (own ≤ x) && decide (x ≤ own + f.gate)) }
    let v := (((s.setRegN (HCH_FREQ k) (f.period % 2 ^ 32)).setRegN (HCH_FREQ k + 4) (f.period / 2 ^ 32)).setRegN
      (HCH_FREQ k + 8) f.n).setRegN (HCH_FREQ k + 12) g.flags
    exec (.freqGateClose k) s = .next (State.complete { v with hch.freq := v.hch.freq.set k none }
      (f.owner, f.sequence) OK 4 (leBytes 8 f.period ++ leBytes 4 f.n ++ leBytes 4 g.flags)))

/-- With a plan, and neither the hold after a loss of both clocks nor a thermal shutdown, SHOT_COMMIT gives the
plan's shot the number of the counter, advances the counter by one modulo 2^48, puts the shot at the head of the
history of 4,096 and at the end of the firing queue with its program, fire time, dither and tag, and advances
SEQ_HIST_HEAD. Otherwise nothing changes. -/
def Obligations.ShotCommitmentTakesTheNextNumber : Prop :=
  (∀ (s : State) p q, s.seq.clockHold = false → s.thm.shutdown = false → s.nextPlan = some p →
    s.prog p.pid = some q →
    ∃ t x, exec .shotCommit s = .next t ∧ t.seq.next = s.seq.next + 1 ∧
      t.seq.history = (x :: s.seq.history).take 4096 ∧ t.seq.efu = s.seq.efu ++ [x] ∧
      x.number = s.seq.next ∧ x.pid = p.pid ∧ x.fire = p.fire ∧ x.dither = p.dither ∧
      x.tag = BitVec.ofNat 16 (seTag p.entry) ∧ x.flags = BitVec.ofNat 16 (seFlags p.entry) ∧
      (seDark p.entry = true → x.energy = 0 ∧ x.widths = []) ∧
      t.reg SEQ_HIST_HEAD = s.reg SEQ_HIST_HEAD + 1 ∧ s.keeps t [.regs, .pk, .pg, .seq, .emt, .hen, .wfd, .out, .drawn, .rep, .ifl]) ∧
  (∀ s : State, (s.seq.clockHold = true ∨ s.thm.shutdown = true ∨ s.nextPlan = none) → exec .shotCommit s = .next s)

/-- An ARMED program of start mode 1 runs from its start tick once that has come. A waiting program whose release
instant has come, not later than its expiry, begins its pass with that instant as the previous nominal time. One
whose expiry has come without a release latches bit 2 of SEQ_STATUS and is released at the expiry or suspended
with cause 1, as its segment says. A budget whose last update lies 10 us back gains at the rate of its state, up
to the capacity, at which the clipped state ends. -/
def Obligations.ProgramWaitsAndStartsRelease : Prop :=
  (∀ (s : State) (pid : Fin 64) q, s.prog pid = some q → q.state = .armed → q.startMode = 1 → q.startTick ≤ s.tim.shot →
    exec (.programStartInstant pid) s = .next (s.runProg pid (32 * q.startTick))) ∧
  (∀ (s : State) (pid : Fin 64) q t late, s.prog pid = some q → q.state = .waiting →
    q.releaseAt s.tim.shot = some (t, late) → t ≤ s.unitNow → (∀ x, q.expiry = some x → t ≤ x) →
    exec (.waitReleased pid) s = .next (State.beginPass
      (State.setProg { s with ifl.lastSync := s.ifl.lastSync.set pid none } pid fun y =>
        { y with nominal := t, waitLate := late, waitTmo := false }) pid)) ∧
  (∀ (s : State) (pid : Fin 64) q x, s.prog pid = some q → q.state = .waiting → q.expiry = some x → x ≤ s.unitNow →
    (∀ t late, q.releaseAt s.tim.shot = some (t, late) → x < t) →
    exec (.waitTimeout pid) s = .next (
      let v := s.setReg SEQ_STATUS (s.reg SEQ_STATUS ||| 0x4)
      if sgWaitOnTmo (imSeg q.image q.segment) = true then
        State.beginPass (State.setProg { v with ifl.lastSync := v.ifl.lastSync.set pid none } pid fun y =>
          { y with nominal := x, waitLate := false, waitTmo := true }) pid
      else v.suspend pid 1)) ∧
  (∀ (s : State) (g : Fin 4), g.val < s.emt.budgets.length → (s.budget g).updated + 400000 ≤ s.unitNow →
    ∃ t, exec (.budgetIdleUpdate g) s = .next t ∧
      (t.budget g).level = min (s.budgetCap g) ((s.budget g).level + refillOf
        (if (s.budget g).clipped = true then s.fld (EMT_BUDGET_REFILL g) 23 0 else s.fld (EMT_BUDGET_RATED g) 23 0)
        400000) ∧
      ((t.budget g).clipped = true ↔ (s.budget g).clipped = true ∧ (t.budget g).level ≠ s.budgetCap g) ∧
      (t.budget g).updated = (s.budget g).updated + 400000 ∧ (∀ k, k ≠ g.val → t.budget k = s.budget k) ∧
      t.emt = { s.emt with budgets := t.emt.budgets } ∧ s.keeps t [.emt])

/-- The shot of the firing queue that is due first, once it is due: a DARK shot gets the planned stamp and no pulse;
a shot whose group's emission is shut down gets no pulse, gives back what was drawn for it, and condition bit 5;
any other shot draws what it still owes, adds its pulses of enabled lines to those on the lines and to come, and
gets the calibrated stamp of its pad, which is lost in the blind time of the pad's TDC; a shot that takes its
stamp from an event input takes the one that has come, or waits for it, until FIRE_STAMP_MISSING, when the
input's watermark has passed STAMP_WIN, gives it the planned stamp with condition bit 6. (A shot that is shut
down without a stamp gets the planned one without bit 6, and one whose pad gave no stamp, or has a dead TDC, the
planned one with bit 6: the model's choice, log entry 93.) -/
def Obligations.FireEdgesGivePulsesAndStamps : Prop :=
  (∀ (s : State) stamp x, (∃ front back, s.seq.efu = front ++ x :: back ∧ x.edgeDone = false ∧
      (∀ y ∈ front, y.edgeDone = false → x.due < y.due) ∧ (∀ y ∈ back, y.edgeDone = false → x.due ≤ y.due)) →
    x.due ≤ s.unitNow →
    let off := s.settle x false
    let on := s.settle x true
    let v : State := { on with
      emt.firings := on.emt.firings ++ [s.firing x]
      emt.busyUntil := x.pulses.foldl (fun (m : Nat) (p : Nat × Nat × Nat) => max m p.2.2) s.emt.busyUntil }
    exec (.fireEdge stamp) s = .next (
      if bit x.flags.toNat 0 = true then s.stampShot x (s.plannedStamp x) 0 0
      else if s.noEmission (beGroup x.beam) = true then
        match x.tFire with
        | some t => off.stampShot x t x.tFlags 0x20
        | none => off.stampShot x (off.plannedStamp x) 0 0x20
      else if 8 ≤ x.stampSrc then
        match x.tFire with
        | some t => v.stampShot x t x.tFlags 0
        | none => v.mapShot x.number fun y => { y with edgeDone := true }
      else match stamp with
        | some p =>
          let t := v.auxTdcAt (leadIndex x.beam) (v.stampTick p)
          if v.auxDead (leadIndex x.beam) = true then v.stampShot x (v.plannedStamp x) 0 0x40
          else if v.stampValue p < (v.lane t false).blindUntil then
            (v.blindEdge t false true).stampShot x ((v.blindEdge t false true).plannedStamp x) 0 0x40
          else v.padStamp x p
        | none => v.stampShot x (v.plannedStamp x) 0 0x40)) ∧
  (∀ (s : State) number x, s.seq.efu.find? (fun x => x.number == number) = some x → x.edgeDone = true →
    8 ≤ x.stampSrc → x.fire + 32 * x.stampWin < 32 * s.watermark (s.auxTdc (7 + x.stampSrc)) →
    exec (.fireStampMissing number) s = .next (s.stampShot x (s.plannedStamp x) 0 0x40))

/-- An ENG_LOAD begins the session's transfer of the engine's image in the memory it selects, or appends at the
offset that this memory has reached, up to 16 MB; at any other offset it answers STAGE_ABORT and the transfer is
gone (beyond 16 MB by the model's choice, log entry 87); an ENG_COMMIT whose image passes R198 puts it into the
standby half, subject to admission where the engine is in use, and sets the timer where it is active at once;
ENG_MAP maps a group that no live program names to a free engine with an image, which ends the cause of the
group's incident 0x03/0x05; ENG_CONTROL run clears the status and raises INIT; halt of an engine that no live
program uses drops its events and halts it, after its run where one is in progress; ENGINE_TIMER raises TIMER
every TIMER_US of the active image, and only sets the lost-timer bit while one is queued. -/
def Obligations.EngineConfigurationCompletes : Prop :=
  (∀ s u o r e, s.accepted engLoadOp o r = some (u, e) →
    (∀ t, u.stageOf o = some t → t.whole = true ∨ t.obj ≠ .engine (BitVec.ofNat 8 (field r.payload 0 1))) →
    exec (.engLoad o r) s = .next (
      if field r.payload 4 4 = 0 then
        (u.setStage o (some
          { obj := .engine (BitVec.ofNat 8 (field r.payload 0 1))
            data := if field r.payload 1 1 = 1 then [] else r.payload.drop 8
            dataMem := if field r.payload 1 1 = 1 then r.payload.drop 8 else []
            gen := u.gen, cas := bit r.flags.toNat 1, whole := !bit r.flags.toNat 5, last := u.time })).answered
              0x50 o r e
      else (u.setStage o none).answeredRefusal 0x50 o r e STAGE_ABORT 0)) ∧
  (∀ s u o r e t, s.accepted engLoadOp o r = some (u, e) → u.stageOf o = some t →
    t.obj = .engine (BitVec.ofNat 8 (field r.payload 0 1)) → t.whole = false →
    exec (.engLoad o r) s = .next (
      if field r.payload 4 4 = (if field r.payload 1 1 = 1 then t.dataMem else t.data).length ∧
          t.data.length + t.dataMem.length + (r.payload.length - 8) ≤ 2 ^ 24 then
        (u.setStage o (some
          { t with
            data := if field r.payload 1 1 = 1 then t.data else t.data ++ r.payload.drop 8
            dataMem := if field r.payload 1 1 = 1 then t.dataMem ++ r.payload.drop 8 else t.dataMem
            whole := !bit r.flags.toNat 5, last := u.time })).answered 0x50 o r e
      else (u.setStage o none).answeredRefusal 0x50 o r e STAGE_ABORT 0)) ∧
  (∀ s u o r x t, s.accepted engCommitOp o r = some (u, x) →
    let e := field r.payload 0 1
    let v := (u.refreshImage e).setStage o none
    u.stageOf o = some t → t.obj = .engine (BitVec.ofNat 8 e) → t.whole = true → (t.cas = true → t.gen = u.gen) →
    (v.eng e).st ≠ .failed → (v.eng e).standbyBusy = false →
    checkEngImage t.data t.dataMem (field r.payload 4 4) (field r.payload 8 4) = none →
    let w := v.setEng e fun y =>
      let z := y.commitImage t.data t.dataMem (BitVec.ofNat 32 (field r.payload 8 4)) (v.engineLive e) v.seq.next
      if z.image.any ImgHeader.waits = true then z else z.setTimer v.time
    (v.engineUsed e = true → w.admissionNow true = none) →
    exec (.engCommit o r) s = .next ((if v.engineUsed e = true then w.postShares else w).answered 0x51 o r x)) ∧
  (∀ s u o r x, s.accepted engMapOp o r = some (u, x) →
    let g := field r.payload 0 1
    let e := field r.payload 1 1
    u.liveNames g = false → (∀ h, u.engineGroup e = some h → h = g) → (u.eng e).st ≠ .failed →
    (u.eng e).image.isSome = true →
    let v := (u.endCause (causeKey 3 5 (u.groupEngine g))).setRegN (HEN_MAP g) e
    exec (.engMap o r) s = .next ((State.postShares (State.syncProfiles
      { v with rep.pool := v.rep.pool.filter (· != e) })).answered 0x52 o r x)) ∧
  (∀ s u o r x, s.accepted engRunOp o r = some (u, x) → field r.payload 1 1 = 1 →
    let e := field r.payload 0 1
    (u.eng e).image.isSome = true → (u.eng e).st ≠ .failed →
    exec (.engControlRun o r) s = .next ((((u.refreshImage e).unlatch (HEN_STAT e) 0x7F).setEng e fun y =>
      { (y.setTimer u.time).raise { kind := .init, tick := u.tim.shot, shot := none, group := none } with
        st := if y.run.isSome then .busy else .idle, halting := false, heartbeat := u.time }).answered 0x53 o r x)) ∧
  (∀ s u o r x, s.accepted engHaltOp o r = some (u, x) → field r.payload 1 1 = 0 →
    let e := field r.payload 0 1
    u.engineLive e = false →
    exec (.engControlHalt o r) s = .next ((u.setEng e fun y =>
      { y.dropEvents with
        halting := y.run.isSome
        st := if y.st = .failed ∨ y.run.isSome then y.st else .halted }).answered 0x53 o r x)) ∧
  (∀ (s : State) (e : Fin 68) h, let w := s.refreshImage e
    let v := w.setEng e fun y => { y with timerAt := y.timerAt + 1250 * h.timerUs }
    (w.eng e).activeImage = some h → (w.eng e).on = true → h.timerUs ≠ 0 → (w.eng e).timerAt ≤ w.time →
    exec (.engineTimer e) s = .next (
      if ((w.eng e).events.any fun z => z.kind == .timer) = true then v.latch (HEN_STAT e) 0x40
      else v.setEng e fun y => y.raise { kind := .timer, tick := s.tim.shot, shot := none, group := none }))

/-- PASS_OPEN at a Pass's opening opens the shot, without hits when 16 others are in flight, those whose Pass has
closed not counted. HIT_RELEASE takes the stamp that the watermarks have passed and pairs the hit with the edges
found within the longest PAIR_WIN; a failed engine releases nothing, and 256 waiting pairings stop the release
with QFULL. BURST_TEST takes the oldest waiting pairing, and bins it when at least BURST_K pulses found a hit.
PASS_CLOSE takes the closed shot from the engine and raises its SHOT event. GROUP_HANDOVER of the oldest ended
group whose bank no earlier group holds copies and clears its bank, writes its record, raises its GROUP event,
both but for a group that a lost bank word has ended, and counts the pairings held for the bank. A failed engine
does none of this. RUN_START of an idle engine starts a run for the oldest event, with slots and peak lists
zero; an event without an entry starts none. -/
def Obligations.PassesAndHitsReachTheirGroups : Prop :=
  (∀ (s : State) (e : Fin 68) shot g x, s.engineGroup e = some g →
    (s.eng e).shots.find? (fun x => x.shot.number == shot) = some x → x.opened = false → (s.eng e).st ≠ .failed → e.val < s.hen.length →
    x.shot.opening g ≤ (s.unitNow : Int) →
    ∃ t z, exec (.passOpen e shot) s = .next t ∧
      (t.eng e).shots.find? (fun x => x.shot.number == shot) = some z ∧ z.opened = true ∧ z.shot = x.shot ∧
      (z.slotOvf = true ↔ 16 ≤ ((s.eng e).shots.filter fun z =>
        z.opened && !z.slotOvf && decide (x.shot.opening g < z.shot.closing g)).length) ∧
      (∀ y ∈ (t.eng e).groups, y.index = x.group → y.begun = true) ∧
      (∀ k, k ≠ e.val → t.eng k = s.eng k) ∧ s.keeps t [.regs, .hen]) ∧
  (∀ (s : State) (e : Fin 68) g, s.engineGroup e = some g →
    ((s.eng e).st = .failed → exec (.hitRelease e) s = .next s) ∧
    ((s.eng e).st ≠ .failed → 256 ≤ (s.eng e).bursts.length + (s.eng e).heldPairs.length →
      exec (.hitRelease e) s = .next (s.latch (HEN_STAT e) 0x1)) ∧
    (∀ i h, let m := s.mergeGroup g
      let rest := (m.tdc (m.chan (8 * g + i)).tdc).queue.drop 1
      let w := (m.setTdc (m.chan (8 * g + i)).tdc fun x => { x with queue := rest }).qualifyStamp g i h rest
      (s.eng e).st ≠ .failed → (s.eng e).bursts.length + (s.eng e).heldPairs.length < 256 →
      m.nextStamp g = some (i, h) →
      h.tick + m.holdFor e (8 * g + i) h < m.groupMark g → m.openFirst e g h = false → h.rising = true →
      h.upper = false →
      exec (.hitRelease e) s = .next (w.pairHit e g
        { chan := i, l := h, u := partner h rest true true (w.longestWin e (8 * g + i))
          d := partner h rest false false (w.longestWin e (8 * g + i)) }))) ∧
  (∀ (s : State) (e : Fin 68) g b rest, s.engineGroup e = some g → (s.eng e).bursts = b :: rest →
    let m := s.mergeGroup g
    let v := m.setEng e fun y => { y with bursts := rest }
    (m.eng e).st ≠ .failed → b.until_ < m.groupMark g →
    (∀ x bin, (m.eng e).shots.find? (fun x => x.shot.number == b.shot) = some x →
      x.shot.binOf (8 * g + b.hit.chan) (m.timed g b.hit x.shot).time = some bin →
      exec (.burstTest e) s = .next (
        if x.shot.burstK ≤ m.burstMatches e g b.hit x.shot (m.timed g b.hit x.shot).time then
          v.binPairing e x.group b.hit.chan bin else v)) ∧
    ((m.eng e).shots.find? (fun x => x.shot.number == b.shot) = none → exec (.burstTest e) s = .next v)) ∧
  (∀ (s : State) (e : Fin 68) shot g x, s.engineGroup e = some g →
    (s.eng e).shots.find? (fun x => x.shot.number == shot) = some x → e.val < s.hen.length →
    let m := s.mergeGroup g
    x.opened = true → (m.eng e).st ≠ .failed → x.shot.closing g ≤ (m.unitNow : Int) → m.releasedTo g (x.shot.closeTick g) = true →
    (m.eng e).bursts.any (fun b => b.shot == shot) = false →
    ∃ t, exec (.passClose e shot) s = .next t ∧
      (t.eng e).shots = (m.eng e).shots.filter (fun z => z.shot.number != shot) ∧
      (t.eng e).events = ((m.eng e).raise
        { kind := .shot, tick := m.tim.shot, group := none
          shot := some { x with
            closed := true, cond := (x.cond.zip (m.lossFlags g x.shot)).map fun p => p.1 ||| p.2 } }).events ∧
      (t.eng e).mem = (m.eng e).mem ∧ (∀ k, k ≠ e.val → t.eng k = m.eng k) ∧ m.keeps t [.hen]) ∧
  (∀ (s : State) (e : Fin 68) g z, s.engineGroup e = some g →
    (s.eng e).groups.find? (fun z => (s.eng e).canHand z) = some z →
    let a := s.abortImage e (z.index % 2)
    let close : Int := z.members.foldl (fun m x => max m (x.closing g)) (z.first.closing g)
    let from_ : Int := (a.1.eng e).attrFrom
    let z' : GroupCtx := { z with
      abort := a.2 || z.abort
      exposure := (groupChans g).map fun c => a.1.exposure e c from_ (max from_ close) }
    exec (.groupHandover e) s = .next ((a.1.setEng e fun y =>
      let w := { y.copyBank (z.index % 2) z.first.bins with
        groups := y.groups.filter fun w => w.index != z.index
        passes := y.passes.filter fun x => decide (max from_ close < x.closing g)
        closed := y.closed.set (z.index % 2) (if z.lost = true then none else some z')
        attrFrom := (max from_ close).toNat }
      if z.lost = true then w.settle
      else (w.raise { kind := .group, tick := a.1.tim.shot, shot := none, group := some z' }).settle).binHeld e)) ∧
  (∀ (s : State) (e : Fin 68) v rest pc, let y := (s.refreshImage e).eng e
    y.events = v :: rest → y.entryFor v = some pc → y.st = .idle → e.val < s.hen.length → y.v.length = 16 →
    ∃ t r, exec (.runStart e) s = .next t ∧ (t.eng e).run = some r ∧ r.event = v ∧ r.half = y.halfFor v ∧
      r.cur = 0 ∧ r.flag = 0 ∧ r.waiting = none ∧ (t.eng e).st = .busy ∧ (t.eng e).events = rest ∧
      (t.eng e).pc = pc ∧ (∀ i, (t.eng e).slot i = 0) ∧ (∀ c, c < 8 → (t.eng e).peakList r c = []) ∧
      (∀ c i, c < 8 → i < 128 → (t.eng e).bytes (E_PEAKS + 128 * c + i) 1 = [0]) ∧
      (∀ k, k ≠ e.val → t.eng k = s.eng k) ∧ s.keeps t [.hen, .drawn, .pk]) ∧
  (∀ (s : State) (e : Fin 68) v rest, let y := (s.refreshImage e).eng e
    y.events = v :: rest → y.entryFor v = none →
    exec (.runStart e) s = .next ((s.refreshImage e).setEng e fun y => { y with events := rest }))

/-- When the word at an engine's pc has the primitive's code, the primitive has its effect and the run goes on to
the next word: NOP none, BRANCH over C words when taken, LOOP opens a body, WAIT waits until WAIT_RESUME, CHAN
sets the current channel, SETV, MOVV, ADDV, SUBV and MULV write a saturated slot, LDV and STV move a word of
SCRATCH or set ADDR_ERR when the address lies outside, GETD reads a selector or sets ADDR_ERR, GETP reads the
profile, FLAG collects bits. END ends the run. -/
def Obligations.ControlAndSlotPrimitivesComplete : Prop :=
  (∀ (s : State) (e : Fin 68) y r w, s.primAt e = some (y, r, w) →
    (w.op = 0x00 → exec (.primNop e) s = .next (s.nextWord e (r.cyclesOf w))) ∧
    (w.op = 0x01 → exec (.primEnd e) s = .next ((s.setRun e fun r => { r with cycles := r.cycles + 1 }).endRun e)) ∧
    (w.op = 0x02 → exec (.primBranch e) s = .next ((s.setEng e fun y => { y with pc := if branchTaken y r w = true then y.pc + w.c else y.pc }).nextWord e (r.cyclesOf w))) ∧
    (w.op = 0x03 → exec (.primLoop e) s = .next (((s.setEng e fun y =>
      { y with
        v := y.v.set w.a 0
        loops := { slot := w.a, body := y.pc + 1, stop := y.pc + w.c, left := w.d - 1, done := 0 } :: y.loops }).setRun e
      fun r => { r with cycles := r.cycles + 3 }).nextWord e (r.cyclesOf w))) ∧
    (w.op = 0x04 → exec (.primWait e) s = .next (s.setRun e fun r =>
      { r with waiting := some (w.a, s.tim.shot + cycleTicks w.d, w.b, nearest 32 s.tim.shot (enc 32 (y.slot w.b))) })) ∧
    (w.op = 0x05 → exec (.primChan e) s = .next ((s.setRun e fun r => { r with cur := if w.a = 0 then w.c else (y.slot w.b % 8).toNat }).nextWord e (r.cyclesOf w))) ∧
    (w.op = 0x06 → exec (.primSetv e) s = .next ((s.setSlot e w.a (wrap32 w.d)).nextWord e (r.cyclesOf w))) ∧
    (w.op = 0x07 → exec (.primMovv e) s = .next ((s.setSlot e w.a (y.slot w.b)).nextWord e (r.cyclesOf w))) ∧
    (w.op = 0x08 → exec (.primAddv e) s = .next ((s.setSlot e w.a (y.slot w.a + y.slot w.b + signed 16 w.c)).nextWord e (r.cyclesOf w))) ∧
    (w.op = 0x09 → exec (.primSubv e) s = .next ((s.setSlot e w.a (y.slot w.a - y.slot w.b)).nextWord e (r.cyclesOf w))) ∧
    (w.op = 0x0A → exec (.primMulv e) s = .next ((s.setSlot e w.a (roundDiv (y.slot w.a * y.slot w.b) (2 ^ w.c))).nextWord e (r.cyclesOf w))) ∧
    (w.op = 0x0B → exec (.primLdv e) s = .next ((match scratchAt y w 0x2000 with
      | some a => s.setSlot e w.a (wrap32 (leNat (y.bytes (E_SCRATCH + a) 4)))
      | none => (s.latch (HEN_STAT e) 0x10).setSlot e w.a 0).nextWord e (r.cyclesOf w))) ∧
    (w.op = 0x0C → exec (.primStv e) s = .next ((match scratchAt y w 0x1C00 with
      | some a => s.setEng e fun y => y.store (E_SCRATCH + a) (leBytesInt 4 (y.slot w.a))
      | none => s.latch (HEN_STAT e) 0x10).nextWord e (r.cyclesOf w))) ∧
    (w.op = 0x0D → exec (.primGetd e) s = .next ((match r.selector w.c with
      | some v => s.setSlot e w.a (wrap32 v)
      | none => (s.latch (HEN_STAT e) 0x10).setSlot e w.a 0).nextWord e (r.cyclesOf w))) ∧
    (w.op = 0x0E → exec (.primGetp e) s = .next ((s.setSlot e w.a (wrap32 (y.profile r (4 * w.c) 4))).nextWord e (r.cyclesOf w))) ∧
    (w.op = 0x0F → exec (.primFlag e) s = .next ((s.setRun e fun r => { r with flag := r.flag ||| BitVec.ofNat 32 w.d }).nextWord e (r.cyclesOf w)))) ∧
  (∀ (s : State) (e : Fin 68) r kind stop slot mark, (s.eng e).run = some r → r.waiting = some (kind, stop, slot, mark) →
    let w := nth ((s.eng e).words r.half) (s.eng e).pc (Prim.ofNat 0)
    let passed : Prop := ∃ g, s.engineGroup e = some g ∧ mark < s.groupMark g
    let t := s.setRun e fun r => { r with waiting := none }
    (kind = 1 → passed → exec (.waitResume e) s = .next (t.nextWord e (w.d - (stop - s.tim.shot) * 4 / 5))) ∧
    (stop ≤ s.tim.shot → kind ≠ 1 → exec (.waitResume e) s = .next (t.nextWord e (w.d - (stop - s.tim.shot) * 4 / 5))) ∧
    (stop ≤ s.tim.shot → kind = 1 → ¬ passed → exec (.waitResume e) s = .next
      ((t.setSlot e slot (-1)).nextWord e (w.d - (stop - s.tim.shot) * 4 / 5))))

/-- When the word at an engine's pc has the primitive's code, it writes its work vector, limited to 32 bits with
VSAT, and the run goes on: BIN adds the kept hits of the current channel that fall into the bins, CLEAR zeroes,
COPY copies, DECAY adds the source to the destination less its 2^-C part, VADD adds, VSCALE scales by a slot
with rounding, CONV convolves with Q15 taps. VSUM writes the sum, and VMAX and VMIN the extreme value and its
lowest bin, into slots. -/
def Obligations.VectorPrimitivesComplete : Prop :=
  (∀ (s : State) (e : Fin 68) y r w, s.primAt e = some (y, r, w) →
  (w.op = 0x10 → exec (.primBin e) s = .next ((s.setVec e w.b (((y.vec r w.b).zip ((r.kept.map fun i => (r.delayOf (y.keptHit i).1 - 64 * y.slot w.a) /
    ((64 * 2 ^ w.c : Nat) : Int)).foldl (fun (l : List Int) b => if 0 ≤ b then l.modify b.toNat (· + 1) else l)
    (List.replicate r.bins 0))).map fun p => p.1 + p.2)).nextWord e (r.cyclesOf w))) ∧
  (w.op = 0x11 → exec (.primClear e) s = .next ((s.setVec e w.a (List.replicate r.bins 0)).nextWord e (r.cyclesOf w))) ∧
  (w.op = 0x12 → exec (.primCopy e) s = .next ((s.setVec e w.b (y.vec r w.a)).nextWord e (r.cyclesOf w))) ∧
  (w.op = 0x13 → exec (.primDecay e) s = .next ((s.setVec e w.b (((y.vec r w.a).zip (y.vec r w.b)).map fun p => p.2 - p.2 / ((2 ^ w.c : Nat) : Int) + p.1)).nextWord e (r.cyclesOf w))) ∧
  (w.op = 0x14 → exec (.primVadd e) s = .next ((s.setVec e w.b (((y.vec r w.a).zip (y.vec r w.b)).map fun p => p.2 + p.1)).nextWord e (r.cyclesOf w))) ∧
  (w.op = 0x15 → exec (.primVscale e) s = .next ((s.setVec e w.b ((y.vec r w.a).map fun x => roundDiv (x * y.slot w.d) (2 ^ w.c))).nextWord e (r.cyclesOf w))) ∧
  (w.op = 0x16 → exec (.primConv e) s = .next ((s.setVec e w.b ((List.range r.bins).map fun b => roundDiv ((y.taps r w.c (w.d % 65536)).zipIdx.foldl
    (fun m p => m + p.1 * nth (y.vec r w.a) (b + p.2) 0) 0) 32768)).nextWord e (r.cyclesOf w))) ∧
  (w.op = 0x17 → exec (.primVsum e) s = .next ((s.setSlot e w.b ((y.vec r w.a).foldl (· + ·) 0)).nextWord e (r.cyclesOf w))) ∧
  (w.op = 0x18 → exec (.primVmax e) s = .next (((s.setSlot e w.b (extreme r.seed (fun a b => decide (b < a)) (y.vec r w.a)).1).setSlot e (w.b + 1)
    (extreme r.seed (fun a b => decide (b < a)) (y.vec r w.a)).2).nextWord e (r.cyclesOf w))) ∧
  (w.op = 0x19 → exec (.primVmin e) s = .next (((s.setSlot e w.b (extreme r.seed (fun a b => decide (a < b)) (y.vec r w.a)).1).setSlot e (w.b + 1)
    (extreme r.seed (fun a b => decide (a < b)) (y.vec r w.a)).2).nextWord e (r.cyclesOf w))))

/-- When the word at an engine's pc has the primitive's code, exec answers the next state that the equation gives
and the run goes on to the next word. PSCAN makes the current channel's peak list of the maxima of A above the
floor, at most C of them, the highest first choice, at least D bins apart and in ascending position, marks those
at a window end and notes that the list is not built from stamps. CENTROID and PARAB map their refinement over
the list. PLAIN keeps the Plain of the channel, at most 0x7FFF_FFFF, sets the plain-thin and plain-floor
conditions, and writes its slot with saturation. VALLEY writes the floor of every bin to B, with the pedestal
when D[16] is set. COLTEST writes COL of every entry that is no veil. CLASSIFY writes the classes of classify,
adds the echoes, the failed and the interferers to their counters, and counts and marks what the limit drops.
GHOST subtracts the rounded pedestal from A and sets its condition when any of it is not zero. VEIL drops the
earlier veil with its SUBMERGED marks, and when a run of at least C bins stands over the threshold it enters one
entry for it, marks what it submerges and counts both, or sets veil-dropped when there is no room. STLOAD makes
the list of the first 8 kept hits, notes that it is built from stamps, and writes their number to its slot. -/
def Obligations.DetectionPrimitivesComplete : Prop :=
  (∀ (s : State) (e : Fin 68) y r w, s.primAt e = some (y, r, w) →
  (w.op = 0x20 →
      let a := y.vec r w.a
      let floor := if w.b = 0xF then List.replicate r.bins (y.slot 0) else y.vec r w.b
      let l := sortBy (fun p q => decide (p.1 < q.1)) (keepHighest w.c w.d
        ((maximaFrom none (plateaus 0 a)).filter fun p => decide (nth floor p.1 0 < p.2)))
      exec (.primPscan e) s = .next (((s.setPeaks e r.cur (l.map fun p =>
        { pos := 256 * (p.1 : Int), height := p.2, width := min 65535 (widthAt a p.1 p.2), cls := 0
          flags := if p.1 = 0 ∨ p.1 + 1 = r.bins then 2 else 0, col := 0 })).setRun e fun r =>
        { r with stlist := r.stlist.set r.cur false }).nextWord e (r.cyclesOf w)) ∧
      l.length ≤ w.c ∧ l.Pairwise fun p q => p.1 + w.d ≤ q.1) ∧
  (w.op = 0x21 → exec (.primCentroid e) s = .next ((s.mapPeaks e y r (centroid (y.vec r w.a) r.bins w.c)).nextWord e (r.cyclesOf w))) ∧
  (w.op = 0x22 → exec (.primParab e) s = .next ((s.mapPeaks e y r (parab (y.vec r w.a) r.bins)).nextWord e (r.cyclesOf w))) ∧
  (w.op = 0x23 →
      let p := plainOf y r (y.vec r w.a)
      let t := s.setRun e fun r => { r with plain := r.plain.set r.cur (min 0x7FFFFFFF (roundRat (p.1 * 65536))) }
      let t := if p.2.1 = true then t.runCond e 0x40000 0x1 else t
      let t := if p.2.2 = true then t.runCond e 0x80000 0x2 else t
      exec (.primPlain e) s = .next ((t.setSlot e w.b (roundRat (p.1 * 65536))).nextWord e (r.cyclesOf w))) ∧
  (w.op = 0x24 → exec (.primValley e) s = .next ((s.setVec e w.b ((List.range r.bins).map fun b => valleyOf
      ((y.taps r w.c (w.d % 65536)).map fun (t : Int) => (t : Rat) / 32768)
      (((List.range r.bins).map fun j => if bit w.d 16 = true then (y.slot w.a : Rat) / 65536 + pedestal y r j else
        (y.slot w.a : Rat) / 65536).drop b) (y.profile r 16 2) (y.profile r 18 1) r.seed b)).nextWord e (r.cyclesOf w))) ∧
  (w.op = 0x25 → exec (.primColtest e) s = .next ((s.mapPeaks e y r fun p => if bit p.flags 2 = true then p else
      { p with col := colCount y r w.a (w.d / 256) w.c p % 128 +
          (if colCount y r w.a (w.d / 256) w.c p < w.d % 256 then 128 else 0) }).nextWord e (r.cyclesOf w))) ∧
  (w.op = 0x26 →
      let c := classify (y.peakList r r.cur)
        (strength (y.vec r w.a) r.bins (y.profile r 36 1) (nth r.stlist r.cur false)) (y.profile r 37 1) (y.profile r 38 2)
      let t := (((s.setPeaks e r.cur c.1).bumpBy DET_ECHO_CNT (c.1.filter fun p => p.cls % 16 != 0).length).bumpBy
        DET_COLF_CNT (c.1.filter fun p => p.cls == 0x40).length).bumpBy
        DET_IFR_CNT (c.1.filter fun p => p.cls == 0x20).length
      (c.2 = 0 → exec (.primClassify e) s = .next (t.nextWord e (r.cyclesOf w))) ∧
      (c.2 ≠ 0 → exec (.primClassify e) s = .next
        (((t.bumpBy DET_LIMIT_CNT c.2).runCond e 0x400000 0x10).nextWord e (r.cyclesOf w)))) ∧
  (w.op = 0x27 →
      let ped := (List.range r.bins).map (pedestal y r)
      let t := s.setVec e w.a (((y.vec r w.a).zip ped).map fun p => p.1 - roundRat p.2)
      exec (.primGhost e) s = .next
        ((if (ped.any fun p => roundRat p != 0) = true then t.runCond e 0x100000 0x4 else t).nextWord e (r.cyclesOf w))) ∧
  (w.op = 0x28 →
      let a := y.vec r w.a
      let bound := roundRat (((nth r.plain r.cur 0 * (y.profile r 40 4 : Int) : Int) : Rat) / 4294967296)
      let old := ((y.peakList r r.cur).filter fun p => !bit p.flags 2).map fun p =>
        if (y.peakList r r.cur).any (fun q => bit q.flags 2) = true ∧ p.cls = 0x80 then { p with cls := 0 } else p
      let found := (veilRuns bound (y.profile r 44 1) a).reverse.find? fun x => decide (w.c ≤ x.2 - x.1 + 1)
      (found = none → exec (.primVeil e) s = .next ((s.setPeaks e r.cur old).nextWord e (r.cyclesOf w))) ∧
      (∀ lo hi, found = some (lo, hi) →
        let len := hi - lo + 1
        let v : Peak :=
          { pos := 256 * (lo : Int)
            height := roundRat (((((a.drop lo).take len).foldl (· + ·) 0 : Int) : Rat) / ((len : Nat) : Rat))
            width := min 65535 len, cls := 0x10, flags := 4, col := 0 }
        let inSpan (p : Peak) : Bool := decide (256 * (lo : Int) ≤ p.pos) && decide (p.pos < 256 * ((hi : Int) + 1))
        let sub (p : Peak) : Bool := !bit p.flags 2 && inSpan p &&
          decide (p.height * 256 ≤ v.height * (y.profile r 46 2 : Int))
        (enterVeil old (y.maxPeaks r) inSpan v = none → exec (.primVeil e) s = .next
          (((s.setPeaks e r.cur old).runCond e 0x200000 0x8).nextWord e (r.cyclesOf w))) ∧
        (∀ l, enterVeil old (y.maxPeaks r) inSpan v = some l → exec (.primVeil e) s = .next
          ((((s.setPeaks e r.cur (l.map fun p => if sub p = true then { p with cls := 0x80 } else p)).bump
            DET_VEIL_CNT).bumpBy DET_SUBM_CNT (l.filter sub).length).nextWord e (r.cyclesOf w))))) ∧
  (w.op = 0x38 →
      let start : Int := match r.first, s.engineGroup e with
        | some x, some g => (x.start : Int) + nth x.adj (8 * g + r.cur) 0
        | some x, none => (x.start : Int)
        | none, _ => 0
      let k := match r.first with | some x => x.binExp | none => 0
      let l := (r.kept.take 8).map fun i =>
        ({ pos := roundDiv (256 * (r.delayOf (y.keptHit i).1 - 64 * start)) (64 * 2 ^ k), height := (y.keptHit i).2.getD 0
           width := 0, cls := 0, flags := 0, col := 0 } : Peak)
      exec (.primStload e) s = .next ((((s.setPeaks e r.cur l).setRun e fun r =>
        { r with stlist := r.stlist.set r.cur true }).setSlot e w.a l.length).nextWord e (r.cyclesOf w))))

/-- When the word at an engine's pc has the primitive's code, EMIT queues an ECHO or EPOCH record for each entry of
the current channel whose class its mask selects, none of a lost channel, or one STAT record, and takes 4 cycles
and 2 for each record; DUMP queues one HIST record, EMITEV one EVENT record; XSTAMP zeroes the first word of its
image and requests a cross-stamp, behind those that wait (one is in flight; the waiting is the model's choice,
log entry 105), and a command cross-stamp of source 1 sees it. EMIT_RESUME moves the records of a stalled run
into RECQ as room allows. XSTAMP_COMPLETE writes the image of the oldest request and removes the request; the
next one is in flight from then on. -/
def Obligations.RecordPrimitivesComplete : Prop :=
  (∀ (s : State) (e : Fin 68) y r w, s.primAt e = some (y, r, w) →
    (w.op = 0x30 → ∃ l : List Rec, exec (.primEmit e) s = .next ((s.queueRecs e l).nextWord e (4 + 2 * l.length)) ∧
      let ps := if s.rep.chanLost.contains (s.devChan e r) = true then [] else
        (y.peakList r r.cur).filter fun p => p.cls &&& w.c % 256 != 0
      (w.a = 1 → l = ps.map (s.echoRec e y r)) ∧ (w.a = 2 → l = ps.map (s.epochRec e y r)) ∧
      (w.a = 3 → l = [s.statRec e r])) ∧
    (w.op = 0x31 → ∃ x : Rec, exec (.primDump e) s = .next ((s.queueRecs e [x]).nextWord e (r.cyclesOf w)) ∧ x.key = r.key ∧
      x.chan = some (s.devChan e r) ∧ x.origin = r.origin ∧ field x.bytes 0 1 = 3 ∧
      x.bytes.length = histBytes ((y.vec r w.a).length - w.d) (if w.a = 0 then 2 else 4)) ∧
    (w.op = 0x32 → ∃ x : Rec, exec (.primEmitev e) s = .next ((s.queueRecs e [x]).nextWord e (r.cyclesOf w)) ∧ x.key = r.key ∧
      x.origin = r.event.tick ∧ field x.bytes 0 1 = 6 ∧ field x.bytes 2 2 = e.val ∧ field x.bytes 4 2 = w.c % 65536 ∧
      slice x.bytes 8 4 = leBytesInt 4 (y.slot w.a) ∧ x.bytes.length = 32) ∧
    (w.op = 0x33 → exec (.primXstamp e) s = .next (((s.setEng e fun y =>
        { y.store (E_SCRATCH + w.d) (leBytes 4 0) with
          xstamps := y.xstamps ++ [(w.d, s.time)] }).crossSeen 1 s.fineNow).nextWord e (r.cyclesOf w)))) ∧
  (∀ (s : State) (e : Fin 68) r, (s.eng e).run = some r → r.stalled = true →
    exec (.emitResume e) s = .next ((s.pumpRecs e).closePast e)) ∧
  (∀ (s : State) (e : Fin 68) off at_ rest, (s.eng e).xstamps = (off, at_) :: rest → e.val < s.hen.length →
    let k := s.tim.shot - (s.time - at_)
    let x := s.crossImage 1 (2048 * (k : Int) - s.treeShift k)
    exec (.xstampComplete e) s = .next (x.2.setEng e fun y => { y.store (E_SCRATCH + off) x.1 with
      xstamps := match rest with | (o, _) :: q => (o, s.time) :: q | [] => [] }))

/-- For a word that no loop holds and that is not the last: the primitive writes exactly its destination slot,
limited to 32 bits, and VSAT is set exactly when the value was limited; the pc advances by one, the run's cycles
by the primitive's; no other slot, no byte of the engine's memory, no other engine, no other part and no
register but the engine's status changes. -/
def Obligations.SlotPrimitivesWriteOneSlot : Prop :=
  ∀ (s : State) (e : Fin 68) y r w, s.straight e y r w →
  let slot (t : State) (i : Nat) (v : Int) : Prop := s.goesOn t e (r.cyclesOf w) [HEN_STAT e] ∧ s.slotSet t e i v
  (w.op = 0x06 → ∃ t, exec (.primSetv e) s = .next t ∧ slot t w.a (wrap32 w.d)) ∧
  (w.op = 0x07 → ∃ t, exec (.primMovv e) s = .next t ∧ slot t w.a (y.slot w.b)) ∧
  (w.op = 0x08 → ∃ t, exec (.primAddv e) s = .next t ∧ slot t w.a (y.slot w.a + y.slot w.b + signed 16 w.c)) ∧
  (w.op = 0x09 → ∃ t, exec (.primSubv e) s = .next t ∧ slot t w.a (y.slot w.a - y.slot w.b)) ∧
  (w.op = 0x0A → ∃ t, exec (.primMulv e) s = .next t ∧ slot t w.a (roundDiv (y.slot w.a * y.slot w.b) (2 ^ w.c))) ∧
  (w.op = 0x0B → ∃ t, exec (.primLdv e) s = .next t ∧ slot t w.a (match scratchAt y w 0x2000 with
    | some a => wrap32 (leNat (y.bytes (E_SCRATCH + a) 4))
    | none => 0)) ∧
  (w.op = 0x0D → ∃ t, exec (.primGetd e) s = .next t ∧ slot t w.a (match r.selector w.c with
    | some v => wrap32 v
    | none => 0)) ∧
  (w.op = 0x0E → ∃ t, exec (.primGetp e) s = .next t ∧ slot t w.a (wrap32 (y.profile r (4 * w.c) 4))) ∧
  (w.op = 0x17 → ∃ t, exec (.primVsum e) s = .next t ∧ slot t w.b ((y.vec r w.a).foldl (· + ·) 0))

/-- NOP as the last word of the innermost LOOP body: with iterations left, the pc returns to the body's first word,
the counter slot holds the iterations done, and the way back costs 2 cycles; without, the loop is left and the
next word follows, when no outer loop ends there. NOP as the last word of the program, outside any loop, ends
the run with ADDR_ERR: no run is left and the pc is 0. -/
def Obligations.WordsFollowTheLoops : Prop :=
  ∀ (s : State) (e : Fin 68) y r w, s.primAt e = some (y, r, w) → w.op = 0x00 →
  (∀ f rest, y.loops = f :: rest → y.pc = f.stop → 0 < f.left → f.body < (y.words r.half).length →
    ∃ t, exec (.primNop e) s = .next t ∧ (t.eng e).pc = f.body ∧
      (t.eng e).v = y.v.set f.slot ((f.done + 1 : Nat) : Int) ∧
      (t.eng e).loops = { f with left := f.left - 1, done := f.done + 1 } :: rest ∧
      (t.eng e).run = some { r with cycles := r.cycles + r.cyclesOf w + 2 } ∧ t.regs = s.regs) ∧
  (∀ f rest, y.loops = f :: rest → y.pc = f.stop → f.left = 0 → y.pc + 1 < (y.words r.half).length →
    (∀ g, rest.head? = some g → y.pc ≠ g.stop) →
    ∃ t, exec (.primNop e) s = .next t ∧ (t.eng e).pc = y.pc + 1 ∧ (t.eng e).v = y.v ∧ (t.eng e).loops = rest ∧
      (t.eng e).run = some { r with cycles := r.cycles + r.cyclesOf w } ∧ t.regs = s.regs) ∧
  (y.loops = [] → y.pc + 1 = (y.words r.half).length →
    ∃ t, exec (.primNop e) s = .next t ∧ (t.eng e).run = none ∧ (t.eng e).pc = 0 ∧
      bit (t.regN (HEN_STAT e)) 4 = true)

/-- RECORD_BUILD places the stream's next record once every source has passed its key, while no DDR5 channel is
paused and no switchover of the control complex runs. FRAME_CLOSE closes the open frame when the program has
ended, as the last one, or CLOSE us after it opened. FRAME_TRANSMIT gives an idle server the bid of the earliest
deadline: a frame on PCIe needs a buffer that fits, on Ethernet its first fragment goes out, a packet to an
endpoint as a datagram; a port that carries a frame sends its next fragment, and a launch goes first from its
time less the time of its frame on the line on. FRAME_DELIVERED of all that a server carries frees the server,
writes a PCIe frame or reply into its buffer and counts the delivery. STREAM_STALL_SUSPEND suspends the live
program of an Ethernet stream that has found no way out for STALL_LIMIT, with cause 5. DRING_IRQ raises the
ring's vector at IRQ_FRAMES write-backs or after IRQ_US. -/
def Obligations.FramesAreBuiltAndDelivered : Prop :=
  (∀ (s : State) (pid : Fin 64) r, let t := (s.sources pid).foldl State.drain s
    nextRec (t.stream pid).waiting = some r →
    exec (.recordBuild pid) s = .next (if t.passed pid r.key = true ∧ t.dramPaused = false ∧ t.rep.switch = none then t.place pid r else t)) ∧
  (∀ (s : State) (pid : Fin 64) o, (s.stream pid).openFr = some o →
    s.ended pid = true ∨ o.opened + 1250 * stClose (s.stream pid).desc ≤ s.time →
    exec (.frameClose pid) s = .next (s.closeFrame pid (s.ended pid))) ∧
  (∀ (s : State) (v : Fin 5), let port : Fin 4 := (BitVec.ofNat 2 (v.val - 1)).toFin
    (v.val ≠ 0 → s.launchHolds port = true → exec (.frameTransmit v) s = .next s) ∧
    ((v.val = 0 ∨ s.launchHolds port = false) → (nth s.out.servers v.val none).isSome = true →
      exec (.frameTransmit v) s = .next (if v.val = 0 then s else s.nextFragment port))) ∧
  (∀ (s : State) (v : Fin 5) b, let port : Fin 4 := (BitVec.ofNat 2 (v.val - 1)).toFin
    (v.val = 0 ∨ s.launchHolds port = false) →
    nth s.out.servers v.val none = none → bestBid (s.bids v.val) = some b →
    (∀ f, b.item = .frame f → v.val = 0 → exec (.frameTransmit v) s = .next (s.startPcie f)) ∧
    (∀ f, b.item = .frame f → v.val ≠ 0 → exec (.frameTransmit v) s = .next
      (((s.startFrame v f).setFrags v (fragments (s.fragSize port) f.bytes)).nextFragment port)) ∧
    (∀ q mac ip pt tag p, b.item = .packet (.udp q mac ip pt tag) p → exec (.frameTransmit v) s = .next
      ((s.startPacket v (.udp q mac ip pt tag) p).sendPacketUdp q mac ip pt tag ((s.startPacket v (.udp q mac ip pt tag) p).replyPort p b.deadline) p.bytes)) ∧
    (∀ n p, b.item = .packet (.ring n) p → exec (.frameTransmit v) s = .next (s.startPacket v (.ring n) p))) ∧
  (∀ (s : State) (v : Fin 5) item, nth s.out.servers v.val none = some item →
    let t : State := { s with out.servers := s.out.servers.set v.val none }
    (nth s.out.frags v.val [] ≠ [] → exec (.frameDelivered v) s = .next s) ∧
    (nth s.out.frags v.val [] = [] →
      (∀ f, item = .frame f → exec (.frameDelivered v) s =
        .next ((if v.val = 0 then t.writeFrame f else t).frameDone v f)) ∧
      (∀ n p, item = .packet (.ring n) p → exec (.frameDelivered v) s = .next (t.writeReply n p)) ∧
      (∀ q mac ip pt tag p, item = .packet (.udp q mac ip pt tag) p → exec (.frameDelivered v) s = .next t))) ∧
  (∀ (s : State) (pid : Fin 64) q t, s.prog pid = some q → (s.stream pid).dry = some t → q.live = true →
    stRoute (s.stream pid).desc = 1 → stStall (s.stream pid).desc ≠ 0 → (s.stream pid).closed ≠ [] →
    t + 1250000 * stStall (s.stream pid).desc ≤ s.time →
    exec (.streamStallSuspend pid) s = .next (s.suspend pid 5)) ∧
  (∀ (s : State) (n : Fin 16) r, s.out.rings[n.val]? = some r → r.unsig ≠ 0 →
    s.fld (OUT_DRING_CFG n) 23 16 ≤ r.unsig ∨
      r.firstAt + 1250 * s.fld (OUT_DRING_CFG n) 31 24 ≤ s.time →
    exec (.dringIrq n) s = .next
      { s with out.rings := s.out.rings.set n.val { r with irqs := r.irqs + 1, unsig := 0 } })

/-- For a stream to PCIe or Ethernet whose open frame closes: exactly one frame is added behind the stream's closed
frames; it holds the records of the open frame in order, the stream's frame number, which advances by one, LAST
exactly when the program has ended, the records lost since the previous frame, and a deadline no later than
BOUND us after any of its records' origins; its bytes are 32 and those of its records, and name the number of
records. No frame is open, no other stream, no register but the frame number and no other part than these two
and the packet unit, which keeps a wrap's EVENT, changes. -/
def Obligations.ClosedFrameKeepsItsRecords : Prop :=
  ∀ (s : State) (pid : Fin 64) o, (s.stream pid).openFr = some o → pid.val < s.out.streams.length →
  stRoute (s.stream pid).desc ≠ 2 → (s.ended pid = true ∨ o.opened + 1250 * stClose (s.stream pid).desc ≤ s.time) →
  ∃ t f, exec (.frameClose pid) s = .next t ∧ (t.stream pid).closed = (s.stream pid).closed ++ [f] ∧
    f.recs = o.recs ∧ f.stream = pid.val ∧ f.isLast = s.ended pid ∧ f.fseq = s.reg (OUT_STREAM_FSEQ pid) ∧
    t.reg (OUT_STREAM_FSEQ pid) = s.reg (OUT_STREAM_FSEQ pid) + 1 ∧ f.lost = (s.stream pid).lost ∧
    (t.stream pid).lost = 0 ∧ (∀ r ∈ o.recs, f.deadline ≤ r.origin + 1250 * stBound (s.stream pid).desc) ∧
    f.bytes.length = frameSize o.recs ∧ field f.bytes 6 2 = o.recs.length % 65536 ∧
    (t.stream pid).openFr = none ∧ (∀ k, k ≠ pid.val → t.stream k = s.stream k) ∧
    (∀ a, a ≠ OUT_STREAM_FSEQ pid → t.reg a = s.reg a) ∧ s.keeps t [.regs, .out, .pk]

/-- An accepted WF_ALLOC, the units of the lanes that it changes against the newest allocation accepted being idle,
waits, behind those accepted before it, for the first slice-clock edge at least 100 ns on, where ALLOC_EFFECT
puts it into force, with 64 invalid samples from the edge on of every lane that changed. WF_GAIN at once changes
the range; at a boundary it changes it when the input stands at one, else its reply waits for GAIN_BOUNDARY, no
later than 100 ms, or for GAIN_TIMEOUT after 100 ms, which answers STATE. APPLY swaps a lane's filter buffers.
DISARM brings an armed or held unit to IDLE. CAPTURE_CONFIG of an idle unit writes its registers, CAPTURE_ARM
without a thermal shutdown arms the idle units of its mask, and CAPTURE_TRIGGER gives the units of its mask a
command trigger. -/
def Obligations.DigitiserConfigurationCompletes : Prop :=
  (∀ s u o r x, s.accepted wfAllocOp o r = some (u, x) →
    let mode := field r.payload 0 1
    let ins := slice r.payload 4 16
    (∀ c, c < 16 → (u.capUnit c).st ≠ .idle → (changedLanes u.lastAlloc.1 u.lastAlloc.2 mode ins).contains (u.capLane c) = false) →
    exec (.wfAlloc o r) s = .next
      (State.answered { u with wfd.alloc := u.wfd.alloc ++ [(mode, ins, u.allocEdge)] } 0x60 o r x)) ∧
  (∀ (s : State) mode ins edge later, s.wfd.alloc = (mode, ins, edge) :: later →
    (2048 * s.tim.shot < edge → exec .allocEffect s = .next s) ∧
    (edge ≤ 2048 * s.tim.shot →
    ∃ t, exec .allocEffect s = .next t ∧ t.wfd.mode = mode ∧ t.wfd.laneIn = ins ∧ t.wfd.alloc = later ∧
      (∀ l, l < s.wfd.marks.length → (changedLanes s.wfd.mode s.wfd.laneIn mode ins).contains l = true →
        (t.laneInput l).isSome = true → ∃ m rest, nth t.wfd.marks l [] = m :: rest ∧ m.bit = 22 ∧ m.invalid = true ∧
          m.start = t.sampleAtEdge l edge ∧ m.stop = m.start + (64 * t.lanePeriod : Nat)) ∧
      (∀ l, (changedLanes s.wfd.mode s.wfd.laneIn mode ins).contains l = false →
        nth t.wfd.marks l [] = nth s.wfd.marks l []) ∧ s.keeps t [.regs, .wfd])) ∧
  (∀ s u o r x, s.accepted wfGainOp o r = some (u, x) →
    let i := field r.payload 0 1
    let range := field r.payload 1 1
    (field r.payload 2 1 = 1 → exec (.wfGain o r) s = .next
      ((State.setGain (match u.inputLane i with | some l => u.dropLane l | none => u) i range false).answered 0x61 o r x)) ∧
    (field r.payload 2 1 = 0 → u.boundary i = true →
      exec (.wfGain o r) s = .next ((u.setGain i range).answered 0x61 o r x)) ∧
    (field r.payload 2 1 = 0 → u.boundary i = false → exec (.wfGain o r) s = .next
      (State.deferring { u with wfd.gainPend := some (i, range, u.time) } 0x61 o r x u.time))) ∧
  (∀ (s : State) (i : Fin 16), s.boundary i = true →
    let t := if s.wfd.dinPend.contains i.val = true then s.takeDin i else s
    (∀ range since, t.wfd.gainPend = some (i.val, range, since) → t.time ≤ since + 125000000 →
      exec (.gainBoundary i) s = .next (State.finishDeferred { t.setGain i range with wfd.gainPend := none } OK)) ∧
    ((∀ j range since, t.wfd.gainPend = some (j, range, since) → j ≠ i.val ∨ since + 125000000 < t.time) →
      exec (.gainBoundary i) s = .next t)) ∧
  (∀ (s : State) (i : Fin 16) range since, s.wfd.gainPend = some (i.val, range, since) →
    since + 125000000 ≤ s.time →
    exec (.gainTimeout i) s = .next
      ((State.latch { s with wfd.gainPend := none } WFD_STATUS 0x10).finishDeferred STATE)) ∧
  (∀ (s : State) (l : Fin 16), s.boot.held = false → s.wfd.filters.length = 16 →
    exec (.apply l) s = .next (s.applyFilter l) ∧ (s.applyFilter l).laneFilter l = s.shadowFilter l) ∧
  (∀ (s : State) (u : Fin 16), s.boot.held = false → s.wfd.units.length = 16 →
    ∃ t, exec (.disarm u) s = .next t ∧
      ((s.capUnit u).st = .armed ∨ (s.capUnit u).st = .held → (t.capUnit u).st = .idle) ∧
      ((s.capUnit u).st = .post ∨ (s.capUnit u).st = .rearm →
        (t.capUnit u).st = (s.capUnit u).st ∧ (t.capUnit u).disarm = true) ∧
      ((s.capUnit u).st = .idle → t = s) ∧ (∀ k, k ≠ u.val → t.capUnit k = s.capUnit k) ∧ s.keeps t [.regs, .wfd, .pk]) ∧
  (∀ s u o r x, s.accepted captureConfigOp o r = some (u, x) → let c := field r.payload 0 1
    (u.capUnit c).st = .idle →
    exec (.captureConfig o r) s = .next
      ((((((u.setFld (WFD_CAP_SRC c) 6 0 (field r.payload 2 2)).setRegN (WFD_CAP_THRESH c) (field r.payload 4 2)).setFld
        (WFD_CAP_CFG c) 31 28 (field r.payload 6 1)).setRegN (WFD_CAP_POST c) (field r.payload 8 4))).answered
          0x62 o r x)) ∧
  (∀ s u o r x, s.accepted captureArmOp o r = some (u, x) →
    let us := (maskUnits (field r.payload 0 2)).filter fun c => (u.capUnit c).st == .idle
    u.thm.shutdown = false → (∀ c ∈ us, u.armable c = true) →
    exec (.captureArm o r) s = .next ((us.foldl (fun t c => t.arm c t.fineNow none) u).answered 0x63 o r x)) ∧
  (∀ s u o r x, s.accepted captureTriggerOp o r = some (u, x) →
    (∀ c ∈ maskUnits (field r.payload 0 2), bit (u.regN (WFD_CAP_SRC c)) 6 = true) →
    exec (.captureTrigger o r) s = .next (((maskUnits (field r.payload 0 2)).foldl
      (fun t c => t.trigger c 6 (t.nextSample (t.capLane c))) u).answered 0x64 o r x))

/-- A unit that is not ARMED ignores samples; an ARMED unit takes the earliest trigger sample among its enabled
sources, but none among the samples of a gain change at a boundary (within its POST part too, by the model's
choice, log entry 108), as the capture's, with the mask of the sources that have it, once the lane and the
watermarks have passed it, and enters POST. A plain capture that has its samples is counted, and its unit enters
REARM, or IDLE when a disarm waits. After its hold REARM leaves for IDLE under a waiting disarm, for HELD while
the area cannot hold the largest capture, for ARMED under AUTO or within an averaging sequence, and else for
IDLE; CAPTURE_AREA_FREE lets a held unit leave the same way; in REARM and HELD the crossings that the unit sees,
and the triggers of other sources, count as missed. -/
def Obligations.CapturesRunToTheirEnd : Prop :=
  (∀ (s : State) (u : Fin 16) codes, (s.capUnit u).st ≠ .armed → exec (.triggerSample u codes) s = .next s) ∧
  (∀ (s : State) (u : Fin 16) codes (k : Int), (s.capUnit u).st = .armed → s.wfd.units.length = 16 →
    let c := s.capUnit u
    let l := s.capLane u
    let k0 := s.sampleFrom l c.armedAt
    let ys := s.stream32 l k0 codes
    let z := s.detectAll u l { low := false, high := false, prev := none, found := [] } k0 ys
    let cands := (s.unitTriggers u z.found).1.filter fun x => decide (x.2.2 < k0 + ys.length)
    (∃ x ∈ cands, x.2.2 = k) → (∀ x ∈ cands, k ≤ x.2.2) → s.sampleTime l k ≤ (s.fineNow : Int) →
    s.sourcesPassed u (s.sampleTime l k) = true →
    ∃ t, exec (.triggerSample u codes) s = .next t ∧ (t.capUnit u).st = .post ∧
      (t.capUnit u).trigIdx = (k - k0).toNat ∧ (t.capUnit u).armShot = c.armShot ∧
      (∀ b, b < 7 → bit (t.capUnit u).srcMask b = cands.any fun x => x.2.2 == k && x.1 == b) ∧
      (∀ j, j ≠ u.val → t.capUnit j = s.capUnit j) ∧ s.keeps t [.regs, .wfd, .pk]) ∧
  (∀ (s : State) (u : Fin 16) codes, (s.capUnit u).st = .post → s.capAvg u = 0 → s.wfd.units.length = 16 →
    let l := s.capLane u
    let pre := min (s.capPre u) (s.capUnit u).trigIdx
    let kTrig := s.sampleFrom l (s.capUnit u).armedAt + (s.capUnit u).trigIdx
    codes.length = 32 + pre + s.capPost u → s.sampleTime l (kTrig + s.capPost u - 1) ≤ (s.fineNow : Int) →
    ∃ t, exec (.captureEnd u codes) s = .next t ∧
      (t.capUnit u).st = (if (s.capUnit u).disarm = true then .idle else .rearm) ∧
      (t.capUnit u).armShot = (if (s.capUnit u).disarm = true then none else (s.capUnit u).armShot) ∧
      (t.capUnit u).missed = 0 ∧ t.reg (WFD_CAP_COUNT u) = s.reg (WFD_CAP_COUNT u) + 1 ∧
      (∀ j, j ≠ u.val → t.capUnit j = s.capUnit j)) ∧
  (∀ (s : State) (u : Fin 16) codes, (s.capUnit u).st = .rearm → s.wfd.units.length = 16 →
    (s.time < (s.capUnit u).holdTo → exec (.rearmDone ⟨u, codes⟩) s = .next s) ∧
    ((s.capUnit u).holdTo ≤ s.time →
    ∃ t, exec (.rearmDone ⟨u, codes⟩) s = .next t ∧ (t.capUnit u).st =
      (if (s.capUnit u).disarm = true then .idle
       else if s.regN (WFD_CAP_AREA_FREE u) < s.captureSize u then .held
       else if bit (s.regN (WFD_CAP_CFG u)) 27 = true ∨ (s.capUnit u).seq = true then .armed else .idle) ∧
      (∀ j, j ≠ u.val → t.capUnit j = s.capUnit j) ∧ s.keeps t [.regs, .wfd, .pk])) ∧
  (∀ (s : State) (u : Fin 16) codes, s.wfd.units.length = 16 →
    ((s.capUnit u).st ≠ .held → exec (.captureAreaFree ⟨u, codes⟩) s = .next s) ∧
    ((s.capUnit u).st = .held → s.regN (WFD_CAP_AREA_FREE u) < s.captureSize u →
      exec (.captureAreaFree ⟨u, codes⟩) s = .next (s.missCrossings u codes)) ∧
    ((s.capUnit u).st = .held → s.captureSize u ≤ s.regN (WFD_CAP_AREA_FREE u) →
      ∃ t, exec (.captureAreaFree ⟨u, codes⟩) s = .next t ∧ (t.capUnit u).st =
        (if bit (s.regN (WFD_CAP_CFG u)) 27 = true ∨ (s.capUnit u).seq = true then .armed else .idle) ∧
        (∀ j, j ≠ u.val → t.capUnit j = s.capUnit j) ∧ s.keeps t [.regs, .wfd, .pk]))

/-- A rotation step that is due begins the calibration of the spare; its end writes the trims to the spare and
begins the shadowing; when 4,096 slice samples have passed and the shadowing passes, the spare takes the
position whose turn it is and its former holder becomes the spare; a first failure repeats the calibration, and
a second one fails the spare, stops rotation and enters the repair map. Nothing happens before, without a spare,
with rotation stopped or off. (Each part of a step is one row: the model's choice, log entry 110.) A failing
slice in service hands its position to the spare and fails, or, without a spare, keeps it; a commanded migration
hands it to the spare and fails no slice; a slice that holds no position or has failed changes nothing. -/
def Obligations.SlicesRotateAndMigrate : Prop :=
  (∀ (s : State) shadow trims, s.wfdSpare = none ∨ s.wfd.rotDead = true ∨ bit (s.regN WFD_ROT_CFG) 16 = false →
    exec (.wfdRotationStep shadow trims) s = .next s) ∧
  (∀ (s : State) shadow trims j, s.wfdSpare = some j → s.wfd.rotDead = false → bit (s.regN WFD_ROT_CFG) 16 = true →
    let pass : Prop := -500 ≤ nth shadow 0 0 ∧ nth shadow 0 0 ≤ 500 ∧ -300 ≤ nth shadow 1 0 ∧ nth shadow 1 0 ≤ 300
    let p := s.wfd.rotPos
    ((s.wfdSlice j).state ≠ 1 → (s.wfdSlice j).state ≠ 2 → exec (.wfdRotationStep shadow trims) s = .next (
      if s.time < s.wfd.rotAt + 1250000 * s.fld WFD_ROT_CFG 7 0 then s
      else { s.setSlice j fun x => { x with state := 1 } with wfd.rotAt := s.time })) ∧
    ((s.wfdSlice j).state = 1 → exec (.wfdRotationStep shadow trims) s = .next
      { s.setSlice j fun x =>
          { x with state := 2, offset := fieldInt trims 0 2, gain := fieldInt trims 2 2, skew := fieldInt trims 4 2 } with
        wfd.shadowAt := s.time }) ∧
    ((s.wfdSlice j).state = 2 → s.time < s.wfd.shadowAt + 10240 → exec (.wfdRotationStep shadow trims) s = .next s) ∧
    ((s.wfdSlice j).state = 2 → s.wfd.shadowAt + 10240 ≤ s.time →
      (pass → ∀ k, s.wfd.slices.length = 17 → (List.range 17).find? (fun k => (s.wfdSlice k).pos == some p) = some k →
        ∃ t, exec (.wfdRotationStep shadow trims) s = .next t ∧
          t.wfdSlice j = { s.wfdSlice j with pos := some p, state := 0 } ∧ (t.wfdSlice k).pos = none ∧
          (t.wfdSlice k).state = 3 ∧ (∀ i, i ≠ j → i ≠ k → t.wfdSlice i = s.wfdSlice i) ∧ t.wfd.rotPos = (p + 1) % 16 ∧
          t.wfd.rotAt = s.wfd.rotAt ∧ t.wfd.retried = false ∧ s.keeps t [.wfd]) ∧
      (¬ pass → s.wfd.retried = false → exec (.wfdRotationStep shadow trims) s = .next
        { (s.latch WFD_STATUS 0x20).setSlice j fun x => { x with state := 1 } with wfd.retried := true }) ∧
      (¬ pass → s.wfd.retried = true →
        ∃ t, exec (.wfdRotationStep shadow trims) s = .next t ∧ t.wfd.rotDead = true ∧
          t.rep.wfdFail = s.rep.wfdFail ++ [j] ∧ (∃ e ∈ t.rep.map, e.kind = 2 ∧ e.failed = j) ∧
          bit (t.regN WFD_STATUS) 6 = true))) ∧
  (∀ (s : State) (j : Fin 17), (s.wfdSlice j).pos = none ∨ (s.wfdSlice j).state = 4 →
    exec (.wfdSliceMigration j) s = .next s) ∧
  (∀ (s : State) (j : Fin 17) p k, (s.wfdSlice j).pos = some p → (s.wfdSlice j).state ≠ 4 → s.wfdSpare = some k →
    s.wfd.slices.length = 17 →
    let fault : Prop := ∀ m, s.rep.migs.find? (fun m => m.kind == 2 && m.failed == j.val) = some m → m.commanded = false
    ∃ t, exec (.wfdSliceMigration j) s = .next t ∧ (t.wfdSlice j).pos = none ∧ (t.wfdSlice k).pos = some p ∧
      (t.wfdSlice k).state = 0 ∧ (∀ i, i ≠ j.val → i ≠ k → t.wfdSlice i = s.wfdSlice i) ∧
      (fault → (t.wfdSlice j).state = 4 ∧ t.wfd.rotDead = true ∧ t.rep.wfdFail = s.rep.wfdFail ++ [j.val])) ∧
  (∀ (s : State) (j : Fin 17) p, (s.wfdSlice j).pos = some p → (s.wfdSlice j).state ≠ 4 → s.wfdSpare = none →
    s.wfd.slices.length = 17 →
    ∃ t, exec (.wfdSliceMigration j) s = .next t ∧ (t.wfdSlice j).pos = some p ∧
      (∀ i, i ≠ j.val → t.wfdSlice i = s.wfdSlice i))

/-- An accepted LOOP_COEF writes the shadow bank. LOOP_SWAP of loops with valid shadow banks within the rate budget
swaps the stopped ones at once; its reply waits while a running one has still to swap. LOOP_SETPOINT of a loop
that no other drives sets its set-point, at once in mode 0 and otherwise at the next sample. LOOP_MODE enters a
mode at once from mode 0 and else waits for the next sample. LOOP_IO of a stopped loop writes its selects unless
the output is driven already or a cascade would close a circle. -/
def Obligations.LoopCommandsComplete : Prop :=
  (∀ s u o r x, s.accepted loopCoefOp o r = some (u, x) → exec (.loopCoef o r) s = .next
    ((u.setLoop (field r.payload 0 1) fun l => { l with shadow := slice r.payload 4 112, shdValid := true }).answered
      0x70 o r x)) ∧
  (∀ s u o r x, s.accepted loopSwapOp o r = some (u, x) →
    let ks := maskUnits (field r.payload 0 2)
    let u' := ks.foldl (fun t k => t.setLoop k fun l => { l with pendSwap := true }) u
    let v := ks.foldl (fun (t : State) k => if (t.loop k).mode = 0 then t.setLoop k ControlLoop.swapBanks else t) u'
    (∀ k ∈ ks, (u.loop k).shdValid = true) → (u'.rateOk = true ∨ ∀ k ∈ ks, (u.loop k).nextMode = 0) →
    ((∀ k ∈ ks, (v.loop k).pendSwap = false) → exec (.loopSwap o r) s = .next (v.answered 0x71 o r x)) ∧
    ((∃ k ∈ ks, (v.loop k).pendSwap = true) → exec (.loopSwap o r) s = .next (v.deferring 0x71 o r x u.time))) ∧
  (∀ s u o r x, s.accepted loopSetpointOp o r = some (u, x) → u.cascaded (field r.payload 0 1) = false →
    exec (.loopSetpoint o r) s = .next
      ((u.setPoint (field r.payload 0 1) (fieldInt r.payload 4 4)).answered 0x72 o r x)) ∧
  (∀ s u o r x, s.accepted loopModeOp o r = some (u, x) →
    let k := field r.payload 0 1
    let m := field r.payload 1 1
    let l := u.loop k
    let v := u.setLoop k fun l => { l with pendMode := some m }
    (m ≠ 0 → (if l.pendSwap = true then l.shdValid else l.actValid) = true ∧ v.rateOk = true) →
    (m = 2 → l.inSel ≠ 0xFF) →
    exec (.loopMode o r) s = .next (State.answered (
      if l.mode = 0 then (if m = 0 then u else u.setLoop k fun l => { l.enter m with nextAt := u.time5 })
      else if m = l.mode then u.setLoop k fun l => { l with pendMode := none } else v) 0x73 o r x)) ∧
  (∀ s u o r x, s.accepted loopIoOp o r = some (u, x) →
    let k := field r.payload 0 1
    let out := field r.payload 2 1
    (u.loop k).mode = 0 → (out ≠ 0xFF → ∀ j, j < 16 → j ≠ k → (u.loop j).outSel.toNat ≠ out) →
    (0x20 ≤ out → out ≤ 0x2F → u.cascadeReaches k 17 (out - 0x20) = false) →
    exec (.loopIo o r) s = .next ((u.setLoop k fun l =>
      { l with inSel := BitVec.ofNat 8 (field r.payload 1 1), outSel := BitVec.ofNat 8 out }).answered 0x74 o r x))

/-- A due sample of a running loop, with no evaluation in progress and no lower loop due, applies the bank swap,
mode and set-point that wait, evaluates the loop with the clamped output inside UMIN and UMAX, sets OVERRUN when
it starts after the next instant, and moves its instant on by whole sample periods to now or later; a loop that
is to stop stops; nothing happens before. PWM_PERIOD puts the newest duty and its waveform into force. SPI_FRAME
sends the oldest waiting slot with its header and stores what it clocks in, and nothing while the loops stand
still. ENCODER_EDGE holds an edge for the filter, or, within FILT of the one held before it on its channel,
rejects both, and only follows the level while the encoder is off; ENCODER_INDEX holds the index. When FILT, no
less than 2 ticks (the model's choice, log entry 124), has passed, the held edges apply in order: two of both
channels within 1.6 ns are an illegal transition; one alone moves the position by its step; an index latches the
position, sets it to zero where the mode says so, and starts the programs that wait for the selected index. -/
def Obligations.LoopEventsComplete : Prop :=
  (∀ (s : State) (k : Fin 16), (s.loop k).mode = 0 ∨ s.cle.pllLost = true ∨ s.seq.clockHold = true ∨
      s.time5 < (s.loop k).nextAt ∨ s.time5 < s.cle.evalUntil ∨ s.loopBefore k = true →
    exec (.loopEvaluation k) s = .next s) ∧
  (∀ (s : State) (k : Fin 16), let l := s.loop k
    let bank := if l.pendSwap = true then l.shadow else l.active
    let div := 25 * max 1 (bankDiv bank)
    l.mode ≠ 0 → s.cle.pllLost = false → s.seq.clockHold = false → l.nextAt ≤ s.time5 → s.cle.evalUntil ≤ s.time5 →
    s.loopBefore k = false → l.pendMode ≠ some 0 → s.cle.loops.length = 16 → l.outSel.toNat ≠ 0x20 + k.val →
    ∃ t, exec (.loopEvaluation k) s = .next t ∧ (t.loop k).mode = l.pendMode.getD l.mode ∧
      (t.loop k).pendMode = none ∧ (t.loop k).pendSwap = false ∧ (t.loop k).active = bank ∧
      (t.loop k).w = l.pendW.getD l.w ∧ (t.loop k).pendW = none ∧ (t.loop k).entered = none ∧
      (t.loop k).nextAt = l.nextAt + div * max 1 (ceilDiv (s.time5 - l.nextAt) div) ∧ s.time5 ≤ (t.loop k).nextAt ∧
      l.nextAt < (t.loop k).nextAt ∧ t.cle.evalUntil = s.time5 + 1150 ∧
      (l.nextAt + div < s.time5 → bit (t.regN (CLE_LOOP_STAT k)) 5 = true) ∧
      (fieldInt bank 8 2 ≤ fieldInt bank 10 2 →
        fieldInt bank 8 2 ≤ (t.loop k).uPrev ∧ (t.loop k).uPrev ≤ fieldInt bank 10 2)) ∧
  (∀ (s : State) (k : Fin 16), (s.loop k).mode ≠ 0 → s.cle.pllLost = false → s.seq.clockHold = false →
    (s.loop k).nextAt ≤ s.time5 → s.cle.evalUntil ≤ s.time5 → s.loopBefore k = false → (s.loop k).pendMode = some 0 →
    exec (.loopEvaluation k) s = .next ((s.loopOff k).swapDone)) ∧
  (∀ (s : State) (n : Fin 16) old new, nth s.cle.pwm n (none, none) = (old, new) → s.cle.pwm.length = 16 →
    s.cle.pwmHigh.length = 16 →
    ∃ t, exec (.pwmPeriod n) s = .next t ∧ nth t.cle.pwm n (none, none) = (new, new) ∧
      nth t.cle.pwmHigh n none = t.pwmSpans n ∧
      (∀ k, k ≠ n.val → nth t.cle.pwm k (none, none) = nth s.cle.pwm k (none, none)) ∧ s.keeps t [.cle]) ∧
  (∀ (s : State) miso slot code rest, s.cle.spi = (slot, code) :: rest →
    (s.cle.pllLost = true ∨ s.seq.clockHold = true → exec (.spiFrame miso) s = .next s) ∧
    (s.cle.pllLost = false → s.seq.clockHold = false →
      ∃ t, exec (.spiFrame miso) s = .next t ∧ t.cle.spi = rest ∧
        t.cle.spiSent = some (slot, BitVec.ofNat 32 (s.fld (CLE_SPI_SLOT slot) 23 16 * 65536 + code.toNat)) ∧
        t.regN (CLE_SPI_RX slot) = miso.toNat ∧ s.keepsRegs t [CLE_SPI_RX slot] ∧ s.keeps t [.regs, .cle])) ∧
  (∀ (s : State) (n : Fin 2) chanB rising stamp, let cfg := s.regN (CLE_ENC_CFG n)
    let i := 9 + 3 * n.val + b2n chanB
    let t := (s.auxTime i stamp).1.toNat
    let x := s.encoder n
    let v := s.setEncoder n fun y => if chanB = true then { y with levelB := rising } else { y with levelA := rising }
    let last := x.held.reverse.find? fun e => e.chanB == some chanB
    let new : EncItem := { chanB := some chanB, rising := rising, time := t, tick := s.stampTick stamp }
    (bit cfg 0 = false ∨ s.auxDead i = true → exec (.encoderEdge n chanB rising stamp) s = .next v) ∧
    (∀ e, bit cfg 0 = true → s.auxDead i = false → last = some e → t < e.time + 2048 * bits cfg 11 8 →
      exec (.encoderEdge n chanB rising stamp) s = .next
        (s.setEncoder n fun y => { y with held := y.held.erase e })) ∧
    (bit cfg 0 = true → s.auxDead i = false → (∀ e, last = some e → e.time + 2048 * bits cfg 11 8 ≤ t) →
      exec (.encoderEdge n chanB rising stamp) s = .next
        (s.setEncoder n fun y => { y with held := holdItem y.held new }))) ∧
  (∀ (s : State) (n : Fin 2) stamp, let cfg := s.regN (CLE_ENC_CFG n)
    let new : EncItem := { chanB := none, rising := true, time := (s.auxTime (11 + 3 * n.val) stamp).1.toNat
                           tick := s.stampTick stamp }
    (bit cfg 0 = false ∨ s.auxDead (11 + 3 * n.val) = true → exec (.encoderIndex n stamp) s = .next s) ∧
    (bit cfg 0 = true → s.auxDead (11 + 3 * n.val) = false →
      exec (.encoderIndex n stamp) s = .next (s.setEncoder n fun y => { y with held := holdItem y.held new }))) ∧
  (∀ (s : State) (n : Nat) e rest, (s.encoder n).held = e :: rest →
    let due (e : EncItem) : Prop := e.tick + max 2 (s.fld (CLE_ENC_CFG n) 11 8) ≤ s.tim.shot
    let u := s.setEncoder n fun y => { y with held := rest }
    let near (b : Bool) := rest.find? fun f => f.chanB == some (!b) && decide (f.time < e.time + 4096)
    (¬ due e → s.settleOne n = none) ∧ (due e → e.chanB = none → s.settleOne n = some (u.indexEdge n e.time)) ∧
    (∀ b, due e → e.chanB = some b → near b = none →
      s.settleOne n = some (u.countEdge n b e.rising e.time)) ∧
    (∀ b f, due e → e.chanB = some b → near b = some f →
      (due f → s.settleOne n = some ((s.setEncoder n fun y => { y with held := rest.erase f }).illegalEdges n
        (if b = true then f.rising else e.rising) (if b = true then e.rising else f.rising))) ∧
      (¬ due f → s.settleOne n = none))) ∧
  (∀ (s : State) (n : Fin 2) (t : Nat), s.cle.enc.length = 2 →
    let mode := s.fld (CLE_ENC_CFG n) 5 4
    let zero : Bool := mode == 2 || (mode == 1 && (s.encoder n).armed)
    (b2n (bit (s.regN (CLE_ENC_CFG 0)) 31) ≠ n.val →
      (s.indexEdge n t).reg (CLE_ENC_IDX n) = s.reg (CLE_ENC_POS n) ∧
      (zero = true → (s.indexEdge n t).reg (CLE_ENC_POS n) = 0 ∧ ((s.indexEdge n t).encoder n).armed = false) ∧
      (zero = false → (s.indexEdge n t).reg (CLE_ENC_POS n) = s.reg (CLE_ENC_POS n) ∧
        ((s.indexEdge n t).encoder n).armed = (s.encoder n).armed) ∧
      s.keepsRegs (s.indexEdge n t) [CLE_ENC_IDX n, CLE_ENC_POS n] ∧ s.keeps (s.indexEdge n t) [.regs, .cle]) ∧
    (b2n (bit (s.regN (CLE_ENC_CFG 0)) 31) = n.val →
      let a := s.setReg (CLE_ENC_IDX n) (s.reg (CLE_ENC_POS n))
      let v := if zero = true then
          (a.setRegN (CLE_ENC_POS n) 0).setEncoder n fun y => { y with armed := false } else a
      s.indexEdge n t = (v.present.filter fun p => p.2.state == .armed && p.2.startMode == 2).foldl
        (fun u p => u.runProg p.1 ((v.ownTime t + 63) / 64).toNat) v)) ∧
  (∀ (s : State) (n : Fin 2) (b rising : Bool) (t : Nat), s.cle.enc.length = 2 →
    let d := edgeStep b rising (if b = true then (s.encoder n).levelA else (s.encoder n).levelB)
      (bit (s.regN (CLE_ENC_CFG n)) 3)
    (s.countEdge n b rising t).reg (CLE_ENC_POS n) = s.reg (CLE_ENC_POS n) + BitVec.ofInt 32 d ∧
      ((s.countEdge n b rising t).encoder n).levelA = (if b = true then (s.encoder n).levelA else rising) ∧
      ((s.countEdge n b rising t).encoder n).levelB = (if b = true then rising else (s.encoder n).levelB))

/-- An accepted TIME_READ with no cross-stamp pending answers the cross-stamp image of its own execution. TIME_INCR
within the deviation limit and TIME_STEP within the jump limit queue a correction, a step of 0 none; outside
them they answer JUMP_REFUSED with its status bit. CROSS_STAMP with none pending is answered ACCEPTED and waits
for its event. LAUNCH_AT on a port that is up, far enough ahead and apart from other launches, queues the frame.
REF_SELECT of the code in force does nothing, and of another, with no live program and no capture, leaves the
reference and waits for its lock. -/
def Obligations.TimeCommandsComplete : Prop :=
  (∀ s u o r x, s.accepted timeReadOp o r = some (u, x) → u.tim.xsPend = none →
    let c := u.crossImage 0 u.fineNow
    exec (.timeRead o r) s = .next (State.answered { c.2 with tim.xsImage := c.1 } 0x80 o r x c.1) ∧
      c.1.length = 64) ∧
  (∀ s u o r x, s.accepted timeIncrOp o r = some (u, x) →
    let b := field r.payload 0 1
    let v := field r.payload 4 8
    let dev := ((v : Int) - incrNom).natAbs
    (dev * 1000000 ≤ u.fld (TIM_PTP_CFG b) 23 16 * incrNom →
      exec (.timeIncr o r) s = .next ((u.correct b false v).answered 0x81 o r x)) ∧
    (u.fld (TIM_PTP_CFG b) 23 16 * incrNom < dev * 1000000 →
      exec (.timeIncr o r) s = .next ((u.latch TIM_STATUS 0x4).answeredRefusal 0x81 o r x JUMP_REFUSED 0))) ∧
  (∀ s u o r x, s.accepted timeStepOp o r = some (u, x) →
    let b := field r.payload 0 1
    let v := fieldInt r.payload 4 8
    let limit := u.regN (TIM_PTP_JUMP b)
    let t := u.setPtp b fun y => { y with stopped := y.stopped && !y.counting }
    (limit = 0xFFFFFFFF ∨ v.natAbs ≤ limit * 2 ^ 32 →
      exec (.timeStep o r) s = .next ((if v = 0 then t else t.correct b true v).answered 0x82 o r x)) ∧
    (limit ≠ 0xFFFFFFFF → limit * 2 ^ 32 < v.natAbs →
      exec (.timeStep o r) s = .next ((u.latch TIM_STATUS 0x4).answeredRefusal 0x82 o r x JUMP_REFUSED 0))) ∧
  (∀ s u o r x, s.accepted crossStampOp o r = some (u, x) → u.tim.xsPend = none →
    exec (.crossStamp o r) s = .next (State.answeredAccepted
      { u with tim.xsPend := some (field r.payload 0 1, o, r.sequence, u.time), tim.xsHit := none } 0x83 o r x)) ∧
  (∀ s u o r x, s.accepted launchAtOp o r = some (u, x) →
    let port := field r.payload 0 1
    let base := field r.payload 1 1
    let time := field r.payload 4 8
    let q := nth u.tim.launches port []
    let t := u.launchIn base time
    nth u.out.ethUp port false = true → q.length < 8 →
    (base ≠ 0xFF → 20000 * 2 ^ 32 ≤ t ∧ t ≤ 1000000000 * 2 ^ 32 ∧
      ∀ y ∈ q, y.base = 0xFF ∨ u.overlaps port t (r.payload.drop 12) y = false) →
    let y : LaunchReq := { base := base, time := time, frame := r.payload.drop 12, sequence := r.sequence }
    exec (.launchAt o r) s =
      .next (State.answered { u with tim.launches := u.tim.launches.set port (q ++ [y]) } 0x84 o r x)) ∧
  (∀ s u o r x, s.accepted refSelectOp o r = some (u, x) → u.role ≠ 2 →
    let c := field r.payload 0 1
    (c = u.tim.refCode → exec (.refSelect o r) s = .next (u.answered 0x85 o r x)) ∧
    (c ≠ u.tim.refCode → u.anyLive = false → (∀ y ∈ u.wfd.units, y.st = .idle) →
      exec (.refSelect o r) s = .next ((State.setWarm { u with tim.onRef := false, tim.refNew := some c } false
        1).deferring 0x85 o r x u.time)))

/-- A correction takes effect at the first MAC edge at least 50 ns after its acceptance, in the tick of the idle
step that holds the edge: a step modulo 2^64 or a new increment; PTP_CORRECTION_EFFECT then records the tick of
the edge. PTP_WRAP takes the base's oldest wrap of the direction, moves WRAPS up or down by one and sends its
EVENT; COUNTER_WRAP takes the oldest wrap of another counter and sends its EVENT, dated by the wrap. PTP_INGRESS
of an event or general datagram on a port that is up is logged with its two times, and counted as dropped where
the port does not take PTP. LAUNCH of a due frame sends it on the port and logs its egress. -/
def Obligations.PtpBasesCorrectAndWrap : Prop :=
  (∀ (s : State) (p : Fin 4) c, let b := s.ptp p
    s.pending = [] → s.tim.ptp.length = 4 → b.corrs = [c] → b.counting = true → b.edge + 16 ≤ 5 * (s.time + 1) →
    ∃ t, step s = .next t ∧ (t.ptp p).edge = b.edge + 16 ∧
      (2 * (b.edge + 16) < 10 * c.at_ + 625 → (t.ptp p).corrs = [c] ∧ (t.ptp p).incr = b.incr ∧
        (t.ptp p).value = (b.value + b.incr) % 2 ^ 64) ∧
      (10 * c.at_ + 625 ≤ 2 * (b.edge + 16) → (t.ptp p).corrs = [] ∧
        (c.isStep = true → ((t.ptp p).value : Int) = ((b.value : Int) + b.incr + c.value) % 2 ^ 64 ∧
          (t.ptp p).incr = b.incr) ∧
        (c.isStep = false → (t.ptp p).value = (b.value + b.incr) % 2 ^ 64 ∧ (t.ptp p).incr = c.value.toNat) ∧
        (t.ptp p).done = some ((5 * t.tim.shot - (5 * t.time - (b.edge + 16))) / 5))) ∧
  (∀ (s : State) (p : Fin 4) tick, (s.ptp p).done = some tick →
    exec (.ptpCorrectionEffect p) s = .next (((s.setPtp p fun b => { b with done := none }).setRegN (TIM_PTP_CORR_LO p)
      (tick % 2 ^ 48 % 2 ^ 32)).setRegN (TIM_PTP_CORR_HI p) (tick % 2 ^ 48 / 2 ^ 32))) ∧
  (∀ (s : State) (p : Fin 4), (s.ptp p).done = none → exec (.ptpCorrectionEffect p) s = .next s) ∧
  (∀ (s : State) (p : Fin 4) forward w,
    s.tim.ptpWraps.find? (fun w => w.1 == p.val && w.2.1 == forward) = some w →
    ∃ u, exec (.ptpWrap p forward) s = .next (u.event OK 7 9 (leBytes 1 p ++ [if forward = true then 0x01 else 0xFF] ++
        [0, 0] ++ leBytes 4 (u.regN (TIM_PTP_WRAPS p)) ++ leBytes 8 (w.2.2 % 2 ^ 59))) ∧
      u.reg (TIM_PTP_WRAPS p) = (if forward = true then s.reg (TIM_PTP_WRAPS p) + 1 else s.reg (TIM_PTP_WRAPS p) - 1) ∧
      u.tim.ptpWraps = s.tim.ptpWraps.erase w ∧ s.keepsRegs u [TIM_PTP_WRAPS p] ∧ s.keeps u [.regs, .tim, .pk]) ∧
  (∀ (s : State) w rest, s.pk.wraps = w :: rest →
    exec .counterWrap s = .next (State.event { s with pk.wraps := rest } OK 8 w.unit.toNat
      ([w.window] ++ [0, 0, 0] ++ leBytes 8 w.offset ++ leBytes 1 w.width ++ [0, 0, 0]) none (some w.at_))) ∧
  (∀ (s : State) (p : Fin 4) port payload tEvt tEdge, nth s.out.ethUp p false = true → (port = 319 ∨ port = 320) →
    let z := s.ptpPoint p true tEvt tEdge
    exec (.ptpIngress p port payload tEvt tEdge) s = .next (if bit (s.regN (TIM_PTP_CFG p)) 1 = true then
      s.ptpLog p 1 payload.length 0 0 z.1 z.2 payload else s.bump (OUT_ETH_RXDROP p))) ∧
  (∀ (s : State) (p : Fin 4) x tEvt tEdge, nth s.tim.launches p [] = [x] → s.launchIn x.base x.time ≤ 0 →
    nth s.out.ethUp p false = true →
    ∃ (u : State) (fl : Nat), exec (.launch p tEvt tEdge) s = .next (u.ptpLog p 2 x.frame.length x.sequence.toNat fl
        (s.ptpPoint p false tEvt tEdge).1 (s.ptpPoint p false tEvt tEdge).2 x.frame) ∧
      u.out.direct = s.out.direct ++ [(p, x.frame)] ∧
      (p.val < s.tim.launches.length → nth u.tim.launches p [] = []) ∧ (fl = 0 ∨ fl = 2) ∧
      (fl = 0 → u.regs = s.regs) ∧ (fl = 2 → bit (u.regN TIM_STATUS) 1 = true))

/-- OCXO_WARM_CHANGE notes a new pin level and its time. WARMUP_GATE, with XSYS and not on a worker, ends a gate of
1 s: it writes the offset that its XSYS stamps give (with fewer than two, a free value, log entry 107), counts
the gates passed in a row, clears the warm flag on a failed gate where gates count, and sets it when reference,
pin and gates have held long enough; it does nothing before. REF_LOCK answers the REF_SELECT that waits, OK when
the PLL locks and STATE after 20 ms. CROSS_STAMP_EVENT completes the pending cross-stamp at its event,
CROSS_STAMP_TIMEOUT with STATE after 10 s. -/
def Obligations.ReferenceAndCrossStampsComplete : Prop :=
  (∀ (s : State) level, exec (.ocxoWarmChange level) s =
    .next (if s.tim.pin = level then s else { s with tim.pin := level, tim.pinAt := s.time })) ∧
  (∀ (s : State) stamps, s.time < s.tim.gateAt + 1250000000 ∨ s.tim.xsys = false ∨ s.role = 2 →
    exec (.warmupGate stamps) s = .next s) ∧
  (∀ (s : State) stamps, s.tim.gateAt + 1250000000 ≤ s.time → s.tim.xsys = true → s.role ≠ 2 →
    let cfg := s.regN TIM_WARM_CFG
    let y := gateOffset s.drawn stamps
    let drift : Prop := ∃ z, s.tim.prevY = some z ∧ (y - z).natAbs ≤ bits cfg 23 8 * 100
    let offset : Prop := bits cfg 7 4 = 0 ∨ y.natAbs ≤ bits cfg 7 4 * 1000000
    let held (n : Nat) : Prop := s.tim.onRef = true ∧ s.tim.refAt ≤ s.time - 1250000000 * n ∧
      (bit cfg 1 = true → (∃ l, s.tim.pinLevel = some l ∧ l ≠ bit cfg 2) ∧ s.tim.pinOkAt ≤ s.time - 1250000000 * n)
    ∃ t, exec (.warmupGate stamps) s = .next t ∧ t.tim.gateAt = s.time ∧ t.tim.prevY = some y ∧
      t.reg TIM_REF_OFFSET = BitVec.ofNat 32 (enc 32 (clampInt (-2147483648) 2147483647 y)) ∧ (t.tim.gateOk = true ↔ drift ∧ offset) ∧
      (drift ∧ offset → t.tim.gates = s.tim.gates + 1) ∧ (¬ (drift ∧ offset) → t.tim.gates = 0) ∧
      (bit cfg 3 = true → ¬ (drift ∧ offset) → t.tim.warm = false) ∧
      (held (bits cfg 31 24) → (bit cfg 3 = true → drift ∧ offset ∧ bits cfg 31 24 ≤ s.tim.gates + 1) →
        t.tim.warm = true) ∧
      (s.tim.warm = false → t.tim.warm = true → held (bits cfg 31 24))) ∧
  (∀ (s : State) c, s.tim.refNew = some c →
    exec (.refLock true) s = .next (State.finishDeferred
      { s with tim.refNew := none, tim.refCode := c, tim.onRef := s.tim.refin, tim.refAt := s.time } OK) ∧
    (∀ d, s.pk.deferred = some d → d.since + 25000000 ≤ s.time →
      exec (.refLock false) s = .next (State.finishDeferred { s with tim.refNew := none } STATE)) ∧
    (∀ d, s.pk.deferred = some d → s.time < d.since + 25000000 → exec (.refLock false) s = .next s)) ∧
  (∀ (s : State), s.tim.refNew = none → s.tim.refin = true → s.tim.onRef = false → s.boot.phase ≠ .hardware →
    s.role ≠ 2 → exec (.refLock true) s = .next { s with tim.onRef := true, tim.refAt := s.time }) ∧
  (∀ (s : State) rising stamp source o q since t, s.tim.xsPend = some (source, o, q, since) →
    s.crossTime source since rising stamp = some t → let z := s.crossImage source t
    exec (.crossStampEvent ⟨rising, stamp⟩) s =
      .next (State.complete { z.2 with tim.xsImage := z.1, tim.xsPend := none, tim.xsHit := none } (o, q) OK 9)) ∧
  (∀ (s : State) source o q since, s.tim.xsPend = some (source, o, q, since) →
    exec .crossStampTimeout s = .next (if s.time < since + 12500000000 then s else
      State.complete { s with tim.xsPend := none, tim.xsHit := none } (o, q) STATE 9))

/-- An accepted HK_SEQUENCE stores a regular or injected list that the next cycle or run takes; HK_CHANNEL writes
the input's configuration. A due cycle counts, takes the new list and moves the next due time past now. A step
that has its conversions publishes one result of its channel: its mean, its clip mark and its cycle, and OPEN
holds until three good results in a row, and on a failed slice, with value 7FFFh; no other channel's result
changes. The excitation monitor, from 0.5 us behind the make on, ends its step with an OPEN result. GO under
source 0 triggers an injected run, only counts it missed while one is in progress, and waits while the converter
does not run. A rotation step begins when it is due, while no slice waits for a path; the calibration of the
spare stores its trims; shadowing takes 64 conversions of the path. When the shadow passes, the spare takes the
path whose turn it is, at once while no step runs there and else at its next boundary, and the path's slice
becomes the spare; a first failure repeats it, a second one leaves no spare, stops rotation and enters the
repair map. A slice that fails leaves its path to the spare, where its step runs again, or keeps it without one,
and rotation stops; under a command the spare waits for the boundary, and the slice is released. A slice out of
service changes nothing. -/
def Obligations.HousekeepingCompletes : Prop :=
  ((∀ s u o r x, s.accepted hkSequenceOp o r = some (u, x) →
     let l := (List.range (field r.payload 1 1)).map (hkStepAt r.payload)
     exec (.hkSequence o r) s = .next (State.answered (if field r.payload 0 1 = 0 then { u with hka.newReg := some l }
       else { u with hka.newInj := some l }) 0x90 o r x)) ∧
   (∀ s u o r x, s.accepted hkChannelOp o r = some (u, x) →
     let d := r.payload
     let n := field d 0 1
     let cfg := field d 1 1 * 2 ^ 24 + (if field d 2 1 = 0xFF then 0 else 2 ^ 23 + field d 2 1 * 2 ^ 21 + field d 4 2 * 2 ^ 10) +
       bits (u.regN (HKA_IN_CFG n)) 9 0
     exec (.hkChannel o r) s = .next ((u.setHkInput n cfg).answered 0x91 o r x)) ∧
   (∀ (s : State), (s.hkOn = false ∨ bit (s.regN HKA_SEQ_CFG) 0 = false ∨ s.hka.inCycle = true ∨ s.time < s.hka.cycleAt) →
     exec .hkCycleStart s = .next s) ∧
   (∀ (s : State), s.hkOn = true → bit (s.regN HKA_SEQ_CFG) 0 = true → s.hka.inCycle = false → s.hka.cycleAt ≤ s.time →
     let seq := s.hka.newReg.getD s.hka.regular
     ∃ t, exec .hkCycleStart s = .next t ∧ t.reg HKA_CYCLES = s.reg HKA_CYCLES + 1 ∧ t.hka.regular = seq ∧
       t.hka.newReg = none ∧ (t.hka.inCycle = true → seq ≠ []) ∧
       (seq ≠ [] → (∀ x ∈ seq, s.hkOdd x.code = false) → t.hka.inCycle = true) ∧ t.hka.results = s.hka.results ∧
       (s.fld HKA_SEQ_CFG 31 16 ≠ 0 → s.time < t.hka.cycleAt ∧
         t.hka.cycleAt ≤ s.time + 1250 * s.fld HKA_SEQ_CFG 31 16) ∧ s.keepsRegs t [HKA_CYCLES]) ∧
   (∀ (s : State) (path : Fin 2) codes current x, (s.hkPath path).step = some x → s.hkOn = true →
     x.start + x.step.ticks ≤ s.time → (x.step.code ≠ 0x23 → codes.length = 2 ^ x.step.avg) →
     x.step.code < s.hka.results.length →
     let c := x.step.code
     let old := s.hkRes c
     let dead : Bool := c != 0x23 && s.hkDead path
     let clip : Bool := c != 0x23 && codes.any fun v => v == 32767 || v == -32768
     let good := if clip = true ∨ dead = true then 0 else old.good + 1
     let stays : Bool := dead || (old.open_ && decide (good < 3))
     ∃ t, exec (.hkStep path codes current) s = .next t ∧ (t.hkRes c).valid = true ∧ (t.hkRes c).clip = clip ∧
       (t.hkRes c).code = (if c = 0x23 then old.code else roundDiv (codes.map BitVec.toInt).sum (2 ^ x.step.avg)) ∧
       (t.hkRes c).inj = x.injected ∧ (t.hkRes c).cycle = x.cycle ∧ (t.hkRes c).at_ = s.time ∧
       (t.hkRes c).open_ = stays ∧ (t.hkRes c).short = (old.short && stays) ∧
       (stays = true → (t.hkRes c).value = 0x7FFF ∧ (t.hkRes c).good = good ∧ (t.hkRes c).held = old.held) ∧
       (stays = false → (t.hkRes c).good = 0 ∧
         (t.hkRes c).held = if clip = true then old.held else some (t.hkRes c).value) ∧
       (∀ k, k ≠ c → t.hkRes k = s.hkRes k)) ∧
   (∀ (s : State) (path : Fin 2) short, (∀ x, (s.hkPath path).step = some x →
       x.source = none ∨ x.made = false ∨ s.time < x.start + 1250 ∨ s.hkOn = false) →
     exec (.hkMonitorReport path short) s = .next s) ∧
   (∀ (s : State) (path : Fin 2) short x, (s.hkPath path).step = some x → x.source.isSome = true → s.hkOn = true →
     x.made = true → x.start + 1250 ≤ s.time → x.step.code < s.hka.results.length →
     ∃ t, exec (.hkMonitorReport path short) s = .next t ∧ (t.hkRes x.step.code).valid = true ∧
       (t.hkRes x.step.code).open_ = true ∧ (t.hkRes x.step.code).short = short ∧
       (t.hkRes x.step.code).value = 0x7FFF ∧ (t.hkRes x.step.code).good = 0 ∧
       (∀ k, k ≠ x.step.code → t.hkRes k = s.hkRes k)) ∧
   (∀ (s : State), (s.fld HKA_INJ_CFG 31 30 ≠ 0 → exec .go s = .next s) ∧
     (s.fld HKA_INJ_CFG 31 30 = 0 → s.hkOn = false → exec .go s = .next { s with hka.goPend := true }) ∧
     (s.fld HKA_INJ_CFG 31 30 = 0 → s.hkOn = true → s.hka.injRun = true →
       exec .go s = .next ((s.bump HKA_INJ_MISSED).latch HKA_STATUS 0x10)) ∧
     (s.fld HKA_INJ_CFG 31 30 = 0 → s.hkOn = true → s.hka.injRun = false →
       ∃ t, exec .go s = .next t ∧ t.hka.injected = s.hka.newInj.getD s.hka.injected ∧ t.hka.newInj = none ∧
         t.hka.results = s.hka.results))) ∧
  ((∀ (s : State) shadow trims, s.hka.spare = none ∨ s.hkStopped = true ∨ s.hkOn = false ∨
       s.hka.paths.any (fun p => p.next.isSome) = true → exec (.hkRotationStep shadow trims) s = .next s) ∧
   (∀ (s : State) shadow trims j, s.hka.spare = some j → s.hkStopped = false → s.hkOn = true →
     s.hka.paths.any (fun p => p.next.isSome) = false →
     let pass : Prop := -2000 ≤ nth shadow 0 0 ∧ nth shadow 0 0 ≤ 2000 ∧ -10 ≤ nth shadow 1 0 ∧ nth shadow 1 0 ≤ 10
     let p := s.hka.rotPath
     let due := s.hka.rotAt + 1250000 * s.fld HKA_ROT_CFG 7 0
     (s.hka.rotStage = 0 → exec (.hkRotationStep shadow trims) s = .next (
       if s.time < due then s else { s with hka.rotStage := 1, hka.rotAt := s.time })) ∧
     (s.hka.rotStage = 1 → ∃ t, exec (.hkRotationStep shadow trims) s = .next t ∧ t.hka.rotStage = 2 ∧
       t.hka.shadowed = 0 ∧ t.hka.paths = s.hka.paths ∧ t.hka.spare = some j ∧
       (j < s.hka.trims.length → nth t.hka.trims j [] = slice trims 0 16) ∧
       (∀ k, k ≠ j → nth t.hka.trims k [] = nth s.hka.trims k []) ∧ s.keeps t [.hka]) ∧
     (s.hka.rotStage = 2 → s.hka.shadowed < 64 → exec (.hkRotationStep shadow trims) s = .next s) ∧
     (s.hka.rotStage = 2 → 64 ≤ s.hka.shadowed → pass → p < s.hka.paths.length → (s.hkPath p).step = none →
       (∀ m ∈ s.rep.migs, m.kind = 3 → m.commanded = false) →
       ∃ t, exec (.hkRotationStep shadow trims) s = .next t ∧ (t.hkPath p).slice = some j ∧
         t.hka.spare = (s.hkPath p).slice ∧ t.hka.rotPath = 1 - p ∧ t.hka.retried = false ∧ t.hka.rotStage = 0 ∧
         (∀ k, k ≠ p → t.hkPath k = s.hkPath k) ∧ s.keeps t [.hka]) ∧
     (s.hka.rotStage = 2 → 64 ≤ s.hka.shadowed → pass → p < s.hka.paths.length → (s.hkPath p).step.isSome = true →
       ∃ t, exec (.hkRotationStep shadow trims) s = .next t ∧ t.hka.rotStage = 3 ∧
         t.hkPath p = { s.hkPath p with next := some j } ∧ t.hka.spare = some j ∧
         (∀ k, k ≠ p → t.hkPath k = s.hkPath k) ∧ s.keeps t [.hka]) ∧
     (s.hka.rotStage = 2 → 64 ≤ s.hka.shadowed → ¬ pass → s.hka.retried = false →
       ∃ t, exec (.hkRotationStep shadow trims) s = .next t ∧ t.hka.retried = true ∧ t.hka.spare = some j ∧
         t.hka.rotStage = 2 ∧ t.hka.shadowed = 0 ∧
         t.hka.paths = s.hka.paths ∧ s.keepsRegs t [HKA_STATUS] ∧ s.keeps t [.regs, .hka]) ∧
     (s.hka.rotStage = 2 → 64 ≤ s.hka.shadowed → ¬ pass → s.hka.retried = true →
       ∃ t, exec (.hkRotationStep shadow trims) s = .next t ∧ t.hka.spare = none ∧ t.hka.rotDead = true ∧
         t.hka.paths = s.hka.paths ∧ t.rep.hkaFail = s.rep.hkaFail ++ [j] ∧
         (∃ e ∈ t.rep.map, e.kind = 3 ∧ e.failed = j))) ∧
   (∀ (s : State) (j : Fin 3), (∀ i, i < 2 → (s.hkPath i).slice ≠ some j.val) ∨ s.rep.hkaFail.contains j.val = true →
     exec (.hkSliceMigration j) s = .next s) ∧
   (∀ (s : State) (j : Fin 3) p, (List.range 2).find? (fun i => (s.hkPath i).slice == some j.val) = some p →
     s.rep.hkaFail.contains j.val = false → s.hka.paths.length = 2 →
     let fault : Prop := ∀ m, s.rep.migs.find? (fun m => m.kind == 3 && m.failed == j.val) = some m → m.commanded = false
     (fault → ∃ t, exec (.hkSliceMigration j) s = .next t ∧ t.hka.rotDead = true ∧ t.hka.spare = none ∧
       t.rep.hkaFail = s.rep.hkaFail ++ [j.val] ∧
       (∀ k, s.hka.spare = some k → (t.hkPath p).slice = some k ∧
         (t.hkPath p).step = (s.hkPath p).step.map fun x => { x with start := s.time, made := false }) ∧
       (s.hka.spare = none → (t.hkPath p).slice = some j.val ∧ (t.hkPath p).step = (s.hkPath p).step) ∧
       (∀ i, i ≠ p → (t.hkPath i).slice = (s.hkPath i).slice ∧ (t.hkPath i).step = (s.hkPath i).step)) ∧
     (¬ fault → s.hka.paths.any (fun q => q.next.isSome) = true → exec (.hkSliceMigration j) s = .next s) ∧
     (¬ fault → s.hka.paths.any (fun q => q.next.isSome) = false →
       ∃ t, exec (.hkSliceMigration j) s = .next t ∧ t.rep.hkaFail = s.rep.hkaFail ∧
         (∀ i, i ≠ p → t.hkPath i = s.hkPath i) ∧
         (s.hka.spare = none → t.hka = s.hka) ∧
         (∀ k, s.hka.spare = some k → (s.hkPath p).step.isSome = true →
           t = s.setHkPath p fun q => { q with next := some k }) ∧
         (∀ k, s.hka.spare = some k → (s.hkPath p).step = none →
           (t.hkPath p).slice = some k ∧ t.hka.spare = none ∧ t.rep.released = s.rep.released ++ [(3, j.val)]))))

/-- An accepted THERM_THRESH writes the zone's three thresholds, THERM_SUBST of a failed sensor with a sound
substitute its substitute. A reading, but for the hold of PORST_L, evaluates the eight zones: a level is entered
at its threshold and left below the threshold minus the hysteresis, the thermal shutdown comes into force with a
zone at its shutdown level and ends when every zone is below that threshold minus the hysteresis. The throttle
step goes up by one while a zone is at its throttle level and a step is left, down by one when every zone was
below the throttle hysteresis at the last reading, and otherwise stays. -/
def Obligations.ThermalManagementCompletes : Prop :=
  (∀ s u o r x, s.accepted thermThreshOp o r = some (u, x) → exec (.thermThresh o r) s = .next
    (((u.setRegN (THM_ZONE_A (field r.payload 0 1)) (field r.payload 4 2 * 65536 + field r.payload 2 2)).setRegN
      (THM_ZONE_B (field r.payload 0 1)) (field r.payload 6 2)).answered 0x92 o r x)) ∧
  (∀ s u o r x, s.accepted thermSubstOp o r = some (u, x) → (u.sensor (field r.payload 0 1)).failed = true →
    (field r.payload 1 1 ≠ 0xFF → (u.sensor (field r.payload 1 1)).failed = false) →
    exec (.thermSubst o r) s = .next
      ((u.setRegN (THM_SUBST (field r.payload 0 1)) (field r.payload 1 1)).answered 0x93 o r x)) ∧
  (∀ (s : State) readings, s.boot.held = true → exec (.thermalReading readings) s = .next s) ∧
  (∀ (s : State) readings, s.boot.held = false →
    let v := ((List.range 24).foldl (fun t n => t.readSensor n (nth readings n none)) s).readDie
    ∃ t, exec (.thermalReading readings) s = .next t ∧ t.thm.zones = (List.range 8).map v.zoneTemp ∧
      (∀ z, z < 8 →
        nth t.thm.warn z false = v.level (nth v.thm.warn z false) (v.zoneTemp z) (v.zoneWarn z) ∧
        nth t.thm.throt z false = v.level (nth v.thm.throt z false) (v.zoneTemp z) (v.zoneThrottle z) ∧
        nth t.thm.shut z false = v.level (nth v.thm.shut z false) (v.zoneTemp z) (v.zoneShutdown z)) ∧
      (v.thm.shutdown = false → (t.thm.shutdown = true ↔ ∃ z, z < 8 ∧ nth t.thm.shut z false = true)) ∧
      (v.thm.shutdown = true → (t.thm.shutdown = true ↔
        ∃ z, z < 8 ∧ v.level true (v.zoneTemp z) (v.zoneShutdown z) = true)) ∧
      (t.thm.cool = true ↔ ∀ z, z < 8 → v.level true (v.zoneTemp z) (v.zoneThrottle z) = false) ∧
      (∀ was temp thr, v.level was temp thr = true ↔ 32 * thr ≤ 10 * temp ∨
        was = true ∧ 32 * (thr - (v.fld THM_CFG 23 16 : Nat)) ≤ 10 * temp)) ∧
  (∀ (s : State), s.thm.stepAt = 0 ∨ s.thm.stepAt + 1250000 * s.fld THM_CFG 31 24 ≤ s.time →
    (s.thm.throt.any id = true → s.thm.step + 1 < s.stepCount →
      ∃ t, exec .throttleStepChange s = .next t ∧ t.thm.step = s.thm.step + 1 ∧ t.thm.stepAt = s.time) ∧
    (s.thm.throt.any id = true → s.stepCount ≤ s.thm.step + 1 → exec .throttleStepChange s = .next s) ∧
    (s.thm.throt.any id = false → s.thm.cool = true → 0 < s.thm.step →
      ∃ t, exec .throttleStepChange s = .next t ∧ t.thm.step = s.thm.step - 1 ∧ t.thm.stepAt = s.time) ∧
    (s.thm.throt.any id = false → s.thm.cool = false ∨ s.thm.step = 0 → exec .throttleStepChange s = .next s))

/-- CAL_RUN with no run and no shutdown is answered ACCEPTED and starts a run of its mask; CAL_ACTIVATE of a sound
staging set without a run stores it; CAL_STATUS answers temperature and age of the eight stored sets.
CAL_AUTO_RUN and FIRST_CAL_START start a run when their conditions hold. CAL_RUN_END of a run whose failure is
certain fails it with its cause, of a failed step fails it with that step, after the allowance of step 0 without
converged taps, or after the longest allowance, fails it by timeout, with trims outside their limits fails step
2, and else stores the measured set. APPLIED_SET_BUILD with a build due publishes a new version 64 ticks ahead;
CALSET_WRITEBACK writes a changed set to the copy in flash that does not count. -/
def Obligations.CalibrationCompletes : Prop :=
  (∀ s u o r x, s.accepted calRunOp o r = some (u, x) → u.thm.run = none → u.thm.shutdown = false →
    exec (.calRun o r) s = .next
      ((u.startRun (field r.payload 0 4) (some (o, r.sequence)) false).answeredAccepted 0xD0 o r x)) ∧
  (∀ s u o r x, s.accepted calActivateOp o r = some (u, x) → u.thm.run = none →
    let b := Sparse.getMany zeroByte u.thm.staging 0 calLength
    exec (.calActivate o r) s = .next (if calSetOk b (field r.payload 0 1) = true then
      (u.storeSet (field r.payload 0 1) b).answered 0xD1 o r x
      else u.answeredRefusal 0xD1 o r x IMAGE_INVALID 0)) ∧
  (∀ s u o r x, s.accepted calStatusOp o r = some (u, x) → exec (.calStatus o r) s = .next (u.answered 0xD2 o r x
    (u.thm.stored.flatMap fun y => match y with
      | none => leBytes 2 0x8000 ++ [0, 0] ++ leBytes 4 0xFFFFFFFF
      | some b => slice b 4 2 ++ [0, 0] ++ leBytes 4 (u.setAge b)))) ∧
  (∀ (s : State), s.autoReady = true → bit (s.regN CAL_CFG) 7 = true →
    (s.boot.firstCal = true → bit (s.regN BOOT_CFG) 8 = false) →
    32 * (s.fld CAL_CFG 15 8 : Int) < 10 * ((s.thm.tDie - s.thm.tLast).natAbs : Int) →
    exec .calAutoRun s = .next (({ s with boot.firstCal := false }.startRun (s.fld CAL_CFG 5 0) none false).openEvent 6 0xB)) ∧
  (∀ (s : State), s.autoReady = true → s.boot.firstCal = true → bit (s.regN BOOT_CFG) 8 = true →
    (s.tim.warm = true ∧ s.settled = true ∨ s.boot.readyAt + 1250000000 * s.fld BOOT_CFG 31 16 ≤ s.time) →
    exec .firstCalStart s = .next ((s.startRun (s.fld CAL_CFG 5 0) none true).openEvent 6 0xB)) ∧
  (∀ (s : State) result r, s.thm.run = some r →
    let late : Prop := bit r.mask 0 = true ∧ r.started + 1250000 * s.fld (CAL_TMO 0) 15 0 < r.tapAt.getD s.time
    (r.cause ≠ 0 → exec (.calRunEnd result) s = .next (s.failRun r none r.cause)) ∧
    (r.cause = 0 → (bit r.mask 4 = true → s.hkStopped = false) →
      (∀ k, result = .failed k → bit r.mask k = true → k < 6 →
        exec (.calRunEnd result) s = .next (s.failRun r (some k)
          (if r.started + 1250000 * s.fld (CAL_TMO k) 15 0 ≤ s.time then 1 else 2))) ∧
      (∀ m, result = .ok m → late →
        exec (.calRunEnd result) s = .next (s.failRun r (some 0) 1)) ∧
      (∀ m, result = .ok m → ¬ late → (s.lastStep r).2 < s.time →
        exec (.calRunEnd result) s = .next (s.failRun r (some (s.lastStep r).1) 1)) ∧
      (∀ m, result = .ok m → ¬ late → s.time ≤ (s.lastStep r).2 → bit r.mask 0 = true → r.tapAt = none →
        exec (.calRunEnd result) s = .next s) ∧
      (∀ m, result = .ok m → ¬ late → s.time ≤ (s.lastStep r).2 → (bit r.mask 0 = true → r.tapAt.isSome = true) →
        s.trimsOk r m = false → exec (.calRunEnd result) s = .next (s.failRun r (some 2) 2)) ∧
      (∀ m, result = .ok m → ¬ late → s.time ≤ (s.lastStep r).2 → (bit r.mask 0 = true → r.tapAt.isSome = true) →
        s.trimsOk r m = true →
        exec (.calRunEnd result) s = .next (s.calEnd r m) ∧ (s.calEnd r m).thm.run = none ∧
          (s.calEnd r m).thm.tLast = r.tRun ∧ (s.calEnd r m).thm.buildDue = true))) ∧
  (∀ (s : State), s.thm.applied ≠ [] → s.thm.buildDue = true →
    ∃ t y, exec .appliedSetBuild s = .next t ∧ t.thm.applied = y :: s.thm.applied ∧ y.effect = s.tim.shot + 64 ∧
      t.reg CAL_VER = s.reg CAL_VER + 1 ∧ t.thm.tApply = s.thm.tDie ∧ t.thm.buildDue = false) ∧
  (∀ (s : State) (k : Fin 8) b, s.boot.firmware = true → s.thm.writeback.any (fun y => y.1 == k.val) = true →
    nth s.thm.stored k none = some b →
    ∃ t copy, exec (.calsetWriteback k) s = .next t ∧
      t = { s.flashStore (FL_CALIB copy k) 0x20000 b with
        thm.writeback := s.thm.writeback.filter fun y => y.1 != k.val } ∧
      (copy = 0 ∨ copy = 1) ∧ (∀ y, s.calNewest k = some y → copy ≠ y.1))

/-- An accepted SAF_STATUS answers the last status DATA; SAF_ABORT discards a staged block, and without one is
answered STATE. A SAF_PARAM copy by a UDP session of port 0 or 1 with SAFETY set enters the island's mailbox,
while that has room, unless the same packet waits there already: then it is kept for the same reply; by any
other origin or without SAFETY it is answered SAFETY_UNPAIRED. A staged block becomes active, in both copies of
the store, when the guard has been open for GT_MIN_MS and the write verifies; a failed write latches NVM_WRITE
and keeps the active block. A staged block lapses after PEND_S. After SAF_PARAM_PAIR_TIMEOUT no copy without
partner waits for PAIR_MS or longer. A command that is not due changes nothing. -/
def Obligations.IslandPacketsAndParametersComplete : Prop :=
  (∀ s u o r x, s.accepted safStatusOp o r = some (u, x) →
    exec (.safStatus o r) s = .next (u.answered 0xA0 o r x u.saf.statData)) ∧
  (∀ s u o r x, s.accepted safAbortOp o r = some (u, x) →
    (u.saf.staged.isSome = true →
      exec (.safAbort o r) s = .next (State.answered { u with saf.staged := none, saf.openFrom := none } 0xA2 o r x)) ∧
    (u.saf.staged = none → exec (.safAbort o r) s = .next (u.answeredRefusal 0xA2 o r x STATE 0))) ∧
  (∀ s u r x (port : Fin 4) mac ip uport tag, s.accepted safParamOp (.udp port mac ip uport tag) r = some (u, x) →
    let o := Origin.udp port mac ip uport tag
    (port.val < 2 → bit r.flags.toNat 3 = true → u.paramWaits o (r.packet 0xA1) = false → u.saf.mailIn.length < 16 →
      exec (.safParam o r) s = .next { u with
        saf.mailIn := u.saf.mailIn ++
          [MailIn.param port
            { origin := o, packet := r.packet 0xA1, entered := u.time, since := u.safeNow }] }) ∧
    (port.val < 2 → bit r.flags.toNat 3 = true → u.paramWaits o (r.packet 0xA1) = true →
      exec (.safParam o r) s = .next { u with saf.again := u.saf.again ++ [(o, r.packet 0xA1)] }) ∧
    (2 ≤ port.val ∨ bit r.flags.toNat 3 = false →
      exec (.safParam o r) s = .next (u.answeredRefusal 0xA1 o r x SAFETY_UNPAIRED 0))) ∧
  (∀ s u o r x, s.accepted safParamOp o r = some (u, x) → o.isUdp = false →
    exec (.safParam o r) s = .next (u.answeredRefusal 0xA1 o r x SAFETY_UNPAIRED 0)) ∧
  (∀ (s : State) ok b t₀ t, s.saf.staged = some (b, t₀) → s.saf.openFrom = some t → s.islandOn = true →
    t + pbGt s.saf.active ≤ s.safeNow →
    ∃ v, exec (.paramActivate ok) s = .next v ∧ v.saf.staged = none ∧ v.saf.openFrom = none ∧ s.keeps v islandParts ∧
      (ok = true → v.saf.active = b ∧ v.saf.store = [b, b] ∧ v.saf.faults = s.saf.faults ∧
        v.saf.st = if s.saf.st = .unconfigured then .guardTest else s.saf.st) ∧
      (ok = false → v.saf.active = s.saf.active ∧ v.saf.store = s.saf.store ∧ bit v.saf.faults.toNat 13 = true ∧
        (bit s.saf.faults.toNat 13 = false ∨ s.saf.st ≠ .fault → v.saf.st = .fault ∧ v.saf.outs = [false, false, false, false]))) ∧
  (∀ (s : State) ok, s.saf.staged = none ∨ s.saf.openFrom = none ∨ s.islandOn = false →
    exec (.paramActivate ok) s = .next s) ∧
  (∀ (s : State) b t, s.saf.staged = some (b, t) → s.islandOn = true →
    (t + pbPend s.saf.active ≤ s.safeNow → ∃ v, exec .paramLapse s = .next v ∧ v.saf.staged = none ∧
      v.saf.openFrom = none ∧ v.saf.active = s.saf.active ∧ v.saf.store = s.saf.store ∧ v.saf.st = s.saf.st ∧
      v.saf.outs = s.saf.outs ∧ s.keeps v islandParts) ∧
    (s.safeNow < t + pbPend s.saf.active → exec .paramLapse s = .next s)) ∧
  (∀ (s : State), s.saf.staged = none ∨ s.islandOn = false → exec .paramLapse s = .next s) ∧
  (∀ (s : State), ∃ v, exec .safParamPairTimeout s = .next v ∧
    (∀ p q, MailIn.param p q ∈ v.saf.mailIn → s.safeNow < q.since + pbPair s.saf.active) ∧
    (∀ p q t, v.saf.paramCopy = some (p, q, t) → s.safeNow < t + pbPair s.saf.active) ∧
    (∀ p d, MailIn.telegram p d ∈ v.saf.mailIn ↔ MailIn.telegram p d ∈ s.saf.mailIn) ∧
    v.saf.active = s.saf.active ∧ v.saf.outs = s.saf.outs ∧ v.saf.st = s.saf.st ∧ s.keeps v islandParts)

/-- When the guard channels have disagreed for more than DISC_MS, when a feedback differs from its brake output
after its settling time outside a test, when a pad differs from its output, and when a test pulse has failed,
the island latches the fault, and unless it was latched in state FAULT before, it is in state FAULT with all
four outputs low and no test in progress. On expiry of the watchdog the requests are 0 and all four outputs low;
before it no output goes high. An output without a refresh for 50 us goes low, and no other changes. After a
reset of the island and after its power-on every output is low, no request stands and the guard test has to run
again; the reset's cause is in SAF_FAULT; at power-on a sound copy of the store is the block written to it. None
of these changes anything but the island and what its records, incidents and EVENTs pass through, but for
TB_SAFE, which starts at power-on. A command whose condition does not hold changes nothing. -/
def Obligations.SafetyFaultsTakeTheSafeState : Prop :=
  let low := [false, false, false, false]
  let latches (s : State) (c : Instr) (n : Nat) : Prop :=
    ∃ t, exec c s = .next t ∧ bit t.saf.faults.toNat n = true ∧ s.keeps t islandParts ∧
      (bit s.saf.faults.toNat n = false ∨ s.saf.st ≠ .fault → t.saf.st = .fault ∧ t.saf.outs = low ∧ t.saf.testing = none)
  (∀ (s : State) t, s.islandOn = true → s.saf.discFrom = some t → t + pbDisc s.saf.active < s.safeNow →
    latches s .guardDisc 0) ∧
  (∀ (s : State) (i : Fin 2), s.islandOn = true → s.saf.testing = none →
    nth s.saf.brkAt i.val 0 + pbSettle s.saf.active < s.safeNow →
    nth s.saf.ins (2 + i.val) false ≠ nth s.saf.outs (2 + i.val) false →
    latches s (.brakeFeedbackCheck ⟨i.val, by omega⟩) (1 + i.val)) ∧
  (∀ (s : State) (i : Fin 4), s.islandOn = true → nth s.saf.pads i.val false ≠ nth s.saf.outs i.val false →
    latches s (.brakeFeedbackCheck ⟨i.val + 2, by omega⟩) (if i.val < 2 then 5 else 6)) ∧
  (∀ (s : State) w t fb, s.islandOn = true → s.saf.testing = some (w, t) → w < 4 →
    t + (if w < 2 then pbPulse s.saf.active else pbLenPulse s.saf.active) ≤ s.safeNow →
    (∀ k, k < 4 → s.safeNow < nth s.saf.refresh k 0 + 5000) →
    let good : Prop := fb = if w < 2 then nth s.saf.outs (2 + w) false else false
    (¬ good → latches s (.testPulse w fb) (if w < 2 then 3 + w else 5)) ∧
    (good → ∃ v, exec (.testPulse w fb) s = .next v ∧ v.saf.st = s.saf.st ∧ v.saf.faults = s.saf.faults ∧
      v.reg SAF_TESTS = s.reg SAF_TESTS + 1 ∧ v.saf.testing = (if w = 2 then some (3, s.safeNow) else none) ∧
      (w < 2 → s.saf.outs.length = 4 → ∀ k, k < 4 →
        nth v.saf.outs k false = if k = 2 + w then !nth s.saf.outs k false && s.brakeWanted else nth s.saf.outs k false) ∧
      (2 ≤ w → s.saf.outs.length = 4 → ∀ k, k < 4 → nth v.saf.outs k false =
        if k = w - 2 then s.lenWanted else if w = 2 ∧ k = 1 then false else nth s.saf.outs k false) ∧
      s.keeps v islandParts)) ∧
  (∀ (s : State) t, s.islandOn = true → s.saf.pairAt = some t → t + pbWd s.saf.active < s.safeNow →
    ∃ v, exec .watchdogExpiry s = .next v ∧ v.saf.pairAt = none ∧ v.saf.laser = false ∧ v.saf.brake = false ∧
      v.saf.testing = none ∧ (∀ i, nth v.saf.outs i false = false) ∧ v.saf.st = s.saf.st ∧ v.saf.faults = s.saf.faults ∧
      s.keeps v islandParts) ∧
  (∀ (s : State) t, s.islandOn = true → s.saf.pairAt = some t → s.safeNow ≤ t + pbWd s.saf.active →
    ∃ v, exec .watchdogExpiry s = .next v ∧ v.saf.pairAt = some t ∧ v.saf.laser = s.saf.laser ∧
      v.saf.brake = s.saf.brake ∧ (∀ i, nth v.saf.outs i false = true → nth s.saf.outs i false = true)) ∧
  (∀ (s : State) k, s.sb = true → k < 4 → nth s.saf.refresh k 0 + 5000 ≤ s.safeNow →
    ∃ v, exec (.outputRefreshTimeout k) s = .next v ∧ nth v.saf.outs k false = false ∧
      (∀ i, i ≠ k → nth v.saf.outs i false = nth s.saf.outs i false) ∧
      s.keeps v (if s.islandOn = true then islandParts else [.saf])) ∧
  (∀ (s : State) k, s.sb = false ∨ s.safeNow < nth s.saf.refresh k 0 + 5000 →
    exec (.outputRefreshTimeout k) s = .next s) ∧
  (∀ (s : State) c, s.islandOn = true → 8 ≤ c → c ≤ 11 →
    ∃ v, exec (.islandReset c) s = .next v ∧ bit v.saf.faults.toNat c = true ∧ v.saf.outs = low ∧
      v.saf.laser = false ∧ v.saf.brake = false ∧ v.saf.gtPhase = 0 ∧ v.saf.st ≠ .run ∧ v.saf.passed = [false, false] ∧
      s.keeps v islandParts) ∧
  (∀ (s : State) c, s.islandOn = false → exec (.islandReset c) s = .next s) ∧
  (∀ (s : State) stores, s.sb = false → exec (.islandPowerOn stores) s = .next s) ∧
  (∀ (s : State) x y, s.sb = true →
    let a := if blockSound x = true then nth s.saf.store 0 [] else x
    let b := if blockSound y = true then nth s.saf.store 1 [] else y
    let good : Bool := blockSound a || blockSound b
    let act := if blockSound a = true then a else b
    ∃ v, exec (.islandPowerOn [x, y]) s = .next v ∧ v.safeNow = 0 ∧ v.saf.outs = low ∧ v.saf.laser = false ∧
      v.saf.brake = false ∧ v.saf.gtPhase = 0 ∧
      (good = true → v.saf.active = act ∧ v.saf.store = [act, act] ∧ v.saf.faults = 0 ∧
        v.saf.st = if pbOwn act = 0 then .unconfigured else .guardTest) ∧
      (good = false → v.saf.st = .fault ∧ v.saf.faults = 0x1000 ∧ v.saf.active = factoryBlock) ∧
      s.keeps v (.tim :: islandParts))

/-- In every state whose island is on, at a multiple of 2,500 of TB_SAFE whose cycle has not run, SAFETY_CYCLE
empties the mailbox, takes the pin samples, a level counting when two successive samples agree, refreshes the
four outputs and produces the status DATA. After it LEN_A or LEN_B is high only if the state is RUN, the guard
test is done, the guard closed, the speed qualified, LASER_REQ 1 and the watchdog not expired; both brake
outputs are high together only in RUN or GUARD_TEST with the guard closed, BRAKE_REL 1, the watchdog not expired
and both applied-state tests passed. A valid copy without LASER_REQ leaves LEN_A and LEN_B low, one without
BRAKE_REL never both brake outputs high. Only the island changes, and what its records, incidents, EVENTs and
replies pass through. A cycle of an island that is off, between the multiples of 2,500 or run already, changes
nothing. -/
def Obligations.SafetyCycleGivesEnablesOnlyWhenSafe : Prop :=
  (∀ (s : State) pins, s.islandOn = true → s.safeNow % 2500 = 0 → s.saf.cycleAt ≠ some s.safeNow →
    let new := [pins.guardA, pins.guardB, pins.brkFbA, pins.brkFbB]
    ∃ v, exec (.safetyCycle pins) s = .next v ∧ v.saf.cycleAt = some s.safeNow ∧ v.saf.mailIn = [] ∧
      v.saf.refresh = List.replicate 4 s.safeNow ∧ v.saf.prevIns = new ∧
      (∀ i, i < 4 → nth v.saf.pads i false = nth [pins.lenA, pins.lenB, pins.brkA, pins.brkB] i false ∨
        nth v.saf.pads i false = nth v.saf.outs i false) ∧
      (∀ i, i < 4 → nth v.saf.ins i false =
        if nth new i false = nth s.saf.prevIns i false then nth new i false else nth s.saf.ins i false) ∧
      v.saf.statData = v.statusData ∧
      (nth v.saf.outs 0 false = true ∨ nth v.saf.outs 1 false = true → v.saf.st = .run ∧ v.saf.gtPhase = 2 ∧
        v.saf.guardClosed = true ∧ v.saf.speedOk = true ∧ v.saf.laser = true ∧ v.wdOk = true) ∧
      (nth v.saf.outs 2 false = true → nth v.saf.outs 3 false = true → (v.saf.st = .run ∨ v.saf.st = .guardTest) ∧
        v.saf.guardClosed = true ∧ v.saf.brake = true ∧ v.wdOk = true ∧ v.saf.passed.all id = true) ∧
      (∀ port d, s.saf.mailIn = [MailIn.telegram port d] → s.copyOk port d = true →
        (bit (field (slice (uninvert port d) 24 32) 0 1) 0 = false →
          nth v.saf.outs 0 false = false ∧ nth v.saf.outs 1 false = false) ∧
        (bit (field (slice (uninvert port d) 24 32) 0 1) 1 = false →
          ¬ (nth v.saf.outs 2 false = true ∧ nth v.saf.outs 3 false = true))) ∧
      s.keeps v islandParts) ∧
  (∀ (s : State) pins, s.islandOn = false ∨ s.safeNow % 2500 ≠ 0 ∨ s.saf.cycleAt = some s.safeNow →
    exec (.safetyCycle pins) s = .next s)

/-- The first edge of SPDIN sets the edge time. A later one within 1 us is ignored; another closes a period: above
PMAX the speed is no longer qualified and its count 0; below a PMIN that is not 0 the count is 0 and an
overspeed is noted; else the count goes up, and from SPD_QUAL on the speed is qualified. The speed is not
qualified once PMAX has passed without an edge. The second hold of the guard test, ended, puts an island in
GUARD_TEST into RUN, or back into FAULT while a fault is latched. A due status pair of a device under a block of
its own is sent: the sending is remembered under its TSEQ, which advances by 1, and its DATA becomes the last. A
datagram of 64 bytes enters the mailbox, or is counted when it is full; one of another length is counted as
discarded. A command whose condition does not hold changes nothing. -/
def Obligations.SpeedGuardTestAndTelegramsComplete : Prop :=
  (∀ (s : State) (t : Quad), s.islandOn = true → t.toNat ≤ s.safeNow → s.saf.edgeAt = none →
    exec (.spdinEdge t) s = .next { s with saf.edgeAt := some t.toNat }) ∧
  (∀ (s : State) (t : Quad), s.safeNow < t.toNat ∨ (∃ t₀, s.saf.edgeAt = some t₀ ∧ t.toNat - t₀ < 100) →
    exec (.spdinEdge t) s = .next s) ∧
  (∀ (s : State) (t : Quad) t₀, s.islandOn = true → t.toNat ≤ s.safeNow → s.saf.edgeAt = some t₀ →
    100 ≤ t.toNat - t₀ →
    let p := t.toNat - t₀
    let u := { s with saf.edgeAt := some t.toNat, saf.period := some p }
    (pbMax s.saf.active < p → exec (.spdinEdge t) s = .next { u with saf.spdCount := 0, saf.speedOk := false }) ∧
    (p ≤ pbMax s.saf.active → p < pbMin s.saf.active →
      exec (.spdinEdge t) s = .next { u with saf.spdCount := 0, saf.fast := true }) ∧
    (p ≤ pbMax s.saf.active → pbMin s.saf.active ≤ p →
      exec (.spdinEdge t) s = .next { u with
        saf.spdCount := s.saf.spdCount + 1
        saf.speedOk := s.saf.speedOk || decide (pbQual s.saf.active ≤ s.saf.spdCount + 1) })) ∧
  (∀ (s : State) t, s.islandOn = true → s.saf.edgeAt = some t →
    (t + pbMax s.saf.active < s.safeNow →
      exec .speedBelowLimit s = .next { s with saf.speedOk := false, saf.spdCount := 0 }) ∧
    (s.safeNow ≤ t + pbMax s.saf.active → exec .speedBelowLimit s = .next s)) ∧
  (∀ (s : State) t, s.islandOn = true → s.saf.gtPhase = 1 → s.saf.gtFrom = some t →
    t + pbGt s.saf.active ≤ s.safeNow →
    ∃ v, exec .guardTestDone s = .next v ∧ v.saf.gtPhase = 2 ∧ v.saf.gtFrom = none ∧
      v.saf.st = (if s.saf.st = .guardTest then (if s.saf.heldByFault = true then .fault else .run) else s.saf.st) ∧ v.saf.outs = s.saf.outs ∧
      v.saf.faults = s.saf.faults ∧ s.keeps v islandParts) ∧
  (∀ (s : State), s.islandOn = true → s.saf.st ≠ .unconfigured → pbOwn s.saf.active ≠ 0 →
    (s.saf.statDue = true ∨ s.saf.statAt + pbCyc s.saf.active ≤ s.safeNow) →
    ∃ v, exec .statusTelegram s = .next v ∧ v.saf.statDue = false ∧ v.saf.statAt = s.safeNow ∧
      v.saf.statData = s.statusData ∧ v.saf.sent = ((v.saf.tseqTx, s.safeNow) :: s.saf.sent).take 64 ∧
      (s.saf.sent ≠ [] → v.saf.tseqTx = s.saf.tseqTx + 1) ∧ v.saf.st = s.saf.st ∧ v.saf.outs = s.saf.outs ∧
      s.keeps v islandParts) ∧
  (∀ (s : State), s.islandOn = false ∨ s.saf.st = .unconfigured ∨ pbOwn s.saf.active = 0 ∨
    (s.saf.statDue = false ∧ s.safeNow < s.saf.statAt + pbCyc s.saf.active) → exec .statusTelegram s = .next s) ∧
  (∀ (s : State) port data, s.sb = true →
    (data.length ≠ 64 → exec (.safetyTelegram port data) s = .next (s.bump (OUT_ETH_RXDROP port))) ∧
    (data.length = 64 → 16 ≤ s.saf.mailIn.length →
      exec (.safetyTelegram port data) s = .next (s.bump SAF_MBX_RXDROP)) ∧
    (data.length = 64 → s.saf.mailIn.length < 16 → exec (.safetyTelegram port data) s =
      .next { s with saf.mailIn := s.saf.mailIn ++ [MailIn.telegram port data] })) ∧
  (∀ (s : State), s.islandOn = false → exec .guardTestDone s = .next s ∧ exec .speedBelowLimit s = .next s ∧
    ∀ t, exec (.spdinEdge t) s = .next s)

/-- An accepted REP_SUMMARY answers the spares in use by kind and the length of the map. REP_MIGRATE of a unit that
serves, has not failed and has a spare, with no migration of its kind waiting, is answered ACCEPTED and queues
the migration; REP_SELFTEST without a self-test starts one. BIST_PERIODIC starts one when it is enabled and its
period has passed. SELFTEST_DONE without failed units ends the self-test and changes no list of failed units; an
engine released under a command enters the pool with it, or the list of the failed ones when it did not pass. A
pair that passes its self-test is the standby again, one that fails enters the repair map and stays out. A
changed repair map is written to the copy in flash that does not count, every entry marked. A command whose
condition does not hold changes nothing. -/
def Obligations.RepairCommandsComplete : Prop :=
  (∀ s u o r x, s.accepted repSummaryOp o r = some (u, x) → exec (.repSummary o r) s = .next (u.answered 0xB0 o r x
    (((List.range 8).flatMap fun k => leBytes 2 (u.sparesInUse k)) ++ leBytes 4 u.mapLength ++ List.replicate 12 0))) ∧
  (∀ s u o r x, s.accepted repMigrateOp o r = some (u, x) →
    let k := field r.payload 0 1
    let i := field r.payload 2 2
    u.unitFailed k i = false → u.unitServes k i = true → u.unitSpare k i = true →
    (u.mig k = none → exec (.repMigrate o r) s =
      .next ((u.queueMig k i u.time (some (o, r.sequence))).answeredAccepted 0xB1 o r x)) ∧
    (u.mig k ≠ none → exec (.repMigrate o r) s = .next (u.answeredRefusal 0xB1 o r x BUSY 0))) ∧
  (∀ s u o r x, s.accepted repSelftestOp o r = some (u, x) →
    (u.rep.selftest = none → exec (.repSelftest o r) s = .next
      (State.answeredAccepted { u with rep.selftest := some (field r.payload 0 4, some (o, r.sequence)) } 0xB2 o r x)) ∧
    (u.rep.selftest ≠ none → exec (.repSelftest o r) s = .next (u.answeredRefusal 0xB2 o r x BUSY 0))) ∧
  (∀ (s : State), bit (s.regN REP_CFG) 0 = true → s.boot.firmware = true → s.rep.selftest = none →
    (s.rep.bistAt + 1250000000 * s.fld REP_CFG 31 16 ≤ s.time → exec .bistPeriodic s =
      .next { s with rep.selftest := some (0x3F, none), rep.bistAt := s.time }) ∧
    (s.time < s.rep.bistAt + 1250000000 * s.fld REP_CFG 31 16 → exec .bistPeriodic s = .next s)) ∧
  (∀ (s : State), bit (s.regN REP_CFG) 0 = false ∨ s.boot.firmware = false ∨ s.rep.selftest ≠ none →
    exec .bistPeriodic s = .next s) ∧
  (∀ (s : State) l, s.rep.selftest = none → s.rep.released = [] → exec (.selftestDone l) s = .next s) ∧
  (∀ (s : State) l e, s.rep.selftest = none → s.rep.released = [(1, e)] → s.engineGroup e = none →
    (l.contains (1, e) = false → exec (.selftestDone l) s = .next (State.mapRemove { s with
      rep.released := [], rep.pool := sortBy (fun a b => decide (a < b)) (e :: s.rep.pool) } 1 e)) ∧
    (l.contains (1, e) = true → e < 68 → s.rep.engFail.contains e = false →
      ∃ t, exec (.selftestDone l) s = .next t ∧ t.rep.released = [] ∧ t.rep.engFail = s.rep.engFail ++ [e] ∧
        t.rep.pool = s.rep.pool.filter (· != e) ∧ (∃ x ∈ t.rep.map, x.kind = 1 ∧ x.failed = e ∧ x.origin = 3))) ∧
  (∀ (s : State) mask owner, s.rep.selftest = some (mask, owner) → s.rep.released = [] →
    ∃ t, exec (.selftestDone []) s = .next t ∧ t.rep = { s.rep with selftest := none } ∧
      (bit mask 5 = true → t.mem = { s.mem with sramAt := s.time, dramAt := s.time }) ∧
      (bit mask 5 = false → t.mem = s.mem) ∧ s.keepsRegs t [GLB_EVT_SEQ] ∧
      s.keeps t [.rep, .mem, .regs, .pk, .drawn, .out, .ifl]) ∧
  (∀ (s : State) ok, s.rep.standby = false → s.boot.firmware = true →
    (∀ e ∈ s.rep.map, e.kind = 4 → e.failed = 1 - s.rep.active → e.origin = 4) →
    ∃ t, exec (.pairRejoin ok) s = .next t ∧ t.rep.standby = ok ∧ t.rep.active = s.rep.active ∧
      (ok = false → ∃ e ∈ t.rep.map, e.kind = 4 ∧ e.failed = 1 - s.rep.active ∧ e.origin = 3) ∧
      s.keeps t [.rep, .regs, .pk, .drawn, .out, .ifl]) ∧
  (∀ (s : State) ok, s.rep.standby = true ∨ s.boot.firmware = false → exec (.pairRejoin ok) s = .next s) ∧
  (∀ (s : State) x, s.rep.mapPend = some x → s.boot.firmware = true →
    let u := { s with rep.map := s.rep.map.map fun (e : MapEntry) => { e with flags := e.flags ||| 1 } }
    let copy := match u.mapNewest with | some c => 1 - c | none => 0
    exec .repairMapWriteback s = .next { u.flashStore (FL_REPAIR copy) 0x10000 u.mapBytes with rep.mapPend := none }) ∧
  (∀ (s : State), s.rep.mapPend = none ∨ s.boot.firmware = false → exec .repairMapWriteback s = .next s)

/-- A stamp parity error marks its TDC failed, a parity error, a missed heartbeat or a run of more than twice its
WCET its engine; the cause stands in an incident, or the table is full and the report is counted as dropped; a
unit that serves has its migration waiting, one that does not enters the repair map at once, a failed engine is
out of the pool and in state FAILED. A unit that is failed already, a run within its bound and an engine without
a run change nothing. A lockstep mismatch or a watchdog expiry of the active pair asks for the switchover, or
without a standby leaves the device without firmware, the responder serving. -/
def Obligations.UnitFaultsMarkReportAndQueue : Prop :=
  let told (s t : State) (key : Word) : Prop := (∃ i ∈ t.rep.incidents, i.key = key) ∨ t.reg REP_INC_DROP = s.reg REP_INC_DROP + 1
  let tdc (s : State) (c : Instr) (i cause : Nat) : Prop :=
    ∃ t, exec c s = .next t ∧ t.rep.tdcFail = s.rep.tdcFail ++ [i] ∧ told s t (causeKey 2 cause i) ∧
      (s.tdcServes i ≠ 0xFFFF → ∃ m ∈ t.rep.migs, m.kind = 0 ∧ m.failed = i) ∧
      (s.tdcServes i = 0xFFFF → t.rep.migs.map Migration.failed = s.rep.migs.map Migration.failed ∧
        ∃ e ∈ t.rep.map, e.kind = 0 ∧ e.failed = i) ∧ s.keeps t [.rep, .regs, .drawn, .pk, .adm, .out, .ifl]
  let engine (s : State) (c : Instr) (e cause : Nat) : Prop :=
    ∃ t, exec c s = .next t ∧ t.rep.engFail = s.rep.engFail ++ [e] ∧ t.rep.pool = s.rep.pool.filter (· != e) ∧
      told s t (causeKey 3 cause e) ∧ (e < s.hen.length → (t.eng e).st = .failed) ∧ (∀ k, k ≠ e → t.eng k = s.eng k) ∧
      ((s.engineGroup e).isSome = true → ∃ m ∈ t.rep.migs, m.kind = 1 ∧ m.failed = e) ∧
      ((s.engineGroup e).isSome = false → t.rep.migs.map Migration.failed = s.rep.migs.map Migration.failed ∧
        ∃ x ∈ t.rep.map, x.kind = 1 ∧ x.failed = e) ∧ s.keeps t [.rep, .regs, .drawn, .pk, .hen, .adm, .out, .ifl]
  (∀ (s : State) i, i < 567 → s.rep.tdcFail.contains i = false → tdc s (.parityError false i) i 2) ∧
  (∀ (s : State) i, s.rep.tdcFail.contains i = true → exec (.parityError false i) s = .next s) ∧
  (∀ (s : State) i, i < 68 → s.rep.engFail.contains i = false → engine s (.parityError true i) i 2) ∧
  (∀ (s : State) (e : Fin 68), s.rep.engFail.contains e.val = false → engine s (.heartbeatTimeout e) e 3) ∧
  (∀ (s : State) (e : Fin 68) r, s.rep.engFail.contains e.val = false → (s.eng e).run = some r →
    2 * s.regN (HEN_WCET e) < s.runCycles e r → engine s (.runLongerThanWcet e) e 4) ∧
  (∀ (s : State) (e : Fin 68), s.rep.engFail.contains e.val = true →
    exec (.heartbeatTimeout e) s = .next s ∧ exec (.runLongerThanWcet e) s = .next s) ∧
  (∀ (s : State) (e : Fin 68), (∀ r, (s.eng e).run = some r → s.runCycles e r ≤ 2 * s.regN (HEN_WCET e)) →
    exec (.runLongerThanWcet e) s = .next s) ∧
  (∀ (s : State) c cause, (c = .lockstepMismatch ∧ cause = 1) ∨ (c = .thrumiWatchdog ∧ cause = 2) →
    (s.boot.firmware = true → s.rep.switch = none → s.rep.standby = true →
      ∃ t, exec c s = .next t ∧ t.rep.switch = some s.time ∧ told s t (causeKey 7 cause s.rep.active) ∧
        s.keeps t [.rep, .regs, .drawn, .pk]) ∧
    (s.boot.firmware = true → s.rep.switch = none → s.rep.standby = false →
      ∃ t, exec c s = .next t ∧ t.boot.firmware = false ∧ t.boot.responder = true ∧
        s.keeps t [.rep, .regs, .drawn, .pk, .boot]) ∧
    (s.boot.firmware = false ∨ s.rep.switch ≠ none → exec c s = .next s))

/-- The first waiting migration of a TDC gives its channel the spare of its routes, and no other channel changes;
the old TDC takes the edges before the changeover tick, 4 ticks on (the model's choice, log entry 111); after a
fault the spare's first stamp is marked blind, and after a health failure its lanes start at UNCAL (log entry
106); without a spare the channel is lost after a fault and left alone under a command. The first waiting
migration of an engine lets the spare serve its group, out of the pool, and ends the run; without a spare the
engine has no run, event or record left. A switchover makes the other pair active, with no standby, and leaves
the measuring core alone, but that its drains resume. Each enters the repair map (the switchover after a
command) and no longer waits. Without a waiting migration nothing changes. -/
def Obligations.MigrationsMoveWorkToSpares : Prop :=
  let gone (s t : State) (m : Migration) : Prop :=
    t.rep.migs.map (fun x => (x.kind, x.failed)) =
      (s.rep.migs.filter fun x => x.kind != m.kind || x.failed != m.failed).map fun x => (x.kind, x.failed)
  (∀ (s : State) (c : Fin 512) m, s.mig 0 = some m → s.tdcServes m.failed = c.val → c.val < s.hch.chans.length →
    (∀ r n, s.spareRoute c = some (r, n) → n < s.hch.tdcs.length →
      ∃ t, exec (.tdcMigration c) s = .next t ∧ (t.chan c).tdc = n ∧ (t.chan c).route = r + 1 ∧
        (∀ k, k ≠ c.val → t.chan k = s.chan k) ∧ (t.tdc n).markBlind = !m.commanded ∧
        (t.chan c).swap = some (s.tim.shot + 4, m.failed) ∧
        (((s.tdc m.failed).lower.fault || (s.tdc m.failed).upper.fault) = true →
          (t.tdc n).lower.state = 0 ∧ (t.tdc n).upper.state = 0) ∧ gone s t m ∧
        (∃ e ∈ t.rep.map, e.kind = 0 ∧ e.failed = m.failed ∧ e.spare = n) ∧
        s.keeps t [.hch, .rep, .regs, .adm, .pk, .drawn, .out, .ifl]) ∧
    (s.spareRoute c = none → m.commanded = true →
      ∃ t, exec (.tdcMigration c) s = .next t ∧ t.hch = s.hch ∧ t.rep.chanLost = s.rep.chanLost ∧ t.rep.map = s.rep.map ∧
        gone s t m) ∧
    (s.spareRoute c = none → m.commanded = false →
      ∃ t, exec (.tdcMigration c) s = .next t ∧ t.rep.chanLost = s.rep.chanLost ++ [c.val] ∧
        (∀ k, t.chan k = s.chan k) ∧ gone s t m ∧
        (∃ e ∈ t.rep.map, e.kind = 0 ∧ e.failed = m.failed ∧ e.origin = 2) ∧
        s.keeps t [.hch, .rep, .regs, .adm, .pk, .drawn, .out, .ifl])) ∧
  (∀ (s : State) c, s.mig 0 = none → exec (.tdcMigration c) s = .next s) ∧
  (∀ (s : State) (c : Fin 512) m, s.mig 0 = some m → s.tdcServes m.failed < 512 → s.tdcServes m.failed ≠ c.val →
    exec (.tdcMigration c) s = .next s) ∧
  (∀ (s : State) m g, s.mig 1 = some m → s.engineGroup m.failed = some g → m.commanded = false →
    (∀ n, s.spareEngine = some n → n ≠ m.failed → n < 68 → m.failed < 68 → s.hen.length = 68 →
      (∀ unc, ∃ t, exec (.engineMigration unc) s = .next t ∧ t.groupEngine g = n ∧
        t.rep.pool = s.rep.pool.filter (· != n) ∧ gone s t m) ∧
      ∃ t, exec (.engineMigration []) s = .next t ∧ (t.eng n).run = none ∧ (t.eng m.failed).run = none ∧
        (t.eng m.failed).st = .failed ∧ (∃ e ∈ t.rep.map, e.kind = 1 ∧ e.failed = m.failed ∧ e.spare = n)) ∧
    (s.spareEngine = none → ∀ unc, ∃ t, exec (.engineMigration unc) s = .next t ∧ gone s t m ∧
      (m.failed < s.hen.length → (t.eng m.failed).run = none ∧ (t.eng m.failed).events = [] ∧
        (t.eng m.failed).recq = []) ∧
      ∃ e ∈ t.rep.map, e.kind = 1 ∧ e.failed = m.failed ∧ e.origin = 2)) ∧
  (∀ (s : State) m g unc, s.mig 1 = some m → s.engineGroup m.failed = some g → m.commanded = true →
    s.spareFor 1 m.failed = none →
    ∃ t, exec (.engineMigration unc) s = .next t ∧ t.hen = s.hen ∧ t.rep.map = s.rep.map ∧ gone s t m) ∧
  (∀ (s : State) unc, s.mig 1 = none → exec (.engineMigration unc) s = .next s) ∧
  (∀ (s : State), s.mig 4 = none ∧ s.rep.switch = none ∨ s.rep.standby = false → exec .ccSwitchover s = .next s) ∧
  (∀ (s : State), s.rep.standby = true → s.mig 4 ≠ none ∨ s.rep.switch ≠ none →
    ∃ t, exec .ccSwitchover s = .next t ∧ t.rep.active = 1 - s.rep.active ∧ t.rep.standby = false ∧
      t.rep.switch = none ∧ t.boot.responder = false ∧ t.boot.activate = none ∧ t.rep.selftest = none ∧
      t.thm.run = none ∧
      t.hen.map (fun y => { y with drainAt := 0 }) = s.hen.map (fun y => { y with drainAt := 0 }) ∧
      (∀ m, s.mig 4 = some m → s.rep.switch = none ∨ m.failed = s.rep.active → gone s t m) ∧
      (∀ m, s.mig 4 = some m → s.rep.switch = none → m.commanded = true → ∃ e ∈ t.rep.map, e.kind = 4 ∧ e.failed = s.rep.active) ∧
      s.keeps t [.thm, .pk, .boot, .rep, .regs, .drawn, .out, .ifl, .adm, .hen])

/-- Every SRAM error of an engine fails the engine, one in a calibration set empties the set, one in the table store
marks its tables corrupt, and the row of each is one to replace. Scrubs, when due or asked for by a self-test,
count the corrections and set their time. Three corrections of a row within 24 h replace it: an SRAM row by a
spare row of its macro, or treat it as an uncorrectable error; the channel of a DDR5 row pauses, and its repair
then ends by post-package repair, a spare row, or an uncorrectable error at the row. An uncorrectable DDR5 burst
is poisoned. A due retraining pauses its channel, and its end takes the first candidate that passes and resumes
it. (A pause is two rows, its begin and its end: the model's choice, log entry 112.) A channel that fails in
READY leaves the other alone, DDR5 without contents and no snapshot. A command whose condition does not hold
changes nothing. -/
def Obligations.MemoryFaultsAreContained : Prop :=
  (∀ (s : State) a, 0x800000 ≤ a → (a - 0x800000) / 0x70000 < 68 →
    let e := (a - 0x800000) / 0x70000
    s.rep.engFail.contains e = false →
    ∃ t, exec (.sramError a) s = .next t ∧ t.reg MEM_SRAM_UE = s.reg MEM_SRAM_UE + 1 ∧
      t.rep.engFail = s.rep.engFail ++ [e] ∧ s.keeps t [.regs, .pk, .rep, .drawn, .hen, .mem, .adm, .out, .ifl]) ∧
  (∀ (s : State) a k, 0x400000 + 0x20000 * k ≤ a → a < 0x400000 + 0x20000 * (k + 1) → k < 8 →
    ∃ t, exec (.sramError a) s = .next t ∧ t.reg MEM_SRAM_UE = s.reg MEM_SRAM_UE + 1 ∧
      nth t.thm.stored k none = none ∧ t.thm.buildDue = true ∧ s.keeps t [.regs, .pk, .rep, .drawn, .thm, .mem]) ∧
  (∀ (s : State) a, ∃ t, exec (.sramError a) s = .next t ∧
    t.mem.sramCe = s.mem.sramCe ++ List.replicate 3 (a / 65536, a % 65536 / 8, s.time)) ∧
  (∀ (s : State) a x, 0x200000 ≤ a → a < 0x400000 → x ∈ s.pg.tables →
    x.offset ≤ a - 0x200000 → a - 0x200000 < x.offset + x.data.length →
    ∃ t, exec (.sramError a) s = .next t ∧ t.mem.corrupt.contains (x.kind, x.id) = true) ∧
  (∀ (s : State) errs, s.scrubTest = false → s.time < s.mem.sramAt + 1250000000 * s.fld MEM_SCRUB_CFG 7 0 →
    exec (.sramScrub errs) s = .next s) ∧
  (∀ (s : State) errs, s.scrubTest = true ∨ s.mem.sramAt + 1250000000 * s.fld MEM_SCRUB_CFG 7 0 ≤ s.time →
    ∃ t, exec (.sramScrub errs) s = .next t ∧ t.mem.sramAt = s.time ∧
      t.reg MEM_SRAM_CE = s.reg MEM_SRAM_CE + BitVec.ofNat 32 errs.length ∧
      (∀ a ∈ errs, (a / 65536, a % 65536 / 8, s.time) ∈ t.mem.sramCe) ∧ s.keepsRegs t [MEM_SRAM_CE] ∧
      s.keeps t [.regs, .pk, .mem]) ∧
  (∀ (s : State) m row, m < 604 → row < 8192 →
    let hits := (s.recentCe s.mem.sramCe).filter fun x => x.1 == m && x.2.1 == row
    let u := { s with mem.sramCe := s.mem.sramCe.filter fun x => x.1 != m || x.2.1 != row }
    let used := (s.mem.remap.filter fun e => e.1 == 5 && e.2.1 / 2 ^ 22 == m).length
    let v := { u with mem.remap := u.mem.remap ++ [(5, m * 2 ^ 22 + row, m * 2 ^ 22 + used)] }
    (hits.length < 3 → exec (.sramRowRepair m row) s = .next s) ∧
    (3 ≤ hits.length → 4 ≤ used → exec (.sramRowRepair m row) s = .next (u.sramUe (65536 * m + 8 * row))) ∧
    (3 ≤ hits.length → used < 4 → exec (.sramRowRepair m row) s =
      .next (((v.latch MEM_STATUS 0x1).mapAdd 5 2 (m * 2 ^ 22 + row) (m * 2 ^ 22 + used)).rowDone 5 s.time true))) ∧
  (∀ (s : State) errs,
    (s.scrubTest = false → s.time < s.mem.dramAt + 1250000000 * (3600 * s.fld MEM_SCRUB_CFG 15 8) → exec (.dramScrub errs) s = .next s) ∧
    (s.scrubTest = true ∨ s.mem.dramAt + 1250000000 * (3600 * s.fld MEM_SCRUB_CFG 15 8) ≤ s.time →
      ∃ t, exec (.dramScrub errs) s = .next t ∧ t.mem.dramAt = s.time ∧
        (∀ a ∈ errs, (s.dramChannel a, dramCode a, s.time) ∈ t.mem.dramCe) ∧ s.keeps t [.regs, .pk, .mem])) ∧
  (∀ (s : State) (row : DramRow) ok,
    let c := row.channel.val
    let hits := (s.recentCe s.mem.dramCe).filter fun y => y.1 == c && y.2.1 == row.code.toNat
    let v := s.resumeDram c
    let u := { v with mem.dramCe := v.mem.dramCe.filter fun y => y.1 != c || y.2.1 != row.code.toNat }
    ((s.dramChan c).up = false → exec (.dramRowRepair row ok) s = .next s) ∧
    ((s.dramChan c).up = true → (s.dramChan c).paused = false → exec (.dramRowRepair row ok) s =
      .next (if hits.length < 3 then s else s.pauseDram c (some row.code.toNat))) ∧
    ((s.dramChan c).up = true → (s.dramChan c).paused = true → (s.dramChan c).repairs ≠ some row.code.toNat →
      exec (.dramRowRepair row ok) s = .next s) ∧
    ((s.dramChan c).up = true → (s.dramChan c).paused = true → (s.dramChan c).repairs = some row.code.toNat →
      (c < s.mem.chans.length → (v.dramChan c).paused = false) ∧
      (ok = true → exec (.dramRowRepair row ok) s =
        .next (((u.latch MEM_STATUS 0x4).mapAdd 7 2 (c * 2 ^ 31 + row.code.toNat) noSpare).rowDone 7
          (s.time - (s.tim.shot - (s.dramChan c).pauseAt)) false)) ∧
      (ok = false → 0 < (s.dramChan c).spares → ∃ t, exec (.dramRowRepair row ok) s = .next t ∧
        (c < s.mem.chans.length → (t.dramChan c).spares + 1 = (s.dramChan c).spares ∧ (t.dramChan c).paused = false) ∧
        ∃ e ∈ t.rep.map, e.kind = 7 ∧ e.failed = c * 2 ^ 31 + row.code.toNat) ∧
      (ok = false → (s.dramChan c).spares = 0 → exec (.dramRowRepair row ok) s =
        .next (u.dramUe (u.rowBase c row.code.toNat))))) ∧
  (∀ (s : State) a, (s.dramSize ≤ a → exec (.dramUncorrectable a) s = .next s) ∧
    (a < s.dramSize → ∃ t, exec (.dramUncorrectable a) s = .next t ∧ t.mem.poison.contains (a / 64) = true ∧
      (∀ b, s.mem.poison.contains b = true → t.mem.poison.contains b = true) ∧ t.mem.dram = s.mem.dram)) ∧
  (∀ (s : State) (c : Fin 2) passes,
    ((s.dramChan c).up = false ∨ (s.dramChan c).paused = true ∧ (s.dramChan c).repairs.isSome = true →
      exec (.retrain c passes) s = .next s) ∧
    ((s.dramChan c).up = true → (s.dramChan c).paused = false → exec (.retrain c passes) s =
      .next (if s.retrainDue c = true then s.pauseDram c none else s)) ∧
    ((s.dramChan c).up = true → (s.dramChan c).paused = true → (s.dramChan c).repairs = none → c.val < s.mem.chans.length →
      (s.dramChan c).failed = false → s.tim.lost.contains (.dramPll (if c.val = 0 then 0 else 1)) = false →
      ∀ k, ((s.trialOrder c).zip passes).find? Prod.snd = some (k, true) →
      ∃ t, exec (.retrain c passes) s = .next t ∧ (t.dramChan c).up = true ∧ (t.dramChan c).set_ = k ∧
        (t.dramChan c).retrain = false ∧ (t.dramChan c).paused = false ∧
        t.mem.pauses = (((s.dramChan c).pauseAt, s.tim.shot) :: s.mem.pauses).take 64 ∧ (t.dramChan c).temp = nth s.thm.zones 6 0 ∧
        t.dramChan (1 - c.val) = s.dramChan (1 - c.val) ∧ t.mem.dram = s.mem.dram ∧ s.keeps t [.mem, .regs, .adm])) ∧
  (∀ (s : State) (c : Fin 2), (s.boot.phase ≠ .ready ∨ (s.dramChan c).failed = true → exec (.channelFallback c) s = .next s) ∧
    (s.boot.phase = .ready → (s.dramChan c).failed = false → (s.dramChan (1 - c.val)).failed = false →
      ∃ t, exec (.channelFallback c) s = .next t ∧ t.mem.fallback = some (1 - c.val) ∧ t.mem.dram = [] ∧
        t.mem.poison = [] ∧ t.pk.snapshots = List.replicate 4 none ∧
        (c.val < s.mem.chans.length → (t.dramChan c).failed = true ∧ (t.dramChan c).up = false)))

/-- An accepted REG_READ answers the registers from its address. An accepted REG_WRITE whose values all pass writes
them, one with a value that fails has no effect and answers its status with its offset. REG_MODIFY writes the
old value outside the mask and the value inside it, a W1C or W1S bit outside it as 0, and answers the old and
the new value; one whose value fails writes nothing and answers the status, with its offset for BAD_PARAM and 0
otherwise. A REGISTER_WRITE whose values pass writes them, and through the responder moves GEN; one under the
hold of PORST_L, outside the register space or with a failing value of any status but ADM_REFUSED has no effect.
A word written to a scratch register is what it holds, and nothing else changes. -/
def Obligations.RegisterAccessCompletes : Prop :=
  (∀ s u o r x, s.accepted regReadOp o r = some (u, x) →
    let y := u.readRegs (field r.payload 0 4) (field r.payload 4 2)
    exec (.regRead o r) s =
      .next (y.2.answered 0xC0 o r x (slice r.payload 0 6 ++ [0, 0] ++ y.1.flatMap (leBytes 4)))) ∧
  (∀ s u o r x, s.accepted regWriteOp o r = some (u, x) →
    let ws := regWrites (field r.payload 0 4) (payloadWords r.payload 8)
    (u.badWrite ws (fun _ => true) = none → exec (.regWrite o r) s = .next ((u.writeRegs ws).answered 0xC1 o r x)) ∧
    (∀ i st, u.badWrite ws (fun _ => true) = some (i, st) → st ≠ ADM_REFUSED →
      exec (.regWrite o r) s = .next (u.answeredRefusal 0xC1 o r x st (24 + 4 * i)))) ∧
  (∀ s u o r x, s.accepted regModifyOp o r = some (u, x) →
    let a := field r.payload 0 4
    let w := u.modified a (BitVec.ofNat 32 (field r.payload 4 4)) (BitVec.ofNat 32 (field r.payload 8 4))
    let v := (u.readReg a).2
    v.badWrite [(a, w)] (fun _ => true) = none →
    exec (.regModify o r) s = .next ((((v.writeRegs [(a, w)]).readReg a).2).answered 0xC2 o r x
      (leBytes 4 (u.readReg a).1 ++ leBytes 4 ((v.writeRegs [(a, w)]).readReg a).1))) ∧
  (∀ s u o r x i st, s.accepted regModifyOp o r = some (u, x) →
    let a := field r.payload 0 4
    let w := u.modified a (BitVec.ofNat 32 (field r.payload 4 4)) (BitVec.ofNat 32 (field r.payload 8 4))
    let v := (u.readReg a).2
    v.badWrite [(a, w)] (fun _ => true) = some (i, st) → st ≠ ADM_REFUSED → exec (.regModify o r) s =
      .next (v.answeredRefusal 0xC2 o r x st (if st = BAD_PARAM then 24 else 0))) ∧
  (∀ (s : State) path a ws, s.boot.held = false → a % 4 = 0 → a + 4 * ws.length ≤ 0x100000 →
    s.badWrite (regWrites a ws) (fun _ => true) = none →
    (path = .bar0 → exec (.registerWrite path a ws) s = .next (s.writeRegs (regWrites a ws))) ∧
    (path = .responder → s.boot.responder = true → touchesFw (regWrites a ws) = false →
      exec (.registerWrite path a ws) s = .next (s.writeRegs (regWrites a ws)).bumpGen)) ∧
  (∀ (s : State) path a ws, s.boot.held = true ∨ a % 4 ≠ 0 ∨ 0x100000 < a + 4 * ws.length ∨
    (∃ i st, s.badWrite (regWrites a ws) (fun _ => true) = some (i, st) ∧ st ≠ ADM_REFUSED) →
    exec (.registerWrite path a ws) s = .next s) ∧
  (∀ (s : State) n w, n < 4 → s.boot.held = false →
    ∃ t, exec (.registerWrite .bar0 (GLB_SCRATCH n) [w]) s = .next t ∧ t.reg (GLB_SCRATCH n) = w ∧
      s.keepsRegs t [GLB_SCRATCH n] ∧ s.keeps t [.regs])

/-- An accepted REG_READ that the responder executes answers the registers. A REG_WRITE, a REG_MODIFY and a
MEM_WRITE of window 0 that the responder executes, of a sound class, length and flags, and that touch a register
of the list, have no effect and answer FW_ABSENT; so a REG_WRITE accepted touches none of them, and when its
values pass it is written. A write by the responder itself that touches one has no effect. The list is
ADM_AMBIENT, ADM_STAGE_SIZE, ADM_STAGE_BASE_LO and _HI, THM_CFG and THM_STEP_TAB, EMT_MATRIX_CFG, _LINES_A,
_LINES_K and _WMAX, EMT_BUDGET_RATED, _REFILL and _OVERDRIVE, EMT_COMP_SEL, EMT_FIRE_MODE, HCH_WALK_SEL,
HKA_USER_SEL, OUT_DRING_CFG, OUT_ETH_CFG and IFL_CFG. -/
def Obligations.ResponderRefusesFirmwareRegisters : Prop :=
  let listed (a : Nat) : Prop := a ∈ [ADM_AMBIENT, ADM_STAGE_SIZE, ADM_STAGE_BASE_LO, ADM_STAGE_BASE_HI, THM_CFG,
      EMT_MATRIX_CFG, EMT_MATRIX_LINES_A, EMT_MATRIX_LINES_K, EMT_MATRIX_WMAX, IFL_CFG] ∨
    (∃ i, i < 8 ∧ (a = THM_STEP_TAB i ∨ a = EMT_FIRE_MODE i)) ∨
    (∃ g, g < 4 ∧ (a = EMT_BUDGET_RATED g ∨ a = EMT_BUDGET_REFILL g ∨ a = EMT_BUDGET_OVERDRIVE g ∨
      a = EMT_COMP_SEL g ∨ a = OUT_ETH_CFG g)) ∨
    (∃ g, g < 64 ∧ a = HCH_WALK_SEL g) ∨ (∃ n, n < 24 ∧ a = HKA_USER_SEL n) ∨ ∃ n, n < 16 ∧ a = OUT_DRING_CFG n
  (∀ s u o r x, s.accepted regReadOp o r = some (u, x) → u.byResponder o = true →
    let y := u.readRegs (field r.payload 0 4) (field r.payload 4 2)
    exec (.regRead o r) s =
      .next (y.2.answered 0xC0 o r x (slice r.payload 0 6 ++ [0, 0] ++ y.1.flatMap (leBytes 4)))) ∧
  (∀ s u o r x, s.arrived 0xC1 o r = some (u, x) → u.byResponder o = true → r.cls.toNat % 16 ≤ 3 →
    regWriteOp.lengthOk r.payload = true → bit r.flags.toNat 5 = false →
    (∃ w ∈ regWrites (field r.payload 0 4) (payloadWords r.payload 8), listed w.1) →
    exec (.regWrite o r) s = .next (u.answeredRefusal 0xC1 o r x FW_ABSENT 0)) ∧
  (∀ s u o r x, s.accepted regWriteOp o r = some (u, x) → u.byResponder o = true →
    let ws := regWrites (field r.payload 0 4) (payloadWords r.payload 8)
    (∀ w ∈ ws, ¬ listed w.1) ∧ (u.badWrite ws (fun _ => true) = none →
      exec (.regWrite o r) s = .next ((u.writeRegs ws).answered 0xC1 o r x))) ∧
  (∀ s u o r x, s.arrived 0xC2 o r = some (u, x) → u.byResponder o = true → r.cls.toNat % 16 ≤ 3 →
    r.payload.length = 12 → bit r.flags.toNat 5 = false → listed (field r.payload 0 4) →
    exec (.regModify o r) s = .next (u.answeredRefusal 0xC2 o r x FW_ABSENT 0)) ∧
  (∀ s u o r x, s.arrived 0xC4 o r = some (u, x) → u.byResponder o = true → r.cls.toNat % 16 ≤ 3 →
    12 ≤ r.payload.length → bit r.flags.toNat 5 = false → field r.payload 0 1 = 0 →
    (∃ w ∈ regWrites (field r.payload 4 8) (payloadWords r.payload 12), listed w.1) →
    exec (.memWrite o r) s = .next (u.answeredRefusal 0xC4 o r x FW_ABSENT 0)) ∧
  (∀ (s : State) a ws, s.boot.responder = true → (∃ w ∈ regWrites a ws, listed w.1) →
    exec (.registerWrite .responder a ws) s = .next s)

/-- An accepted MEM_READ answers the bytes of its window behind its window and offset; of a free handle it is
answered NOT_FOUND, of a poisoned burst INTERNAL. An accepted MEM_WRITE of a window other than the register
space stores its bytes, or is answered STATE where it meets the active half of an engine. SNAPSHOT with a free
handle and room is answered ACCEPTED with the lowest free handle, the generation and the length of its image,
which the handle then holds; without a handle BUSY, of a poisoned burst INTERNAL (the model's choice, log entry
140). SNAPSHOT_RELEASE frees a handle in use and is else answered NOT_FOUND. SNAPSHOT_DONE marks an image
complete, unless a DDR5 channel pauses, for which the copy waits; 60 s after its last read SNAPSHOT_EXPIRY frees
it, and before that changes nothing. -/
def Obligations.MemoryWindowsAndSnapshotsComplete : Prop :=
  (∀ s u o r x, s.accepted memReadOp o r = some (u, x) →
    let w := field r.payload 0 1
    let off := field r.payload 4 8
    let n := field r.payload 12 4
    (u.freeHandle w = true → exec (.memRead o r) s = .next (u.answeredRefusal 0xC3 o r x NOT_FOUND 0)) ∧
    (u.freeHandle w = false → w = 2 → u.poisoned off n = true →
      exec (.memRead o r) s = .next (u.answeredRefusal 0xC3 o r x INTERNAL 0)) ∧
    (u.freeHandle w = false → w ≠ 2 ∨ u.poisoned off n = false →
      let y := (u.touchSnapshot w).readWindow w off n
      exec (.memRead o r) s = .next (y.2.answered 0xC3 o r x (r.payload.take 12 ++ y.1)))) ∧
  (∀ s u o r x, s.accepted memWriteOp o r = some (u, x) →
    let w := field r.payload 0 1
    let off := field r.payload 4 8
    (w ≠ 0 → u.engineBusy w off (r.payload.length - 12) = false →
      exec (.memWrite o r) s = .next ((u.writeWindow w off (r.payload.drop 12)).answered 0xC4 o r x)) ∧
    (w ≠ 0 → u.engineBusy w off (r.payload.length - 12) = true →
      exec (.memWrite o r) s = .next (u.answeredRefusal 0xC4 o r x STATE 0)) ∧
    (w = 0 → u.badWrite (regWrites off (payloadWords r.payload 12)) (fun _ => true) = none →
      exec (.memWrite o r) s = .next ((u.writeRegs (regWrites off (payloadWords r.payload 12))).answered 0xC4 o r x))) ∧
  (∀ s u o r x, s.accepted snapshotOp o r = some (u, x) →
    (∀ h ∈ u.pk.snapshots, h.isSome = true) → exec (.snapshot o r) s = .next (u.answeredRefusal 0xC5 o r x BUSY 0)) ∧
  (∀ s u o r x h, s.accepted snapshotOp o r = some (u, x) → u.pk.snapshots.findIdx? Option.isNone = some h →
    let os := snapObjects r.payload
    (∀ y ∈ os, u.freeHandle y.1 = false) →
    ((∃ y ∈ os, y.1 = 2 ∧ u.poisoned y.2.1 y.2.2 = true) →
      exec (.snapshot o r) s = .next (u.answeredRefusal 0xC5 o r x INTERNAL 0)) ∧
    ((∀ y ∈ os, y.1 = 2 → u.poisoned y.2.1 y.2.2 = false) →
      u.snapUsed + imageLength os ≤ 2 ^ 20 * u.fld MEM_SNAP_SIZE 15 0 →
    let y : Snapshot :=
      { image := u.snapImage os, done := false, owner := o, sequence := r.sequence, last := u.time }
    exec (.snapshot o r) s = .next (State.answeredAccepted { u with pk.snapshots := u.pk.snapshots.set h (some y) } 0xC5 o r x
      (leBytes 1 h ++ [0, 0, 0] ++ leBytes 4 u.gen.toNat ++ leBytes 8 y.image.length)))) ∧
  (∀ s u o r x, s.accepted snapshotReleaseOp o r = some (u, x) →
    let h := field r.payload 0 1
    ((nth u.pk.snapshots h none).isSome = true → exec (.snapshotRelease o r) s =
      .next (State.answered { u with pk.snapshots := u.pk.snapshots.set h none } 0xC6 o r x)) ∧
    ((nth u.pk.snapshots h none).isSome = false →
      exec (.snapshotRelease o r) s = .next (u.answeredRefusal 0xC6 o r x NOT_FOUND 0))) ∧
  (∀ (s : State) (h : Fin 4) y, nth s.pk.snapshots h.val none = some y → y.done = false →
    (s.dramPaused = true → exec (.snapshotDone h) s = .next s) ∧
    (s.dramPaused = false → ∃ t, exec (.snapshotDone h) s = .next t ∧
      t.pk.snapshots = s.pk.snapshots.set h.val (some { y with done := true, last := s.time }) ∧
      s.keepsRegs t [GLB_EVT_SEQ] ∧ s.keeps t [.pk, .regs, .out, .ifl])) ∧
  (∀ (s : State) (h : Fin 4), (∀ y, nth s.pk.snapshots h.val none = some y → y.done = true) →
    exec (.snapshotDone h) s = .next s) ∧
  (∀ (s : State) (h : Fin 4) y, nth s.pk.snapshots h.val none = some y →
    (y.done = true → y.last + 75000000000 ≤ s.time → exec (.snapshotExpiry h) s =
      .next { s with pk.snapshots := s.pk.snapshots.set h.val none }) ∧
    (y.done = false ∨ s.time < y.last + 75000000000 → exec (.snapshotExpiry h) s = .next s)) ∧
  (∀ (s : State) (h : Fin 4), nth s.pk.snapshots h.val none = none → exec (.snapshotExpiry h) s = .next s)

/-- For every state and every span that a window takes: a write of window 0x02 within the usable part of DDR5, of
the staging set in window 0x71 and of the host scratch region in window 0x01 stores each byte at its address;
every address outside the span reads as before, the other memories are as before, and nothing else but the
poison of whole bursts changes. A write of an engine's window stores each byte in that engine and touches no
other engine. Every store keeps its canonical form. -/
def Obligations.WrittenBytesReadBack : Prop :=
  (∀ (s : State) off d, off + d.length ≤ s.dramTop →
    let t := s.writeWindow 2 off d
    (∀ i, i < d.length → Sparse.get zeroByte t.mem.dram (off + i) = nth d i 0) ∧
    (∀ a, a < off ∨ off + d.length ≤ a → Sparse.get zeroByte t.mem.dram a = Sparse.get zeroByte s.mem.dram a) ∧
    t.mem = { s.mem with dram := t.mem.dram, poison := t.mem.poison } ∧ s.keeps t [.mem]) ∧
  (∀ (s : State) off d, 0x100000 ≤ off →
    let t := s.writeWindow 0x71 off d
    (∀ i, i < d.length → Sparse.get zeroByte t.thm.staging (off - 0x100000 + i) = nth d i 0) ∧
    (∀ a, a < off - 0x100000 ∨ off - 0x100000 + d.length ≤ a →
      Sparse.get zeroByte t.thm.staging a = Sparse.get zeroByte s.thm.staging a) ∧
    t.thm = { s.thm with staging := t.thm.staging } ∧ s.keeps t [.thm]) ∧
  (∀ (s : State) off d, 0x7A0000 ≤ off →
    let t := s.writeWindow 1 off d
    (∀ i, i < d.length → Sparse.get zeroByte t.mem.host (off - 0x7A0000 + i) = nth d i 0) ∧
    (∀ a, a < off - 0x7A0000 ∨ off - 0x7A0000 + d.length ≤ a →
      Sparse.get zeroByte t.mem.host a = Sparse.get zeroByte s.mem.host a) ∧
    t.mem = { s.mem with host := t.mem.host } ∧ s.keeps t [.mem]) ∧
  (∀ (s : State) w off d, 0x10 ≤ w → w ≤ 0x53 → w - 0x10 < s.hen.length →
    let t := s.writeWindow w off d
    (∀ i, i < d.length → Sparse.get zeroByte (t.eng (w - 0x10)).mem (off + i) = nth d i 0) ∧
    (∀ a, a < off ∨ off + d.length ≤ a →
      Sparse.get zeroByte (t.eng (w - 0x10)).mem a = Sparse.get zeroByte (s.eng (w - 0x10)).mem a) ∧
    (∀ k, k ≠ w - 0x10 → t.eng k = s.eng k) ∧ s.keeps t [.hen]) ∧
  (∀ (s : State) w off d, s.wf = true → (s.writeWindow w off d).wf = true)

/-- A sound packet of a known opcode enters the ingress queue of its origin behind those there. Bytes that fail one
of the first checks wait in that queue, and in their turn are taken and discarded: what is no packet is counted
in GLB_RX_FMT and leaves nothing else; with a wrong trailer they are counted in GLB_RX_CRC, and on MSPI answered
BAD_CRC; a reply or EVENT flag is counted in GLB_RX_FLAG; another version is answered BAD_VERSION. A packet for
another device is sent on with FWD set on the port of its route, or answered with the status of its missing
route. MSPI takes a packet unless one is in flight; its reads answer the oldest reply, which is then gone, or
0x00, and the three status bits. The responder takes over when a packet has waited on MSPI for 10 ms and the
pair has not served its queue for 10 ms. -/
def Obligations.ArrivingPacketsAreSorted : Prop :=
  (∀ (s : State) o raw p, o = .mspi ∨ o.isUdp = true → s.boot.held = false → soundPacket raw = some p →
    knownOpcodes.contains p.opcode.toNat = true → exec (.packetDiscard o raw) s = .next (s.enqueue o (.packet p))) ∧
  (∀ (s : State) o raw, o = .mspi ∨ o.isUdp = true → s.boot.held = false → soundPacket raw = none →
    (s.taken o (.raw raw) = none → s.waits o (.raw raw) = true → exec (.packetDiscard o raw) s = .next s) ∧
    (s.taken o (.raw raw) = none → s.waits o (.raw raw) = false →
      exec (.packetDiscard o raw) s = .next (s.enqueue o (.raw raw))) ∧
    (∀ e t, s.taken o (.raw raw) = some (e, t) →
      (parsePacket raw = .format → exec (.packetDiscard o raw) s = .next (t.bump GLB_RX_FMT)) ∧
      (∀ p, parsePacket raw = .crc p → exec (.packetDiscard o raw) s =
        .next ((if o = .mspi then t.answer o p e BAD_CRC 0 else t).bump GLB_RX_CRC)) ∧
      (∀ v p, parsePacket raw = .packet v p →
        (bit p.flags.toNat 0 = true ∨ bit p.flags.toNat 6 = true →
          exec (.packetDiscard o raw) s = .next (t.bump GLB_RX_FLAG)) ∧
        (bit p.flags.toNat 0 = false → bit p.flags.toNat 6 = false → v ≠ 1 ∧
          exec (.packetDiscard o raw) s = .next (t.answer o p e BAD_VERSION 0))))) ∧
  (∀ raw p, soundPacket raw = some p ↔
    parsePacket raw = .packet 1 p ∧ bit p.flags.toNat 0 = false ∧ bit p.flags.toNat 6 = false) ∧
  (∀ (s : State) a, (s.enqueue .mspi a).pk.ingress =
    s.pk.ingress ++ [{ origin := .mspi, item := a, entered := s.time }] ∧ s.keeps (s.enqueue .mspi a) [.pk]) ∧
  (∀ (s : State) o raw, s.boot.held = true → exec (.packetDiscard o raw) s = .next s) ∧
  (∀ (s t u : State) o (op : Byte) r e, r.target.toNat / 16 ≠ s.ifl.dev →
    let p := r.packet op.toNat
    s.deaf o = false → s.taken o (.packet p) = some (e, t) → t.ensureSession o = some u →
    bit r.flags.toNat 0 = false → bit r.flags.toNat 6 = false →
    (∀ q, u.route o (r.target.toNat / 16) = .inl q → exec (.packetForward o op r) s =
      .next ((u.noteAway o p e).linkSend q 0 (u.originOf o).1 (u.originOf o).2 { p with flags := p.flags ||| 0x10 }.bytes)) ∧
    (∀ st, u.route o (r.target.toNat / 16) = .inr st →
      exec (.packetForward o op r) s = .next (u.answer o p e st 0))) ∧
  (∀ (s : State) o op r, r.target.toNat / 16 = s.ifl.dev → exec (.packetForward o op r) s = .next s) ∧
  (∀ (s : State) raw, (s.mspiBusy = true → exec (.mspiWritePacket raw) s = .next s) ∧
    (s.mspiBusy = false → exec (.mspiWritePacket raw) s =
      exec (.packetDiscard .mspi raw) { s with pk.mspiOut := [] })) ∧
  (∀ (s : State), (s.pk.mspiReply = [] → exec .mspiReadReply s = .next { s with pk.mspiOut := [0x00] }) ∧
    (∀ p rest, s.pk.mspiReply = p :: rest →
      exec .mspiReadReply s = .next { s with pk.mspiOut := p.bytes, pk.mspiReply := rest })) ∧
  (∀ (s : State), ∃ b, exec .mspiReadStatus s = .next { s with pk.mspiOut := [b] } ∧
    (bit b.toNat 0 = true ↔ s.pk.mspiReply ≠ []) ∧ bit b.toNat 1 = s.boot.firmware ∧ bit b.toNat 2 = s.mspiBusy ∧
    b.toNat < 8) ∧
  (∀ (s : State) h, s.queueHead 8 = some h →
    (s.boot.responder = false → s.pk.mspiServed + 12500000 ≤ s.time → h.entered + 12500000 ≤ s.time →
      exec .responderTakeover s = .next { s with boot.responder := true }) ∧
    (s.boot.responder = true ∨ s.time < s.pk.mspiServed + 12500000 ∨ s.time < h.entered + 12500000 →
      exec .responderTakeover s = .next s)) ∧
  (∀ (s : State), s.queueHead 8 = none → exec .responderTakeover s = .next s)

/-- A command tail of an enabled ring is taken, and the packets of its new descriptors arrive in order; one of a
disabled ring with both bases enables it from head 0, without them it is only stored; a tail beyond the ring is
ignored. A reply tail posts its new buffers, a data tail its new buffers, and enables a disabled ring with a
base from head 0. A function-level reset puts every ring back: disabled, without buffers, its tails and heads 0,
and a ring's session at its reset mask without a transfer; PERST_L does so and takes the link down. A link
trained at a width and speed that exist comes up with them, unless the device is held, has no hardware phase
behind it or has lost its reference clock. On a port whose link is up an ARP request for the port's address is
answered on that port, and any other is counted as discarded. A received frame with a bad check sequence, for
another station, of another type, or with a datagram that fails its checks or goes to a port that nobody has, is
counted as discarded; an ARP request in it is treated so; a datagram to the command port is a packet of its
endpoint's UDP session; one to the island's port on ETH0 or ETH1 is a safety telegram. On a port whose link is
down nothing changes. -/
def Obligations.RingsAndPortsComplete : Prop :=
  ((∀ (s : State) (n : Fin 4) (tail : Word) ps y, s.pk.rings[n.val]? = some y →
     tail.toNat < 2 ^ s.fld (OUT_CMDQ_SIZE n) 3 0 →
     (y.enabled = true → exec (.outCmdqTail n tail ps) s =
       .next ((ps.take (posted (2 ^ s.fld (OUT_CMDQ_SIZE n) 3 0) (s.regN (OUT_CMDQ_TAIL n)) tail.toNat)).foldl
         (fun t d => t.receive (.ring n) d) (s.setReg (OUT_CMDQ_TAIL n) tail))) ∧
     (y.enabled = false → y.cmdBase = false ∨ y.rplBase = false →
       exec (.outCmdqTail n tail ps) s = .next (s.setReg (OUT_CMDQ_TAIL n) tail)) ∧
     (y.enabled = false → y.cmdBase = true → y.rplBase = true → ∃ t, exec (.outCmdqTail n tail []) s = .next t ∧
       t.reg (OUT_CMDQ_TAIL n) = tail ∧ (t.session (.ring n)).isSome = true ∧
       (∃ z, t.pk.rings[n.val]? = some z ∧ z.enabled = true ∧ z.cmdHead = 0 ∧ z.rplHead = 0 ∧
         z.replyBufs = y.replyBufs) ∧ s.keepsRegs t [OUT_CMDQ_TAIL n] ∧ s.keeps t [.pk, .regs])) ∧
   (∀ (s : State) (n : Fin 4) (tail : Word) ps, 2 ^ s.fld (OUT_CMDQ_SIZE n) 3 0 ≤ tail.toNat →
     exec (.outCmdqTail n tail ps) s = .next s) ∧
   (∀ (s : State) (n : Fin 4) (tail : Word) lens y, s.pk.rings[n.val]? = some y →
     let size := 2 ^ s.fld (OUT_CMDQ_SIZE n) 11 8
     (tail.toNat < size → ∃ t, exec (.outRplqTail n tail lens) s = .next t ∧ t.reg (OUT_RPLQ_TAIL n) = tail ∧
       (∃ z, t.pk.rings[n.val]? = some z ∧
         z.replyBufs = y.replyBufs ++ lens.take (posted size (s.regN (OUT_RPLQ_TAIL n)) tail.toNat) ∧
         z.enabled = y.enabled) ∧ s.keepsRegs t [OUT_RPLQ_TAIL n] ∧ s.keeps t [.pk, .regs, .out]) ∧
     (size ≤ tail.toNat → exec (.outRplqTail n tail lens) s = .next s)) ∧
   (∀ (s : State) (n : Fin 16) (tail : Word) bufs y, s.out.rings[n.val]? = some y →
     (tail.toNat < s.ringSize n → y.enabled = true ∨ y.baseSet = true →
       ∃ t, exec (.outDringTail n tail bufs) s = .next t ∧ t.reg (OUT_DRING_TAIL n) = tail ∧
         (∃ z, t.out.rings[n.val]? = some z ∧ z.enabled = true ∧
           z.bufs = y.bufs ++ bufs.take (posted (s.ringSize n)
             (if y.enabled = true then s.regN (OUT_DRING_TAIL n) else 0) tail.toNat)) ∧
         (y.enabled = false → t.reg (OUT_DRING_HEAD n) = 0) ∧ s.keepsRegs t [OUT_DRING_TAIL n, OUT_DRING_HEAD n] ∧
         s.keeps t [.regs, .out]) ∧
     (tail.toNat < s.ringSize n → y.enabled = false → y.baseSet = false →
       exec (.outDringTail n tail bufs) s = .next (s.setReg (OUT_DRING_TAIL n) tail)) ∧
     (s.ringSize n ≤ tail.toNat → exec (.outDringTail n tail bufs) s = .next s)) ∧
   (∀ (s : State) c, (c = .functionLevelReset ∨ c = .pciePerst) → ∃ t, exec c s = .next t ∧
     t.pk.rings = PacketUnit.reset.rings ∧ t.out.rings = Output.reset.rings ∧
     (∀ x ∈ t.pk.ingress, ∀ n, x.origin ≠ .ring n) ∧
     (∀ x ∈ t.pk.sessions, (∃ n, x.origin = .ring n) → x.mask = 1 ∧ x.stage = none) ∧
     (∀ n, n < 16 → t.reg (OUT_DRING_TAIL n) = 0 ∧ t.reg (OUT_DRING_HEAD n) = 0) ∧
     (c = .pciePerst → t.out.pcieUp = false) ∧ (c = .functionLevelReset → t.out.pcieUp = s.out.pcieUp)) ∧
   (∀ (s : State) w v, w ∈ [1, 2, 4, 8] → v ∈ [2, 5, 8, 16, 32] → s.boot.phase ≠ .hardware → s.boot.held = false →
     s.tim.lost.contains .pcieRefclk = false →
     ∃ t, exec (.pcieLinkTrained w v) s = .next t ∧ t.out.pcieUp = true ∧ t.out.pcieWidth = w ∧ t.out.pcieSpeed = v) ∧
   (∀ (s : State) w v, w ∉ [1, 2, 4, 8] ∨ v ∉ [2, 5, 8, 16, 32] ∨ s.boot.phase = .hardware ∨ s.boot.held = true ∨
     s.tim.lost.contains .pcieRefclk = true → exec (.pcieLinkTrained w v) s = .next s)) ∧
  ((∀ (s : State) (p : Fin 4), nth s.out.ethUp p.val false = false →
     (∀ a m i, exec (.arpRequest p a m i) s = .next s) ∧ ∀ f, exec (.ethFrameReceived p f) s = .next s) ∧
   (∀ (s : State) (p : Fin 4) m i, nth s.out.ethUp p.val false = true →
     exec (.arpRequest p (s.reg (OUT_ETH_IP p)) m i) s =
       .next { s with out.direct := s.out.direct ++ [(p, s.arpReply p m i)] } ∧
     ∀ a, a ≠ s.reg (OUT_ETH_IP p) → exec (.arpRequest p a m i) s = .next (s.bump (OUT_ETH_RXDROP p))) ∧
   (∀ (s : State) (p : Fin 4) f, nth s.out.ethUp p.val false = true → s.readFrame p f = none →
     exec (.ethFrameReceived p f) s = .next (s.bump (OUT_ETH_RXDROP p))) ∧
   (∀ (s : State) (p : Fin 4) f e, nth s.out.ethUp p.val false = true → s.readFrame p f = some e →
     (e.type = 0x0806 → slice e.data 0 8 = [0, 1, 8, 0, 6, 4, 0, 1] → exec (.ethFrameReceived p f) s =
       exec (.arpRequest p (BitVec.ofNat 32 (field e.data 24 4)) (BitVec.ofNat 48 (field e.data 8 6))
         (BitVec.ofNat 32 (field e.data 14 4))) s) ∧
     (e.type ≠ 0x0806 → e.type ≠ 0x0800 → exec (.ethFrameReceived p f) s = .next (s.bump (OUT_ETH_RXDROP p))) ∧
     (e.type = 0x0800 → s.readDatagram p e.data = none →
       exec (.ethFrameReceived p f) s = .next (s.bump (OUT_ETH_RXDROP p))) ∧
     (∀ ip sport dport d, e.type = 0x0800 → s.readDatagram p e.data = some (ip, sport, dport, d) →
       (dport = s.fld GLB_CMD_UDP_PORT 15 0 → exec (.ethFrameReceived p f) s =
         exec (.packetDiscard (.udp p e.mac ip sport e.tag) d) s) ∧
       (dport ≠ s.fld GLB_CMD_UDP_PORT 15 0 → dport ≠ 319 → dport ≠ 320 →
         (∀ (h : p.val < 2), s.sb = true → dport = pbPort s.saf.active →
           exec (.ethFrameReceived p f) s = exec (.safetyTelegram ⟨p.val, h⟩ d) s) ∧
         (s.sb = false ∨ 2 ≤ p.val ∨ dport ≠ pbPort s.saf.active →
           exec (.ethFrameReceived p f) s = .next (s.bump (OUT_ETH_RXDROP p)))))))

/-- An accepted TREE_STATUS answers 16 rows of 8 bytes, zeros behind the number for a device that the description
lacks. TREE_CONFIG on a manager that removes no entry replaces the description, elsewhere it is answered STATE.
WORKER_RESYNC of a device that the port leads to is answered ACCEPTED and waits; of no device BAD_TARGET, with
one waiting BUSY. A port that gains block lock begins time lock, and on a worker's parent port is its reference
again; an exchange on a port that is down gains its lock again first; each exchange is counted, and one on a
worker's parent port makes it the parent and takes the device ID given. A worker whose parent has its exchanges
begins its join, and when it has converged is JOINED and ends a resync. A link that goes down is lost, and a
worker that loses its parent runs free, without XSYS with its shots held. A row whose condition does not hold
changes nothing. -/
def Obligations.TreeCommandsAndLinksComplete : Prop :=
  (∀ s u o r x, s.accepted treeStatusOp o r = some (u, x) → ∃ t pl, exec (.treeStatus o r) s =
    .next (t.answered 0xE0 o r x pl) ∧ pl.length = 128 ∧ u.keeps t [.drawn] ∧
    ∀ d, d < 16 → d ≠ u.ifl.dev → u.ifl.entries.find? (fun e => e.dev == d) = none →
      slice pl (8 * d) 8 = leBytes 1 d ++ List.replicate 7 0) ∧
  (∀ s u o r x, s.accepted treeConfigOp o r = some (u, x) →
    let es := treeEntries r.payload
    (u.role ≠ 1 → exec (.treeConfig o r) s = .next (u.answeredRefusal 0xE1 o r x STATE 0)) ∧
    (u.role = 1 → (∀ e ∈ u.ifl.entries, e ∈ es) → exec (.treeConfig o r) s = .next
      (State.answered (({ u with
        ifl.entries := es
        ifl.ports := u.ifl.ports.zipIdx.map fun y => replacePort u.ifl.entries es y.2 y.1 } : State).latch IFL_STATUS 0x2)
        0xE1 o r x))) ∧
  (∀ s u o r x, s.accepted workerResyncOp o r = some (u, x) →
    let d := field r.payload 0 1
    let named : Prop := u.role = 1 ∧ ∃ e ∈ u.ifl.entries, e.dev = d
    (∀ q, named → u.ifl.portTo u.ifl.dev 16 d = some q →
      (u.ifl.resync ≠ none → exec (.workerResync o r) s = .next (u.answeredRefusal 0xE2 o r x BUSY 0)) ∧
      (u.ifl.resync = none →
        let v := if (u.port q).peer = d then u.setPort q LinkPort.relock else u
        exec (.workerResync o r) s = .next (State.answeredAccepted
          { v with ifl.resync := some (d, o, r.sequence), ifl.joining := false, ifl.slipped := false } 0xE2 o r x))) ∧
    (¬ named → ¬ (u.role = 2 ∧ d = u.ifl.dev) →
      exec (.workerResync o r) s = .next (u.answeredRefusal 0xE2 o r x BAD_TARGET 0))) ∧
  (∀ (s : State) (p : Fin 4), (bit (s.regN IFL_CFG) p.val = false ∨ s.role = 0 ∨ (s.port p).state = 0 ∨
      (s.port p).locked = true → exec (.blockLock p) s = .next s) ∧
    (bit (s.regN IFL_CFG) p.val = true → s.role ≠ 0 → (s.port p).state ≠ 0 → (s.port p).locked = false → p.val < s.ifl.ports.length →
      ∃ t, exec (.blockLock p) s = .next t ∧ (t.port p).locked = true ∧ (t.port p).state = 2 ∧ (t.port p).count = 0 ∧
        (s.role = 2 → (s.port p).parent = true → t.tim.onRef = true ∧ t.seq.clockHold = false) ∧
        (s.role ≠ 2 ∨ (s.port p).parent = false ∨ s.seq.clockHold = false →
          (∀ q, q ≠ p.val → t.port q = s.port q) ∧ s.keeps t [.ifl, .tim]))) ∧
  (∀ (s : State) (p : Fin 4) x, ((s.port p).locked = false ∧ (s.port p).state ≠ 4) ∨ s.role = 0 →
    exec (.timeExchange p x) s = .next s) ∧
  (∀ (s : State) (p : Fin 4) x, (s.port p).state = 4 →
    exec (.timeExchange p x) s = exec (.timeExchange p x) (s.gainLock p)) ∧
  (∀ (s : State) (p : Fin 4) x, (s.port p).locked = true → p.val < s.ifl.ports.length →
    (s.role = 2 → (s.port p).parent = true → ∃ t, exec (.timeExchange p x) s = .next t ∧
      (t.port p).parent = true ∧ (t.port p).count = (s.port p).count + 1 ∧ (t.port p).peer = x.dev.val ∧
      (t.port p).state = (s.port p).state ∧ t.ifl.dev = x.own.val ∧ t.ifl.parentPort = p.val ∧ t.tim.onRef = true ∧ t.seq.clockHold = false ∧
      t.tim.warm = ((s.port p).state == 3 && x.warm)) ∧
    (s.role = 1 → ∃ t, exec (.timeExchange p x) s = .next t ∧ (t.port p).count = (s.port p).count + 1 ∧
      (t.port p).peer = x.dev.val ∧ t.ifl.dev = s.ifl.dev ∧
      ((s.port p).unlisted = false → x.joined = true → (t.port p).state = 3) ∧
      ((s.port p).unlisted = false → x.joined = false → (s.port p).state = 3 → (t.port p).state = 2))) ∧
  (∀ (s : State), let x := s.port s.ifl.parentPort
    (s.role ≠ 2 ∨ x.parent = false ∨ x.unlisted = true ∨ x.state ≠ 2 ∨ (s.ifl.joining = false ∧ x.count < 64) →
      exec .linkJoin s = .next s) ∧
    (s.role = 2 → x.parent = true → x.unlisted = false → x.state = 2 → s.ifl.parentPort < s.ifl.ports.length →
      (s.ifl.joining = true → s.averaged ≤ x.count → ∃ t, exec .linkJoin s = .next t ∧
        (t.port s.ifl.parentPort).state = 3 ∧ t.ifl.joining = false ∧ t.ifl.resync = none ∧
        t.tim.warm = s.ifl.parentWarm) ∧
      (s.ifl.joining = true → x.count < s.averaged → exec .linkJoin s = .next s) ∧
      (s.ifl.joining = false → 64 ≤ x.count → x.theta.natAbs ≤ 1024 * 256 → 0 < s.averaged → exec .linkJoin s = .next
        ({ s with ifl.joining := true, ifl.slipped := false }.setPort s.ifl.parentPort fun y => { y with count := 0 })) ∧
      (s.ifl.joining = false → 64 ≤ x.count → 1024 * 256 < x.theta.natAbs → s.coreIdle = true →
        ∃ t, exec .linkJoin s = .next t ∧ t.ifl.joining = true ∧ t.ifl.slipped = false ∧
          (t.port s.ifl.parentPort).count = 0 ∧
          t.tim.shot = (((s.tim.shot : Int) - roundDiv x.theta (256 * 2048)) % 2 ^ 64).toNat))) ∧
  (∀ (s : State) (p : Fin 4), ((s.port p).locked = false → exec (.linkDown p) s = .next s) ∧
    ((s.port p).locked = true → p.val < s.ifl.ports.length → ∃ t, exec (.linkDown p) s = .next t ∧
      (t.port p).state = 4 ∧ (t.port p).locked = false ∧ bit (t.regN IFL_STATUS) 0 = true ∧
      (s.role = 2 → (s.port p).parent = true → t.tim.onRef = false ∧ t.tim.warm = false ∧ t.ifl.joining = false ∧
        (s.tim.xsys = false → t.seq.clockHold = true))))

/-- On a worker SYNC_FULL is kept for the SYNC_SHOT that follows, and SYNC_SHOT with a full number commits the next
SYNC_FIRE entry of the program under that number at the announced time, unless it comes too late or a clock or
the shutdown holds; without the program only the number is kept. The manager acts on the first WAIT_REPORT, a
worker on the first WAIT_RELEASE. ACK removes the incident frame of its sequence and no other frame; the repeat
sends a due incident frame again. A link frame on a joined port is a packet, a reply, an incident that is
acknowledged, or a record frame; a bad one, or one of an unknown kind, is counted. An incident whose window has
closed is CLEARED if its cause has ended and ACTIVE otherwise. A row whose condition does not hold changes
nothing. -/
def Obligations.TreeBlocksAndFramesComplete : Prop :=
  (∀ (s : State) c, s.role ≠ 2 → (∃ n, c = .syncFull n) ∨ (∃ p a b t, c = .syncShot p a b t) ∨ (∃ a b, c = .waitRelease a b) →
    exec c s = .next s) ∧
  (∀ (s : State) n, s.role = 2 → ∃ t, exec (.syncFull n) s = .next t ∧ t.ifl.syncFull = some n ∧
    t.ifl.latest = s.ifl.latest ∧ s.keeps t [.ifl]) ∧
  (∀ (s : State) (pid : Fin 64) (low16 : Half) (low26 : BitVec 26) (arr : Long) f, s.role = 2 →
    s.ifl.syncFull = some f →
    let n : Long := BitVec.ofNat 48 (nearest 16 f.toNat low16.toNat)
    let b := s.sendBlock 0x51 (pid.val * 2 ^ 42 + low16.toNat * 2 ^ 26 + low26.toNat) (some s.ifl.parentPort)
    let u := { b with ifl.syncFull := none, ifl.latest := some n }
    (u.prog pid = none → exec (.syncShot pid low16 low26 arr) s = .next u) ∧
    (∀ q, u.prog pid = some q → q.issues = true →
      let p := u.plan pid q
      let at_ := nearest 48 u.tim.shot arr.toNat
      let fire := u.placed low26.toNat at_
      seSync p.entry = true → 32 * (at_ + 64) ≤ fire → u.seq.clockHold = false → u.thm.shutdown = false →
        exec (.syncShot pid low16 low26 arr) s =
          .next (u.commitShot q { p with fire := fire, nominal := fire - 32 * p.dither } n))) ∧
  (∀ (s : State) dev tag, (s.role = 0 ∨ s.repeated dev.val tag.toNat = true → exec (.waitReport dev tag) s = .next s) ∧
    (s.role = 1 → s.repeated dev.val tag.toNat = false → exec (.waitReport dev tag) s =
      .next ((s.noteSeen dev.val tag.toNat).waitReported dev.val tag.toNat))) ∧
  (∀ (s : State) tag (low : Word), (s.repeated 16 tag.toNat = true → exec (.waitRelease tag low) s = .next s) ∧
    (s.role = 2 → s.repeated 16 tag.toNat = false → exec (.waitRelease tag low) s =
      .next (((s.noteSeen 16 tag.toNat).sendThrice 0x53 (tag.toNat * 2 ^ 32 + low.toNat)
        (some s.ifl.parentPort)).releaseTag tag.toNat (nearest 32 s.tim.shot low.toNat)))) ∧
  (∀ (s : State) seq, ∃ t, exec (.ack seq) s = .next t ∧ s.keeps t [.ifl] ∧
    ∀ p f, f ∈ (t.port p).tx ↔ f ∈ (s.port p).tx ∧ (f.kind ≠ 3 ∨ f.seq ≠ seq)) ∧
  (∀ (s : State) seq, ∃ t, exec (.incidentFrameRepeat seq) s = .next t ∧ s.keeps t [.ifl] ∧
    ∀ p, (t.port p).tx = (s.port p).tx.map fun f =>
      if f.kind = 3 ∧ f.seq = seq ∧ f.sent + 25000 ≤ s.time then { f with sent := s.time } else f) ∧
  (∀ (s : State) (p : Fin 4) kind dev sess seq data ok, (s.port p).state ≠ 3 →
    exec (.linkFrame p kind dev sess seq data ok) s = .next s) ∧
  (∀ (s : State) (p : Fin 4) kind dev sess seq data, (s.port p).state = 3 →
    exec (.linkFrame p kind dev sess seq data false) s = .next (s.bump (IFL_FRM_DROP p)) ∧
    (kind.val = 0 → exec (.linkFrame p kind dev sess seq data true) s =
      exec (.packetDiscard (.ifl p dev sess) data) s) ∧
    (kind.val = 1 ∨ kind.val = 2 → dev.val ≠ s.ifl.dev → s.role = 2 → s.ifl.parentPort ≠ p.val →
      exec (.linkFrame p kind dev sess seq data true) s =
        .next (s.linkSend s.ifl.parentPort kind.val dev.val sess data)) ∧
    (kind.val = 3 → ∃ t, exec (.linkFrame p kind dev sess seq data true) s = .next t ∧
      (p.val, 0x54, seq.toNat * 2 ^ 32) ∈ t.ifl.blocks) ∧
    (kind.val = 4 → s.role = 2 → exec (.linkFrame p kind dev sess seq data true) s =
      .next (s.linkSend s.ifl.parentPort 4 dev.val sess data)) ∧
    (5 ≤ kind.val → exec (.linkFrame p kind dev sess seq data true) s = .next (s.bump (IFL_BLK_ERR p)))) ∧
  (∀ (s : State) iseq i, s.rep.incidents.find? (fun i => i.iseq == iseq) = some i →
    (i.state ≠ 0 ∨ s.time ≤ i.closes → exec (.incidentWindowClose iseq) s = .next s) ∧
    (i.state = 0 → i.closes < s.time → ∃ t, exec (.incidentWindowClose iseq) s = .next t ∧
      (∃ j ∈ t.rep.incidents, j.iseq = iseq ∧ j.key = i.key ∧ j.state = if i.ended = true then 2 else 1) ∧
      (∀ j, j.iseq ≠ iseq → (j ∈ t.rep.incidents ↔ j ∈ s.rep.incidents)) ∧
      s.keeps t [.rep, .pk, .regs, .drawn, .out, .ifl])) ∧
  (∀ (s : State) iseq, s.rep.incidents.find? (fun i => i.iseq == iseq) = none →
    exec (.incidentWindowClose iseq) s = .next s)

/-- An accepted RESET of scope 1 or 2 is answered OK and waits to take effect; of scope 0, with firmware and a
standby pair, it asks for the switchover, else it is answered STATE. A pending reset waits for its reply to
leave and while firmware has write-backs to make. Taken, scope 2 puts every unit but the island back as PORST
does, with the next BOOT_ID and cause 3; scope 1 stops every program, clears the tables and the configuration
and keeps phase, links, stored sets, the repair map, the incidents, of which those of failed sensors end, and
the event log. PORST leaves phase HARDWARE, no firmware, the responder serving, the BOOT_ID given and its cause,
and every general register at its reset value; PORST_L low leaves the same and holds the device. No reset
touches the island, its registers, the flash or the pins' time. -/
def Obligations.ResetsPutTheDeviceBack : Prop :=
  let back (s t : State) (id : Word) (cause : Nat) (held : Bool) : Prop :=
      t.boot.phase = .hardware ∧ t.boot.firmware = false ∧ t.boot.responder = true ∧ t.boot.held = held ∧
      t.boot.flash = s.boot.flash ∧ t.reg BOOT_ID = id ∧ t.fld BOOT_CAUSE 3 0 = cause ∧ t.pg = ProgramUnit.reset ∧
      t.out.streams = Output.reset.streams ∧ t.pk.sessions = PacketUnit.reset.sessions ∧ t.thm = Thermal.reset ∧
      t.mem = MemUnit.reset ∧ t.tim.running = TimeUnit.reset.running ∧ t.tim.safe25 = s.tim.safe25 ∧
      (∀ a, a / 0x10000 = 0xD → t.reg a = s.reg a) ∧
      (∀ a, a / 0x10000 ∈ [0, 1, 2, 3, 4, 7, 8, 9, 0xA, 0xB, 0xC, 0xE] → t.reg a = regReset a) ∧
      t.saf = s.saf ∧ t.time = s.time ∧ t.pending = s.pending ∧ t.sb = s.sb
  (∀ s u o r x, s.accepted (resetOp 1) o r = some (u, x) → r.carries 4 0 1 = true → exec (.resetMeasuringCore o r) s =
    .next (State.answered { u with pk.resetPend := some (1, u.time) } 0xF2 o r x)) ∧
  (∀ s u o r x, s.accepted (resetOp 2) o r = some (u, x) → r.carries 4 0 2 = true → exec (.resetWholeDevice o r) s =
    .next (State.answered { u with pk.resetPend := some (2, u.time) } 0xF2 o r x)) ∧
  (∀ s u o r x, s.accepted (resetOp 0) o r = some (u, x) → r.carries 4 0 0 = true →
    (u.boot.firmware = true → u.rep.standby = true → (∀ m ∈ u.rep.migs, m.kind ≠ 4) →
      exec (.resetFirmwareRestart o r) s = .next (State.answered
        { u with rep.migs := u.rep.migs ++ [(Migration.mk 4 u.rep.active true none u.time u.time u.time false)] } 0xF2 o r x)) ∧
    (u.boot.firmware = false ∨ u.rep.standby = false →
      exec (.resetFirmwareRestart o r) s = .next (u.answeredRefusal 0xF2 o r x STATE 0))) ∧
  (∀ (s : State), s.pk.resetPend = none ∨
      (s.boot.firmware = true ∧ (s.thm.writeback.isEmpty = false ∨ s.rep.mapPend.isSome = true)) ∨
      s.resetUnanswered = true →
    exec .resetTakesEffect s = .next s) ∧
  (∀ (s : State) since, s.pk.resetPend = some (2, since) → s.resetUnanswered = false →
    (s.boot.firmware = false ∨ (s.thm.writeback.isEmpty = true ∧ s.rep.mapPend = none)) →
    ∃ t, exec .resetTakesEffect s = .next t ∧ back s t (s.reg BOOT_ID + 1) 3 false) ∧
  (∀ (s : State) since, s.pk.resetPend = some (1, since) → s.boot.firmware = false → s.resetUnanswered = false →
    let sensor (i : Incident) : Prop := ∃ n, n < 24 ∧ i.key = causeKey 9 1 (0x100 + n)
    ∃ t, exec .resetTakesEffect s = .next t ∧ t.pg = ProgramUnit.reset ∧ t.hen.length = 68 ∧
      t.boot.phase = s.boot.phase ∧ t.boot.flash = s.boot.flash ∧ t.thm.stored = s.thm.stored ∧
      t.rep.map = s.rep.map ∧ t.rep.incidents.map Incident.iseq = s.rep.incidents.map Incident.iseq ∧
      (∀ i ∈ s.rep.incidents, ¬ sensor i → i ∈ t.rep.incidents) ∧ (∀ x ∈ t.thm.sensors, x.failed = false) ∧
      ((∀ i ∈ s.rep.incidents, sensor i → i.state ≠ 1) → t.pk.events = s.pk.events ∧ t.ifl.ports = s.ifl.ports) ∧
      t.pk.rings = s.pk.rings ∧ t.ifl.entries = s.ifl.entries ∧
      t.pk.resetPend = none ∧ t.reg BOOT_ID = s.reg BOOT_ID + 1 ∧ t.fld BOOT_CAUSE 3 0 = 2 ∧
      (∀ n, n < 4 → t.reg (GLB_SCRATCH n) = s.reg (GLB_SCRATCH n)) ∧ s.keeps t
        [.regs, .pk, .pg, .seq, .emt, .cle, .hch, .hen, .wfd, .out, .adm, .tim, .hka, .thm, .rep, .ifl, .boot, .drawn]) ∧
  (∀ (s : State) straps id, ∃ t, exec (.porst true straps id) s = .next t ∧ back s t id 0 false) ∧
  (∀ (s : State) straps id, s.boot.held = true →
    ∃ t, exec (.porst false straps id) s = .next t ∧ back s t id 1 false) ∧
  (∀ (s : State) straps id, s.boot.held = false → exec (.porst false straps id) s = .next s) ∧
  (∀ (s : State), ∃ t, exec .porstLAssert s = .next t ∧ back s t (s.reg BOOT_ID) 1 true)

/-- From the hardware phase without a hold LOADING takes the slot that the boot mode chooses, and firmware serves
from then on; in mode 1, without a valid slot or without a control-core pair that is left the device holds and
the responder goes on. BRINGUP from LOADING starts the time bases. READY from BRINGUP notes its time. In any
other phase each changes nothing, and none of them touches the island. -/
def Obligations.BootPhasesFollow : Prop :=
  (∀ (s : State), s.boot.phase ≠ .hardware ∨ s.boot.held = true → exec .loading s = .next s) ∧
  (∀ (s : State), s.boot.phase = .hardware → s.boot.held = false →
    let mode := s.fld BOOT_CFG 1 0
    let dead (p : Nat) : Prop := ∃ e ∈ s.rep.map, e.kind = 4 ∧ e.failed = p ∧ e.origin ≠ 4
    (mode = 1 ∨ s.chosenSlot mode = none → ∃ t, exec .loading s = .next t ∧ t.boot.phase = .hold ∧
      t.boot.firmware = s.boot.firmware ∧ t.boot.responder = s.boot.responder ∧ s.keeps t [.regs, .boot]) ∧
    (∀ i other, mode ≠ 1 → s.chosenSlot mode = some (i, other) →
      (¬ (dead 0 ∧ dead 1) → ∃ t, exec .loading s = .next t ∧ t.boot.phase = .loading ∧ t.boot.firmware = true ∧
        t.boot.responder = false ∧ t.boot.slot = i ∧ (dead 0 → t.rep.active = 1) ∧ (¬ dead 0 → t.rep.active = 0) ∧
        (t.rep.standby = true ↔ ¬ dead 0 ∧ ¬ dead 1) ∧ s.keeps t [.regs, .boot, .rep, .pk]) ∧
      (dead 0 → dead 1 → ∃ t, exec .loading s = .next t ∧ t.boot.phase = .hold ∧
        t.boot.firmware = s.boot.firmware))) ∧
  (∀ (s : State) b, (s.boot.phase ≠ .loading → exec (.bringup b) s = .next s) ∧
    (s.boot.phase = .loading → ∃ t, exec (.bringup b) s = .next t ∧ t.boot.phase = .bringup ∧ t.tim.running = true ∧
      t.boot.firmware = s.boot.firmware ∧ t.saf = s.saf ∧ t.time = s.time ∧ t.boot.flash = s.boot.flash)) ∧
  (∀ (s : State), (s.boot.phase ≠ .bringup → exec .ready s = .next s) ∧
    (s.boot.phase = .bringup → ∃ t, exec .ready s = .next t ∧ t.boot.phase = .ready ∧ t.boot.readyAt = s.time ∧
      t.saf = s.saf ∧ t.time = s.time ∧ t.boot.flash = s.boot.flash))

/-- An accepted FW_WRITE of a span that is not barred, or by the responder, programs its bytes, erasing first the 64
KB sector on whose boundary it begins: then a byte reads as written, elsewhere only bits at 1 can fall to 0, and
no other byte of the flash changes; of a barred span it is answered STATE. FLASH_READ answers the bytes.
FW_ACTIVATE with a standby pair and none waiting is answered ACCEPTED, with one waiting BUSY. FW_ACTIVATE_DONE
with a standby and a valid slot lets the other pair serve from that slot, else it leaves pair and slot; without
a waiting activation it changes nothing. -/
def Obligations.FlashCommandsComplete : Prop :=
  (∀ s u o r x, s.accepted fwWriteOp o r = some (u, x) →
    let off := field r.payload 0 4
    let d := r.payload.drop 4
    (u.byResponder o = true ∨ u.flashBarred off d.length = false →
      exec (.fwWrite o r) s = .next ((u.flashWrite off d).answered 0xF0 o r x)) ∧
    (u.byResponder o = false → u.flashBarred off d.length = true →
      exec (.fwWrite o r) s = .next (u.answeredRefusal 0xF0 o r x STATE 0))) ∧
  (∀ (s : State) off d, let t := s.flashWrite off d
    (∀ i, i < d.length → Sparse.get erased t.boot.flash (off + i) =
      if off % 65536 = 0 ∧ i < 65536 then nth d i 0 else Sparse.get erased s.boot.flash (off + i) &&& nth d i 0) ∧
    (∀ a, a < off ∨ off + d.length ≤ a → Sparse.get erased t.boot.flash a =
      if off % 65536 = 0 ∧ off ≤ a ∧ a < off + 65536 then 0xFF else Sparse.get erased s.boot.flash a) ∧
    t.boot = { s.boot with flash := t.boot.flash } ∧ s.keeps t [.boot]) ∧
  (∀ s u o r x, s.accepted flashReadOp o r = some (u, x) → exec (.flashRead o r) s = .next (u.answered 0xF3 o r x
    (slice r.payload 0 4 ++ [0, 0, 0, 0] ++ u.flashRead (field r.payload 0 4) (field r.payload 4 4)))) ∧
  (∀ s u o r x, s.accepted fwActivateOp o r = some (u, x) →
    (u.ccSingle = false → u.boot.activate = none → exec (.fwActivate o r) s = .next (State.answeredAccepted
      { u with boot.activate := some (field r.payload 0 1, o, r.sequence) } 0xF1 o r x)) ∧
    (u.ccSingle = false → u.boot.activate ≠ none →
      exec (.fwActivate o r) s = .next (u.answeredRefusal 0xF1 o r x BUSY 0)) ∧
    (u.ccSingle = true → exec (.fwActivate o r) s = .next (u.answeredRefusal 0xF1 o r x STATE 0))) ∧
  (∀ (s : State), s.boot.activate = none → exec .fwActivateDone s = .next s) ∧
  (∀ (s : State) slot o q, s.boot.activate = some (slot, o, q) →
    (s.rep.standby = true → s.slotValid slot = true → ∃ t, exec .fwActivateDone s = .next t ∧ t.boot.slot = slot ∧
      t.rep.active = 1 - s.rep.active ∧ t.rep.standby = true ∧ t.boot.activate = none ∧
      s.keeps t [.thm, .pk, .boot, .rep, .regs, .drawn, .out, .ifl, .adm]) ∧
    (s.rep.standby = false ∨ s.slotValid slot = false → ∃ t, exec .fwActivateDone s = .next t ∧
      t.boot = { s.boot with activate := none } ∧ t.rep = s.rep ∧ s.keepsRegs t [GLB_EVT_SEQ] ∧
      s.keeps t [.boot, .pk, .regs, .out, .ifl]))

/-- A clock that counts as lost already, and the return of one that does not, change nothing. On the loss of REFIN a
device that is no worker runs without its reference and clears its warm-up flag, and of both its reference and
XSYS no shot is committed any more and PWM outputs and SPI slots take their safe states; either return ends
that. A worker's reference is its parent's clock, and REFIN changes nothing in what it commits or drives. Each
other clock is noted as lost until it returns: the PCIe reference takes the PCIe link down, the Ethernet
reference stops the PTP bases, the PLL of a memory channel fails the channel, that of the loops and of
housekeeping their units, a lane its link. -/
def Obligations.ClocksAreLostAndReturn : Prop :=
  (∀ (s : State) c, s.clockLost c = true → exec (.clockLoss c) s = .next s) ∧
  (∀ (s : State) c, s.clockLost c = false → exec (.clockReturn c) s = .next s) ∧
  (∀ (s : State), s.tim.refin = true → ∃ t, exec (.clockLoss .refin) s = .next t ∧ t.tim.refin = false ∧
    (s.role ≠ 2 → t.tim.onRef = false ∧ t.tim.warm = false) ∧
    (s.role ≠ 2 → s.tim.xsys = false → t.seq.clockHold = true ∧ t.cle.spi = [] ∧
      t.cle.pwm = List.replicate 16 (none, none)) ∧
    (s.role = 2 ∨ s.tim.xsys = true → t.seq = s.seq ∧ t.cle = s.cle) ∧
    (s.role = 2 → t.tim.onRef = s.tim.onRef ∧ t.tim.warm = s.tim.warm)) ∧
  (∀ (s : State), s.tim.xsys = true → ∃ t, exec (.clockLoss .xsys) s = .next t ∧ t.tim.xsys = false ∧
    (s.hasRef = false → t.seq.clockHold = true ∧ t.cle.spi = [] ∧ t.cle.pwm = List.replicate 16 (none, none)) ∧
    (s.hasRef = true → t.seq = s.seq ∧ t.cle = s.cle)) ∧
  (∀ (s : State), (s.tim.refin = false → ∃ t, exec (.clockReturn .refin) s = .next t ∧ t.tim.refin = true ∧
      (s.role ≠ 2 → t.seq.clockHold = false) ∧ (s.role = 2 → t.seq = s.seq)) ∧
    (s.tim.xsys = false → ∃ t, exec (.clockReturn .xsys) s = .next t ∧ t.tim.xsys = true ∧ t.seq.clockHold = false)) ∧
  (∀ (s : State) c, s.clockLost c = false → c ≠ .refin → c ≠ .xsys → c ≠ .xsi →
    ∃ t, exec (.clockLoss c) s = .next t ∧ t.tim.lost = c :: s.tim.lost ∧
      (c = .pcieRefclk → t.out.pcieUp = false) ∧ (c = .clePll → t.cle.pllLost = true) ∧
      (c = .hkaPll → t.hka.pllLost = true) ∧
      (c = .ethRefclk → t.tim.ptp = s.tim.ptp.map fun b => { b with counting := false, stopped := true }) ∧
      (∀ n : Fin 2, c = .dramPll n → n.val < s.mem.chans.length → (t.dramChan n).failed = true) ∧
      (∀ p : Fin 4, c = .iflLane p → p.val < s.ifl.ports.length → (t.port p).locked = false)) ∧
  (∀ (s : State) c, s.clockLost c = true → c ≠ .refin → c ≠ .xsys → c ≠ .xsi →
    ∃ t, exec (.clockReturn c) s = .next t ∧ t.tim.lost = s.tim.lost.erase c ∧
      (c = .clePll → t.cle.pllLost = false) ∧ (c = .hkaPll → t.hka.pllLost = false) ∧
      (c = .ethRefclk → t.tim.ptp = s.tim.ptp.map fun b => b.setCounting s.tim.running) ∧
      (∀ n, (t.dramChan n).failed = (s.dramChan n).failed)) ∧
  (∀ (s : State), s.clockLost .xsi = false → s.islandOn = true → ∃ t, exec (.clockLoss .xsi) s = .next t ∧
    t.tim.lost = .xsi :: s.tim.lost ∧ bit t.saf.faults.toNat 10 = true ∧
    t.saf.outs = [false, false, false, false]) ∧
  (∀ (s : State), s.clockLost .xsi = true →
    exec (.clockReturn .xsi) s = .next { s with tim.lost := s.tim.lost.erase .xsi })

/-- For every command c and every state with c at the front of its queue, the step is exec of c on that state with
the queue's rest. On an empty queue the step is one tick: the time advances by one and the queue stays empty
(the model's own choice, assumption log entry 1). Every command answers a next state from every state: no
command of the table is refused or faults. -/
def Obligations.StepTakesTheFrontCommand : Prop :=
  (∀ (s : State) c rest, s.pending = c :: rest → step s = exec c { s with pending := rest }) ∧
  (∀ (s : State), s.pending = [] → ∃ t, step s = .next t ∧ t.time = s.time + 1 ∧ t.pending = []) ∧
  (∀ c s, ∃ t, exec c s = .next t)

/-- For every packet row of the table and every well-formed request, with every header field at every value, reading
the packet's bytes gives the packet back, with version 1, and from it the request. Bytes that read as a packet
of version 1 are that packet's bytes. The trailer is the CRC-32C of header and payload, stored little-endian:
with any other trailer the bytes read as a packet with a wrong CRC. The CRC goes through the bytes from the
least significant bit with the reflected polynomial 0x1EDC_6F41, from the initial value 0xFFFF_FFFF to the final
XOR of 0xFFFF_FFFF, and of the string 123456789 it is 0xE306_9283. -/
def Obligations.PacketBytesReadBack : Prop :=
  let reflected : Word := (0x1EDC6F41#32).reverse
  let once (c : Word) : Word := if c.getLsbD 0 = true then (c >>> 1) ^^^ reflected else c >>> 1
  let byte (c : Word) (b : Byte) : Word := (List.range 8).foldl (fun x _ => once x) (c ^^^ b.setWidth 32)
  (∀ (i : Instr) o op r, i.wf = true → i.sent = some (o, op, r) →
    parsePacket (r.packet op.toNat).bytes = .packet 1 (r.packet op.toNat) ∧ (r.packet op.toNat).request = r) ∧
  (∀ (p : Packet), p.payload.length ≤ 4080 → p.bytes.length = 20 + p.payload.length ∧
    p.bytes.drop (16 + p.payload.length) = leBytes 4 (crc32c (p.bytes.take (16 + p.payload.length))).toNat ∧
    parsePacket p.bytes = .packet 1 p ∧
    ∀ w, w ≠ p.crc → parsePacket (p.bytes.take (16 + p.payload.length) ++ leBytes 4 w.toNat) = .crc p) ∧
  (∀ l p, parsePacket l = .packet 1 p → l = p.bytes) ∧
  (∀ l, crc32c l = (l.foldl byte 0xFFFFFFFF#32) ^^^ 0xFFFFFFFF#32) ∧
  crc32c [0x31, 0x32, 0x33, 0x34, 0x35, 0x36, 0x37, 0x38, 0x39] = 0xE3069283#32

/-- Every packet row runs the serving of its opcode. Where the origin takes nothing, nothing changes; a packet that
cannot be taken now waits in its queue, which the model bounds for UDP and the links. A cached sequence is
answered from the cache, or SEQ_CONFLICT when the packet differs, and a stale one SEQ_STALE with the newest. Up
to its checks a packet changes the packet unit only. The first failing check answers, without the opcode's
effect; only a commit refused by CAS drops what is staged. Ended, a packet of a +1 opcode with status OK moves
GEN by 1 and any other leaves it, but for a submission with MORE; the session keeps its reply, with no more than
the 15 before it; and only the generation's register, the packet unit, the journal, the output and the links
change. -/
def Obligations.RepliesFollowTheChecks : Prop :=
  (∀ (i : Instr) o op r s, i.sent = some (o, op, r) →
    (∃ x : OpSpec, x.opcode = op.toNat ∧ exec i s = .next (s.serve x o r)) ∨
      (i = .packetForward o op r ∧ exec i s = .next s)) ∧
  (∀ (s : State) op o r, s.deaf o = true → s.serve op o r = s) ∧
  (∀ (s : State) op o r, s.deaf o = false → s.taken o (.packet (r.packet op.opcode)) = none →
    s.serve op o r = if s.waits o (.packet (r.packet op.opcode)) = true then s
      else s.enqueue o (.packet (r.packet op.opcode))) ∧
  (∀ (s : State) (op : OpSpec) o r e t u y, s.deaf o = false → s.taken o (.packet (r.packet op.opcode)) = some (e, t) →
    bit r.flags.toNat 0 = false → bit r.flags.toNat 6 = false → t.ensureSession o = some u →
    r.target.toNat / 16 = u.ifl.dev → u.session o = some y →
    (∀ x, y.cache.find? (fun z => z.sequence == r.sequence) = some x →
      (x.crc = (r.packet op.opcode).crc → x.quiet = true → s.serve op o r = u) ∧
      (x.crc = (r.packet op.opcode).crc → x.quiet = false →
        s.serve op o r = u.sendTo o (e + classBound r.cls) x.reply) ∧
      (x.crc ≠ (r.packet op.opcode).crc → s.serve op o r = u.answer o (r.packet op.opcode) e SEQ_CONFLICT 0)) ∧
    (∀ n, (∀ z ∈ y.cache, z.sequence ≠ r.sequence) → y.newest = some n → 32768 ≤ (r.sequence - n).toNat →
      s.serve op o r = u.answer o (r.packet op.opcode) e SEQ_STALE n.toNat)) ∧
  (∀ (s : State) op o r u e, s.arrived op o r = some (u, e) → s.keeps u [.pk] ∧
    ∃ y, u.session o = some y ∧ y.newest = some r.sequence) ∧
  (∀ (s u : State) op o r e x, s.arrived op.opcode o r = some (u, e) →
    firstFail [u.opChecks op o (r.packet op.opcode), u.stateChecks op (r.packet op.opcode) e] = some x →
    let v := if x.1 = GEN_MISMATCH ∧ (r.packet op.opcode).commits = true then u.setStage o none else u
    s.serve op o r = v.answeredRefusal op.opcode o r e x.1 x.2) ∧
  (∀ (s : State) o (p : Packet) e st dt pl y, s.session o = some y →
    let t := s.finish o p e st dt pl
    t.gen = (if gensUp p.opcode.toNat = true ∧ st = OK ∧ ¬ (p.opcode = 0x20 ∧ bit p.flags.toNat 5 = true)
      then s.gen + 1 else s.gen) ∧
    (p.opcode ≠ 0x04 → ∃ z, t.session o = some z ∧ z.cache.length ≤ 16 ∧ z.newest = y.newest ∧
      (∃ x, z.cache.head? = some x ∧ x.sequence = p.sequence ∧ x.crc = p.crc ∧ x.reply = p.reply t.gen st dt pl) ∧
      z.cache.tail = y.cache.take (if s.byResponder o = true then 0 else 15)) ∧
    s.keepsRegs t [GLB_CFG_GEN] ∧ s.keeps t [.regs, .pk, .rep, .out, .ifl])

/-- The register at address 0x0000_0004, all its 32 bits, is the generation: a read of it answers the generation, a
write of any value leaves it. It is 0 after reset. A configuration change advances it by 1 and nothing else;
from 0xFFFF_FFFF it wraps to 0 and its wrap is noted, which COUNTER_WRAP then reports, with the TB_SYS time of
the wrap, to the sessions whose masks select class 8. -/
def Obligations.GenerationCountsChanges : Prop :=
  GLB_CFG_GEN = 0x00000004 ∧ State.reset.gen = 0 ∧
  (∀ (s : State), s.reg 0x00000004 = s.gen ∧ (s.readReg 0x00000004).1 = s.gen.toNat) ∧
  (∀ (s : State) v, (s.writeRegs [(0x00000004, v)]).gen = s.gen) ∧
  (∀ (s : State), s.bumpGen.gen = s.gen + 1 ∧ s.keepsRegs s.bumpGen [0x00000004] ∧
    (s.gen ≠ 0xFFFFFFFF → s.keeps s.bumpGen [.regs]) ∧
    (s.gen = 0xFFFFFFFF → s.bumpGen.gen = 0 ∧ s.keeps s.bumpGen [.regs, .pk] ∧
      s.bumpGen.pk = { s.pk with wraps := s.pk.wraps ++ [{ unit := 0, window := 0, offset := 4, width := 32, at_ := s.sysNs }] })) ∧
  (∀ (s : State) w rest, s.pk.wraps = w :: rest → s.reg GLB_EVT_SEQ ≠ 0xFFFFFFFF → ∃ t, exec .counterWrap s = .next t ∧ t.pk.wraps = rest ∧
    ∃ e, t.pk.events.head? = some e ∧ field e.payload 5 1 = 8 ∧ field e.payload 6 1 = w.unit.toNat ∧
      field e.payload 8 8 = w.at_ % 2 ^ 64)

/-- The flash is a list of the bytes that differ from FFh, in strictly rising order of their addresses, so that
equal contents are equal data. For every state whose flash has this form, whatever command stands at the front
of the queue, and on the tick of an empty queue, the state after a step has it again: writes and erasures, the
write-backs of calibration sets, the repair map and the reports keep the form, and every other command leaves
the flash alone or goes through them. -/
def Obligations.FlashKeepsItsForm : Prop :=
  ∀ (s t : State), Sparse.wf erased s.boot.flash = true → step s = .next t → Sparse.wf erased t.boot.flash = true

/-- The reset state is in phase HARDWARE without firmware, with the responder serving MSPI. No command waits. Every
register reads as its reset value: the generation is 0, and GLB_IDENT, as read, names the part NRX-512 of
variant 0x2, revision letter B and digit 1 (the variant is the model's choice, assumption log entry 3). Every
store has its canonical form, the flash among them, which FlashKeepsItsForm asks for. No program is present, no
incident is open, no output of the island is on, and the laser enables are low. -/
def Obligations.ResetStateIsSound : Prop :=
  State.reset.boot.phase = .hardware ∧ State.reset.boot.firmware = false ∧ State.reset.boot.responder = true ∧
  State.reset.pending = [] ∧ (∀ a, State.reset.reg a = regReset a) ∧ State.reset.gen = 0 ∧
  State.reset.view GLB_IDENT = 0x51224201 ∧ State.reset.wf = true ∧ Sparse.wf erased State.reset.boot.flash = true ∧
  (∀ pid, State.reset.prog pid = none) ∧ State.reset.rep.incidents = [] ∧ State.reset.pk.ingress = [] ∧
  (∀ b ∈ State.reset.saf.outs, b = false) ∧ (∀ b ∈ State.reset.saf.pads, b = false)
end

