-- ==== Sys2Proof/Laws/Sparse.lean ====
section
/-!
SUPPORT. The sparse store: reads after writes, and that every operation keeps the canonical form.
-/
namespace Sys2Proof.Machine.Sparse

variable {β : Type} {d : Nat → β}

/-! Reads (02 R52). -/

theorem get_put (m : List (Nat × β)) (a b : Nat) (v : β) (h : ∀ p ∈ m, p.1 ≠ a) :
    get d (put a v m) b = if b = a then v else get d m b := by
  induction m with
  | nil => simp [put, get]
  | cons p t ih =>
    have hp : p.1 ≠ a := h p (by simp)
    have ih := ih fun q hq => h q (by simp [hq])
    simp only [put]
    split
    · simp [get]
    · simp only [get, ih]
      split
      · rename_i hb
        rw [if_neg (by rw [hb]; exact hp)]
      · rfl

theorem get_filter (m : List (Nat × β)) (f : Nat → Bool) (a : Nat) :
    get d (m.filter fun p => f p.1) a = if f a = true then get d m a else d a := by
  induction m with
  | nil => simp [get]
  | cons p t ih =>
    obtain ⟨k, x⟩ := p
    simp only [List.filter_cons]
    split
    · simp only [get, ih]
      split
      · rename_i hf ha; rw [if_pos (by rw [ha]; exact hf)]
      · rfl
    · rename_i hf
      simp only [get, ih]
      split
      · rename_i hfa
        rw [if_neg (fun ha => hf (by rw [← ha]; exact hfa))]
      · rfl

/-- A write is read back at its address, and leaves every other address alone. -/
theorem get_set [DecidableEq β] (m : List (Nat × β)) (a b : Nat) (v : β) :
    get d (set d m a v) b = if b = a then v else get d m b := by
  simp only [set]
  split
  · rename_i hv
    rw [get_filter (f := fun k => k != a)]
    by_cases hb : b = a
    · simp [hb, hv]
    · simp [hb]
  · rw [get_put]
    · rw [get_filter (f := fun k => k != a)]
      by_cases hb : b = a
      · simp [hb]
      · simp [hb]
    · intro p hp
      simpa using (List.mem_filter.1 hp).2

@[simp] theorem get_set_self [DecidableEq β] (m : List (Nat × β)) (a : Nat) (v : β) : get d (set d m a v) a = v := by
  rw [get_set, if_pos rfl]

theorem get_set_other [DecidableEq β] (m : List (Nat × β)) {a b : Nat} (v : β) (h : b ≠ a) :
    get d (set d m a v) b = get d m b := by
  rw [get_set, if_neg h]

/-- A run of writes leaves every address outside it alone. -/
theorem get_setMany_out [DecidableEq β] (l : List β) (m : List (Nat × β)) (a b : Nat)
    (h : b < a ∨ a + l.length ≤ b) : get d (setMany d m a l) b = get d m b := by
  induction l generalizing m a with
  | nil => rfl
  | cons v t ih =>
    simp only [List.length_cons] at h
    rw [setMany, ih _ _ (by omega), get_set_other _ _ (by omega)]

/-- A run of writes is read back. -/
theorem get_setMany_in [DecidableEq β] (l : List β) (m : List (Nat × β)) (a i : Nat) (h : i < l.length) :
    get d (setMany d m a l) (a + i) = l[i] := by
  induction l generalizing m a i with
  | nil => simp at h
  | cons v t ih =>
    rw [setMany]
    cases i with
    | zero => rw [get_setMany_out _ _ _ _ (by omega)]; simp
    | succ j =>
      have := ih (set d m a v) (a + 1) j (by simpa using h)
      rw [show a + (j + 1) = a + 1 + j by omega, this]
      rfl

/-- What a run of writes stored reads back as one. -/
theorem getMany_setMany [DecidableEq β] (l : List β) (m : List (Nat × β)) (a : Nat) :
    getMany d (setMany d m a l) a l.length = l := by
  apply List.ext_getElem
  · simp [getMany]
  · intro i h1 h2
    simp only [getMany, List.getElem_map, List.getElem_range]
    exact get_setMany_in _ _ _ _ h2

/-- A cleared range reads as unlisted, and no other address changes. -/
theorem get_clear (m : List (Nat × β)) (lo n a : Nat) :
    get d (clear m lo n) a = if lo ≤ a ∧ a < lo + n then d a else get d m a := by
  rw [clear, get_filter (f := fun k => k < lo || lo + n ≤ k)]
  simp only [Bool.or_eq_true, decide_eq_true_eq]
  by_cases h : lo ≤ a ∧ a < lo + n
  · rw [if_pos h, if_neg (by omega)]
  · rw [if_neg h, if_pos (by omega)]

/-! The canonical form. -/

theorem wfAbove_mono [DecidableEq β] {lo lo' : Nat} (m : List (Nat × β)) (h : lo' ≤ lo)
    (hm : wfAbove d lo m = true) : wfAbove d lo' m = true := by
  cases m with
  | nil => rfl
  | cons p t =>
    simp only [wfAbove, Bool.and_eq_true, decide_eq_true_eq] at hm ⊢
    exact ⟨⟨by omega, hm.1.2⟩, hm.2⟩

theorem wfAbove_filter [DecidableEq β] (f : Nat × β → Bool) (m : List (Nat × β)) (lo : Nat)
    (hm : wfAbove d lo m = true) : wfAbove d lo (m.filter f) = true := by
  induction m generalizing lo with
  | nil => rfl
  | cons p t ih =>
    simp only [wfAbove, Bool.and_eq_true, decide_eq_true_eq] at hm
    simp only [List.filter_cons]
    split
    · simp only [wfAbove, Bool.and_eq_true, decide_eq_true_eq]
      exact ⟨hm.1, ih _ hm.2⟩
    · exact wfAbove_mono _ (by omega) (ih _ hm.2)

theorem wfAbove_put [DecidableEq β] (m : List (Nat × β)) (lo a : Nat) (v : β) (hm : wfAbove d lo m = true)
    (ha : lo ≤ a) (hv : v ≠ d a) (h : ∀ p ∈ m, p.1 ≠ a) : wfAbove d lo (put a v m) = true := by
  induction m generalizing lo with
  | nil => simp [put, wfAbove, ha, hv]
  | cons p t ih =>
    have hp : p.1 ≠ a := h p (by simp)
    simp only [wfAbove, Bool.and_eq_true, decide_eq_true_eq] at hm
    simp only [put]
    split
    · simp only [wfAbove, Bool.and_eq_true, decide_eq_true_eq]
      exact ⟨⟨ha, hv⟩, ⟨by omega, hm.1.2⟩, hm.2⟩
    · simp only [wfAbove, Bool.and_eq_true, decide_eq_true_eq]
      exact ⟨hm.1, ih _ hm.2 (by omega) fun q hq => h q (by simp [hq])⟩

/-- A write keeps the canonical form. -/
theorem wf_set [DecidableEq β] (m : List (Nat × β)) (a : Nat) (v : β) (hm : wf d m = true) :
    wf d (set d m a v) = true := by
  simp only [wf, set] at *
  split
  · exact wfAbove_filter _ _ _ hm
  · rename_i hv
    refine wfAbove_put _ _ _ _ (wfAbove_filter _ _ _ hm) (by omega) hv ?_
    intro p hp
    simpa using (List.mem_filter.1 hp).2

/-- A run of writes keeps it. -/
theorem wf_setMany [DecidableEq β] (l : List β) (m : List (Nat × β)) (a : Nat) (hm : wf d m = true) :
    wf d (setMany d m a l) = true := by
  induction l generalizing m a with
  | nil => exact hm
  | cons v t ih => exact ih _ _ (wf_set _ _ _ hm)

/-- Clearing a range keeps it. -/
theorem wf_clear [DecidableEq β] (m : List (Nat × β)) (lo n : Nat) (hm : wf d m = true) :
    wf d (clear m lo n) = true := wfAbove_filter _ _ _ hm

end Sys2Proof.Machine.Sparse
end

