-- ==== Sys2Proof/Laws/State.lean ====
section
/-!
SUPPORT. What each named update of the state leaves: one lemma for each part that it does not touch.
-/
namespace Sys2Proof.Machine

/-! setReg changes regs only. -/

section
variable (s : State) (a : Nat) (v : Word)
@[simp] theorem State.setReg_pending : (s.setReg a v).pending = s.pending := rfl
@[simp] theorem State.setReg_time : (s.setReg a v).time = s.time := rfl
@[simp] theorem State.setReg_drawn : (s.setReg a v).drawn = s.drawn := rfl
@[simp] theorem State.setReg_sb : (s.setReg a v).sb = s.sb := rfl
@[simp] theorem State.setReg_pk : (s.setReg a v).pk = s.pk := rfl
@[simp] theorem State.setReg_pg : (s.setReg a v).pg = s.pg := rfl
@[simp] theorem State.setReg_seq : (s.setReg a v).seq = s.seq := rfl
@[simp] theorem State.setReg_emt : (s.setReg a v).emt = s.emt := rfl
@[simp] theorem State.setReg_cle : (s.setReg a v).cle = s.cle := rfl
@[simp] theorem State.setReg_hch : (s.setReg a v).hch = s.hch := rfl
@[simp] theorem State.setReg_hen : (s.setReg a v).hen = s.hen := rfl
@[simp] theorem State.setReg_wfd : (s.setReg a v).wfd = s.wfd := rfl
@[simp] theorem State.setReg_out : (s.setReg a v).out = s.out := rfl
@[simp] theorem State.setReg_adm : (s.setReg a v).adm = s.adm := rfl
@[simp] theorem State.setReg_tim : (s.setReg a v).tim = s.tim := rfl
@[simp] theorem State.setReg_hka : (s.setReg a v).hka = s.hka := rfl
@[simp] theorem State.setReg_thm : (s.setReg a v).thm = s.thm := rfl
@[simp] theorem State.setReg_mem : (s.setReg a v).mem = s.mem := rfl
@[simp] theorem State.setReg_saf : (s.setReg a v).saf = s.saf := rfl
@[simp] theorem State.setReg_rep : (s.setReg a v).rep = s.rep := rfl
@[simp] theorem State.setReg_ifl : (s.setReg a v).ifl = s.ifl := rfl
@[simp] theorem State.setReg_boot : (s.setReg a v).boot = s.boot := rfl
end

/-! setRegN changes regs only. -/

section
variable (s : State) (a v : Nat)
@[simp] theorem State.setRegN_pending : (s.setRegN a v).pending = s.pending := rfl
@[simp] theorem State.setRegN_time : (s.setRegN a v).time = s.time := rfl
@[simp] theorem State.setRegN_drawn : (s.setRegN a v).drawn = s.drawn := rfl
@[simp] theorem State.setRegN_sb : (s.setRegN a v).sb = s.sb := rfl
@[simp] theorem State.setRegN_pk : (s.setRegN a v).pk = s.pk := rfl
@[simp] theorem State.setRegN_pg : (s.setRegN a v).pg = s.pg := rfl
@[simp] theorem State.setRegN_seq : (s.setRegN a v).seq = s.seq := rfl
@[simp] theorem State.setRegN_emt : (s.setRegN a v).emt = s.emt := rfl
@[simp] theorem State.setRegN_cle : (s.setRegN a v).cle = s.cle := rfl
@[simp] theorem State.setRegN_hch : (s.setRegN a v).hch = s.hch := rfl
@[simp] theorem State.setRegN_hen : (s.setRegN a v).hen = s.hen := rfl
@[simp] theorem State.setRegN_wfd : (s.setRegN a v).wfd = s.wfd := rfl
@[simp] theorem State.setRegN_out : (s.setRegN a v).out = s.out := rfl
@[simp] theorem State.setRegN_adm : (s.setRegN a v).adm = s.adm := rfl
@[simp] theorem State.setRegN_tim : (s.setRegN a v).tim = s.tim := rfl
@[simp] theorem State.setRegN_hka : (s.setRegN a v).hka = s.hka := rfl
@[simp] theorem State.setRegN_thm : (s.setRegN a v).thm = s.thm := rfl
@[simp] theorem State.setRegN_mem : (s.setRegN a v).mem = s.mem := rfl
@[simp] theorem State.setRegN_saf : (s.setRegN a v).saf = s.saf := rfl
@[simp] theorem State.setRegN_rep : (s.setRegN a v).rep = s.rep := rfl
@[simp] theorem State.setRegN_ifl : (s.setRegN a v).ifl = s.ifl := rfl
@[simp] theorem State.setRegN_boot : (s.setRegN a v).boot = s.boot := rfl
end

/-! latch changes regs only. -/

section
variable (s : State) (a m : Nat)
@[simp] theorem State.latch_pending : (s.latch a m).pending = s.pending := rfl
@[simp] theorem State.latch_time : (s.latch a m).time = s.time := rfl
@[simp] theorem State.latch_drawn : (s.latch a m).drawn = s.drawn := rfl
@[simp] theorem State.latch_sb : (s.latch a m).sb = s.sb := rfl
@[simp] theorem State.latch_pk : (s.latch a m).pk = s.pk := rfl
@[simp] theorem State.latch_pg : (s.latch a m).pg = s.pg := rfl
@[simp] theorem State.latch_seq : (s.latch a m).seq = s.seq := rfl
@[simp] theorem State.latch_emt : (s.latch a m).emt = s.emt := rfl
@[simp] theorem State.latch_cle : (s.latch a m).cle = s.cle := rfl
@[simp] theorem State.latch_hch : (s.latch a m).hch = s.hch := rfl
@[simp] theorem State.latch_hen : (s.latch a m).hen = s.hen := rfl
@[simp] theorem State.latch_wfd : (s.latch a m).wfd = s.wfd := rfl
@[simp] theorem State.latch_out : (s.latch a m).out = s.out := rfl
@[simp] theorem State.latch_adm : (s.latch a m).adm = s.adm := rfl
@[simp] theorem State.latch_tim : (s.latch a m).tim = s.tim := rfl
@[simp] theorem State.latch_hka : (s.latch a m).hka = s.hka := rfl
@[simp] theorem State.latch_thm : (s.latch a m).thm = s.thm := rfl
@[simp] theorem State.latch_mem : (s.latch a m).mem = s.mem := rfl
@[simp] theorem State.latch_saf : (s.latch a m).saf = s.saf := rfl
@[simp] theorem State.latch_rep : (s.latch a m).rep = s.rep := rfl
@[simp] theorem State.latch_ifl : (s.latch a m).ifl = s.ifl := rfl
@[simp] theorem State.latch_boot : (s.latch a m).boot = s.boot := rfl
end

/-! unlatch changes regs only. -/

section
variable (s : State) (a m : Nat)
@[simp] theorem State.unlatch_pending : (s.unlatch a m).pending = s.pending := rfl
@[simp] theorem State.unlatch_time : (s.unlatch a m).time = s.time := rfl
@[simp] theorem State.unlatch_drawn : (s.unlatch a m).drawn = s.drawn := rfl
@[simp] theorem State.unlatch_sb : (s.unlatch a m).sb = s.sb := rfl
@[simp] theorem State.unlatch_pk : (s.unlatch a m).pk = s.pk := rfl
@[simp] theorem State.unlatch_pg : (s.unlatch a m).pg = s.pg := rfl
@[simp] theorem State.unlatch_seq : (s.unlatch a m).seq = s.seq := rfl
@[simp] theorem State.unlatch_emt : (s.unlatch a m).emt = s.emt := rfl
@[simp] theorem State.unlatch_cle : (s.unlatch a m).cle = s.cle := rfl
@[simp] theorem State.unlatch_hch : (s.unlatch a m).hch = s.hch := rfl
@[simp] theorem State.unlatch_hen : (s.unlatch a m).hen = s.hen := rfl
@[simp] theorem State.unlatch_wfd : (s.unlatch a m).wfd = s.wfd := rfl
@[simp] theorem State.unlatch_out : (s.unlatch a m).out = s.out := rfl
@[simp] theorem State.unlatch_adm : (s.unlatch a m).adm = s.adm := rfl
@[simp] theorem State.unlatch_tim : (s.unlatch a m).tim = s.tim := rfl
@[simp] theorem State.unlatch_hka : (s.unlatch a m).hka = s.hka := rfl
@[simp] theorem State.unlatch_thm : (s.unlatch a m).thm = s.thm := rfl
@[simp] theorem State.unlatch_mem : (s.unlatch a m).mem = s.mem := rfl
@[simp] theorem State.unlatch_saf : (s.unlatch a m).saf = s.saf := rfl
@[simp] theorem State.unlatch_rep : (s.unlatch a m).rep = s.rep := rfl
@[simp] theorem State.unlatch_ifl : (s.unlatch a m).ifl = s.ifl := rfl
@[simp] theorem State.unlatch_boot : (s.unlatch a m).boot = s.boot := rfl
end

/-! noteWrap changes pk only. -/

section
variable (s : State) (u w o n : Nat)
@[simp] theorem State.noteWrap_pending : (s.noteWrap u w o n).pending = s.pending := rfl
@[simp] theorem State.noteWrap_time : (s.noteWrap u w o n).time = s.time := rfl
@[simp] theorem State.noteWrap_drawn : (s.noteWrap u w o n).drawn = s.drawn := rfl
@[simp] theorem State.noteWrap_sb : (s.noteWrap u w o n).sb = s.sb := rfl
@[simp] theorem State.noteWrap_regs : (s.noteWrap u w o n).regs = s.regs := rfl
@[simp] theorem State.noteWrap_pg : (s.noteWrap u w o n).pg = s.pg := rfl
@[simp] theorem State.noteWrap_seq : (s.noteWrap u w o n).seq = s.seq := rfl
@[simp] theorem State.noteWrap_emt : (s.noteWrap u w o n).emt = s.emt := rfl
@[simp] theorem State.noteWrap_cle : (s.noteWrap u w o n).cle = s.cle := rfl
@[simp] theorem State.noteWrap_hch : (s.noteWrap u w o n).hch = s.hch := rfl
@[simp] theorem State.noteWrap_hen : (s.noteWrap u w o n).hen = s.hen := rfl
@[simp] theorem State.noteWrap_wfd : (s.noteWrap u w o n).wfd = s.wfd := rfl
@[simp] theorem State.noteWrap_out : (s.noteWrap u w o n).out = s.out := rfl
@[simp] theorem State.noteWrap_adm : (s.noteWrap u w o n).adm = s.adm := rfl
@[simp] theorem State.noteWrap_tim : (s.noteWrap u w o n).tim = s.tim := rfl
@[simp] theorem State.noteWrap_hka : (s.noteWrap u w o n).hka = s.hka := rfl
@[simp] theorem State.noteWrap_thm : (s.noteWrap u w o n).thm = s.thm := rfl
@[simp] theorem State.noteWrap_mem : (s.noteWrap u w o n).mem = s.mem := rfl
@[simp] theorem State.noteWrap_saf : (s.noteWrap u w o n).saf = s.saf := rfl
@[simp] theorem State.noteWrap_rep : (s.noteWrap u w o n).rep = s.rep := rfl
@[simp] theorem State.noteWrap_ifl : (s.noteWrap u w o n).ifl = s.ifl := rfl
@[simp] theorem State.noteWrap_boot : (s.noteWrap u w o n).boot = s.boot := rfl
end

/-! setSession changes pk only. -/

section
variable (s : State) (o : Origin) (f : Session → Session)
@[simp] theorem State.setSession_pending : (s.setSession o f).pending = s.pending := rfl
@[simp] theorem State.setSession_time : (s.setSession o f).time = s.time := rfl
@[simp] theorem State.setSession_drawn : (s.setSession o f).drawn = s.drawn := rfl
@[simp] theorem State.setSession_sb : (s.setSession o f).sb = s.sb := rfl
@[simp] theorem State.setSession_regs : (s.setSession o f).regs = s.regs := rfl
@[simp] theorem State.setSession_pg : (s.setSession o f).pg = s.pg := rfl
@[simp] theorem State.setSession_seq : (s.setSession o f).seq = s.seq := rfl
@[simp] theorem State.setSession_emt : (s.setSession o f).emt = s.emt := rfl
@[simp] theorem State.setSession_cle : (s.setSession o f).cle = s.cle := rfl
@[simp] theorem State.setSession_hch : (s.setSession o f).hch = s.hch := rfl
@[simp] theorem State.setSession_hen : (s.setSession o f).hen = s.hen := rfl
@[simp] theorem State.setSession_wfd : (s.setSession o f).wfd = s.wfd := rfl
@[simp] theorem State.setSession_out : (s.setSession o f).out = s.out := rfl
@[simp] theorem State.setSession_adm : (s.setSession o f).adm = s.adm := rfl
@[simp] theorem State.setSession_tim : (s.setSession o f).tim = s.tim := rfl
@[simp] theorem State.setSession_hka : (s.setSession o f).hka = s.hka := rfl
@[simp] theorem State.setSession_thm : (s.setSession o f).thm = s.thm := rfl
@[simp] theorem State.setSession_mem : (s.setSession o f).mem = s.mem := rfl
@[simp] theorem State.setSession_saf : (s.setSession o f).saf = s.saf := rfl
@[simp] theorem State.setSession_rep : (s.setSession o f).rep = s.rep := rfl
@[simp] theorem State.setSession_ifl : (s.setSession o f).ifl = s.ifl := rfl
@[simp] theorem State.setSession_boot : (s.setSession o f).boot = s.boot := rfl
end

/-! linkSend changes ifl, and pk where the frame sequence wraps, only. -/

section
variable (s : State) (q k d : Nat) (x : Byte) (l : List Byte)
@[simp] theorem State.linkSend_pending : (s.linkSend q k d x l).pending = s.pending := by
  simp only [State.linkSend]; split <;> rfl
@[simp] theorem State.linkSend_time : (s.linkSend q k d x l).time = s.time := by
  simp only [State.linkSend]; split <;> rfl
@[simp] theorem State.linkSend_drawn : (s.linkSend q k d x l).drawn = s.drawn := by
  simp only [State.linkSend]; split <;> rfl
@[simp] theorem State.linkSend_sb : (s.linkSend q k d x l).sb = s.sb := by
  simp only [State.linkSend]; split <;> rfl
@[simp] theorem State.linkSend_regs : (s.linkSend q k d x l).regs = s.regs := by
  simp only [State.linkSend]; split <;> rfl
@[simp] theorem State.linkSend_pg : (s.linkSend q k d x l).pg = s.pg := by
  simp only [State.linkSend]; split <;> rfl
@[simp] theorem State.linkSend_seq : (s.linkSend q k d x l).seq = s.seq := by
  simp only [State.linkSend]; split <;> rfl
@[simp] theorem State.linkSend_emt : (s.linkSend q k d x l).emt = s.emt := by
  simp only [State.linkSend]; split <;> rfl
@[simp] theorem State.linkSend_cle : (s.linkSend q k d x l).cle = s.cle := by
  simp only [State.linkSend]; split <;> rfl
@[simp] theorem State.linkSend_hch : (s.linkSend q k d x l).hch = s.hch := by
  simp only [State.linkSend]; split <;> rfl
@[simp] theorem State.linkSend_hen : (s.linkSend q k d x l).hen = s.hen := by
  simp only [State.linkSend]; split <;> rfl
@[simp] theorem State.linkSend_wfd : (s.linkSend q k d x l).wfd = s.wfd := by
  simp only [State.linkSend]; split <;> rfl
@[simp] theorem State.linkSend_out : (s.linkSend q k d x l).out = s.out := by
  simp only [State.linkSend]; split <;> rfl
@[simp] theorem State.linkSend_adm : (s.linkSend q k d x l).adm = s.adm := by
  simp only [State.linkSend]; split <;> rfl
@[simp] theorem State.linkSend_tim : (s.linkSend q k d x l).tim = s.tim := by
  simp only [State.linkSend]; split <;> rfl
@[simp] theorem State.linkSend_hka : (s.linkSend q k d x l).hka = s.hka := by
  simp only [State.linkSend]; split <;> rfl
@[simp] theorem State.linkSend_thm : (s.linkSend q k d x l).thm = s.thm := by
  simp only [State.linkSend]; split <;> rfl
@[simp] theorem State.linkSend_mem : (s.linkSend q k d x l).mem = s.mem := by
  simp only [State.linkSend]; split <;> rfl
@[simp] theorem State.linkSend_saf : (s.linkSend q k d x l).saf = s.saf := by
  simp only [State.linkSend]; split <;> rfl
@[simp] theorem State.linkSend_rep : (s.linkSend q k d x l).rep = s.rep := by
  simp only [State.linkSend]; split <;> rfl
@[simp] theorem State.linkSend_boot : (s.linkSend q k d x l).boot = s.boot := by
  simp only [State.linkSend]; split <;> rfl
end

/-! setProg changes pg only. -/

section
variable (s : State) (n : Nat) (f : Prog → Prog)
@[simp] theorem State.setProg_pending : (s.setProg n f).pending = s.pending := rfl
@[simp] theorem State.setProg_time : (s.setProg n f).time = s.time := rfl
@[simp] theorem State.setProg_drawn : (s.setProg n f).drawn = s.drawn := rfl
@[simp] theorem State.setProg_sb : (s.setProg n f).sb = s.sb := rfl
@[simp] theorem State.setProg_regs : (s.setProg n f).regs = s.regs := rfl
@[simp] theorem State.setProg_pk : (s.setProg n f).pk = s.pk := rfl
@[simp] theorem State.setProg_seq : (s.setProg n f).seq = s.seq := rfl
@[simp] theorem State.setProg_emt : (s.setProg n f).emt = s.emt := rfl
@[simp] theorem State.setProg_cle : (s.setProg n f).cle = s.cle := rfl
@[simp] theorem State.setProg_hch : (s.setProg n f).hch = s.hch := rfl
@[simp] theorem State.setProg_hen : (s.setProg n f).hen = s.hen := rfl
@[simp] theorem State.setProg_wfd : (s.setProg n f).wfd = s.wfd := rfl
@[simp] theorem State.setProg_out : (s.setProg n f).out = s.out := rfl
@[simp] theorem State.setProg_adm : (s.setProg n f).adm = s.adm := rfl
@[simp] theorem State.setProg_tim : (s.setProg n f).tim = s.tim := rfl
@[simp] theorem State.setProg_hka : (s.setProg n f).hka = s.hka := rfl
@[simp] theorem State.setProg_thm : (s.setProg n f).thm = s.thm := rfl
@[simp] theorem State.setProg_mem : (s.setProg n f).mem = s.mem := rfl
@[simp] theorem State.setProg_saf : (s.setProg n f).saf = s.saf := rfl
@[simp] theorem State.setProg_rep : (s.setProg n f).rep = s.rep := rfl
@[simp] theorem State.setProg_ifl : (s.setProg n f).ifl = s.ifl := rfl
@[simp] theorem State.setProg_boot : (s.setProg n f).boot = s.boot := rfl
end

/-! setEng changes hen only. -/

section
variable (s : State) (n : Nat) (f : Engine → Engine)
@[simp] theorem State.setEng_pending : (s.setEng n f).pending = s.pending := rfl
@[simp] theorem State.setEng_time : (s.setEng n f).time = s.time := rfl
@[simp] theorem State.setEng_drawn : (s.setEng n f).drawn = s.drawn := rfl
@[simp] theorem State.setEng_sb : (s.setEng n f).sb = s.sb := rfl
@[simp] theorem State.setEng_regs : (s.setEng n f).regs = s.regs := rfl
@[simp] theorem State.setEng_pk : (s.setEng n f).pk = s.pk := rfl
@[simp] theorem State.setEng_pg : (s.setEng n f).pg = s.pg := rfl
@[simp] theorem State.setEng_seq : (s.setEng n f).seq = s.seq := rfl
@[simp] theorem State.setEng_emt : (s.setEng n f).emt = s.emt := rfl
@[simp] theorem State.setEng_cle : (s.setEng n f).cle = s.cle := rfl
@[simp] theorem State.setEng_hch : (s.setEng n f).hch = s.hch := rfl
@[simp] theorem State.setEng_wfd : (s.setEng n f).wfd = s.wfd := rfl
@[simp] theorem State.setEng_out : (s.setEng n f).out = s.out := rfl
@[simp] theorem State.setEng_adm : (s.setEng n f).adm = s.adm := rfl
@[simp] theorem State.setEng_tim : (s.setEng n f).tim = s.tim := rfl
@[simp] theorem State.setEng_hka : (s.setEng n f).hka = s.hka := rfl
@[simp] theorem State.setEng_thm : (s.setEng n f).thm = s.thm := rfl
@[simp] theorem State.setEng_mem : (s.setEng n f).mem = s.mem := rfl
@[simp] theorem State.setEng_saf : (s.setEng n f).saf = s.saf := rfl
@[simp] theorem State.setEng_rep : (s.setEng n f).rep = s.rep := rfl
@[simp] theorem State.setEng_ifl : (s.setEng n f).ifl = s.ifl := rfl
@[simp] theorem State.setEng_boot : (s.setEng n f).boot = s.boot := rfl
end

/-! setChan changes hch only. -/

section
variable (s : State) (n : Nat) (f : Chan → Chan)
@[simp] theorem State.setChan_pending : (s.setChan n f).pending = s.pending := rfl
@[simp] theorem State.setChan_time : (s.setChan n f).time = s.time := rfl
@[simp] theorem State.setChan_drawn : (s.setChan n f).drawn = s.drawn := rfl
@[simp] theorem State.setChan_sb : (s.setChan n f).sb = s.sb := rfl
@[simp] theorem State.setChan_regs : (s.setChan n f).regs = s.regs := rfl
@[simp] theorem State.setChan_pk : (s.setChan n f).pk = s.pk := rfl
@[simp] theorem State.setChan_pg : (s.setChan n f).pg = s.pg := rfl
@[simp] theorem State.setChan_seq : (s.setChan n f).seq = s.seq := rfl
@[simp] theorem State.setChan_emt : (s.setChan n f).emt = s.emt := rfl
@[simp] theorem State.setChan_cle : (s.setChan n f).cle = s.cle := rfl
@[simp] theorem State.setChan_hen : (s.setChan n f).hen = s.hen := rfl
@[simp] theorem State.setChan_wfd : (s.setChan n f).wfd = s.wfd := rfl
@[simp] theorem State.setChan_out : (s.setChan n f).out = s.out := rfl
@[simp] theorem State.setChan_adm : (s.setChan n f).adm = s.adm := rfl
@[simp] theorem State.setChan_tim : (s.setChan n f).tim = s.tim := rfl
@[simp] theorem State.setChan_hka : (s.setChan n f).hka = s.hka := rfl
@[simp] theorem State.setChan_thm : (s.setChan n f).thm = s.thm := rfl
@[simp] theorem State.setChan_mem : (s.setChan n f).mem = s.mem := rfl
@[simp] theorem State.setChan_saf : (s.setChan n f).saf = s.saf := rfl
@[simp] theorem State.setChan_rep : (s.setChan n f).rep = s.rep := rfl
@[simp] theorem State.setChan_ifl : (s.setChan n f).ifl = s.ifl := rfl
@[simp] theorem State.setChan_boot : (s.setChan n f).boot = s.boot := rfl
end

/-! setTdc changes hch only. -/

section
variable (s : State) (n : Nat) (f : Tdc → Tdc)
@[simp] theorem State.setTdc_pending : (s.setTdc n f).pending = s.pending := rfl
@[simp] theorem State.setTdc_time : (s.setTdc n f).time = s.time := rfl
@[simp] theorem State.setTdc_drawn : (s.setTdc n f).drawn = s.drawn := rfl
@[simp] theorem State.setTdc_sb : (s.setTdc n f).sb = s.sb := rfl
@[simp] theorem State.setTdc_regs : (s.setTdc n f).regs = s.regs := rfl
@[simp] theorem State.setTdc_pk : (s.setTdc n f).pk = s.pk := rfl
@[simp] theorem State.setTdc_pg : (s.setTdc n f).pg = s.pg := rfl
@[simp] theorem State.setTdc_seq : (s.setTdc n f).seq = s.seq := rfl
@[simp] theorem State.setTdc_emt : (s.setTdc n f).emt = s.emt := rfl
@[simp] theorem State.setTdc_cle : (s.setTdc n f).cle = s.cle := rfl
@[simp] theorem State.setTdc_hen : (s.setTdc n f).hen = s.hen := rfl
@[simp] theorem State.setTdc_wfd : (s.setTdc n f).wfd = s.wfd := rfl
@[simp] theorem State.setTdc_out : (s.setTdc n f).out = s.out := rfl
@[simp] theorem State.setTdc_adm : (s.setTdc n f).adm = s.adm := rfl
@[simp] theorem State.setTdc_tim : (s.setTdc n f).tim = s.tim := rfl
@[simp] theorem State.setTdc_hka : (s.setTdc n f).hka = s.hka := rfl
@[simp] theorem State.setTdc_thm : (s.setTdc n f).thm = s.thm := rfl
@[simp] theorem State.setTdc_mem : (s.setTdc n f).mem = s.mem := rfl
@[simp] theorem State.setTdc_saf : (s.setTdc n f).saf = s.saf := rfl
@[simp] theorem State.setTdc_rep : (s.setTdc n f).rep = s.rep := rfl
@[simp] theorem State.setTdc_ifl : (s.setTdc n f).ifl = s.ifl := rfl
@[simp] theorem State.setTdc_boot : (s.setTdc n f).boot = s.boot := rfl
end

/-! setStream changes out only. -/

section
variable (s : State) (n : Nat) (f : Stream → Stream)
@[simp] theorem State.setStream_pending : (s.setStream n f).pending = s.pending := rfl
@[simp] theorem State.setStream_time : (s.setStream n f).time = s.time := rfl
@[simp] theorem State.setStream_drawn : (s.setStream n f).drawn = s.drawn := rfl
@[simp] theorem State.setStream_sb : (s.setStream n f).sb = s.sb := rfl
@[simp] theorem State.setStream_regs : (s.setStream n f).regs = s.regs := rfl
@[simp] theorem State.setStream_pk : (s.setStream n f).pk = s.pk := rfl
@[simp] theorem State.setStream_pg : (s.setStream n f).pg = s.pg := rfl
@[simp] theorem State.setStream_seq : (s.setStream n f).seq = s.seq := rfl
@[simp] theorem State.setStream_emt : (s.setStream n f).emt = s.emt := rfl
@[simp] theorem State.setStream_cle : (s.setStream n f).cle = s.cle := rfl
@[simp] theorem State.setStream_hch : (s.setStream n f).hch = s.hch := rfl
@[simp] theorem State.setStream_hen : (s.setStream n f).hen = s.hen := rfl
@[simp] theorem State.setStream_wfd : (s.setStream n f).wfd = s.wfd := rfl
@[simp] theorem State.setStream_adm : (s.setStream n f).adm = s.adm := rfl
@[simp] theorem State.setStream_tim : (s.setStream n f).tim = s.tim := rfl
@[simp] theorem State.setStream_hka : (s.setStream n f).hka = s.hka := rfl
@[simp] theorem State.setStream_thm : (s.setStream n f).thm = s.thm := rfl
@[simp] theorem State.setStream_mem : (s.setStream n f).mem = s.mem := rfl
@[simp] theorem State.setStream_saf : (s.setStream n f).saf = s.saf := rfl
@[simp] theorem State.setStream_rep : (s.setStream n f).rep = s.rep := rfl
@[simp] theorem State.setStream_ifl : (s.setStream n f).ifl = s.ifl := rfl
@[simp] theorem State.setStream_boot : (s.setStream n f).boot = s.boot := rfl
end

/-! setLoop changes cle only. -/

section
variable (s : State) (n : Nat) (f : ControlLoop → ControlLoop)
@[simp] theorem State.setLoop_pending : (s.setLoop n f).pending = s.pending := rfl
@[simp] theorem State.setLoop_time : (s.setLoop n f).time = s.time := rfl
@[simp] theorem State.setLoop_drawn : (s.setLoop n f).drawn = s.drawn := rfl
@[simp] theorem State.setLoop_sb : (s.setLoop n f).sb = s.sb := rfl
@[simp] theorem State.setLoop_regs : (s.setLoop n f).regs = s.regs := rfl
@[simp] theorem State.setLoop_pk : (s.setLoop n f).pk = s.pk := rfl
@[simp] theorem State.setLoop_pg : (s.setLoop n f).pg = s.pg := rfl
@[simp] theorem State.setLoop_seq : (s.setLoop n f).seq = s.seq := rfl
@[simp] theorem State.setLoop_emt : (s.setLoop n f).emt = s.emt := rfl
@[simp] theorem State.setLoop_hch : (s.setLoop n f).hch = s.hch := rfl
@[simp] theorem State.setLoop_hen : (s.setLoop n f).hen = s.hen := rfl
@[simp] theorem State.setLoop_wfd : (s.setLoop n f).wfd = s.wfd := rfl
@[simp] theorem State.setLoop_out : (s.setLoop n f).out = s.out := rfl
@[simp] theorem State.setLoop_adm : (s.setLoop n f).adm = s.adm := rfl
@[simp] theorem State.setLoop_tim : (s.setLoop n f).tim = s.tim := rfl
@[simp] theorem State.setLoop_hka : (s.setLoop n f).hka = s.hka := rfl
@[simp] theorem State.setLoop_thm : (s.setLoop n f).thm = s.thm := rfl
@[simp] theorem State.setLoop_mem : (s.setLoop n f).mem = s.mem := rfl
@[simp] theorem State.setLoop_saf : (s.setLoop n f).saf = s.saf := rfl
@[simp] theorem State.setLoop_rep : (s.setLoop n f).rep = s.rep := rfl
@[simp] theorem State.setLoop_ifl : (s.setLoop n f).ifl = s.ifl := rfl
@[simp] theorem State.setLoop_boot : (s.setLoop n f).boot = s.boot := rfl
end

/-! setEncoder changes cle only. -/

section
variable (s : State) (n : Nat) (f : Encoder → Encoder)
@[simp] theorem State.setEncoder_pending : (s.setEncoder n f).pending = s.pending := rfl
@[simp] theorem State.setEncoder_time : (s.setEncoder n f).time = s.time := rfl
@[simp] theorem State.setEncoder_drawn : (s.setEncoder n f).drawn = s.drawn := rfl
@[simp] theorem State.setEncoder_sb : (s.setEncoder n f).sb = s.sb := rfl
@[simp] theorem State.setEncoder_regs : (s.setEncoder n f).regs = s.regs := rfl
@[simp] theorem State.setEncoder_pk : (s.setEncoder n f).pk = s.pk := rfl
@[simp] theorem State.setEncoder_pg : (s.setEncoder n f).pg = s.pg := rfl
@[simp] theorem State.setEncoder_seq : (s.setEncoder n f).seq = s.seq := rfl
@[simp] theorem State.setEncoder_emt : (s.setEncoder n f).emt = s.emt := rfl
@[simp] theorem State.setEncoder_hch : (s.setEncoder n f).hch = s.hch := rfl
@[simp] theorem State.setEncoder_hen : (s.setEncoder n f).hen = s.hen := rfl
@[simp] theorem State.setEncoder_wfd : (s.setEncoder n f).wfd = s.wfd := rfl
@[simp] theorem State.setEncoder_out : (s.setEncoder n f).out = s.out := rfl
@[simp] theorem State.setEncoder_adm : (s.setEncoder n f).adm = s.adm := rfl
@[simp] theorem State.setEncoder_tim : (s.setEncoder n f).tim = s.tim := rfl
@[simp] theorem State.setEncoder_hka : (s.setEncoder n f).hka = s.hka := rfl
@[simp] theorem State.setEncoder_thm : (s.setEncoder n f).thm = s.thm := rfl
@[simp] theorem State.setEncoder_mem : (s.setEncoder n f).mem = s.mem := rfl
@[simp] theorem State.setEncoder_saf : (s.setEncoder n f).saf = s.saf := rfl
@[simp] theorem State.setEncoder_rep : (s.setEncoder n f).rep = s.rep := rfl
@[simp] theorem State.setEncoder_ifl : (s.setEncoder n f).ifl = s.ifl := rfl
@[simp] theorem State.setEncoder_boot : (s.setEncoder n f).boot = s.boot := rfl
end

/-! setCap changes wfd only. -/

section
variable (s : State) (n : Nat) (f : CapUnit → CapUnit)
@[simp] theorem State.setCap_pending : (s.setCap n f).pending = s.pending := rfl
@[simp] theorem State.setCap_time : (s.setCap n f).time = s.time := rfl
@[simp] theorem State.setCap_drawn : (s.setCap n f).drawn = s.drawn := rfl
@[simp] theorem State.setCap_sb : (s.setCap n f).sb = s.sb := rfl
@[simp] theorem State.setCap_regs : (s.setCap n f).regs = s.regs := rfl
@[simp] theorem State.setCap_pk : (s.setCap n f).pk = s.pk := rfl
@[simp] theorem State.setCap_pg : (s.setCap n f).pg = s.pg := rfl
@[simp] theorem State.setCap_seq : (s.setCap n f).seq = s.seq := rfl
@[simp] theorem State.setCap_emt : (s.setCap n f).emt = s.emt := rfl
@[simp] theorem State.setCap_cle : (s.setCap n f).cle = s.cle := rfl
@[simp] theorem State.setCap_hch : (s.setCap n f).hch = s.hch := rfl
@[simp] theorem State.setCap_hen : (s.setCap n f).hen = s.hen := rfl
@[simp] theorem State.setCap_out : (s.setCap n f).out = s.out := rfl
@[simp] theorem State.setCap_adm : (s.setCap n f).adm = s.adm := rfl
@[simp] theorem State.setCap_tim : (s.setCap n f).tim = s.tim := rfl
@[simp] theorem State.setCap_hka : (s.setCap n f).hka = s.hka := rfl
@[simp] theorem State.setCap_thm : (s.setCap n f).thm = s.thm := rfl
@[simp] theorem State.setCap_mem : (s.setCap n f).mem = s.mem := rfl
@[simp] theorem State.setCap_saf : (s.setCap n f).saf = s.saf := rfl
@[simp] theorem State.setCap_rep : (s.setCap n f).rep = s.rep := rfl
@[simp] theorem State.setCap_ifl : (s.setCap n f).ifl = s.ifl := rfl
@[simp] theorem State.setCap_boot : (s.setCap n f).boot = s.boot := rfl
end

/-! setHkPath changes hka only. -/

section
variable (s : State) (n : Nat) (f : HkPath → HkPath)
@[simp] theorem State.setHkPath_pending : (s.setHkPath n f).pending = s.pending := rfl
@[simp] theorem State.setHkPath_time : (s.setHkPath n f).time = s.time := rfl
@[simp] theorem State.setHkPath_drawn : (s.setHkPath n f).drawn = s.drawn := rfl
@[simp] theorem State.setHkPath_sb : (s.setHkPath n f).sb = s.sb := rfl
@[simp] theorem State.setHkPath_regs : (s.setHkPath n f).regs = s.regs := rfl
@[simp] theorem State.setHkPath_pk : (s.setHkPath n f).pk = s.pk := rfl
@[simp] theorem State.setHkPath_pg : (s.setHkPath n f).pg = s.pg := rfl
@[simp] theorem State.setHkPath_seq : (s.setHkPath n f).seq = s.seq := rfl
@[simp] theorem State.setHkPath_emt : (s.setHkPath n f).emt = s.emt := rfl
@[simp] theorem State.setHkPath_cle : (s.setHkPath n f).cle = s.cle := rfl
@[simp] theorem State.setHkPath_hch : (s.setHkPath n f).hch = s.hch := rfl
@[simp] theorem State.setHkPath_hen : (s.setHkPath n f).hen = s.hen := rfl
@[simp] theorem State.setHkPath_wfd : (s.setHkPath n f).wfd = s.wfd := rfl
@[simp] theorem State.setHkPath_out : (s.setHkPath n f).out = s.out := rfl
@[simp] theorem State.setHkPath_adm : (s.setHkPath n f).adm = s.adm := rfl
@[simp] theorem State.setHkPath_tim : (s.setHkPath n f).tim = s.tim := rfl
@[simp] theorem State.setHkPath_thm : (s.setHkPath n f).thm = s.thm := rfl
@[simp] theorem State.setHkPath_mem : (s.setHkPath n f).mem = s.mem := rfl
@[simp] theorem State.setHkPath_saf : (s.setHkPath n f).saf = s.saf := rfl
@[simp] theorem State.setHkPath_rep : (s.setHkPath n f).rep = s.rep := rfl
@[simp] theorem State.setHkPath_ifl : (s.setHkPath n f).ifl = s.ifl := rfl
@[simp] theorem State.setHkPath_boot : (s.setHkPath n f).boot = s.boot := rfl
end

/-! setHkRes changes hka only. -/

section
variable (s : State) (n : Nat) (f : HkResult → HkResult)
@[simp] theorem State.setHkRes_pending : (s.setHkRes n f).pending = s.pending := rfl
@[simp] theorem State.setHkRes_time : (s.setHkRes n f).time = s.time := rfl
@[simp] theorem State.setHkRes_drawn : (s.setHkRes n f).drawn = s.drawn := rfl
@[simp] theorem State.setHkRes_sb : (s.setHkRes n f).sb = s.sb := rfl
@[simp] theorem State.setHkRes_regs : (s.setHkRes n f).regs = s.regs := rfl
@[simp] theorem State.setHkRes_pk : (s.setHkRes n f).pk = s.pk := rfl
@[simp] theorem State.setHkRes_pg : (s.setHkRes n f).pg = s.pg := rfl
@[simp] theorem State.setHkRes_seq : (s.setHkRes n f).seq = s.seq := rfl
@[simp] theorem State.setHkRes_emt : (s.setHkRes n f).emt = s.emt := rfl
@[simp] theorem State.setHkRes_cle : (s.setHkRes n f).cle = s.cle := rfl
@[simp] theorem State.setHkRes_hch : (s.setHkRes n f).hch = s.hch := rfl
@[simp] theorem State.setHkRes_hen : (s.setHkRes n f).hen = s.hen := rfl
@[simp] theorem State.setHkRes_wfd : (s.setHkRes n f).wfd = s.wfd := rfl
@[simp] theorem State.setHkRes_out : (s.setHkRes n f).out = s.out := rfl
@[simp] theorem State.setHkRes_adm : (s.setHkRes n f).adm = s.adm := rfl
@[simp] theorem State.setHkRes_tim : (s.setHkRes n f).tim = s.tim := rfl
@[simp] theorem State.setHkRes_thm : (s.setHkRes n f).thm = s.thm := rfl
@[simp] theorem State.setHkRes_mem : (s.setHkRes n f).mem = s.mem := rfl
@[simp] theorem State.setHkRes_saf : (s.setHkRes n f).saf = s.saf := rfl
@[simp] theorem State.setHkRes_rep : (s.setHkRes n f).rep = s.rep := rfl
@[simp] theorem State.setHkRes_ifl : (s.setHkRes n f).ifl = s.ifl := rfl
@[simp] theorem State.setHkRes_boot : (s.setHkRes n f).boot = s.boot := rfl
end

/-! setDram changes mem only. -/

section
variable (s : State) (n : Nat) (f : DramChan → DramChan)
@[simp] theorem State.setDram_pending : (s.setDram n f).pending = s.pending := rfl
@[simp] theorem State.setDram_time : (s.setDram n f).time = s.time := rfl
@[simp] theorem State.setDram_drawn : (s.setDram n f).drawn = s.drawn := rfl
@[simp] theorem State.setDram_sb : (s.setDram n f).sb = s.sb := rfl
@[simp] theorem State.setDram_regs : (s.setDram n f).regs = s.regs := rfl
@[simp] theorem State.setDram_pk : (s.setDram n f).pk = s.pk := rfl
@[simp] theorem State.setDram_pg : (s.setDram n f).pg = s.pg := rfl
@[simp] theorem State.setDram_seq : (s.setDram n f).seq = s.seq := rfl
@[simp] theorem State.setDram_emt : (s.setDram n f).emt = s.emt := rfl
@[simp] theorem State.setDram_cle : (s.setDram n f).cle = s.cle := rfl
@[simp] theorem State.setDram_hch : (s.setDram n f).hch = s.hch := rfl
@[simp] theorem State.setDram_hen : (s.setDram n f).hen = s.hen := rfl
@[simp] theorem State.setDram_wfd : (s.setDram n f).wfd = s.wfd := rfl
@[simp] theorem State.setDram_out : (s.setDram n f).out = s.out := rfl
@[simp] theorem State.setDram_adm : (s.setDram n f).adm = s.adm := rfl
@[simp] theorem State.setDram_tim : (s.setDram n f).tim = s.tim := rfl
@[simp] theorem State.setDram_hka : (s.setDram n f).hka = s.hka := rfl
@[simp] theorem State.setDram_thm : (s.setDram n f).thm = s.thm := rfl
@[simp] theorem State.setDram_saf : (s.setDram n f).saf = s.saf := rfl
@[simp] theorem State.setDram_rep : (s.setDram n f).rep = s.rep := rfl
@[simp] theorem State.setDram_ifl : (s.setDram n f).ifl = s.ifl := rfl
@[simp] theorem State.setDram_boot : (s.setDram n f).boot = s.boot := rfl
end

/-! setOuts changes saf only. -/

section
variable (s : State) (o : List Bool)
@[simp] theorem State.setOuts_pending : (s.setOuts o).pending = s.pending := rfl
@[simp] theorem State.setOuts_time : (s.setOuts o).time = s.time := rfl
@[simp] theorem State.setOuts_drawn : (s.setOuts o).drawn = s.drawn := rfl
@[simp] theorem State.setOuts_sb : (s.setOuts o).sb = s.sb := rfl
@[simp] theorem State.setOuts_regs : (s.setOuts o).regs = s.regs := rfl
@[simp] theorem State.setOuts_pk : (s.setOuts o).pk = s.pk := rfl
@[simp] theorem State.setOuts_pg : (s.setOuts o).pg = s.pg := rfl
@[simp] theorem State.setOuts_seq : (s.setOuts o).seq = s.seq := rfl
@[simp] theorem State.setOuts_emt : (s.setOuts o).emt = s.emt := rfl
@[simp] theorem State.setOuts_cle : (s.setOuts o).cle = s.cle := rfl
@[simp] theorem State.setOuts_hch : (s.setOuts o).hch = s.hch := rfl
@[simp] theorem State.setOuts_hen : (s.setOuts o).hen = s.hen := rfl
@[simp] theorem State.setOuts_wfd : (s.setOuts o).wfd = s.wfd := rfl
@[simp] theorem State.setOuts_out : (s.setOuts o).out = s.out := rfl
@[simp] theorem State.setOuts_adm : (s.setOuts o).adm = s.adm := rfl
@[simp] theorem State.setOuts_tim : (s.setOuts o).tim = s.tim := rfl
@[simp] theorem State.setOuts_hka : (s.setOuts o).hka = s.hka := rfl
@[simp] theorem State.setOuts_thm : (s.setOuts o).thm = s.thm := rfl
@[simp] theorem State.setOuts_mem : (s.setOuts o).mem = s.mem := rfl
@[simp] theorem State.setOuts_rep : (s.setOuts o).rep = s.rep := rfl
@[simp] theorem State.setOuts_ifl : (s.setOuts o).ifl = s.ifl := rfl
@[simp] theorem State.setOuts_boot : (s.setOuts o).boot = s.boot := rfl
end

/-! setFrags changes out only. -/

section
variable (s : State) (v : Nat) (l : List (Nat × List Byte))
@[simp] theorem State.setFrags_pending : (s.setFrags v l).pending = s.pending := rfl
@[simp] theorem State.setFrags_time : (s.setFrags v l).time = s.time := rfl
@[simp] theorem State.setFrags_drawn : (s.setFrags v l).drawn = s.drawn := rfl
@[simp] theorem State.setFrags_sb : (s.setFrags v l).sb = s.sb := rfl
@[simp] theorem State.setFrags_regs : (s.setFrags v l).regs = s.regs := rfl
@[simp] theorem State.setFrags_pk : (s.setFrags v l).pk = s.pk := rfl
@[simp] theorem State.setFrags_pg : (s.setFrags v l).pg = s.pg := rfl
@[simp] theorem State.setFrags_seq : (s.setFrags v l).seq = s.seq := rfl
@[simp] theorem State.setFrags_emt : (s.setFrags v l).emt = s.emt := rfl
@[simp] theorem State.setFrags_cle : (s.setFrags v l).cle = s.cle := rfl
@[simp] theorem State.setFrags_hch : (s.setFrags v l).hch = s.hch := rfl
@[simp] theorem State.setFrags_hen : (s.setFrags v l).hen = s.hen := rfl
@[simp] theorem State.setFrags_wfd : (s.setFrags v l).wfd = s.wfd := rfl
@[simp] theorem State.setFrags_adm : (s.setFrags v l).adm = s.adm := rfl
@[simp] theorem State.setFrags_tim : (s.setFrags v l).tim = s.tim := rfl
@[simp] theorem State.setFrags_hka : (s.setFrags v l).hka = s.hka := rfl
@[simp] theorem State.setFrags_thm : (s.setFrags v l).thm = s.thm := rfl
@[simp] theorem State.setFrags_mem : (s.setFrags v l).mem = s.mem := rfl
@[simp] theorem State.setFrags_saf : (s.setFrags v l).saf = s.saf := rfl
@[simp] theorem State.setFrags_rep : (s.setFrags v l).rep = s.rep := rfl
@[simp] theorem State.setFrags_ifl : (s.setFrags v l).ifl = s.ifl := rfl
@[simp] theorem State.setFrags_boot : (s.setFrags v l).boot = s.boot := rfl
end

/-! drive changes emt only. -/

section
variable (s : State) (x : Shot)
@[simp] theorem State.drive_pending : (s.drive x).pending = s.pending := rfl
@[simp] theorem State.drive_time : (s.drive x).time = s.time := rfl
@[simp] theorem State.drive_drawn : (s.drive x).drawn = s.drawn := rfl
@[simp] theorem State.drive_sb : (s.drive x).sb = s.sb := rfl
@[simp] theorem State.drive_regs : (s.drive x).regs = s.regs := rfl
@[simp] theorem State.drive_pk : (s.drive x).pk = s.pk := rfl
@[simp] theorem State.drive_pg : (s.drive x).pg = s.pg := rfl
@[simp] theorem State.drive_seq : (s.drive x).seq = s.seq := rfl
@[simp] theorem State.drive_cle : (s.drive x).cle = s.cle := rfl
@[simp] theorem State.drive_hch : (s.drive x).hch = s.hch := rfl
@[simp] theorem State.drive_hen : (s.drive x).hen = s.hen := rfl
@[simp] theorem State.drive_wfd : (s.drive x).wfd = s.wfd := rfl
@[simp] theorem State.drive_out : (s.drive x).out = s.out := rfl
@[simp] theorem State.drive_adm : (s.drive x).adm = s.adm := rfl
@[simp] theorem State.drive_tim : (s.drive x).tim = s.tim := rfl
@[simp] theorem State.drive_hka : (s.drive x).hka = s.hka := rfl
@[simp] theorem State.drive_thm : (s.drive x).thm = s.thm := rfl
@[simp] theorem State.drive_mem : (s.drive x).mem = s.mem := rfl
@[simp] theorem State.drive_saf : (s.drive x).saf = s.saf := rfl
@[simp] theorem State.drive_rep : (s.drive x).rep = s.rep := rfl
@[simp] theorem State.drive_ifl : (s.drive x).ifl = s.ifl := rfl
@[simp] theorem State.drive_boot : (s.drive x).boot = s.boot := rfl
end

/-! publishTable changes hch, and pk where the version wraps. -/

section
variable (s : State) (t : Nat) (upper : Bool) (a w : List Nat) (g : Nat)
@[simp] theorem State.publishTable_pending : (s.publishTable t upper a w g).pending = s.pending := by
  simp only [State.publishTable]; split <;> rfl
@[simp] theorem State.publishTable_time : (s.publishTable t upper a w g).time = s.time := by
  simp only [State.publishTable]; split <;> rfl
@[simp] theorem State.publishTable_drawn : (s.publishTable t upper a w g).drawn = s.drawn := by
  simp only [State.publishTable]; split <;> rfl
@[simp] theorem State.publishTable_sb : (s.publishTable t upper a w g).sb = s.sb := by
  simp only [State.publishTable]; split <;> rfl
@[simp] theorem State.publishTable_regs : (s.publishTable t upper a w g).regs = s.regs := by
  simp only [State.publishTable]; split <;> rfl
@[simp] theorem State.publishTable_pg : (s.publishTable t upper a w g).pg = s.pg := by
  simp only [State.publishTable]; split <;> rfl
@[simp] theorem State.publishTable_seq : (s.publishTable t upper a w g).seq = s.seq := by
  simp only [State.publishTable]; split <;> rfl
@[simp] theorem State.publishTable_emt : (s.publishTable t upper a w g).emt = s.emt := by
  simp only [State.publishTable]; split <;> rfl
@[simp] theorem State.publishTable_cle : (s.publishTable t upper a w g).cle = s.cle := by
  simp only [State.publishTable]; split <;> rfl
@[simp] theorem State.publishTable_hen : (s.publishTable t upper a w g).hen = s.hen := by
  simp only [State.publishTable]; split <;> rfl
@[simp] theorem State.publishTable_wfd : (s.publishTable t upper a w g).wfd = s.wfd := by
  simp only [State.publishTable]; split <;> rfl
@[simp] theorem State.publishTable_out : (s.publishTable t upper a w g).out = s.out := by
  simp only [State.publishTable]; split <;> rfl
@[simp] theorem State.publishTable_adm : (s.publishTable t upper a w g).adm = s.adm := by
  simp only [State.publishTable]; split <;> rfl
@[simp] theorem State.publishTable_tim : (s.publishTable t upper a w g).tim = s.tim := by
  simp only [State.publishTable]; split <;> rfl
@[simp] theorem State.publishTable_hka : (s.publishTable t upper a w g).hka = s.hka := by
  simp only [State.publishTable]; split <;> rfl
@[simp] theorem State.publishTable_thm : (s.publishTable t upper a w g).thm = s.thm := by
  simp only [State.publishTable]; split <;> rfl
@[simp] theorem State.publishTable_mem : (s.publishTable t upper a w g).mem = s.mem := by
  simp only [State.publishTable]; split <;> rfl
@[simp] theorem State.publishTable_saf : (s.publishTable t upper a w g).saf = s.saf := by
  simp only [State.publishTable]; split <;> rfl
@[simp] theorem State.publishTable_rep : (s.publishTable t upper a w g).rep = s.rep := by
  simp only [State.publishTable]; split <;> rfl
@[simp] theorem State.publishTable_ifl : (s.publishTable t upper a w g).ifl = s.ifl := by
  simp only [State.publishTable]; split <;> rfl
@[simp] theorem State.publishTable_boot : (s.publishTable t upper a w g).boot = s.boot := by
  simp only [State.publishTable]; split <;> rfl
end

/-! pauseDram changes mem only. -/

section
variable (s : State) (c : Nat) (row : Option Nat)
@[simp] theorem State.pauseDram_pending : (s.pauseDram c row).pending = s.pending := rfl
@[simp] theorem State.pauseDram_time : (s.pauseDram c row).time = s.time := rfl
@[simp] theorem State.pauseDram_drawn : (s.pauseDram c row).drawn = s.drawn := rfl
@[simp] theorem State.pauseDram_sb : (s.pauseDram c row).sb = s.sb := rfl
@[simp] theorem State.pauseDram_regs : (s.pauseDram c row).regs = s.regs := rfl
@[simp] theorem State.pauseDram_pk : (s.pauseDram c row).pk = s.pk := rfl
@[simp] theorem State.pauseDram_pg : (s.pauseDram c row).pg = s.pg := rfl
@[simp] theorem State.pauseDram_seq : (s.pauseDram c row).seq = s.seq := rfl
@[simp] theorem State.pauseDram_emt : (s.pauseDram c row).emt = s.emt := rfl
@[simp] theorem State.pauseDram_cle : (s.pauseDram c row).cle = s.cle := rfl
@[simp] theorem State.pauseDram_hch : (s.pauseDram c row).hch = s.hch := rfl
@[simp] theorem State.pauseDram_hen : (s.pauseDram c row).hen = s.hen := rfl
@[simp] theorem State.pauseDram_wfd : (s.pauseDram c row).wfd = s.wfd := rfl
@[simp] theorem State.pauseDram_out : (s.pauseDram c row).out = s.out := rfl
@[simp] theorem State.pauseDram_adm : (s.pauseDram c row).adm = s.adm := rfl
@[simp] theorem State.pauseDram_tim : (s.pauseDram c row).tim = s.tim := rfl
@[simp] theorem State.pauseDram_hka : (s.pauseDram c row).hka = s.hka := rfl
@[simp] theorem State.pauseDram_thm : (s.pauseDram c row).thm = s.thm := rfl
@[simp] theorem State.pauseDram_saf : (s.pauseDram c row).saf = s.saf := rfl
@[simp] theorem State.pauseDram_rep : (s.pauseDram c row).rep = s.rep := rfl
@[simp] theorem State.pauseDram_ifl : (s.pauseDram c row).ifl = s.ifl := rfl
@[simp] theorem State.pauseDram_boot : (s.pauseDram c row).boot = s.boot := rfl
end

/-! resumeDram changes mem only. -/

section
variable (s : State) (c : Nat)
@[simp] theorem State.resumeDram_pending : (s.resumeDram c).pending = s.pending := by
  simp only [State.resumeDram]; split <;> rfl
@[simp] theorem State.resumeDram_time : (s.resumeDram c).time = s.time := by
  simp only [State.resumeDram]; split <;> rfl
@[simp] theorem State.resumeDram_drawn : (s.resumeDram c).drawn = s.drawn := by
  simp only [State.resumeDram]; split <;> rfl
@[simp] theorem State.resumeDram_sb : (s.resumeDram c).sb = s.sb := by
  simp only [State.resumeDram]; split <;> rfl
@[simp] theorem State.resumeDram_regs : (s.resumeDram c).regs = s.regs := by
  simp only [State.resumeDram]; split <;> rfl
@[simp] theorem State.resumeDram_pk : (s.resumeDram c).pk = s.pk := by
  simp only [State.resumeDram]; split <;> rfl
@[simp] theorem State.resumeDram_pg : (s.resumeDram c).pg = s.pg := by
  simp only [State.resumeDram]; split <;> rfl
@[simp] theorem State.resumeDram_seq : (s.resumeDram c).seq = s.seq := by
  simp only [State.resumeDram]; split <;> rfl
@[simp] theorem State.resumeDram_emt : (s.resumeDram c).emt = s.emt := by
  simp only [State.resumeDram]; split <;> rfl
@[simp] theorem State.resumeDram_cle : (s.resumeDram c).cle = s.cle := by
  simp only [State.resumeDram]; split <;> rfl
@[simp] theorem State.resumeDram_hch : (s.resumeDram c).hch = s.hch := by
  simp only [State.resumeDram]; split <;> rfl
@[simp] theorem State.resumeDram_hen : (s.resumeDram c).hen = s.hen := by
  simp only [State.resumeDram]; split <;> rfl
@[simp] theorem State.resumeDram_wfd : (s.resumeDram c).wfd = s.wfd := by
  simp only [State.resumeDram]; split <;> rfl
@[simp] theorem State.resumeDram_out : (s.resumeDram c).out = s.out := by
  simp only [State.resumeDram]; split <;> rfl
@[simp] theorem State.resumeDram_adm : (s.resumeDram c).adm = s.adm := by
  simp only [State.resumeDram]; split <;> rfl
@[simp] theorem State.resumeDram_tim : (s.resumeDram c).tim = s.tim := by
  simp only [State.resumeDram]; split <;> rfl
@[simp] theorem State.resumeDram_hka : (s.resumeDram c).hka = s.hka := by
  simp only [State.resumeDram]; split <;> rfl
@[simp] theorem State.resumeDram_thm : (s.resumeDram c).thm = s.thm := by
  simp only [State.resumeDram]; split <;> rfl
@[simp] theorem State.resumeDram_saf : (s.resumeDram c).saf = s.saf := by
  simp only [State.resumeDram]; split <;> rfl
@[simp] theorem State.resumeDram_rep : (s.resumeDram c).rep = s.rep := by
  simp only [State.resumeDram]; split <;> rfl
@[simp] theorem State.resumeDram_ifl : (s.resumeDram c).ifl = s.ifl := by
  simp only [State.resumeDram]; split <;> rfl
@[simp] theorem State.resumeDram_boot : (s.resumeDram c).boot = s.boot := by
  simp only [State.resumeDram]; split <;> rfl
end

/-! crossSeen changes tim only. -/

section
variable (s : State) (source : Nat) (t : Int)
@[simp] theorem State.crossSeen_pending : (s.crossSeen source t).pending = s.pending := by
  simp only [State.crossSeen]; split <;> (try split) <;> rfl
@[simp] theorem State.crossSeen_time : (s.crossSeen source t).time = s.time := by
  simp only [State.crossSeen]; split <;> (try split) <;> rfl
@[simp] theorem State.crossSeen_drawn : (s.crossSeen source t).drawn = s.drawn := by
  simp only [State.crossSeen]; split <;> (try split) <;> rfl
@[simp] theorem State.crossSeen_sb : (s.crossSeen source t).sb = s.sb := by
  simp only [State.crossSeen]; split <;> (try split) <;> rfl
@[simp] theorem State.crossSeen_regs : (s.crossSeen source t).regs = s.regs := by
  simp only [State.crossSeen]; split <;> (try split) <;> rfl
@[simp] theorem State.crossSeen_pk : (s.crossSeen source t).pk = s.pk := by
  simp only [State.crossSeen]; split <;> (try split) <;> rfl
@[simp] theorem State.crossSeen_pg : (s.crossSeen source t).pg = s.pg := by
  simp only [State.crossSeen]; split <;> (try split) <;> rfl
@[simp] theorem State.crossSeen_seq : (s.crossSeen source t).seq = s.seq := by
  simp only [State.crossSeen]; split <;> (try split) <;> rfl
@[simp] theorem State.crossSeen_emt : (s.crossSeen source t).emt = s.emt := by
  simp only [State.crossSeen]; split <;> (try split) <;> rfl
@[simp] theorem State.crossSeen_cle : (s.crossSeen source t).cle = s.cle := by
  simp only [State.crossSeen]; split <;> (try split) <;> rfl
@[simp] theorem State.crossSeen_hch : (s.crossSeen source t).hch = s.hch := by
  simp only [State.crossSeen]; split <;> (try split) <;> rfl
@[simp] theorem State.crossSeen_hen : (s.crossSeen source t).hen = s.hen := by
  simp only [State.crossSeen]; split <;> (try split) <;> rfl
@[simp] theorem State.crossSeen_wfd : (s.crossSeen source t).wfd = s.wfd := by
  simp only [State.crossSeen]; split <;> (try split) <;> rfl
@[simp] theorem State.crossSeen_out : (s.crossSeen source t).out = s.out := by
  simp only [State.crossSeen]; split <;> (try split) <;> rfl
@[simp] theorem State.crossSeen_adm : (s.crossSeen source t).adm = s.adm := by
  simp only [State.crossSeen]; split <;> (try split) <;> rfl
@[simp] theorem State.crossSeen_hka : (s.crossSeen source t).hka = s.hka := by
  simp only [State.crossSeen]; split <;> (try split) <;> rfl
@[simp] theorem State.crossSeen_thm : (s.crossSeen source t).thm = s.thm := by
  simp only [State.crossSeen]; split <;> (try split) <;> rfl
@[simp] theorem State.crossSeen_mem : (s.crossSeen source t).mem = s.mem := by
  simp only [State.crossSeen]; split <;> (try split) <;> rfl
@[simp] theorem State.crossSeen_saf : (s.crossSeen source t).saf = s.saf := by
  simp only [State.crossSeen]; split <;> (try split) <;> rfl
@[simp] theorem State.crossSeen_rep : (s.crossSeen source t).rep = s.rep := by
  simp only [State.crossSeen]; split <;> (try split) <;> rfl
@[simp] theorem State.crossSeen_ifl : (s.crossSeen source t).ifl = s.ifl := by
  simp only [State.crossSeen]; split <;> (try split) <;> rfl
@[simp] theorem State.crossSeen_boot : (s.crossSeen source t).boot = s.boot := by
  simp only [State.crossSeen]; split <;> (try split) <;> rfl
end

end Sys2Proof.Machine
end

