-- ==== Sys2Proof/Laws/Ops.lean ====
section
/-!
SUPPORT. What the shared operations do: elements of lists, registers, and the frames of counters, EVENTs, incidents and
replies.
-/
namespace Sys2Proof.Machine

/-! Elements of lists. -/

theorem nth_upd_self {α : Type} (l : List α) (i : Nat) (f : α → α) (d : α) (h : i < l.length) :
    nth (upd l i f) i d = f (nth l i d) := by
  simp [nth, upd, h]

theorem nth_upd_other {α : Type} (l : List α) {i k : Nat} (f : α → α) (d : α) (h : k ≠ i) :
    nth (upd l i f) k d = nth l k d := by
  simp [nth, upd, Ne.symm h]

@[simp] theorem length_upd {α : Type} (l : List α) (i : Nat) (f : α → α) : (upd l i f).length = l.length := by
  simp [upd]

theorem eng_setEng_self (s : State) {e : Nat} (f : Engine → Engine) (h : e < s.hen.length) :
    (s.setEng e f).eng e = f (s.eng e) := nth_upd_self _ _ _ _ h

theorem eng_setEng_other (s : State) {e k : Nat} (f : Engine → Engine) (h : k ≠ e) :
    (s.setEng e f).eng k = s.eng k := nth_upd_other _ _ _ h

theorem chan_setChan_self (s : State) {c : Nat} (f : Chan → Chan) (h : c < s.hch.chans.length) :
    (s.setChan c f).chan c = f (s.chan c) := nth_upd_self _ _ _ _ h

theorem chan_setChan_other (s : State) {c k : Nat} (f : Chan → Chan) (h : k ≠ c) :
    (s.setChan c f).chan k = s.chan k := nth_upd_other _ _ _ h

theorem tdc_setTdc_self (s : State) {i : Nat} (f : Tdc → Tdc) (h : i < s.hch.tdcs.length) :
    (s.setTdc i f).tdc i = f (s.tdc i) := nth_upd_self _ _ _ _ h

theorem tdc_setTdc_other (s : State) {i k : Nat} (f : Tdc → Tdc) (h : k ≠ i) :
    (s.setTdc i f).tdc k = s.tdc k := nth_upd_other _ _ _ h

theorem prog_setProg_self (s : State) {i : Nat} (f : Prog → Prog) (h : i < s.pg.progs.length) :
    (s.setProg i f).prog i = (s.prog i).map f := nth_upd_self _ _ _ _ h

theorem prog_setProg_other (s : State) {i k : Nat} (f : Prog → Prog) (h : k ≠ i) :
    (s.setProg i f).prog k = s.prog k := nth_upd_other _ _ _ h

/-- A session reads back with its change, when the change leaves its origin. -/
theorem session_setSession_self (s : State) (o : Origin) (f : Session → Session)
    (hf : ∀ x, (f x).origin = x.origin) : (s.setSession o f).session o = (s.session o).map f := by
  simp only [State.session, State.setSession]
  induction s.pk.sessions with
  | nil => rfl
  | cons x t ih =>
    by_cases h : x.origin.same o = true
    · simp [h, hf]
    · simp [h, ih]

/-! Registers. -/

@[simp] theorem reg_setReg_self (s : State) (a : Nat) (v : Word) : (s.setReg a v).reg a = v :=
  Sparse.get_set_self _ _ _

theorem reg_setReg_other (s : State) {a b : Nat} (v : Word) (h : b ≠ a) : (s.setReg a v).reg b = s.reg b :=
  Sparse.get_set_other _ _ h

@[simp] theorem reg_setRegN_self (s : State) (a v : Nat) : (s.setRegN a v).reg a = BitVec.ofNat 32 v :=
  reg_setReg_self _ _ _

theorem reg_setRegN_other (s : State) {a b : Nat} (v : Nat) (h : b ≠ a) : (s.setRegN a v).reg b = s.reg b :=
  reg_setReg_other _ _ h

theorem regN_setRegN_self (s : State) (a v : Nat) : (s.setRegN a v).regN a = v % 2 ^ 32 := by
  simp [State.regN]

theorem regN_setRegN_other (s : State) {a b : Nat} (v : Nat) (h : b ≠ a) : (s.setRegN a v).regN b = s.regN b :=
  congrArg BitVec.toNat (reg_setRegN_other s v h)

@[simp] theorem reg_latch_self (s : State) (a m : Nat) :
    (s.latch a m).reg a = s.reg a ||| BitVec.ofNat 32 m := reg_setReg_self _ _ _

theorem reg_latch_other (s : State) {a b : Nat} (m : Nat) (h : b ≠ a) : (s.latch a m).reg b = s.reg b :=
  reg_setReg_other _ _ h

@[simp] theorem reg_unlatch_self (s : State) (a m : Nat) :
    (s.unlatch a m).reg a = s.reg a &&& ~~~ BitVec.ofNat 32 m := reg_setReg_self _ _ _

theorem reg_unlatch_other (s : State) {a b : Nat} (m : Nat) (h : b ≠ a) : (s.unlatch a m).reg b = s.reg b :=
  reg_setReg_other _ _ h

/-- Two states with the same register file read the same. -/
theorem reg_congr {s t : State} (h : t.regs = s.regs) (a : Nat) : t.reg a = s.reg a := by
  simp [State.reg, h]

theorem keepsRegs_of_regs {s t : State} (h : t.regs = s.regs) (l : List Nat) : s.keepsRegs t l :=
  fun a _ => reg_congr h a

/-! Frames: they compose, and grow. -/

theorem Part.same_refl (p : Part) (s : State) : p.same s s := by cases p <;> rfl

theorem Part.same_trans {p : Part} {s t u : State} (h : p.same s t) (g : p.same t u) : p.same s u := by
  cases p <;> exact Eq.trans g h

theorem State.keeps.refl (s : State) (l : List Part) : s.keeps s l := fun p _ => p.same_refl s

theorem State.keeps.trans {s t u : State} {l : List Part} (h : s.keeps t l) (g : t.keeps u l) : s.keeps u l :=
  fun p hp => Part.same_trans (h p hp) (g p hp)

theorem State.keeps.mono {s t : State} {l m : List Part} (h : s.keeps t l) (hl : ∀ p ∈ l, p ∈ m) : s.keeps t m :=
  fun p hp => h p fun hx => hp (hl p hx)

theorem State.keepsRegs.refl (s : State) (l : List Nat) : s.keepsRegs s l := fun _ _ => rfl

theorem State.keepsRegs.trans {s t u : State} {l : List Nat} (h : s.keepsRegs t l) (g : t.keepsRegs u l) :
    s.keepsRegs u l := fun a ha => (g a ha).trans (h a ha)

theorem State.keepsRegs.mono {s t : State} {l m : List Nat} (h : s.keepsRegs t l) (hl : ∀ a ∈ l, a ∈ m) :
    s.keepsRegs t m := fun a ha => h a fun hx => ha (hl a hx)

/-- A fold keeps what each of its steps keeps. -/
theorem State.keeps.foldl {α : Type} {l : List Part} {f : State → α → State} (hf : ∀ (t : State) x, t.keeps (f t x) l) :
    ∀ (xs : List α) (s : State), s.keeps (xs.foldl f s) l
  | [], s => State.keeps.refl s l
  | x :: xs, s => (hf s x).trans (State.keeps.foldl hf xs (f s x))

theorem State.keepsRegs.foldl {α : Type} {l : List Nat} {f : State → α → State} (hf : ∀ (t : State) x, t.keepsRegs (f t x) l) :
    ∀ (xs : List α) (s : State), s.keepsRegs (xs.foldl f s) l
  | [], s => State.keepsRegs.refl s l
  | x :: xs, s => (hf s x).trans (State.keepsRegs.foldl hf xs (f s x))

theorem setReg_keeps (s : State) (a : Nat) (v : Word) : s.keeps (s.setReg a v) [.regs] := by
  intro p hp; cases p <;> first | rfl | simp at hp

theorem setReg_keepsRegs (s : State) (a : Nat) (v : Word) : s.keepsRegs (s.setReg a v) [a] :=
  fun _ hb => reg_setReg_other s v (by simpa using hb)

theorem noteWrap_keeps (s : State) (u w o n : Nat) : s.keeps (s.noteWrap u w o n) [.pk] := by
  intro p hp; cases p <;> first | rfl | simp at hp

/-- A counter that advances by n, and nothing else but the note of its wrap. -/
theorem reg_bumpBy_self (s : State) (a n : Nat) : (s.bumpBy a n).reg a = s.reg a + BitVec.ofNat 32 n := by
  have h : BitVec.ofNat 32 (s.regN a + n) = s.reg a + BitVec.ofNat 32 n := by
    apply BitVec.eq_of_toNat_eq
    simp [State.regN]
  simp only [State.bumpBy]
  split
  · rw [reg_setRegN_self, h]
  · exact (reg_setRegN_self s a _).trans h

theorem reg_bumpBy_other (s : State) {a b : Nat} (n : Nat) (h : b ≠ a) : (s.bumpBy a n).reg b = s.reg b := by
  simp only [State.bumpBy]
  split
  · exact reg_setRegN_other s _ h
  · exact reg_setRegN_other s _ h

theorem bumpBy_keepsRegs (s : State) (a n : Nat) : s.keepsRegs (s.bumpBy a n) [a] :=
  fun _ hb => reg_bumpBy_other s n (by simpa using hb)

theorem bumpBy_keeps (s : State) (a n : Nat) : s.keeps (s.bumpBy a n) [.regs, .pk] := by
  simp only [State.bumpBy]
  split <;> intro p hp <;> cases p <;> first | rfl | simp at hp

theorem reg_bump_self (s : State) (a : Nat) : (s.bump a).reg a = s.reg a + 1 := reg_bumpBy_self s a 1

theorem reg_bump_other (s : State) {a b : Nat} (h : b ≠ a) : (s.bump a).reg b = s.reg b := reg_bumpBy_other s 1 h

theorem bump_keeps (s : State) (a : Nat) : s.keeps (s.bump a) [.regs, .pk] := bumpBy_keeps s a 1

theorem bump_keepsRegs (s : State) (a : Nat) : s.keepsRegs (s.bump a) [a] := bumpBy_keepsRegs s a 1

theorem gen_bumpGen (s : State) : s.bumpGen.gen = s.gen + 1 := reg_bump_self s _

/-! Replies and EVENTs. -/

theorem linkSend_keeps (s : State) (q k d : Nat) (x : Byte) (l : List Byte) :
    s.keeps (s.linkSend q k d x l) [.pk, .ifl] := by
  simp only [State.linkSend]
  split <;> intro p hp <;> cases p <;> first | rfl | simp at hp

theorem sendTo_regs (s : State) (o : Origin) (d : Nat) (p : Packet) : (s.sendTo o d p).regs = s.regs := by
  cases o <;> first | rfl | exact State.linkSend_regs ..

theorem sendTo_keeps (s : State) (o : Origin) (d : Nat) (p : Packet) : s.keeps (s.sendTo o d p) [.pk, .out, .ifl] := by
  cases o
  case ifl => exact State.keeps.mono (linkSend_keeps s _ _ _ _ _) (by simp)
  all_goals intro q hq; cases q <;> first | rfl | simp at hq

theorem answer_keeps (s : State) (o : Origin) (p : Packet) (e st d : Nat) :
    s.keeps (s.answer o p e st d) [.pk, .out, .ifl] := sendTo_keeps s o _ _

theorem answer_regs (s : State) (o : Origin) (p : Packet) (e st d : Nat) : (s.answer o p e st d).regs = s.regs :=
  sendTo_regs s o _ _

/-- An EVENT changes its sequence register, the log, what its destinations hold, and draws free values. -/
theorem event_keeps (s : State) (code cls unit : Nat) (l : List Byte) (w : Option (Origin × Half)) (d : Option Nat) :
    s.keeps (s.event code cls unit l w d) [.drawn, .regs, .pk, .out, .ifl] := by
  simp only [State.event]
  refine State.keeps.trans ?_ (State.keeps.foldl (l := [.drawn, .regs, .pk, .out, .ifl])
    (fun t x => (sendTo_keeps t x _ _).mono (by simp)) _ _)
  intro p hp
  cases w <;> simp only [Option.isSome] <;> cases p <;> first | (simp at hp; done) | (split <;> split <;> rfl)

theorem event_keepsRegs (s : State) (code cls unit : Nat) (l : List Byte) (w : Option (Origin × Half))
    (d : Option Nat) : s.keepsRegs (s.event code cls unit l w d) [GLB_EVT_SEQ] := by
  simp only [State.event]
  refine State.keepsRegs.trans ?_ (State.keepsRegs.foldl (fun t x => keepsRegs_of_regs (sendTo_regs t x _ _) _) _ _)
  intro a ha
  cases w <;> simp only [Option.isSome] <;> split <;> split <;> exact reg_setReg_other _ _ (by simpa using ha)

theorem complete_keeps (s : State) (w : Origin × Half) (code unit : Nat) (l : List Byte) :
    s.keeps (s.complete w code unit l) [.drawn, .regs, .pk, .out, .ifl] := event_keeps s _ _ _ _ _ _

theorem complete_keepsRegs (s : State) (w : Origin × Half) (code unit : Nat) (l : List Byte) :
    s.keepsRegs (s.complete w code unit l) [GLB_EVT_SEQ] := event_keepsRegs s _ _ _ _ _ _

theorem openEvent_keeps (s : State) (cls unit : Nat) (l : Option (List Byte)) :
    s.keeps (s.openEvent cls unit l) [.drawn, .regs, .pk, .out, .ifl] := by
  have hd (t : State) (n : Nat) : t.keeps (t.draw n).2 [.drawn, .regs, .pk, .out, .ifl] := by
    intro p hp; cases p <;> first | rfl | simp at hp
  cases l with
  | none => exact (hd s 5).trans ((hd _ 6).trans (event_keeps _ _ _ _ _ _ _))
  | some x => exact (hd s 5).trans (event_keeps _ _ _ _ _ _ _)

theorem openEvent_keepsRegs (s : State) (cls unit : Nat) (l : Option (List Byte)) :
    s.keepsRegs (s.openEvent cls unit l) [GLB_EVT_SEQ] := by
  cases l <;> exact event_keepsRegs _ _ _ _ _ _ _

/-! Incidents. -/

theorem reportWith_keeps (s : State) (key : Word) (b i : Nat) (ended : Bool) (n : Nat) (devs : Half) (first : Nat) :
    s.keeps (s.reportWith key b i ended n devs first) [.rep, .regs, .pk, .drawn] := by
  simp only [State.reportWith]
  split
  · intro p hp; cases p <;> first | rfl | simp at hp
  · split
    · exact ((bump_keeps s _).mono (by simp)).trans ((setReg_keeps _ _ _).mono (by simp))
    · split <;> intro p hp <;> cases p <;> first | rfl | simp at hp

theorem reportWith_keepsRegs (s : State) (key : Word) (b i : Nat) (ended : Bool) (n : Nat) (devs : Half) (first : Nat) :
    s.keepsRegs (s.reportWith key b i ended n devs first) [REP_INC_DROP, REP_STATUS] := by
  simp only [State.reportWith]
  split
  · exact fun _ _ => rfl
  · split
    · exact ((bump_keepsRegs s _).mono (by simp)).trans
        ((setReg_keepsRegs _ _ _).mono (by simp))
    · split <;> exact fun _ _ => rfl

theorem report_keeps (s : State) (key : Word) (b i : Nat) (ended : Bool) :
    s.keeps (s.report key b i ended) [.rep, .regs, .pk, .drawn] := reportWith_keeps s _ _ _ _ _ _ _

theorem report_keepsRegs (s : State) (key : Word) (b i : Nat) (ended : Bool) :
    s.keepsRegs (s.report key b i ended) [REP_INC_DROP, REP_STATUS] := reportWith_keepsRegs s _ _ _ _ _ _ _

theorem endCause_keeps (s : State) (key : Word) :
    s.keeps (s.endCause key) [.rep, .drawn, .regs, .pk, .out, .ifl] := by
  refine State.keeps.trans (t := { s with rep.incidents := _ }) ?_
    (State.keeps.foldl (l := [.rep, .drawn, .regs, .pk, .out, .ifl])
      (fun t i => (event_keeps t _ _ _ _ _ _).mono (by simp)) _ _)
  intro p hp; cases p <;> first | rfl | simp at hp

theorem endCause_keepsRegs (s : State) (key : Word) : s.keepsRegs (s.endCause key) [GLB_EVT_SEQ] :=
  State.keepsRegs.trans (t := { s with rep.incidents := _ }) (fun _ _ => rfl)
    (State.keepsRegs.foldl (fun t _ => event_keepsRegs t _ _ _ _ _ _) _ _)

/-! The end of a packet. -/

/-- The end of a packet leaves every register but the generation's, which advances under 02 R47. -/
theorem finish_regs (s : State) (o : Origin) (p : Packet) (e st d : Nat) (l : List Byte) :
    (s.finish o p e st d l).regs =
      (if gensUp p.opcode.toNat && st == OK && !(p.opcode == 0x20 && bit p.flags.toNat 5) then s.bumpGen else s).regs := by
  simp only [State.finish]
  cases gensUp p.opcode.toNat && st == OK && !(p.opcode == 0x20 && bit p.flags.toNat 5) <;>
    cases p.quiet && st == OK <;> simp only [if_true, if_false, Bool.false_eq_true, sendTo_regs] <;> split <;> rfl

theorem finish_keepsRegs (s : State) (o : Origin) (p : Packet) (e st d : Nat) (l : List Byte) :
    s.keepsRegs (s.finish o p e st d l) [GLB_CFG_GEN] := by
  intro a ha
  rw [reg_congr (finish_regs s o p e st d l) a]
  split
  · exact reg_bump_other s (by simpa using ha)
  · rfl

/-- The generation after a packet's end (02 R47). -/
theorem finish_gen (s : State) (o : Origin) (p : Packet) (e st d : Nat) (l : List Byte) :
    (s.finish o p e st d l).gen =
      if gensUp p.opcode.toNat && st == OK && !(p.opcode == 0x20 && bit p.flags.toNat 5) then s.gen + 1 else s.gen := by
  rw [show (s.finish o p e st d l).gen = _ from reg_congr (finish_regs s o p e st d l) _]
  split
  · exact gen_bumpGen s
  · rfl

/-- The end of a packet changes the generation, the journal, the sessions and what the reply's destination holds. -/
theorem finish_keeps (s : State) (o : Origin) (p : Packet) (e st d : Nat) (l : List Byte) :
    s.keeps (s.finish o p e st d l) [.regs, .pk, .rep, .out, .ifl] := by
  have hs (t : State) (n r) : t.keeps (t.sendTo o n r) [.regs, .pk, .rep, .out, .ifl] :=
    (sendTo_keeps t o n r).mono (by simp)
  have hb : s.keeps s.bumpGen [.regs, .pk, .rep, .out, .ifl] := (bump_keeps s _).mono (by simp)
  have hr (j : List JournalRec) : s.keeps { s.bumpGen with rep.journal := j } [.regs, .pk, .rep, .out, .ifl] :=
    hb.trans (by intro x hx; cases x <;> first | rfl | simp at hx)
  have hf (t : State) (g) : t.keeps (t.setSession o g) [.regs, .pk, .rep, .out, .ifl] := by
    intro x hx; cases x <;> first | rfl | simp at hx
  simp only [State.finish]
  cases gensUp p.opcode.toNat && st == OK && !(p.opcode == 0x20 && bit p.flags.toNat 5) <;>
    cases p.quiet && st == OK <;> by_cases h : p.opcode = 0x04 <;> simp only [h, if_true, if_false, Bool.false_eq_true]
  · exact hs _ _ _
  · exact (hf _ _).trans (hs _ _ _)
  · exact State.keeps.refl s _
  · exact hf _ _
  · exact (hr _).trans (hs _ _ _)
  · exact ((hr _).trans (hf _ _)).trans (hs _ _ _)
  · exact hr _
  · exact (hr _).trans (hf _ _)

end Sys2Proof.Machine
end

