-- ==== Sys2Proof/Laws/PerInstr.lean ====
section
/-!
SUPPORT. The payload of every well-formed packet row fits a packet: one lemma per command.
-/
namespace Sys2Proof.Laws.SentFits

/-- The request that a well-formed row sends has a payload of at most 4,080 bytes (02 R35). -/
def Statement (i : Instr) : Prop :=
  i.wf = true → ∀ o op r, i.sent = some (o, op, r) → r.payload.length ≤ 4080

/-- A request that fits, as the one that a row sends. -/
theorem of_fits {o o' : Origin} {c c' : Byte} {r r' : Request} (h : r.fits = true)
    (e : some (o, c, r) = some (o', c', r')) : r'.payload.length ≤ 4080 := by
  cases e
  exact of_decide_eq_true h

theorem nop (o : Origin) (r : Request) : Statement (.nop o r) := fun h _ _ _ e => of_fits h e
theorem ident (o : Origin) (r : Request) : Statement (.ident o r) := fun h _ _ _ e => of_fits h e
theorem status (o : Origin) (r : Request) : Statement (.status o r) := fun h _ _ _ e => of_fits h e
theorem sessionOpen (o : Origin) (r : Request) : Statement (.sessionOpen o r) := fun h _ _ _ e => of_fits h e
theorem sessionClose (o : Origin) (r : Request) : Statement (.sessionClose o r) := fun h _ _ _ e => of_fits h e
theorem tableLoad (o : Origin) (r : Request) : Statement (.tableLoad o r) := fun h _ _ _ e => of_fits h e
theorem tableCommit (o : Origin) (r : Request) : Statement (.tableCommit o r) := fun h _ _ _ e => of_fits h e
theorem tableDelete (o : Origin) (r : Request) : Statement (.tableDelete o r) := fun h _ _ _ e => of_fits h e
theorem tableList (o : Origin) (r : Request) : Statement (.tableList o r) := fun h _ _ _ e => of_fits h e
theorem progSubmit (o : Origin) (r : Request) : Statement (.progSubmit o r) := fun h _ _ _ e => of_fits h e
theorem progStart (o : Origin) (r : Request) : Statement (.progStart o r) := fun h _ _ _ e => of_fits h e
theorem progStopEndOfSegment (o : Origin) (r : Request) :
    Statement (.progStopEndOfSegment o r) := fun h _ _ _ e => of_fits ((Bool.and_eq_true _ _).mp h).1 e
theorem progStopImmediate (o : Origin) (r : Request) :
    Statement (.progStopImmediate o r) := fun h _ _ _ e => of_fits ((Bool.and_eq_true _ _).mp h).1 e
theorem progWithdraw (o : Origin) (r : Request) : Statement (.progWithdraw o r) := fun h _ _ _ e => of_fits h e
theorem progStatus (o : Origin) (r : Request) : Statement (.progStatus o r) := fun h _ _ _ e => of_fits h e
theorem fireConfig (o : Origin) (r : Request) : Statement (.fireConfig o r) := fun h _ _ _ e => of_fits h e
theorem matrixConfig (o : Origin) (r : Request) : Statement (.matrixConfig o r) := fun h _ _ _ e => of_fits h e
theorem budgetSet (o : Origin) (r : Request) : Statement (.budgetSet o r) := fun h _ _ _ e => of_fits h e
theorem shortTest (o : Origin) (r : Request) : Statement (.shortTest o r) := fun h _ _ _ e => of_fits h e
theorem chainWrite (o : Origin) (r : Request) (sdi : List Byte) :
    Statement (.chainWrite o r sdi) := fun h _ _ _ e => of_fits h e
theorem wireWrite (o : Origin) (r : Request) : Statement (.wireWrite o r) := fun h _ _ _ e => of_fits h e
theorem threshSet (o : Origin) (r : Request) : Statement (.threshSet o r) := fun h _ _ _ e => of_fits h e
theorem chanEnable (o : Origin) (r : Request) : Statement (.chanEnable o r) := fun h _ _ _ e => of_fits h e
theorem captureMode (o : Origin) (r : Request) : Statement (.captureMode o r) := fun h _ _ _ e => of_fits h e
theorem eventInput (o : Origin) (r : Request) : Statement (.eventInput o r) := fun h _ _ _ e => of_fits h e
theorem freqMeasure (o : Origin) (r : Request) : Statement (.freqMeasure o r) := fun h _ _ _ e => of_fits h e
theorem engLoad (o : Origin) (r : Request) : Statement (.engLoad o r) := fun h _ _ _ e => of_fits h e
theorem engCommit (o : Origin) (r : Request) : Statement (.engCommit o r) := fun h _ _ _ e => of_fits h e
theorem engMap (o : Origin) (r : Request) : Statement (.engMap o r) := fun h _ _ _ e => of_fits h e
theorem engControlRun (o : Origin) (r : Request) :
    Statement (.engControlRun o r) := fun h _ _ _ e => of_fits ((Bool.and_eq_true _ _).mp h).1 e
theorem engControlHalt (o : Origin) (r : Request) :
    Statement (.engControlHalt o r) := fun h _ _ _ e => of_fits ((Bool.and_eq_true _ _).mp h).1 e
theorem wfAlloc (o : Origin) (r : Request) : Statement (.wfAlloc o r) := fun h _ _ _ e => of_fits h e
theorem wfGain (o : Origin) (r : Request) : Statement (.wfGain o r) := fun h _ _ _ e => of_fits h e
theorem captureConfig (o : Origin) (r : Request) : Statement (.captureConfig o r) := fun h _ _ _ e => of_fits h e
theorem captureArm (o : Origin) (r : Request) : Statement (.captureArm o r) := fun h _ _ _ e => of_fits h e
theorem captureTrigger (o : Origin) (r : Request) : Statement (.captureTrigger o r) := fun h _ _ _ e => of_fits h e
theorem loopCoef (o : Origin) (r : Request) : Statement (.loopCoef o r) := fun h _ _ _ e => of_fits h e
theorem loopSwap (o : Origin) (r : Request) : Statement (.loopSwap o r) := fun h _ _ _ e => of_fits h e
theorem loopSetpoint (o : Origin) (r : Request) : Statement (.loopSetpoint o r) := fun h _ _ _ e => of_fits h e
theorem loopMode (o : Origin) (r : Request) : Statement (.loopMode o r) := fun h _ _ _ e => of_fits h e
theorem loopIo (o : Origin) (r : Request) : Statement (.loopIo o r) := fun h _ _ _ e => of_fits h e
theorem timeRead (o : Origin) (r : Request) : Statement (.timeRead o r) := fun h _ _ _ e => of_fits h e
theorem timeIncr (o : Origin) (r : Request) : Statement (.timeIncr o r) := fun h _ _ _ e => of_fits h e
theorem timeStep (o : Origin) (r : Request) : Statement (.timeStep o r) := fun h _ _ _ e => of_fits h e
theorem crossStamp (o : Origin) (r : Request) : Statement (.crossStamp o r) := fun h _ _ _ e => of_fits h e
theorem launchAt (o : Origin) (r : Request) : Statement (.launchAt o r) := fun h _ _ _ e => of_fits h e
theorem refSelect (o : Origin) (r : Request) : Statement (.refSelect o r) := fun h _ _ _ e => of_fits h e
theorem hkSequence (o : Origin) (r : Request) : Statement (.hkSequence o r) := fun h _ _ _ e => of_fits h e
theorem hkChannel (o : Origin) (r : Request) : Statement (.hkChannel o r) := fun h _ _ _ e => of_fits h e
theorem thermThresh (o : Origin) (r : Request) : Statement (.thermThresh o r) := fun h _ _ _ e => of_fits h e
theorem thermSubst (o : Origin) (r : Request) : Statement (.thermSubst o r) := fun h _ _ _ e => of_fits h e
theorem safStatus (o : Origin) (r : Request) : Statement (.safStatus o r) := fun h _ _ _ e => of_fits h e
theorem safParam (o : Origin) (r : Request) : Statement (.safParam o r) := fun h _ _ _ e => of_fits h e
theorem safAbort (o : Origin) (r : Request) : Statement (.safAbort o r) := fun h _ _ _ e => of_fits h e
theorem repSummary (o : Origin) (r : Request) : Statement (.repSummary o r) := fun h _ _ _ e => of_fits h e
theorem repMigrate (o : Origin) (r : Request) : Statement (.repMigrate o r) := fun h _ _ _ e => of_fits h e
theorem repSelftest (o : Origin) (r : Request) : Statement (.repSelftest o r) := fun h _ _ _ e => of_fits h e
theorem regRead (o : Origin) (r : Request) : Statement (.regRead o r) := fun h _ _ _ e => of_fits h e
theorem regWrite (o : Origin) (r : Request) : Statement (.regWrite o r) := fun h _ _ _ e => of_fits h e
theorem regModify (o : Origin) (r : Request) : Statement (.regModify o r) := fun h _ _ _ e => of_fits h e
theorem memRead (o : Origin) (r : Request) : Statement (.memRead o r) := fun h _ _ _ e => of_fits h e
theorem memWrite (o : Origin) (r : Request) : Statement (.memWrite o r) := fun h _ _ _ e => of_fits h e
theorem snapshot (o : Origin) (r : Request) : Statement (.snapshot o r) := fun h _ _ _ e => of_fits h e
theorem snapshotRelease (o : Origin) (r : Request) : Statement (.snapshotRelease o r) := fun h _ _ _ e => of_fits h e
theorem calRun (o : Origin) (r : Request) : Statement (.calRun o r) := fun h _ _ _ e => of_fits h e
theorem calActivate (o : Origin) (r : Request) : Statement (.calActivate o r) := fun h _ _ _ e => of_fits h e
theorem calStatus (o : Origin) (r : Request) : Statement (.calStatus o r) := fun h _ _ _ e => of_fits h e
theorem treeStatus (o : Origin) (r : Request) : Statement (.treeStatus o r) := fun h _ _ _ e => of_fits h e
theorem treeConfig (o : Origin) (r : Request) : Statement (.treeConfig o r) := fun h _ _ _ e => of_fits h e
theorem workerResync (o : Origin) (r : Request) : Statement (.workerResync o r) := fun h _ _ _ e => of_fits h e
theorem fwWrite (o : Origin) (r : Request) : Statement (.fwWrite o r) := fun h _ _ _ e => of_fits h e
theorem fwActivate (o : Origin) (r : Request) : Statement (.fwActivate o r) := fun h _ _ _ e => of_fits h e
theorem resetFirmwareRestart (o : Origin) (r : Request) :
    Statement (.resetFirmwareRestart o r) := fun h _ _ _ e => of_fits ((Bool.and_eq_true _ _).mp h).1 e
theorem resetMeasuringCore (o : Origin) (r : Request) :
    Statement (.resetMeasuringCore o r) := fun h _ _ _ e => of_fits ((Bool.and_eq_true _ _).mp h).1 e
theorem resetWholeDevice (o : Origin) (r : Request) :
    Statement (.resetWholeDevice o r) := fun h _ _ _ e => of_fits ((Bool.and_eq_true _ _).mp h).1 e
theorem resetTakesEffect : Statement .resetTakesEffect := fun _ _ _ _ e => nomatch e
theorem flashRead (o : Origin) (r : Request) : Statement (.flashRead o r) := fun h _ _ _ e => of_fits h e
theorem packetForward (o : Origin) (opcode : Byte) (r : Request) :
    Statement (.packetForward o opcode r) := fun h _ _ _ e => of_fits h e
theorem packetDiscard (o : Origin) (raw : List Byte) : Statement (.packetDiscard o raw) := fun _ _ _ _ e => nomatch e
theorem stageTimeout (o : Origin) : Statement (.stageTimeout o) := fun _ _ _ _ e => nomatch e
theorem snapshotDone (h : Fin 4) : Statement (.snapshotDone h) := fun _ _ _ _ e => nomatch e
theorem snapshotExpiry (h : Fin 4) : Statement (.snapshotExpiry h) := fun _ _ _ _ e => nomatch e
theorem registerWrite (path : RegPath) (addr : Nat) (values : List Word) :
    Statement (.registerWrite path addr values) := fun _ _ _ _ e => nomatch e
theorem mspiWritePacket (raw : List Byte) : Statement (.mspiWritePacket raw) := fun _ _ _ _ e => nomatch e
theorem mspiReadReply : Statement .mspiReadReply := fun _ _ _ _ e => nomatch e
theorem mspiReadStatus : Statement .mspiReadStatus := fun _ _ _ _ e => nomatch e
theorem responderTakeover : Statement .responderTakeover := fun _ _ _ _ e => nomatch e
theorem outCmdqTail (n : Fin 4) (tail : Word) (packets : List (List Byte)) :
    Statement (.outCmdqTail n tail packets) := fun _ _ _ _ e => nomatch e
theorem outRplqTail (n : Fin 4) (tail : Word) (bufLens : List Nat) :
    Statement (.outRplqTail n tail bufLens) := fun _ _ _ _ e => nomatch e
theorem outDringTail (n : Fin 16) (tail : Word) (bufs : List RingBuf) :
    Statement (.outDringTail n tail bufs) := fun _ _ _ _ e => nomatch e
theorem functionLevelReset : Statement .functionLevelReset := fun _ _ _ _ e => nomatch e
theorem pciePerst : Statement .pciePerst := fun _ _ _ _ e => nomatch e
theorem arpRequest (port : Fin 4) (targetIp : Word) (senderMac : Long) (senderIp : Word) :
    Statement (.arpRequest port targetIp senderMac senderIp) := fun _ _ _ _ e => nomatch e
theorem dringIrq (n : Fin 16) : Statement (.dringIrq n) := fun _ _ _ _ e => nomatch e
theorem shotCommit : Statement .shotCommit := fun _ _ _ _ e => nomatch e
theorem budgetIdleUpdate (g : Fin 4) : Statement (.budgetIdleUpdate g) := fun _ _ _ _ e => nomatch e
theorem programStartInstant (pid : Fin 64) : Statement (.programStartInstant pid) := fun _ _ _ _ e => nomatch e
theorem fireEdge (stamp : Option Stamp) : Statement (.fireEdge stamp) := fun _ _ _ _ e => nomatch e
theorem fireStampMissing (shot : Long) : Statement (.fireStampMissing shot) := fun _ _ _ _ e => nomatch e
theorem waitReleased (pid : Fin 64) : Statement (.waitReleased pid) := fun _ _ _ _ e => nomatch e
theorem waitTimeout (pid : Fin 64) : Statement (.waitTimeout pid) := fun _ _ _ _ e => nomatch e
theorem otPinShutdown : Statement .otPinShutdown := fun _ _ _ _ e => nomatch e
theorem otClear (value : Word) (pinLow : Bool) : Statement (.otClear value pinLow) := fun _ _ _ _ e => nomatch e
theorem shortTestDone (readings : List (Nat × Nat)) :
    Statement (.shortTestDone readings) := fun _ _ _ _ e => nomatch e
theorem chainLatch : Statement .chainLatch := fun _ _ _ _ e => nomatch e
theorem chainLatTimeout : Statement .chainLatTimeout := fun _ _ _ _ e => nomatch e
theorem wireDone : Statement .wireDone := fun _ _ _ _ e => nomatch e
theorem loopEvaluation (k : Fin 16) : Statement (.loopEvaluation k) := fun _ _ _ _ e => nomatch e
theorem pwmPeriod (n : Fin 16) : Statement (.pwmPeriod n) := fun _ _ _ _ e => nomatch e
theorem spiFrame (miso : BitVec 24) : Statement (.spiFrame miso) := fun _ _ _ _ e => nomatch e
theorem encoderEdge (n : Fin 2) (chanB : Bool) (rising : Bool) (stamp : Stamp) :
    Statement (.encoderEdge n chanB rising stamp) := fun _ _ _ _ e => nomatch e
theorem encoderIndex (n : Fin 2) (stamp : Stamp) : Statement (.encoderIndex n stamp) := fun _ _ _ _ e => nomatch e
theorem comparatorEdge (c : Fin 512) (upper : Bool) (rising : Bool) (stamp : Stamp) :
    Statement (.comparatorEdge c upper rising stamp) := fun _ _ _ _ e => nomatch e
theorem pulserInject (t : Fin 567) (upper : Bool) (stamp : Stamp) :
    Statement (.pulserInject t upper stamp) := fun _ _ _ _ e => nomatch e
theorem liveTableUpdate (t : Fin 567) (upper : Bool) :
    Statement (.liveTableUpdate t upper) := fun _ _ _ _ e => nomatch e
theorem laneHold (t : Fin 567) (upper : Bool) : Statement (.laneHold t upper) := fun _ _ _ _ e => nomatch e
theorem thresholdApply (c : Fin 512) : Statement (.thresholdApply c) := fun _ _ _ _ e => nomatch e
theorem watermarkStall (t : Fin 567) : Statement (.watermarkStall t) := fun _ _ _ _ e => nomatch e
theorem evEdge (k : Fin 8) (rising : Bool) (stamp : Stamp) :
    Statement (.evEdge k rising stamp) := fun _ _ _ _ e => nomatch e
theorem freqGateClose (k : Fin 8) : Statement (.freqGateClose k) := fun _ _ _ _ e => nomatch e
theorem passOpen (e : Fin 68) (shot : Long) : Statement (.passOpen e shot) := fun _ _ _ _ e => nomatch e
theorem hitRelease (e : Fin 68) : Statement (.hitRelease e) := fun _ _ _ _ e => nomatch e
theorem burstTest (e : Fin 68) : Statement (.burstTest e) := fun _ _ _ _ e => nomatch e
theorem passClose (e : Fin 68) (shot : Long) : Statement (.passClose e shot) := fun _ _ _ _ e => nomatch e
theorem groupHandover (e : Fin 68) : Statement (.groupHandover e) := fun _ _ _ _ e => nomatch e
theorem engineTimer (e : Fin 68) : Statement (.engineTimer e) := fun _ _ _ _ e => nomatch e
theorem runStart (e : Fin 68) : Statement (.runStart e) := fun _ _ _ _ e => nomatch e
theorem primNop (e : Fin 68) : Statement (.primNop e) := fun _ _ _ _ e => nomatch e
theorem primEnd (e : Fin 68) : Statement (.primEnd e) := fun _ _ _ _ e => nomatch e
theorem primBranch (e : Fin 68) : Statement (.primBranch e) := fun _ _ _ _ e => nomatch e
theorem primLoop (e : Fin 68) : Statement (.primLoop e) := fun _ _ _ _ e => nomatch e
theorem primWait (e : Fin 68) : Statement (.primWait e) := fun _ _ _ _ e => nomatch e
theorem waitResume (e : Fin 68) : Statement (.waitResume e) := fun _ _ _ _ e => nomatch e
theorem primChan (e : Fin 68) : Statement (.primChan e) := fun _ _ _ _ e => nomatch e
theorem primSetv (e : Fin 68) : Statement (.primSetv e) := fun _ _ _ _ e => nomatch e
theorem primMovv (e : Fin 68) : Statement (.primMovv e) := fun _ _ _ _ e => nomatch e
theorem primAddv (e : Fin 68) : Statement (.primAddv e) := fun _ _ _ _ e => nomatch e
theorem primSubv (e : Fin 68) : Statement (.primSubv e) := fun _ _ _ _ e => nomatch e
theorem primMulv (e : Fin 68) : Statement (.primMulv e) := fun _ _ _ _ e => nomatch e
theorem primLdv (e : Fin 68) : Statement (.primLdv e) := fun _ _ _ _ e => nomatch e
theorem primStv (e : Fin 68) : Statement (.primStv e) := fun _ _ _ _ e => nomatch e
theorem primGetd (e : Fin 68) : Statement (.primGetd e) := fun _ _ _ _ e => nomatch e
theorem primGetp (e : Fin 68) : Statement (.primGetp e) := fun _ _ _ _ e => nomatch e
theorem primFlag (e : Fin 68) : Statement (.primFlag e) := fun _ _ _ _ e => nomatch e
theorem primBin (e : Fin 68) : Statement (.primBin e) := fun _ _ _ _ e => nomatch e
theorem primClear (e : Fin 68) : Statement (.primClear e) := fun _ _ _ _ e => nomatch e
theorem primCopy (e : Fin 68) : Statement (.primCopy e) := fun _ _ _ _ e => nomatch e
theorem primDecay (e : Fin 68) : Statement (.primDecay e) := fun _ _ _ _ e => nomatch e
theorem primVadd (e : Fin 68) : Statement (.primVadd e) := fun _ _ _ _ e => nomatch e
theorem primVscale (e : Fin 68) : Statement (.primVscale e) := fun _ _ _ _ e => nomatch e
theorem primConv (e : Fin 68) : Statement (.primConv e) := fun _ _ _ _ e => nomatch e
theorem primVsum (e : Fin 68) : Statement (.primVsum e) := fun _ _ _ _ e => nomatch e
theorem primVmax (e : Fin 68) : Statement (.primVmax e) := fun _ _ _ _ e => nomatch e
theorem primVmin (e : Fin 68) : Statement (.primVmin e) := fun _ _ _ _ e => nomatch e
theorem primPscan (e : Fin 68) : Statement (.primPscan e) := fun _ _ _ _ e => nomatch e
theorem primCentroid (e : Fin 68) : Statement (.primCentroid e) := fun _ _ _ _ e => nomatch e
theorem primParab (e : Fin 68) : Statement (.primParab e) := fun _ _ _ _ e => nomatch e
theorem primPlain (e : Fin 68) : Statement (.primPlain e) := fun _ _ _ _ e => nomatch e
theorem primValley (e : Fin 68) : Statement (.primValley e) := fun _ _ _ _ e => nomatch e
theorem primColtest (e : Fin 68) : Statement (.primColtest e) := fun _ _ _ _ e => nomatch e
theorem primClassify (e : Fin 68) : Statement (.primClassify e) := fun _ _ _ _ e => nomatch e
theorem primGhost (e : Fin 68) : Statement (.primGhost e) := fun _ _ _ _ e => nomatch e
theorem primVeil (e : Fin 68) : Statement (.primVeil e) := fun _ _ _ _ e => nomatch e
theorem primEmit (e : Fin 68) : Statement (.primEmit e) := fun _ _ _ _ e => nomatch e
theorem primDump (e : Fin 68) : Statement (.primDump e) := fun _ _ _ _ e => nomatch e
theorem primEmitev (e : Fin 68) : Statement (.primEmitev e) := fun _ _ _ _ e => nomatch e
theorem emitResume (e : Fin 68) : Statement (.emitResume e) := fun _ _ _ _ e => nomatch e
theorem primXstamp (e : Fin 68) : Statement (.primXstamp e) := fun _ _ _ _ e => nomatch e
theorem xstampComplete (e : Fin 68) : Statement (.xstampComplete e) := fun _ _ _ _ e => nomatch e
theorem primStload (e : Fin 68) : Statement (.primStload e) := fun _ _ _ _ e => nomatch e
theorem recordBuild (pid : Fin 64) : Statement (.recordBuild pid) := fun _ _ _ _ e => nomatch e
theorem frameClose (pid : Fin 64) : Statement (.frameClose pid) := fun _ _ _ _ e => nomatch e
theorem frameTransmit (server : Fin 5) : Statement (.frameTransmit server) := fun _ _ _ _ e => nomatch e
theorem frameDelivered (server : Fin 5) : Statement (.frameDelivered server) := fun _ _ _ _ e => nomatch e
theorem streamStallSuspend (pid : Fin 64) : Statement (.streamStallSuspend pid) := fun _ _ _ _ e => nomatch e
theorem ambientCheck (c : Fin 512) : Statement (.ambientCheck c) := fun _ _ _ _ e => nomatch e
theorem allocEffect : Statement .allocEffect := fun _ _ _ _ e => nomatch e
theorem gainBoundary (input : Fin 16) : Statement (.gainBoundary input) := fun _ _ _ _ e => nomatch e
theorem gainTimeout (input : Fin 16) : Statement (.gainTimeout input) := fun _ _ _ _ e => nomatch e
theorem apply (l : Fin 16) : Statement (.apply l) := fun _ _ _ _ e => nomatch e
theorem disarm (u : Fin 16) : Statement (.disarm u) := fun _ _ _ _ e => nomatch e
theorem triggerSample (u : Fin 16) (codes : List Byte) :
    Statement (.triggerSample u codes) := fun _ _ _ _ e => nomatch e
theorem captureEnd (u : Fin 16) (codes : List Byte) : Statement (.captureEnd u codes) := fun _ _ _ _ e => nomatch e
theorem rearmDone (u : CaptureSeen) : Statement (.rearmDone u) := fun _ _ _ _ e => nomatch e
theorem captureAreaFree (u : CaptureSeen) : Statement (.captureAreaFree u) := fun _ _ _ _ e => nomatch e
theorem wfdRotationStep (shadow : List Int) (trims : List Byte) :
    Statement (.wfdRotationStep shadow trims) := fun _ _ _ _ e => nomatch e
theorem wfdSliceMigration (j : Fin 17) : Statement (.wfdSliceMigration j) := fun _ _ _ _ e => nomatch e
theorem hkCycleStart : Statement .hkCycleStart := fun _ _ _ _ e => nomatch e
theorem hkStep (path : Fin 2) (codes : List (BitVec 16)) (iexCurrent : Nat) :
    Statement (.hkStep path codes iexCurrent) := fun _ _ _ _ e => nomatch e
theorem hkMonitorReport (path : Fin 2) (short : Bool) :
    Statement (.hkMonitorReport path short) := fun _ _ _ _ e => nomatch e
theorem go : Statement .go := fun _ _ _ _ e => nomatch e
theorem hkRotationStep (shadow : List Int) (trims : List Byte) :
    Statement (.hkRotationStep shadow trims) := fun _ _ _ _ e => nomatch e
theorem hkSliceMigration (j : Fin 3) : Statement (.hkSliceMigration j) := fun _ _ _ _ e => nomatch e
theorem thermalReading (readings : List (Option Int)) :
    Statement (.thermalReading readings) := fun _ _ _ _ e => nomatch e
theorem throttleStepChange : Statement .throttleStepChange := fun _ _ _ _ e => nomatch e
theorem appliedSetBuild : Statement .appliedSetBuild := fun _ _ _ _ e => nomatch e
theorem calAutoRun : Statement .calAutoRun := fun _ _ _ _ e => nomatch e
theorem calRunEnd (result : CalResult) : Statement (.calRunEnd result) := fun _ _ _ _ e => nomatch e
theorem firstCalStart : Statement .firstCalStart := fun _ _ _ _ e => nomatch e
theorem calsetWriteback (k : Fin 8) : Statement (.calsetWriteback k) := fun _ _ _ _ e => nomatch e
theorem warmupGate (stamps : List Quad) : Statement (.warmupGate stamps) := fun _ _ _ _ e => nomatch e
theorem ocxoWarmChange (level : Bool) : Statement (.ocxoWarmChange level) := fun _ _ _ _ e => nomatch e
theorem clockLoss (clock : Clock) : Statement (.clockLoss clock) := fun _ _ _ _ e => nomatch e
theorem clockReturn (clock : Clock) : Statement (.clockReturn clock) := fun _ _ _ _ e => nomatch e
theorem refLock (ok : Bool) : Statement (.refLock ok) := fun _ _ _ _ e => nomatch e
theorem ptpCorrectionEffect (p : Fin 4) : Statement (.ptpCorrectionEffect p) := fun _ _ _ _ e => nomatch e
theorem ptpWrap (p : Fin 4) (forward : Bool) : Statement (.ptpWrap p forward) := fun _ _ _ _ e => nomatch e
theorem counterWrap : Statement .counterWrap := fun _ _ _ _ e => nomatch e
theorem ptpIngress (p : Fin 4) (udpPort : Half) (payload : List Byte) (tEvt : Quad) (tEdge : Quad) :
    Statement (.ptpIngress p udpPort payload tEvt tEdge) := fun _ _ _ _ e => nomatch e
theorem launch (p : Fin 4) (tEvt : Quad) (tEdge : Quad) :
    Statement (.launch p tEvt tEdge) := fun _ _ _ _ e => nomatch e
theorem crossStampEvent (edge : EventEdge) : Statement (.crossStampEvent edge) := fun _ _ _ _ e => nomatch e
theorem crossStampTimeout : Statement .crossStampTimeout := fun _ _ _ _ e => nomatch e
theorem safetyCycle (pins : SafetyPins) : Statement (.safetyCycle pins) := fun _ _ _ _ e => nomatch e
theorem spdinEdge (t : Quad) : Statement (.spdinEdge t) := fun _ _ _ _ e => nomatch e
theorem speedBelowLimit : Statement .speedBelowLimit := fun _ _ _ _ e => nomatch e
theorem guardDisc : Statement .guardDisc := fun _ _ _ _ e => nomatch e
theorem guardTestDone : Statement .guardTestDone := fun _ _ _ _ e => nomatch e
theorem brakeFeedbackCheck (sw : Fin 6) : Statement (.brakeFeedbackCheck sw) := fun _ _ _ _ e => nomatch e
theorem testPulse (which : Nat) (fb : Bool) : Statement (.testPulse which fb) := fun _ _ _ _ e => nomatch e
theorem watchdogExpiry : Statement .watchdogExpiry := fun _ _ _ _ e => nomatch e
theorem safetyTelegram (port : Fin 2) (data : List Byte) :
    Statement (.safetyTelegram port data) := fun _ _ _ _ e => nomatch e
theorem statusTelegram : Statement .statusTelegram := fun _ _ _ _ e => nomatch e
theorem safParamPairTimeout : Statement .safParamPairTimeout := fun _ _ _ _ e => nomatch e
theorem paramActivate (writeOk : Bool) : Statement (.paramActivate writeOk) := fun _ _ _ _ e => nomatch e
theorem paramLapse : Statement .paramLapse := fun _ _ _ _ e => nomatch e
theorem outputRefreshTimeout (out : Nat) : Statement (.outputRefreshTimeout out) := fun _ _ _ _ e => nomatch e
theorem islandReset (cause : Nat) : Statement (.islandReset cause) := fun _ _ _ _ e => nomatch e
theorem islandPowerOn (stores : List (List Byte)) : Statement (.islandPowerOn stores) := fun _ _ _ _ e => nomatch e
theorem incidentWindowClose (iseq : Word) : Statement (.incidentWindowClose iseq) := fun _ _ _ _ e => nomatch e
theorem incidentFrameRepeat (seq : Half) : Statement (.incidentFrameRepeat seq) := fun _ _ _ _ e => nomatch e
theorem tdcMigration (c : Fin 512) : Statement (.tdcMigration c) := fun _ _ _ _ e => nomatch e
theorem engineMigration (uncopyable : List Nat) :
    Statement (.engineMigration uncopyable) := fun _ _ _ _ e => nomatch e
theorem heartbeatTimeout (e : Fin 68) : Statement (.heartbeatTimeout e) := fun _ _ _ _ e => nomatch e
theorem ccSwitchover : Statement .ccSwitchover := fun _ _ _ _ e => nomatch e
theorem thrumiWatchdog : Statement .thrumiWatchdog := fun _ _ _ _ e => nomatch e
theorem pairRejoin (ok : Bool) : Statement (.pairRejoin ok) := fun _ _ _ _ e => nomatch e
theorem bistPeriodic : Statement .bistPeriodic := fun _ _ _ _ e => nomatch e
theorem repairMapWriteback : Statement .repairMapWriteback := fun _ _ _ _ e => nomatch e
theorem sramError (addr : Nat) : Statement (.sramError addr) := fun _ _ _ _ e => nomatch e
theorem sramRowRepair (macro_ : Nat) (row : Nat) : Statement (.sramRowRepair macro_ row) := fun _ _ _ _ e => nomatch e
theorem sramScrub (errs : List Nat) : Statement (.sramScrub errs) := fun _ _ _ _ e => nomatch e
theorem retrain (c : Fin 2) (passes : List Bool) : Statement (.retrain c passes) := fun _ _ _ _ e => nomatch e
theorem dramRowRepair (row : DramRow) (pprOk : Bool) :
    Statement (.dramRowRepair row pprOk) := fun _ _ _ _ e => nomatch e
theorem dramUncorrectable (addr : Nat) : Statement (.dramUncorrectable addr) := fun _ _ _ _ e => nomatch e
theorem channelFallback (c : Fin 2) : Statement (.channelFallback c) := fun _ _ _ _ e => nomatch e
theorem blockLock (p : Fin 4) : Statement (.blockLock p) := fun _ _ _ _ e => nomatch e
theorem timeExchange (p : Fin 4) (x : Exchange) : Statement (.timeExchange p x) := fun _ _ _ _ e => nomatch e
theorem linkJoin : Statement .linkJoin := fun _ _ _ _ e => nomatch e
theorem linkDown (p : Fin 4) : Statement (.linkDown p) := fun _ _ _ _ e => nomatch e
theorem syncFull (shot : Long) : Statement (.syncFull shot) := fun _ _ _ _ e => nomatch e
theorem syncShot (pid : Fin 64) (low16 : Half) (low26 : BitVec 26) (arrival : Long) :
    Statement (.syncShot pid low16 low26 arrival) := fun _ _ _ _ e => nomatch e
theorem waitReport (dev : Fin 16) (tag : Half) : Statement (.waitReport dev tag) := fun _ _ _ _ e => nomatch e
theorem waitRelease (tag : Half) (low32 : Word) : Statement (.waitRelease tag low32) := fun _ _ _ _ e => nomatch e
theorem ack (seq : Half) : Statement (.ack seq) := fun _ _ _ _ e => nomatch e
theorem linkFrame (p : Fin 4) (kind : Fin 16) (dev : Fin 16) (sess : Byte) (seq : Half) (data : List Byte) (crcOk : Bool) :
    Statement (.linkFrame p kind dev sess seq data crcOk) := fun _ _ _ _ e => nomatch e
theorem porst (powerUp : Bool) (straps : Byte) (bootId : Word) :
    Statement (.porst powerUp straps bootId) := fun _ _ _ _ e => nomatch e
theorem loading : Statement .loading := fun _ _ _ _ e => nomatch e
theorem bringup (b : BringupInputs) : Statement (.bringup b) := fun _ _ _ _ e => nomatch e
theorem ready : Statement .ready := fun _ _ _ _ e => nomatch e
theorem ethFrameReceived (p : Fin 4) (frame : List Byte) :
    Statement (.ethFrameReceived p frame) := fun _ _ _ _ e => nomatch e
theorem pcieLinkTrained (width : Nat) (speed : Nat) :
    Statement (.pcieLinkTrained width speed) := fun _ _ _ _ e => nomatch e
theorem porstLAssert : Statement .porstLAssert := fun _ _ _ _ e => nomatch e
theorem parityError (engine : Bool) (idx : Nat) : Statement (.parityError engine idx) := fun _ _ _ _ e => nomatch e
theorem runLongerThanWcet (e : Fin 68) : Statement (.runLongerThanWcet e) := fun _ _ _ _ e => nomatch e
theorem lockstepMismatch : Statement .lockstepMismatch := fun _ _ _ _ e => nomatch e
theorem dramScrub (errs : List Nat) : Statement (.dramScrub errs) := fun _ _ _ _ e => nomatch e
theorem fwActivateDone : Statement .fwActivateDone := fun _ _ _ _ e => nomatch e
theorem selftestDone (failed : List (Nat × Nat)) : Statement (.selftestDone failed) := fun _ _ _ _ e => nomatch e

end Sys2Proof.Laws.SentFits
end

