-- ==== Sys2Proof/Laws/Serve.lean ====
section
/-!
SUPPORT. What an accepted packet does: its opcode's effect, and then its end.
-/
namespace Sys2Proof.Machine

/-- The sequence rules let an accepted sequence through. -/
theorem sequenced_of_accepts (s : State) (op : OpSpec) (o : Origin) (p : Packet) (e : Nat) (y : Session)
    (hy : s.session o = some y) (h : y.accepts p.sequence = true) :
    s.sequenced op o p e =
      (s.setSession o fun z => { z with newest := some p.sequence }).perform op o p e := by
  simp only [Session.accepts, Bool.and_eq_true, Bool.not_eq_true', List.any_eq_false] at h
  have hc : y.cache.find? (fun x => x.sequence == p.sequence) = none := by
    rw [List.find?_eq_none]; exact h.1
  simp only [State.sequenced, hy, hc]
  cases hn : y.newest with
  | none => rfl
  | some n =>
    have := h.2
    simp only [hn, decide_eq_true_eq] at this
    have hl : ¬ 32768 ≤ (p.sequence - n).toNat := by omega
    simp only [hl, if_false]

/-- A packet that arrives is carried out behind its opcode's checks. -/
theorem serve_arrived {s u : State} {op : OpSpec} {o : Origin} {r : Request} {e : Nat}
    (h : s.arrived op.opcode o r = some (u, e)) : s.serve op o r = u.perform op o (r.packet op.opcode) e := by
  unfold State.arrived at h
  unfold State.serve
  simp only at h ⊢
  split at h
  · cases h
  rename_i hd
  rw [if_neg hd]
  split at h
  · cases h
  rename_i x hx
  try simp only [hx]
  split at h
  · cases h
  rename_i hf
  unfold State.handle
  rw [if_neg hf]
  split at h
  · cases h
  rename_i t ht
  try simp only [ht]
  split at h
  · cases h
  rename_i hdev
  rw [if_neg hdev]
  split at h
  · cases h
  rename_i y hy
  split at h
  · rename_i hq
    rw [sequenced_of_accepts _ _ _ _ _ y hy hq]
    cases h
    rfl
  · cases h

/-- A packet that arrives and fails a check before its effect is answered with that check's status. -/
theorem serve_turnedDown {s u : State} {op : OpSpec} {o : Origin} {r : Request} {e : Nat} {x : Nat × Nat}
    (h : s.arrived op.opcode o r = some (u, e))
    (hx : firstFail [u.opChecks op o (r.packet op.opcode), u.stateChecks op (r.packet op.opcode) e] = some x) :
    s.serve op o r = (u.turnDown (r.packet op.opcode) o x.1).answeredRefusal op.opcode o r e x.1 x.2 := by
  rw [serve_arrived h]
  simp only [State.perform, hx]
  rfl

/-- An accepted packet has its opcode's effect in the state where it begins, and then is answered, waits, or has
been answered by its effect. -/
theorem serve_accepted {s u : State} {op : OpSpec} {o : Origin} {r : Request} {e : Nat}
    (h : s.accepted op o r = some (u, e)) :
    s.serve op o r =
      (let p := r.packet op.opcode
       let d := op.act u o p
       if d.taken then d.st
       else if d.defer then
         { d.st with pk.deferred := some { origin := o, packet := p, entered := e, since := u.time } }
       else d.st.finish o p e d.status d.detail d.payload) := by
  unfold State.accepted at h
  split at h
  · cases h
  rename_i x hx
  split at h
  · cases h
  rename_i hc
  cases h
  rw [serve_arrived hx]
  simp only [State.perform, hc]

/-- No check of a list fails when none of them does. -/
theorem firstFail_eq_none : ∀ {l : List Check}, firstFail l = none ↔ ∀ x ∈ l, x = none
  | [] => by simp [firstFail]
  | some x :: t => by simp [firstFail]
  | none :: t => by simp [firstFail, firstFail_eq_none (l := t)]

/-- An accepted packet has a length that fits its opcode, and passes the check of its parameters. -/
theorem accepted_checked {s u : State} {op : OpSpec} {o : Origin} {r : Request} {e : Nat}
    (h : s.accepted op o r = some (u, e)) : op.lengthOk r.payload = true ∧ op.check u r.payload = none := by
  unfold State.accepted at h
  split at h
  · cases h
  split at h
  · cases h
  rename_i hc
  cases h
  have ho : u.opChecks op o (r.packet op.opcode) = none := firstFail_eq_none.mp hc _ (by simp)
  have hl := firstFail_eq_none.mp ho
  have h1 := hl (need (op.lengthOk r.payload) BAD_LENGTH) (by simp [Request.packet])
  refine ⟨?_, hl _ (by simp [Request.packet])⟩
  revert h1
  cases op.lengthOk r.payload <;> simp [need]

/-- An accepted packet whose effect ends OK is answered so. -/
theorem serve_answered {s u t : State} {op : OpSpec} {o : Origin} {r : Request} {e : Nat} {pl : List Byte}
    (h : s.accepted op o r = some (u, e))
    (ha : op.act u o (r.packet op.opcode) = { st := t, payload := pl }) :
    s.serve op o r = t.answered op.opcode o r e pl := by
  rw [serve_accepted h]; simp only [ha]; rfl

/-- An accepted packet whose effect completes later is answered ACCEPTED. -/
theorem serve_answeredAccepted {s u t : State} {op : OpSpec} {o : Origin} {r : Request} {e : Nat} {pl : List Byte}
    (h : s.accepted op o r = some (u, e))
    (ha : op.act u o (r.packet op.opcode) = { st := t, status := ACCEPTED, payload := pl }) :
    s.serve op o r = t.answeredAccepted op.opcode o r e pl := by
  rw [serve_accepted h]; simp only [ha]; rfl

/-- An accepted packet that its opcode refuses is answered so. -/
theorem serve_answeredRefusal {s u t : State} {op : OpSpec} {o : Origin} {r : Request} {e st dt : Nat}
    (h : s.accepted op o r = some (u, e))
    (ha : op.act u o (r.packet op.opcode) = t.refuse st dt) :
    s.serve op o r = t.answeredRefusal op.opcode o r e st dt := by
  rw [serve_accepted h]; simp only [ha]; rfl

/-- An accepted packet whose reply waits is held. -/
theorem serve_deferring {s u t : State} {op : OpSpec} {o : Origin} {r : Request} {e : Nat}
    (h : s.accepted op o r = some (u, e))
    (ha : op.act u o (r.packet op.opcode) = { st := t, defer := true }) :
    s.serve op o r = t.deferring op.opcode o r e u.time := by
  rw [serve_accepted h]; simp only [ha]; rfl

/-! Bytes that a transport delivers (02 R39, R43, R57). -/

/-- Where an origin takes nothing, what arrives changes nothing. -/
theorem receive_deaf {s : State} {o : Origin} {raw : List Byte} (h : s.deaf o = true) : s.receive o raw = s := by
  simp [State.receive, h]

/-- A sound packet of the table enters its queue. -/
theorem receive_sound {s : State} {o : Origin} {raw : List Byte} {p : Packet} (h : s.deaf o = false)
    (hp : soundPacket raw = some p) (hk : knownOpcodes.contains p.opcode.toNat = true) :
    s.receive o raw = s.enqueue o (.packet p) := by
  simp only [State.receive, h, hp, hk]; rfl

/-- Bytes that fail a first check are discarded when they are taken. -/
theorem receive_taken {s t : State} {o : Origin} {raw : List Byte} {e : Nat} (h : s.deaf o = false)
    (hp : soundPacket raw = none) (ht : s.taken o (.raw raw) = some (e, t)) :
    s.receive o raw = t.discard o raw e := by
  simp only [State.receive, h, hp, ht]; rfl

/-- Bytes that fail a first check and cannot be taken wait in their queue. -/
theorem receive_waits {s : State} {o : Origin} {raw : List Byte} (h : s.deaf o = false)
    (hp : soundPacket raw = none) (ht : s.taken o (.raw raw) = none) :
    s.receive o raw = if s.waits o (.raw raw) = true then s else s.enqueue o (.raw raw) := by
  simp only [State.receive, h, hp, ht]; rfl

end Sys2Proof.Machine
end

