-- ==== Sys2Proof/Tests/Slice0.lean ====
section
/-!
SUPPORT. Small states, the checks of WellFormed, and for every clause of every statement a state and operands that meet
its hypotheses.
-/
namespace Sys2Proof.Tests
open Sys2Proof.Machine
set_option Elab.async false

/-- A device in READY whose firmware serves packets. -/
def ready : State :=
  { State.reset with boot := { Boot.reset with phase := .ready, firmware := true, responder := false } }

/-- A request of class 0 for a unit of device 0. -/
def req (unit : Byte) (payload : List Byte) (flags : Byte := 0) : Request :=
  { flags := flags, status := 0, sequence := 1, target := unit, cls := 0, gen := 0, payload := payload }

/-- A staged transfer of an object. -/
def stage (obj : StageObj) (data : List Byte) (whole : Bool) : Stage :=
  { obj := obj, data := data, dataMem := [], gen := 0, cas := false, whole := whole, last := 0 }

/-- A device whose MSPI session holds a staged transfer. -/
def staged (obj : StageObj) (data : List Byte) (whole : Bool) : State :=
  ready.setStage .mspi (some (stage obj data whole))

/-- A shot table of one dark entry. -/
def oneShot : List Byte := leBytes 4 10000 ++ [0, 0, 0, 0] ++ leBytes 2 1 ++ [0, 0, 0, 0, 0, 0]

/-- A table of the table store. -/
def table (kind id : Nat) (data : List Byte) : Table :=
  { kind := BitVec.ofNat 8 kind, id := BitVec.ofNat 16 id, data := data, gen := 1, offset := 0x800 }

/-- A device whose table store holds one shot table. -/
def tabled : State := { ready with pg.tables := [table 1 5 oneShot] }

/-- A device that holds program 3, of an empty image, in a state. -/
def withProg (st : ProgState) : State :=
  { ready with
    pg.progs := (List.replicate 64 none).set 3 (some { Prog.fresh [] 1 0x800 with state := st }), pg.admitted := [3] }

/-- A beam set of one beam: output FIRE0, wavelength group 0, receive group 0. -/
def oneBeam : List Byte := [1, 0xFF, 0, 0, 0, 0, 0, 0, 1] ++ List.replicate 23 0

/-- A Pass window set of one window of 16 bins from 0. -/
def onePass : List Byte := [1] ++ List.replicate 15 0 ++ List.replicate 8 0 ++ [16, 0] ++ List.replicate 6 0

/-- A detection profile. -/
def oneProfile : List Byte :=
  leBytes 4 1 ++ [1, 0, 0, 0] ++ List.replicate 8 0 ++ leBytes 2 0x100 ++ List.replicate 16 0 ++ leBytes 2 256 ++
    [0, 1, 0, 0] ++ leBytes 4 1 ++ [0, 0] ++ leBytes 2 0x100 ++ List.replicate 80 0

/-- A program image of one segment that names tables 5 of kinds 1 to 4, of a PCIe stream to data ring 0. -/
def image : List Byte :=
  [1, 0] ++ leBytes 2 1 ++ [0, 0, 0, 0] ++ leBytes 4 1000000 ++ leBytes 2 32 ++ leBytes 2 16 ++
    leBytes 4 128 ++ [0x01, 0x15, 0x19, 0xF8] ++ List.replicate 8 0 ++
    ([0, 0] ++ leBytes 2 1000 ++ leBytes 2 100 ++ leBytes 2 8 ++ List.replicate 24 0 ++ leBytes 4 1 ++
      List.replicate 28 0) ++
    (leBytes 2 5 ++ leBytes 2 5 ++ leBytes 2 5 ++ leBytes 2 5 ++ [0xFF, 0xFF] ++ leBytes 2 0 ++ leBytes 2 1 ++
      [0xFF, 0xFF] ++ List.replicate 16 0)

/-- A device whose table store holds the tables of the image. -/
def loaded : State :=
  { ready with
    pg.tables := [table 1 5 oneShot, { table 2 5 oneBeam with offset := 0x900 },
      { table 3 5 onePass with offset := 0xA00 }, { table 4 5 oneProfile with offset := 0xB00 }] }

/-- The state in which the effect of an accepted MSPI packet begins. -/
def began (s : State) (op : OpSpec) (r : Request) : State :=
  match s.accepted op .mspi r with
  | some x => x.1
  | none => s

/-- Admission passes when each of its checks does. -/
theorem admits {s : State} {ms : List Member}
    (h : [s.capacityCheck ms 0x01, s.flightCheck ms, s.overlapCheck ms, s.capacityCheck ms 0x04,
      s.capacityCheck ms 0x05, s.capacityCheck ms 0x06, s.slotCheck ms, s.reserveCheck ms, s.capacityCheck ms 0x09,
      s.capacityCheck ms 0x0A, s.capacityCheck ms 0x0B, s.capacityCheck ms 0x0C, s.stageCheck ms,
      s.capacityCheck ms 0x0E, s.capacityCheck ms 0x0F, s.capacityCheck ms 0x10, s.latencyCheck ms].all
        Option.isNone = true) : (s.admission ms).isNone = true := by
  simp only [List.all_cons, List.all_nil, Bool.and_eq_true, Option.isNone_iff_eq_none] at h
  simp [State.admission, List.findSome?, h]

/-- The last packet of a submission of the image, alone and behind its first half. -/
def wholeImage : Request := req 1 ([3, 0, 0, 0] ++ image)
def secondHalf : Request := req 1 ([3, 0, 0, 0] ++ image.drop 64)
def halfStaged : State := loaded.setStage .mspi (some (stage (.program 3) (image.take 64) false))
def alone : State := (began loaded progSubmitOp wholeImage).setStage .mspi none

/-- The CRC-32C of a string, from that of its front. -/
theorem crc_drop (n : Nat) (l : List Byte) (i c : Word) (h : (l.take n).foldl crcByte i = c) :
    l.foldl crcByte i = (l.drop n).foldl crcByte c := by
  rw [← h, ← List.foldl_append, List.take_append_drop]

/-- The CRC-32C of a string from those of its quarters. -/
theorem crc_quarters {l : List Byte} {n : Nat} {a b c d : Word} (ha : (l.take n).foldl crcByte 0xFFFFFFFF#32 = a)
    (hb : ((l.drop n).take n).foldl crcByte a = b) (hc : (((l.drop n).drop n).take n).foldl crcByte b = c)
    (hd : (((l.drop n).drop n).drop n).foldl crcByte c ^^^ 0xFFFFFFFF#32 = d) : crc32c l = d := by
  rw [crc32c, crc_drop n _ _ _ ha, crc_drop n _ _ _ hb, crc_drop n _ _ _ hc, hd]

/-- The CRC of the image holds. -/
theorem image_crc : crcBlank image 20 = BitVec.ofNat 32 (imCrc image) :=
  (crc_quarters (n := 32) (a := 0x75e1fe35#32) (b := 0x93985d4b#32) (c := 0x42b301a2#32) (d := 0xf8191501#32)
    (by decide +kernel) (by decide +kernel) (by decide +kernel) (by decide +kernel) :
      crc32c (patch image 20 (leBytes 4 0)) = 0xf8191501#32).trans (by decide +kernel)

/-- An image whose CRC holds passes the checks of its bytes when it passes the others. -/
theorem checkImage_of_crc {d : List Byte} {w : Bool} {c : Nat} (hc : crcBlank d 20 = BitVec.ofNat 32 (imCrc d))
    (h : firstFail ([need (imLength d == d.length && d.length == 96 + 32 * imSegs d) BAD_LENGTH,
      inImage (field d 0 2 == 1) 0, inImage (within (imSegs d) 1 256) 2, inImage (decide (imFirst d < imSegs d)) 4,
      inImage (within (imNg d) 1000000 2000000) 8, inImage (decide (32 ≤ imMinSpacing d)) 12,
      inImage (decide (16 ≤ imGuard d)) 14] ++
      checkStream (imStream d) w c ++ (List.range (imSegs d)).flatMap (checkSeg d)) = none) :
    checkImage d w c = none := by
  have hp : need (decide (crcBlank d 20 = BitVec.ofNat 32 (imCrc d))) IMAGE_INVALID = none := by simp [need, hc]
  rw [checkImage, hp]
  revert h
  cases hn : need (imLength d == d.length && d.length == 96 + 32 * imSegs d) BAD_LENGTH <;> simp [firstFail]

/-- A submission passes its checks when the program ID is free, the image passes its own, its tables exist and the
rules across them hold. -/
theorem submitCheck_none {s : State} {pid : Nat} {d : List Byte} (h1 : (s.prog pid).isNone = true)
    (h2 : checkImage d (s.role == 2) (s.fld GLB_CMD_UDP_PORT 15 0) = none) (h3 : s.tablesExist d = true)
    (h4 : s.crossRules d = true) : s.submitCheck pid d = none := by
  simp [State.submitCheck, need, h1, h2, h3, h4]

/-- The image passes every check of its submission but admission. -/
theorem image_checked : alone.submitCheck 3 image = none :=
  submitCheck_none (by decide +kernel) (checkImage_of_crc image_crc (by decide +kernel)) (by decide +kernel)
    (by decide +kernel)

/-- A device that holds program 3, of the image, in a state. -/
def withImage (st : ProgState) : State :=
  { loaded with
    pg.progs := (List.replicate 64 none).set 3 (some { Prog.fresh image 1 0xC00 with state := st })
    pg.admitted := [3] }

/-- A device with one driver board of status words of 8 bytes. -/
def oneBoard : State := ready.setRegN EMT_CHAIN_CFG 0x7C000801

/-- A packet that waits since time 0. -/
def waiting : Deferred := { origin := .mspi, packet := (req 2 []).packet 0x34, entered := 0, since := 0 }

/-- A chain frame waits for its latch, with no shot ahead, 10 ms after its shift. -/
def latching : State :=
  { ready with
    emt.chainRead := some ([], 0), pk.deferred := some waiting, time := 12500000, tim.shot := 12500000 }

/-- A stamp of tick 4. -/
def atTick4 : Stamp := { tick := 4, tap := 1, res := 2 }

/-- A device with channel 3 enabled, whose lower lane is blind until a tick. -/
def edging (blind : Nat) : State :=
  (ready.setRegN (HCH_CFG 3) 0x00070101).setTdc 3 fun x => { x with lower := { x.lower with blindUntil := blind } }

/-- A device whose lower lane of TDC 3 is converged and has its stamps. -/
def struck : State :=
  ready.setTdc 3 fun x => { x with lower := { x.lower with state := 2, total := ready.nCal, updated := some 0 } }

/-- The same, its stamps spread over the taps and one residue step below each width. -/
def thin : State :=
  struck.setTdc 3 fun x =>
    { x with lower := { x.lower with
        a := List.replicate 32 (1024 * 65536), g := 5120, n := List.replicate 32 (ready.nCal / 32)
        m := List.replicate 32 (ready.nCal / 32 * 51) } }

/-- A frequency measurement of input 7 whose gate has passed. -/
def gated : State :=
  { ready with
    tim.shot := 10000000
    hch.freq := ready.hch.freq.set 7 (some
      { owner := .mspi, sequence := 1, gate := 1250000, first := some 0, lastT := 0, n := 1, st := 0, sit := 0
        blind := false, rate := false, warm := true }) }

/-- A device whose program 3 runs, its pass begun, 112 ticks before its first shot. -/
def running : State :=
  { loaded with
    pg.progs := (List.replicate 64 none).set 3 (some
      { Prog.fresh image 1 0xC00 with state := .running, released := true, passTabs := loaded.pg.tables })
    pg.admitted := [3], tim.shot := 200 }

/-- A device whose program 3 waits for its start tick. -/
def starting : State :=
  { loaded with
    pg.progs := (List.replicate 64 none).set 3 (some
      { Prog.fresh image 1 0xC00 with state := .armed, startMode := 1, startTick := 100 })
    tim.shot := 100 }

/-- The image with a wait for event input 0 (kind 3) and a timeout in ms. -/
def waitImage (tmo : Byte) : List Byte :=
  image.take 116 ++ [3, 0, tmo, 0, 1, 0, 0, 0] ++ List.replicate 4 0

/-- A device whose program 3 waits, released at once where it has no timeout, and expired where it has one. -/
def held (tmo : Byte) : State :=
  { loaded with
    pg.progs := (List.replicate 64 none).set 3 (some
      { Prog.fresh (waitImage tmo) 1 0xC00 with
        state := .waiting, waitHit := if tmo = 0 then some 64 else none, passTabs := loaded.pg.tables })
    tim.shot := 1250000 }

/-- A device with one committed DARK shot whose fire time has come. -/
def firing : State :=
  match running.nextPlan, running.prog 3 with
  | some p, some q => { running with seq.efu := [running.shotOf q p 0], tim.shot := 20000 }
  | _, _ => running

/-- A chain frame waits for its latch, a program is live and its next shot is known 4,000 units ahead. -/
def liveLatching : State :=
  { latching with
    pg := (withProg .running).pg
    seq.efu := firing.seq.efu.map fun x =>
      { x with flags := 0, edgeDone := false, fire := latching.unitNow + 4000, commit := 12500000 } }

/-- An image of some words, whose every entry is their first, with a timer of 10 us. -/
def endWord : Nat := 0x0100000000000000
def imageOf (ws : List Nat) : List Byte :=
  [1, 0] ++ leBytes 2 ws.length ++ [0, 0, 8, 0] ++ [0, 0, 0, 0, 0, 0, 0, 0] ++ leBytes 4 10 ++ List.replicate 12 0 ++
    ws.flatMap (leBytes 8)
def endImage : List Byte := imageOf [endWord]

/-- A device whose engine 0 holds an image of some words, idle with its INIT event queued. -/
def imaged (ws : List Nat) : State :=
  ready.setEng 0 fun y =>
    { y.commitImage (imageOf ws) [] 0 false 0 with
      st := .idle, events := [{ kind := .init, tick := 0, shot := none, group := none }] }

/-- A device whose program has committed one shot, before its Pass has opened, and one whose Pass has. -/
def committed : State :=
  match exec .shotCommit running with
  | .next t => { t with tim.shot := 30000 }
  | _ => running
def opened : State :=
  match exec (.passOpen 0 0) committed with
  | .next t => t
  | _ => committed

/-- A hit of channel 3 at tick 4. -/
def oneHit : Hit :=
  { chan := 3
    l := { rising := true, upper := false, blind := false, spare := false, tdc := 3, tick := 4, tap := 1, res := 2 }
    u := none, d := none }

/-- A device that has merged the stamp of that hit. -/
def heard : State := { ready.setTdc 3 fun x => { x with queue := [oneHit.l] } with tim.shot := 1000 }

/-- A device whose engine 0 has begun a run of some words. -/
def inRun (ws : List Nat) : State :=
  match exec (.runStart 0) (imaged ws) with
  | .next t => t
  | _ => ready

/-- A run that executes a word of a code before END. -/
def atOp (op : Nat) : State := inRun [op * 2 ^ 56, endWord]
def reaches (op : Nat) : Bool := ((atOp op).primAt 0).any fun x => x.2.2.op == op

/-- A device whose run waits: for its cycles, or for the watermark to pass tick 0. -/
def waited (kind : Nat) : State :=
  let s := (atOp 0x04).setRun 0 fun r =>
    { r with waiting := some (min kind 1, 0, 3, if kind = 1 then 2 ^ 31 else 0) }
  { s with tim.shot := 100 }

/-- A record, a frame of it, and streams to data ring 0 and to ETH3 that hold them. -/
def oneRec : Rec := { bytes := List.replicate 16 1, key := 1, chan := none, origin := 7, frees := none, pid := none }
def oneFrame : Frame :=
  { stream := 63, device := 0, recs := [oneRec], isLast := false, stalled := false, fseq := 0, deadline := 7, key0 := 1
    lost := 0, raw := none }
def pcieDesc : List Byte := [0, 0, 100, 0, 10, 0, 0, 1] ++ List.replicate 28 0
def ethDesc : List Byte := [1, 3, 100, 0, 10, 0, 0, 1] ++ List.replicate 28 0
def streaming : State := ready.setStream 63 fun y => { y with desc := pcieDesc, waiting := [oneRec] }
def opening : State :=
  { ready.setStream 63 fun y => { y with desc := pcieDesc, openFr := some { recs := [oneRec], opened := 0 } } with
    time := 12500 }
def closing : State :=
  { ready.setStream 63 fun y => { y with desc := pcieDesc, closed := [oneFrame] } with
    out.pcieUp := true
    out.rings := ready.out.rings.set 0
      { enabled := true, baseSet := true, bufs := [{ address := 0, length := 4096 }], unsig := 0, firstAt := 0, irqs := 0 } }
def closingEth : State :=
  { ready.setStream 63 fun y => { y with desc := ethDesc, closed := [oneFrame] } with
    out.ethUp := [true, true, true, true] }
def replying : State :=
  { ready with
    out.pcieUp := true, out.packets := [{ dest := .ring 3, deadline := 5, packet := (req 0 []).packet 0 }]
    pk.rings := ready.pk.rings.set 3
      { enabled := true, cmdBase := true, rplBase := true, cmdHead := 0, rplHead := 0, replyBufs := [4100], dry := none
        irqs := 0 } }

/-- A device with input 0 on lane 0 in mode 0, a unit that can be armed there, is armed with a command trigger, and
has taken its trigger sample. -/
def laned : State :=
  (({ ready with wfd.mode := 0, wfd.laneIn := (0 : Byte) :: List.replicate 15 0xFF, tim.shot := 1000 }.setRegN
    (WFD_CAP_AREA_SIZE 0) 0x100000).setRegN (WFD_CAP_AREA_FREE 0) 0x100000).setRegN (WFD_CAP_POST 0) 16
def armedUnit : State :=
  (laned.setRegN (WFD_CAP_SRC 0) 64).setCap 0 fun x => { x with st := .armed, armedAt := 0, cands := [(6, 6400)] }
def posting : State :=
  (({ ready with wfd.laneIn := (15 : Byte) :: List.replicate 15 0xFF, tim.shot := 100000 }.setRegN
    (WFD_CAP_POST 0) 16).setRegN (WFD_CAP_AREA_FREE 0) 0).setCap 0 fun x => { x with st := .post, armedAt := 0, trigIdx := 3 }

/-- A device whose slice rotation is due. -/
def turning : State := { ready.setRegN WFD_ROT_CFG 0x10064 with time := 1000000000 }

/-- A bank with DIV 800 and output limits -1 and 1, and a loop that holds it, runs and is due. -/
def oneBank : List Byte :=
  [1, 0, 0, 0] ++ leBytes 4 800 ++ [0xFF, 0xFF, 1, 0] ++ List.replicate 100 0
def banked : State :=
  ready.setLoop 15 fun l =>
    { l with active := oneBank, shadow := oneBank, actValid := true, shdValid := true, inSel := 0x20, outSel := 0xFF }
def looping : State :=
  { banked.setLoop 15 fun l => { l with mode := 2, nextAt := 0 } with time := 1000, tim.shot := 1000 }

/-- A device with encoder 1 on. -/
def turningEnc : State := ready.setRegN (CLE_ENC_CFG 1) 1

/-- A device that runs a housekeeping step of input 0 with excitation on path 1, whose time has come. -/
def stepping : State :=
  { ready.setHkPath 1 fun p =>
      { p with step := some { step := { code := 0, avg := 0, settle := 0 }, start := 0, injected := false, cfg := 2 ^ 23, cycle := 0, left := 0, made := true } } with
    time := 10000 }

/-- A device whose housekeeping rotation is due. -/
def rotating : State := { ready.setRegN HKA_ROT_CFG 0x10001 with time := 1250000 }

/-- A device in a calibration run of fire leads, with a cause of failure or none. -/
def inCal (cause : Nat) : State :=
  { ready with
    thm.run := some { mask := 0x20, started := 0, tRun := 0, owner := none, first := false, cause := cause, tapAt := none } }

/-- A device in a calibration run of its lanes, none of which has converged. -/
def inLanes : State :=
  { inCal 0 with thm.run := (inCal 0).thm.run.map fun r => { r with mask := 1 } }

/-- A device in a calibration run of its comparators, its applied trims beyond their limits. -/
def badTrims : State :=
  { inCal 0 with
    thm.run := (inCal 0).thm.run.map (fun r => { r with mask := 4 })
    thm.applied := [{ version := 1, effect := 0, bytes := List.replicate calLength 1 }] }

/-- A migration of a unit under a command. -/
def leaving (kind failed : Nat) : Migration :=
  { kind := kind, failed := failed, commanded := true, owner := none, stopped := 0, detected := 0, decideAt := 0
    replaced := false }

/-- A device whose island runs, 100 s after its start, and one that holds a staged block, its guard open since the
start. -/
def islanded : State := { ready with saf.st := .run, saf.cycleAt := some 1, tim.safe25 := 250000000000 }
def staging : State := { islanded with saf.staged := some ([], 0), saf.openFrom := some 0 }

/-- A little-endian field of four bytes reads back. -/
theorem field_word (l : List Byte) (w : Word) : field (l ++ leBytes 4 w.toNat) l.length 4 = w.toNat := by
  have h := w.isLt
  simp [field, slice, leBytes, leNat]
  omega

/-- The factory parameter block passes its checks. -/
theorem sound_block : blockSound factoryBlock = true := by
  have hl : factoryBody.length = 124 := by simp [factoryBody, leBytes]
  have h2 : field factoryBlock 0 2 = 1 := by
    simp [factoryBlock, factoryBody, field, slice, leBytes, leNat]
  have ht : factoryBlock.take 124 = factoryBody := by
    rw [factoryBlock, ← hl, List.take_left]
  have hf : field factoryBlock 124 4 = (scrc factoryBody).toNat := by
    rw [factoryBlock, ← hl]; exact field_word _ _
  have hn : factoryBlock.length = 128 := by
    rw [factoryBlock, List.length_append, hl]; rfl
  simp [blockSound, ht, hf, h2, hn]

/-- A valid command copy of network 0 from controller 0 to ball 0 that asks for nothing, without its SCRC and with it. -/
def demandBody : List Byte := [0x5A, 0x54, 0x01, 0x02] ++ List.replicate 4 0 ++ leBytes 4 1 ++ List.replicate 48 0
def demand : List Byte := demandBody ++ leBytes 4 (scrc demandBody).toNat

/-- Its fields, whatever its SCRC. -/
def demandOf (w : Word) : List Byte := demandBody ++ leBytes 4 w.toNat
theorem demand_sound : (scrc (demand.take 60) == BitVec.ofNat 32 (field demand 60 4)) = true := by
  have hl : demandBody.length = 60 := by simp [demandBody, leBytes]
  have ht : demand.take 60 = demandBody := by rw [demand, ← hl, List.take_left]
  have hf : field demand 60 4 = (scrc demandBody).toNat := by rw [demand, ← hl]; exact field_word _ _
  simp [ht, hf]
theorem demand_ok :
    let d := demand
    let s : State := { islanded with saf.mailIn := [MailIn.telegram 0 d], saf.sent := [(0, 10000000000)] }
    s.copyOk 0 d = true ∧ bit (field (slice (uninvert 0 d) 24 32) 0 1) 0 = false ∧
      bit (field (slice (uninvert 0 d) 24 32) 0 1) 1 = false := by
  intro d s
  have h := demand_sound
  have hd : d = demandOf (scrc demandBody) := rfl
  have hs : s.saf.active = factoryBlock ∧ s.saf.sent = [(0, 10000000000)] ∧ s.safeNow = 10000000000 ∧
      s.saf.newest = [none, none] := by
    refine ⟨rfl, rfl, by decide, rfl⟩
  obtain ⟨ha, hsent, hn, hnew⟩ := hs
  have hc : pbCtrl factoryBlock = 0 := by
    simp [pbCtrl, factoryBlock, factoryBody, field, slice, leBytes, leNat]
  have ho : pbOwn factoryBlock = 0 := by
    simp [pbOwn, factoryBlock, factoryBody, field, slice, leBytes, leNat]
  have hw : pbWd factoryBlock = 0 := by
    simp [pbWd, factoryBlock, factoryBody, field, slice, leBytes, leNat]
  refine ⟨?_, ?_, ?_⟩
  · simp only [State.copyOk, ha, hsent, hn, hnew, hc, ho, hw]
    rw [show (scrc (List.take 60 d) == BitVec.ofNat 32 (field d 60 4)) = true from h, hd]
    simp [demandOf, demandBody, uninvert, field, slice, leBytes, leNat, nth]
  · rw [hd]; simp [demandOf, demandBody, uninvert, field, slice, leBytes, leNat, bit]
  · rw [hd]; simp [demandOf, demandBody, uninvert, field, slice, leBytes, leNat, bit]

/-- A device whose two memory channels of 8 GB are up. -/
def ramUp : State :=
  ((({ ready with mem.capGB := 8 } : State)).setDram 0 fun x => { x with up := true, failed := false, spares := 2 }).setDram 1
    fun x => { x with up := true, failed := false, spares := 2 }

/-- A complete snapshot, and a device whose handle 1 holds it, 60 s later. -/
def oneSnapshot : Snapshot := { image := [], done := true, owner := .mspi, sequence := 1, last := 0 }
def snapped : State := { ready with pk.snapshots := [none, some oneSnapshot, none, none], time := 75000000000 }

/-- A NOP packet of MSPI as its bytes. -/
def nopBytes : List Byte := ((req 0 []).packet 0).bytes

/-- A manager whose port 0 leads to device 5. -/
def joined : State :=
  let s := ready.setRegN IFL_CFG 0x40000001
  { s with
    ifl.entries := [{ dev := 5, parent := 0, port := 0 }]
    ifl.ports := s.ifl.ports.set 0 { LinkPort.reset with state := 3 } }

/-- A frame for every station of type ARP, and an IPv4 datagram to the command port of ETH0 without a UDP checksum. -/
def arpFrame : List Byte :=
  let b := List.replicate 12 0xFF ++ [0x08, 0x06] ++ List.replicate 4 0
  b ++ leBytes 4 (etherFcs b).toNat
def commandDatagram : List Byte :=
  ipHeader 0 64 0 0x4000 8 [1, 2, 3, 4] (closingEth.portIp 0) ++ [0x10, 0x00] ++
    beBytes 2 (closingEth.fld GLB_CMD_UDP_PORT 15 0) ++ [0, 8, 0, 0]

/-- A worker whose parent port 0 has locked and made its exchanges, its clock 2^20 fine LSB ahead, and one whose program 3
waits for an announcement. -/
def working : State :=
  let s := ready.setRegN IFL_CFG 0x8060000F
  { s with
    ifl.ports := s.ifl.ports.set 0
      { LinkPort.reset with state := 2, locked := true, parent := true, count := 64, theta := 2 ^ 28 } }
def syncShotTable : List Byte := leBytes 4 10000 ++ [0, 0, 0, 0] ++ leBytes 2 0x21 ++ [0, 0, 0, 0, 0, 0]
def synced : State :=
  let ts := (table 1 5 syncShotTable) :: loaded.pg.tables.tail
  { working with
    pg := { running.pg with
      tables := ts
      progs := running.pg.progs.map (Option.map fun (q : Prog) => { q with passTabs := ts }) }
    ifl.syncFull := some 7 }

/-- The header of a firmware slot with an image of 4,096 erased bytes, and a device whose flash holds it in slot 0. -/
def erasedImage : List Byte := List.replicate 4096 0xFF
def slotBody (w : Word) : List Byte :=
  [0x4E, 0x52, 0x58, 0x46, 1, 0, 0, 0] ++ List.replicate 8 0 ++ leBytes 4 4096 ++ leBytes 4 w.toNat ++ List.replicate 36 0
def slotHead (w v : Word) : List Byte := slotBody w ++ leBytes 4 v.toNat
def slotWord : Word := crc32c erasedImage
def slotSum : Word := crc32c (slotBody slotWord)
def withFlash (f : List (Nat × Byte)) : State := { State.reset with boot := { Boot.reset with flash := f } }
def bootFlash : List (Nat × Byte) := Sparse.setMany erased [] (FL_SLOT 0) (slotHead slotWord slotSum)
def bootable : State := withFlash bootFlash

/-- What the header holds, whatever its checksums. -/
theorem slot_fields (w v : Word) :
    (slotHead w v).length = 64 ∧ (slotHead w v).take 60 = slotBody w ∧ field (slotHead w v) 60 4 = v.toNat ∧
      field (slotHead w v) 20 4 = w.toNat ∧ field (slotHead w v) 16 4 = 4096 ∧ field (slotHead w v) 4 2 = 1 ∧
      field (slotHead w v) 28 4 = 0 ∧ (slotHead w v).take 4 = [0x4E, 0x52, 0x58, 0x46] := by
  have hw := w.isLt
  have hv := v.isLt
  refine ⟨?_, ?_, ?_, ?_, ?_, ?_, ?_, ?_⟩ <;>
    simp [slotHead, slotBody, field, slice, leBytes, leNat] <;> omega
theorem header_of {f : List (Nat × Byte)} (hf : f = Sparse.setMany erased [] (FL_SLOT 0) (slotHead slotWord slotSum)) :
    (withFlash f).slotHeader 0 = slotHead slotWord slotSum := by
  have h := Sparse.getMany_setMany (d := erased) (slotHead slotWord slotSum) [] (FL_SLOT 0)
  rw [(slot_fields _ _).1, ← hf] at h
  exact h
theorem erased_of {f : List (Nat × Byte)} (hf : f = Sparse.setMany erased [] (FL_SLOT 0) (slotHead slotWord slotSum))
    (off n : Nat) (h : off + n ≤ FL_SLOT 0 ∨ FL_SLOT 0 + 64 ≤ off) :
    (withFlash f).flashRead off n = List.replicate n 0xFF := by
  refine List.ext_getElem (by simp [State.flashRead, Sparse.getMany]) ?_
  intro i h1 h2
  have hn : i < n := by simpa using h2
  have ho := Sparse.get_setMany_out (d := erased) (slotHead slotWord slotSum) [] (FL_SLOT 0) (off + i)
    (by rw [(slot_fields _ _).1]; omega)
  rw [← hf] at ho
  simp only [State.flashRead, Sparse.getMany, List.getElem_map, List.getElem_range, List.getElem_replicate]
  exact ho

/-- Its slot 0 is valid, and the boot mode chooses it. -/
theorem valid_of {f : List (Nat × Byte)} (hf : f = Sparse.setMany erased [] (FL_SLOT 0) (slotHead slotWord slotSum)) :
    (withFlash f).slotValid 0 = true := by
  obtain ⟨-, h60, hv, hw, hn, h4, h28, hh⟩ := slot_fields slotWord slotSum
  have he : crc32c ((withFlash f).flashRead (FL_SLOT 0 + 64) 4096) = slotWord :=
    congrArg crc32c (erased_of hf (FL_SLOT 0 + 64) 4096 (.inr (by omega)))
  have hs : crc32c (slotBody slotWord) = slotSum := rfl
  simp only [State.slotValid, header_of hf, h60, hv, hw, hn, h4, h28, hh, he, hs]
  simp [within]
theorem mode_of (f : List (Nat × Byte)) : (withFlash f).fld BOOT_CFG 1 0 = 0 :=
  show State.reset.fld BOOT_CFG 1 0 = 0 by decide +kernel
theorem slot_of {f : List (Nat × Byte)} (hf : f = Sparse.setMany erased [] (FL_SLOT 0) (slotHead slotWord slotSum)) :
    ((withFlash f).chosenSlot ((withFlash f).fld BOOT_CFG 1 0)).isSome = true := by
  have hc (c : Nat) (h : c < 2) : (withFlash f).headerCopy c = none := by
    have he := erased_of hf (FL_HEADER + 0x8000 * c) 32 (.inl (by simp only [FL_HEADER, FL_SLOT]; omega))
    simp only [State.headerCopy, he]
    rw [if_neg]
    simp
  have hb : (withFlash f).bootHeader = none := by simp [State.bootHeader, hc 0 (by omega), hc 1 (by omega)]
  simp [mode_of, State.chosenSlot, hb, valid_of hf]
theorem bootable_valid : bootable.slotValid 0 = true := valid_of rfl
theorem bootable_slot : (bootable.chosenSlot (bootable.fld BOOT_CFG 1 0)).isSome = true := slot_of rfl

/-! Obligations.SessionCommandsComplete -/

theorem witness_nop :
    (ready.accepted nopOp .mspi (req 0 [1, 2])).isSome = true := by decide +kernel

theorem witness_ident :
    (ready.accepted identOp .mspi (req 0 [])).isSome = true := by decide +kernel

theorem witness_status :
    (ready.accepted statusOp .mspi (req 0 [])).any (fun x => x.1.byResponder .mspi == false) = true := by decide +kernel

theorem witness_status_responder :
    (State.reset.accepted statusOp .mspi (req 0 [])).any (fun x => x.1.byResponder .mspi) = true := by decide +kernel

theorem witness_session_open :
    (ready.accepted sessionOpenOp .mspi (req 0 [1, 0, 0, 0])).any (fun x => (x.1.session .mspi).isSome) = true := by decide +kernel

theorem witness_session_close :
    (ready.accepted sessionCloseOp .mspi (req 0 [])).isSome = true := by decide +kernel

/-! Obligations.StagingAndTableCommandsComplete -/

theorem witness_table_load_first :
    (ready.accepted tableLoadOp .mspi (req 1 [4, 0, 5, 0, 0, 0, 0, 0, 7])).any (fun x => (x.1.stageOf .mspi).isNone) = true := by decide +kernel

theorem witness_table_load_anew :
    ((staged (.table 4 5) [1, 2, 3] true).accepted tableLoadOp .mspi (req 1 [4, 0, 5, 0, 0, 0, 0, 0, 7])).any (fun x => (x.1.stageOf .mspi).any fun t => t.whole && decide (t.obj = .table 4 5)) = true := by decide +kernel

theorem witness_table_load_next :
    ((staged (.table 4 5) [1, 2, 3] false).accepted tableLoadOp .mspi (req 1 [4, 0, 5, 0, 3, 0, 0, 0, 7])).any (fun x => (x.1.stageOf .mspi).any fun t => !t.whole && t.data.length == 3 && decide (t.obj = .table 4 5)) = true := by decide +kernel

theorem witness_table_load_gap :
    ((staged (.table 4 5) [1, 2, 3] false).accepted tableLoadOp .mspi (req 1 [4, 0, 5, 0, 1, 0, 0, 0, 7])).any (fun x => (x.1.stageOf .mspi).any fun t => !t.whole && t.data.length == 3 && decide (t.obj = .table 4 5)) = true := by decide +kernel

theorem witness_table_commit :
    ((staged (.table 1 5) oneShot true).accepted tableCommitOp .mspi (req 1 ([1, 0, 5, 0, 16, 0, 0, 0] ++ leBytes 4 (crc32c oneShot).toNat))).any (fun x => (x.1.stageOf .mspi).any (fun t => t.whole && !t.cas && decide (t.data = oneShot) && decide (t.obj = .table 1 5)) && okTable 1 oneShot && x.1.present.isEmpty && ((x.1.setStage .mspi none).findRun 16).isSome) = true := by decide +kernel

theorem witness_table_delete :
    (tabled.accepted tableDeleteOp .mspi (req 1 [1, 0, 5, 0])).any (fun x => (x.1.table 1 5).isSome && x.1.present.isEmpty && !x.1.selected 1 5) = true := by decide +kernel

theorem witness_table_list :
    (tabled.accepted tableListOp .mspi (req 1 [1, 0, 0, 0])).isSome = true := by decide +kernel

theorem witness_stage_timeout :
    (({ staged (.table 4 5) [1] false with time := 1250000000 }).session .mspi).any (fun x : Session => x.stage.any fun t : Stage => decide (t.last + 1250000000 ≤ 1250000000)) = true := by decide +kernel

/-! Obligations.ProgramCommandsComplete -/

theorem witness_prog_submit_more :
    (ready.accepted progSubmitOp .mspi (req 1 [0, 0, 0, 0, 1] 0x20)).any (fun x => (x.1.stageOf .mspi).isNone) = true := by decide +kernel

theorem witness_prog_submit_more_behind :
    ((halfStaged.accepted progSubmitOp .mspi (req 1 [3, 0, 0, 0, 1] 0x20)).any fun x =>
        (x.1.stageOf .mspi).any fun t : Stage => !t.whole && decide (t.obj = .program 3) &&
          decide (t.data.length + t.dataMem.length + 4080 ≤ 2 ^ 24)) = true := by decide +kernel

theorem witness_prog_submit_alone :
    ((loaded.accepted progSubmitOp .mspi wholeImage).isSome && ((began loaded progSubmitOp wholeImage).stageOf .mspi).isNone) = true ∧
      alone.submitCheck 3 image = none ∧ stRoute (imStream image) ≠ 2 ∧ (alone.findRun 128).isSome = true ∧
      (alone.admission (alone.admSet ++ [alone.member 3 image])).isNone = true := ⟨by decide +kernel, image_checked, by decide +kernel, by decide +kernel, admits (by decide +kernel)⟩

theorem witness_prog_submit_behind :
    ((halfStaged.accepted progSubmitOp .mspi secondHalf).isSome &&
        ((began halfStaged progSubmitOp secondHalf).stageOf .mspi).any fun t : Stage =>
          !t.whole && !t.cas && decide (t.obj = .program 3) && decide (t.data ++ image.drop 64 = image)) = true := by decide +kernel

theorem witness_prog_start :
    ((withProg .idle).accepted progStartOp .mspi (req 1 ([3, 0, 0] ++ List.replicate 9 0))).any (fun x => (x.1.prog 3).any fun q => (firstFail (x.1.startChecks 3 q)).isNone && q.state != .suspended) = true := by decide +kernel

theorem witness_prog_withdraw :
    ((withProg .idle).accepted progWithdrawOp .mspi (req 1 [3, 0, 0, 0])).any (fun x => (x.1.prog 3).any fun q => !q.live) = true := by decide +kernel

theorem witness_prog_status :
    ((withProg .idle).accepted progStatusOp .mspi (req 1 [3, 0, 0, 0])).any (fun x => (x.1.prog 3).isSome) = true := by decide +kernel

theorem witness_stop_immediate :
    ((withProg .running).accepted (progStopOp 1) .mspi (req 1 [3, 0, 1, 0])).any (fun x => (Instr.progStopImmediate .mspi (req 1 [3, 0, 1, 0])).wf && (x.1.prog 3).any fun q => q.live) = true := by decide +kernel

theorem witness_stop_end :
    ((withProg .running).accepted (progStopOp 0) .mspi (req 1 [3, 0, 0, 0])).any (fun x => (Instr.progStopEndOfSegment .mspi (req 1 [3, 0, 0, 0])).wf && (x.1.prog 3).any fun q => q.live) = true := by decide +kernel

theorem witness_stop_end_missing :
    (ready.accepted (progStopOp 0) .mspi (req 1 [3, 0, 0, 0])).any (fun x => (x.1.prog 3).isNone) = true := by decide +kernel

theorem witness_stop_immediate_missing :
    (ready.accepted (progStopOp 1) .mspi (req 1 [3, 0, 1, 0])).any (fun x => (x.1.prog 3).isNone) = true := by decide +kernel

/-! Obligations.EmitterConfigurationCompletes -/

theorem witness_fire_config :
    (ready.accepted fireConfigOp .mspi (req 2 [1, 2, 0, 0, 5, 0, 40, 0])).any (fun x => x.1.keepsRule State.groupRule) = true := by decide +kernel

theorem witness_fire_config_refused :
    ((withImage .idle).accepted fireConfigOp .mspi (req 2 [0, 1, 0, 0, 5, 0, 40, 0])).any (fun x =>
      x.1.fld (EMT_FIRE_MODE 0) 1 0 != 1 &&
        !((x.1.setRegN (EMT_FIRE_TIME 0) 0x280005).setFld (EMT_FIRE_MODE 0) 1 0 1).keepsRule State.groupRule) = true := by decide +kernel

theorem witness_matrix_config :
    (ready.accepted matrixConfigOp .mspi (req 2 [1, 0, 0, 0, 1, 0, 0, 0, 10, 0, 20, 0])).any (fun x => x.1.keepsRule State.matrixRule) = true := by decide +kernel

theorem witness_budget_set :
    (ready.accepted budgetSetOp .mspi (req 2 [1, 0, 0, 0, 2, 0, 0, 0, 0, 1, 0, 0, 1, 0, 0, 0])).any (fun x => x.1.keepsRule State.drawRule) = true := by decide +kernel

/-! Obligations.EmitterTransfersComplete -/

theorem witness_short_test :
    (ready.accepted shortTestOp .mspi (req 2 [7, 0, 0, 0])).any (fun x => !x.1.anyLive && x.1.emt.shortTest.isNone) = true := by decide +kernel

theorem witness_chain_write :
    (oneBoard.accepted (chainWriteOp [0xA5, 0, 0, 0, 0, 0, 0, 0]) .mspi (req 2 ([1, 0, 0, 0] ++ List.replicate 8 0))).isSome = true := by decide +kernel

theorem witness_wire_write :
    (ready.accepted wireWriteOp .mspi (req 2 [0, 0, 0, 0])).any (fun x => !x.1.anyLive && okWire 0 []) = true := by decide +kernel

theorem witness_chain_latch :
    (latching.emt.chainRead.isSome && latching.pk.deferred.isSome && (latching.badBoard []).isNone && latching.latchReady 0) = true := by decide +kernel

theorem witness_chain_latch_live :
    (liveLatching.emt.chainRead.isSome && liveLatching.pk.deferred.isSome && liveLatching.anyLive && liveLatching.latchReady 0) = true := by decide +kernel

theorem witness_chain_latch_fault :
    (oneBoard.badBoard [] == some 0) = true := by decide +kernel

theorem witness_chain_timeout :
    latching.emt.chainRead.isSome = true ∧ latching.pk.deferred.isSome = true ∧ latching.badBoard [] = none ∧ 0 + 12500000 ≤ latching.time := by decide +kernel

theorem witness_wire_done :
    ({ ready with emt.wireEnd := some 0 } : State).emt.wireEnd = some 0 := by decide +kernel

theorem witness_short_test_done :
    ({ ready with emt.shortTest := some (7, .mspi, 1) } : State).emt.shortTest = some (7, .mspi, 1) := by decide +kernel

/-! Obligations.OverTemperatureLatchesAndClears -/

theorem witness_ot_pin :
    bit (ready.regN EMT_STATUS) 8 = false := by decide +kernel

theorem witness_ot_pin_again :
    bit ((ready.latch EMT_STATUS 0x100).regN EMT_STATUS) 8 = true := by decide +kernel

/-! Obligations.HitChannelConfigurationWritesItsChannels -/

theorem witness_thresh_set :
    (ready.accepted threshSetOp .mspi (req 4 ([255, 1, 1, 0] ++ leBytes 2 1022 ++ leBytes 2 1023))).isSome = true := by decide +kernel

theorem witness_chan_enable :
    (ready.accepted chanEnableOp .mspi (req 4 (List.replicate 64 0xAA))).isSome = true := by decide +kernel

theorem witness_capture_mode :
    (ready.accepted captureModeOp .mspi (req 4 [0, 1, 0, 1, 1, 8, 0, 0])).isSome = true := by decide +kernel

theorem witness_event_input :
    (ready.accepted eventInputOp .mspi (req 4 [7, 3, 0, 0])).isSome = true := by decide +kernel

theorem witness_freq_measure :
    ((ready.setRegN (HCH_EV_CFG 7) 0).accepted freqMeasureOp .mspi (req 4 ([7, 0, 0, 0] ++ leBytes 4 10000000))).any (fun x => x.1.fld (HCH_EV_CFG 7) 1 0 != 3 && (nth x.1.hch.freq 7 none).isNone) = true := by decide +kernel

/-! Obligations.HitEdgesAreStamped -/

theorem witness_edge_lost :
    ({ ready with rep.chanLost := [3] } : State).rep.chanLost.contains 3 = true := by decide +kernel

theorem witness_edge_upper_off :
    (ready.chan 3).upper = 0 := by decide +kernel

theorem witness_edge_disabled :
    ready.rep.chanLost.contains 511 = false ∧ ready.edgeTaken 511 false true = false := by decide +kernel

theorem witness_edge_blind :
    let m := (edging 10000).merge 3 ((edging 10000).stampTick atTick4 - 1); (edging 10000).rep.chanLost.contains 3 = false ∧ (edging 10000).edgeTaken 3 false true = true ∧ shadowTdc ((edging 10000).chan 3).swap 3 ((edging 10000).stampTick atTick4) = none ∧ ((edging 10000).chan 3).takes ((edging 10000).stampTick atTick4) = 3 ∧ 3 < (edging 10000).hch.tdcs.length ∧ (edging 10000).stampValue atTick4 < (m.lane 3 false).blindUntil := by decide +kernel

theorem witness_edge_stamped :
    let m := (edging 8258).merge 3 ((edging 8258).stampTick atTick4 - 1); (edging 8258).rep.chanLost.contains 3 = false ∧ (edging 8258).edgeTaken 3 false true = true ∧ shadowTdc ((edging 8258).chan 3).swap 3 ((edging 8258).stampTick atTick4) = none ∧ ((edging 8258).chan 3).tdc = 3 ∧ ((edging 8258).chan 3).takes ((edging 8258).stampTick atTick4) = 3 ∧ (edging 8258).hch.tdcs.length = 567 ∧ (m.lane 3 false).blindUntil ≤ (edging 8258).stampValue atTick4 := by decide +kernel

theorem witness_pulser :
    bit (ready.regN HCH_CAL_CFG) 26 = true ∧ ready.fld HCH_CAL_CFG 15 8 ≠ 0 ∧ 566 < ready.hch.tdcs.length ∧ (ready.lane 566 false).blindUntil ≤ ready.stampValue atTick4 := by decide +kernel

theorem witness_pulser_spare :
    bit (ready.regN HCH_CAL_CFG) 26 = true ∧ 543 < ready.hch.tdcs.length ∧ (ready.lane 543 true).blindUntil ≤ ready.stampValue atTick4 := by decide +kernel

theorem witness_pulser_tap :
    ({ inCal 0 with thm.run := (inCal 0).thm.run.map fun r => { r with mask := 1 } } : State).calStep 0 = true ∧ (ready.lane 566 false).converged = false := by decide +kernel

/-! Obligations.HitChannelUpkeepCompletes -/

theorem witness_live_update :
    (let l := thin.lane 3 false; let x := thin.nextTable 3 false
      decide (thin.nCal ≤ l.total) && !l.fault && healthy x.2.1 x.2.2 l.total l.ovr) = true := by decide +kernel

theorem witness_live_update_fault :
    (let l := struck.lane 3 false; let x := struck.nextTable 3 false
      decide (struck.nCal ≤ l.total) && !l.fault && decide (3 < struck.hch.tdcs.length) &&
        !healthy x.2.1 x.2.2 l.total l.ovr) = true := by decide +kernel

theorem witness_lane_hold :
    ({ struck with time := 37500000000 }.lane 3 false).updated = some 0 ∧ (struck.lane 3 false).state = 2 := by decide +kernel

theorem witness_threshold_apply :
    ((ready.setThreshold 3 100 0).chan 3).pending = some (0, 0) ∧ (ready.setThreshold 3 100 0).applyAt 3 0 0 ≤ ((ready.setThreshold 3 100 0).unitNow : Int) := by decide +kernel

theorem witness_watermark_stall :
    ready.rep.tdcFail.contains 566 = false := by decide +kernel

theorem witness_ambient_quiet :
    ready.adm.exceeded.contains 511 = false := by decide +kernel

theorem witness_ambient_check :
    ({ ready with adm.exceeded := [511] } : State).adm.exceeded.contains 511 = true := by decide +kernel

/-! Obligations.EventInputEdgesAreStamped -/

theorem witness_ev_off :
    ready.fld (HCH_EV_CFG 7) 1 0 = 3 ∧ ready.auxDead 22 = false := by decide +kernel

theorem witness_ev_dead :
    ({ ready with rep.tdcFail := [566] } : State).auxDead 22 = true := by decide +kernel

theorem witness_ev_served :
    let s := { ready.setTdc 566 fun x => { x with queue := [{ oneHit.l with tdc := 566 }] } with tim.shot := 1000 }; (s.tdc (s.auxTdc 22)).queue.any (fun h => decide (h.tick < s.watermark (s.auxTdc 22))) = true := by decide +kernel

theorem witness_ev_edge :
    let s := ready.setRegN (HCH_EV_CFG 7) 2; s.fld (HCH_EV_CFG 7) 1 0 = 2 ∧ s.auxDead 22 = false ∧ s.blindAt (s.auxTdc 22) false (s.stampTick atTick4) = false := by decide +kernel

theorem witness_ev_blind :
    let s := (ready.setRegN (HCH_EV_CFG 7) 2).setLane (ready.auxTdc 22) false fun l => { l with blindUntil := 10000 }; s.fld (HCH_EV_CFG 7) 1 0 = 2 ∧ s.auxDead 22 = false ∧ s.blindAt (s.auxTdc 22) false (s.stampTick atTick4) = true := by decide +kernel

theorem witness_freq_gate :
    (nth gated.hch.freq 7 none).any (fun f : FreqUnit => f.first.any fun t => decide (t + 2048 * f.gate ≤ gated.fineNow)) = true := by decide +kernel

/-! Obligations.ShotCommitmentTakesTheNextNumber -/

theorem witness_shot_commit :
    running.seq.clockHold = false ∧ running.thm.shutdown = false ∧ (running.nextPlan.any fun p => (running.prog p.pid).isSome && seDark p.entry) = true := by decide +kernel

theorem witness_shot_commit_none :
    ready.nextPlan.isNone = true := by decide +kernel

/-! Obligations.ProgramWaitsAndStartsRelease -/

theorem witness_start_instant :
    ((starting.prog 3).any fun q => q.state == .armed && q.startMode == 1 && decide (q.startTick ≤ starting.tim.shot)) = true := by decide +kernel

theorem witness_wait_released :
    ((held 0).prog 3).any (fun q => q.state == .waiting && (q.releaseAt (held 0).tim.shot).any (fun x => decide (x.1 ≤ (held 0).unitNow)) && q.expiry.isNone) = true := by decide +kernel

theorem witness_wait_timeout :
    ((held 1).prog 3).any (fun q => q.state == .waiting && (q.expiry.any fun x => decide (x ≤ (held 1).unitNow) && (q.releaseAt (held 1).tim.shot).all fun y => decide (x < y.1))) = true := by decide +kernel

theorem witness_budget_idle :
    3 < ready.emt.budgets.length ∧ (ready.budget 3).updated + 400000 ≤ (State.unitNow { ready with tim.shot := 12500 }) := by decide +kernel

/-! Obligations.FireEdgesGivePulsesAndStamps -/

theorem witness_fire_edge :
    (firing.seq.efu.any fun x => !x.edgeDone && decide (x.due ≤ firing.unitNow)) = true ∧ firing.seq.efu.length = 1 := by decide +kernel

theorem witness_stamp_missing :
    ((firing.seq.efu.map fun x => { x with edgeDone := true, stampSrc := 8, stampWin := 1 }).find? (fun x => x.number == 0)).any (fun x => x.edgeDone && decide (8 ≤ x.stampSrc) && decide (x.fire + 32 * x.stampWin < 32 * firing.watermark (firing.auxTdc (7 + x.stampSrc)))) = true := by decide +kernel

/-! Obligations.EngineConfigurationCompletes -/

theorem witness_eng_load :
    (ready.accepted engLoadOp .mspi (req 5 ([67, 1, 0, 0, 0, 0, 0, 0] ++ [1, 2]))).any (fun x => (x.1.stageOf .mspi).isNone) = true := by decide +kernel

theorem witness_eng_load_gap :
    (ready.accepted engLoadOp .mspi (req 5 ([67, 1, 0, 0, 2, 0, 0, 0] ++ [1, 2]))).any (fun x => (x.1.stageOf .mspi).isNone) = true := by decide +kernel

theorem witness_eng_load_more :
    ((staged (.engine 67) [1, 2] false).accepted engLoadOp .mspi (req 5 [67, 0, 0, 0, 2, 0, 0, 0, 9])).any (fun x => (x.1.stageOf .mspi).any fun t : Stage => decide (t.obj = .engine 67) && !t.whole && t.data.length == 2) = true := by decide +kernel

theorem witness_eng_commit :
    ((staged (.engine 0) endImage true).accepted engCommitOp .mspi (req 5 ([0, 0, 0, 0] ++ leBytes 4 40 ++ leBytes 4 (crc32c endImage).toNat))).any (fun x => (x.1.stageOf .mspi).any (fun t : Stage => decide (t.obj = .engine 0) && t.whole && !t.cas && (checkEngImage t.data t.dataMem 40 (crc32c endImage).toNat).isNone) && (x.1.eng 0).st != .failed && !(x.1.eng 0).standbyBusy && !x.1.engineUsed 0) = true := by decide +kernel

theorem witness_eng_map :
    ((imaged [endWord]).accepted engMapOp .mspi (req 5 [0, 0, 0, 0])).any (fun x => !x.1.liveNames 0 && x.1.engineGroup 0 == some 0 && (x.1.eng 0).image.isSome && (x.1.eng 0).st != .failed) = true := by decide +kernel

theorem witness_eng_run :
    ((imaged [endWord]).accepted engRunOp .mspi (req 5 [0, 1, 0, 0])).any (fun x => (x.1.eng 0).image.isSome && (x.1.eng 0).st != .failed) = true := by decide +kernel

theorem witness_eng_halt :
    (ready.accepted engHaltOp .mspi (req 5 [67, 0, 0, 0])).any (fun x => !x.1.engineLive 67) = true := by decide +kernel

theorem witness_engine_timer :
    let s := (imaged [endWord]).refreshImage 0; (s.eng 0).activeImage.any (fun h => h.timerUs != 0) = true ∧ (s.eng 0).on = true ∧ (s.eng 0).timerAt ≤ s.time := by decide +kernel

/-! Obligations.PassesAndHitsReachTheirGroups -/

theorem witness_pass_open :
    committed.engineGroup 0 = some 0 ∧ 0 < committed.hen.length ∧ ((committed.eng 0).shots.find? (fun x => x.shot.number == 0)).any (fun x => !x.opened && (committed.eng 0).st != .failed && decide (x.shot.opening 0 ≤ (committed.unitNow : Int))) = true := by decide +kernel

theorem witness_release_failed :
    let s := ready.setEng 0 fun y => { y with st := .failed }; s.engineGroup 0 = some 0 ∧ (s.eng 0).st = .failed := by decide +kernel

theorem witness_release_full :
    let s := ready.setEng 0 fun y => { y with bursts := List.replicate 256 { hit := oneHit, shot := 0, until_ := 0 } }; s.engineGroup 0 = some 0 ∧ (s.eng 0).st ≠ .failed ∧ 256 ≤ (s.eng 0).bursts.length + (s.eng 0).heldPairs.length := by decide +kernel

theorem witness_release_hit :
    let m := heard.mergeGroup 0; heard.engineGroup 0 = some 0 ∧ (heard.eng 0).st ≠ .failed ∧ (heard.eng 0).bursts.length + (heard.eng 0).heldPairs.length < 256 ∧ m.nextStamp 0 = some (3, oneHit.l) ∧ oneHit.l.tick + m.holdFor 0 3 oneHit.l < m.groupMark 0 ∧ m.openFirst 0 0 oneHit.l = false := by decide +kernel

theorem witness_burst_test :
    let s := opened.setEng 0 fun y => { y with bursts := [{ hit := oneHit, shot := 0, until_ := 9 }] }; let m := s.mergeGroup 0; s.engineGroup 0 = some 0 ∧ (m.eng 0).st ≠ .failed ∧ 9 < m.groupMark 0 ∧ ((m.eng 0).shots.find? (fun x => x.shot.number == 0)).any (fun x => (Shot.binOf { x.shot with start := 0, fire := 0, bins := 4096 } 3 (m.timed 0 oneHit x.shot).time).isSome) = true := by decide +kernel

theorem witness_pass_close :
    let m := opened.mergeGroup 0; opened.engineGroup 0 = some 0 ∧ ((opened.eng 0).shots.find? (fun x => x.shot.number == 0)).any (fun x => x.opened && (m.eng 0).st != .failed && decide (x.shot.closing 0 ≤ (m.unitNow : Int)) && m.releasedTo 0 (x.shot.closeTick 0)) = true ∧ (m.eng 0).bursts.any (fun b => b.shot == 0) = false := by decide +kernel

theorem witness_group_handover :
    let s := opened.setEng 0 fun y => { y with shots := [], groups := y.groups.map fun z => { z with begun := true, ended := true } }; s.engineGroup 0 = some 0 ∧ ((s.eng 0).groups.find? (fun z => (s.eng 0).canHand z)).isSome = true := by decide +kernel

theorem witness_run_start :
    let y := ((imaged [endWord]).refreshImage 0).eng 0; y.events.any (fun v => y.entryFor v == some 0) = true ∧ y.st = .idle ∧ y.v.length = 16 := by decide +kernel

theorem witness_burst_gone :
    let s := opened.setEng 0 fun y => { y with bursts := [{ hit := oneHit, shot := 7, until_ := 9 }] }; let m := s.mergeGroup 0; s.engineGroup 0 = some 0 ∧ (m.eng 0).st ≠ .failed ∧ 9 < m.groupMark 0 ∧ ((m.eng 0).shots.find? (fun x => x.shot.number == 7)).isNone = true := by decide +kernel

theorem witness_run_none :
    let y := ((ready.setEng 0 fun y => { y with events := [{ kind := .shot, tick := 0, shot := none, group := none }] }).refreshImage 0).eng 0; y.events.any (fun v => (y.entryFor v).isNone) = true := by decide +kernel

/-! Obligations.ControlAndSlotPrimitivesComplete -/

theorem witness_control_words :
    [0x00, 0x01, 0x02, 0x03, 0x04, 0x05, 0x06, 0x07].all reaches = true := by decide +kernel

theorem witness_slot_words :
    [0x08, 0x09, 0x0A, 0x0B, 0x0C, 0x0D, 0x0E, 0x0F].all reaches = true := by decide +kernel

theorem witness_scratch_inside :
    scratchAt Engine.reset (Prim.ofNat (0x0C00000000001BFC)) 0x1C00 = some 0x1BFC := by decide +kernel

theorem witness_scratch_outside :
    scratchAt Engine.reset (Prim.ofNat (0x0C00000000001BFD)) 0x1C00 = none := by decide +kernel

theorem witness_wait_cycles :
    ((waited 0).eng 0).run.any (fun r => r.waiting.any fun x => x.1 == 0 && decide (x.2.1 ≤ (waited 0).tim.shot)) = true := by decide +kernel

theorem witness_wait_expires :
    ((waited 1).eng 0).run.any (fun r => r.waiting.any fun x => x.1 == 1 && decide (x.2.1 ≤ (waited 1).tim.shot)) = true ∧ (waited 1).groupMark 0 ≤ 2 ^ 31 := by decide +kernel

theorem witness_wait_mark :
    ((waited 2).eng 0).run.any (fun r => r.waiting.any fun x => x.1 == 1 && decide (x.2.2.2 < (waited 2).groupMark 0)) = true ∧ (waited 2).engineGroup 0 = some 0 := by decide +kernel

/-! Obligations.VectorPrimitivesComplete -/

theorem witness_vector_words :
    [0x10, 0x11, 0x12, 0x13, 0x14, 0x15, 0x16, 0x17, 0x18, 0x19].all reaches = true := by decide +kernel

/-! Obligations.DetectionPrimitivesComplete -/

theorem witness_detection_words :
    [0x20, 0x21, 0x22, 0x23, 0x24, 0x25, 0x26, 0x27, 0x28, 0x38].all reaches = true := by decide +kernel

/-! Obligations.RecordPrimitivesComplete -/

theorem witness_record_words :
    [0x30, 0x31, 0x32, 0x33].all reaches = true := by decide +kernel

theorem witness_emit_resume :
    let s := (atOp 0x30).setRun 0 fun r => { r with stalled := true }; (s.eng 0).run.any (fun r => r.stalled) = true := by decide +kernel

theorem witness_xstamp_complete :
    let s := ready.setEng 67 fun y => { y with xstamps := [(0x1BC0, 0)] }; (s.eng 67).xstamps = [(0x1BC0, 0)] ∧ 67 < s.hen.length := by decide +kernel

/-! Obligations.SlotPrimitivesWriteOneSlot -/

theorem witness_straight :
    [0x06, 0x07, 0x08, 0x09, 0x0A, 0x0B, 0x0D, 0x0E, 0x17].all (fun op => ((atOp op).primAt 0).any fun x => x.2.2.op == op && x.1.loops.isEmpty && decide (x.1.pc + 1 < (x.1.words x.2.1.half).length) && x.1.v.length == 16) = true := by decide +kernel

/-! Obligations.WordsFollowTheLoops -/

theorem witness_loop_back :
    let s := atOp 0; let f : LoopFrame := { slot := 3, body := 0, stop := 0, left := 1, done := 4 }; ((s.setEng 0 fun y => { y with loops := [f] }).primAt 0).any (fun x => x.2.2.op == 0 && x.1.loops == [f] && x.1.pc == f.stop && decide (f.body < (x.1.words x.2.1.half).length)) = true := by decide +kernel

theorem witness_loop_left :
    let s := atOp 0; let f : LoopFrame := { slot := 3, body := 0, stop := 0, left := 0, done := 4 }; ((s.setEng 0 fun y => { y with loops := [f] }).primAt 0).any (fun x => x.2.2.op == 0 && x.1.loops == [f] && x.1.pc == f.stop && decide (x.1.pc + 1 < (x.1.words x.2.1.half).length)) = true := by decide +kernel

theorem witness_past_end :
    ((inRun [0]).primAt 0).any (fun x => x.2.2.op == 0 && x.1.loops.isEmpty && x.1.pc + 1 == (x.1.words x.2.1.half).length) = true := by decide +kernel

/-! Obligations.FramesAreBuiltAndDelivered -/

theorem witness_record_build :
    let s := streaming; nextRec (((s.sources 63).foldl State.drain s).stream 63).waiting = some oneRec ∧ ((s.sources 63).foldl State.drain s).passed 63 oneRec.key = true ∧ ((s.sources 63).foldl State.drain s).dramPaused = false ∧ ((s.sources 63).foldl State.drain s).rep.switch = none := by decide +kernel

theorem witness_frame_close :
    ((opening.stream 63).openFr.isSome && decide (1250 * stClose (opening.stream 63).desc ≤ opening.time)) = true := by decide +kernel

theorem witness_transmit_busy :
    let s : State := { ready with out.servers := List.replicate 5 (some (.packet (.ring 3) ((req 0 []).packet 0))) }; s.launchHolds 3 = false ∧ (nth s.out.servers 4 none).isSome = true := by decide +kernel

theorem witness_transmit_launch :
    let x : LaunchReq := { base := 0xFF, time := 0, frame := List.replicate 60 1, sequence := 7 }; let s : State := { ready with tim.launches := [[], [], [], [x]] }; s.launchHolds 3 = true := by decide +kernel

theorem witness_transmit_frame :
    nth closing.out.servers 0 none = none ∧ bestBid (closing.bids 0) = some { deadline := 7, rank := 2 ^ 32 + 16 * 63, item := .frame oneFrame } := by decide +kernel

theorem witness_transmit_fragments :
    nth closingEth.out.servers 4 none = none ∧ closingEth.launchHolds 3 = false ∧ bestBid (closingEth.bids 4) = some { deadline := 7, rank := 2 ^ 32 + 16 * 63, item := .frame oneFrame } := by decide +kernel

theorem witness_transmit_datagram :
    let o := Origin.udp 3 0 0 0 none; let s : State := { ready with out.ethUp := [true, true, true, true], out.packets := [{ dest := o, deadline := 5, packet := (req 0 []).packet 0 }] }; nth s.out.servers 4 none = none ∧ s.launchHolds 3 = false ∧ (bestBid (s.bids 4)).map Bid.item = some (.packet o ((req 0 []).packet 0)) := by decide +kernel

theorem witness_transmit_reply :
    (bestBid (replying.bids 0)).map Bid.item = some (.packet (.ring 3) ((req 0 []).packet 0)) := by decide +kernel

theorem witness_delivered :
    [Outgoing.frame oneFrame, .packet (.ring 3) ((req 0 []).packet 0), .packet (.udp 3 0 0 0 none) ((req 0 []).packet 0)].all (fun i => nth ({ ready with out.servers := ready.out.servers.set 4 (some i) } : State).out.servers 4 none == some i) = true ∧ nth ready.out.frags 4 [] = [] := by decide +kernel

theorem witness_delivered_early :
    let s : State := { ready with out.servers := ready.out.servers.set 4 (some (.frame oneFrame)), out.frags := ready.out.frags.set 4 [(0, [1])] }; nth s.out.servers 4 none = some (.frame oneFrame) ∧ nth s.out.frags 4 [] ≠ [] := by decide +kernel

theorem witness_stall :
    let s := ({ withImage .running with time := 2000000000 } : State).setStream 3 fun y => { y with desc := patch (imStream image) 0 [1] ++ [], dry := some 0, closed := [oneFrame] }; (s.prog 3).any (fun q => q.live) = true ∧ (s.stream 3).dry = some 0 ∧ (s.stream 3).closed ≠ [] := by decide +kernel

theorem witness_dring_irq :
    let s := { ready with out.rings := ready.out.rings.set 15 { enabled := true, baseSet := true, bufs := [], unsig := 255, firstAt := 0, irqs := 0 } }; s.fld (OUT_DRING_CFG 15) 23 16 ≤ 255 := by decide +kernel

/-! Obligations.ClosedFrameKeepsItsRecords -/

theorem witness_closed_frame :
    (opening.stream 63).openFr.any (fun o => decide (o.opened + 1250 * stClose (opening.stream 63).desc ≤ opening.time)) = true ∧ 63 < opening.out.streams.length ∧ stRoute (opening.stream 63).desc ≠ 2 := by decide +kernel

/-! Obligations.DigitiserConfigurationCompletes -/

theorem witness_wf_alloc :
    (ready.accepted wfAllocOp .mspi (req 7 ([0, 0, 0, 0] ++ [15] ++ List.replicate 15 0xFF))).any (fun x => (List.range 16).all fun c => (x.1.capUnit c).st == .idle) = true := by decide +kernel

theorem witness_alloc_effect :
    let s : State := { ready with wfd.alloc := [(0, (15 : Byte) :: List.replicate 15 0xFF, 256000)], tim.shot := 125 }; s.wfd.alloc.any (fun x => decide (x.2.2 ≤ 2048 * s.tim.shot)) = true := by decide +kernel

theorem witness_alloc_early :
    let s : State := { ready with wfd.alloc := [(0, (15 : Byte) :: List.replicate 15 0xFF, 256000)] }; s.wfd.alloc.any (fun x => decide (2048 * s.tim.shot < x.2.2)) = true := by decide +kernel

theorem witness_wf_gain_now :
    (ready.accepted wfGainOp .mspi (req 7 [15, 3, 1, 0])).isSome = true := by decide +kernel

theorem witness_wf_gain_boundary :
    (ready.accepted wfGainOp .mspi (req 7 [15, 3, 0, 0])).any (fun x => x.1.boundary 15) = true := by decide +kernel

theorem witness_wf_gain_waits :
    (posting.accepted wfGainOp .mspi (req 7 [15, 3, 0, 0])).any (fun x => !x.1.boundary 15) = true := by decide +kernel

theorem witness_gain_boundary :
    let s : State := { ready with wfd.gainPend := some (15, 3, 0), wfd.dinPend := [15] }; s.boundary 15 = true ∧ (s.takeDin 15).wfd.gainPend = some (15, 3, 0) := by decide +kernel

theorem witness_gain_boundary_other :
    ready.boundary 15 = true ∧ ready.wfd.gainPend = none := by decide +kernel

theorem witness_gain_timeout :
    let s : State := { ready with wfd.gainPend := some (15, 3, 0), time := 125000000 }; s.wfd.gainPend = some (15, 3, 0) := by decide +kernel

theorem witness_apply :
    ready.boot.held = false ∧ ready.wfd.filters.length = 16 := by decide +kernel

theorem witness_disarm :
    posting.boot.held = false ∧ posting.wfd.units.length = 16 ∧ (posting.capUnit 0).st = .post ∧ (armedUnit.capUnit 0).st = .armed := by decide +kernel

theorem witness_capture_config :
    (ready.accepted captureConfigOp .mspi (req 7 ([15, 0, 127, 0, 128, 8, 8, 0] ++ leBytes 4 100))).any (fun x => (x.1.capUnit 15).st == .idle) = true := by decide +kernel

theorem witness_capture_arm :
    (ready.accepted captureArmOp .mspi (req 7 [0, 0, 0, 0])).isSome = true := by decide +kernel

theorem witness_capture_arm_one :
    (laned.accepted captureArmOp .mspi (req 7 [1, 0, 0, 0])).any (fun x => x.1.armable 0) = true := by decide +kernel

theorem witness_capture_trigger :
    ((ready.setRegN (WFD_CAP_SRC 0) 64).accepted captureTriggerOp .mspi (req 7 [1, 0, 0, 0])).any (fun x => bit (x.1.regN (WFD_CAP_SRC 0)) 6) = true := by decide +kernel

/-! Obligations.CapturesRunToTheirEnd -/

theorem witness_not_armed :
    (posting.capUnit 0).st ≠ .armed := by decide +kernel

theorem witness_trigger_sample :
    let s := armedUnit; let k0 := s.sampleFrom 0 (s.capUnit 0).armedAt; (s.capUnit 0).st = .armed ∧ s.wfd.units.length = 16 ∧ (s.capUnit 0).cands = [(6, 6400)] ∧ s.fld (WFD_CAP_SRC 0) 6 0 = 64 ∧ (s.capUnit 0).armedAt ≤ 6400 ∧ s.quietIn 0 (s.sampleFrom 0 6400) (s.capPost 0) = false ∧ s.sampleFrom 0 6400 < k0 + (s.stream32 0 k0 (List.replicate 100 128)).length ∧ s.sampleTime 0 (s.sampleFrom 0 6400) ≤ (s.fineNow : Int) ∧ s.sourcesPassed 0 (s.sampleTime 0 (s.sampleFrom 0 6400)) = true := by decide +kernel

theorem witness_capture_end :
    let s := posting; let k := s.sampleFrom 0 (s.capUnit 0).armedAt + (s.capUnit 0).trigIdx; (s.capUnit 0).st = .post ∧ s.capAvg 0 = 0 ∧ s.wfd.units.length = 16 ∧ s.sampleTime 0 (k + s.capPost 0 - 1) ≤ (s.fineNow : Int) := by decide +kernel

theorem witness_rearm_done :
    let s := posting.setCap 0 fun x => { x with st := .rearm }; (s.capUnit 0).st = .rearm ∧ (s.capUnit 0).holdTo ≤ s.time ∧ s.wfd.units.length = 16 := by decide +kernel

theorem witness_rearm_holds :
    let s := posting.setCap 0 fun x => { x with st := .rearm, holdTo := 1 }; (s.capUnit 0).st = .rearm ∧ s.time < (s.capUnit 0).holdTo ∧ s.wfd.units.length = 16 := by decide +kernel

theorem witness_area_free :
    let s := laned.setCap 0 fun x => { x with st := .held }; (s.capUnit 0).st = .held ∧ s.captureSize 0 ≤ s.regN (WFD_CAP_AREA_FREE 0) ∧ s.wfd.units.length = 16 := by decide +kernel

theorem witness_area_full :
    let s := posting.setCap 0 fun x => { x with st := .held }; (s.capUnit 0).st = .held ∧ s.regN (WFD_CAP_AREA_FREE 0) < s.captureSize 0 := by decide +kernel

/-! Obligations.SlicesRotateAndMigrate -/

theorem witness_rotation_off :
    (ready.setRegN WFD_ROT_CFG 0).wfdSpare.isSome = true ∧ bit ((ready.setRegN WFD_ROT_CFG 0).regN WFD_ROT_CFG) 16 = false := by decide +kernel

theorem witness_rotation :
    turning.wfdSpare = some 16 ∧ turning.wfd.rotDead = false ∧ bit (turning.regN WFD_ROT_CFG) 16 = true ∧ turning.wfd.rotAt + 1250000 * turning.fld WFD_ROT_CFG 7 0 ≤ turning.time ∧ turning.wfd.slices.length = 17 ∧ (List.range 17).find? (fun k => (turning.wfdSlice k).pos == some turning.wfd.rotPos) = some 0 := by decide +kernel

theorem witness_rotation_state :
    (turning.wfdSlice 16).state ≠ 1 ∧ (turning.wfdSlice 16).state ≠ 2 ∧ ((turning.setSlice 16 fun x => { x with state := 1 }).wfdSlice 16).state = 1 := by decide +kernel

theorem witness_rotation_shadow :
    [0, 999999999].all (fun at_ => let s := { turning.setSlice 16 fun x => { x with state := 2 } with wfd.shadowAt := at_ }; s.wfdSpare == some 16 && (s.wfdSlice 16).state == 2 && (decide (s.wfd.shadowAt + 10240 ≤ s.time) == (at_ == 0)) && (List.range 17).find? (fun k => (s.wfdSlice k).pos == some s.wfd.rotPos) == some 0) = true := by decide +kernel

theorem witness_rotation_retry :
    [true, false].all (fun b => ({ turning with wfd.retried := b } : State).wfdSpare == some 16) = true := by decide +kernel

theorem witness_migration_none :
    (ready.wfdSlice 16).pos = none := by decide +kernel

theorem witness_migration :
    (ready.wfdSlice 15).pos = some 15 ∧ (ready.wfdSlice 15).state ≠ 4 ∧ ready.wfdSpare = some 16 := by decide +kernel

theorem witness_migration_spareless :
    let s := ready.setSlice 16 fun x => { x with state := 4 }; (s.wfdSlice 0).pos = some 0 ∧ (s.wfdSlice 0).state ≠ 4 ∧ s.wfdSpare = none ∧ s.wfd.slices.length = 17 := by decide +kernel

/-! Obligations.LoopCommandsComplete -/

theorem witness_loop_coef :
    (ready.accepted loopCoefOp .mspi (req 3 ([15, 0, 0, 0] ++ oneBank))).isSome = true := by decide +kernel

theorem witness_loop_swap :
    (banked.accepted loopSwapOp .mspi (req 3 [0, 128, 0, 0])).any (fun x => (x.1.loop 15).shdValid && (x.1.loop 15).mode == 0) = true := by decide +kernel

theorem witness_loop_swap_waits :
    ((banked.setLoop 15 fun l => { l with mode := 2 }).accepted loopSwapOp .mspi (req 3 [0, 128, 0, 0])).any (fun x => (x.1.loop 15).shdValid && (x.1.loop 15).mode == 2 && (x.1.setLoop 15 fun l => { l with pendSwap := true }).rateOk) = true := by decide +kernel

theorem witness_loop_setpoint :
    (ready.accepted loopSetpointOp .mspi (req 3 ([15, 0, 0, 0] ++ leBytes 4 0x80000000))).any (fun x => !x.1.cascaded 15) = true := by decide +kernel

theorem witness_loop_mode :
    (banked.accepted loopModeOp .mspi (req 3 [15, 2, 0, 0])).any (fun x => (x.1.loop 15).actValid && (x.1.setLoop 15 fun l => { l with pendMode := some 2 }).rateOk && (x.1.loop 15).inSel != 0xFF) = true := by decide +kernel

theorem witness_loop_mode_off :
    (ready.accepted loopModeOp .mspi (req 3 [15, 0, 0, 0])).isSome = true := by decide +kernel

theorem witness_loop_io :
    (ready.accepted loopIoOp .mspi (req 3 [15, 0x23, 0xFF, 0])).any (fun x => (x.1.loop 15).mode == 0) = true := by decide +kernel

theorem witness_loop_io_cascade :
    (ready.accepted loopIoOp .mspi (req 3 [15, 0x20, 0x2E, 0])).any (fun x => (x.1.loop 15).mode == 0 && (List.range 15).all (fun j => (x.1.loop j).outSel.toNat != 0x2E) && !x.1.cascadeReaches 15 17 14) = true := by decide +kernel

/-! Obligations.LoopEventsComplete -/

theorem witness_loop_idle :
    (ready.loop 15).mode = 0 := by decide +kernel

theorem witness_loop_due :
    looping.cle.pllLost = false ∧ looping.seq.clockHold = false ∧ looping.cle.evalUntil ≤ looping.time5 ∧ looping.loopBefore 15 = false ∧ (looping.loop 15).mode = 2 ∧ (looping.loop 15).nextAt ≤ looping.time5 ∧ (looping.loop 15).pendMode = none ∧ looping.cle.loops.length = 16 ∧ (looping.loop 15).outSel.toNat ≠ 0x2F := by decide +kernel

theorem witness_loop_stops :
    ((looping.setLoop 15 fun l => { l with pendMode := some 0 }).loop 15).pendMode = some 0 := by decide +kernel

theorem witness_pwm :
    nth ready.cle.pwm 15 (none, none) = (none, none) ∧ ready.cle.pwm.length = 16 ∧ ready.cle.pwmHigh.length = 16 := by decide +kernel

theorem witness_spi :
    ({ ready with cle.spi := [(3, 0xFFFF)] } : State).cle.spi = [(3, 0xFFFF)] ∧ ready.cle.pllLost = false ∧ ready.seq.clockHold = false := by decide +kernel

theorem witness_encoder_off :
    bit (ready.regN (CLE_ENC_CFG 1)) 0 = false := by decide +kernel

theorem witness_encoder_edge :
    bit (turningEnc.regN (CLE_ENC_CFG 1)) 0 = true ∧ turningEnc.auxDead 13 = false ∧ (turningEnc.encoder 1).held = [] := by decide +kernel

theorem witness_encoder_glitch :
    let s := turningEnc.setEncoder 1 fun y => { y with held := [{ chanB := some true, rising := true, time := 2 ^ 40, tick := 0 }] }; ((s.encoder 1).held.reverse.find? fun e => e.chanB == some true).any (fun e => decide ((s.auxTime 13 atTick4).1.toNat < e.time + 2048 * bits (s.regN (CLE_ENC_CFG 1)) 11 8)) = true := by decide +kernel

theorem witness_encoder_held :
    [(none, 0), (some true, 0), (some true, 1), (none, 2)].all (fun (c : Option Bool × Nat) => let s := { (turningEnc.setEncoder 1 fun y => { y with held := { chanB := c.1, rising := true, time := 0, tick := 0 } :: if c.2 = 1 then [{ chanB := some false, rising := true, time := 9, tick := 0 }] else [] }) with tim.shot := if c.2 = 2 then 0 else 100 }; (s.encoder 1).held.length == 1 + c.2 % 2 && (decide (max 2 (s.fld (CLE_ENC_CFG 1) 11 8) ≤ s.tim.shot) == (c.2 != 2))) = true := by decide +kernel

theorem witness_index_other :
    b2n (bit (turningEnc.regN (CLE_ENC_CFG 0)) 31) ≠ 1 ∧ turningEnc.auxDead 14 = false ∧ turningEnc.cle.enc.length = 2 ∧ bit (turningEnc.regN (CLE_ENC_CFG 1)) 0 = true := by decide +kernel

theorem witness_index_start :
    let s := turningEnc.setRegN (CLE_ENC_CFG 0) 0x80000000; b2n (bit (s.regN (CLE_ENC_CFG 0)) 31) = 1 ∧ bits (s.regN (CLE_ENC_CFG 1)) 5 4 = 0 ∧ bit (s.regN (CLE_ENC_CFG 1)) 0 = true ∧ s.auxDead 14 = false := by decide +kernel

/-! Obligations.TimeCommandsComplete -/

theorem witness_time_read :
    (ready.accepted timeReadOp .mspi (req 9 [])).any (fun x => x.1.tim.xsPend.isNone) = true := by decide +kernel

theorem witness_time_incr :
    (ready.accepted timeIncrOp .mspi (req 9 ([3, 0, 0, 0] ++ leBytes 8 incrNom))).isSome = true := by decide +kernel

theorem witness_time_incr_refused :
    (ready.accepted timeIncrOp .mspi (req 9 ([3, 0, 0, 0] ++ leBytes 8 0))).any (fun x => decide (x.1.fld (TIM_PTP_CFG 3) 23 16 * incrNom < incrNom * 1000000)) = true := by decide +kernel

theorem witness_time_step :
    (ready.accepted timeStepOp .mspi (req 9 ([3, 0, 0, 0] ++ leBytes 8 0))).isSome = true := by decide +kernel

theorem witness_time_step_refused :
    (ready.accepted timeStepOp .mspi (req 9 ([3, 0, 0, 0] ++ leBytes 8 (2 ^ 62)))).any (fun x => x.1.regN (TIM_PTP_JUMP 3) != 0xFFFFFFFF && decide (x.1.regN (TIM_PTP_JUMP 3) * 2 ^ 32 < 2 ^ 62)) = true := by decide +kernel

theorem witness_cross_stamp :
    (ready.accepted crossStampOp .mspi (req 9 [0x17, 0, 0, 0])).any (fun x => x.1.tim.xsPend.isNone) = true := by decide +kernel

theorem witness_launch_at :
    (({ ready with out.ethUp := [true, true, true, true] } : State).accepted launchAtOp .mspi (req 9 ([3, 0xFF, 0, 0] ++ leBytes 8 0 ++ List.replicate 60 1))).any (fun x => nth x.1.out.ethUp 3 false && decide ((nth x.1.tim.launches 3 []).length < 8)) = true := by decide +kernel

theorem witness_launch_at_epoch :
    (({ ready with out.ethUp := [true, true, true, true] } : State).accepted launchAtOp .mspi (req 9 ([3, 4, 0, 0] ++ leBytes 8 2560000000 ++ List.replicate 60 1))).any (fun x => nth x.1.out.ethUp 3 false && decide ((nth x.1.tim.launches 3 []).length < 8) && decide (20000 * 2 ^ 32 ≤ x.1.launchIn 4 2560000000) && decide (x.1.launchIn 4 2560000000 ≤ 1000000000 * 2 ^ 32)) = true := by decide +kernel

theorem witness_ref_select :
    (ready.accepted refSelectOp .mspi (req 9 [0, 0, 0, 0])).any (fun x => x.1.role != 2 && x.1.tim.refCode == 0) = true := by decide +kernel

theorem witness_ref_select_other :
    (ready.accepted refSelectOp .mspi (req 9 [2, 0, 0, 0])).any (fun x => x.1.role != 2 && x.1.tim.refCode != 2 && !x.1.anyLive && x.1.wfd.units.all fun y => y.st == .idle) = true := by decide +kernel

/-! Obligations.PtpBasesCorrectAndWrap -/

theorem witness_correction :
    [0, 10000].all (fun k => let s := { ready with time := 2100 }.setPtp 3 fun b => { b with counting := true, edge := k, corrs := [{ isStep := true, value := -1, at_ := 100 }] }; s.pending.isEmpty && s.tim.ptp.length == 4 && (s.ptp 3).corrs == [{ isStep := true, value := -1, at_ := 100 }] && (s.ptp 3).counting && decide ((s.ptp 3).edge + 16 ≤ 5 * (s.time + 1)) && (decide (10 * 100 + 625 ≤ 2 * ((s.ptp 3).edge + 16)) == (k == 10000))) = true := by decide +kernel

theorem witness_correction_done :
    ((ready.setPtp 3 fun b => { b with done := some 9 }).ptp 3).done = some 9 := by decide +kernel

theorem witness_correction_none :
    (ready.ptp 3).done = none := by decide +kernel

theorem witness_ptp_wrap :
    ({ ready with tim.ptpWraps := [(3, false, 9)] } : State).tim.ptpWraps.find? (fun w => w.1 == 3 && w.2.1 == false) = some (3, false, 9) := by decide +kernel

theorem witness_counter_wrap :
    (ready.noteWrap 9 0 0x90010 48).pk.wraps = [{ unit := 9, window := 0, offset := 0x90010, width := 48, at_ := 0 }] := by decide +kernel

theorem witness_ptp_ingress :
    nth ({ ready with out.ethUp := [true, true, true, true] } : State).out.ethUp 3 false = true := by decide +kernel

theorem witness_launch :
    let x : LaunchReq := { base := 0xFF, time := 0, frame := List.replicate 60 1, sequence := 7 }; let s : State := { ready with tim.launches := [[], [], [], [x]], out.ethUp := [true, true, true, true] }; nth s.tim.launches 3 [] = [x] ∧ s.launchIn 0xFF 0 ≤ 0 ∧ nth s.out.ethUp 3 false = true := by decide +kernel

/-! Obligations.ReferenceAndCrossStampsComplete -/

theorem witness_gate_early :
    ready.time < ready.tim.gateAt + 1250000000 := by decide +kernel

theorem witness_gate :
    ({ ready with time := 1250000000 } : State).tim.xsys = true ∧ ({ ready with time := 1250000000 } : State).role ≠ 2 := by decide +kernel

theorem witness_ref_lock :
    ({ ready with tim.refNew := some 2, pk.deferred := some waiting, time := 25000000 } : State).tim.refNew = some 2 ∧ waiting.since + 25000000 ≤ 25000000 := by decide +kernel

theorem witness_ref_found :
    ({ ready with tim.onRef := false } : State).tim.refNew = none ∧ ready.tim.refin = true ∧ ready.boot.phase ≠ .hardware ∧ ready.role ≠ 2 := by decide +kernel

theorem witness_cross_seen :
    let s : State := { ready with tim.xsPend := some (0x23, .mspi, 1, 0), tim.xsHit := some 9 }; s.crossTime 0x23 0 false atTick4 = some 9 := by decide +kernel

theorem witness_cross_event :
    let s : State := { ready with tim.xsPend := some (0, .mspi, 1, 0) }; (s.crossTime 0 0 false atTick4).isSome = true := by decide +kernel

theorem witness_cross_timeout :
    ({ ready with tim.xsPend := some (0x23, .mspi, 1, 0), time := 12500000000 } : State).tim.xsPend = some (0x23, .mspi, 1, 0) := by decide +kernel

/-! Obligations.HousekeepingCompletes -/

theorem witness_hk_sequence :
    (ready.accepted hkSequenceOp .mspi (req 0xA [0, 1, 0, 0, 0x2D, 6, 0x10, 0x27])).isSome = true := by decide +kernel

theorem witness_hk_sequence_injected :
    (ready.accepted hkSequenceOp .mspi (req 0xA [1, 0, 0, 0])).isSome = true := by decide +kernel

theorem witness_hk_channel :
    (ready.accepted hkChannelOp .mspi (req 0xA [23, 0x12, 3, 0, 0xD0, 7, 0, 0])).isSome = true := by decide +kernel

theorem witness_cycle_idle :
    ready.hka.inCycle = false ∧ ({ ready with hka.cycleAt := 1 } : State).time < 1 := by decide +kernel

theorem witness_cycle_due :
    let s := ready.setRegN HKA_SEQ_CFG 0x10001; s.hkOn = true ∧ bit (s.regN HKA_SEQ_CFG) 0 = true ∧ s.hka.inCycle = false ∧ s.hka.cycleAt ≤ s.time ∧ s.fld HKA_SEQ_CFG 31 16 ≠ 0 := by decide +kernel

theorem witness_hk_step_dead :
    ({ stepping with rep.hkaFail := [1] } : State).hkDead 1 = true := by decide +kernel

theorem witness_hk_step :
    (stepping.hkPath 1).step.any (fun x => decide (x.start + x.step.ticks ≤ stepping.time) && x.step.avg == 0 && decide (x.step.code < stepping.hka.results.length)) = true ∧ stepping.hkOn = true := by decide +kernel

theorem witness_hk_monitor :
    (stepping.hkPath 1).step.any (fun x => x.source.isSome && x.made && decide (x.start + 1250 ≤ stepping.time)) = true := by decide +kernel

theorem witness_hk_monitor_idle :
    (ready.hkPath 1).step = none := by decide +kernel

theorem witness_go_waits :
    let s : State := { ready.setRegN HKA_INJ_CFG 0 with hka.pllLost := true }; s.fld HKA_INJ_CFG 31 30 = 0 ∧ s.hkOn = false := by decide +kernel

theorem witness_go_off :
    let s := ready.setRegN HKA_INJ_CFG 0x40000000; s.fld HKA_INJ_CFG 31 30 ≠ 0 := by decide +kernel

theorem witness_go :
    let s := ready.setRegN HKA_INJ_CFG 0; s.fld HKA_INJ_CFG 31 30 = 0 ∧ s.hkOn = true ∧ s.hka.injRun = false := by decide +kernel

theorem witness_go_busy :
    ({ ready with hka.injRun := true } : State).hka.injRun = true := by decide +kernel

theorem witness_hk_rotation_off :
    ({ ready with hka.spare := none } : State).hka.spare = none := by decide +kernel

theorem witness_hk_rotation :
    rotating.hka.spare = some 2 ∧ rotating.hkStopped = false ∧ rotating.hkOn = true ∧ rotating.hka.rotStage = 0 ∧ rotating.hka.paths.any (fun p => p.next.isSome) = false ∧ ¬ rotating.time < rotating.hka.rotAt + 1250000 * rotating.fld HKA_ROT_CFG 7 0 := by decide +kernel

theorem witness_hk_rotation_calibrates :
    let s : State := { rotating with hka.rotStage := 1 }; s.hka.spare = some 2 ∧ s.hkStopped = false ∧ s.hkOn = true ∧ 2 < s.hka.trims.length := by decide +kernel

theorem witness_hk_rotation_passes :
    let s : State := { rotating with hka.rotStage := 2, hka.shadowed := 64 }; s.hka.spare = some 2 ∧ s.hkStopped = false ∧ s.hkOn = true ∧ s.hka.rotPath < s.hka.paths.length ∧ (s.hkPath s.hka.rotPath).step = none ∧ s.rep.migs = [] ∧ s.hka.retried = false := by decide +kernel

theorem witness_hk_rotation_waits :
    let s : State := { stepping with hka.rotStage := 2, hka.shadowed := 64, hka.rotPath := 1 }; s.hka.spare = some 2 ∧ (s.hkPath s.hka.rotPath).step.isSome = true := by decide +kernel

theorem witness_hk_rotation_again :
    let s : State := { rotating with hka.rotStage := 2, hka.shadowed := 64, hka.retried := true }; s.hka.spare = some 2 ∧ s.hkStopped = false ∧ s.hkOn = true := by decide +kernel

theorem witness_hk_migration_spare :
    ready.hka.spare = some 2 ∧ (ready.hkPath 0).slice ≠ some 2 ∧ (ready.hkPath 1).slice ≠ some 2 := by decide +kernel

theorem witness_hk_migration :
    (List.range 2).find? (fun i => (ready.hkPath i).slice == some 1) = some 1 ∧ ready.rep.hkaFail.contains 1 = false ∧ ready.hka.paths.length = 2 := by decide +kernel

theorem witness_hk_migration_commanded :
    let s : State := { ready with rep.migs := [leaving 3 1] }; (s.rep.migs.find? (fun m => m.kind == 3 && m.failed == 1)).any (fun m => m.commanded) = true ∧ s.hka.paths.any (fun q => q.next.isSome) = false ∧ s.hka.spare = some 2 ∧ (s.hkPath 1).step = none := by decide +kernel

/-! Obligations.ThermalManagementCompletes -/

theorem witness_therm_thresh :
    (ready.accepted thermThreshOp .mspi (req 0xA ([7, 0] ++ leBytesInt 2 (-400) ++ leBytes 2 1000 ++ leBytes 2 1250))).isSome = true := by decide +kernel

theorem witness_therm_subst :
    (({ ready with thm.sensors := ready.thm.sensors.set 23 { reading := none, failed := true } } : State).accepted thermSubstOp .mspi (req 0xA [23, 22, 0, 0])).any (fun x => (x.1.sensor 23).failed && !(x.1.sensor 22).failed) = true := by decide +kernel

theorem witness_reading_held :
    ({ ready with boot.held := true } : State).boot.held = true := by decide +kernel

theorem witness_reading :
    ready.boot.held = false := by decide +kernel

theorem witness_throttle_up :
    let s : State := { ready.setRegN THM_CFG 0x00000002 with thm.throt := List.replicate 8 true }; s.thm.stepAt = 0 ∧ s.thm.throt.any id = true ∧ s.thm.step + 1 < s.stepCount := by decide +kernel

theorem witness_throttle_top :
    let s : State := { ready.setRegN THM_CFG 0x00000001 with thm.throt := List.replicate 8 true }; s.stepCount ≤ s.thm.step + 1 := by decide +kernel

theorem witness_throttle_down :
    let s : State := { ready with thm.step := 1, thm.cool := true }; s.thm.throt.any id = false ∧ s.thm.cool = true ∧ 0 < s.thm.step := by decide +kernel

theorem witness_throttle_stays :
    ready.thm.throt.any id = false ∧ ready.thm.step = 0 := by decide +kernel

/-! Obligations.CalibrationCompletes -/

theorem witness_cal_run :
    (ready.accepted calRunOp .mspi (req 0xB (leBytes 4 0x3F))).any (fun x => x.1.thm.run.isNone && !x.1.thm.shutdown) = true := by decide +kernel

theorem witness_cal_activate :
    (ready.accepted calActivateOp .mspi (req 0xB [7, 0, 0, 0])).any (fun x => x.1.thm.run.isNone) = true := by decide +kernel

theorem witness_cal_status :
    (ready.accepted calStatusOp .mspi (req 0xB [])).isSome = true := by decide +kernel

theorem witness_cal_auto :
    let s : State := { ready.setRegN CAL_CFG 0x0000018F with boot.firstCal := false, thm.tDie := 320 }; s.autoReady = true ∧ bit (s.regN CAL_CFG) 7 = true ∧ (s.boot.firstCal = true → bit (s.regN BOOT_CFG) 8 = false) ∧ 32 * (s.fld CAL_CFG 15 8 : Int) < 10 * ((s.thm.tDie - s.thm.tLast).natAbs : Int) := by decide +kernel

theorem witness_first_cal :
    let s : State := { ready.setRegN CAL_CFG 0x0000018F with boot.firstCal := true, time := 2 ^ 60 }; s.autoReady = true ∧ s.boot.firstCal = true ∧ bit (s.regN BOOT_CFG) 8 = true ∧ s.boot.readyAt + 1250000000 * s.fld BOOT_CFG 31 16 ≤ s.time := by decide +kernel

theorem witness_run_end_cause :
    (inCal 5).thm.run.any (fun r => r.cause != 0) = true := by decide +kernel

theorem witness_run_end_step :
    (inCal 0).thm.run.any (fun r => r.cause == 0 && bit r.mask 5 && !bit r.mask 4 && !bit r.mask 0) = true := by decide +kernel

theorem witness_run_end_ok :
    (inCal 0).thm.run.any (fun r => decide ((inCal 0).time ≤ ((inCal 0).lastStep r).2) && (inCal 0).trimsOk r [] && !bit r.mask 0 && !bit r.mask 4) = true := by decide +kernel

theorem witness_run_end_late :
    let s : State := { inCal 0 with time := 2 ^ 60 }; s.thm.run.any (fun r => decide ((s.lastStep r).2 < s.time) && !bit r.mask 4) = true := by decide +kernel

theorem witness_run_end_lanes :
    let s : State := inLanes; s.thm.run.any (fun r => decide (s.time ≤ (s.lastStep r).2) && bit r.mask 0 && !bit r.mask 4 && r.cause == 0 && r.tapAt.isNone && decide (s.time ≤ r.started + 1250000 * s.fld (CAL_TMO 0) 15 0)) = true := by decide +kernel

theorem witness_run_end_taps_late :
    let s : State := { inLanes with time := 2 ^ 60 }; s.thm.run.any (fun r => bit r.mask 0 && decide (r.started + 1250000 * s.fld (CAL_TMO 0) 15 0 < r.tapAt.getD s.time)) = true := by decide +kernel

theorem witness_run_end_trims :
    ∃ r, badTrims.thm.run = some r ∧ r.cause = 0 ∧ bit r.mask 0 = false ∧ bit r.mask 4 = false ∧ badTrims.time ≤ (badTrims.lastStep r).2 ∧ badTrims.trimsOk r [] = false := by
  refine ⟨_, rfl, rfl, by decide, by decide, by decide +kernel, ?_⟩
  have h : badTrims.runSet { mask := 4, started := 0, tRun := 0, owner := none, first := false, cause := 0, tapAt := none } [] =
    List.replicate calLength 1 := rfl
  have v : fieldInt (List.replicate calLength 1) (CAL_CMP 0 0) 2 = 257 := by
    simp only [fieldInt, field, slice, List.drop_replicate, List.take_replicate]
    decide
  have e : bit (badTrims.regN (HCH_CFG 0)) 0 = false := by decide +kernel
  rw [State.trimsOk, h]
  refine Bool.or_eq_false_iff.mpr ⟨by decide, List.all_eq_false.mpr ⟨0, by simp, ?_⟩⟩
  simp only [e, List.range_succ, Bool.not_eq_true, List.all_append, List.range_zero, List.nil_append, List.all_cons, List.all_nil]
  rw [v]
  decide

theorem witness_set_build :
    let s : State := { ready with thm.applied := [{ version := 1, effect := 0, bytes := [] }], thm.buildDue := true }; s.thm.applied ≠ [] ∧ s.thm.buildDue = true := by decide +kernel

theorem witness_writeback :
    let s : State := { ready with thm.stored := ready.thm.stored.set 7 (some []), thm.writeback := [(7, 0)] }; s.boot.firmware = true ∧ s.thm.writeback.any (fun y => y.1 == 7) = true ∧ nth s.thm.stored 7 none = some [] := by decide +kernel

/-! Obligations.IslandPacketsAndParametersComplete -/

theorem witness_saf_status :
    (ready.accepted safStatusOp .mspi (req 0xD [])).isSome = true := by decide +kernel

theorem witness_saf_abort :
    (({ ready with saf.staged := some ([], 0) } : State).accepted safAbortOp .mspi (req 0xD [])).any (fun x => x.1.saf.staged.isSome) = true := by decide +kernel

theorem witness_saf_abort_none :
    (ready.accepted safAbortOp .mspi (req 0xD [])).any (fun x => x.1.saf.staged.isNone) = true := by decide +kernel

theorem witness_saf_param :
    (ready.accepted safParamOp (.udp 1 7 7 7 none) (req 0xD [] 8)).any (fun x => !x.1.paramWaits (.udp 1 7 7 7 none) ((req 0xD [] 8).packet 0xA1) && x.1.saf.mailIn.isEmpty) = true := by decide +kernel

theorem witness_saf_param_again :
    let s : State := { ready with saf.paramCopy := some (1, { origin := .udp 1 7 7 7 none, packet := (req 0xD [] 8).packet 0xA1, entered := 0, since := 0 }, 0) }; (s.accepted safParamOp (.udp 1 7 7 7 none) (req 0xD [] 8)).any (fun x => x.1.paramWaits (.udp 1 7 7 7 none) ((req 0xD [] 8).packet 0xA1)) = true := by decide +kernel

theorem witness_saf_param_port :
    (ready.accepted safParamOp (.udp 2 7 7 7 none) (req 0xD [] 8)).isSome = true := by decide +kernel

theorem witness_saf_param_unsafe :
    (ready.accepted safParamOp (.udp 0 7 7 7 none) (req 0xD [])).isSome = true := by decide +kernel

theorem witness_saf_param_mspi :
    (ready.accepted safParamOp .mspi (req 0xD [])).isSome = true := by decide +kernel

theorem witness_param_activate :
    staging.islandOn = true ∧ staging.saf.staged.isSome = true ∧ staging.saf.openFrom = some 0 ∧ 0 + pbGt staging.saf.active ≤ staging.safeNow ∧ bit staging.saf.faults.toNat 13 = false := by decide +kernel

theorem witness_param_lapse :
    staging.saf.staged = some ([], 0) ∧ 0 + pbPend staging.saf.active ≤ staging.safeNow := by decide +kernel

theorem witness_param_lapse_early :
    ({ staging with saf.staged := some ([], 1000000000000) } : State).safeNow < 1000000000000 := by decide +kernel

theorem witness_param_none :
    ready.saf.staged = none := by decide +kernel

/-! Obligations.SafetyFaultsTakeTheSafeState -/

theorem witness_guard_disc :
    let s : State := { islanded with saf.discFrom := some 0 }; s.islandOn = true ∧ 0 + pbDisc s.saf.active < s.safeNow ∧ bit s.saf.faults.toNat 0 = false := by decide +kernel

theorem witness_brake_feedback :
    let s : State := { islanded with saf.outs := [false, false, true, true] }; s.saf.testing = none ∧ nth s.saf.brkAt 1 0 + pbSettle s.saf.active < s.safeNow ∧ nth s.saf.ins 3 false ≠ nth s.saf.outs 3 false := by decide +kernel

theorem witness_pad :
    let s : State := { islanded with saf.pads := [true, false, false, false] }; nth s.saf.pads 0 false ≠ nth s.saf.outs 0 false := by decide +kernel

theorem witness_test_pulse :
    let s : State := { islanded with saf.testing := some (1, 0), saf.refresh := List.replicate 4 islanded.safeNow }; s.islandOn = true ∧ (∀ k, k < 4 → s.safeNow < nth s.saf.refresh k 0 + 5000) ∧ 0 + pbPulse s.saf.active ≤ s.safeNow ∧ s.saf.outs.length = 4 := by decide +kernel

theorem witness_test_pulse_len :
    let s : State := { islanded with saf.testing := some (2, 0), saf.refresh := List.replicate 4 islanded.safeNow }; s.saf.outs.length = 4 ∧ (∀ k, k < 4 → s.safeNow < nth s.saf.refresh k 0 + 5000) ∧ 0 + pbLenPulse s.saf.active ≤ s.safeNow := by decide +kernel

theorem witness_watchdog :
    let s : State := { islanded with saf.pairAt := some 0 }; s.islandOn = true ∧ 0 + pbWd s.saf.active < s.safeNow := by decide +kernel

theorem witness_watchdog_kept :
    let s : State := { islanded with saf.pairAt := some 1000000000000 }; s.safeNow ≤ 1000000000000 + pbWd s.saf.active := by decide +kernel

theorem witness_refresh :
    islanded.sb = true ∧ nth islanded.saf.refresh 3 0 + 5000 ≤ islanded.safeNow := by decide +kernel

theorem witness_refresh_kept :
    ({ islanded with sb := false } : State).sb = false := by decide +kernel

theorem witness_island_off :
    ({ islanded with saf.st := .off } : State).islandOn = false := by decide +kernel

theorem witness_power_on_sound :
    blockSound factoryBlock = true := sound_block

theorem witness_power_on_lost :
    (blockSound [] || blockSound []) = false := by decide +kernel

/-! Obligations.SafetyCycleGivesEnablesOnlyWhenSafe -/

theorem witness_safety_cycle :
    islanded.islandOn = true ∧ islanded.safeNow % 2500 = 0 ∧ islanded.saf.cycleAt ≠ some islanded.safeNow := by decide +kernel

theorem witness_safety_copy :
    let d := demand; let s : State := { islanded with saf.mailIn := [MailIn.telegram 0 d], saf.sent := [(0, 10000000000)] }; s.copyOk 0 d = true ∧ bit (field (slice (uninvert 0 d) 24 32) 0 1) 0 = false ∧ bit (field (slice (uninvert 0 d) 24 32) 0 1) 1 = false := demand_ok

theorem witness_safety_cycle_not_due :
    let s : State := { islanded with saf.cycleAt := some islanded.safeNow }; s.saf.cycleAt = some s.safeNow := by decide +kernel

/-! Obligations.SpeedGuardTestAndTelegramsComplete -/

theorem witness_spdin_first :
    islanded.islandOn = true ∧ islanded.saf.edgeAt = none := by decide +kernel

theorem witness_spdin_slow :
    pbMax islanded.saf.active < 5 := by decide +kernel

theorem witness_spdin_fast :
    let b := List.replicate 16 (0 : Byte) ++ leBytes 4 1000 ++ leBytes 4 400; 300 ≤ pbMax b ∧ 300 < pbMin b := by decide +kernel

theorem witness_spdin_good :
    let b := List.replicate 16 (0 : Byte) ++ leBytes 4 1000 ++ leBytes 4 100; 100 ≤ pbMax b ∧ pbMin b ≤ 100 ∧ 100 ≤ (5000 : Quad).toNat - 4900 := by decide +kernel

theorem witness_speed_late :
    ({ islanded with saf.edgeAt := some 0 } : State).saf.edgeAt = some 0 ∧ 0 + pbMax islanded.saf.active < islanded.safeNow := by decide +kernel

theorem witness_guard_test :
    let s : State := { islanded with saf.gtPhase := 1, saf.gtFrom := some 0 }; s.islandOn = true ∧ 0 + pbGt s.saf.active ≤ s.safeNow := by decide +kernel

theorem witness_status_due :
    let s : State := { islanded with saf.active := List.replicate 128 1 }; s.islandOn = true ∧ s.saf.st ≠ .unconfigured ∧ pbOwn s.saf.active ≠ 0 ∧ s.saf.statAt + pbCyc s.saf.active ≤ s.safeNow := by decide +kernel

theorem witness_status_not_due :
    ({ islanded with saf.st := .unconfigured } : State).saf.st = .unconfigured := by decide +kernel

theorem witness_telegram :
    islanded.sb = true ∧ (List.replicate 64 (0 : Byte)).length = 64 ∧ islanded.saf.mailIn.length < 16 := by decide +kernel

/-! Obligations.RepairCommandsComplete -/

theorem witness_rep_summary :
    (ready.accepted repSummaryOp .mspi (req 0xE [])).isSome = true := by decide +kernel

theorem witness_rep_migrate :
    (ready.accepted repMigrateOp .mspi (req 0xE [4, 0, 0, 0])).any (fun x => !x.1.unitFailed 4 0 && x.1.unitServes 4 0 && x.1.unitSpare 4 0 && (x.1.mig 4).isNone) = true := by decide +kernel

theorem witness_rep_migrate_busy :
    ((ready.queueMig 4 0 0).accepted repMigrateOp .mspi (req 0xE [4, 0, 0, 0])).any (fun x => x.1.unitServes 4 0 && x.1.unitSpare 4 0 && (x.1.mig 4).isSome) = true := by decide +kernel

theorem witness_rep_selftest :
    (ready.accepted repSelftestOp .mspi (req 0xE [1, 0, 0, 0])).any (fun x => x.1.rep.selftest.isNone) = true := by decide +kernel

theorem witness_rep_selftest_busy :
    (({ ready with rep.selftest := some (1, none) } : State).accepted repSelftestOp .mspi (req 0xE [1, 0, 0, 0])).any (fun x => x.1.rep.selftest.isSome) = true := by decide +kernel

theorem witness_bist :
    let s : State := { ready.setRegN REP_CFG 0x00010001 with time := 1250000000 }; bit (s.regN REP_CFG) 0 = true ∧ s.boot.firmware = true ∧ s.rep.selftest = none ∧ s.rep.bistAt + 1250000000 * s.fld REP_CFG 31 16 ≤ s.time := by decide +kernel

theorem witness_bist_early :
    let s := ready.setRegN REP_CFG 0x00010001; s.time < s.rep.bistAt + 1250000000 * s.fld REP_CFG 31 16 := by decide +kernel

theorem witness_bist_off :
    ({ ready with boot.firmware := false } : State).boot.firmware = false := by decide +kernel

theorem witness_selftest_none :
    ready.rep.selftest = none ∧ ready.rep.released = [] := by decide +kernel

theorem witness_selftest_released :
    ({ ready with rep.released := [(1, 64)] } : State).engineGroup 64 = none ∧ ready.rep.engFail.contains 64 = false := by decide +kernel

theorem witness_selftest_done :
    ({ ready with rep.selftest := some (0x20, none) } : State).rep.selftest = some (0x20, none) ∧ bit 0x20 5 = true := by decide +kernel

theorem witness_pair_rejoin :
    let s : State := { ready with rep.standby := false }; s.rep.standby = false ∧ s.boot.firmware = true ∧ s.rep.map = [] := by decide +kernel

theorem witness_map_writeback :
    ({ ready with rep.mapPend := some 0 } : State).rep.mapPend = some 0 ∧ ready.boot.firmware = true := by decide +kernel

theorem witness_map_writeback_none :
    ready.rep.mapPend = none := by decide +kernel

/-! Obligations.UnitFaultsMarkReportAndQueue -/

theorem witness_parity_tdc :
    ready.rep.tdcFail.contains 5 = false ∧ ready.tdcServes 5 ≠ 0xFFFF := by decide +kernel

theorem witness_parity_spare :
    ({ ready with hch.chans := [] } : State).tdcServes 530 = 0xFFFF := by decide +kernel

theorem witness_parity_engine :
    ready.rep.engFail.contains 5 = false ∧ (ready.engineGroup 5).isSome = true ∧ 5 < ready.hen.length := by decide +kernel

theorem witness_engine_spare :
    (ready.engineGroup 65).isSome = false := by decide +kernel

theorem witness_long_run :
    let s := (inRun [endWord]).setRun 0 fun r => { r with cycles := 1000 }; (s.eng 0).run.any (fun r => decide (2 * s.regN (HEN_WCET 0) < s.runCycles 0 r)) = true ∧ s.rep.engFail.contains 0 = false := by decide +kernel

theorem witness_no_run :
    (ready.eng 0).run = none := by decide +kernel

theorem witness_failed_again :
    ({ ready with rep.tdcFail := [5], rep.engFail := [5] } : State).rep.engFail.contains 5 = true := by decide +kernel

theorem witness_pair_fault :
    ready.boot.firmware = true ∧ ready.rep.switch = none ∧ ready.rep.standby = true := by decide +kernel

theorem witness_pair_fault_alone :
    ({ ready with rep.standby := false } : State).rep.standby = false := by decide +kernel

theorem witness_pair_fault_again :
    ({ ready with rep.switch := some 0 } : State).rep.switch ≠ none := by decide +kernel

/-! Obligations.MigrationsMoveWorkToSpares -/

theorem witness_tdc_migration :
    let s : State := { ready.queueMig 0 5 0 with rep.tdcFail := (List.range 31).map (· + 513), hch.chans := (List.range 6).map Chan.reset }; s.mig 0 ≠ none ∧ s.tdcServes 5 = 5 ∧ (s.spareRoute 5).any (fun x => decide (x.2 < s.hch.tdcs.length)) = true ∧ 5 < s.hch.chans.length := by decide +kernel

theorem witness_tdc_no_spare :
    let s : State := { ready.queueMig 0 5 0 with rep.tdcFail := (List.range 32).map (· + 512) }; s.spareRoute 5 = none := by decide +kernel

theorem witness_tdc_none :
    ready.mig 0 = none := by decide +kernel

theorem witness_tdc_other :
    let s := ready.queueMig 0 5 0; s.tdcServes 5 < 512 ∧ s.tdcServes 5 ≠ (6 : Fin 512).val := by decide +kernel

theorem witness_engine_migration :
    let s := ready.queueMig 1 5 0; s.mig 1 ≠ none ∧ s.engineGroup 5 = some 5 ∧ s.spareEngine = some 64 ∧ s.hen.length = 68 := by decide +kernel

theorem witness_engine_no_spare :
    ({ ready.queueMig 1 5 0 with rep.pool := [] } : State).spareEngine = none := by decide +kernel

theorem witness_engine_commanded_no_spare :
    let s : State := { ready.queueMig 1 5 0 (some (.mspi, 1)) with rep.pool := [] }; s.spareFor 1 5 = none ∧ (s.mig 1).any (fun m => m.commanded && m.failed == 5) = true ∧ s.engineGroup 5 = some 5 := by decide +kernel

theorem witness_switchover :
    ready.rep.standby = true ∧ ({ ready with rep.switch := some 0 } : State).rep.switch ≠ none := by decide +kernel

theorem witness_switchover_commanded :
    (ready.queueMig 4 0 0 (some (.mspi, 1))).mig 4 ≠ none := by decide +kernel

theorem witness_switchover_none :
    ready.mig 4 = none ∧ ready.rep.switch = none := by decide +kernel

/-! Obligations.MemoryFaultsAreContained -/

theorem witness_sram_engine :
    (0x800000 - 0x800000) / 0x70000 < 68 ∧ ready.rep.engFail.contains 0 = false := by decide +kernel

theorem witness_sram_table :
    ∃ x ∈ tabled.pg.tables, x.offset ≤ 0x200800 - 0x200000 ∧ 0x200800 - 0x200000 < x.offset + x.data.length := ⟨_, List.mem_singleton_self _, by decide +kernel⟩

theorem witness_sram_scrub_early :
    (ready.setRegN MEM_SCRUB_CFG 1).time < ready.mem.sramAt + 1250000000 * (ready.setRegN MEM_SCRUB_CFG 1).fld MEM_SCRUB_CFG 7 0 := by decide +kernel

theorem witness_sram_scrub :
    let s : State := { ready.setRegN MEM_SCRUB_CFG 1 with time := 1250000000 }; s.mem.sramAt + 1250000000 * s.fld MEM_SCRUB_CFG 7 0 ≤ s.time := by decide +kernel

theorem witness_sram_row :
    let s : State := { ready with mem.sramCe := List.replicate 3 (7, 5, 0) }; 3 ≤ ((s.recentCe s.mem.sramCe).filter fun x => x.1 == 7 && x.2.1 == 5).length ∧ s.mem.remap = [] := by decide +kernel

theorem witness_sram_row_few :
    ((ready.recentCe ready.mem.sramCe).filter fun x => x.1 == 7 && x.2.1 == 5).length < 3 := by decide +kernel

theorem witness_dram_scrub :
    let s : State := { ready.setRegN MEM_SCRUB_CFG 0x100 with time := 4500000000000 }; s.mem.dramAt + 1250000000 * (3600 * s.fld MEM_SCRUB_CFG 15 8) ≤ s.time := by decide +kernel

theorem witness_dram_scrub_early :
    let s : State := ready.setRegN MEM_SCRUB_CFG 0x100; s.time < s.mem.dramAt + 1250000000 * (3600 * s.fld MEM_SCRUB_CFG 15 8) := by decide +kernel

theorem witness_dram_row :
    let s : State := { ramUp with mem.dramCe := List.replicate 3 (0, 5, 0) }; (s.dramChan 0).up = true ∧ (s.dramChan 0).paused = false ∧ 3 ≤ ((s.recentCe s.mem.dramCe).filter fun y => y.1 == 0 && y.2.1 == 5).length ∧ 0 < (s.dramChan 0).spares := by decide +kernel

theorem witness_dram_row_end :
    [2, 0].all (fun n => let s := (ramUp.setDram 0 fun x => { x with spares := n }).pauseDram 0 (some 5); (s.dramChan 0).up && (s.dramChan 0).paused && (s.dramChan 0).repairs == some 5 && (s.dramChan 0).spares == n && decide (0 < s.mem.chans.length)) = true := by decide +kernel

theorem witness_dram_row_other :
    let s := ramUp.pauseDram 0 none; (s.dramChan 0).up = true ∧ (s.dramChan 0).paused = true ∧ (s.dramChan 0).repairs ≠ some 5 := by decide +kernel

theorem witness_dram_ue :
    0x1000 < ramUp.dramSize := by decide +kernel

theorem witness_dram_ue_outside :
    ramUp.dramSize ≤ 2 ^ 60 := by decide +kernel

theorem witness_retrain :
    let s := (({ ramUp with mem.cands := [[List.replicate 192 0], []] } : State)).setDram 0 fun x => { x with retrain := true }; (s.dramChan 0).up = true ∧ (s.dramChan 0).paused = false ∧ s.retrainDue 0 = true ∧ ((s.pauseDram 0 none).dramChan 0).paused = true ∧ ((s.pauseDram 0 none).dramChan 0).repairs = none ∧ 0 < s.mem.chans.length ∧ ((s.trialOrder 0).zip [true]).find? Prod.snd = some (0, true) := by decide +kernel

theorem witness_retrain_sound :
    (ramUp.dramChan 0).failed = false ∧ ramUp.tim.lost.contains (.dramPll 0) = false := by decide +kernel

theorem witness_retrain_not_due :
    (ready.dramChan 0).up = false := by decide +kernel

theorem witness_fallback :
    ramUp.boot.phase = .ready ∧ (ramUp.dramChan 0).failed = false ∧ (ramUp.dramChan 1).failed = false ∧ 1 < ramUp.mem.chans.length := by decide +kernel

/-! Obligations.RegisterAccessCompletes -/

theorem witness_reg_read :
    (ready.accepted regReadOp .mspi (req 0 (leBytes 4 0 ++ leBytes 2 3 ++ [0, 0]))).isSome = true := by decide +kernel

theorem witness_reg_write :
    (ready.accepted regWriteOp .mspi (req 0 (leBytes 4 0x40 ++ leBytes 2 1 ++ [0, 0] ++ leBytes 4 7))).any (fun x => (x.1.badWrite (regWrites 0x40 [7]) (fun _ => true)).isNone && !x.1.byResponder .mspi) = true := by decide +kernel

theorem witness_reg_write_bad :
    (ready.accepted regWriteOp .mspi (req 0 (leBytes 4 (EMT_COMP_SEL 0) ++ leBytes 2 1 ++ [0, 0] ++ leBytes 4 5))).any (fun x => (x.1.badWrite (regWrites (EMT_COMP_SEL 0) [5]) (fun _ => true)).any fun y => y.2 != ADM_REFUSED) = true := by decide +kernel

theorem witness_reg_modify :
    (ready.accepted regModifyOp .mspi (req 0 (leBytes 4 0x40 ++ leBytes 4 0xFF ++ leBytes 4 7))).any (fun x => ((x.1.readReg 0x40).2.badWrite [(0x40, x.1.modified 0x40 0xFF 7)] (fun _ => true)).isNone && !x.1.byResponder .mspi) = true := by decide +kernel

theorem witness_reg_modify_bad :
    (ready.accepted regModifyOp .mspi (req 0 (leBytes 4 (EMT_COMP_SEL 0) ++ leBytes 4 0xFFFF ++ leBytes 4 5))).any (fun x => ((x.1.readReg (EMT_COMP_SEL 0)).2.badWrite [(EMT_COMP_SEL 0, x.1.modified (EMT_COMP_SEL 0) 0xFFFF 5)] (fun _ => true)).any fun y => y.2 != ADM_REFUSED) = true := by decide +kernel

theorem witness_bar_write :
    ready.boot.held = false ∧ 0x40 % 4 = 0 ∧ 0x40 + 4 * 1 ≤ 0x100000 ∧ ready.badWrite (regWrites 0x40 [7]) (fun _ => true) = none := by decide +kernel

theorem witness_responder_own_write :
    State.reset.boot.responder = true ∧ touchesFw (regWrites 0x40 [7]) = false := by decide +kernel

theorem witness_bar_outside :
    0x100000 < 0x100000 + 4 * ([7] : List Word).length := by decide +kernel

/-! Obligations.ResponderRefusesFirmwareRegisters -/

theorem witness_responder_read :
    (State.reset.accepted regReadOp .mspi (req 0 (leBytes 4 0 ++ leBytes 2 3 ++ [0, 0]))).any (fun x => x.1.byResponder .mspi) = true := by decide +kernel

theorem witness_responder_barred :
    (State.reset.arrived 0xC1 .mspi (req 0 (leBytes 4 IFL_CFG ++ leBytes 2 1 ++ [0, 0] ++ leBytes 4 0))).any (fun x => x.1.byResponder .mspi) = true ∧ regWriteOp.lengthOk (leBytes 4 IFL_CFG ++ leBytes 2 1 ++ [0, 0] ++ leBytes 4 0) = true ∧ (regWrites IFL_CFG [0]).map Prod.fst = [IFL_CFG] := by decide +kernel

theorem witness_responder_written :
    (State.reset.accepted regWriteOp .mspi (req 0 (leBytes 4 0x40 ++ leBytes 2 1 ++ [0, 0] ++ leBytes 4 7))).any (fun x => x.1.byResponder .mspi && (x.1.badWrite (regWrites 0x40 [7]) (fun _ => true)).isNone) = true := by decide +kernel

theorem witness_responder_modify :
    (State.reset.arrived 0xC2 .mspi (req 0 (leBytes 4 THM_CFG ++ leBytes 4 0xFF ++ leBytes 4 7))).any (fun x => x.1.byResponder .mspi) = true := by decide +kernel

theorem witness_responder_mem :
    (State.reset.arrived 0xC4 .mspi (req 0 ([0, 0, 0, 0] ++ leBytes 8 IFL_CFG ++ leBytes 4 0))).any (fun x => x.1.byResponder .mspi) = true := by decide +kernel

/-! Obligations.MemoryWindowsAndSnapshotsComplete -/

theorem witness_mem_read :
    (ramUp.accepted memReadOp .mspi (req 0 ([2, 0, 0, 0] ++ leBytes 8 0x1000 ++ leBytes 4 16))).any (fun x => !x.1.freeHandle 2 && !x.1.poisoned 0x1000 16) = true := by decide +kernel

theorem witness_mem_read_poisoned :
    (({ ramUp with mem.poison := [0x40] } : State).accepted memReadOp .mspi (req 0 ([2, 0, 0, 0] ++ leBytes 8 0x1000 ++ leBytes 4 16))).any (fun x => !x.1.freeHandle 2 && x.1.poisoned 0x1000 16) = true := by decide +kernel

theorem witness_mem_read_free :
    (ready.accepted memReadOp .mspi (req 0 ([0x78, 0, 0, 0] ++ leBytes 8 0 ++ leBytes 4 16))).any (fun x => x.1.freeHandle 0x78) = true := by decide +kernel

theorem witness_mem_write :
    (ramUp.accepted memWriteOp .mspi (req 0 ([2, 0, 0, 0] ++ leBytes 8 0x1000 ++ List.replicate 16 7))).any (fun x => !x.1.engineBusy 2 0x1000 16) = true := by decide +kernel

theorem witness_mem_write_busy :
    (ready.accepted memWriteOp .mspi (req 0 ([0x10, 0, 0, 0] ++ leBytes 8 0 ++ List.replicate 16 7))).any (fun x => x.1.engineBusy 0x10 0 16) = true := by decide +kernel

theorem witness_mem_write_regs :
    (ready.accepted memWriteOp .mspi (req 0 ([0, 0, 0, 0] ++ leBytes 8 0x40 ++ List.replicate 4 7))).any (fun x => (x.1.badWrite (regWrites 0x40 [0x07070707]) (fun _ => true)).isNone) = true := by decide +kernel

theorem witness_snapshot :
    (ready.accepted snapshotOp .mspi (req 0 ([1, 0, 0, 0] ++ [0x72, 0, 0, 0, 0, 0, 0, 0] ++ leBytes 8 0 ++ leBytes 8 16))).any (fun x => x.1.pk.snapshots.findIdx? Option.isNone == some 0 && !x.1.freeHandle 0x72 && decide (x.1.snapUsed + imageLength [(0x72, 0, 16)] ≤ 2 ^ 20 * x.1.fld MEM_SNAP_SIZE 15 0)) = true := by decide +kernel

theorem witness_snapshot_poisoned :
    (({ ramUp with mem.poison := [0x40] } : State).accepted snapshotOp .mspi (req 0 ([1, 0, 0, 0] ++ [2, 0, 0, 0, 0, 0, 0, 0] ++ leBytes 8 0x1000 ++ leBytes 8 16))).any (fun x => x.1.pk.snapshots.findIdx? Option.isNone == some 0 && !x.1.freeHandle 2 && x.1.poisoned 0x1000 16) = true := by decide +kernel

theorem witness_snapshot_full :
    (({ ready with pk.snapshots := List.replicate 4 (some oneSnapshot) } : State).accepted snapshotOp .mspi (req 0 ([1, 0, 0, 0] ++ [0x72, 0, 0, 0, 0, 0, 0, 0] ++ leBytes 8 0 ++ leBytes 8 16))).any (fun x => x.1.pk.snapshots.all Option.isSome) = true := by decide +kernel

theorem witness_snapshot_release :
    (snapped.accepted snapshotReleaseOp .mspi (req 0 [1, 0, 0, 0])).any (fun x => (nth x.1.pk.snapshots 1 none).isSome) = true := by decide +kernel

theorem witness_snapshot_release_free :
    (ready.accepted snapshotReleaseOp .mspi (req 0 [1, 0, 0, 0])).any (fun x => !(nth x.1.pk.snapshots 1 none).isSome) = true := by decide +kernel

theorem witness_snapshot_done :
    (nth ({ snapped with pk.snapshots := [some { oneSnapshot with done := false }] } : State).pk.snapshots 0 none).any (fun y => !y.done) = true ∧ ({ snapped with pk.snapshots := [some { oneSnapshot with done := false }] } : State).dramPaused = false := by decide +kernel

theorem witness_snapshot_expiry :
    (nth snapped.pk.snapshots 1 none).any (fun y => y.done && decide (y.last + 75000000000 ≤ snapped.time)) = true := by decide +kernel

theorem witness_snapshot_free :
    nth ready.pk.snapshots 2 none = none := by decide +kernel

/-! Obligations.WrittenBytesReadBack -/

theorem witness_dram_span :
    0x1000 + ([7] : List Byte).length ≤ ramUp.dramTop := by decide +kernel

theorem witness_engine_span :
    0x10 - 0x10 < ready.hen.length := by decide +kernel

theorem witness_wf :
    State.reset.wf = true := by decide +kernel

/-! Obligations.ArrivingPacketsAreSorted -/

theorem witness_format :
    parsePacket [] = .format ∧ ready.boot.held = false ∧ soundPacket [] = none ∧ (ready.taken .mspi (.raw [])).isSome = true := by decide +kernel

theorem witness_raw_waits :
    State.reset.boot.held = false ∧ (({ State.reset with boot.responder := false } : State).taken .mspi (.raw [])).isNone = true ∧ ({ State.reset with boot.responder := false } : State).waits .mspi (.raw []) = false ∧ (({ State.reset with boot.responder := false } : State).enqueue .mspi (.raw [])).waits .mspi (.raw []) = true := by decide +kernel

theorem witness_old_version :
    (match parsePacket (nopBytes.set 2 2) with | .packet .. => true | .crc _ => true | _ => false) = true := by decide +kernel

theorem witness_crc :
    (match parsePacket (0xA5 :: 0x4E :: List.replicate 18 0) with | .crc _ => true | _ => false) = true := by decide +kernel

theorem witness_packet :
    (soundPacket nopBytes).any (fun p => knownOpcodes.contains p.opcode.toNat) = true := by decide +kernel

theorem witness_forward :
    (req 0x50 []).target.toNat / 16 ≠ ready.ifl.dev ∧ ready.deaf .mspi = false ∧ (ready.taken .mspi (.packet ((req 0x50 []).packet 0))).any (fun x => (x.2.ensureSession .mspi).any fun u => match u.route .mspi 5 with | .inr _ => true | _ => false) = true := by decide +kernel

theorem witness_forward_joined :
    (joined.taken .mspi (.packet ((req 0x50 []).packet 0))).any (fun x => (x.2.ensureSession .mspi).any fun u => match u.route .mspi 5 with | .inl q => q == 0 | _ => false) = true := by decide +kernel

theorem witness_forward_own :
    (req 0 []).target.toNat / 16 = ready.ifl.dev := by decide +kernel

theorem witness_mspi_free :
    ready.mspiBusy = false := by decide +kernel

theorem witness_mspi_busy :
    ({ ready with pk.deferred := some waiting } : State).mspiBusy = true := by decide +kernel

theorem witness_mspi_reply :
    ({ ready with pk.mspiReply := [(req 0 []).packet 0] } : State).pk.mspiReply ≠ [] := by decide +kernel

theorem witness_takeover :
    let s : State := { ready with pk.ingress := [{ origin := .mspi, item := .packet ((req 0 []).packet 0), entered := 0 }], time := 12500000 }; (s.queueHead 8).any (fun h => decide (h.entered + 12500000 ≤ s.time)) = true ∧ s.boot.responder = false ∧ s.pk.mspiServed + 12500000 ≤ s.time := by decide +kernel

theorem witness_takeover_none :
    ready.queueHead 8 = none := by decide +kernel

/-! Obligations.RingsAndPortsComplete -/

theorem witness_cmdq_tail :
    replying.pk.rings[3]?.any RingPair.enabled = true ∧ (0 : Word).toNat < 2 ^ replying.fld (OUT_CMDQ_SIZE 3) 3 0 := by decide +kernel

theorem witness_cmdq_bare :
    ready.pk.rings[3]?.any (fun y => !y.enabled && !y.cmdBase) = true := by decide +kernel

theorem witness_cmdq_enable :
    ({ ready with pk.rings := ready.pk.rings.map fun y => { y with cmdBase := true, rplBase := true } } : State).pk.rings[3]?.any (fun y => !y.enabled && y.cmdBase && y.rplBase) = true := by decide +kernel

theorem witness_cmdq_beyond :
    2 ^ ready.fld (OUT_CMDQ_SIZE 3) 3 0 ≤ (0xFFFFFFFF : Word).toNat := by decide +kernel

theorem witness_rplq_tail :
    ready.pk.rings[3]?.isSome = true ∧ (0 : Word).toNat < 2 ^ ready.fld (OUT_CMDQ_SIZE 3) 11 8 := by decide +kernel

theorem witness_dring_tail :
    closing.out.rings[0]?.any (fun y => y.enabled || y.baseSet) = true ∧ (1 : Word).toNat < closing.ringSize 0 := by decide +kernel

theorem witness_dring_bare :
    ready.out.rings[0]?.any (fun y => !y.enabled && !y.baseSet) = true := by decide +kernel

theorem witness_link_trained :
    8 ∈ [1, 2, 4, 8] ∧ 32 ∈ [2, 5, 8, 16, 32] ∧ ready.boot.phase ≠ .hardware ∧ ready.boot.held = false ∧ ready.tim.lost.contains .pcieRefclk = false := by decide +kernel

theorem witness_link_untrained :
    3 ∉ [1, 2, 4, 8] := by decide +kernel

theorem witness_eth_down :
    nth ready.out.ethUp 0 false = false := by decide +kernel

theorem witness_eth_up :
    nth closingEth.out.ethUp 0 false = true ∧ closingEth.readFrame 0 [] = none := by decide +kernel

theorem witness_eth_frame :
    (closingEth.readFrame 0 arpFrame).any (fun e => decide (e.type = 0x0806)) = true := by decide +kernel

theorem witness_eth_datagram :
    (closingEth.readDatagram 0 commandDatagram).any (fun x => decide (x.2.2.1 = closingEth.fld GLB_CMD_UDP_PORT 15 0)) = true := by decide +kernel

/-! Obligations.TreeCommandsAndLinksComplete -/

theorem witness_tree_status :
    (ready.accepted treeStatusOp .mspi (req 0xF [])).any (fun x => decide (x.1.ifl.dev = 0) && (x.1.ifl.entries.find? (fun e => e.dev == 7)).isNone) = true := by decide +kernel

theorem witness_tree_config :
    (joined.accepted treeConfigOp .mspi (req 0xF [1, 0, 0, 0, 5, 0, 0, 0])).any (fun x => x.1.role == 1 && x.1.ifl.entries.all (fun e => (treeEntries [1, 0, 0, 0, 5, 0, 0, 0]).contains e)) = true := by decide +kernel

theorem witness_tree_config_alone :
    (ready.accepted treeConfigOp .mspi (req 0xF [0, 0, 0, 0])).any (fun x => x.1.role != 1) = true := by decide +kernel

theorem witness_worker_resync :
    (joined.accepted workerResyncOp .mspi (req 0xF [5, 0, 0, 0])).any (fun x => x.1.role == 1 && x.1.ifl.entries.any (fun e => e.dev == 5) && x.1.ifl.portTo x.1.ifl.dev 16 5 == some 0 && x.1.ifl.resync.isNone) = true := by decide +kernel

theorem witness_worker_resync_busy :
    (({ joined with ifl.resync := some (5, .mspi, 1) } : State).accepted workerResyncOp .mspi (req 0xF [5, 0, 0, 0])).any (fun x => x.1.ifl.resync.isSome && x.1.ifl.portTo x.1.ifl.dev 16 5 == some 0) = true := by decide +kernel

theorem witness_worker_resync_none :
    (ready.accepted workerResyncOp .mspi (req 0xF [6, 0, 0, 0])).any (fun x => x.1.role == 0) = true := by decide +kernel

theorem witness_block_lock :
    bit (joined.regN IFL_CFG) (0 : Fin 4).val = true ∧ joined.role ≠ 0 ∧ (joined.port 0).state ≠ 0 ∧ (joined.port 0).locked = false ∧ 0 < joined.ifl.ports.length := by decide +kernel

theorem witness_block_lock_off :
    ready.role = 0 ∧ (ready.port 0).locked = false := by decide +kernel

theorem witness_exchange_worker :
    working.role = 2 ∧ (working.port 0).locked = true ∧ (working.port 0).parent = true ∧ 0 < working.ifl.ports.length := by decide +kernel

theorem witness_exchange_down :
    let s := joined.setPort 0 fun x => { x with locked := false, state := 4 }; (s.port 0).state = 4 ∧ s.role = 1 := by decide +kernel

theorem witness_exchange_manager :
    let s := joined.setPort 0 fun x => { x with locked := true }; s.role = 1 ∧ (s.port 0).locked = true ∧ (s.port 0).unlisted = false ∧ (s.port 0).state = 3 := by decide +kernel

theorem witness_link_join :
    let s : State := { working with ifl.joining := true }; (s.port s.ifl.parentPort).state = 2 ∧ (s.port s.ifl.parentPort).unlisted = false ∧ s.averaged ≤ (s.port s.ifl.parentPort).count := by decide +kernel

theorem witness_link_join_early :
    let s : State := { working with ifl.joining := true }.setPort 0 fun x => { x with count := 0 }; s.role = 2 ∧ (s.port s.ifl.parentPort).count < s.averaged := by decide +kernel

theorem witness_link_join_near :
    let s := working.setPort 0 fun x => { x with theta := 0 }; s.ifl.joining = false ∧ 64 ≤ (s.port 0).count ∧ (s.port 0).theta.natAbs ≤ 1024 * 256 ∧ 0 < s.averaged := by decide +kernel

theorem witness_link_join_load :
    working.ifl.joining = false ∧ 64 ≤ (working.port 0).count ∧ 1024 * 256 < (working.port 0).theta.natAbs ∧ working.coreIdle = true := by decide +kernel

theorem witness_link_down :
    (working.port 0).locked = true ∧ working.role = 2 := by decide +kernel

/-! Obligations.TreeBlocksAndFramesComplete -/

theorem witness_not_worker :
    ready.role ≠ 2 := by decide +kernel

theorem witness_worker :
    working.role = 2 := by decide +kernel

theorem witness_sync_shot_none :
    let s : State := { working with ifl.syncFull := some 7 }; s.role = 2 ∧ s.ifl.syncFull = some 7 ∧ (s.sendBlock 0x51 0 (some s.ifl.parentPort)).prog 0 = none := by decide +kernel

theorem witness_sync_shot :
    let b := synced.sendBlock 0x51 (3 * 2 ^ 42 + 7 * 2 ^ 26) (some synced.ifl.parentPort); let u : State := { b with ifl.syncFull := none, ifl.latest := some 7 }; (u.prog 3).any (fun q => q.issues && seSync (u.plan 3 q).entry) = true ∧ 32 * (0 + 64) ≤ u.placed 4096 0 ∧ u.seq.clockHold = false ∧ u.thm.shutdown = false ∧ synced.role = 2 := by decide +kernel

theorem witness_wait_report :
    joined.role = 1 ∧ joined.repeated 5 0 = false := by decide +kernel

theorem witness_wait_release :
    working.repeated 16 0 = false := by decide +kernel

theorem witness_frame_joined :
    (joined.port 0).state = 3 ∧ joined.role = 1 := by decide +kernel

theorem witness_frame_up :
    let s := working.setPort 1 fun x => { x with state := 3 }; (s.port 1).state = 3 ∧ s.role = 2 ∧ s.ifl.dev ≠ 9 ∧ s.ifl.parentPort ≠ 1 := by decide +kernel

theorem witness_frame_unjoined :
    (ready.port 0).state ≠ 3 := by decide +kernel

theorem witness_window :
    let s : State := { ready.report (causeKey 1 1 0) 0 0 false with time := 10000000 }; s.rep.incidents.any (fun i => i.state == 0 && decide (i.closes < s.time) && i.iseq == 1) = true := by decide +kernel

theorem witness_window_open :
    let s := ready.report (causeKey 1 1 0) 0 0 false; s.rep.incidents.any (fun i => decide (s.time ≤ i.closes)) = true := by decide +kernel

theorem witness_window_none :
    ready.rep.incidents = [] := by decide +kernel

/-! Obligations.ResetsPutTheDeviceBack -/

theorem witness_reset_core :
    (ready.accepted (resetOp 1) .mspi (req 0 [1, 0, 0x0E, 0x0B])).isSome = true ∧ (req 0 [1, 0, 0x0E, 0x0B]).carries 4 0 1 = true := by decide +kernel

theorem witness_reset_whole :
    (ready.accepted (resetOp 2) .mspi (req 0 [2, 0, 0x0E, 0x0B])).isSome = true ∧ (req 0 [2, 0, 0x0E, 0x0B]).carries 4 0 2 = true := by decide +kernel

theorem witness_reset_restart :
    (ready.accepted (resetOp 0) .mspi (req 0 [0, 0, 0x0E, 0x0B])).any (fun x => x.1.boot.firmware && x.1.rep.standby && x.1.rep.migs.isEmpty) = true := by decide +kernel

theorem witness_reset_restart_alone :
    (({ ready with rep.standby := false } : State).accepted (resetOp 0) .mspi (req 0 [0, 0, 0x0E, 0x0B])).any (fun x => !x.1.rep.standby) = true := by decide +kernel

theorem witness_reset_unanswered :
    ({ ready with pk.mspiReply := [(req 0 []).packet 0xF2] } : State).resetUnanswered = true ∧ ready.resetUnanswered = false := by decide +kernel

theorem witness_reset_none :
    ready.pk.resetPend = none := by decide +kernel

theorem witness_reset_takes :
    ({ ready with pk.resetPend := some (2, 0) } : State).thm.writeback.isEmpty = true ∧ ready.rep.mapPend = none := by decide +kernel

theorem witness_reset_takes_core :
    ({ State.reset with pk.resetPend := some (1, 0) } : State).boot.firmware = false := by decide +kernel

theorem witness_porst_held :
    ({ ready with boot.held := true } : State).boot.held = true := by decide +kernel

/-! Obligations.BootPhasesFollow -/

theorem witness_loading_not :
    ready.boot.phase ≠ .hardware := by decide +kernel

theorem witness_loading_hold :
    State.reset.boot.phase = .hardware ∧ State.reset.boot.held = false ∧ State.reset.chosenSlot (State.reset.fld BOOT_CFG 1 0) = none := by decide +kernel

theorem witness_loading_mode :
    State.reset.rep.map = [] ∧ State.reset.fld BOOT_CFG 1 0 ≠ 1 := by decide +kernel

theorem witness_loading_slot :
    (bootable.chosenSlot (bootable.fld BOOT_CFG 1 0)).isSome = true := bootable_slot

theorem witness_bringup :
    ({ ready with boot.phase := .loading } : State).boot.phase = .loading := by decide +kernel

theorem witness_ready_phase :
    ({ ready with boot.phase := .bringup } : State).boot.phase = .bringup := by decide +kernel

/-! Obligations.FlashCommandsComplete -/

theorem witness_fw_write :
    (ready.accepted fwWriteOp .mspi (req 0 (leBytes 4 0xA70000 ++ [1, 2, 3, 4]))).any (fun x => !x.1.flashBarred 0xA70000 4) = true := by decide +kernel

theorem witness_fw_write_barred :
    (ready.accepted fwWriteOp .mspi (req 0 (leBytes 4 0 ++ [1, 2, 3, 4]))).any (fun x => x.1.flashBarred 0 4 && !x.1.byResponder .mspi) = true := by decide +kernel

theorem witness_flash_read :
    (ready.accepted flashReadOp .mspi (req 0 (leBytes 4 0 ++ leBytes 4 16))).isSome = true := by decide +kernel

theorem witness_fw_activate :
    (ready.accepted fwActivateOp .mspi (req 0 [1, 0, 0, 0])).any (fun x => !x.1.ccSingle && x.1.boot.activate.isNone) = true := by decide +kernel

theorem witness_fw_activate_busy :
    (({ ready with boot.activate := some (1, .mspi, 1) } : State).accepted fwActivateOp .mspi (req 0 [1, 0, 0, 0])).any (fun x => !x.1.ccSingle && x.1.boot.activate.isSome) = true := by decide +kernel

theorem witness_fw_activate_single :
    (({ ready with rep.standby := false } : State).accepted fwActivateOp .mspi (req 0 [1, 0, 0, 0])).any (fun x => x.1.ccSingle) = true := by decide +kernel

theorem witness_activate_done :
    ready.boot.activate = none ∧ ready.rep.standby = true ∧ ready.slotValid 0 = false := by decide +kernel

theorem witness_activate_slot :
    bootable.slotValid 0 = true := bootable_valid

/-! Obligations.ClocksAreLostAndReturn -/

theorem witness_refin_there :
    ready.tim.refin = true ∧ ready.role ≠ 2 ∧ ready.tim.xsys = true := by decide +kernel

theorem witness_refin_last :
    ({ ready with tim.xsys := false } : State).tim.xsys = false := by decide +kernel

theorem witness_xsys_last :
    ({ ready with tim.refin := false } : State).hasRef = false ∧ ready.hasRef = true := by decide +kernel

theorem witness_clock_there :
    ready.clockLost (.dramPll 1) = false ∧ ready.clockLost .ethRefclk = false ∧ 1 < ready.mem.chans.length := by decide +kernel

theorem witness_clock_gone :
    ({ ready with tim.lost := [.clePll] } : State).clockLost .clePll = true := by decide +kernel

theorem witness_xsi :
    islanded.clockLost .xsi = false ∧ islanded.islandOn = true := by decide +kernel

theorem witness_xsi_gone :
    ({ ready with tim.lost := [.xsi] } : State).clockLost .xsi = true := by decide +kernel

/-! Obligations.StepTakesTheFrontCommand -/

theorem witness_front :
    ({ ready with pending := [.go] } : State).pending = .go :: [] := by decide +kernel

theorem witness_empty :
    ready.pending = [] := by decide +kernel

/-! Obligations.PacketBytesReadBack -/

theorem witness_packet_row :
    (Instr.nop .mspi (req 0 [1, 2])).wf = true ∧ ((Instr.nop .mspi (req 0 [1, 2])).sent).isSome = true := by decide +kernel

theorem witness_packet_longest :
    ((req 0 (List.replicate 4080 0)).packet 0).payload.length ≤ 4080 := by decide +kernel

theorem witness_packet_trailer :
    (0 : Word) ≠ ((req 0 []).packet 0).crc := by decide +kernel

theorem witness_packet_bytes :
    parsePacket nopBytes = .packet 1 ((req 0 []).packet 0) := by decide +kernel

/-! Obligations.RepliesFollowTheChecks -/

theorem witness_packet_sent :
    ((Instr.nop .mspi (req 0 [])).sent).isSome = true := by decide +kernel

theorem witness_packet_deaf :
    ({ ready with boot.held := true } : State).deaf .mspi = true := by decide +kernel

theorem witness_packet_waits :
    ({ ready with pk.deferred := some waiting } : State).deaf .mspi = false ∧ (({ ready with pk.deferred := some waiting } : State).taken .mspi (.packet ((req 0 []).packet 0))).isNone = true := by decide +kernel

theorem witness_packet_repeat :
    let s := ready.serve nopOp .mspi (req 0 []); s.deaf .mspi = false ∧ (s.taken .mspi (.packet ((req 0 []).packet 0))).any (fun x => (x.2.ensureSession .mspi).any fun u => (u.session .mspi).any fun y => y.cache.any fun z => z.sequence == 1 && z.crc == ((req 0 []).packet 0).crc && !z.quiet) = true := by decide +kernel

theorem witness_packet_conflict :
    let s := ready.serve nopOp .mspi (req 0 [1]); (s.taken .mspi (.packet ((req 0 []).packet 0))).any (fun x => (x.2.ensureSession .mspi).any fun u => (u.session .mspi).any fun y => y.cache.any fun z => z.sequence == 1 && z.crc != ((req 0 []).packet 0).crc) = true := by decide +kernel

theorem witness_packet_hushed :
    let s := ready.serve fireConfigOp .mspi (req 2 [0, 0, 0, 0, 0, 0, 0, 0] 4); (s.taken .mspi (.packet ((req 2 [0, 0, 0, 0, 0, 0, 0, 0] 4).packet 0x30))).any (fun x => (x.2.ensureSession .mspi).any fun u => (u.session .mspi).any fun y => y.cache.any fun z => z.sequence == 1) = true := by decide +kernel

theorem witness_packet_stale :
    let s := ready.setSession .mspi fun x => { x with newest := some 2 }; (s.taken .mspi (.packet ((req 0 []).packet 0))).any (fun x => (x.2.ensureSession .mspi).any fun u => (u.session .mspi).any fun y => y.cache.isEmpty && y.newest == some 2) = true ∧ 32768 ≤ ((req 0 []).sequence - 2).toNat := by decide +kernel

theorem witness_packet_arrives :
    (ready.arrived 0 .mspi (req 0 [])).isSome = true := by decide +kernel

theorem witness_packet_fails :
    (ready.arrived 1 .mspi (req 0 [1])).any (fun x => (firstFail [x.1.opChecks identOp .mspi ((req 0 [1]).packet 1), x.1.stateChecks identOp ((req 0 [1]).packet 1) x.2]).isSome) = true := by decide +kernel

theorem witness_packet_cas :
    (ready.arrived 0x11 .mspi (req 1 [1, 0, 5, 0, 16, 0, 0, 0, 0, 0, 0, 0] 2)).isSome = true := by decide +kernel

theorem witness_packet_ends :
    (ready.session .mspi).isSome = true ∧ (State.reset.session .mspi).isSome = true := by decide +kernel

/-! Obligations.GenerationCountsChanges -/

theorem witness_gen_wraps :
    (ready.setReg GLB_CFG_GEN 0xFFFFFFFF).gen = 0xFFFFFFFF ∧ ready.gen ≠ 0xFFFFFFFF := by decide +kernel

theorem witness_gen_noted :
    ((ready.setReg GLB_CFG_GEN 0xFFFFFFFF).bumpGen).pk.wraps ≠ [] ∧ ((ready.setReg GLB_CFG_GEN 0xFFFFFFFF).bumpGen).reg GLB_EVT_SEQ ≠ 0xFFFFFFFF := by decide +kernel

/-! Obligations.FlashKeepsItsForm -/

theorem witness_flash_form :
    Sparse.wf erased State.reset.boot.flash = true ∧ Sparse.wf erased (State.reset.flashWrite 64 [1, 2]).boot.flash = true := by decide +kernel

/-! Each check of WellFormed refuses an ill-formed term. -/

def tooLong : Request := req 0 (List.replicate 4081 0)

theorem test_wf_fits : (Instr.nop .mspi tooLong).wf = false := by decide +kernel
theorem test_wf_stop_mode : (Instr.progStopEndOfSegment .mspi (req 1 [3, 0, 1, 0])).wf = false := by decide +kernel
theorem test_wf_stop_now : (Instr.progStopImmediate .mspi (req 1 [3, 0, 0, 0])).wf = false := by decide +kernel
theorem test_wf_run : (Instr.engControlRun .mspi (req 5 [3, 0, 0, 0])).wf = false := by decide +kernel
theorem test_wf_halt : (Instr.engControlHalt .mspi (req 5 [3, 1, 0, 0])).wf = false := by decide +kernel
theorem test_wf_restart : (Instr.resetFirmwareRestart .mspi (req 0 [1, 0, 0x0E, 0x0B])).wf = false := by decide +kernel
theorem test_wf_core : (Instr.resetMeasuringCore .mspi (req 0 [2, 0, 0x0E, 0x0B])).wf = false := by decide +kernel
theorem test_wf_whole : (Instr.resetWholeDevice .mspi (req 0 [0, 0, 0x0E, 0x0B])).wf = false := by decide +kernel
theorem test_wf_raw : (Instr.packetDiscard .mspi (List.replicate 65537 0)).wf = false := by decide +kernel
theorem test_wf_address : (Instr.registerWrite .bar0 2 [0]).wf = false := by decide +kernel
theorem test_wf_span : (Instr.registerWrite .bar0 0xFFFFC [0, 0]).wf = false := by decide +kernel
theorem test_wf_values : (Instr.registerWrite .bar0 0 []).wf = false := by decide +kernel
theorem test_wf_cmdq : (Instr.outCmdqTail 0 4096 []).wf = false := by decide +kernel
theorem test_wf_cmdq_packet : (Instr.outCmdqTail 0 1 [List.replicate 4101 0]).wf = false := by decide +kernel
theorem test_wf_rplq : (Instr.outRplqTail 0 4096 []).wf = false := by decide +kernel
theorem test_wf_dring : (Instr.outDringTail 0 4096 []).wf = false := by decide +kernel
theorem test_wf_readings : (Instr.shortTestDone [(0, 0)]).wf = false := by decide +kernel
theorem test_wf_trims : (Instr.wfdRotationStep [] [0]).wf = false := by decide +kernel
theorem test_wf_hk_trims : (Instr.hkRotationStep [] [0]).wf = false := by decide +kernel
theorem test_wf_sensors : (Instr.thermalReading []).wf = false := by decide +kernel
theorem test_wf_pulse : (Instr.testPulse 4 true).wf = false := by decide +kernel
theorem test_wf_telegram : (Instr.safetyTelegram 0 [0]).wf = false := by decide +kernel
theorem test_wf_output : (Instr.outputRefreshTimeout 4).wf = false := by decide +kernel
theorem test_wf_island_cause : (Instr.islandReset 12).wf = false := by decide +kernel
theorem test_wf_stores : (Instr.islandPowerOn [[]]).wf = false := by decide +kernel
theorem test_wf_macro : (Instr.sramRowRepair 604 0).wf = false := by decide +kernel
theorem test_wf_row : (Instr.sramRowRepair 0 8192).wf = false := by decide +kernel
theorem test_wf_straps : (Instr.porst true 4 0).wf = false := by decide +kernel
theorem test_wf_parity : (Instr.parityError true 68).wf = false := by decide +kernel
theorem test_wf_parity_unit : (Instr.parityError false 567).wf = false := by decide +kernel

/-! Worked examples of the spec; the expected results are the spec's own. -/

/-- 00 Worked example: 834 ticks and 1,229 fine LSB less an offset of 3,072 at n_g = 1.00027 give 1,598,014. -/
theorem test_range : rangeOf (834 * 2048 + 1229 - 3072) 1000270 = (1598014, false) := by decide +kernel

/-- 02 R37: the check value. -/
theorem test_check_value : crc32c [0x31, 0x32, 0x33, 0x34, 0x35, 0x36, 0x37, 0x38, 0x39] = 0xE3069283#32 := by
  decide +kernel

/-- 02 Worked example: REG_READ of GLB_IDENT with sequence 7, its header and payload. -/
theorem test_ident_packet :
    ({ flags := 0, status := 0, sequence := 7, target := 0, cls := 0, gen := 0
       payload := [0, 0, 0, 0, 1, 0, 0, 0] : Request }.packet 0xC0).body =
      [0xA5, 0x4E, 0x01, 0xC0, 0, 0, 7, 0, 8, 0, 0, 0, 0, 0, 0, 0, 0, 0, 0, 0, 1, 0, 0, 0] := by decide +kernel

/-- 02 Worked example: the identity of an NRX-512-SB at B1. -/
theorem test_ident : State.reset.view GLB_IDENT = 0x51224201 := by decide +kernel

/-- 06 Worked example: tap 20 of width 1,056 at 21,120 with g = 5,120 and residue 4 gives 1,326 fine LSB. -/
theorem test_fine : fineOf (List.replicate 20 1056 ++ [1056]) 5120 20 4 = 1326 := by decide +kernel

/-- 06 Worked example: the walk section (1,536, 80), (2,048, 48) at 1,792 gives 64. -/
theorem test_walk : walkAt [(1536, 80), (2048, 48)] 1792 = (64, false) := by decide +kernel

/-- 06 Worked example: the regression over five edges. -/
theorem test_regression :
    ({ owner := .mspi, sequence := 0, gate := 0, first := none, lastT := 0, n := 5, st := 2560000, sit := 7679998
       blind := false, rate := false, warm := true : FreqUnit } : FreqUnit).period = 0x3E7FFCCCD := by decide +kernel

/-- 09 Worked example: samples 148 and 172 around level 160 cross at 2,049,709,280 in sample 6,405,342. -/
theorem test_crossing :
    (({ ready with wfd.mode := 0 }.setRegN (WFD_CAP_THRESH 2) (8 * 256 + 160)).detect 2 0
      { low := true, high := false, prev := some (148, false), found := [] } 6405342 172).found =
      [(0, 2049709280, 6405342)] := by decide +kernel

/-- 13 Worked example: 109.758377 mV over 1,000.4 uA of a Pt100 is 24.9375 degrees, 798 in 1/32 degree. -/
theorem test_pt100 : rtdTemp 100 (11509 * 3125 * 1000) (32768 * 10004) 0 = 798 := by decide +kernel

end Sys2Proof.Tests
end

namespace Sys2Proof.Machine

/-! Frames of a change of one part of the state. -/

section
variable (s : State)

theorem keeps_drawn (x) : s.keeps { s with drawn := x } [.drawn] := by
  intro p hp; cases p <;> simp at hp <;> rfl
theorem keeps_pg (x) : s.keeps { s with pg := x } [.pg] := by
  intro p hp; cases p <;> simp at hp <;> rfl
theorem keeps_seq (x) : s.keeps { s with seq := x } [.seq] := by
  intro p hp; cases p <;> simp at hp <;> rfl
theorem keeps_emt (x) : s.keeps { s with emt := x } [.emt] := by
  intro p hp; cases p <;> simp at hp <;> rfl
theorem keeps_cle (x) : s.keeps { s with cle := x } [.cle] := by
  intro p hp; cases p <;> simp at hp <;> rfl
theorem keeps_hch (x) : s.keeps { s with hch := x } [.hch] := by
  intro p hp; cases p <;> simp at hp <;> rfl
theorem keeps_hen (x) : s.keeps { s with hen := x } [.hen] := by
  intro p hp; cases p <;> simp at hp <;> rfl
theorem keeps_wfd (x) : s.keeps { s with wfd := x } [.wfd] := by
  intro p hp; cases p <;> simp at hp <;> rfl
theorem keeps_out (x) : s.keeps { s with out := x } [.out] := by
  intro p hp; cases p <;> simp at hp <;> rfl
theorem keeps_adm (x) : s.keeps { s with adm := x } [.adm] := by
  intro p hp; cases p <;> simp at hp <;> rfl
theorem keeps_tim (x) : s.keeps { s with tim := x } [.tim] := by
  intro p hp; cases p <;> simp at hp <;> rfl
theorem keeps_hka (x) : s.keeps { s with hka := x } [.hka] := by
  intro p hp; cases p <;> simp at hp <;> rfl
theorem keeps_thm (x) : s.keeps { s with thm := x } [.thm] := by
  intro p hp; cases p <;> simp at hp <;> rfl
theorem keeps_rep (x) : s.keeps { s with rep := x } [.rep] := by
  intro p hp; cases p <;> simp at hp <;> rfl
theorem keeps_ifl (x) : s.keeps { s with ifl := x } [.ifl] := by
  intro p hp; cases p <;> simp at hp <;> rfl
end

/-- A change that follows keeps what it leaves: the frame of a composition, its last change first. -/
theorem State.keeps.after {s t u : State} {l m : List Part} (g : t.keeps u m)
    (hm : (m.all fun p => l.contains p) = true) (h : s.keeps t l) : s.keeps u l :=
  h.trans (g.mono (by simpa using hm))

/-- A first change, in the frame of what follows it. -/
theorem State.keeps.first {s t : State} {l m : List Part} (h : s.keeps t m)
    (hm : (m.all fun p => l.contains p) = true) : s.keeps t l := h.mono (by simpa using hm)

/-- A branch keeps what both of its arms keep. -/
theorem State.keeps.ite {s t u : State} {l : List Part} {c : Prop} [Decidable c] (ht : s.keeps t l)
    (hu : s.keeps u l) : s.keeps (if c then t else u) l := by
  split
  · exact ht
  · exact hu

/-! Lists of parts that several changes share. -/

/-- The parts that the suspension of programs and the loss of a route may change (03 R522; 10 R275; 11 R292). -/
def suspendParts : List Part := [.drawn, .regs, .pk, .pg, .hen, .out, .ifl]

/-- The parts that a change of the warm-up flag, its EVENT and its incident may change (12 R303). -/
def warmParts : List Part := [.drawn, .regs, .pk, .out, .tim, .rep, .ifl]

/-- The parts that a change of the repair map and the end of a migration may change (17 R418, R428). -/
def mapParts : List Part := [.drawn, .regs, .pk, .out, .rep, .ifl]

/-- The parts that the converter of housekeeping may change, with the migrations of its slices (13 R337, R340). -/
def hkParts : List Part := [.drawn, .regs, .pk, .out, .adm, .hka, .rep, .ifl]

/-- The parts that the stamps of the event inputs may change (06 R171). -/
def eventParts : List Part :=
  [.drawn, .regs, .pk, .pg, .seq, .emt, .cle, .hch, .hen, .wfd, .out, .tim, .rep]

/-- The parts that an edge of an encoder may change (05 R131, R132). -/
def encoderParts : List Part := [.regs, .pk, .pg, .cle, .ifl]

/-- The parts that a fire stamp may change (04 R87, R88). -/
def stampParts : List Part := [.regs, .pk, .seq, .cle, .hen, .wfd]

/-! Frames of the named updates. -/

theorem setRegN_keeps (s : State) (a v : Nat) : s.keeps (s.setRegN a v) [.regs] := setReg_keeps s a _

theorem latch_keeps (s : State) (a m : Nat) : s.keeps (s.latch a m) [.regs] := setReg_keeps s a _

theorem setProg_keeps (s : State) (p : Nat) (f : Prog → Prog) : s.keeps (s.setProg p f) [.pg] := keeps_pg s _

theorem setEng_keeps (s : State) (e : Nat) (f : Engine → Engine) : s.keeps (s.setEng e f) [.hen] := keeps_hen s _

theorem setChan_keeps (s : State) (c : Nat) (f : Chan → Chan) : s.keeps (s.setChan c f) [.hch] := keeps_hch s _

theorem setTdc_keeps (s : State) (i : Nat) (f : Tdc → Tdc) : s.keeps (s.setTdc i f) [.hch] := keeps_hch s _

theorem setLane_keeps (s : State) (i : Nat) (up : Bool) (f : Lane → Lane) : s.keeps (s.setLane i up f) [.hch] :=
  setTdc_keeps s i _

theorem setCap_keeps (s : State) (i : Nat) (f : CapUnit → CapUnit) : s.keeps (s.setCap i f) [.wfd] := keeps_wfd s _

theorem setStream_keeps (s : State) (i : Nat) (f : Stream → Stream) : s.keeps (s.setStream i f) [.out] :=
  keeps_out s _

theorem setEncoder_keeps (s : State) (n : Nat) (f : Encoder → Encoder) : s.keeps (s.setEncoder n f) [.cle] :=
  keeps_cle s _

theorem setHkPath_keeps (s : State) (i : Nat) (f : HkPath → HkPath) : s.keeps (s.setHkPath i f) [.hka] :=
  keeps_hka s _

theorem draw_keeps (s : State) (n : Nat) : s.keeps (s.draw n).2 [.drawn] := keeps_drawn s _

theorem crossSeen_keeps (s : State) (source : Nat) (t : Int) : s.keeps (s.crossSeen source t) [.tim] := by
  unfold State.crossSeen
  split
  · exact .ite (keeps_tim s _) (.refl s _)
  · exact .refl s _

/-! Frames of the control blocks, the waits and the passes of programs (03 R66, R77, R78; 18 R442, R453). -/

theorem sendBlock_keeps (s : State) (ty v : Nat) (k : Option Nat) : s.keeps (s.sendBlock ty v k) [.ifl] :=
  .foldl (fun t _ => .ite (keeps_ifl t _) (.refl t _)) _ s

theorem sendThrice_keeps (s : State) (ty v : Nat) (k : Option Nat) : s.keeps (s.sendThrice ty v k) [.ifl] :=
  ((sendBlock_keeps _ _ _ _).trans (sendBlock_keeps _ _ _ _)).trans (sendBlock_keeps _ _ _ _)

theorem releaseTag_keeps (s : State) (tag tick : Nat) : s.keeps (s.releaseTag tag tick) [.pg] := keeps_pg s _

theorem waitReported_keeps (s : State) (dev tag : Nat) : s.keeps (s.waitReported dev tag) [.pg, .ifl] :=
  .ite (.after (releaseTag_keeps _ _ _) rfl (.after (sendThrice_keeps _ _ _ _) rfl (.first (keeps_ifl s _) rfl)))
    (.first (keeps_ifl s _) rfl)

theorem reportWait_keeps (s : State) (tag : Nat) : s.keeps (s.reportWait tag) [.pg, .ifl] :=
  .ite (.ite (.first (keeps_ifl s _) rfl) (.refl s _)) (.ite (waitReported_keeps s _ _) (.refl s _))

theorem reportHeld_keeps (s : State) (p : Nat) : s.keeps (s.reportHeld p) [.pg, .ifl] := by
  unfold State.reportHeld
  split
  · exact .ite (.after (reportWait_keeps _ _) rfl (.first (setProg_keeps s _ _) rfl)) (.refl s _)
  · exact .refl s _

theorem beginPass_keeps (s : State) (p : Nat) : s.keeps (s.beginPass p) [.pg] := setProg_keeps s _ _

theorem beginWait_keeps (s : State) (p : Nat) : s.keeps (s.beginWait p) [.pg, .ifl] :=
  .after (reportHeld_keeps _ _) rfl (.first (setProg_keeps s _ _) rfl)

theorem enterSegment_keeps (s : State) (p i : Nat) : s.keeps (s.enterSegment p i) [.pg, .ifl] := by
  unfold State.enterSegment
  split
  · exact .refl s _
  · exact .ite (.after (beginPass_keeps _ _) rfl (.first (setProg_keeps s _ _) rfl))
      (.after (beginWait_keeps _ _) rfl (.first (setProg_keeps s _ _) rfl))

theorem runProg_keeps (s : State) (p start : Nat) : s.keeps (s.runProg p start) [.pg, .ifl] := by
  unfold State.runProg
  split
  · exact .refl s _
  · exact .after (enterSegment_keeps _ _ _) rfl (.first (setProg_keeps s _ _) rfl)

theorem endGroups_keeps (s : State) (p : Nat) : s.keeps (s.endGroups p) [.hen] := keeps_hen s _

theorem stopProg_keeps (s : State) (p : Nat) : s.keeps (s.stopProg p) [.pg, .hen] :=
  .after (setProg_keeps _ _ _) rfl (.first (endGroups_keeps s _) rfl)

theorem endPass_keeps (s : State) (p : Nat) : s.keeps (s.endPass p) [.pg, .hen, .ifl] := by
  unfold State.endPass
  split
  · exact .refl s _
  · extract_lets g n t
    have ht : s.keeps t [.pg, .hen, .ifl] := .first (setProg_keeps s _ _) rfl
    exact .ite (.after (stopProg_keeps _ _) rfl ht)
      (.ite (.ite (.after (stopProg_keeps _ _) rfl ht) (.after (enterSegment_keeps _ _ _) rfl ht))
        (.ite (.after (beginWait_keeps _ _) rfl ht) (.after (beginPass_keeps _ _) rfl ht)))

/-! Frames of the changes of a shot wherever the machine holds it (03 R80, R83; 04 R87, R88, R96). -/

theorem mapShot_keeps (s : State) (n : Long) (f : Shot → Shot) : s.keeps (s.mapShot n f) [.seq, .hen, .wfd] := by
  intro p hp; cases p <;> simp at hp <;> rfl

theorem groupCond_keeps (s : State) (n : Long) (c : Word) : s.keeps (s.groupCond n c) [.hen] := keeps_hen s _

theorem settle_keeps (s : State) (x : Shot) (edge : Bool) : s.keeps (s.settle x edge) [.emt] :=
  .ite (keeps_emt s _) (.ite (keeps_emt s _) (.refl s _))

theorem missTrigger_keeps (s : State) (u : Nat) (t : Int) : s.keeps (s.missTrigger u t) [.regs, .pk, .wfd] := by
  have hl : s.keeps (((s.bump (WFD_CAP_MISSED u)).latch (WFD_CAP_STAT u) 0x10).latch WFD_STATUS 0x8)
      [.regs, .pk, .wfd] :=
    .after (latch_keeps _ _ _) rfl (.after (latch_keeps _ _ _) rfl (.first (bump_keeps s _) rfl))
  exact .after (setCap_keeps _ _ _) rfl
    (.ite (.after (setRegN_keeps _ _ _) rfl (.after (setRegN_keeps _ _ _) rfl hl)) hl)

theorem fireMissed_keeps (s : State) (n : Long) (t : Int) : s.keeps (s.fireMissed n t) [.regs, .pk, .wfd] :=
  .foldl (fun v _ => .ite (missTrigger_keeps v _ t) (.refl v _)) _ s

theorem stampShot_keeps (s : State) (x : Shot) (t : Int) (fl : Nat) (c : Word) :
    s.keeps (s.stampShot x t fl c) stampParts := by
  unfold State.stampShot
  extract_lets enc_ cle s1 s2 s3 s4
  have h1 : s.keeps s1 stampParts := .ite (.first (keeps_cle s _) rfl) (.refl s _)
  have h2 : s.keeps s2 stampParts := .after (mapShot_keeps _ _ _) rfl h1
  have h3 : s.keeps s3 stampParts := .ite h2 (.after (groupCond_keeps _ _ _) rfl h2)
  have h4 : s.keeps s4 stampParts := .ite (.after (fireMissed_keeps _ _ _) rfl h3) h3
  exact .after (keeps_seq _ _) rfl h4

/-! Frames of the parts of a tick (notes/assumptions, log entry 1). -/

theorem setWarm_keeps (s : State) (on : Bool) (cause : Nat) :
    s.keeps (s.setWarm on cause) warmParts := by
  have he (x) (d) : s.keeps ({ s with tim := x }.event OK 7 9 d) warmParts :=
    .after (event_keeps _ _ _ _ _ _ _) rfl (.first (keeps_tim s _) rfl)
  exact .ite (.refl s _) (.ite (.after (endCause_keeps _ _) rfl (he _ _))
    (.after (report_keeps _ _ _ _ _) rfl (.after (latch_keeps _ _ _) rfl (he _ _))))

theorem qualifyPin_keeps (s : State) : s.keeps s.qualifyPin warmParts :=
  .ite (.refl s _) (.ite (.after (setWarm_keeps _ _ _) rfl (.first (keeps_tim s _) rfl)) (.first (keeps_tim s _) rfl))

theorem reportBegun_keeps (s : State) : s.keeps s.reportBegun [.pg, .ifl] :=
  .foldl (fun t _ => reportHeld_keeps t _) _ s

theorem markUnlit_keeps (s : State) : s.keeps s.markUnlit [.seq, .hen, .wfd] :=
  .ite (.refl s _) (.foldl (fun _ _ => .after (groupCond_keeps _ _ _) rfl (mapShot_keeps _ _ _)) _ s)

theorem noEdge_keeps (s : State) (n : Long) : s.keeps (s.noEdge n) [.seq, .emt, .hen, .wfd] := by
  unfold State.noEdge
  split
  · exact .refl s _
  · exact .after (groupCond_keeps _ _ _) rfl (.after (mapShot_keeps _ _ _) rfl (.first (settle_keeps s _ _) rfl))

theorem pulseTick_keeps (s : State) : s.keeps s.pulseTick [.seq, .emt, .hen, .wfd] :=
  .ite (.refl s _) (.trans (.first (keeps_emt s _) rfl) (.foldl (fun t _ => noEdge_keeps t _) _ _))

theorem addPos_keeps (s : State) (n : Nat) (d : Int) : s.keeps (s.addPos n d) [.regs, .pk] :=
  .after (setRegN_keeps _ _ _) rfl (.ite (.first (noteWrap_keeps s _ _ _ _) rfl) (.refl s _))

theorem angleWaits_keeps (s : State) (n : Nat) (pos : Word) (d : Int) (t : Nat) :
    s.keeps (s.angleWaits n pos d t) [.pg] := keeps_pg s _

theorem countEdge_keeps (s : State) (n : Nat) (b r : Bool) (t : Nat) :
    s.keeps (s.countEdge n b r t) [.regs, .pk, .pg, .cle] :=
  .after (setEncoder_keeps _ _ _) rfl (.after (angleWaits_keeps _ _ _ _ _) rfl (.first (addPos_keeps s _ _) rfl))

theorem illegalEdges_keeps (s : State) (n : Nat) (a b : Bool) : s.keeps (s.illegalEdges n a b) [.regs, .pk, .cle] :=
  .trans (.after (bump_keeps _ _) rfl (.first (setEncoder_keeps s _ _) rfl))
    (.foldl (fun t _ => .ite (.first (latch_keeps t _ _) rfl) (.refl t _)) _ _)

theorem indexEdge_keeps (s : State) (n t : Nat) : s.keeps (s.indexEdge n t) [.regs, .pg, .cle, .ifl] := by
  unfold State.indexEdge
  extract_lets cfg u zero v
  have hu : s.keeps u [.regs, .pg, .cle, .ifl] := .first (setReg_keeps s _ _) rfl
  have hv : s.keeps v [.regs, .pg, .cle, .ifl] :=
    .ite (.after (setEncoder_keeps _ _ _) rfl (.after (setRegN_keeps _ _ _) rfl hu)) hu
  exact .ite hv (hv.trans (.foldl (fun w _ => .first (runProg_keeps w _ _) rfl) _ _))

theorem settleOne_keeps {s t : State} {n : Nat} (h : s.settleOne n = some t) :
    s.keeps t encoderParts := by
  unfold State.settleOne at h
  extract_lets due at h
  split at h
  · cases h
  split at h
  · cases h
  extract_lets u at h
  have hu : s.keeps u encoderParts := .first (setEncoder_keeps s _ _) rfl
  split at h
  · rw [← Option.some.inj h]
    exact .after (indexEdge_keeps _ _ _) rfl hu
  split at h
  · rw [← Option.some.inj h]
    exact .after (countEdge_keeps _ _ _ _ _) rfl hu
  split at h
  · rw [← Option.some.inj h]
    exact .after (illegalEdges_keeps _ _ _ _) rfl (.first (setEncoder_keeps s _ _) rfl)
  · cases h

theorem settleEdges_keeps (n : Nat) : ∀ (fuel : Nat) (s : State),
    s.keeps (State.settleEdges n fuel s) encoderParts
  | 0, s => .refl s _
  | fuel + 1, s => by
    unfold State.settleEdges
    split
    · next t ht => exact (settleOne_keeps ht).trans (settleEdges_keeps n fuel t)
    · exact .refl s _

theorem settleAngles_keeps (s : State) : s.keeps s.settleAngles [.seq, .cle, .hen, .wfd] :=
  .foldl (fun _ _ => .after (keeps_cle _ _) rfl (.first (mapShot_keeps _ _ _) rfl)) _ s

theorem encoderTick_keeps (s : State) : s.keeps s.encoderTick [.regs, .pk, .pg, .seq, .cle, .hen, .wfd, .ifl] := by
  have he : s.keeps ((List.range 2).foldl (fun t n => State.settleEdges n (t.encoder n).held.length t) s)
      [.regs, .pk, .pg, .seq, .cle, .hen, .wfd, .ifl] := .foldl (fun t _ => .first (settleEdges_keeps _ _ t) rfl) _ s
  exact .ite he (.after (settleAngles_keeps _) rfl he)

theorem dropStamp_keeps (s : State) (t tick : Nat) : s.keeps (s.dropStamp t tick) [.regs, .pk, .hch] := by
  unfold State.dropStamp
  extract_lets u
  have hu : s.keeps u [.regs, .pk, .hch] := .first (bump_keeps s _) rfl
  split
  · exact .after (setChan_keeps _ _ _) rfl hu
  · exact hu

theorem mergeOne_keeps (s : State) (t now : Nat) : s.keeps (s.mergeOne t now) [.regs, .pk, .hch] := by
  unfold State.mergeOne
  extract_lets x pick
  clear_value pick
  obtain _ | ⟨up, h⟩ := pick
  · exact .refl s _
  · exact .ite (.refl s _) (.ite
      (.after (dropStamp_keeps _ _ _) rfl (.after (setTdc_keeps _ _ _) rfl (.first (setLane_keeps s _ _ _) rfl)))
      (.after (setTdc_keeps _ _ _) rfl (.after (setTdc_keeps _ _ _) rfl (.first (setLane_keeps s _ _ _) rfl))))

theorem merge_keeps (s : State) (t now : Nat) : s.keeps (s.merge t now) [.regs, .pk, .hch] :=
  .foldl (fun u _ => mergeOne_keeps u t now) _ s

theorem eventWaits_keeps (s : State) (k : Nat) (r : Bool) (t : Int) : s.keeps (s.eventWaits k r t) [.pg] :=
  keeps_pg s _

theorem evFireStamp_keeps (s : State) (k : Nat) (t : Int) (fl : Nat) (uncal : Bool) :
    s.keeps (s.evFireStamp k t fl uncal) [.regs, .pk, .seq, .emt, .cle, .hen, .wfd] := by
  refine State.keeps.foldl (fun u x => ?_) _ s
  have hu : u.keeps (u.noteLead x (u.ownTime t)) [.regs, .pk, .seq, .emt, .cle, .hen, .wfd] :=
    .first (keeps_emt u _) rfl
  exact .ite (.after (stampShot_keeps _ _ _ _ _) rfl hu)
    (.after (groupCond_keeps _ _ _) rfl (.after (mapShot_keeps _ _ _) rfl (.after (fireMissed_keeps _ _ _) rfl hu)))

theorem freqStamp_keeps (s : State) (k : Nat) (r b : Bool) (t : Int) : s.keeps (s.freqStamp k r b t) [.hch] :=
  .ite (keeps_hch s _) (keeps_hch s _)

theorem trigger_keeps (s : State) (u source : Nat) (t : Int) :
    s.keeps (s.trigger u source t) [.regs, .pk, .wfd] := by
  refine .ite (.refl s _) ?_
  split
  · exact .refl s _
  · exact .ite (.refl s _) (.first (setCap_keeps s _ _) rfl)
  · exact missTrigger_keeps s _ _

theorem triggerAll_keeps (s : State) (source : Nat) (sel : Nat → Bool) (t : Int) :
    s.keeps (s.triggerAll source sel t) [.regs, .pk, .wfd] :=
  .foldl (fun v _ => .ite (trigger_keeps v _ _ _) (.refl v _)) _ s

theorem loseRecs_keeps (s : State) (pid n : Nat) : s.keeps (s.loseRecs pid n) [.regs, .pk, .out] :=
  .ite (.refl s _) (.after (latch_keeps _ _ _) rfl (.after (bumpBy_keeps _ _ _) rfl
    (.first (setStream_keeps s _ _) rfl)))

theorem lateRecs_keeps (s : State) (pid n : Nat) : s.keeps (s.lateRecs pid n) [.regs, .pk] :=
  .ite (.refl s _) (.after (latch_keeps _ _ _) rfl (.first (bumpBy_keeps s _ _) rfl))

theorem discardRecs_keeps (s : State) (pid n : Nat) :
    s.keeps (s.discardRecs pid n) [.drawn, .regs, .pk, .out, .rep] := by
  unfold State.discardRecs
  extract_lets u
  have hu : s.keeps u [.drawn, .regs, .pk, .out, .rep] := .first (loseRecs_keeps s _ _) rfl
  split
  · exact .after (bumpBy_keeps _ _ _) rfl (.after (setStream_keeps _ _ _) rfl hu)
  · exact .after (report_keeps _ _ _ _ _) rfl (.after (lateRecs_keeps _ _ _) rfl hu)
  · exact hu

theorem takeRec_keeps (s : State) (pid : Nat) (r : Rec) : s.keeps (s.takeRec pid r) [.drawn, .regs, .pk, .out, .rep] :=
  .ite (.first (setStream_keeps s _ _) rfl) (discardRecs_keeps s _ _)

theorem spread_keeps (s : State) (want : List Byte → Bool) (r : Rec) :
    s.keeps (s.spread want r) [.drawn, .regs, .pk, .out, .rep] := by
  unfold State.spread
  split
  · exact .after (latch_keeps _ _ _) rfl (.first (bump_keeps s _) rfl)
  · exact .foldl (fun t _ => takeRec_keeps t _ _) _ s

theorem serveStamp_keeps (s : State) (k : Nat) (r b uncal : Bool) (t : Int) (fl : Nat) :
    s.keeps (s.serveStamp k r b uncal t fl)
      eventParts := by
  unfold State.serveStamp
  extract_lets u v w
  have hw : s.keeps w eventParts :=
    .after (triggerAll_keeps _ _ _ _) rfl (.after (crossSeen_keeps _ _ _) rfl (.after (freqStamp_keeps _ _ _ _ _) rfl
      (.after (evFireStamp_keeps _ _ _ _ _) rfl (.first (eventWaits_keeps s _ _ _) rfl))))
  exact .ite (.after (spread_keeps _ _ _) rfl hw) hw

theorem serveEvents_keeps (k : Nat) : ∀ (fuel : Nat) (s : State), s.keeps (State.serveEvents k fuel s)
    eventParts
  | 0, s => .refl s _
  | fuel + 1, s => by
    unfold State.serveEvents
    extract_lets q
    split
    · exact .ite (.trans (.after (serveStamp_keeps _ _ _ _ _ _ _) rfl (.first (setTdc_keeps s _ _) rfl))
        (serveEvents_keeps k fuel _)) (.refl s _)
    · exact .refl s _

theorem eventTick_keeps (s : State) : s.keeps s.eventTick
    eventParts :=
  .foldl (fun t _ => .ite (.refl t _) (.after (serveEvents_keeps _ _ _) rfl (.first (merge_keeps t _ _) rfl))) _ s

theorem mapChanged_keeps (s : State) : s.keeps s.mapChanged mapParts :=
  .after (openEvent_keeps _ _ _ _) rfl (.after (keeps_rep _ _) rfl
    (.ite (.first (noteWrap_keeps s _ _ _ _) rfl) (.refl s _)))

theorem mapAdd_keeps (s : State) (k o f n : Nat) : s.keeps (s.mapAdd k o f n) mapParts :=
  .ite (.after (mapChanged_keeps _) rfl (.first (keeps_rep s _) rfl))
    (.after (mapChanged_keeps _) rfl (.first (keeps_rep s _) rfl))

theorem migReport_keeps (s : State) (m : Migration) (o f n : Nat) :
    s.keeps (s.migReport m o f n) [.drawn, .regs, .pk] :=
  .after (latch_keeps _ _ _) rfl (.after (bump_keeps _ _) rfl (.after (setRegN_keeps _ _ _) rfl
    (.after (setRegN_keeps _ _ _) rfl (.first (draw_keeps s 30) rfl))))

theorem interruption_keeps (s : State) : s.keeps s.interruption [.regs, .adm] :=
  .after (keeps_adm _ _) rfl (.ite (.first (latch_keeps s _ _) rfl) (.refl s _))

theorem migEnd_keeps (s : State) (m : Migration) (code : Nat) :
    s.keeps (s.migEnd m code) mapParts := by
  unfold State.migEnd
  extract_lets rest first rep u
  have hu : s.keeps u mapParts := .first (keeps_rep s _) rfl
  split
  · exact .after (complete_keeps _ _ _ _ _) rfl hu
  · exact .after (openEvent_keeps _ _ _ _) rfl hu

theorem migDone_keeps (s : State) (m : Migration) (o f n : Nat) :
    s.keeps (s.migDone m o f n) [.drawn, .regs, .pk, .out, .adm, .rep, .ifl] :=
  .after (migEnd_keeps _ _ _) rfl (.after (interruption_keeps _) rfl (.first (migReport_keeps s m _ f n) rfl))

theorem hkMake_keeps (s : State) (i : Nat) : s.keeps (s.hkMake i) [.hka] := by
  unfold State.hkMake
  split
  · exact .refl s _
  · refine .ite (.refl s _) ?_
    extract_lets u
    have hu : s.keeps u [.hka] := setHkPath_keeps s _ _
    split
    · exact hu
    · exact hu.trans (keeps_hka _ _)

theorem hkSwitch_keeps (s : State) (i k : Nat) :
    s.keeps (s.hkSwitch i k) hkParts := by
  have hr (t : State) (x) (y) : t.keeps { t with hka := x, rep := y } [.hka, .rep] :=
    .after (keeps_rep _ _) rfl (.first (keeps_hka t x) rfl)
  unfold State.hkSwitch
  extract_lets old u
  have hu : s.keeps u hkParts := .first (setHkPath_keeps s _ _) rfl
  split
  · exact .after (migDone_keeps _ _ _ _ _) rfl (.after (mapAdd_keeps _ _ _ _ _) rfl (.after (hr _ _ _) rfl hu))
  · exact .after (keeps_hka _ _) rfl hu

theorem hkBoundary_keeps (s : State) (i : Nat) :
    s.keeps (s.hkBoundary i) hkParts := by
  unfold State.hkBoundary
  extract_lets p u
  have hu : s.keeps u hkParts :=
    .ite (.first (setHkPath_keeps s _ _) rfl) (.refl s _)
  split
  · exact .after (hkSwitch_keeps _ _ _) rfl hu
  · exact .ite (.after (keeps_hka _ _) rfl hu) hu
  · exact hu

theorem hkLeave_keeps (s : State) (i : Nat) (x : HkRun) :
    s.keeps (s.hkLeave i x) hkParts := by
  unfold State.hkLeave
  extract_lets u hka v
  have hu : s.keeps u [.hka] := setHkPath_keeps s _ _
  have hv : s.keeps v [.hka] := by
    unfold v
    split
    · exact hu
    · exact hu.trans (keeps_hka _ _)
  exact .after (hkBoundary_keeps _ _) rfl (.first hv rfl)

theorem hkStart_keeps (inj : Bool) : ∀ (l : List HkStep) (s : State), s.keeps (s.hkStart inj l).1 [.hka]
  | [], s => .refl s _
  | x :: rest, s => by
    unfold State.hkStart
    extract_lets r r'
    split
    · exact hkStart_keeps inj rest s
    split
    · exact .refl s _
    extract_lets clash
    split
    · exact .refl s _
    · exact (setHkPath_keeps s _ _).trans (hkStart_keeps inj rest _)

theorem hkAdvance_keeps (s : State) : s.keeps s.hkAdvance [.hka] :=
  .ite (.after (keeps_hka _ _) rfl (hkStart_keeps _ _ s))
    (.ite (.after (keeps_hka _ _) rfl (hkStart_keeps _ _ s)) (.refl s _))

theorem hkCycle_keeps (s : State) : s.keeps s.hkCycle [.regs, .pk, .hka] :=
  .after (keeps_hka _ _) rfl (.after (hkAdvance_keeps _) rfl (.after (keeps_hka _ _) rfl
    (.first (bump_keeps s _) rfl)))

theorem hkNext_keeps (s : State) : s.keeps s.hkNext [.regs, .pk, .hka] := by
  unfold State.hkNext
  extract_lets a u v b w period
  have hv : s.keeps v [.regs, .pk, .hka] :=
    .after (hkAdvance_keeps _) rfl (.ite (.first (keeps_hka s _) rfl) (.refl s _))
  have hw : s.keeps w [.regs, .pk, .hka] := .after (keeps_hka _ _) rfl hv
  exact .ite (.ite (.ite (.after (hkCycle_keeps _) rfl hw)
    (.ite (.after (hkCycle_keeps _) rfl (.after (latch_keeps _ _ _) rfl hw)) hw)) hw) hv

theorem hkTrigger_keeps (s : State) :
    s.keeps s.hkTrigger hkParts :=
  .ite (.after (latch_keeps _ _ _) rfl (.first (bump_keeps s _) rfl))
    (.after (hkNext_keeps _) rfl (.after (hkAdvance_keeps _) rfl (.after (keeps_hka _ _) rfl
      (.foldl (fun t _ => hkLeave_keeps t _ _) _ s))))

theorem hkGo_keeps (s : State) : s.keeps s.hkGo hkParts :=
  .ite (.refl s _) (.ite (hkTrigger_keeps s) (.first (keeps_hka s _) rfl))

theorem hkTick_keeps (s : State) : s.keeps s.hkTick hkParts := by
  have hm : s.keeps ((s.hkMake 0).hkMake 1) hkParts :=
    .after (hkMake_keeps _ _) rfl (.first (hkMake_keeps s _) rfl)
  exact .ite (.after (hkGo_keeps _) rfl (.after (keeps_hka _ _) rfl hm)) hm

theorem calTick_keeps (s : State) : s.keeps s.calTick [.thm] := by
  unfold State.calTick
  split
  · exact .ite (keeps_thm s _) (.refl s _)
  · exact .refl s _

theorem ptpTick_keeps (s : State) (p : Nat) : s.keeps (s.ptpTick p) [.tim] := by
  unfold State.ptpTick
  split
  · exact .refl s _
  · exact (keeps_tim s _).trans (.foldl (fun t _ =>
      .ite (.after (crossSeen_keeps _ _ _) rfl (keeps_tim t _)) (keeps_tim t _)) _ _)

theorem superframe_keeps (s : State) : s.keeps s.superframe [.ifl] := .ite (keeps_ifl s _) (.refl s _)

/-- The clocks of a tick: the time advances by one, and the queue of commands stays. -/
theorem tick_front (s : State) : s.tick.time = s.time + 1 ∧ s.tick.pending = s.pending := by
  unfold State.tick
  extract_lets alive shot sys5 now wraps tim u v w
  have hv : u.keeps v [.pk, .tim, .ifl] := .ite (.first (noteWrap_keeps u _ _ _ _) rfl) (.refl u _)
  have hw : u.keeps w [.pk, .tim, .ifl] := .ite (.after (superframe_keeps _) rfl hv) hv
  have h : u.keeps ((List.range 4).foldl State.ptpTick w) [.pk, .tim, .ifl] :=
    hw.trans (.foldl (fun t p => .first (ptpTick_keeps t p) rfl) _ _)
  exact ⟨h .time (by decide), h .pending (by decide)⟩

/-- What follows the clocks in a tick leaves the time and the queue of commands. -/
theorem idle_keeps_tick (s : State) : s.tick.keeps s.idle
    [.drawn, .regs, .pk, .pg, .seq, .emt, .cle, .hch, .hen, .wfd, .out, .adm, .tim, .hka, .thm, .rep, .ifl] :=
  .after (calTick_keeps _) rfl (.after (hkTick_keeps _) rfl (.after (eventTick_keeps _) rfl
    (.after (encoderTick_keeps _) rfl (.after (pulseTick_keeps _) rfl (.after (markUnlit_keeps _) rfl
      (.after (reportBegun_keeps _) rfl (.first (qualifyPin_keeps _) rfl)))))))

theorem idle_time (s : State) : s.idle.time = s.time + 1 :=
  (idle_keeps_tick s .time (by decide)).trans (tick_front s).1

theorem idle_pending (s : State) : s.idle.pending = s.pending :=
  (idle_keeps_tick s .pending (by decide)).trans (tick_front s).2

/-! Every command answers a next state (02 R57). -/

theorem execEthFrameReceived_next (p : Fin 4) (frame : List Byte) (s : State) :
    ∃ t, execEthFrameReceived p frame s = .next t := by
  unfold execEthFrameReceived
  repeat' split
  all_goals exact ⟨_, rfl⟩

theorem exec_next (c : Instr) (s : State) : ∃ t, exec c s = .next t := by
  cases c
  case ethFrameReceived p frame => exact execEthFrameReceived_next p frame s
  all_goals exact ⟨_, rfl⟩

/-- Settles O55: the front command's step and the tick of an empty queue unfold; every command's meaning is a next
state, of which only a received Ethernet frame has more than one branch. -/
theorem stepTakesTheFrontCommand : Obligations.StepTakesTheFrontCommand := by
  refine ⟨fun s c rest h => ?_, fun s h => ⟨s.idle, ?_, idle_time s, (idle_pending s).trans h⟩, exec_next⟩
  · simp only [step, h]
  · simp only [step, h]

/-! Frames of the suspension of programs, of what a stream has staged, and of re-admission (03 R522; 10 R265, R275;
11 R292, R294). -/

theorem suspend_keeps (s : State) (p cause : Nat) (out : Bool) :
    s.keeps (s.suspend p cause out) suspendParts := by
  unfold State.suspend
  split
  · exact .refl s _
  · exact .ite (.first (setProg_keeps s _ _) rfl)
      (.after (event_keeps _ _ _ _ _ _ _) rfl (.after (latch_keeps _ _ _) rfl
        (.after (setProg_keeps _ _ _) rfl (.first (endGroups_keeps s _) rfl))))

theorem suspendAll_keeps (s : State) (cond : Prog → Bool) (cause : Nat) (out : Bool) :
    s.keeps (s.suspendAll cond cause out) suspendParts :=
  .foldl (fun t _ => suspend_keeps t _ _ _) _ s

theorem settleFrees_keeps (s : State) (gone : List Rec) : s.keeps (s.settleFrees gone) [.regs] :=
  .foldl (fun t _ => .ite (.refl t _) (setRegN_keeps t _ _)) _ s

theorem dropStaged_keeps (s : State) (pid : Nat) : s.keeps (s.dropStaged pid) [.regs, .pk, .out] :=
  .after (settleFrees_keeps _ _) rfl (.after (loseRecs_keeps _ _ _) rfl (.first (setStream_keeps s _ _) rfl))

theorem postShares_keeps (s : State) : s.keeps s.postShares [.regs] :=
  .trans (.trans (.foldl (fun t _ => setRegN_keeps t _ _) _ s) (setRegN_keeps _ _ _))
    (.foldl (fun t _ => setRegN_keeps t _ _) _ _)

theorem readmit_keeps (s : State) : s.keeps s.readmit suspendParts := by
  unfold State.readmit
  extract_lets order keep t
  have ht : s.keeps t suspendParts := .ite (.refl s _) (.first (latch_keeps s _ _) rfl)
  exact .after (postShares_keeps _) rfl (ht.trans (.foldl (fun u _ => suspend_keeps u _ _ _) _ _))

theorem routeDown_keeps (s : State) (v : Nat) :
    s.keeps (s.routeDown v) suspendParts := by
  unfold State.routeDown
  extract_lets mine t out u w
  have ht : s.keeps t suspendParts := .first (keeps_out s _) rfl
  have hu : s.keeps u suspendParts := by
    unfold u
    split
    · exact .after (settleFrees_keeps _ _) rfl (.after (loseRecs_keeps _ _ _) rfl (.after (keeps_out _ _) rfl ht))
    · exact .after (keeps_out _ _) rfl ht
    · exact ht
  exact .trans (.after (suspendAll_keeps _ _ _ _) rfl hu)
    (.foldl (fun x _ => .ite (.first (dropStaged_keeps x _) rfl) (.refl x _)) _ _)

/-! The loss of the Ethernet reference (12 R308). -/

theorem ethStop_keeps (s : State) (p : Nat) :
    s.keeps (s.ethStop p) suspendParts :=
  .ite (.after (routeDown_keeps _ _) rfl (.first (keeps_out s _) rfl)) (.refl s _)

/-- On the loss of the Ethernet reference every PTP base stops, and keeps in its past what it was before. -/
theorem loseEth_ptp (s : State) :
    s.loseEth.tim.ptp = s.tim.ptp.map fun b => { b.setCounting false with stopped := true } := by
  unfold State.loseEth
  extract_lets t tim u
  have ht : t.tim = s.tim := report_keeps s _ _ _ _ .tim (by decide)
  have hk : u.keeps ((List.range 4).foldl State.ethStop u).readmit suspendParts :=
    .trans (.foldl ethStop_keeps _ u) (readmit_keeps _)
  calc ((List.range 4).foldl State.ethStop u).readmit.tim.ptp
      = u.tim.ptp := congrArg TimeUnit.ptp (hk .tim (by decide))
    _ = t.tim.ptp.map fun b => { b.setCounting false with stopped := true } := rfl
    _ = _ := by rw [ht]

theorem execClockLoss_ethRefclk {s : State} (h : s.clockLost .ethRefclk = false) :
    execClockLoss .ethRefclk s = .next ({ s with tim.lost := .ethRefclk :: s.tim.lost } : State).loseEth := by
  unfold execClockLoss
  rw [if_neg (by simp [h])]

/-- A PTP base that counts, with nothing in its past. -/
def countingBase : PtpBase :=
  { value := 0, incr := incrNom, edge := 0, past := [], done := none, stopped := false, counting := true, corrs := [] }

/-- The state after reset, but for its one PTP base, which counts. -/
def countingState : State := { State.reset with tim := { State.reset.tim with ptp := [countingBase] } }

/-- Refutes O54: on the loss of the Ethernet reference a base that counts also enters what it was before its stop into
its past (12 R308; State.PtpBase.past), where the statement has every field but two unchanged. -/
theorem not_clocksAreLostAndReturn : ¬ Obligations.ClocksAreLostAndReturn := by
  rintro ⟨-, -, -, -, -, hloss, -⟩
  obtain ⟨t, ht, -, -, -, -, hptp, -⟩ := hloss countingState .ethRefclk rfl (by decide) (by decide) (by decide)
  have hnext : exec (.clockLoss .ethRefclk) countingState = .next
      ({ countingState with tim.lost := .ethRefclk :: countingState.tim.lost } : State).loseEth :=
    execClockLoss_ethRefclk rfl
  have he := Host.Outcome.next.inj (hnext.symm.trans ht)
  have hpast := congrArg (List.map PtpBase.past) ((loseEth_ptp _).symm.trans (he ▸ hptp rfl))
  exact absurd hpast (by decide)

/-- A branch leaves the registers that both of its arms leave. -/
theorem State.keepsRegs.ite {s t u : State} {l : List Nat} {c : Prop} [Decidable c] (ht : s.keepsRegs t l)
    (hu : s.keepsRegs u l) : s.keepsRegs (if c then t else u) l := by
  split
  · exact ht
  · exact hu

theorem latch_keepsRegs (s : State) (a m : Nat) : s.keepsRegs (s.latch a m) [a] := setReg_keepsRegs s a _

/-- A change that does not touch the registers leaves them all. -/
theorem State.keeps.toRegs {s t : State} {l : List Part} (h : s.keeps t l) (hl : Part.regs ∉ l) (k : List Nat) :
    s.keepsRegs t k := keepsRegs_of_regs (h .regs hl) k

/-! The number, the energy and the widths of a shot (03 R75; 04 R92, R94, R96). -/

theorem takeNumber_seq (s : State) : s.takeNumber.2.seq = { s.seq with next := s.seq.next + 1 } := by
  unfold State.takeNumber
  dsimp only
  split <;> rfl

theorem takeNumber_keeps (s : State) : s.keeps s.takeNumber.2 [.regs, .pk, .seq] :=
  .ite (.after (noteWrap_keeps _ _ _ _ _) rfl (.after (latch_keeps _ _ _) rfl (.first (keeps_seq s _) rfl)))
    (.first (keeps_seq s _) rfl)

theorem takeNumber_keepsRegs (s : State) : s.keepsRegs s.takeNumber.2 [SEQ_STATUS] :=
  .ite (.trans ((keeps_seq s _).toRegs (by decide) _) (.trans (latch_keepsRegs _ _ _)
      ((noteWrap_keeps _ _ _ _ _).toRegs (by decide) _)))
    ((keeps_seq s _).toRegs (by decide) _)

theorem compTemp_keeps (s : State) (src : Nat) : s.keeps (s.compTemp src).2 [.drawn] := by
  unfold State.compTemp
  extract_lets c r deg
  split
  · exact .refl s _
  · split
    · exact .refl s _
    · exact draw_keeps s 7

/-- The widths of a shot's pulses draw free values and latch conditions in EMT_STATUS. -/
theorem pulseWidths_keeps (s : State) (b pat : List Byte) (en : Nat) (cal : List Byte) :
    s.keeps (s.pulseWidths b pat en cal).2 [.drawn, .regs] ∧
      s.keepsRegs (s.pulseWidths b pat en cal).2 [EMT_STATUS] := by
  unfold State.pulseWidths
  extract_lets g wmax gain sh q sel x raw ws cap
  have hx : s.keeps x.2 [.drawn, .regs] ∧ s.keepsRegs x.2 [EMT_STATUS] := by
    unfold x
    split
    · exact ⟨.after (latch_keeps _ _ _) rfl (.first (compTemp_keeps s _) rfl),
        .trans ((compTemp_keeps s _).toRegs (by decide) _) (latch_keepsRegs _ _ _)⟩
    · exact ⟨.refl s _, .refl s _⟩
  exact ⟨.ite (.after (latch_keeps _ _ _) rfl hx.1) hx.1, .ite (.trans hx.2 (latch_keepsRegs _ _ _)) hx.2⟩

/-- Fixing a shot's energy changes its group's budget, draws free values and latches conditions of the emission. -/
theorem energise_keeps (s : State) (x : Shot) (n : Nat) :
    s.keeps (s.energise x n).2 [.drawn, .regs, .emt] ∧
      s.keepsRegs (s.energise x n).2 [EMT_CLIPPED, EMT_STATUS] := by
  unfold State.energise
  extract_lets g dark r emt t u
  have hu : s.keeps u [.drawn, .regs, .emt] ∧ s.keepsRegs u [EMT_CLIPPED, EMT_STATUS] :=
    ⟨.ite (.after (latch_keeps _ _ _) rfl (.first (keeps_emt s _) rfl)) (.first (keeps_emt s _) rfl),
      .ite (.trans ((keeps_emt s _).toRegs (by decide) _) ((latch_keepsRegs _ _ _).mono (by simp)))
        ((keeps_emt s _).toRegs (by decide) _)⟩
  split
  · exact hu
  · have hw := pulseWidths_keeps u x.beam x.pattern r.2.1 (u.setOf x.calVer)
    exact ⟨.after hw.1 rfl hu.1, hu.2.trans (hw.2.mono (by simp))⟩

/-- A DARK shot keeps the energy that it has. -/
theorem energise_dark {s : State} {x : Shot} {n : Nat} (h : bit x.flags.toNat 0 = true) : (s.energise x n).1 = x := by
  unfold State.energise
  extract_lets g dark r emt t u
  rw [if_pos h]

/-- A shot is fixed in its energy, its widths, its charge and its condition. -/
theorem energise_shot (s : State) (x : Shot) (n : Nat) : ∃ en ws dr ow co,
    (s.energise x n).1 = { x with energy := en, widths := ws, drawn := dr, owed := ow, cond := co } := by
  by_cases h : bit x.flags.toNat 0 = true
  · exact ⟨_, _, _, _, _, energise_dark h⟩
  · unfold State.energise
    extract_lets g dark r emt t u
    rw [if_neg h]
    exact ⟨_, _, _, _, _, rfl⟩

/-! Delivery, the program's advance, the arming of capture units and the announcement (03 R66, R83; 09 R236;
18 R450). -/

theorem deliver_keeps (s : State) (x : Shot) (off : Nat) : s.keeps (s.deliver x off) [.hen] :=
  .foldl (fun t e => setEng_keeps t e _) _ s

theorem advance_keeps (s : State) (q : Prog) (p : Plan) (n : Long) : s.keeps (s.advance q p n) [.pg, .hen, .ifl] := by
  unfold State.advance
  extract_lets t
  have ht : s.keeps t [.pg, .hen, .ifl] := .first (setProg_keeps s _ _) rfl
  exact .ite (ht.trans (endPass_keeps t _)) ht

theorem shotArms_keeps (s : State) (x : Shot) :
    s.keeps (s.shotArms x) [.drawn, .regs, .pk, .wfd, .rep] ∧
      s.keepsRegs (s.shotArms x) [REP_INC_DROP, REP_STATUS] :=
  ⟨.ite (.refl s _) (.foldl (fun t u => .ite (.ite (.first (setCap_keeps t u _) rfl)
      (.first (report_keeps t _ _ _ _) rfl)) (.refl t _)) _ s),
    .ite (.refl s _) (.foldl (fun t u => .ite (.ite ((setCap_keeps t u _).toRegs (by decide) _)
      (report_keepsRegs t _ _ _ _)) (.refl t _)) _ s)⟩

theorem announce_keeps (s : State) (pid : Nat) (n : Long) (fire : Nat) : s.keeps (s.announce pid n fire) [.ifl] :=
  .after (keeps_ifl _ _) rfl (.after (sendBlock_keeps _ _ _ _) rfl (.ite (sendBlock_keeps s _ _ _) (.refl s _)))

/-- A committed shot: its number, its plan, and no energy where it is DARK. -/
def Shot.plannedAs (x : Shot) (number : Long) (p : Plan) : Prop :=
  x.number = number ∧ x.pid = p.pid ∧ x.fire = p.fire ∧ x.dither = p.dither ∧
    x.tag = BitVec.ofNat 16 (seTag p.entry) ∧ x.flags = BitVec.ofNat 16 (seFlags p.entry) ∧
    (seDark p.entry = true → x.energy = 0 ∧ x.widths = [])

/-- DARK is bit 0 of a shot's flags (03 R67). -/
theorem bit_flags_dark (e : List Byte) : bit (BitVec.ofNat 16 (seFlags e)).toNat 0 = seDark e := by
  simp [bit, seDark, Nat.testBit_zero]

theorem shotOf_plannedAs (s : State) (q : Prog) (p : Plan) (n : Long) : (s.shotOf q p n).plannedAs n p :=
  ⟨rfl, rfl, rfl, rfl, rfl, rfl, fun _ => ⟨rfl, rfl⟩⟩

/-- Fixing the energy of a shot leaves its plan. -/
theorem energise_plannedAs {s : State} {x : Shot} {n : Long} {p : Plan} (m : Nat) (h : x.plannedAs n p) :
    (s.energise x m).1.plannedAs n p := by
  obtain ⟨hn, hpid, hfire, hdither, htag, hflags, hdark⟩ := h
  obtain ⟨en, ws, dr, ow, co, he⟩ := energise_shot s x m
  refine ⟨?_, ?_, ?_, ?_, ?_, ?_, fun hd => ?_⟩
  · rw [he]; exact hn
  · rw [he]; exact hpid
  · rw [he]; exact hfire
  · rw [he]; exact hdither
  · rw [he]; exact htag
  · rw [he]; exact hflags
  · rw [energise_dark (by rw [hflags, bit_flags_dark, hd])]
    exact hdark hd

/-- What the commitment of a shot changes (01 R19, 03 R75, 20 R496). -/
theorem commitShot_spec (s : State) (q : Prog) (p : Plan) (n : Long) : ∃ x : Shot, x.plannedAs n p ∧
    (s.commitShot q p n).seq =
      { s.seq with history := (x :: s.seq.history).take 4096, efu := s.seq.efu ++ [x] } ∧
    (s.commitShot q p n).reg SEQ_HIST_HEAD = s.reg SEQ_HIST_HEAD + 1 ∧
    s.keeps (s.commitShot q p n) [.regs, .pk, .pg, .seq, .emt, .hen, .wfd, .drawn, .rep, .ifl] := by
  unfold State.commitShot
  extract_lets x₀ x₁ r x u off seq v w
  have hx : x.plannedAs n p := by
    refine energise_plannedAs _ ?_
    unfold x₁
    split
    · exact shotOf_plannedAs s q p n
    · exact shotOf_plannedAs s q p n
  have hu := energise_keeps s x₁ (seEnergy p.entry)
  have hw : v.keeps w [.regs, .pk] := (bump_keeps v _).trans (bump_keeps _ _)
  have hz : w.keeps (((w.deliver x off).advance q p n).shotArms x) [.regs, .pk, .pg, .hen, .wfd, .drawn, .rep, .ifl] :=
    .after (shotArms_keeps _ x).1 rfl (.after (advance_keeps _ q p n) rfl (.first (deliver_keeps w x off) rfl))
  have hzr : w.keepsRegs (((w.deliver x off).advance q p n).shotArms x) [REP_INC_DROP, REP_STATUS] :=
    .trans (.trans ((deliver_keeps w x off).toRegs (by decide) _) ((advance_keeps _ q p n).toRegs (by decide) _))
      (shotArms_keeps _ x).2
  refine ⟨x, hx, ?_, ?_, ?_⟩
  · have hseq : u.seq = s.seq := hu.1 .seq (by decide)
    calc (((w.deliver x off).advance q p n).shotArms x).seq
        = v.seq := (hz .seq (by decide)).trans (hw .seq (by decide))
      _ = { u.seq with history := (x :: u.seq.history).take 4096, efu := u.seq.efu ++ [x] } := rfl
      _ = _ := by rw [hseq]
  · calc (((w.deliver x off).advance q p n).shotArms x).reg SEQ_HIST_HEAD
        = (v.bump SEQ_HIST_HEAD).reg SEQ_HIST_HEAD :=
          (hzr _ (by decide)).trans (reg_bump_other _ (by show 0x10024 ≠ 0x1010C + 16 * p.pid; omega))
      _ = v.reg SEQ_HIST_HEAD + 1 := reg_bump_self v _
      _ = s.reg SEQ_HIST_HEAD + 1 := by rw [show v.reg SEQ_HIST_HEAD = s.reg SEQ_HIST_HEAD from hu.2 _ (by decide)]
  · exact .trans (.after hw rfl (.after (keeps_seq _ _) rfl (.first hu.1 rfl))) (.first hz rfl)

theorem execShotCommit_held {s : State} (h : s.seq.clockHold = true ∨ s.thm.shutdown = true ∨ s.nextPlan = none) :
    execShotCommit s = .next s := by
  unfold execShotCommit
  by_cases hc : (s.seq.clockHold || s.thm.shutdown) = true
  · rw [if_pos hc]
  · have hn : s.nextPlan = none := by
      simp only [Bool.or_eq_true, not_or] at hc
      exact (h.resolve_left hc.1).resolve_left hc.2
    rw [if_neg hc, hn]

theorem execShotCommit_plan {s : State} {p : Plan} {q : Prog} (hc : s.seq.clockHold = false)
    (hs : s.thm.shutdown = false) (hp : s.nextPlan = some p) (hq : s.prog p.pid = some q) :
    execShotCommit s = .next (let t := s.takeNumber.2.commitShot q p s.seq.next
      if s.role == 1 && seSync p.entry then t.announce p.pid s.seq.next p.fire else t) := by
  unfold execShotCommit
  simp only [hc, hs, hp, hq]
  rfl

/-- Settles O11: the commitment under the number taken, and the announcement, which changes the links only. -/
theorem shotCommitmentTakesTheNextNumber : Obligations.ShotCommitmentTakesTheNextNumber := by
  refine ⟨fun s p q hc hs hp hq => ?_, fun s h => execShotCommit_held h⟩
  obtain ⟨x, ⟨hn, hpid, hfire, hdither, htag, hflags, hdark⟩, hseq, hreg, hk⟩ :=
    commitShot_spec s.takeNumber.2 q p s.seq.next
  have ha : (s.takeNumber.2.commitShot q p s.seq.next).keeps (if s.role == 1 && seSync p.entry then
      (s.takeNumber.2.commitShot q p s.seq.next).announce p.pid s.seq.next p.fire
      else s.takeNumber.2.commitShot q p s.seq.next) [.ifl] := .ite (announce_keeps _ _ _ _) (.refl _ _)
  have ht := takeNumber_seq s
  refine ⟨_, x, execShotCommit_plan hc hs hp hq, ?_, ?_, ?_, hn, hpid, hfire, hdither, htag, hflags, hdark, ?_, ?_⟩
  · rw [ha .seq (by decide), hseq, ht]
  · rw [ha .seq (by decide), hseq, ht]
  · rw [ha .seq (by decide), hseq, ht]
  · exact (reg_congr (ha .regs (by decide)) _).trans (hreg.trans
      (congrArg (· + 1) (takeNumber_keepsRegs s SEQ_HIST_HEAD (by decide))))
  · exact .after ha rfl (.after hk rfl (.first (takeNumber_keeps s) rfl))

/-! Shots and events of an engine (03 R80; 07 R189, R199). -/

/-- A shot reads back with its change, when the change leaves its number. -/
theorem setShot_find (y : Engine) (n : Long) (f : EngShot → EngShot)
    (hf : ∀ x, (f x).shot.number = x.shot.number) :
    (y.setShot n f).shots.find? (fun x => x.shot.number == n) =
      (y.shots.find? fun x => x.shot.number == n).map f := by
  simp only [Engine.setShot]
  induction y.shots with
  | nil => rfl
  | cons x t ih =>
    by_cases h : x.shot.number = n
    · simp [h, hf]
    · simp [h, ih]

/-- A shot as PASS_OPEN leaves it: open, with hits or without, and with its channels' conditions. -/
def EngShot.enter (full : Bool) (splits : List Word) (c : Word) (x : EngShot) : EngShot :=
  { x with opened := true, slotOvf := full, cond := (x.cond.zip splits).map fun p => p.1 ||| p.2 ||| c }

theorem early_ite_shots (c : Prop) [Decidable c] (y : Engine) (l : List Nat) :
    (if c then { y with early := l } else y).shots = y.shots := by split <;> rfl

/-- A change of a group that marks it as begun leaves no group of its index that has not begun. -/
theorem setGroup_begun (c : Prop) [Decidable c] (l : List Nat) (y : Engine) (i : Nat) (f : GroupCtx → GroupCtx)
    (hb : ∀ z, (f z).begun = true) :
    ∀ z ∈ (if c then { y.setGroup i f with early := l } else y.setGroup i f).groups,
      z.index = i → z.begun = true := by
  have hg : (if c then { y.setGroup i f with early := l } else y.setGroup i f).groups = (y.setGroup i f).groups := by
    split <;> rfl
  intro z hz hzi
  rw [hg] at hz
  obtain ⟨w, -, rfl⟩ := List.mem_map.1 hz
  by_cases h : w.index = i
  · simp only [h, if_true, hb]
  · simp only [h, if_false] at hzi

/-- PASS_OPEN of a pending shot whose opening has come (03 R80, R83): the shot is open, without hits when 16 others are
in flight, and its group has begun. -/
theorem execPassOpen_due {s : State} {e : Fin 68} {shot : Long} {g : Nat} {x : EngShot}
    (hg : s.engineGroup e = some g) (hx : (s.eng e).shots.find? (fun x => x.shot.number == shot) = some x)
    (ho : x.opened = false) (hf : (s.eng e).st ≠ .failed) (he : e.val < s.hen.length)
    (hd : x.shot.opening g ≤ (s.unitNow : Int)) :
    ∃ t z, execPassOpen e shot s = .next t ∧
      (t.eng e).shots.find? (fun x => x.shot.number == shot) = some z ∧ z.opened = true ∧ z.shot = x.shot ∧
      (z.slotOvf = true ↔ 16 ≤ ((s.eng e).shots.filter fun z =>
        z.opened && !z.slotOvf && decide (x.shot.opening g < z.shot.closing g)).length) ∧
      (∀ y ∈ (t.eng e).groups, y.index = x.group → y.begun = true) ∧
      (∀ k, k ≠ e.val → t.eng k = s.eng k) ∧ s.keeps t [.regs, .hen] := by
  unfold execPassOpen
  split
  next g' x' hg' hx' =>
    obtain rfl : g = g' := Option.some.inj (hg.symm.trans hg')
    obtain rfl : x = x' := Option.some.inj (hx.symm.trans hx')
    rw [if_neg (by simp [ho, hf, hd])]
    extract_lets full splits c u
    have hhen : (if full then u.latch SEQ_STATUS 8 else u).hen = u.hen := by split <;> rfl
    have heng (k : Nat) : (if full then u.latch SEQ_STATUS 8 else u).eng k = u.eng k :=
      congrArg (fun l => nth l k Engine.reset) hhen
    have hshots : (u.eng e).shots = ((s.eng e).setShot shot (EngShot.enter full splits c)).shots :=
      (congrArg Engine.shots (eng_setEng_self s _ he)).trans (early_ite_shots _ _ _)
    have hbegun : ∀ y ∈ (u.eng e).groups, y.index = x.group → y.begun = true := by
      rw [eng_setEng_self s _ he]
      exact setGroup_begun _ _ _ _ _ fun _ => rfl
    refine ⟨_, x.enter full splits c, rfl, ?_, rfl, rfl, decide_eq_true_iff, ?_, fun k hk => ?_, ?_⟩
    · rw [heng, hshots, setShot_find _ _ (EngShot.enter full splits c) fun _ => rfl, hx]
      rfl
    · rw [heng]
      exact hbegun
    · rw [heng]
      exact eng_setEng_other s _ hk
    · exact .ite (.after (latch_keeps _ _ _) rfl (.first (setEng_keeps s _ _) rfl)) (.first (setEng_keeps s _ _) rfl)
  next h => exact absurd hx (h g x hg)

/-! HIT_RELEASE (01 R28; 03 R82; 06 R168; 07 R182). -/

/-- The next stamp of a group that the watermarks have passed, when it is an L-rising one, is paired. -/
theorem releaseOne_hit {s : State} {e g i : Nat} {h : HitStamp} (hn : s.nextStamp g = some (i, h))
    (hm : h.tick + s.holdFor e (8 * g + i) h < s.groupMark g) (ho : s.openFirst e g h = false)
    (hr : h.rising = true) (hu : h.upper = false) :
    s.releaseOne e g =
      (let rest := (s.tdc (s.chan (8 * g + i)).tdc).queue.drop 1
       let w := (s.setTdc (s.chan (8 * g + i)).tdc fun x => { x with queue := rest }).qualifyStamp g i h rest
       (w.pairHit e g
          { chan := i, l := h, u := partner h rest true true (w.longestWin e (8 * g + i))
            d := partner h rest false false (w.longestWin e (8 * g + i)) }, true)) := by
  unfold State.releaseOne
  rw [hn]
  dsimp only
  rw [if_neg (by simp [ho, hm]), if_pos (by simp [hr, hu])]

theorem releaseHit_succ {s t : State} {e g fuel : Nat} (h : s.releaseOne e g = (t, true)) :
    s.releaseHit e g (fuel + 1) = t := by
  rw [State.releaseHit, h]

theorem execHitRelease_failed {s : State} {e : Fin 68} {g : Nat} (hg : s.engineGroup e = some g)
    (hf : (s.eng e).st = .failed) : execHitRelease e s = .next s := by
  unfold execHitRelease
  rw [hg]
  dsimp only
  rw [if_pos hf]

theorem execHitRelease_full {s : State} {e : Fin 68} {g : Nat} (hg : s.engineGroup e = some g)
    (hf : (s.eng e).st ≠ .failed) (hb : 256 ≤ (s.eng e).bursts.length + (s.eng e).heldPairs.length) :
    execHitRelease e s = .next (s.latch (HEN_STAT e) 0x1) := by
  unfold execHitRelease
  rw [hg]
  dsimp only
  rw [if_neg hf, if_pos hb]

theorem execHitRelease_runs {s : State} {e : Fin 68} {g : Nat} (hg : s.engineGroup e = some g)
    (hf : (s.eng e).st ≠ .failed) (hb : (s.eng e).bursts.length + (s.eng e).heldPairs.length < 256) :
    execHitRelease e s = .next ((s.mergeGroup g).releaseHit e g 520) := by
  unfold execHitRelease
  rw [hg]
  dsimp only
  rw [if_neg hf, if_neg (by omega)]

/-! BURST_TEST (03 R82). -/

/-- BURST_TEST of the oldest pairing, once the watermark has passed its last offset: it is binned when enough pulses
found a hit. -/
theorem execBurstTest_due {s m : State} {e : Fin 68} {g : Nat} {b : BurstWait} {rest : List BurstWait}
    (hm : s.mergeGroup g = m) (hg : s.engineGroup e = some g) (hb : (s.eng e).bursts = b :: rest)
    (hf : (m.eng e).st ≠ .failed) (hu : b.until_ < m.groupMark g) :
    let v := m.setEng e fun y => { y with bursts := rest }
    (∀ x bin, (m.eng e).shots.find? (fun x => x.shot.number == b.shot) = some x →
      x.shot.binOf (8 * g + b.hit.chan) (m.timed g b.hit x.shot).time = some bin →
      execBurstTest e s = .next (
        if x.shot.burstK ≤ m.burstMatches e g b.hit x.shot (m.timed g b.hit x.shot).time then
          v.binPairing e x.group b.hit.chan bin else v)) ∧
    ((m.eng e).shots.find? (fun x => x.shot.number == b.shot) = none → execBurstTest e s = .next v) := by
  have hdue : ¬((m.eng e).st = .failed ∨ m.groupMark g ≤ b.until_) := by simp [hf, hu]
  unfold execBurstTest
  rw [hg, hb]
  simp only [hm, if_neg hdue]
  exact ⟨fun x bin hx hbin => by simp only [hx, hbin], fun hx => by simp only [hx]⟩

/-! PASS_CLOSE (07 R189). -/

theorem mergeGroup_keeps (s : State) (g : Nat) : s.keeps (s.mergeGroup g) [.regs, .pk, .hch] :=
  .foldl (fun t _ => merge_keeps t _ _) _ s

theorem raise_shots (y : Engine) (v : EngEvent) : (y.raise v).shots = y.shots := by
  unfold Engine.raise
  split
  · split <;> rfl
  · rfl

theorem raise_mem (y : Engine) (v : EngEvent) : (y.raise v).mem = y.mem := by
  unfold Engine.raise
  split
  · split <;> rfl
  · rfl

/-- What an event does to the queue depends on the queue and the images alone. -/
theorem raise_events_congr {y z : Engine} (v : EngEvent) (he : z.events = y.events)
    (hv : z.entryFor v = y.entryFor v) : (z.raise v).events = (y.raise v).events := by
  unfold Engine.raise
  rw [hv]
  split
  · split <;> exact he
  · simp only [he]

/-- PASS_CLOSE of a shot whose Pass has closed and whose hits have been released: it leaves the engine as a SHOT
event. -/
theorem execPassClose_due {s m : State} {e : Fin 68} {shot : Long} {g : Nat} {x : EngShot} (hm : s.mergeGroup g = m)
    (hg : s.engineGroup e = some g) (hx : (s.eng e).shots.find? (fun x => x.shot.number == shot) = some x)
    (he : e.val < s.hen.length) (ho : x.opened = true) (hf : (m.eng e).st ≠ .failed)
    (hc : x.shot.closing g ≤ (m.unitNow : Int)) (hr : m.releasedTo g (x.shot.closeTick g) = true)
    (hb : (m.eng e).bursts.any (fun b => b.shot == shot) = false) :
    ∃ t, execPassClose e shot s = .next t ∧
      (t.eng e).shots = (m.eng e).shots.filter (fun z => z.shot.number != shot) ∧
      (t.eng e).events = ((m.eng e).raise
        { kind := .shot, tick := m.tim.shot, group := none
          shot := some { x with
            closed := true, cond := (x.cond.zip (m.lossFlags g x.shot)).map fun p => p.1 ||| p.2 } }).events ∧
      (t.eng e).mem = (m.eng e).mem ∧ (∀ k, k ≠ e.val → t.eng k = m.eng k) ∧ m.keeps t [.hen] := by
  have hlen : e.val < m.hen.length := by rwa [← hm, mergeGroup_keeps s g .hen (by decide)]
  have hdue : ¬(¬x.opened ∨ (m.eng e).st = .failed ∨ (m.unitNow : Int) < x.shot.closing g ∨
      ¬m.releasedTo g (x.shot.closeTick g) ∨ (m.eng e).bursts.any fun b => b.shot == shot) := by
    simp [ho, hf, hc, hr, hb]
  unfold execPassClose
  split
  next g' x' hg' hx' =>
    obtain rfl : g = g' := Option.some.inj (hg.symm.trans hg')
    obtain rfl : x = x' := Option.some.inj (hx.symm.trans hx')
    rw [hm]
    extract_lets y
    rw [if_neg hdue]
    refine ⟨_, rfl, ?_, ?_, ?_, fun k hk => ?_, setEng_keeps m _ _⟩
    · exact (congrArg Engine.shots (eng_setEng_self m _ hlen)).trans (raise_shots _ _)
    · exact (congrArg Engine.events (eng_setEng_self m _ hlen)).trans (raise_events_congr _ rfl rfl)
    · exact (congrArg Engine.mem (eng_setEng_self m _ hlen)).trans (raise_mem _ _)
    · exact eng_setEng_other m _ hk
  next h => exact absurd hx (h g x hg)

/-! GROUP_HANDOVER (07 R186, R187). -/

/-- GROUP_HANDOVER of the oldest group that can be handed over. -/
theorem execGroupHandover_due {s : State} {e : Fin 68} {g : Nat} {z : GroupCtx} (hg : s.engineGroup e = some g)
    (hz : (s.eng e).groups.find? (fun z => (s.eng e).canHand z) = some z) :
    let a := s.abortImage e (z.index % 2)
    let close : Int := z.members.foldl (fun m x => max m (x.closing g)) (z.first.closing g)
    let from_ : Int := (a.1.eng e).attrFrom
    let z' : GroupCtx := { z with
      abort := a.2 || z.abort
      exposure := (groupChans g).map fun c => a.1.exposure e c from_ (max from_ close) }
    execGroupHandover e s = .next ((a.1.setEng e fun y =>
      let w := { y.copyBank (z.index % 2) z.first.bins with
        groups := y.groups.filter fun w => w.index != z.index
        passes := y.passes.filter fun x => decide (max from_ close < x.closing g)
        closed := y.closed.set (z.index % 2) (if z.lost = true then none else some z')
        attrFrom := (max from_ close).toNat }
      if z.lost = true then w.settle
      else (w.raise { kind := .group, tick := a.1.tim.shot, shot := none, group := some z' }).settle).binHeld e) := by
  intro a close from_ z'
  unfold execGroupHandover
  split
  next g₁ z₁ hg₁ hz₁ =>
    obtain rfl : g = g₁ := Option.some.inj (hg.symm.trans hg₁)
    obtain rfl : z = z₁ := Option.some.inj (hz.symm.trans hz₁)
    rfl
  next h => exact absurd hz (h g z hg)

/-! RUN_START (07 R189, R196, R199). -/

theorem refreshImage_keeps (s : State) (e : Nat) : s.keeps (s.refreshImage e) [.hen] := by
  unfold State.refreshImage
  split
  · exact .ite (setEng_keeps s _ _) (.refl s _)
  · exact .refl s _

theorem eng_refreshImage_other (s : State) {e k : Nat} (h : k ≠ e) : (s.refreshImage e).eng k = s.eng k := by
  unfold State.refreshImage
  split
  · split
    · exact eng_setEng_other s _ h
    · rfl
  · rfl

theorem length_hen_refreshImage (s : State) (e : Nat) : (s.refreshImage e).hen.length = s.hen.length := by
  unfold State.refreshImage
  split
  · split
    · exact length_upd _ _ _
    · rfl
  · rfl

theorem execRunStart_noEntry {s : State} {e : Fin 68} {v : EngEvent} {rest : List EngEvent}
    (hv : ((s.refreshImage e).eng e).events = v :: rest) (hn : ((s.refreshImage e).eng e).entryFor v = none) :
    execRunStart e s = .next ((s.refreshImage e).setEng e fun y => { y with events := rest }) := by
  unfold execRunStart
  extract_lets u y
  split
  next v' rest' hv' =>
    obtain ⟨rfl, rfl⟩ := List.cons.inj (hv.symm.trans hv')
    split
    next pc hpc => exact absurd (hn.symm.trans hpc) (by simp)
    next => rfl
  next h => exact absurd (hv.symm.trans h) (by simp)

/-- A byte of a range that has just been cleared reads 0. -/
theorem bytes_clear_one {y : Engine} {m : List (Nat × Byte)} {lo n a : Nat} (hm : y.mem = Sparse.clear m lo n)
    (h : lo ≤ a ∧ a < lo + n) : y.bytes a 1 = [0] := by
  simp only [Engine.bytes, hm, Sparse.getMany, List.range_one, List.map_cons, List.map_nil, Nat.add_zero,
    Sparse.get_clear, if_pos h]
  rfl

theorem nth_replicate {α : Type} (n i : Nat) (d : α) : nth (List.replicate n d) i d = d := by
  simp only [nth, List.getD_eq_getElem?_getD, List.getElem?_replicate]
  split <;> rfl

/-- RUN_START of an idle engine: the oldest event's run begins, with slots and peak lists zero. -/
theorem execRunStart_entry {s : State} {e : Fin 68} {v : EngEvent} {rest : List EngEvent} {pc : Nat}
    (hv : ((s.refreshImage e).eng e).events = v :: rest) (hpc : ((s.refreshImage e).eng e).entryFor v = some pc)
    (hi : ((s.refreshImage e).eng e).st = .idle) (he : e.val < s.hen.length) :
    ∃ t r, execRunStart e s = .next t ∧ (t.eng e).run = some r ∧ r.event = v ∧
      r.half = ((s.refreshImage e).eng e).halfFor v ∧ r.cur = 0 ∧ r.flag = 0 ∧ r.waiting = none ∧
      (t.eng e).st = .busy ∧ (t.eng e).events = rest ∧ (t.eng e).pc = pc ∧ (∀ i, (t.eng e).slot i = 0) ∧
      (∀ c, c < 8 → (t.eng e).peakList r c = []) ∧
      (∀ c i, c < 8 → i < 128 → (t.eng e).bytes (E_PEAKS + 128 * c + i) 1 = [0]) ∧
      (∀ k, k ≠ e.val → t.eng k = s.eng k) ∧ s.keeps t [.hen, .drawn, .pk] := by
  unfold execRunStart
  extract_lets u y
  split
  case h_2 h => exact absurd (hv.symm.trans h) (by simp)
  next v' rest' hv' =>
  obtain ⟨rfl, rfl⟩ := List.cons.inj (hv.symm.trans hv')
  split
  case h_2 h => exact absurd (hpc.symm.trans h) (by simp)
  next pc' hpc' =>
  obtain rfl : pc = pc' := Option.some.inj (hpc.symm.trans hpc')
  rw [if_neg (not_not_intro hi)]
  extract_lets h fresh r w
  have hw : w.keeps { w with drawn := w.drawn + 1 } [.drawn] := keeps_drawn w _
  have huw : u.keeps w [.pk] := .ite (noteWrap_keeps u _ _ _ _) (.refl u _)
  have hhen : w.hen = u.hen := huw .hen (by decide)
  have hlen : e.val < ({ w with drawn := w.drawn + 1 } : State).hen.length := by
    show e.val < w.hen.length
    rw [hhen, length_hen_refreshImage]
    exact he
  have hself := fun f : Engine → Engine => eng_setEng_self { w with drawn := w.drawn + 1 } f hlen
  refine ⟨_, r, rfl, ?_, rfl, rfl, rfl, rfl, rfl, ?_, ?_, ?_, fun i => ?_, fun c hc => ?_, fun c i hc hi => ?_,
    fun k hk => ?_, ?_⟩
  · rw [hself]
  · rw [hself]
  · rw [hself]
  · rw [hself]
  · exact (congrArg (Engine.slot · i) (hself _)).trans (nth_replicate 16 i 0)
  · rw [hself]
    show (List.range (nth (List.replicate 8 0) c 0)).map _ = []
    rw [nth_replicate]
    rfl
  · exact bytes_clear_one (congrArg Engine.mem (hself _)) (by omega)
  · calc nth _ k Engine.reset
        = nth w.hen k Engine.reset := eng_setEng_other { w with drawn := w.drawn + 1 } _ hk
      _ = u.eng k := congrArg (nth · k Engine.reset) hhen
      _ = s.eng k := eng_refreshImage_other s hk
  · exact .after (setEng_keeps _ _ _) rfl (.after hw rfl (.after huw rfl (.first (refreshImage_keeps s e) rfl)))

/-- Settles O15: one lemma for each command, on the branch in which it is due. -/
theorem passesAndHitsReachTheirGroups : Obligations.PassesAndHitsReachTheirGroups := by
  refine ⟨fun s e shot g x hg hx ho hf he hd => execPassOpen_due hg hx ho hf he hd, fun s e g hg => ⟨?_, ?_, ?_⟩,
    fun s e g b rest hg hb hf hu => execBurstTest_due rfl hg hb hf hu,
    fun s e shot g x hg hx he ho hf hc hr hb => execPassClose_due rfl hg hx he ho hf hc hr hb,
    fun s e g z hg hz => execGroupHandover_due hg hz,
    fun s e v rest pc hv hpc hi he _ => execRunStart_entry hv hpc hi he,
    fun s e v rest hv hn => execRunStart_noEntry hv hn⟩
  · exact execHitRelease_failed hg
  · exact execHitRelease_full hg
  · intro i h m rest w hf hb hn hm ho hr hu
    exact (execHitRelease_runs hg hf hb).trans
      (congrArg Host.Outcome.next (releaseHit_succ (releaseOne_hit hn hm ho hr hu)))

end Sys2Proof.Machine

namespace Sys2Proof.Machine

/-! Little-endian numbers and the parts of a byte string (00 R11). -/

@[simp] theorem length_leBytes : ∀ (n v : Nat), (leBytes n v).length = n
  | 0, _ => rfl
  | n + 1, v => congrArg (· + 1) (length_leBytes n (v / 256))

theorem leNat_leBytes : ∀ (n v : Nat), leNat (leBytes n v) = v % 256 ^ n
  | 0, v => by simp [leBytes, leNat, Nat.mod_one]
  | n + 1, v => by
    rw [leBytes, leNat, leNat_leBytes n, BitVec.toNat_ofNat, pow_succ' 256, Nat.mod_mul]

theorem leNat_lt : ∀ l : List Byte, leNat l < 256 ^ l.length
  | [] => by simp [leNat]
  | b :: t => by
    have hb := b.isLt
    have ht := leNat_lt t
    rw [leNat, List.length_cons, pow_succ']
    omega

theorem leBytes_leNat : ∀ l : List Byte, leBytes l.length (leNat l) = l
  | [] => rfl
  | b :: t => by
    have hb := b.isLt
    have hd : (b.toNat + 256 * leNat t) / 256 = leNat t := by omega
    have hm : BitVec.ofNat 8 (b.toNat + 256 * leNat t) = b := by
      apply BitVec.eq_of_toNat_eq
      rw [BitVec.toNat_ofNat]
      omega
    rw [leNat, List.length_cons, leBytes, hd, hm, leBytes_leNat t]

@[simp] theorem length_slice (l : List Byte) (off len : Nat) : (slice l off len).length = len := by
  simp only [slice, List.length_append, List.length_replicate, List.length_take]
  omega

/-- Within a byte string, a slice pads nothing. -/
theorem slice_eq_take {l : List Byte} {off len : Nat} (h : off + len ≤ l.length) :
    slice l off len = (l.drop off).take len := by
  have hl : ((l.drop off).take len).length = len := by
    rw [List.length_take, List.length_drop]
    omega
  simp only [slice, hl, Nat.sub_self, List.replicate_zero, List.append_nil]

/-- A byte string as its parts: the slice at the length of what stands before it. -/
theorem slice_part {l a b c : List Byte} {off len : Nat} (hl : l = a ++ (b ++ c)) (ha : a.length = off)
    (hb : b.length = len) : slice l off len = b := by
  subst hl ha hb
  rw [slice_eq_take (by simp only [List.length_append]; omega), List.drop_left, List.take_left]

theorem slice_append_slice {l : List Byte} {off m n : Nat} (h : off + m + n ≤ l.length) :
    slice l off m ++ slice l (off + m) n = slice l off (m + n) := by
  rw [slice_eq_take (by omega), slice_eq_take h, slice_eq_take (by omega), ← List.drop_drop, List.take_add]

theorem slice_one {l : List Byte} {i : Nat} (h : i < l.length) : slice l i 1 = [nth l i 0] := by
  rw [slice_eq_take (by omega), nth, List.getD_eq_getElem l 0 h, List.drop_eq_getElem_cons h]
  rfl

/-- A field's bytes spell it. -/
theorem leBytes_field (l : List Byte) (off n : Nat) : leBytes n (field l off n) = slice l off n := by
  have h := leBytes_leNat (slice l off n)
  rwa [length_slice] at h

theorem field_lt (l : List Byte) (off n : Nat) : field l off n < 256 ^ n := by
  simpa [field] using leNat_lt (slice l off n)

theorem toNat_ofNat_field (l : List Byte) (off n : Nat) :
    (BitVec.ofNat (8 * n) (field l off n)).toNat = field l off n := by
  rw [BitVec.toNat_ofNat, pow_mul]
  exact Nat.mod_eq_of_lt (field_lt l off n)

/-- The field at a number's bytes is the number. -/
theorem field_part {l a c : List Byte} {off n v : Nat} (hl : l = a ++ (leBytes n v ++ c)) (ha : a.length = off)
    (hv : v < 256 ^ n) : field l off n = v := by
  rw [field, slice_part hl ha (length_leBytes n v), leNat_leBytes, Nat.mod_eq_of_lt hv]

/-! A packet as bytes (02 R35, R37). -/

/-- The 16 bytes before the payload. -/
def Packet.header (p : Packet) : List Byte :=
  [0xA5, 0x4E, 0x01, p.opcode, p.flags, p.status] ++ leBytes 2 p.sequence.toNat ++
    leBytes 2 p.payload.length ++ [p.target, p.cls] ++ leBytes 4 p.gen.toNat

theorem Packet.body_eq (p : Packet) : p.body = p.header ++ p.payload := rfl

@[simp] theorem Packet.length_header (p : Packet) : p.header.length = 16 := by simp [Packet.header]

@[simp] theorem Packet.length_body (p : Packet) : p.body.length = 16 + p.payload.length := by
  rw [p.body_eq, List.length_append, p.length_header]

/-- Header and payload with a trailer read as the packet when the trailer is their CRC-32C, and else as a packet
with a wrong CRC (02 R37, R43). -/
theorem parsePacket_body_trailer (p : Packet) (w : Word) (h : p.payload.length ≤ 4080) :
    parsePacket (p.body ++ leBytes 4 w.toNat) = if p.crc = w then .packet 1 p else .crc p := by
  have hq := p.sequence.isLt
  have hg := p.gen.isLt
  have hw := w.isLt
  have hlen : field (p.body ++ leBytes 4 w.toNat) 8 2 = p.payload.length :=
    field_part (a := p.header.take 8)
      (c := [p.target, p.cls] ++ leBytes 4 p.gen.toNat ++ p.payload ++ leBytes 4 w.toNat)
      (by simp [Packet.body, Packet.header, leBytes]) (by simp [Packet.header]) (by omega)
  have hseq : field (p.body ++ leBytes 4 w.toNat) 6 2 = p.sequence.toNat :=
    field_part (a := p.header.take 6)
      (c := leBytes 2 p.payload.length ++ [p.target, p.cls] ++ leBytes 4 p.gen.toNat ++ p.payload ++ leBytes 4 w.toNat)
      (by simp [Packet.body, Packet.header]) (by simp [Packet.header]) (by omega)
  have hgen : field (p.body ++ leBytes 4 w.toNat) 12 4 = p.gen.toNat :=
    field_part (a := p.header.take 12) (c := p.payload ++ leBytes 4 w.toNat)
      (by simp [Packet.body, Packet.header, leBytes]) (by simp [Packet.header]) (by omega)
  have htr : field (p.body ++ leBytes 4 w.toNat) (16 + p.payload.length) 4 = w.toNat :=
    field_part (a := p.body) (c := []) (by simp) p.length_body (by omega)
  have hpl : slice (p.body ++ leBytes 4 w.toNat) 16 p.payload.length = p.payload :=
    slice_part (a := p.header) (c := leBytes 4 w.toNat) (by simp [Packet.body_eq]) p.length_header rfl
  have htake : (p.body ++ leBytes 4 w.toNat).take (16 + p.payload.length) = p.body := by
    rw [← p.length_body, List.take_left]
  have hfmt : ¬ ((p.body ++ leBytes 4 w.toNat).length < 20 || nth (p.body ++ leBytes 4 w.toNat) 0 0 != 0xA5 ||
      nth (p.body ++ leBytes 4 w.toNat) 1 0 != 0x4E ||
      (p.body ++ leBytes 4 w.toNat).length != 20 + p.payload.length || decide (4080 < p.payload.length)) = true := by
    simp [Packet.body, nth]
    omega
  simp only [parsePacket, hlen, hseq, hgen, htr, hpl, htake, if_neg hfmt, BitVec.ofNat_toNat, BitVec.setWidth_eq]
  rfl

theorem parsePacket_bytes (p : Packet) (h : p.payload.length ≤ 4080) : parsePacket p.bytes = .packet 1 p := by
  rw [Packet.bytes, parsePacket_body_trailer p p.crc h, if_pos rfl]

/-- What the first checks of 02 R43 say of bytes that read as a packet. -/
theorem parsePacket_packet {l : List Byte} {v : Byte} {p : Packet} (h : parsePacket l = .packet v p) :
    l.length = 20 + field l 8 2 ∧ nth l 0 0 = 0xA5 ∧ nth l 1 0 = 0x4E ∧ nth l 2 0 = v ∧
      p = { opcode := nth l 3 0, flags := nth l 4 0, status := nth l 5 0
            sequence := BitVec.ofNat 16 (field l 6 2), target := nth l 10 0, cls := nth l 11 0
            gen := BitVec.ofNat 32 (field l 12 4), payload := slice l 16 (field l 8 2) } ∧
      crc32c (l.take (16 + field l 8 2)) = BitVec.ofNat 32 (field l (16 + field l 8 2) 4) := by
  simp only [parsePacket] at h
  split at h
  · cases h
  next hf =>
  split at h
  · next hc =>
    obtain ⟨hv, hp⟩ := Parse.packet.inj h
    simp only [Bool.or_eq_true, bne_iff_ne, decide_eq_true_eq, not_or, ne_eq, not_not] at hf
    obtain ⟨⟨⟨⟨-, ha⟩, hb⟩, hl⟩, -⟩ := hf
    exact ⟨hl, ha, hb, hv, hp.symm, hc⟩
  · cases h

/-- The first 16 bytes and the payload of bytes that read as a packet of version 1 are those of the packet. -/
theorem take_of_parsePacket {l : List Byte} {p : Packet} (h : parsePacket l = .packet 1 p) :
    l.take (16 + field l 8 2) = p.body := by
  obtain ⟨hl, ha, hb, hv, rfl, -⟩ := parsePacket_packet h
  have hq : (BitVec.ofNat 16 _).toNat = _ := toNat_ofNat_field l 6 2
  have hg : (BitVec.ofNat 32 _).toNat = _ := toNat_ofNat_field l 12 4
  have one (i : Nat) (hi : i < 20) : [nth l i 0] = slice l i 1 := (slice_one (by omega)).symm
  have join (off m n : Nat) (hn : off + m + n ≤ 20 + field l 8 2) :
      slice l off m ++ slice l (off + m) n = slice l off (m + n) := slice_append_slice (by omega)
  calc l.take (16 + field l 8 2)
      = slice l 0 (16 + field l 8 2) := (slice_eq_take (l := l) (off := 0) (by omega)).symm
    _ = [nth l 0 0] ++ [nth l 1 0] ++ [nth l 2 0] ++ [nth l 3 0] ++ [nth l 4 0] ++ [nth l 5 0] ++ slice l 6 2 ++
          slice l 8 2 ++ [nth l 10 0] ++ [nth l 11 0] ++ slice l 12 4 ++ slice l 16 (field l 8 2) := by
        rw [one 0 (by omega), one 1 (by omega), one 2 (by omega), one 3 (by omega), one 4 (by omega),
          one 5 (by omega), one 10 (by omega), one 11 (by omega), join 0 1 1 (by omega), join 0 2 1 (by omega),
          join 0 3 1 (by omega), join 0 4 1 (by omega), join 0 5 1 (by omega), join 0 6 2 (by omega),
          join 0 8 2 (by omega), join 0 10 1 (by omega), join 0 11 1 (by omega), join 0 12 4 (by omega),
          join 0 16 _ (by omega)]
    _ = _ := by
        simp only [Packet.body, hq, hg, ha, hb, hv, leBytes_field, length_slice, List.append_assoc, List.cons_append,
          List.nil_append]

theorem bytes_of_parsePacket {l : List Byte} {p : Packet} (h : parsePacket l = .packet 1 p) : l = p.bytes := by
  have hbody := take_of_parsePacket h
  obtain ⟨hl, -, -, -, -, hcrc⟩ := parsePacket_packet h
  have hw : (BitVec.ofNat 32 _).toNat = _ := toNat_ofNat_field l (16 + field l 8 2) 4
  have htr : leBytes 4 p.crc.toNat = l.drop (16 + field l 8 2) := by
    rw [Packet.crc, ← hbody, hcrc, hw, leBytes_field,
      slice_eq_take (by omega), List.take_of_length_le (by simp only [List.length_drop]; omega)]
  rw [Packet.bytes, ← hbody, htr, List.take_append_drop]

/-- A well-formed packet row's payload fits (02 R35). -/
theorem payload_le_of_sent {i : Instr} {o : Origin} {op : Byte} {r : Request} (h : i.wf = true)
    (e : i.sent = some (o, op, r)) : r.payload.length ≤ 4080 := by
  cases i <;> cases e
  case progStopEndOfSegment | progStopImmediate | engControlRun | engControlHalt | resetFirmwareRestart |
      resetMeasuringCore | resetWholeDevice =>
    exact of_decide_eq_true ((Bool.and_eq_true _ _).mp h).1
  all_goals exact of_decide_eq_true h

/-- Settles O56: the packet's parts stand at their places, so reading finds them, and the other way round the parts
that were read make up the bytes. -/
theorem packetBytesReadBack : Obligations.PacketBytesReadBack := by
  unfold Obligations.PacketBytesReadBack
  intro reflected once byte
  have honce : once = crcBit := by
    have hr : reflected = 0x82F63B78#32 := by decide +kernel
    funext c
    simp only [once, hr]
    rfl
  have hbyte : byte = crcByte := by
    funext c b
    simp only [byte, honce]
    rfl
  refine ⟨fun i o op r hi he => ⟨parsePacket_bytes _ (payload_le_of_sent hi he), rfl⟩, fun p hp => ?_,
    fun l p h => bytes_of_parsePacket h, fun l =>?_, by decide +kernel⟩
  case refine_2 => rw [hbyte, crc32c]
  refine ⟨?_, ?_, parsePacket_bytes p hp, fun w hw => ?_⟩
  · rw [Packet.bytes, List.length_append, p.length_body, length_leBytes]
    omega
  · rw [Packet.bytes, ← p.length_body, List.drop_left, List.take_left]
    rfl
  · rw [Packet.bytes, ← p.length_body, List.take_left, parsePacket_body_trailer p w hp, if_neg hw.symm]

end Sys2Proof.Machine

namespace Sys2Proof.Machine

/-! Writes of the memory windows (02 R52; 07 R180; 15 R370, R375). -/

theorem keeps_mem (s : State) (x : MemUnit) : s.keeps { s with mem := x } [.mem] := by
  intro p hp; cases p <;> simp at hp <;> rfl

theorem get_setMany_nth (m : List (Nat × Byte)) (a : Nat) (d : List Byte) (i : Nat) (h : i < d.length) :
    Sparse.get zeroByte (Sparse.setMany zeroByte m a d) (a + i) = nth d i 0 := by
  rw [Sparse.get_setMany_in d m a i h, nth, List.getD_eq_getElem d 0 h]

theorem writeWindow_dram (s : State) (off : Nat) (d : List Byte) (h : off + d.length ≤ s.dramTop) :
    s.writeWindow 2 off d =
      { s with mem.dram := Sparse.setMany zeroByte s.mem.dram off d
               mem.poison := s.mem.poison.filter fun b =>
                 !(decide (off ≤ 64 * b) && decide (64 * b + 64 ≤ off + d.length)) } := by
  have hk : d.take (s.dramTop - off) = d := List.take_of_length_le (by omega)
  simp only [State.writeWindow, hk]
  rfl

theorem writeWindow_staging (s : State) (off : Nat) (d : List Byte) :
    s.writeWindow 0x71 off d =
      { s with thm.staging := Sparse.setMany zeroByte s.thm.staging (off - 0x100000) d } := rfl

theorem writeWindow_sram (s : State) (off : Nat) (d : List Byte) :
    s.writeWindow 1 off d =
      if off < 0x7A0000 then { s with thm.staging := Sparse.setMany zeroByte s.thm.staging (off - 0x500000) d }
      else { s with mem.host := Sparse.setMany zeroByte s.mem.host (off - 0x7A0000) d } := rfl

theorem writeWindow_engine (s : State) {w : Nat} (off : Nat) (d : List Byte) (h : 0x10 ≤ w) (h' : w ≤ 0x53) :
    s.writeWindow w off d = s.setEng (w - 0x10) fun e => e.store off d := if_pos ⟨h, h'⟩

theorem store_wf {x : Engine} (off : Nat) (d : List Byte) (h : Sparse.wf zeroByte x.mem = true) :
    Sparse.wf zeroByte (x.store off d).mem = true := Sparse.wf_setMany d _ _ h

theorem all_upd {α : Type} {p : α → Bool} {f : α → α} (hf : ∀ x, p x = true → p (f x) = true) :
    ∀ (l : List α) (i : Nat), l.all p = true → (upd l i f).all p = true
  | [], _, _ => by simp [upd]
  | x :: t, 0, h => by
    simp only [upd, List.modify_zero_cons, List.all_cons, Bool.and_eq_true] at h ⊢
    exact ⟨hf x h.1, h.2⟩
  | x :: t, i + 1, h => by
    simp only [upd, List.modify_succ_cons, List.all_cons, Bool.and_eq_true] at h ⊢
    exact ⟨h.1, all_upd hf t i h.2⟩

/-- A state's stores have their canonical forms exactly when each has. -/
theorem wf_iff (s : State) : s.wf = true ↔
    Sparse.wf regReset s.regs = true ∧ Sparse.wf zeroByte s.mem.dram = true ∧ Sparse.wf zeroByte s.mem.host = true ∧
      Sparse.wf zeroByte s.thm.staging = true ∧ Sparse.wf erased s.boot.flash = true ∧
      (s.hen.all fun x => Sparse.wf zeroByte x.mem) = true := by
  simp only [State.wf, Bool.and_eq_true, and_assoc]

theorem writeWindow_wf {s : State} (w off : Nat) (d : List Byte) (h : s.wf = true) :
    (s.writeWindow w off d).wf = true := by
  rw [wf_iff] at h ⊢
  obtain ⟨hr, hd, hh, hs, hf, he⟩ := h
  unfold State.writeWindow
  split
  · have he' := all_upd (f := fun e => e.store off d) (fun _ hx => store_wf off d hx) s.hen (w - 0x10) he
    exact ⟨hr, hd, hh, hs, hf, he'⟩
  split
  · exact ⟨hr, Sparse.wf_setMany _ _ _ hd, hh, hs, hf, he⟩
  split
  · exact ⟨hr, hd, hh, Sparse.wf_setMany _ _ _ hs, hf, he⟩
  split
  · split
    · exact ⟨hr, hd, hh, Sparse.wf_setMany _ _ _ hs, hf, he⟩
    · exact ⟨hr, hd, Sparse.wf_setMany _ _ _ hh, hs, hf, he⟩
  · exact ⟨hr, hd, hh, hs, hf, he⟩

/-- Settles O46: each window's write is one run of writes of a sparse store. -/
theorem writtenBytesReadBack : Obligations.WrittenBytesReadBack := by
  refine ⟨fun s off d h => ?_, fun s off d _ => ?_, fun s off d h => ?_, fun s w off d h h' hl => ?_,
    fun s w off d h => writeWindow_wf w off d h⟩
  · rw [writeWindow_dram s off d h]
    exact ⟨get_setMany_nth _ off d, fun a ha => Sparse.get_setMany_out d _ off a ha, rfl, keeps_mem s _⟩
  · rw [writeWindow_staging]
    exact ⟨get_setMany_nth _ _ d, fun a ha => Sparse.get_setMany_out d _ _ a ha, rfl, keeps_thm s _⟩
  · rw [writeWindow_sram, if_neg (by omega)]
    exact ⟨get_setMany_nth _ _ d, fun a ha => Sparse.get_setMany_out d _ _ a ha, rfl, keeps_mem s _⟩
  · rw [writeWindow_engine s off d h h']
    have hself := eng_setEng_self s (fun e => e.store off d) hl
    refine ⟨fun i hi => ?_, fun a ha => ?_, fun k hk => eng_setEng_other s _ hk, setEng_keeps s _ _⟩
    · rw [hself]
      exact get_setMany_nth _ off d i hi
    · rw [hself]
      exact Sparse.get_setMany_out d _ off a ha

end Sys2Proof.Machine

namespace Sys2Proof.Machine

/-! What arrives: where it waits, how it is taken and discarded (02 R43, R57, R60 to R62). -/

theorem keeps_pk (s : State) (x : PacketUnit) : s.keeps { s with pk := x } [.pk] := by
  intro p hp; cases p <;> simp at hp <;> rfl

theorem deaf_of_held {s : State} (o : Origin) (h : s.boot.held = true) : s.deaf o = true := by
  simp [State.deaf, h]

/-- MSPI and the Ethernet ports take what arrives, but under the hold of PORST_L. -/
theorem deaf_mspi_udp {s : State} {o : Origin} (ho : o = .mspi ∨ o.isUdp = true) (h : s.boot.held = false) :
    s.deaf o = false := by
  cases o <;> simp [State.deaf, Origin.isUdp, h] at ho ⊢

theorem setSession_keeps (s : State) (o : Origin) (f : Session → Session) : s.keeps (s.setSession o f) [.pk] :=
  keeps_pk s _

theorem openSession_keeps (s : State) (o : Origin) : s.keeps (s.openSession o) [.pk] := keeps_pk s _

theorem ensureSession_keeps {s t : State} {o : Origin} (h : s.ensureSession o = some t) : s.keeps t [.pk] := by
  unfold State.ensureSession at h
  split at h
  · exact Option.some.inj h ▸ setSession_keeps s _ _
  split at h
  · split at h
    · split at h
      · exact Option.some.inj h ▸ (keeps_pk s _).trans (openSession_keeps _ _)
      · cases h
    · cases h
  · exact Option.some.inj h ▸ openSession_keeps s _

theorem entry_keeps (s : State) (o : Origin) : s.keeps (s.entry o).2 [.drawn] := by
  cases o
  case ifl => exact draw_keeps s 80
  all_goals exact .refl s _

theorem take_keeps (s : State) (o : Origin) : s.keeps (s.take o) [.pk] := by
  cases o <;> exact keeps_pk s _

theorem taken_keeps {s t : State} {o : Origin} {a : Arrival} {e : Nat} (h : s.taken o a = some (e, t)) :
    s.keeps t [.pk, .drawn] := by
  unfold State.taken at h
  split at h
  · cases h
  split at h
  · cases h
    exact .after (take_keeps _ o) rfl (.first (entry_keeps s o) rfl)
  split at h
  · cases h
    exact .first ((keeps_pk s _).trans (take_keeps _ o)) rfl
  · cases h

/-! Bytes that fail one of the first checks (02 R39, R43). -/

theorem soundPacket_iff (raw : List Byte) (p : Packet) :
    soundPacket raw = some p ↔
      parsePacket raw = .packet 1 p ∧ bit p.flags.toNat 0 = false ∧ bit p.flags.toNat 6 = false := by
  unfold soundPacket
  cases parsePacket raw with
  | format => simp
  | crc q => simp
  | packet v q =>
    by_cases hc : (bit q.flags.toNat 0 || bit q.flags.toNat 6 || v != 1) = true
    · simp only [hc, if_true, reduceCtorEq, false_iff, Parse.packet.injEq]
      rintro ⟨⟨rfl, rfl⟩, h0, h6⟩
      simp [h0, h6] at hc
    · simp only [hc, Bool.false_eq_true, if_false, Option.some.injEq, Parse.packet.injEq]
      simp only [Bool.or_eq_true, bne_iff_ne, not_or, Bool.not_eq_true, ne_eq, not_not] at hc
      obtain ⟨⟨h0, h6⟩, rfl⟩ := hc
      constructor
      · rintro rfl
        exact ⟨⟨rfl, rfl⟩, h0, h6⟩
      · exact fun h => h.1.2

theorem discard_format {raw : List Byte} (h : parsePacket raw = .format) (s : State) (o : Origin) (e : Nat) :
    s.discard o raw e = s.bump GLB_RX_FMT := by
  simp only [State.discard, h]

theorem discard_crc {raw : List Byte} {p : Packet} (h : parsePacket raw = .crc p) (s : State) (o : Origin) (e : Nat) :
    s.discard o raw e = (if o = .mspi then s.answer o p e BAD_CRC 0 else s).bump GLB_RX_CRC := by
  simp only [State.discard, h]

theorem discard_packet {raw : List Byte} {v : Byte} {p : Packet} (h : parsePacket raw = .packet v p) (s : State)
    (o : Origin) (e : Nat) :
    s.discard o raw e = if (bit p.flags.toNat 0 || bit p.flags.toNat 6) = true then s.bump GLB_RX_FLAG
      else s.answer o p e BAD_VERSION 0 := by
  simp only [State.discard, h]

theorem execPacketDiscard_bad {s : State} {o : Origin} {raw : List Byte} (ho : o = .mspi ∨ o.isUdp = true)
    (hh : s.boot.held = false) (hp : soundPacket raw = none) :
    (s.taken o (.raw raw) = none → s.waits o (.raw raw) = true → exec (.packetDiscard o raw) s = .next s) ∧
    (s.taken o (.raw raw) = none → s.waits o (.raw raw) = false →
      exec (.packetDiscard o raw) s = .next (s.enqueue o (.raw raw))) ∧
    (∀ e t, s.taken o (.raw raw) = some (e, t) → exec (.packetDiscard o raw) s = .next (t.discard o raw e)) := by
  have hd := deaf_mspi_udp ho hh
  refine ⟨fun ht hw => ?_, fun ht hw => ?_, fun e t ht => congrArg Host.Outcome.next (receive_taken hd hp ht)⟩
  · exact congrArg Host.Outcome.next ((receive_waits hd hp ht).trans (if_pos hw))
  · exact congrArg Host.Outcome.next ((receive_waits hd hp ht).trans (if_neg (by simp [hw])))

/-! A packet for another device (02 R62). -/

theorem serve_taken {s t : State} {op : OpSpec} {o : Origin} {r : Request} {e : Nat} (hd : s.deaf o = false)
    (ht : s.taken o (.packet (r.packet op.opcode)) = some (e, t)) :
    s.serve op o r = t.handle op o (r.packet op.opcode) e := by
  simp only [State.serve, hd, ht]
  rfl

theorem handle_open {t u : State} {o : Origin} {p : Packet} (op : OpSpec) (e : Nat) (h0 : bit p.flags.toNat 0 = false)
    (h6 : bit p.flags.toNat 6 = false) (hu : t.ensureSession o = some u) :
    t.handle op o p e =
      if p.target.toNat / 16 ≠ u.ifl.dev then u.forward o p e else u.sequenced op o p e := by
  simp only [State.handle, h0, h6, hu]
  rfl

theorem execPacketForward_away {s t u : State} {o : Origin} {op : Byte} {r : Request} {e : Nat}
    (hr : r.target.toNat / 16 ≠ s.ifl.dev) (hd : s.deaf o = false)
    (ht : s.taken o (.packet (r.packet op.toNat)) = some (e, t)) (hu : t.ensureSession o = some u)
    (h0 : bit r.flags.toNat 0 = false) (h6 : bit r.flags.toNat 6 = false) :
    exec (.packetForward o op r) s = .next (u.forward o (r.packet op.toNat) e) := by
  have hifl : u.ifl = s.ifl := (ensureSession_keeps hu .ifl (by decide)).trans (taken_keeps ht .ifl (by decide))
  calc exec (.packetForward o op r) s
      = .next (s.serve (unknownOp op.toNat) o r) := congrArg Host.Outcome.next (if_neg hr)
    _ = .next (t.handle (unknownOp op.toNat) o (r.packet op.toNat) e) := by
        rw [serve_taken (op := unknownOp op.toNat) hd ht]
        rfl
    _ = .next (u.forward o (r.packet op.toNat) e) := by
        rw [handle_open (p := r.packet op.toNat) _ e h0 h6 hu, hifl]
        exact congrArg Host.Outcome.next (if_pos hr)

theorem forward_to {s : State} {o : Origin} {p : Packet} {q : Nat} (h : s.route o (p.target.toNat / 16) = .inl q)
    (e : Nat) : s.forward o p e =
      (s.noteAway o p e).linkSend q 0 (s.originOf o).1 (s.originOf o).2 { p with flags := p.flags ||| 0x10 }.bytes := by
  simp only [State.forward, h]

theorem forward_refused {s : State} {o : Origin} {p : Packet} {st : Nat}
    (h : s.route o (p.target.toNat / 16) = .inr st) (e : Nat) : s.forward o p e = s.answer o p e st 0 := by
  simp only [State.forward, h]

/-! MSPI (02 R60, R61). -/

theorem execMspiReadReply_cons {s : State} {p : Packet} {rest : List Packet} (h : s.pk.mspiReply = p :: rest) :
    exec .mspiReadReply s = .next { s with pk.mspiOut := p.bytes, pk.mspiReply := rest } := by
  show execMspiReadReply s = _
  simp only [execMspiReadReply, h]

theorem execMspiReadReply_nil {s : State} (h : s.pk.mspiReply = []) :
    exec .mspiReadReply s = .next { s with pk.mspiOut := [0x00] } := by
  show execMspiReadReply s = _
  simp only [execMspiReadReply, h]

/-- The status byte's three bits. -/
theorem flags_three (a b c : Bool) : let x := BitVec.ofNat 8 (flags [a, b, c])
    bit x.toNat 0 = a ∧ bit x.toNat 1 = b ∧ bit x.toNat 2 = c ∧ x.toNat < 8 := by
  revert a b c
  decide

theorem mspiIrq_iff (s : State) : s.mspiIrq = true ↔ s.pk.mspiReply ≠ [] := by
  simp [State.mspiIrq]

theorem execResponderTakeover_head {s : State} {h : Queued} (hq : s.queueHead 8 = some h) :
    exec .responderTakeover s = .next
      (if s.boot.responder = true ∨ s.time < s.pk.mspiServed + 12500000 ∨ s.time < h.entered + 12500000 then s
        else { s with boot.responder := true }) := by
  show execResponderTakeover s = _
  simp only [execResponderTakeover, hq]
  rfl

theorem execResponderTakeover_none {s : State} (hq : s.queueHead 8 = none) : exec .responderTakeover s = .next s := by
  show execResponderTakeover s = _
  simp only [execResponderTakeover, hq]

/-- Settles O47: reception and its discards by the way the bytes parse, forwarding by its route, and the MSPI rows. -/
theorem arrivingPacketsAreSorted : Obligations.ArrivingPacketsAreSorted := by
  refine ⟨fun s o raw p ho hh hp hk => congrArg Host.Outcome.next (receive_sound (deaf_mspi_udp ho hh) hp hk),
    fun s o raw ho hh hp => ?_, soundPacket_iff, fun s a => ⟨rfl, keeps_pk s _⟩,
    fun s o raw hh => congrArg Host.Outcome.next (receive_deaf (deaf_of_held o hh)), ?_,
    fun s o op r h => congrArg Host.Outcome.next (if_pos h), fun s raw => ⟨fun h => ?_, fun h => ?_⟩,
    fun s => ⟨execMspiReadReply_nil, fun p rest => execMspiReadReply_cons⟩, fun s => ?_, fun s h hq => ⟨?_, ?_⟩,
    fun s => execResponderTakeover_none⟩
  · obtain ⟨hwaits, henqueue, htaken⟩ := execPacketDiscard_bad ho hh hp
    refine ⟨hwaits, henqueue, fun e t ht => ⟨fun hf => ?_, fun p hc => ?_, fun v p hv =>
      ⟨fun hb => ?_, fun h0 h6 => ⟨?_, ?_⟩⟩⟩⟩
    · rw [htaken e t ht, discard_format hf]
    · rw [htaken e t ht, discard_crc hc]
    · rw [htaken e t ht, discard_packet hv, if_pos (by simpa using hb)]
    · rintro rfl
      exact absurd ((soundPacket_iff raw p).mpr ⟨hv, h0, h6⟩) (by simp [hp])
    · rw [htaken e t ht, discard_packet hv, if_neg (by simp [h0, h6])]
  · intro s t u o op r e hr p hd ht hu h0 h6
    rw [execPacketForward_away hr hd ht hu h0 h6]
    exact ⟨fun q hq => congrArg Host.Outcome.next (forward_to hq e),
      fun st hs => congrArg Host.Outcome.next (forward_refused hs e)⟩
  · exact congrArg Host.Outcome.next (if_pos h)
  · exact congrArg Host.Outcome.next (if_neg (by simp [h]))
  · obtain ⟨h0, h1, h2, h8⟩ := flags_three s.mspiIrq s.boot.firmware s.mspiBusy
    exact ⟨_, rfl, by rw [h0, mspiIrq_iff], h1, h2, h8⟩
  · intro hr hs he
    rw [execResponderTakeover_head hq, if_neg (by simp only [hr, Bool.false_eq_true, false_or]; omega)]
  · intro hc
    rw [execResponderTakeover_head hq, if_pos hc]

end Sys2Proof.Machine

namespace Sys2Proof.Machine

/-! What a packet of the link draws on its way to its checks (02 R42). -/

/-- A device behind reset whose firmware serves packets. -/
def firmwareState : State := { State.reset with boot := { State.reset.boot with firmware := true } }

/-- A NOP of class 0 for device 0. -/
def plainRequest : Request :=
  { flags := 0, status := 0, sequence := 0, target := 0, cls := 0, gen := 0, payload := [] }

theorem arrived_link_drawn :
    (firmwareState.arrived 0x00 (.ifl 0 0 0) plainRequest).map (fun x => x.1.drawn) =
      some (firmwareState.drawn + 1) := by
  decide +kernel

/-- Refutes O57: a packet that comes over an Ifeche Link and finds its queue empty draws the free value of its ingress
time at the other device (02 R42), so that up to its checks `drawn` changes beside the packet unit. -/
theorem not_repliesFollowTheChecks : ¬ Obligations.RepliesFollowTheChecks := by
  intro h
  obtain ⟨-, -, -, -, hchecks, -⟩ := h
  obtain ⟨⟨u, e⟩, hu, hdrawn⟩ := Option.map_eq_some_iff.mp arrived_link_drawn
  have hkept : u.drawn = firmwareState.drawn := (hchecks _ _ _ _ u e hu).1 .drawn (by decide)
  exact absurd (hdrawn.symm.trans hkept) (Nat.succ_ne_self _)

/-! A wrap that is reported over a link whose frame sequence wraps with it (02 R520; 18 R443). -/

theorem execCounterWrap_cons {s : State} {w : Wrap} {rest : List Wrap} (h : s.pk.wraps = w :: rest) :
    exec .counterWrap s = .next ({ s with pk.wraps := rest }.event OK 8 w.unit.toNat
      ([w.window] ++ [0, 0, 0] ++ leBytes 8 w.offset ++ leBytes 1 w.width ++ [0, 0, 0]) none (some w.at_)) := by
  show execCounterWrap s = _
  simp only [execCounterWrap, h]

/-- The wrap of GLB_CFG_GEN at time 0. -/
def genWrap : Wrap := { unit := 0, window := 0, offset := 4, width := 32, at_ := 0 }

/-- A device that has the generation's wrap to report to a session behind a link port, whose mask selects class 8,
while the port's next frame takes the sequence 0. -/
def linkWrapState : State :=
  { State.reset with
    pk := { PacketUnit.reset with
      wraps := [genWrap]
      sessions := [{ Session.fresh (.ifl 0 0 0) 0 0 with mask := 0x100 }] }
    ifl := { State.reset.ifl with frameSeq := 0xFFFF } }

/-- Refutes O58: the EVENT of a wrap goes to a session behind an Ifeche Link in a frame whose sequence wraps, which
notes another wrap, so that what is left to report is not the rest. -/
theorem not_generationCountsChanges : ¬ Obligations.GenerationCountsChanges := by
  intro h
  obtain ⟨-, -, -, -, -, hwrap⟩ := h
  obtain ⟨t, ht, hrest, -⟩ := hwrap linkWrapState genWrap [] rfl (by decide +kernel)
  rw [execCounterWrap_cons (s := linkWrapState) (w := genWrap) (rest := []) rfl] at ht
  cases ht
  exact absurd hrest (by decide +kernel)

end Sys2Proof.Machine

namespace Sys2Proof.Machine

/-! Opcodes whose effect stands behind checks of the state (02 R43). -/

/-- An effect goes on behind a check that passes. -/
theorem doneIf_pass {s : State} {ok : Bool} {st d : Nat} {l : List Check} {f : State → Done} (h : ok = true) :
    s.doneIf (need ok st d :: l) f = s.doneIf l f := by
  subst h
  rfl

/-- The first check that fails refuses. -/
theorem doneIf_fail {s : State} {ok : Bool} {st d : Nat} {l : List Check} {f : State → Done} (h : ok = false) :
    s.doneIf (need ok st d :: l) f = s.refuse st d := by
  subst h
  rfl

theorem doneIf_nil (s : State) (f : State → Done) : s.doneIf [] f = f s := rfl

@[simp] theorem payload_packet (r : Request) (n : Nat) : (r.packet n).payload = r.payload := rfl

/-! Sessions (02 R44, R50, R56). -/

/-- Settles O1: each opcode's effect, behind an accepted packet. -/
theorem sessionCommandsComplete : Obligations.SessionCommandsComplete := by
  refine ⟨fun s u o r e h => ?_, fun s u o r e h => ?_, fun s u o r e h hr => ?_, fun s u o r e h hr => ?_,
    fun s u o r e x h hx => ?_, fun s u o r e h => ?_⟩
  · exact congrArg Host.Outcome.next (serve_answered h rfl)
  · exact congrArg Host.Outcome.next (serve_answered h rfl)
  · refine congrArg Host.Outcome.next (serve_answered h ?_)
    simp only [statusOp, hr, State.statusReply]
    rfl
  · refine congrArg Host.Outcome.next (serve_answered h ?_)
    simp only [statusOp, hr, State.statusReply]
    rfl
  · refine congrArg Host.Outcome.next (serve_answered h ?_)
    simp only [sessionOpenOp, hx]
    rfl
  · exact congrArg Host.Outcome.next (serve_answered h rfl)

/-! Staged transfers (02 R48). -/

/-- A transfer of an object that has received nothing. -/
def State.stageFresh (s : State) (p : Packet) (obj : StageObj) : Stage :=
  { obj := obj, data := [], dataMem := [], gen := s.gen, cas := bit p.flags.toNat 1, whole := false, last := s.time }

/-- The transfer that a staging packet for an object goes on with: the open one of the object, else an empty one. -/
def State.stageBase (s : State) (o : Origin) (p : Packet) (obj : StageObj) : Stage :=
  match s.stageOf o with
  | some t => if t.obj = obj ∧ ¬ t.whole then t else s.stageFresh p obj
  | none => s.stageFresh p obj

theorem stageBase_open {s : State} {o : Origin} {obj : StageObj} {t : Stage} (ht : s.stageOf o = some t)
    (hobj : t.obj = obj) (hw : t.whole = false) (p : Packet) : s.stageBase o p obj = t := by
  simp only [State.stageBase, ht, hobj, hw]
  rfl

theorem stageBase_fresh {s : State} {o : Origin} {obj : StageObj}
    (h : ∀ t, s.stageOf o = some t → t.whole = true ∨ t.obj ≠ obj) (p : Packet) :
    s.stageBase o p obj = s.stageFresh p obj := by
  unfold State.stageBase
  split
  · next x hx => exact if_neg fun hc => (h x hx).elim hc.2 (absurd hc.1)
  · rfl

theorem stageAdd_eq (s : State) (o : Origin) (p : Packet) (obj : StageObj) (off : Nat) (data : List Byte) :
    s.stageAdd o p obj false (some off) data =
      let t := s.stageBase o p obj
      if off ≠ t.data.length ∨ stageMax < t.data.length + t.dataMem.length + data.length then
        (s.setStage o none).refuse STAGE_ABORT
      else
        { st := s.setStage o (some
            { t with data := t.data ++ data, whole := !bit p.flags.toNat 5, last := s.time }) } := rfl

/-- A staging packet appends to its transfer where that has arrived, within 16 MB. -/
theorem stageAdd_append {s : State} {o : Origin} {p : Packet} {obj : StageObj} {t : Stage}
    (ht : s.stageBase o p obj = t) {off : Nat} {data : List Byte} (hoff : off = t.data.length)
    (hmax : t.data.length + t.dataMem.length + data.length ≤ stageMax) :
    s.stageAdd o p obj false (some off) data =
      { st := s.setStage o (some
          { t with data := t.data ++ data, whole := !bit p.flags.toNat 5, last := s.time }) } := by
  subst ht
  rw [stageAdd_eq]
  exact if_neg (not_or.mpr ⟨not_not_intro hoff, not_lt.mpr hmax⟩)

/-- At any other offset, or past 16 MB, it ends the transfer. -/
theorem stageAdd_abort {s : State} {o : Origin} {p : Packet} {obj : StageObj} {t : Stage}
    (ht : s.stageBase o p obj = t) {off : Nat} {data : List Byte}
    (h : off = t.data.length → stageMax < t.data.length + t.dataMem.length + data.length) :
    s.stageAdd o p obj false (some off) data = (s.setStage o none).refuse STAGE_ABORT := by
  subst ht
  rw [stageAdd_eq]
  exact if_pos (Decidable.not_or_of_imp h)

theorem stageTake_whole {s : State} {o : Origin} {t : Stage} (ht : s.stageOf o = some t) (hw : t.whole = true)
    (hc : t.cas = true → t.gen = s.gen) : s.stageTake o t.obj = (s.setStage o none, some t, none) := by
  unfold State.stageTake
  simp only [ht, hw, ne_eq, not_true_eq_false, or_self, if_false]
  exact if_neg fun h => h.2 (hc h.1)

theorem execStageTimeout_idle {s : State} {o : Origin} {x : Session} {t : Stage} (hx : s.session o = some x)
    (ht : x.stage = some t) (hi : t.last + 1250000000 ≤ s.time) :
    exec (.stageTimeout o) s = .next (s.setStage o none) := by
  show execStageTimeout o s = _
  simp only [execStageTimeout, hx, ht]
  exact congrArg Host.Outcome.next (if_pos hi)

/-! Tables (02 R521; 03 R79). -/

/-- A table of the right format that keeps the rules of every program naming it, passes admission where one does, and
finds room, goes into the store. -/
theorem commitTable_passes {s : State} {kind id off : Nat} {data : List Byte} (hok : okTable kind data = true)
    (hrun : s.findRun (16 * ceilDiv data.length 16) = some off) {v : State}
    (hv : s.putTable
      { kind := BitVec.ofNat 8 kind, id := BitVec.ofNat 16 id, data := data, gen := s.gen + 1, offset := off } = v)
    (hrules : ∀ p ∈ s.present, names p.2.image kind id = true →
      v.tablesExist p.2.image = true ∧ v.crossRules p.2.image = true)
    (hadm : (s.present.any fun p => names p.2.image kind id) = true → v.admissionNow = none) :
    s.commitTable kind id data =
      { st := (if (s.present.any fun p => names p.2.image kind id) = true then v.postShares else v).syncProfiles } := by
  have husers : ((s.present.filter fun p => names p.2.image kind id).all fun p =>
      v.tablesExist p.2.image && v.crossRules p.2.image) = true := by
    rw [List.all_eq_true]
    intro p hp
    obtain ⟨hmem, hn⟩ := List.mem_filter.mp hp
    obtain ⟨he, hc⟩ := hrules p hmem hn
    rw [he, hc]
    rfl
  have hempty : (s.present.filter fun p => names p.2.image kind id).isEmpty =
      !(s.present.any fun p => names p.2.image kind id) := by
    rw [Bool.eq_iff_iff]
    simp
  unfold State.commitTable
  rw [hrun, Option.getD_some]
  extract_lets t s' users
  rw [show s' = v from hv, if_neg (not_not_intro hok), if_neg (not_not_intro husers), hempty]
  cases hn : s.present.any fun p => names p.2.image kind id with
  | false => simp only [Bool.not_false, if_true, Option.isNone_some, Bool.false_eq_true, if_false]
  | true => simp only [Bool.not_true, if_true, Option.isNone_some, Bool.false_eq_true, if_false, hadm hn]

/-- Settles O2: staging and commit by their lemmas, TABLE_DELETE behind its three checks. -/
theorem stagingAndTableCommandsComplete : Obligations.StagingAndTableCommandsComplete := by
  refine ⟨fun s u o r e h hf => ?_, fun s u o r e t h ht hobj hw => ?_, ?_, fun s u o r e h he hn hs => ?_,
    fun s u o r e h => congrArg Host.Outcome.next (serve_answered h rfl),
    fun s o x t hx ht hi => execStageTimeout_idle hx ht hi⟩
  · obtain ⟨hlen, -⟩ := accepted_checked h
    have hlen : 8 ≤ r.payload.length ∧ r.payload.length ≤ 4080 := by simpa [tableLoadOp, between] using hlen
    have hbase := stageBase_fresh hf (r.packet 0x10)
    refine congrArg Host.Outcome.next ?_
    split
    · next hoff =>
      refine serve_answered h (stageAdd_append hbase hoff ?_)
      simp only [State.stageFresh, List.length_nil, List.length_drop, payload_packet, stageMax]
      omega
    · next hoff => exact serve_answeredRefusal h (stageAdd_abort hbase fun hc => absurd hc hoff)
  · have hbase := stageBase_open ht hobj hw (r.packet 0x10)
    refine congrArg Host.Outcome.next ?_
    split
    · next hc =>
      refine serve_answered h (stageAdd_append hbase hc.1 ?_)
      simp only [List.length_drop, payload_packet, stageMax]
      omega
    · next hc =>
      exact serve_answeredRefusal h (stageAdd_abort hbase fun hoff => by
        have hmax := not_and.mp hc hoff
        simp only [List.length_drop, payload_packet, stageMax]
        omega)
  · intro s u o r e t off h ht hobj hw hcas hlen hcrc hok hrun v named hrules hadm
    have htake := stageTake_whole ht hw hcas
    rw [hobj] at htake
    refine congrArg Host.Outcome.next (serve_answered h (Eq.trans ?_ (commitTable_passes hok hrun rfl hrules hadm)))
    simp only [tableCommitOp]
    rw [show (r.packet 0x11).payload = r.payload from rfl, htake]
    exact if_neg (by simp [hlen, hcrc])
  · refine congrArg Host.Outcome.next (serve_answered h ?_)
    simp only [tableDeleteOp, payload_packet]
    rw [doneIf_pass he, doneIf_pass, doneIf_pass, doneIf_nil]
    · exact (Bool.not_eq_true' _).mpr hs
    · rw [Bool.not_eq_true', List.any_eq_false]
      exact fun p hp => by simp [hn p hp]

end Sys2Proof.Machine

namespace Sys2Proof.Machine

/-! Memory windows and snapshots (02 R52 to R55). -/

theorem memRead_act (u : State) (o : Origin) (r : Request) :
    memReadOp.act u o (r.packet 0xC3) =
      u.doneIf [need (!u.freeHandle (field r.payload 0 1)) NOT_FOUND,
          need (field r.payload 0 1 != 2 || !u.poisoned (field r.payload 4 8) (field r.payload 12 4)) INTERNAL] fun s =>
        let x := (s.touchSnapshot (field r.payload 0 1)).readWindow (field r.payload 0 1) (field r.payload 4 8)
          (field r.payload 12 4)
        { st := x.2, payload := r.payload.take 12 ++ x.1 } := rfl

theorem memWrite_act_window {u : State} {r : Request} (hw : field r.payload 0 1 ≠ 0) (o : Origin) :
    memWriteOp.act u o (r.packet 0xC4) =
      u.doneIf [need (!u.engineBusy (field r.payload 0 1) (field r.payload 4 8) (r.payload.length - 12)) STATE] fun s =>
        { st := s.writeWindow (field r.payload 0 1) (field r.payload 4 8) (r.payload.drop 12) } := by
  simp only [memWriteOp, payload_packet]
  exact if_neg hw

theorem memWrite_act_registers {u : State} {r : Request} (hw : field r.payload 0 1 = 0)
    (hb : u.badWrite (regWrites (field r.payload 4 8) (payloadWords r.payload 12)) (fun _ => true) = none) (o : Origin) :
    memWriteOp.act u o (r.packet 0xC4) =
      { st := u.writeRegs (regWrites (field r.payload 4 8) (payloadWords r.payload 12)) } := by
  simp only [memWriteOp, payload_packet, if_pos hw, State.performWrites, hb]

theorem snapshot_act_full {u : State} (h : ∀ x ∈ u.pk.snapshots, x.isSome = true) (o : Origin) (p : Packet) :
    snapshotOp.act u o p = u.refuse BUSY := by
  have hnone : u.pk.snapshots.findIdx? Option.isNone = none := by
    rw [List.findIdx?_eq_none_iff]
    exact fun x hx => by simp [h x hx]
  simp only [snapshotOp, hnone]

/-- The image that a SNAPSHOT captures into its handle (02 R54, R55). -/
def State.snapTaken (s : State) (o : Origin) (r : Request) : Snapshot :=
  { image := s.snapImage (snapObjects r.payload), done := false, owner := o, sequence := r.sequence, last := s.time }

theorem snapshot_act_free {u : State} {h : Nat} (hh : u.pk.snapshots.findIdx? Option.isNone = some h) (o : Origin)
    (r : Request) :
    snapshotOp.act u o (r.packet 0xC5) =
      u.doneIf [need ((snapObjects r.payload).all fun x => !u.freeHandle x.1) NOT_FOUND,
          need ((snapObjects r.payload).all fun x => x.1 != 2 || !u.poisoned x.2.1 x.2.2) INTERNAL,
          need (decide (u.snapUsed + imageLength (snapObjects r.payload) ≤ 2 ^ 20 * u.fld MEM_SNAP_SIZE 15 0)) BUSY]
        fun s =>
          { st := { s with pk.snapshots := s.pk.snapshots.set h (some (s.snapTaken o r)) }, status := ACCEPTED
            payload := leBytes 1 h ++ [0, 0, 0] ++ leBytes 4 s.gen.toNat ++ leBytes 8 (s.snapTaken o r).image.length } := by
  simp only [snapshotOp, hh, payload_packet]
  rfl

theorem snapshotRelease_act (u : State) (o : Origin) (r : Request) :
    snapshotReleaseOp.act u o (r.packet 0xC6) =
      u.doneIf [need (nth u.pk.snapshots (field r.payload 0 1) none).isSome NOT_FOUND] fun s =>
        { st := { s with pk.snapshots := s.pk.snapshots.set (field r.payload 0 1) none } } := rfl

/-! What replies, EVENTs and re-admission leave of the host's side: the rings, the sessions, what waits, the
snapshots, the PCIe link and the registers of the data rings (02 R55 to R58; 10 R269). -/

/-- The host's side is the same in two states. -/
structure State.keepsHost (s t : State) : Prop where
  rings : t.pk.rings = s.pk.rings
  ingress : t.pk.ingress = s.pk.ingress
  sessions : t.pk.sessions = s.pk.sessions
  snapshots : t.pk.snapshots = s.pk.snapshots
  dataRings : t.out.rings = s.out.rings
  pcieUp : t.out.pcieUp = s.out.pcieUp
  pcieWidth : t.out.pcieWidth = s.out.pcieWidth
  pcieSpeed : t.out.pcieSpeed = s.out.pcieSpeed
  ringRegs : ∀ a, 0x80200 ≤ a → a < 0x80400 → t.reg a = s.reg a

namespace State.keepsHost

theorem refl (s : State) : s.keepsHost s := ⟨rfl, rfl, rfl, rfl, rfl, rfl, rfl, rfl, fun _ _ _ => rfl⟩

theorem trans {s t u : State} (h : s.keepsHost t) (g : t.keepsHost u) : s.keepsHost u :=
  ⟨g.rings.trans h.rings, g.ingress.trans h.ingress, g.sessions.trans h.sessions, g.snapshots.trans h.snapshots,
    g.dataRings.trans h.dataRings, g.pcieUp.trans h.pcieUp, g.pcieWidth.trans h.pcieWidth,
    g.pcieSpeed.trans h.pcieSpeed, fun a hl hh => (g.ringRegs a hl hh).trans (h.ringRegs a hl hh)⟩

theorem ite {s t u : State} {c : Prop} [Decidable c] (ht : s.keepsHost t) (hu : s.keepsHost u) :
    s.keepsHost (if c then t else u) := by
  split
  · exact ht
  · exact hu

theorem foldl {α : Type} {f : State → α → State} :
    ∀ (l : List α) (s : State), (∀ (t : State), ∀ x ∈ l, t.keepsHost (f t x)) → s.keepsHost (l.foldl f s)
  | [], s, _ => refl s
  | x :: l, s, hf =>
    (hf s x (List.mem_cons_self ..)).trans (foldl l (f s x) fun t y hy => hf t y (List.mem_cons_of_mem x hy))

/-- A change of other parts leaves it. -/
theorem of_keeps {s t : State} {l : List Part} (h : s.keeps t l)
    (hl : Part.pk ∉ l ∧ Part.out ∉ l ∧ Part.regs ∉ l) : s.keepsHost t := by
  have hp : t.pk = s.pk := h .pk hl.1
  have ho : t.out = s.out := h .out hl.2.1
  exact ⟨by rw [hp], by rw [hp], by rw [hp], by rw [hp], by rw [ho], by rw [ho], by rw [ho], by rw [ho],
    fun a _ _ => reg_congr (h .regs hl.2.2) a⟩

/-- A change that keeps the two units' fields, and no register. -/
theorem of_fields {s t : State}
    (hp : t.pk = { s.pk with
      mspiReply := t.pk.mspiReply
      events := t.pk.events
      wraps := t.pk.wraps })
    (ho : t.out = { s.out with
      packets := t.out.packets
      streams := t.out.streams
      servers := t.out.servers
      frags := t.out.frags })
    (hr : t.regs = s.regs) : s.keepsHost t :=
  ⟨by rw [hp], by rw [hp], by rw [hp], by rw [hp], by rw [ho], by rw [ho], by rw [ho], by rw [ho],
    fun a _ _ => reg_congr hr a⟩

end State.keepsHost

theorem setReg_keepsHost (s : State) {a : Nat} (v : Word) (h : a < 0x80200 ∨ 0x80400 ≤ a) :
    s.keepsHost (s.setReg a v) :=
  ⟨rfl, rfl, rfl, rfl, rfl, rfl, rfl, rfl, fun _ hl hh => reg_setReg_other s v (by omega)⟩

theorem setRegN_keepsHost (s : State) {a : Nat} (v : Nat) (h : a < 0x80200 ∨ 0x80400 ≤ a) :
    s.keepsHost (s.setRegN a v) := setReg_keepsHost s _ h

theorem latch_keepsHost (s : State) {a : Nat} (m : Nat) (h : a < 0x80200 ∨ 0x80400 ≤ a) :
    s.keepsHost (s.latch a m) :=
  setReg_keepsHost s _ h

theorem noteWrap_keepsHost (s : State) (u w o n : Nat) : s.keepsHost (s.noteWrap u w o n) := .of_fields rfl rfl rfl

theorem bumpBy_keepsHost (s : State) {a : Nat} (n : Nat) (h : a < 0x80200 ∨ 0x80400 ≤ a) :
    s.keepsHost (s.bumpBy a n) :=
  .ite (setRegN_keepsHost s _ h) ((setRegN_keepsHost s _ h).trans (noteWrap_keepsHost _ _ _ _ _))

theorem linkSend_keepsHost (s : State) (q k d : Nat) (x : Byte) (l : List Byte) : s.keepsHost (s.linkSend q k d x l) :=
  .trans (.ite (noteWrap_keepsHost s _ _ _ _) (.refl s)) (.of_fields rfl rfl rfl)

theorem sendTo_keepsHost (s : State) (o : Origin) (d : Nat) (p : Packet) : s.keepsHost (s.sendTo o d p) := by
  cases o
  case ifl => exact linkSend_keepsHost s _ _ _ _ _
  all_goals exact .of_fields rfl rfl rfl

theorem draw_keepsHost (s : State) (n : Nat) : s.keepsHost (s.draw n).2 := .of_fields rfl rfl rfl

/-- What an EVENT does to its log and to the register of its sequence. -/
theorem logged_keepsHost (s : State) (l : List EventRec) (seq : Word) :
    s.keepsHost (({ s with pk.events := l } : State).setReg GLB_EVT_SEQ seq) :=
  .trans (t := { s with pk.events := l }) (.of_fields rfl rfl rfl) (setReg_keepsHost _ seq (by decide))

theorem event_keepsHost (s : State) (code cls unit : Nat) (l : List Byte) (w : Option (Origin × Half)) (d : Option Nat) :
    s.keepsHost (s.event code cls unit l w d) := by
  unfold State.event
  extract_lets chosen u old seq pl p dests pk u1 u2 u3
  have hu : s.keepsHost u := .ite (.refl s) (draw_keepsHost s 8)
  have hu2 : s.keepsHost u2 := hu.trans (logged_keepsHost u _ _)
  have hu3 : s.keepsHost u3 := .ite (hu2.trans (noteWrap_keepsHost _ _ _ _ _)) hu2
  exact hu3.trans (.foldl _ _ fun t o _ => sendTo_keepsHost t o _ _)

theorem complete_keepsHost (s : State) (w : Origin × Half) (code unit : Nat) (l : List Byte) :
    s.keepsHost (s.complete w code unit l) := event_keepsHost s _ _ _ _ _ _

/-! The completing EVENT of a packet (02 R41, R55). -/

/-- An EVENT that completes a packet takes the packet's sequence, and draws none. -/
theorem complete_keeps_undrawn (s : State) (w : Origin × Half) (code unit : Nat) (l : List Byte) :
    s.keeps (s.complete w code unit l) [.pk, .regs, .out, .ifl] := by
  unfold State.complete State.event
  extract_lets chosen u old seq pl p dests pk u1 u2 u3
  have hu2 : s.keeps u2 [.pk, .regs, .out, .ifl] := .after (setReg_keeps _ _ _) rfl (.first (keeps_pk s _) rfl)
  have hu3 : s.keeps u3 [.pk, .regs, .out, .ifl] := .ite (.after (noteWrap_keeps _ _ _ _ _) rfl hu2) hu2
  exact hu3.trans (.foldl (fun t o => .first (sendTo_keeps t o _ _) rfl) _ _)

theorem execSnapshotDone_due {s : State} {h : Fin 4} {y : Snapshot} (hy : nth s.pk.snapshots h.val none = some y)
    (hd : y.done = false) (hp : s.dramPaused = false) :
    exec (.snapshotDone h) s = .next
      (({ s with pk.snapshots := s.pk.snapshots.set h.val (some { y with done := true, last := s.time }) } : State).complete
        (y.owner, y.sequence) OK 0) := by
  show execSnapshotDone h s = _
  simp only [execSnapshotDone, hy, hd, hp]
  rfl

theorem execSnapshotDone_not {s : State} {h : Fin 4}
    (hy : ∀ y, nth s.pk.snapshots h.val none = some y → (y.done || s.dramPaused) = true) :
    exec (.snapshotDone h) s = .next s := by
  show execSnapshotDone h s = _
  unfold execSnapshotDone
  split
  · next y h' => rw [if_pos (hy y h')]
  · rfl

theorem execSnapshotExpiry_held {s : State} {h : Fin 4} {y : Snapshot} (hy : nth s.pk.snapshots h.val none = some y) :
    exec (.snapshotExpiry h) s = .next
      (if y.done = true ∧ y.last + 75000000000 ≤ s.time then { s with pk.snapshots := s.pk.snapshots.set h.val none } else s) := by
  show execSnapshotExpiry h s = _
  simp only [execSnapshotExpiry, hy]
  rfl

theorem execSnapshotExpiry_free {s : State} {h : Fin 4} (hy : nth s.pk.snapshots h.val none = none) :
    exec (.snapshotExpiry h) s = .next s := by
  show execSnapshotExpiry h s = _
  simp only [execSnapshotExpiry, hy]

/-- Settles O45: each opcode's effect behind its checks, and the three rows of a handle. -/
theorem memoryWindowsAndSnapshotsComplete : Obligations.MemoryWindowsAndSnapshotsComplete := by
  refine ⟨fun s u o r x h => ⟨fun hf => ?_, fun hf hw hp => ?_, fun hf hp => ?_⟩,
    fun s u o r x h => ⟨fun hw hb => ?_, fun hw hb => ?_, fun hw hb => ?_⟩, fun s u o r x h hs => ?_,
    fun s u o r x k h hk => ?_, fun s u o r x h => ⟨fun hh => ?_, fun hh => ?_⟩, fun s h y hy hd => ⟨fun hp => ?_, fun hp => ?_⟩,
    fun s h hy => execSnapshotDone_not fun y hs => by rw [hy y hs]; rfl, fun s h y hy => ⟨fun hd hl => ?_, fun hd => ?_⟩,
    fun s h hy => execSnapshotExpiry_free hy⟩
  · exact congrArg Host.Outcome.next (serve_answeredRefusal h
      ((memRead_act u o r).trans (doneIf_fail (by rw [hf]; rfl))))
  · exact congrArg Host.Outcome.next (serve_answeredRefusal h
      ((memRead_act u o r).trans ((doneIf_pass (by rw [hf]; rfl)).trans (doneIf_fail (by rw [hw, hp]; rfl)))))
  · refine congrArg Host.Outcome.next (serve_answered h
      ((memRead_act u o r).trans ((doneIf_pass (by rw [hf]; rfl)).trans ((doneIf_pass ?_).trans (doneIf_nil u _)))))
    simpa using hp
  · exact congrArg Host.Outcome.next (serve_answered h
      ((memWrite_act_window hw o).trans ((doneIf_pass (by rw [hb]; rfl)).trans (doneIf_nil u _))))
  · exact congrArg Host.Outcome.next (serve_answeredRefusal h
      ((memWrite_act_window hw o).trans (doneIf_fail (by rw [hb]; rfl))))
  · exact congrArg Host.Outcome.next (serve_answered h (memWrite_act_registers hw hb o))
  · exact congrArg Host.Outcome.next (serve_answeredRefusal h (snapshot_act_full hs o _))
  · intro os hfree
    have hact := snapshot_act_free hk o r
    rw [doneIf_pass (by simpa [os] using hfree)] at hact
    refine ⟨fun ⟨y, hy, hw, hp⟩ => ?_, fun hp hu => ?_⟩
    · refine congrArg Host.Outcome.next (serve_answeredRefusal h (hact.trans (doneIf_fail ?_)))
      rw [List.all_eq_false]
      exact ⟨y, hy, by simp [hw, hp]⟩
    · rw [doneIf_pass, doneIf_pass (decide_eq_true hu), doneIf_nil] at hact
      · exact congrArg Host.Outcome.next (serve_answeredAccepted h hact)
      rw [List.all_eq_true]
      intro y hy
      by_cases hw : y.1 = 2
      · simp [hp y hy hw]
      · simp [hw]
  · exact congrArg Host.Outcome.next (serve_answered h
      ((snapshotRelease_act u o r).trans ((doneIf_pass hh).trans (doneIf_nil u _))))
  · exact congrArg Host.Outcome.next (serve_answeredRefusal h ((snapshotRelease_act u o r).trans (doneIf_fail hh)))
  · exact execSnapshotDone_not fun z _ => by rw [hp, Bool.or_true]
  · rw [execSnapshotDone_due hy hd hp]
    generalize hv : ({ s with pk.snapshots := _ } : State) = v
    have hsv : s.keeps v [.pk] := hv ▸ keeps_pk s _
    have hregs : v.regs = s.regs := hsv .regs (by decide)
    refine ⟨_, rfl, ?_, ?_, ?_⟩
    · rw [(complete_keepsHost v _ _ _ _).snapshots, ← hv]
    · exact (keepsRegs_of_regs hregs _).trans (complete_keepsRegs v _ _ _ _)
    · exact .after (complete_keeps_undrawn v _ _ _ _) rfl (.first hsv rfl)
  · rw [execSnapshotExpiry_held hy, if_pos ⟨hd, hl⟩]
  · rw [execSnapshotExpiry_held hy, if_neg]
    rintro ⟨hdone, hl⟩
    rcases hd with hd | hd
    · exact absurd (hd.symm.trans hdone) (by decide)
    · omega

end Sys2Proof.Machine

namespace Sys2Proof.Machine

/-! What suspension, re-admission and the loss of a route leave of the host's side (03 R522; 10 R275; 11 R292). -/

theorem endCause_keepsHost (s : State) (key : Word) : s.keepsHost (s.endCause key) :=
  .trans (t := { s with rep.incidents := _ }) (.of_keeps (keeps_rep s _) (by decide))
    (.foldl _ _ fun t _ _ => event_keepsHost t _ _ _ _ _ _)

theorem setProg_keepsHost (s : State) (p : Nat) (f : Prog → Prog) : s.keepsHost (s.setProg p f) :=
  .of_keeps (setProg_keeps s p f) (by decide)

theorem suspend_keepsHost (s : State) (p cause : Nat) (out : Bool) : s.keepsHost (s.suspend p cause out) := by
  unfold State.suspend
  split
  · exact .refl s
  · exact .ite (setProg_keepsHost s _ _)
      ((((State.keepsHost.of_keeps (endGroups_keeps s p) (by decide)).trans (setProg_keepsHost _ _ _)).trans
        (latch_keepsHost _ _ (by decide))).trans (event_keepsHost _ _ _ _ _ _ _))

theorem suspendAll_keepsHost (s : State) (cond : Prog → Bool) (cause : Nat) (out : Bool) :
    s.keepsHost (s.suspendAll cond cause out) := .foldl _ _ fun t _ _ => suspend_keepsHost t _ _ _

theorem postShares_keepsHost (s : State) : s.keepsHost s.postShares := by
  refine .trans (.trans (.foldl _ s fun t c _ => setRegN_keepsHost t _ ?_) (setRegN_keepsHost _ _ (by decide)))
    (.foldl _ _ fun t e he => setRegN_keepsHost t _ ?_)
  · exact .inr (by simp only [ADM_SHARE]; omega)
  · have := List.mem_range.mp he
    exact .inl (by simp only [HEN_WCET]; omega)

theorem readmit_keepsHost (s : State) : s.keepsHost s.readmit := by
  unfold State.readmit
  extract_lets order keep t
  have ht : s.keepsHost t := .ite (.refl s) (latch_keepsHost s _ (by decide))
  exact (ht.trans (.foldl _ _ fun u _ _ => suspend_keepsHost u _ _ _)).trans (postShares_keepsHost _)

theorem loseRecs_keepsHost (s : State) (pid n : Nat) : s.keepsHost (s.loseRecs pid n) := by
  refine .ite (.refl s) (.trans (.trans (t := s.setStream pid _) (.of_fields rfl rfl rfl) (bumpBy_keepsHost _ _ ?_))
    (latch_keepsHost _ _ (by decide)))
  exact .inr (by simp only [OUT_STREAM_LOST]; omega)

theorem settleFrees_keepsHost (s : State) (gone : List Rec) : s.keepsHost (s.settleFrees gone) := by
  refine .foldl _ s fun t x _ => ?_
  split
  · exact .refl t
  · next h =>
    have hu : x.1 < 16 := by
      by_contra hn
      exact h (by simp [Nat.le_of_not_lt hn])
    exact setRegN_keepsHost t _ (.inl (by simp only [WFD_CAP_AREA_FREE, WFD_CAP]; omega))

theorem dropStaged_keepsHost (s : State) (pid : Nat) : s.keepsHost (s.dropStaged pid) :=
  .trans (.trans (t := s.setStream pid _) (.of_fields rfl rfl rfl) (loseRecs_keepsHost _ _ _)) (settleFrees_keepsHost _ _)

theorem routeDown_keepsHost (s : State) (v : Nat) : s.keepsHost (s.routeDown v) := by
  unfold State.routeDown
  extract_lets mine t out u w
  have ht : s.keepsHost t := .of_fields rfl rfl rfl
  have hu : s.keepsHost u := by
    unfold u
    split
    · refine .trans (.trans ?_ (loseRecs_keepsHost _ _ _)) (settleFrees_keepsHost _ _)
      exact ht.trans (.of_fields rfl rfl rfl)
    · exact ht.trans (.of_fields rfl rfl rfl)
    · exact ht
  exact (hu.trans (suspendAll_keepsHost _ _ _ _)).trans
    (.foldl _ _ fun x _ _ => .ite (dropStaged_keepsHost x _) (.refl x))

/-! Command rings (02 R58). -/

theorem getElem?_upd_self {α : Type} (l : List α) (i : Nat) (f : α → α) : (upd l i f)[i]? = l[i]?.map f := by
  simp [upd]

theorem setRegN_toNat (s : State) (a : Nat) (v : Word) : s.setRegN a v.toNat = s.setReg a v := by
  rw [State.setRegN, BitVec.ofNat_toNat, BitVec.setWidth_eq]

theorem cmdTail_beyond {s : State} {n : Fin 4} {tail : Nat} (h : 2 ^ s.fld (OUT_CMDQ_SIZE n) 3 0 ≤ tail)
    (ps : List (List Byte)) : s.cmdTail n tail ps = s := by
  unfold State.cmdTail
  extract_lets size
  split
  · rfl
  · exact if_pos h

section
variable {s : State} {n : Fin 4} {tail : Nat} {y : RingPair} (hy : s.pk.rings[n.val]? = some y)
  (ht : tail < 2 ^ s.fld (OUT_CMDQ_SIZE n) 3 0)
include hy ht

theorem cmdTail_enabled (he : y.enabled = true) (ps : List (List Byte)) :
    s.cmdTail n tail ps =
      (ps.take (posted (2 ^ s.fld (OUT_CMDQ_SIZE n) 3 0) (s.regN (OUT_CMDQ_TAIL n)) tail)).foldl
        (fun t d => t.receive (.ring n) d) (s.setRegN (OUT_CMDQ_TAIL n) tail) := by
  simp only [State.cmdTail, hy, if_neg (Nat.not_le.mpr ht), he, not_true_eq_false, false_and, if_false, if_true]

theorem cmdTail_bare (he : y.enabled = false) (hb : y.cmdBase = false ∨ y.rplBase = false) (ps : List (List Byte)) :
    s.cmdTail n tail ps = s.setRegN (OUT_CMDQ_TAIL n) tail := by
  have hc : ¬ y.enabled = true ∧ ¬ (y.cmdBase = true ∧ y.rplBase = true) := by
    rcases hb with hb | hb <;> simp [he, hb]
  simp only [State.cmdTail, hy, if_neg (Nat.not_le.mpr ht), if_pos hc]

theorem cmdTail_enables (he : y.enabled = false) (hc : y.cmdBase = true) (hr : y.rplBase = true) :
    s.cmdTail n tail [] = (s.enableRing n).setRegN (OUT_CMDQ_TAIL n) tail := by
  simp only [State.cmdTail, hy, if_neg (Nat.not_le.mpr ht), he, hc, hr, and_self, not_true_eq_false, and_false, if_false,
    Bool.false_eq_true, List.take_nil, List.foldl_nil]
end

theorem session_openSession_isSome (s : State) (n : Fin 4) : ((s.openSession (.ring n)).session (.ring n)).isSome = true := by
  rw [State.session, List.find?_isSome]
  exact ⟨_, List.mem_append_right _ (List.mem_singleton_self _), decide_eq_true rfl⟩

/-- An enabled ring is a session, and starts from head 0 with the buffers that it has. -/
theorem enableRing_spec {s : State} {n : Fin 4} {y : RingPair} (hy : s.pk.rings[n.val]? = some y) :
    ((s.enableRing n).session (.ring n)).isSome = true ∧
      (∃ z, (s.enableRing n).pk.rings[n.val]? = some z ∧ z.enabled = true ∧ z.cmdHead = 0 ∧ z.rplHead = 0 ∧
        z.replyBufs = y.replyBufs) ∧ s.keeps (s.enableRing n) [.pk] := by
  unfold State.enableRing
  extract_lets u
  have hu : (u.session (.ring n)).isSome = true ∧ u.pk.rings = s.pk.rings ∧ s.keeps u [.pk] := by
    unfold u
    split
    · next h => exact ⟨h, rfl, .refl s _⟩
    · exact ⟨session_openSession_isSome s n, rfl, openSession_keeps s _⟩
  obtain ⟨hsess, hrings, hkeeps⟩ := hu
  refine ⟨hsess, ⟨{ y with
    enabled := true
    cmdHead := 0
    rplHead := 0
    dry := if y.replyBufs.isEmpty then some u.time else none }, ?_, rfl, rfl, rfl, rfl⟩, hkeeps.trans (keeps_pk u _)⟩
  show (upd u.pk.rings n.val _)[n.val]? = _
  rw [getElem?_upd_self, hrings, hy]
  rfl

theorem getElem?_set_of_some {α : Type} {l : List α} {i : Nat} {x : α} (h : l[i]? = some x) (y : α) :
    (l.set i y)[i]? = some y := List.getElem?_set_self (List.getElem?_eq_some_iff.mp h).1

theorem endDry_keeps (s : State) (n : Fin 4) (since : Nat) : s.keeps (s.endDry n since) [.pk, .out] := by
  intro p hp; cases p <;> simp at hp <;> rfl

theorem replyTail_beyond {s : State} {n : Fin 4} {tail : Nat} (h : 2 ^ s.fld (OUT_CMDQ_SIZE n) 11 8 ≤ tail)
    (lens : List Nat) : s.replyTail n tail lens = s := by
  unfold State.replyTail
  extract_lets size
  split
  · rfl
  · exact if_pos h

/-- What a reply tail stores, once the bounds that did not run are moved on. -/
theorem replyTail_within {s : State} {n : Fin 4} {tail : Word} {y : RingPair} (hy : s.pk.rings[n.val]? = some y)
    (ht : tail.toNat < 2 ^ s.fld (OUT_CMDQ_SIZE n) 11 8) (lens : List Nat) :
    ∃ (u : State) (z : RingPair),
      s.replyTail n tail.toNat lens =
        ({ u with pk.rings := u.pk.rings.set n.val z } : State).setReg (OUT_RPLQ_TAIL n) tail ∧
      z.replyBufs = y.replyBufs ++
        lens.take (posted (2 ^ s.fld (OUT_CMDQ_SIZE n) 11 8) (s.regN (OUT_RPLQ_TAIL n)) tail.toNat) ∧
      z.enabled = y.enabled ∧ u.pk.rings = s.pk.rings ∧ s.keeps u [.pk, .out] := by
  simp only [State.replyTail, hy, if_neg (Nat.not_le.mpr ht), setRegN_toNat]
  refine ⟨_, _, rfl, rfl, rfl, ?_⟩
  split
  · split
    · exact ⟨rfl, .refl s _⟩
    · exact ⟨rfl, endDry_keeps s n _⟩
  · exact ⟨rfl, .refl s _⟩

/-- A reply tail posts its new buffers behind those there. -/
theorem execOutRplqTail_posts {s : State} {n : Fin 4} {tail : Word} {y : RingPair} (hy : s.pk.rings[n.val]? = some y)
    (ht : tail.toNat < 2 ^ s.fld (OUT_CMDQ_SIZE n) 11 8) (lens : List Nat) :
    ∃ t, exec (.outRplqTail n tail lens) s = .next t ∧ t.reg (OUT_RPLQ_TAIL n) = tail ∧
      (∃ z, t.pk.rings[n.val]? = some z ∧
        z.replyBufs = y.replyBufs ++
          lens.take (posted (2 ^ s.fld (OUT_CMDQ_SIZE n) 11 8) (s.regN (OUT_RPLQ_TAIL n)) tail.toNat) ∧
        z.enabled = y.enabled) ∧ s.keepsRegs t [OUT_RPLQ_TAIL n] ∧ s.keeps t [.pk, .regs, .out] := by
  obtain ⟨u, z, heq, hbufs, hen, hrings, hkeeps⟩ := replyTail_within hy ht lens
  refine ⟨_, congrArg Host.Outcome.next heq, reg_setReg_self _ _ _, ⟨z, ?_, hbufs, hen⟩, ?_, ?_⟩
  · exact getElem?_set_of_some (hrings ▸ hy) z
  · exact .trans (t := { u with pk.rings := _ }) (hkeeps.toRegs (by decide) _) (setReg_keepsRegs _ _ _)
  · exact .after (setReg_keeps _ _ _) rfl (.after (keeps_pk u _) rfl (.first hkeeps rfl))

/-! Data rings (10 R269; 19 R478). -/

theorem dataTail_beyond {s : State} {n : Fin 16} {tail : Nat} (h : s.ringSize n ≤ tail) (bufs : List RingBuf) :
    s.dataTail n tail bufs = s := by
  unfold State.dataTail
  extract_lets size
  split
  · rfl
  · exact if_pos h

theorem dataTail_bare {s : State} {n : Fin 16} {tail : Nat} {y : DataRing} (hy : s.out.rings[n.val]? = some y)
    (ht : tail < s.ringSize n) (he : y.enabled = false) (hb : y.baseSet = false) (bufs : List RingBuf) :
    s.dataTail n tail bufs = s.setRegN (OUT_DRING_TAIL n) tail := by
  simp only [State.dataTail, hy, if_neg (Nat.not_le.mpr ht), he, hb, Bool.false_eq_true, not_false_eq_true, and_self, if_true]

/-- What a data tail stores, once an enabled ring's head is 0. -/
theorem dataTail_within {s : State} {n : Fin 16} {tail : Word} {y : DataRing} (hy : s.out.rings[n.val]? = some y)
    (ht : tail.toNat < s.ringSize n) (he : y.enabled = true ∨ y.baseSet = true) (bufs : List RingBuf) :
    ∃ (u : State) (z : DataRing),
      s.dataTail n tail.toNat bufs =
        ({ u with out.rings := u.out.rings.set n.val z } : State).setReg (OUT_DRING_TAIL n) tail ∧
      z.enabled = true ∧
      z.bufs = y.bufs ++ bufs.take (posted (s.ringSize n)
        (if y.enabled = true then s.regN (OUT_DRING_TAIL n) else 0) tail.toNat) ∧
      u.out.rings = s.out.rings ∧ s.keepsRegs u [OUT_DRING_HEAD n] ∧ s.keeps u [.regs] ∧
      (y.enabled = false → u.reg (OUT_DRING_HEAD n) = 0) := by
  have hb : ¬ (¬ y.enabled = true ∧ ¬ y.baseSet = true) := fun h => he.elim h.1 h.2
  simp only [State.dataTail, hy, if_neg (Nat.not_le.mpr ht), if_neg hb, setRegN_toNat]
  refine ⟨_, _, rfl, rfl, rfl, ?_⟩
  split
  · next h => exact ⟨rfl, .refl s _, .refl s _, fun hf => absurd (h.symm.trans hf) (by decide)⟩
  · exact ⟨rfl, setReg_keepsRegs s _ _, setRegN_keeps s _ _, fun _ => reg_setRegN_self s _ 0⟩

/-- A data tail posts its new buffers, and enables a disabled ring with a base from head 0. -/
theorem execOutDringTail_posts {s : State} {n : Fin 16} {tail : Word} {y : DataRing} (hy : s.out.rings[n.val]? = some y)
    (ht : tail.toNat < s.ringSize n) (he : y.enabled = true ∨ y.baseSet = true) (bufs : List RingBuf) :
    ∃ t, exec (.outDringTail n tail bufs) s = .next t ∧ t.reg (OUT_DRING_TAIL n) = tail ∧
      (∃ z, t.out.rings[n.val]? = some z ∧ z.enabled = true ∧
        z.bufs = y.bufs ++ bufs.take (posted (s.ringSize n)
          (if y.enabled = true then s.regN (OUT_DRING_TAIL n) else 0) tail.toNat)) ∧
      (y.enabled = false → t.reg (OUT_DRING_HEAD n) = 0) ∧ s.keepsRegs t [OUT_DRING_TAIL n, OUT_DRING_HEAD n] ∧
      s.keeps t [.regs, .out] := by
  obtain ⟨u, z, heq, hen, hbufs, hrings, hregs, hkeeps, hhead⟩ := dataTail_within hy ht he bufs
  refine ⟨_, congrArg Host.Outcome.next heq, reg_setReg_self _ _ _, ⟨z, ?_, hen, hbufs⟩, fun hf => ?_, ?_, ?_⟩
  · exact getElem?_set_of_some (hrings ▸ hy) z
  · exact (reg_setReg_other _ _ (by simp only [OUT_DRING_HEAD, OUT_DRING_TAIL]; omega)).trans (hhead hf)
  · exact .trans (t := { u with out.rings := _ }) (hregs.mono (by simp)) ((setReg_keepsRegs _ _ _).mono (by simp))
  · exact .after (setReg_keeps _ _ _) rfl (.after (keeps_out u _) rfl (.first hkeeps rfl))

/-! Resets of the endpoint (19 R478). -/

theorem resetRegs_keeps (s : State) (l : List Nat) : s.keeps (s.resetRegs l) [.regs] :=
  .foldl (fun t _ => setReg_keeps t _ _) l s

theorem reg_resetRegs_of_reset (l : List Nat) {s : State} {a : Nat} (h : s.reg a = regReset a) :
    (s.resetRegs l).reg a = regReset a := by
  induction l generalizing s with
  | nil => exact h
  | cons b l ih =>
    refine ih (s := s.setReg b (regReset b)) ?_
    by_cases hb : a = b
    · rw [hb, reg_setReg_self]
    · rw [reg_setReg_other s _ hb, h]

theorem reg_resetRegs_of_mem {l : List Nat} {a : Nat} (h : a ∈ l) (s : State) : (s.resetRegs l).reg a = regReset a := by
  induction l generalizing s with
  | nil => cases h
  | cons b l ih =>
    rcases List.mem_cons.mp h with rfl | h
    · exact reg_resetRegs_of_reset l (reg_setReg_self s _ _)
    · exact ih h (s.setReg b (regReset b))

theorem markDry_keepsHost (s : State) (n : Nat) : s.keepsHost (s.markDry n) := .of_fields rfl rfl rfl

theorem dringRegs_reset : ∀ n, n < 16 → regReset (OUT_DRING_TAIL n) = 0 ∧ regReset (OUT_DRING_HEAD n) = 0 := by
  decide +kernel

/-- The host's side after a reset of the endpoint's rings. -/
def State.ringsReset (t : State) : Prop :=
  t.pk.rings = PacketUnit.reset.rings ∧ t.out.rings = Output.reset.rings ∧
    (∀ x ∈ t.pk.ingress, ∀ n, x.origin ≠ .ring n) ∧
    (∀ x ∈ t.pk.sessions, (∃ n, x.origin = .ring n) → x.mask = 1 ∧ x.stage = none) ∧
    (∀ n, n < 16 → t.reg (OUT_DRING_TAIL n) = 0 ∧ t.reg (OUT_DRING_HEAD n) = 0)

theorem State.keepsHost.ringsReset {s t : State} (h : s.keepsHost t) (hs : s.ringsReset) : t.ringsReset := by
  obtain ⟨hrings, hdata, hingress, hsessions, hregs⟩ := hs
  refine ⟨h.rings.trans hrings, h.dataRings.trans hdata, h.ingress ▸ hingress, h.sessions ▸ hsessions, fun n hn => ?_⟩
  rw [h.ringRegs _ (by simp only [OUT_DRING_TAIL]; omega) (by simp only [OUT_DRING_TAIL]; omega),
    h.ringRegs _ (by simp only [OUT_DRING_HEAD]; omega) (by simp only [OUT_DRING_HEAD]; omega)]
  exact hregs n hn

theorem State.ringsReset.linkDown {t : State} (h : t.ringsReset) :
    State.ringsReset { t with out.pcieUp := false } := h

theorem resetRings_spec (s : State) : s.resetRings.ringsReset ∧ s.resetRings.out.pcieUp = s.out.pcieUp := by
  unfold State.resetRings
  extract_lets _ taken back cleared _ _ t
  have hback : back.out.pcieUp = s.out.pcieUp := by
    unfold back
    split <;> rfl
  have hout : cleared.out = back.out := resetRegs_keeps _ _ .out (by decide)
  have hregs (n : Nat) (hn : n < 16) (a : Nat) (ha : a ∈ [OUT_DRING_BASE n, OUT_DRING_BASE n + 4, OUT_DRING_CFG n,
      OUT_DRING_TAIL n, OUT_DRING_HEAD n]) : cleared.reg a = regReset a := by
    refine reg_resetRegs_of_mem ?_ back
    rw [List.mem_append, List.mem_flatMap, List.mem_flatMap]
    exact .inr ⟨n, List.mem_range.mpr hn, ha⟩
  clear_value cleared
  have ht : t.ringsReset := by
    refine ⟨rfl, rfl, fun x hx n hn => ?_, fun x hx ⟨n, hn⟩ => ?_, fun n hn => ?_⟩
    · have hf := (List.mem_filter.mp hx).2
      rw [hn] at hf
      cases hf
    · obtain ⟨y, -, rfl⟩ := List.mem_map.mp hx
      split at hn
      · exact ⟨rfl, rfl⟩
      · next hr => exact absurd hn (hr n)
    · obtain ⟨htail, hhead⟩ := dringRegs_reset n hn
      exact ⟨(hregs n hn _ (by simp only [List.mem_cons, true_or, or_true])).trans htail,
        (hregs n hn _ (by simp only [List.mem_cons, true_or, or_true])).trans hhead⟩
  have hdry : t.keepsHost ((List.range 16).foldl State.markDry t) := .foldl _ _ fun u n _ => markDry_keepsHost u n
  exact ⟨hdry.ringsReset ht, hdry.pcieUp.trans ((congrArg Output.pcieUp hout).trans hback)⟩

theorem exec_pciePerst (s : State) :
    exec .pciePerst s = .next ((State.routeDown { s.resetRings with out.pcieUp := false } 0).readmit) := rfl

/-- A function-level reset and PERST_L put the rings back, and PERST_L takes the link down. -/
theorem exec_endpointReset {c : Instr} (s : State) (hc : c = .functionLevelReset ∨ c = .pciePerst) :
    ∃ t, exec c s = .next t ∧ t.ringsReset ∧ (c = .pciePerst → t.out.pcieUp = false) ∧
      (c = .functionLevelReset → t.out.pcieUp = s.out.pcieUp) := by
  obtain ⟨hreset, hup⟩ := resetRings_spec s
  rcases hc with rfl | rfl
  · exact ⟨_, rfl, hreset, nofun, fun _ => hup⟩
  · have hh := (routeDown_keepsHost { s.resetRings with out.pcieUp := false } 0).trans (readmit_keepsHost _)
    refine ⟨_, exec_pciePerst s, hh.ringsReset hreset.linkDown, fun _ => ?_, nofun⟩
    rw [hh.pcieUp]

/-! The training of the link (10 R268; 19 R474). -/

theorem execPcieLinkTrained_up {s : State} {w v : Nat} (hw : w ∈ [1, 2, 4, 8]) (hv : v ∈ [2, 5, 8, 16, 32])
    (hp : s.boot.phase ≠ .hardware) (hh : s.boot.held = false) (hc : s.tim.lost.contains .pcieRefclk = false) :
    ∃ t, exec (.pcieLinkTrained w v) s = .next t ∧ t.out.pcieUp = true ∧ t.out.pcieWidth = w ∧ t.out.pcieSpeed = v := by
  refine ⟨_, congrArg Host.Outcome.next (if_neg ?_), ?_⟩
  · simp only [not_or, not_not, List.contains_iff_mem]
    exact ⟨hw, hv, hp, by simp [hh], by simpa using hc⟩
  · extract_lets old _ t u
    have hu : t.keepsHost u := endCause_keepsHost t _
    have hr : t.keepsHost (if u.pcieCapacity = old then u else u.readmit) := .ite hu (hu.trans (readmit_keepsHost u))
    exact ⟨hr.pcieUp, hr.pcieWidth, hr.pcieSpeed⟩

theorem execPcieLinkTrained_not {s : State} {w v : Nat} (h : w ∉ [1, 2, 4, 8] ∨ v ∉ [2, 5, 8, 16, 32] ∨
    s.boot.phase = .hardware ∨ s.boot.held = true ∨ s.tim.lost.contains .pcieRefclk = true) :
    exec (.pcieLinkTrained w v) s = .next s :=
  congrArg Host.Outcome.next (if_pos (by simpa only [List.contains_iff_mem] using h))

/-! Received Ethernet frames (10 R271; 02 R59; 16 R403). -/

theorem execEthFrameReceived_down {s : State} {p : Fin 4} (h : nth s.out.ethUp p.val false = false) (f : List Byte) :
    exec (.ethFrameReceived p f) s = .next s := if_pos (by rw [h]; decide)

theorem execArpRequest_up {s : State} {p : Fin 4} (h : nth s.out.ethUp p.val false = true) (a : Word) (m : Long)
    (i : Word) :
    exec (.arpRequest p a m i) s = .next
      (if a = s.reg (OUT_ETH_IP p) then s.sendDirect p (s.arpReply p m i) else s.bump (OUT_ETH_RXDROP p)) :=
  congrArg Host.Outcome.next (if_neg (by rw [h]; decide))

theorem execEthFrameReceived_bad {s : State} {p : Fin 4} {f : List Byte} (h : nth s.out.ethUp p.val false = true)
    (hf : s.readFrame p f = none) : exec (.ethFrameReceived p f) s = .next (s.bump (OUT_ETH_RXDROP p)) := by
  show execEthFrameReceived p f s = _
  simp only [execEthFrameReceived, h, hf, not_true_eq_false, if_false]

section
variable {s : State} {p : Fin 4} {f : List Byte} {e : EtherIn} (h : nth s.out.ethUp p.val false = true)
  (hf : s.readFrame p f = some e)
include h hf

theorem execEthFrameReceived_arp (ht : e.type = 0x0806) (ha : slice e.data 0 8 = [0, 1, 8, 0, 6, 4, 0, 1]) :
    exec (.ethFrameReceived p f) s =
      exec (.arpRequest p (BitVec.ofNat 32 (field e.data 24 4)) (BitVec.ofNat 48 (field e.data 8 6))
        (BitVec.ofNat 32 (field e.data 14 4))) s := by
  show execEthFrameReceived p f s = _
  simp only [execEthFrameReceived, h, hf, not_true_eq_false, if_false]
  exact if_pos ⟨ht, ha⟩

theorem execEthFrameReceived_type (ht : e.type ≠ 0x0806) (ht' : e.type ≠ 0x0800) :
    exec (.ethFrameReceived p f) s = .next (s.bump (OUT_ETH_RXDROP p)) := by
  show execEthFrameReceived p f s = _
  simp only [execEthFrameReceived, h, hf, not_true_eq_false, if_false]
  rw [if_neg fun hc => ht hc.1, if_pos ht']

theorem execEthFrameReceived_noDatagram (ht : e.type = 0x0800) (hd : s.readDatagram p e.data = none) :
    exec (.ethFrameReceived p f) s = .next (s.bump (OUT_ETH_RXDROP p)) := by
  show execEthFrameReceived p f s = _
  simp only [execEthFrameReceived, h, hf, ht, hd, not_true_eq_false, if_false]
  rfl

/-- Where a datagram goes by its destination port. -/
theorem execEthFrameReceived_datagram {ip : Word} {sport : Half} {dport : Nat} {d : List Byte} (ht : e.type = 0x0800)
    (hd : s.readDatagram p e.data = some (ip, sport, dport, d)) :
    exec (.ethFrameReceived p f) s =
      if dport = s.fld GLB_CMD_UDP_PORT 15 0 then exec (.packetDiscard (.udp p e.mac ip sport e.tag) d) s
      else if dport = 319 ∨ dport = 320 then .next s
      else if s.sb ∧ p.val < 2 ∧ dport = pbPort s.saf.active then
        exec (.safetyTelegram (BitVec.ofNat 1 p.val).toFin d) s
      else .next (s.bump (OUT_ETH_RXDROP p)) := by
  show execEthFrameReceived p f s = _
  simp only [execEthFrameReceived, h, hf, ht, hd, not_true_eq_false, if_false]
  rfl
end

/-- Settles O48: the tails by their rings, the resets and the training by what they leave of the host's side, and
received frames by how they read. -/
theorem ringsAndPortsComplete : Obligations.RingsAndPortsComplete := by
  refine ⟨⟨fun s n tail ps y hy ht => ⟨fun he => ?_, fun he hb => ?_, fun he hc hr => ?_⟩,
      fun s n tail ps ht => congrArg Host.Outcome.next (cmdTail_beyond ht ps),
      fun s n tail lens y hy => ⟨fun ht => execOutRplqTail_posts hy ht lens,
        fun ht => congrArg Host.Outcome.next (replyTail_beyond ht lens)⟩,
      fun s n tail bufs y hy => ⟨fun ht he => execOutDringTail_posts hy ht he bufs, fun ht he hb => ?_,
        fun ht => congrArg Host.Outcome.next (dataTail_beyond ht bufs)⟩,
      fun s c hc => ?_, fun s w v => execPcieLinkTrained_up, fun s w v => execPcieLinkTrained_not⟩,
    fun s p h => ⟨fun a m i => congrArg Host.Outcome.next (if_pos (by rw [h]; decide)), execEthFrameReceived_down h⟩,
    fun s p m i h => ⟨(execArpRequest_up h _ m i).trans (congrArg Host.Outcome.next (if_pos rfl)),
      fun a ha => (execArpRequest_up h a m i).trans (congrArg Host.Outcome.next (if_neg ha))⟩,
    fun s p f h hf => execEthFrameReceived_bad h hf,
    fun s p f e h hf => ⟨execEthFrameReceived_arp h hf, execEthFrameReceived_type h hf, fun ht hd => ?_,
      fun ip sport dport d ht hd => ⟨fun hp => ?_, fun hp h1 h2 => ⟨fun hlt hs hpb => ?_, fun hs => ?_⟩⟩⟩⟩
  · rw [← setRegN_toNat]
    exact congrArg Host.Outcome.next (cmdTail_enabled hy ht he ps)
  · rw [← setRegN_toNat]
    exact congrArg Host.Outcome.next (cmdTail_bare hy ht he hb ps)
  · obtain ⟨hsess, hring, hkeeps⟩ := enableRing_spec hy
    refine ⟨_, congrArg Host.Outcome.next (cmdTail_enables hy ht he hc hr), ?_⟩
    rw [setRegN_toNat]
    exact ⟨reg_setReg_self _ _ _, hsess, hring, (hkeeps.toRegs (by decide) _).trans (setReg_keepsRegs _ _ _),
      .after (setReg_keeps _ _ _) rfl (.first hkeeps rfl)⟩
  · rw [← setRegN_toNat]
    exact congrArg Host.Outcome.next (dataTail_bare hy ht he hb bufs)
  · obtain ⟨t, ht, ⟨hrings, hdata, hingress, hsessions, hregs⟩, hdown, hup⟩ := exec_endpointReset s hc
    exact ⟨t, ht, hrings, hdata, hingress, hsessions, hregs, hdown, hup⟩
  · exact execEthFrameReceived_noDatagram h hf ht hd
  · rw [execEthFrameReceived_datagram h hf ht hd, if_pos hp]
  · have hport : (BitVec.ofNat 1 p.val).toFin = ⟨p.val, hlt⟩ := Fin.ext (Nat.mod_eq_of_lt hlt)
    rw [execEthFrameReceived_datagram h hf ht hd, if_neg hp, if_neg (not_or.mpr ⟨h1, h2⟩), if_pos ⟨hs, hlt, hpb⟩, hport]
  · rw [execEthFrameReceived_datagram h hf ht hd, if_neg hp, if_neg (not_or.mpr ⟨h1, h2⟩), if_neg]
    rintro ⟨hsb, hlt, hpb⟩
    rcases hs with hs | hs | hs
    · exact absurd (hs.symm.trans hsb) (by decide)
    · omega
    · exact hs hpb

end Sys2Proof.Machine

namespace Sys2Proof.Machine

/-! A packet behind what is staged, and the transfer as its commit takes it (02 R48). -/

/-- The session of a packet that arrives is open. -/
theorem session_of_arrived {s u : State} {opcode : Nat} {o : Origin} {r : Request} {e : Nat}
    (h : s.arrived opcode o r = some (u, e)) : ∃ x, u.session o = some x := by
  simp only [State.arrived] at h
  repeat' split at h
  all_goals cases h
  next t _ _ _ y hy _ =>
    exact ⟨_, (session_setSession_self t o (fun z => { z with newest := some r.sequence }) fun _ => rfl).trans
      (congrArg (Option.map _) hy)⟩

theorem session_of_accepted {s u : State} {op : OpSpec} {o : Origin} {r : Request} {e : Nat}
    (h : s.accepted op o r = some (u, e)) : ∃ x, u.session o = some x := by
  unfold State.accepted at h
  repeat' split at h
  all_goals cases h
  next ha _ => exact session_of_arrived ha

/-- A transfer that a session was given and that is not idle is its transfer. -/
theorem stageOf_setStage {s : State} {o : Origin} {x : Session} (hx : s.session o = some x) {t : Stage}
    (ht : s.time ≤ t.last + ticksS 1) : (s.setStage o (some t)).stageOf o = some t := by
  have hs : (s.setStage o (some t)).session o = (s.session o).map fun y => { y with stage := some t } :=
    session_setSession_self s o _ fun _ => rfl
  simp only [State.stageOf, hs, hx, Option.map_some]
  exact Option.filter_eq_some_iff.mpr ⟨rfl, decide_eq_true ht⟩

/-- A session holds the transfer that it was given last. -/
theorem setStage_setStage (s : State) (o : Origin) (x y : Option Stage) :
    (s.setStage o x).setStage o y = s.setStage o y := by
  simp only [State.setStage, State.setSession, List.map_map]
  refine congrArg (fun l => { s with pk.sessions := l }) (List.map_congr_left fun z _ => ?_)
  by_cases hz : z.origin.same o = true <;> simp [hz]

/-- Without an offset a packet goes behind what its transfer has received, within 16 MB. -/
theorem stageAdd_behind {s : State} {o : Origin} {p : Packet} {obj : StageObj} {t : Stage}
    (ht : s.stageBase o p obj = t) {data : List Byte}
    (hmax : t.data.length + t.dataMem.length + data.length ≤ stageMax) :
    s.stageAdd o p obj false none data =
      { st := s.setStage o (some
          { t with data := t.data ++ data, whole := !bit p.flags.toNat 5, last := s.time }) } := by
  subst ht
  exact stageAdd_append rfl rfl hmax

/-- A commit takes the complete transfer that its own packet has put into the session. -/
theorem stageTake_setStage {s : State} {o : Origin} {x : Session} (hx : s.session o = some x) {t : Stage}
    (hw : t.whole = true) (hl : t.last = s.time) (hc : t.cas = true → t.gen = s.gen) :
    (s.setStage o (some t)).stageTake o t.obj = (s.setStage o none, some t, none) := by
  have ht := stageOf_setStage hx (t := t) (hl ▸ Nat.le_add_right _ _)
  rw [stageTake_whole ht hw hc, setStage_setStage]

/-! Submission (02 R48; 03 R64). -/

theorem stageBase_of_none {s : State} {o : Origin} (h : s.stageOf o = none) (p : Packet) (obj : StageObj) :
    s.stageBase o p obj = s.stageFresh p obj := by
  simp only [State.stageBase, h]

theorem stageFresh_fits (s : State) (p : Packet) (obj : StageObj) :
    (s.stageFresh p obj).data.length + (s.stageFresh p obj).dataMem.length + 4080 ≤ 2 ^ 24 := by
  simp [State.stageFresh]

/-- The transfer that a submission completes: none yet, or the session's open one of the program, begun without CAS. -/
theorem stageBase_submitted {s : State} {o : Origin} {obj : StageObj} {before : List Byte}
    (h : s.stageOf o = none ∧ before = [] ∨ ∃ t, s.stageOf o = some t ∧ t.whole = false ∧ t.cas = false ∧
      t.obj = obj ∧ before = t.data ∧ t.data.length + t.dataMem.length + 4080 ≤ 2 ^ 24) (p : Packet) :
    ∃ t, s.stageBase o p obj = t ∧ t.data = before ∧ t.obj = obj ∧ (t.cas = true → t.gen = s.gen) ∧
      t.data.length + t.dataMem.length + 4080 ≤ 2 ^ 24 := by
  rcases h with ⟨hn, rfl⟩ | ⟨t, ht, hw, hcas, hobj, rfl, hmax⟩
  · exact ⟨_, stageBase_of_none hn _ _, rfl, rfl, fun _ => rfl, stageFresh_fits _ _ _⟩
  · exact ⟨t, stageBase_open ht hobj hw _, rfl, hobj, fun hc => absurd (hcas.symm.trans hc) (by decide), hmax⟩

/-- What a submission carries of its image is at most 4,076 bytes long. -/
theorem length_image_of_accepted {s u : State} {o : Origin} {r : Request} {e : Nat}
    (h : s.accepted progSubmitOp o r = some (u, e)) : (r.payload.drop 4).length ≤ 4076 := by
  obtain ⟨hlen, -⟩ := accepted_checked h
  have hlen : 4 ≤ r.payload.length ∧ r.payload.length ≤ 4080 := by simpa [progSubmitOp, between] using hlen
  rw [List.length_drop]
  omega

section
variable {s u : State} {o : Origin} {r : Request} {e : Nat} (h : s.accepted progSubmitOp o r = some (u, e)) {t : Stage}
  (ht : u.stageBase o (r.packet 0x20) (.program (BitVec.ofNat 16 (field r.payload 0 2))) = t)
  (hmax : t.data.length + t.dataMem.length + 4080 ≤ 2 ^ 24)
include h ht hmax

/-- A submission appends to its transfer. -/
theorem progSubmit_stages :
    u.stageAdd o (r.packet 0x20) (.program (BitVec.ofNat 16 (field r.payload 0 2))) false none (r.payload.drop 4) =
      { st := u.setStage o (some
          { t with data := t.data ++ r.payload.drop 4, whole := !bit r.flags.toNat 5, last := u.time }) } := by
  have hlen := length_image_of_accepted h
  exact stageAdd_behind ht (by rw [stageMax]; omega)

theorem serve_progSubmit_more (hm : bit r.flags.toNat 5 = true) :
    s.serve progSubmitOp o r = (u.setStage o (some
      { t with data := t.data ++ r.payload.drop 4, whole := false, last := u.time })).answered 0x20 o r e := by
  have hstage := progSubmit_stages h ht hmax
  rw [hm] at hstage
  exact serve_answered h (Eq.trans (if_pos (.inr hm)) hstage)

/-- The packet that completes an image submits it. -/
theorem progSubmit_act_last (hm : bit r.flags.toNat 5 = false)
    (hobj : t.obj = .program (BitVec.ofNat 16 (field r.payload 0 2))) (hc : t.cas = true → t.gen = u.gen) :
    progSubmitOp.act u o (r.packet 0x20) =
      (u.setStage o none).submit (field r.payload 0 2) (t.data ++ r.payload.drop 4) := by
  obtain ⟨x, hx⟩ := session_of_accepted h
  have hstage := progSubmit_stages h ht hmax
  have htake := stageTake_setStage hx
    (t := { t with data := t.data ++ r.payload.drop 4, whole := true, last := u.time }) rfl rfl hc
  rw [hm] at hstage
  simp only [hobj] at htake
  simp only [progSubmitOp, payload_packet, hstage]
  rw [if_neg (by simp [Request.packet, hm])]
  simp only [Bool.not_false, hobj, htake]
end

/-- An image that passes the checks of R64, the manager's where it streams by ROUTE 2, and admission, and finds room,
becomes the program. -/
theorem submit_passes {s m : State} {pid off : Nat} {img : List Byte} (hchecks : s.submitCheck pid img = none)
    (hm : (if stRoute (imStream img) = 2 then s.managerAnswer else (none, s)) = (none, m))
    (hadm : m.admission (m.admSet ++ [m.member pid img]) = none)
    (hrun : m.findRun (16 * ceilDiv img.length 16) = some off) {w : State}
    (hw : (m.putProg pid (.fresh img (m.gen + 1) off)).postShares.syncProfiles = w) :
    s.submit pid img = { st := w, payload := w.summary w.admSet (m.member pid img) } := by
  subst hw
  simp only [State.submit, hchecks, hm, hadm, hrun]

/-! Start and stop (03 R522). -/

theorem progStart_act {u : State} {r : Request} {q : Prog} (hq : u.prog (field r.payload 0 2) = some q)
    (hchecks : firstFail (u.startChecks (field r.payload 0 2) q) = none)
    (hadm : q.state = .suspended →
      (u.setProg (field r.payload 0 2) fun x => { x with outOfSet := false }).admissionNow true = none) (o : Origin) :
    progStartOp.act u o (r.packet 0x21) =
      (let pid := field r.payload 0 2
       let v := State.restartEngines
         (if q.outOfSet then (u.setProg pid fun x => { x with outOfSet := false }).postShares else u) q.image
       { st := v.begin pid (field r.payload 2 1) (v.startTime r.payload), payload := List.replicate 8 0xFF }) := by
  have hnone : (if q.state = .suspended then
      (u.setProg (field r.payload 0 2) fun x => { x with outOfSet := false }).admissionNow true else none) = none := by
    split
    · next hs => exact hadm hs
    · rfl
  simp only [progStartOp, payload_packet, hq, State.doneIf, hchecks, hnone]

/-- A row of an opcode that several rows share serves a packet that carries its value. -/
theorem rowValue_of_carries {r : Request} {len off v : Nat} (h : r.carries len off v = true) (rows : List Nat) :
    rowValue r len off v rows = v := by
  simp only [Request.carries, Bool.or_eq_true, bne_iff_ne, beq_iff_eq] at h
  exact ite_eq_right_iff.mpr fun hc => h.resolve_left (not_not_intro hc.1)

section
variable {u : State} {p : Packet} (mode : Nat) (o : Origin)

theorem progStop_act_absent (hq : u.prog (field p.payload 0 2) = none) :
    progStopAct mode u o p = u.refuse NOT_FOUND := by
  simp only [progStopAct, hq]

variable {q : Prog} (hq : u.prog (field p.payload 0 2) = some q)
include hq

theorem progStop_act_notLive (hl : q.live = false) : progStopAct mode u o p = u.refuse STATE := by
  simp only [progStopAct, hq]
  exact doneIf_fail hl

theorem progStop_act_live (hl : q.live = true) :
    progStopAct mode u o p =
      if q.state = .armed then { st := u.stopProg (field p.payload 0 2), payload := List.replicate 8 0xFF }
      else if mode = 1 then { st := u.stopProg (field p.payload 0 2), payload := shotField q.last }
      else if q.state = .waiting then { st := u.stopProg (field p.payload 0 2), payload := List.replicate 8 0xFF }
      else { st := u.setProg (field p.payload 0 2) fun q => { q with state := .stopping }
             payload := List.replicate 8 0xFF } := by
  simp only [progStopAct, hq]
  exact (doneIf_pass hl).trans (doneIf_nil _ _)
end

theorem Prog.live_of_state {q : Prog} (h : q.state = .armed ∨ q.state = .waiting) : q.live = true := by
  rcases h with h | h <;> simp [Prog.live, h]

theorem execProgStopImmediate_eq {o : Origin} {r : Request} (h : (Instr.progStopImmediate o r).wf = true) (s : State) :
    exec (.progStopImmediate o r) s = .next (s.serve (progStopOp 1) o r) := by
  have hrow := rowValue_of_carries ((Bool.and_eq_true _ _).mp h).2 [0, 1]
  show Host.Outcome.next (s.serve (progStopOp (rowValue r 4 2 1 [0, 1])) o r) = _
  rw [hrow]

theorem execProgStopEndOfSegment_eq {o : Origin} {r : Request} (h : (Instr.progStopEndOfSegment o r).wf = true)
    (s : State) : exec (.progStopEndOfSegment o r) s = .next (s.serve (progStopOp 0) o r) := by
  have hrow := rowValue_of_carries ((Bool.and_eq_true _ _).mp h).2 [0, 1]
  show Host.Outcome.next (s.serve (progStopOp (rowValue r 4 2 0 [0, 1])) o r) = _
  rw [hrow]

/-- PROG_STOP of mode 1. -/
theorem serve_progStop_now {s u : State} {o : Origin} {r : Request} {e : Nat} {q : Prog}
    (h : s.accepted (progStopOp 1) o r = some (u, e)) (hq : u.prog (field r.payload 0 2) = some q) :
    s.serve (progStopOp 1) o r =
      if q.state = .armed then (u.stopProg (field r.payload 0 2)).answered 0x22 o r e (List.replicate 8 0xFF)
      else if q.live = true then (u.stopProg (field r.payload 0 2)).answered 0x22 o r e (shotField q.last)
      else u.answeredRefusal 0x22 o r e STATE 0 := by
  by_cases hl : q.live = true
  · have hact := progStop_act_live (p := r.packet 0x22) 1 o hq hl
    rw [if_pos hl]
    split
    · next ha => exact serve_answered h (hact.trans (if_pos ha))
    · next ha => exact serve_answered h (hact.trans ((if_neg ha).trans (if_pos rfl)))
  · rw [if_neg fun ha => hl (Prog.live_of_state (.inl ha)), if_neg hl]
    exact serve_answeredRefusal h (progStop_act_notLive 1 o hq (Bool.eq_false_of_not_eq_true hl))

/-- PROG_STOP of mode 0. -/
theorem serve_progStop_endOfSegment {s u : State} {o : Origin} {r : Request} {e : Nat} {q : Prog}
    (h : s.accepted (progStopOp 0) o r = some (u, e)) (hq : u.prog (field r.payload 0 2) = some q) :
    s.serve (progStopOp 0) o r =
      if q.state = .armed ∨ q.state = .waiting then
        (u.stopProg (field r.payload 0 2)).answered 0x22 o r e (List.replicate 8 0xFF)
      else if q.live = true then
        (u.setProg (field r.payload 0 2) fun x => { x with state := .stopping }).answered 0x22 o r e
          (List.replicate 8 0xFF)
      else u.answeredRefusal 0x22 o r e STATE 0 := by
  by_cases hl : q.live = true
  · have hact := progStop_act_live (p := r.packet 0x22) 0 o hq hl
    rw [if_pos hl]
    split
    · next ha =>
      refine serve_answered h (hact.trans ?_)
      rcases ha with ha | ha <;> simp [ha]
    · next ha =>
      obtain ⟨ha, hw⟩ := not_or.mp ha
      exact serve_answered h (hact.trans (by rw [if_neg ha, if_neg Nat.zero_ne_one, if_neg hw]; rfl))
  · rw [if_neg fun ha => hl (Prog.live_of_state ha), if_neg hl]
    exact serve_answeredRefusal h (progStop_act_notLive 0 o hq (Bool.eq_false_of_not_eq_true hl))

/-- Settles O3: the transfer and the image of a submission, PROG_START behind its checks, PROG_STOP by its mode and the
program's state. -/
theorem programCommandsComplete : Obligations.ProgramCommandsComplete := by
  refine ⟨⟨fun s u o r e t h hm ht => ?_, fun s u o r e before off h hm hb => ?_,
      fun s u o r e q h hq hchecks hadm =>
        congrArg Host.Outcome.next (serve_answered h (progStart_act hq hchecks hadm o)),
      fun s u o r e q h hq hl => congrArg Host.Outcome.next (serve_answered h ?_),
      fun s u o r e q h hq => congrArg Host.Outcome.next (serve_answered h ?_)⟩,
    fun s u o r e q h hwf hq => (execProgStopImmediate_eq hwf s).trans
      (congrArg Host.Outcome.next (serve_progStop_now h hq)),
    fun s u o r e q h hwf hq => (execProgStopEndOfSegment_eq hwf s).trans
      (congrArg Host.Outcome.next (serve_progStop_endOfSegment h hq)),
    fun s u o r e h hwf hq => (execProgStopEndOfSegment_eq hwf s).trans
      (congrArg Host.Outcome.next (serve_answeredRefusal h (progStop_act_absent 0 o hq))),
    fun s u o r e h hwf hq => (execProgStopImmediate_eq hwf s).trans
      (congrArg Host.Outcome.next (serve_answeredRefusal h (progStop_act_absent 1 o hq)))⟩
  · refine congrArg Host.Outcome.next ?_
    rcases ht with ⟨hn, rfl⟩ | ⟨ht, hw, hobj, hmax⟩
    · exact (serve_progSubmit_more h (stageBase_of_none hn _ _) (stageFresh_fits _ _ _) hm :)
    · exact serve_progSubmit_more h (stageBase_open ht hobj hw _) hmax hm
  · intro pid img v m hchecks hm1 hadm hrun w
    obtain ⟨t, ht, hdata, hobj, hcas, hmax⟩ := stageBase_submitted hb (r.packet 0x20)
    have hact := progSubmit_act_last h ht hmax hm hobj hcas
    rw [hdata] at hact
    exact congrArg Host.Outcome.next
      (serve_answered h (hact.trans (submit_passes hchecks (Prod.ext hm1 rfl) hadm hrun rfl)))
  · simp only [progWithdrawOp, payload_packet, hq]
    exact (doneIf_pass (congrArg (!·) hl)).trans (doneIf_nil _ _)
  · simp only [progStatusOp, payload_packet, hq]

end Sys2Proof.Machine

namespace Sys2Proof.Machine

/-! Start instants, waits and the idle updates of budgets (03 R69, R77, R78; 04 R96). -/

theorem execProgramStartInstant_due {s : State} {pid : Fin 64} {q : Prog} (hq : s.prog pid = some q)
    (ha : q.state = .armed) (hm : q.startMode = 1) (ht : q.startTick ≤ s.tim.shot) :
    exec (.programStartInstant pid) s = .next (s.runProg pid (32 * q.startTick)) := by
  show execProgramStartInstant pid s = _
  simp only [execProgramStartInstant, hq, ha, hm, ht, and_self, if_true]

section
variable {s : State} {pid : Fin 64} {q : Prog} (hq : s.prog pid = some q) (hw : q.state = .waiting)
include hq hw

theorem execWaitReleased_due {t : Nat} {late : Bool} (hr : q.releaseAt s.tim.shot = some (t, late))
    (ht : t ≤ s.unitNow) (hx : ∀ x, q.expiry = some x → t ≤ x) :
    exec (.waitReleased pid) s = .next (s.releaseWait pid t late false) := by
  have hin : (match q.expiry with | some x => decide (t ≤ x) | none => true) = true := by
    split
    · next x he => exact decide_eq_true (hx x he)
    · rfl
  show execWaitReleased pid s = _
  simp only [execWaitReleased, hq, hw, hr, if_true]
  exact congrArg Host.Outcome.next (if_pos ⟨ht, hin⟩)

theorem execWaitTimeout_due {x : Nat} (he : q.expiry = some x) (hx : x ≤ s.unitNow)
    (hr : ∀ t late, q.releaseAt s.tim.shot = some (t, late) → x < t) :
    exec (.waitTimeout pid) s = .next
      (if sgWaitOnTmo (imSeg q.image q.segment) = true then (s.latch SEQ_STATUS 0x4).releaseWait pid x false true
       else (s.latch SEQ_STATUS 0x4).suspend pid 1) := by
  have hnot : (match q.releaseAt s.tim.shot with | some (t, _) => decide (t ≤ x) | none => false) = false := by
    split
    · next t late h => exact decide_eq_false (Nat.not_le.mpr (hr t late h))
    · rfl
  show execWaitTimeout pid s = _
  simp only [execWaitTimeout, hq, he]
  exact congrArg Host.Outcome.next (if_pos ⟨hw, hx, (Bool.not_eq_true _).mpr hnot⟩)
end

theorem execBudgetIdleUpdate_due {s : State} {g : Fin 4} (h : (s.budget g).updated + 400000 ≤ s.unitNow) :
    exec (.budgetIdleUpdate g) s = .next { s with emt.budgets := upd s.emt.budgets g (s.idleSteps g 1) } :=
  congrArg Host.Outcome.next (if_pos h)

theorem budget_upd_self {s : State} {g : Nat} (h : g < s.emt.budgets.length) (f : Budget → Budget) :
    State.budget { s with emt.budgets := upd s.emt.budgets g f } g = f (s.budget g) := nth_upd_self _ _ _ _ h

theorem budget_upd_other (s : State) {g k : Nat} (h : k ≠ g) (f : Budget → Budget) :
    State.budget { s with emt.budgets := upd s.emt.budgets g f } k = s.budget k := nth_upd_other _ _ _ h

/-- One idle update. -/
theorem idleSteps_one (s : State) (g : Nat) (b : Budget) :
    (s.idleSteps g 1 b).level = min (s.budgetCap g) (b.level + refillOf
      (if b.clipped = true then s.fld (EMT_BUDGET_REFILL g) 23 0 else s.fld (EMT_BUDGET_RATED g) 23 0) 400000) ∧
    ((s.idleSteps g 1 b).clipped = true ↔ b.clipped = true ∧ (s.idleSteps g 1 b).level ≠ s.budgetCap g) ∧
    (s.idleSteps g 1 b).updated = b.updated + 400000 := by
  simp [State.idleSteps]

/-- Settles O12: each command when its instant has come, the idle update by its one step. -/
theorem programWaitsAndStartsRelease : Obligations.ProgramWaitsAndStartsRelease := by
  refine ⟨fun s pid q => execProgramStartInstant_due,
    fun s pid q t late hq hw hr ht hx => execWaitReleased_due hq hw hr ht hx,
    fun s pid q x hq hw he hx hr => execWaitTimeout_due hq hw he hx hr, fun s g hg h => ?_⟩
  obtain ⟨hlevel, hclipped, hupdated⟩ := idleSteps_one s g (s.budget g)
  rw [← budget_upd_self hg (s.idleSteps g 1)] at hlevel hclipped hupdated
  exact ⟨_, execBudgetIdleUpdate_due h, hlevel, hclipped, hupdated, fun k hk => budget_upd_other s hk _, rfl,
    keeps_emt s _⟩

end Sys2Proof.Machine

namespace Sys2Proof.Machine

/-! The writes of FIRE_CONFIG, MATRIX_CONFIG and BUDGET_SET under their rules (04 R91, R95, R97, R113). -/

/-- An effect that stands behind a condition is answered, or refused without effect. -/
theorem serve_answered_ite {s u t : State} {op : OpSpec} {o : Origin} {r : Request} {e st : Nat} {c : Prop}
    [Decidable c] (h : s.accepted op o r = some (u, e))
    (ha : op.act u o (r.packet op.opcode) = if c then { st := t } else u.refuse st) :
    s.serve op o r = if c then t.answered op.opcode o r e else u.answeredRefusal op.opcode o r e st 0 := by
  split
  · next hc => exact serve_answered h (ha.trans (if_pos hc))
  · next hc => exact serve_answeredRefusal h (ha.trans (if_neg hc))

/-- Settles O4: each opcode's effect is its write behind the rule, else a refusal. -/
theorem emitterConfigurationCompletes : Obligations.EmitterConfigurationCompletes :=
  ⟨fun _ _ _ _ _ h => congrArg Host.Outcome.next (serve_answered_ite h rfl),
    fun _ _ _ _ _ h => congrArg Host.Outcome.next (serve_answered_ite h rfl),
    fun _ _ _ _ _ h => congrArg Host.Outcome.next (serve_answered_ite h rfl)⟩

end Sys2Proof.Machine

namespace Sys2Proof.Machine

/-! The shot of the firing queue that is due first (04 R85, R88). -/

/-- The earlier of two shots; of two that are due together the one that stood first. -/
def earlier (b : Option Shot) (x : Shot) : Option Shot :=
  match b with
  | none => some x
  | some y => if x.due < y.due then some x else b

/-- The shot that FIRE_EDGE deals with: of those without their edge the one that is due first. -/
def State.firstPending (s : State) : Option Shot := (s.seq.efu.filter fun x => !x.edgeDone).foldl earlier none

theorem foldl_earlier_le {x : Shot} : ∀ {l : List Shot}, (∀ y ∈ l, x.due ≤ y.due) → l.foldl earlier (some x) = some x
  | [], _ => rfl
  | y :: l, h => by
    have hy : earlier (some x) y = some x := if_neg (Nat.not_lt.mpr (h y (by simp)))
    rw [List.foldl_cons, hy]
    exact foldl_earlier_le fun z hz => h z (by simp [hz])

theorem foldl_earlier_first {x : Shot} {back : List Shot} (hb : ∀ y ∈ back, x.due ≤ y.due) :
    ∀ {front : List Shot} {b : Option Shot}, (∀ y ∈ front, x.due < y.due) → (∀ y, b = some y → x.due < y.due) →
      (front ++ x :: back).foldl earlier b = some x
  | [], none, _, _ => foldl_earlier_le hb
  | [], some y, _, h => by
    have hx : earlier (some y) x = some x := if_pos (h y rfl)
    rw [List.nil_append, List.foldl_cons, hx]
    exact foldl_earlier_le hb
  | z :: front, b, hf, h => by
    refine foldl_earlier_first hb (front := front) (fun y hy => hf y (by simp [hy])) fun y hy => ?_
    have hyz : y = z ∨ b = some y := by
      unfold earlier at hy
      split at hy
      · exact .inl (Option.some.inj hy).symm
      · split at hy
        · exact .inl (Option.some.inj hy).symm
        · exact .inr hy
    rcases hyz with rfl | hy
    · exact hf y (by simp)
    · exact h y hy

theorem firstPending_of_split {s : State} {x : Shot} {front back : List Shot} (h : s.seq.efu = front ++ x :: back)
    (hx : x.edgeDone = false) (hf : ∀ y ∈ front, y.edgeDone = false → x.due < y.due)
    (hb : ∀ y ∈ back, y.edgeDone = false → x.due ≤ y.due) : s.firstPending = some x := by
  unfold State.firstPending
  rw [h, List.filter_append, List.filter_cons_of_pos (by simp [hx])]
  refine foldl_earlier_first (fun y hy => ?_) (fun y hy => ?_) fun y hy => by cases hy
  · obtain ⟨hy, he⟩ := List.mem_filter.mp hy
    exact hb y hy (by simpa using he)
  · obtain ⟨hy, he⟩ := List.mem_filter.mp hy
    exact hf y hy (by simpa using he)

/-! The pulses of a shot that has its edge (04 R84, R89, R96). -/

theorem settle_busyUntil (s : State) (x : Shot) (edge : Bool) :
    (s.settle x edge).emt.busyUntil = s.emt.busyUntil := by
  unfold State.settle
  split
  · rfl
  · split <;> rfl

theorem settle_unitNow (s : State) (x : Shot) (edge : Bool) : (s.settle x edge).unitNow = s.unitNow :=
  congrArg (fun t : TimeUnit => 32 * t.shot) (settle_keeps s x edge .tim (by decide))

/-- The pulses of a shot do not depend on the budgets. -/
theorem firing_settle (s : State) (x y : Shot) (edge : Bool) : (s.settle x edge).firing y = s.firing y := by
  have hreg (a : Nat) : (s.settle x edge).regN a = s.regN a :=
    congrArg BitVec.toNat (reg_congr (settle_keeps s x edge .regs (by decide)) a)
  have hline (i : Nat) : (s.settle x edge).lineOn i = s.lineOn i := by simp only [State.lineOn, hreg]
  simp only [State.firing, hline, settle_unitNow]

theorem drive_settle (s : State) (x : Shot) :
    (s.settle x true).drive x = { s.settle x true with
      emt.firings := (s.settle x true).emt.firings ++ [s.firing x]
      emt.busyUntil := x.pulses.foldl (fun (m : Nat) (p : Nat × Nat × Nat) => max m p.2.2) s.emt.busyUntil } := by
  rw [State.drive, firing_settle, settle_busyUntil]

/-- FIRE_EDGE deals with the pending shot that is due first, once it is due (04 R85, R87, R88, R90, R99). -/
theorem execFireEdge_first {s : State} {x : Shot} (hx : s.firstPending = some x) (hd : x.due ≤ s.unitNow)
    (stamp : Option Stamp) {v : State} (hv : (s.settle x true).drive x = v) :
    execFireEdge stamp s = .next (
      if bit x.flags.toNat 0 = true then s.stampMissing x 0
      else if s.noEmission (beGroup x.beam) = true then
        match x.tFire with
        | some t => (s.settle x false).stampShot x t x.tFlags 0x20
        | none => (s.settle x false).stampMissing x 0x20
      else if 8 ≤ x.stampSrc then
        match x.tFire with
        | some t => v.stampShot x t x.tFlags 0
        | none => v.mapShot x.number fun y => { y with edgeDone := true }
      else match stamp with
        | some p =>
          if v.auxDead (leadIndex x.beam) = true then v.stampMissing x 0x40
          else if v.stampValue p < (v.lane (v.auxTdcAt (leadIndex x.beam) (v.stampTick p)) false).blindUntil then
            (v.blindEdge (v.auxTdcAt (leadIndex x.beam) (v.stampTick p)) false true).stampMissing x 0x40
          else v.padStamp x p
        | none => v.stampMissing x 0x40) := by
  subst hv
  unfold execFireEdge
  split
  · next h => exact absurd (hx.symm.trans h) (by simp)
  · next y h =>
    obtain rfl := Option.some.inj (hx.symm.trans h)
    rw [if_neg (Nat.not_lt.mpr hd)]
    refine congrArg Host.Outcome.next (ite_congr rfl (fun _ => rfl) fun _ => ite_congr rfl (fun _ => rfl) fun _ =>
      ite_congr rfl (fun _ => rfl) fun _ => ?_)
    cases stamp with
    | none => rfl
    | some p => exact ite_congr rfl (fun _ => rfl) fun _ => ite_congr decide_eq_true_eq (fun _ => rfl) fun _ => rfl

/-- Settles O13: FIRE_EDGE of the pending shot that is due first, whose pulses its charge does not change, and
FIRE_STAMP_MISSING behind its condition. -/
theorem fireEdgesGivePulsesAndStamps : Obligations.FireEdgesGivePulsesAndStamps := by
  refine ⟨?_, fun s number x hx he hsrc hpast => ?_⟩
  · rintro s stamp x ⟨front, back, hq, hx, hf, hb⟩ hd off on v
    exact execFireEdge_first (firstPending_of_split hq hx hf hb) hd stamp (drive_settle s x)
  · show execFireStampMissing number s = _
    simp only [execFireStampMissing, hx]
    exact congrArg Host.Outcome.next (if_pos ⟨he, hsrc, hpast⟩)

end Sys2Proof.Machine

namespace Sys2Proof.Machine

/-! Over-temperature shutdown (04 R99, R110). -/

theorem bit_unlatch (s : State) (a m k : Nat) :
    bit ((s.unlatch a m).regN a) k = (bit (s.regN a) k && !bit m k) := by
  simp only [bit, State.regN, reg_unlatch_self, BitVec.testBit_toNat, BitVec.getLsbD_and, BitVec.getLsbD_not,
    BitVec.getLsbD_ofNat]
  by_cases hk : k < 32
  · simp [hk]
  · simp [BitVec.getLsbD_of_ge _ _ (Nat.not_lt.mp hk)]

/-- The registers that a write of ones to the shutdown bits may change: the emitter's status and the EVENTs' number. -/
def statusRegs : List Nat := [EMT_STATUS, GLB_EVT_SEQ]

theorem not_mem_statusRegs {a : Nat} (h : EMT_STATUS < a) : a ∉ statusRegs := by
  intro hm
  simp only [statusRegs, List.mem_cons, List.not_mem_nil, or_false] at hm
  rcases hm with rfl | rfl
  · exact absurd h (by decide)
  · exact absurd h (by decide)

/-- The parts of the state that it may change. -/
def statusParts : List Part := [.rep, .drawn, .regs, .pk, .out, .ifl]

theorem unlatch_keeps (s : State) (a m : Nat) : s.keeps (s.unlatch a m) [.regs] := setReg_keeps s a _

theorem unlatch_keepsRegs (s : State) (a m : Nat) : s.keepsRegs (s.unlatch a m) [a] := setReg_keepsRegs s a _

/-- A change leaves everything but the emitter's status, incidents and EVENTs. -/
def State.clears (s t : State) : Prop := s.keeps t statusParts ∧ s.keepsRegs t statusRegs

theorem State.clears.trans {s t u : State} (h : s.clears t) (g : t.clears u) : s.clears u :=
  ⟨h.1.trans g.1, h.2.trans g.2⟩

theorem unlatch_clears (s : State) (m : Nat) : s.clears (s.unlatch EMT_STATUS m) :=
  ⟨.first (unlatch_keeps s _ m) rfl, (unlatch_keepsRegs s _ m).mono (by simp [statusRegs])⟩

theorem endCause_clears (s : State) (key : Word) : s.clears (s.endCause key) :=
  ⟨endCause_keeps s key, (endCause_keepsRegs s key).mono (by simp [statusRegs])⟩

/-- What shutdown bits stand for is not in them: a group's input stays as hot as it is. -/
theorem State.clears.groupHot {s t : State} (h : s.clears t) (g : Nat) : t.groupHot g = s.groupHot g := by
  have hreg : t.reg (EMT_OT_CFG g) = s.reg (EMT_OT_CFG g) :=
    h.2 _ (not_mem_statusRegs (by show 0x20000 < 0x200C0 + 4 * g; omega))
  have hfld (hi lo : Nat) : t.fld (EMT_OT_CFG g) hi lo = s.fld (EMT_OT_CFG g) hi lo :=
    congrArg (fun v => bits (BitVec.toNat v) hi lo) hreg
  have hres (n : Nat) : t.hkRes n = s.hkRes n :=
    congrArg (fun y : House => nth y.results n HkResult.reset) (h.1 .hka (by decide))
  simp only [State.groupHot, hfld, hres]

theorem State.clears.otLow {s t : State} (h : s.clears t) : t.emt.otLow = s.emt.otLow :=
  congrArg Emission.otLow (h.1 .emt (by decide))

/-- A shutdown bit clears under a condition, and the cause of its incident has then ended. -/
def State.clearBit (s : State) (c : Bool) (k : Nat) (key : Word) : State :=
  if c then (s.unlatch EMT_STATUS (2 ^ k)).endCause key else s

theorem clearBit_clears (s : State) (c : Bool) (k : Nat) (key : Word) : s.clears (s.clearBit c k key) := by
  unfold State.clearBit
  split
  · exact (unlatch_clears s _).trans (endCause_clears _ _)
  · exact ⟨.refl s _, .refl s _⟩

theorem bit_clearBit (s : State) (c : Bool) (k j : Nat) (key : Word) :
    bit ((s.clearBit c k key).regN EMT_STATUS) j = (bit (s.regN EMT_STATUS) j && !(c && decide (j = k))) := by
  unfold State.clearBit
  cases c with
  | false => simp
  | true =>
    have hstat : ((s.unlatch EMT_STATUS (2 ^ k)).endCause key).regN EMT_STATUS =
        (s.unlatch EMT_STATUS (2 ^ k)).regN EMT_STATUS :=
      congrArg BitVec.toNat (endCause_keepsRegs _ key _ (by decide))
    rw [if_pos rfl, hstat, bit_unlatch]
    simp [bit, Nat.testBit_two_pow, eq_comm]

/-- The shutdown bit of a group clears where the host writes a one to it, the pin is high and the group is cool. -/
def State.clearGroup (value : Nat) (s : State) (g : Nat) : State :=
  s.clearBit (bit value (4 + g) && bit (s.regN EMT_STATUS) (4 + g) && !s.emt.otLow && !s.groupHot g) (4 + g)
    (causeKey 8 2 g)

theorem clearOt_eq (s : State) (value : Nat) :
    s.clearOt value = (List.range 4).foldl (State.clearGroup value)
      ((s.clearBit (bit value 8 && bit (s.regN EMT_STATUS) 8 && !s.emt.otLow) 8 (causeKey 8 1 0xFF)).unlatch EMT_STATUS
        (value &&& 0x3800)) := rfl

/-- The first groups' shutdown bits after a write of ones; every other bit stays. -/
theorem clearGroups_spec (s : State) (value : Nat) : ∀ n : Nat,
    s.clears ((List.range n).foldl (State.clearGroup value) s) ∧
    ∀ j, bit (((List.range n).foldl (State.clearGroup value) s).regN EMT_STATUS) j = (bit (s.regN EMT_STATUS) j &&
      !(decide (4 ≤ j ∧ j < 4 + n) && bit value j && !s.emt.otLow && !s.groupHot (j - 4)))
  | 0 => ⟨⟨.refl s _, .refl s _⟩, fun j => by
      have hj : ¬ (4 ≤ j ∧ j < 4 + 0) := by omega
      simp only [hj, decide_false, Bool.false_and, Bool.not_false, Bool.and_true, List.range_zero, List.foldl_nil]⟩
  | n + 1 => by
    obtain ⟨hc, hbit⟩ := clearGroups_spec s value n
    rw [List.range_succ, List.foldl_append, List.foldl_cons, List.foldl_nil]
    refine ⟨hc.trans (clearBit_clears _ _ _ _), fun j => ?_⟩
    rw [State.clearGroup, bit_clearBit, hbit, hbit, hc.otLow, hc.groupHot]
    by_cases hj : j = 4 + n
    · subst hj
      have hin : 4 ≤ 4 + n ∧ 4 + n < 4 + (n + 1) := by omega
      simp only [hin, decide_true, Nat.add_sub_cancel_left]
      cases bit (s.regN EMT_STATUS) (4 + n) <;> simp
    · have hr : (4 ≤ j ∧ j < 4 + (n + 1)) ↔ 4 ≤ j ∧ j < 4 + n := by omega
      simp only [hj, hr, decide_false, Bool.and_false, Bool.not_false, Bool.and_true]

/-- What OT_CLEAR leaves of the shutdown bits, and what it changes. -/
theorem clearOt_spec (s : State) (value : Nat) : s.clears (s.clearOt value) ∧
    bit ((s.clearOt value).regN EMT_STATUS) 8 = (bit (s.regN EMT_STATUS) 8 && (!bit value 8 || s.emt.otLow)) ∧
    ∀ g, g < 4 → bit ((s.clearOt value).regN EMT_STATUS) (4 + g) =
      (bit (s.regN EMT_STATUS) (4 + g) && (!bit value (4 + g) || s.emt.otLow || s.groupHot g)) := by
  rw [clearOt_eq]
  generalize hu : (s.clearBit _ 8 _).unlatch EMT_STATUS (value &&& 0x3800) = u
  have hcu : s.clears u := hu ▸ (clearBit_clears s _ _ _).trans (unlatch_clears _ _)
  have hbit (j : Nat) (hj : bit 0x3800 j = false) : bit (u.regN EMT_STATUS) j = (bit (s.regN EMT_STATUS) j &&
      !(bit value 8 && bit (s.regN EMT_STATUS) 8 && !s.emt.otLow && decide (j = 8))) := by
    have hm : bit (value &&& 0x3800) j = false := by
      rw [bit, Nat.testBit_and, show Nat.testBit 0x3800 j = false from hj, Bool.and_false]
    rw [← hu, bit_unlatch, hm, bit_clearBit, Bool.not_false, Bool.and_true]
  obtain ⟨hc, hgroups⟩ := clearGroups_spec u value 4
  refine ⟨hcu.trans hc, ?_, fun g hg => ?_⟩
  · rw [hgroups, hbit 8 (by decide)]
    cases bit (s.regN EMT_STATUS) 8 <;> simp
  · have hj : bit 0x3800 (4 + g) = false := by
      revert g
      decide
    rw [hgroups, hbit _ hj, hcu.otLow, hcu.groupHot]
    have h8 : 4 + g ≠ 8 := by omega
    have hin : 4 ≤ 4 + g ∧ 4 + g < 4 + 4 := by omega
    simp only [h8, hin, decide_false, decide_true, and_self, Bool.and_false, Bool.not_false, Bool.and_true,
      Bool.true_and, Bool.not_and, Bool.not_not, Nat.add_sub_cancel_left]

/-- The shutdown bit of the pin stops the emission of every group. -/
theorem noEmission_of_pin {s : State} (h : bit (s.regN EMT_STATUS) 8 = true) (g : Nat) : s.noEmission g = true := by
  simp [State.noEmission, State.emitOff, h]

/-- While emission is shut down, a pulse that a tick shows begun was on its line before. -/
theorem begun_before_after {f : Firing} {now : Nat} {l : FireLine} (hl : l ∈ (f.after now true).lines)
    (hb : l.begun = true) : ∃ k ∈ f.lines, k.begun = true ∧ k.line = l.line ∧ k.rise = l.rise ∧ k.fall = l.fall := by
  simp only [Firing.after, List.mem_filter, List.mem_map, Bool.not_true, Bool.or_false, Bool.or_eq_true,
    decide_eq_true_eq] at hl
  obtain ⟨⟨k, ⟨hk, hcase⟩, rfl⟩, -⟩ := hl
  refine ⟨k, hk, ?_, rfl, rfl, rfl⟩
  rcases hcase with hbegun | hlater
  · exact hbegun
  · simpa [Nat.not_lt.mpr hlater] using hb

theorem execOtPinShutdown_again {s : State} (h : bit (s.regN EMT_STATUS) 8 = true) :
    execOtPinShutdown s = .next { s with emt.otLow := true } := congrArg Host.Outcome.next (if_pos h)

theorem execOtPinShutdown_latches {s : State} (h : bit (s.regN EMT_STATUS) 8 = false) :
    ∃ t, execOtPinShutdown s = .next t ∧ t.emt = { s.emt with otLow := true } ∧
      t.regN EMT_STATUS = s.regN EMT_STATUS ||| 0x100 := by
  have hnot : ¬ bit (State.regN { s with emt.otLow := true } EMT_STATUS) 8 = true := by
    rw [show bit (State.regN { s with emt.otLow := true } EMT_STATUS) 8 = false from h]
    decide
  refine ⟨_, congrArg Host.Outcome.next (if_neg hnot), ?_, ?_⟩
  · exact (openEvent_keeps _ _ _ _ .emt (by decide)).trans (report_keeps _ _ _ _ _ .emt (by decide))
  · have hreg := (openEvent_keepsRegs _ 9 2 none EMT_STATUS (by decide)).trans
      (report_keepsRegs (State.latch { s with emt.otLow := true } EMT_STATUS 0x100) (causeKey 8 1 0xFF) 2 0 false
        EMT_STATUS (by decide))
    refine (congrArg BitVec.toNat hreg).trans ?_
    simp only [reg_latch_self, BitVec.toNat_or]
    rfl

/-- Settles O6: the latch behind the pin's incident, the lines that a tick leaves, and the shutdown bits one by one
through the write of ones. -/
theorem overTemperatureLatchesAndClears : Obligations.OverTemperatureLatchesAndClears := by
  refine ⟨fun s h => ?_, fun f now l hl hb => begun_before_after hl hb, fun s h => execOtPinShutdown_again h,
    fun s value pinLow => ?_⟩
  · obtain ⟨t, ht, hemt, hreg⟩ := execOtPinShutdown_latches h
    exact ⟨t, ht, hemt, hreg, noEmission_of_pin (by rw [hreg, bit, Nat.testBit_or]; simp [Nat.testBit])⟩
  · obtain ⟨⟨hk, hregs⟩, h8, hg⟩ := clearOt_spec { s with emt.otLow := pinLow } value.toNat
    exact ⟨_, rfl, hk .emt (by decide), h8, hg, fun a ha _ => hregs a (not_mem_statusRegs ha)⟩

end Sys2Proof.Machine

namespace Sys2Proof.Machine

/-! The verdicts of the short test (04 R101). -/

/-- Bit n of a mask of flags is flag n. -/
theorem bit_flags : ∀ (l : List Bool) (n : Nat), bit (flags l) n = l.getD n false
  | [], n => by simp [bit, flags]
  | b :: l, 0 => by cases b <;> simp [bit, flags, b2n, Nat.testBit_zero, Nat.add_mod]
  | b :: l, n + 1 => by
    have hb : b2n b < 2 := by cases b <;> decide
    have htail : (b2n b + 2 * flags l) / 2 = flags l := by omega
    calc bit (flags (b :: l)) (n + 1) = bit ((b2n b + 2 * flags l) / 2) n := Nat.testBit_succ _ _
      _ = l.getD n false := by rw [htail, bit_flags l n]

/-- One verdict of the pins 32 k to 32 k + 31, as a register's value. -/
def pinWord (f : Nat → Bool) (k : Nat) : Nat := flags ((List.range 32).map fun j => f (32 * k + j))

theorem bit_pinWord (f : Nat → Bool) (k : Nat) {j : Nat} (hj : j < 32) : bit (pinWord f k) j = f (32 * k + j) := by
  simp [pinWord, bit_flags, hj]

/-- One verdict of all pins, in the two registers of its kind. -/
def State.setPins (s : State) (a : Nat) (f : Nat → Bool) : State :=
  (s.setRegN a (pinWord f 0)).setRegN (a + 4) (pinWord f 1)

theorem setPins_keeps (s : State) (a : Nat) (f : Nat → Bool) : s.keeps (s.setPins a f) [.regs] :=
  (setRegN_keeps s a _).trans (setRegN_keeps _ _ _)

theorem setPins_keepsRegs (s : State) (a : Nat) (f : Nat → Bool) : s.keepsRegs (s.setPins a f) [a, a + 4] :=
  ((setReg_keepsRegs s a _).mono (by simp)).trans ((setReg_keepsRegs _ (a + 4) _).mono (by simp))

theorem regN_setPins_below (s : State) {a b : Nat} (f : Nat → Bool) (h : b < a) : (s.setPins a f).regN b = s.regN b :=
  congrArg BitVec.toNat (setPins_keepsRegs s a f b (by simp; omega))

theorem bit_setRegN_self (s : State) (a v : Nat) {j : Nat} (hj : j < 32) :
    bit ((s.setRegN a v).regN a) j = bit v j := by
  rw [regN_setRegN_self, bit, Nat.testBit_mod_two_pow, decide_eq_true hj, Bool.true_and]
  rfl

/-- A verdict reads back at its pin's bit. -/
theorem bit_setPins (s : State) (a : Nat) (f : Nat → Bool) {i : Nat} (hi : i < 64) :
    bit ((s.setPins a f).regN (a + 4 * (i / 32))) (i % 32) = f i := by
  have hj : i % 32 < 32 := Nat.mod_lt _ (by decide)
  have hsplit : 32 * (i / 32) + i % 32 = i := Nat.div_add_mod i 32
  obtain hk | hk : i / 32 = 0 ∨ i / 32 = 1 := by omega
  · rw [hk] at hsplit ⊢
    rw [State.setPins, regN_setRegN_other _ _ (by omega), Nat.mul_zero, Nat.add_zero, bit_setRegN_self _ _ _ hj,
      bit_pinWord _ _ hj, hsplit]
  · rw [hk] at hsplit ⊢
    rw [State.setPins, Nat.mul_one, bit_setRegN_self _ _ _ hj, bit_pinWord _ _ hj, hsplit]

/-- A pin is among the 61 and its group is selected. -/
def pinSelected (mask : Word) (i : Nat) : Bool := decide (i < 61) && bit mask.toNat (pinGroup i)

theorem pinSelected_of_lt (mask : Word) {i : Nat} (h : i < 61) : pinSelected mask i = bit mask.toNat (pinGroup i) := by
  rw [pinSelected, decide_eq_true h, Bool.true_and]

theorem pinSelected_of_le (mask : Word) {i : Nat} (h : 61 ≤ i) : pinSelected mask i = false := by
  rw [pinSelected, decide_eq_false (Nat.not_lt.mpr h), Bool.false_and]

/-- A pin is selected and its voltage shows a short to ground. -/
def showsGnd (mask : Word) (readings : List (Nat × Nat)) (i : Nat) : Bool :=
  pinSelected mask i && pinGnd i (nth readings i (0, 0)).1

/-- A pin is selected and its voltage shows an open line. -/
def showsOpen (mask : Word) (readings : List (Nat × Nat)) (i : Nat) : Bool :=
  pinSelected mask i && pinOpen i (nth readings i (0, 0)).1

/-- A pin or its upper neighbour is selected and the two voltages show a short between them. -/
def showsNeigh (mask : Word) (readings : List (Nat × Nat)) (i : Nat) : Bool :=
  decide (i < 60) && (pinSelected mask i || pinSelected mask (i + 1)) &&
    pinNeigh i (nth readings i (0, 0)).1 (nth readings i (0, 0)).2

/-- The six registers with the verdicts on every pin. -/
def State.showPins (s : State) (mask : Word) (readings : List (Nat × Nat)) : State :=
  ((s.setPins (EMT_SHORT_GND 0) (showsGnd mask readings)).setPins (EMT_SHORT_NEIGH 0)
    (showsNeigh mask readings)).setPins (EMT_SHORT_OPEN 0) (showsOpen mask readings)

/-- The latched bit of the short test, set when some pin shows something. -/
def State.latchPins (s : State) (mask : Word) (readings : List (Nat × Nat)) : State :=
  if (List.range 61).any fun i =>
      showsGnd mask readings i || showsOpen mask readings i || showsNeigh mask readings i then
    s.latch EMT_STATUS 0x200
  else s

theorem execShortTestDone_running {s : State} {mask : Word} {owner : Origin × Half}
    (h : s.emt.shortTest = some (mask, owner)) (readings : List (Nat × Nat)) :
    execShortTestDone readings s = .next (State.complete
      { (s.showPins mask readings).latchPins mask readings with emt.shortTest := none } owner OK 2) := by
  unfold execShortTestDone
  rw [h]
  rfl

theorem showPins_keeps (s : State) (mask : Word) (readings : List (Nat × Nat)) :
    s.keeps (s.showPins mask readings) [.regs] :=
  ((setPins_keeps s _ _).trans (setPins_keeps _ _ _)).trans (setPins_keeps _ _ _)

theorem showPins_keepsRegs (s : State) (mask : Word) (readings : List (Nat × Nat)) :
    s.keepsRegs (s.showPins mask readings) [EMT_SHORT_GND 0, EMT_SHORT_GND 1, EMT_SHORT_OPEN 0, EMT_SHORT_OPEN 1,
      EMT_SHORT_NEIGH 0, EMT_SHORT_NEIGH 1] :=
  (((setPins_keepsRegs s _ _).mono (by decide)).trans ((setPins_keepsRegs _ _ _).mono (by decide))).trans
    ((setPins_keepsRegs _ _ _).mono (by decide))

section
variable (s : State) (mask : Word) (readings : List (Nat × Nat)) {i : Nat} (hi : i < 64)
include hi

/-- Each verdict reads back from its own registers, below which the later ones are written. -/
theorem bit_showPins_open : bit ((s.showPins mask readings).regN (EMT_SHORT_OPEN (i / 32))) (i % 32) =
    showsOpen mask readings i := bit_setPins _ (EMT_SHORT_OPEN 0) _ hi

theorem bit_showPins_neigh : bit ((s.showPins mask readings).regN (EMT_SHORT_NEIGH (i / 32))) (i % 32) =
    showsNeigh mask readings i := by
  have hopen : EMT_SHORT_NEIGH (i / 32) < EMT_SHORT_OPEN 0 := by show 0x200E8 + 4 * (i / 32) < 0x200F0; omega
  rw [State.showPins, regN_setPins_below _ _ hopen]
  exact bit_setPins _ (EMT_SHORT_NEIGH 0) _ hi

theorem bit_showPins_gnd : bit ((s.showPins mask readings).regN (EMT_SHORT_GND (i / 32))) (i % 32) =
    showsGnd mask readings i := by
  have hneigh : EMT_SHORT_GND (i / 32) < EMT_SHORT_NEIGH 0 := by show 0x200E0 + 4 * (i / 32) < 0x200E8; omega
  have hopen : EMT_SHORT_GND (i / 32) < EMT_SHORT_OPEN 0 := hneigh.trans (by decide)
  rw [State.showPins, regN_setPins_below _ _ hopen, regN_setPins_below _ _ hneigh]
  exact bit_setPins _ (EMT_SHORT_GND 0) _ hi
end

theorem latchPins_keeps (s : State) (mask : Word) (readings : List (Nat × Nat)) :
    s.keeps (s.latchPins mask readings) [.regs] := .ite (latch_keeps s _ _) (.refl s _)

theorem latchPins_keepsRegs (s : State) (mask : Word) (readings : List (Nat × Nat)) :
    s.keepsRegs (s.latchPins mask readings) [EMT_STATUS] := .ite (latch_keepsRegs s _ _) (.refl s _)

/-- The end of a running short test: each verdict stands in its register at its pin's bit, and little else has
changed. -/
theorem execShortTestDone_spec {s : State} {mask : Word} {owner : Origin × Half}
    (h : s.emt.shortTest = some (mask, owner)) (readings : List (Nat × Nat)) :
    ∃ t, execShortTestDone readings s = .next t ∧
      (∀ i, i < 64 → bit (t.regN (EMT_SHORT_GND (i / 32))) (i % 32) = showsGnd mask readings i ∧
        bit (t.regN (EMT_SHORT_OPEN (i / 32))) (i % 32) = showsOpen mask readings i ∧
        bit (t.regN (EMT_SHORT_NEIGH (i / 32))) (i % 32) = showsNeigh mask readings i) ∧
      t.emt = { s.emt with shortTest := none } ∧
      s.keepsRegs t [EMT_SHORT_GND 0, EMT_SHORT_GND 1, EMT_SHORT_OPEN 0, EMT_SHORT_OPEN 1, EMT_SHORT_NEIGH 0,
        EMT_SHORT_NEIGH 1, EMT_STATUS, GLB_EVT_SEQ] ∧
      s.keeps t [.regs, .pk, .emt, .out, .ifl] := by
  have hu : s.keeps ((s.showPins mask readings).latchPins mask readings) [.regs] :=
    (showPins_keeps s mask readings).trans (latchPins_keeps _ mask readings)
  have hemt : ((s.showPins mask readings).latchPins mask readings).emt = s.emt := hu .emt (by decide)
  have hregs : (s.showPins mask readings).keepsRegs (State.complete
      { (s.showPins mask readings).latchPins mask readings with emt.shortTest := none } owner OK 2) statusRegs :=
    .trans ((latchPins_keepsRegs _ _ _).mono (by simp [statusRegs]))
      (.trans ((keeps_emt _ _).toRegs (by decide) _) ((complete_keepsRegs _ _ _ _ _).mono (by simp [statusRegs])))
  refine ⟨_, execShortTestDone_running h readings, fun i hi => ⟨?_, ?_, ?_⟩, ?_,
    ((showPins_keepsRegs s mask readings).mono (by simp)).trans (hregs.mono (by simp [statusRegs])),
    .after (complete_keeps_undrawn _ _ _ _ _) rfl (.after (keeps_emt _ _) rfl (.first hu rfl))⟩
  · rw [State.regN, hregs _ (not_mem_statusRegs (by show 0x20000 < 0x200E0 + 4 * (i / 32); omega))]
    exact bit_showPins_gnd s mask readings hi
  · rw [State.regN, hregs _ (not_mem_statusRegs (by show 0x20000 < 0x200F0 + 4 * (i / 32); omega))]
    exact bit_showPins_open s mask readings hi
  · rw [State.regN, hregs _ (not_mem_statusRegs (by show 0x20000 < 0x200E8 + 4 * (i / 32); omega))]
    exact bit_showPins_neigh s mask readings hi
  · refine (complete_keeps_undrawn _ _ _ _ _ .emt (by decide)).trans ?_
    simp only [hemt]

/-! The chain and the wire (04 R103 to R105, R108). -/

section
variable {s : State} {readback : List Byte} {end_ : Nat} {d : Deferred} (hr : s.emt.chainRead = some (readback, end_))
  (hd : s.pk.deferred = some d)
include hr hd

theorem execChainLatch_shifted (he : end_ ≤ s.time) (hl : s.badBoard readback = none → s.latchReady end_ = true) :
    execChainLatch s = .next (match s.badBoard readback with
      | some b => (State.chainFault { s with emt.chainRead := none } b).finishDeferred STATE
      | none => s.chainLatched.finishDeferred OK 0 readback) := by
  simp only [execChainLatch, hr, hd]
  rw [if_neg (Nat.not_lt.mpr he)]
  cases hb : s.badBoard readback with
  | some b => rfl
  | none => exact congrArg Host.Outcome.next (if_pos (hl hb))

theorem execChainLatTimeout_late (hb : s.badBoard readback = none) (he : end_ + ticksMs 10 ≤ s.time) :
    execChainLatTimeout s = .next
      (State.finishDeferred { s.latch EMT_CHAIN_STATUS 0x4000 with emt.chainRead := none } STATE) := by
  simp only [execChainLatTimeout, hr, hd]
  exact congrArg Host.Outcome.next (if_pos ⟨he, by rw [hb]; rfl⟩)
end

theorem execWireDone_ended {s : State} {t : Nat} (hw : s.emt.wireEnd = some t) (ht : t ≤ s.time) :
    execWireDone s = .next (State.finishDeferred { s with emt.wireEnd := none, emt.wireHigh := true } OK) := by
  simp only [execWireDone, hw]
  exact congrArg Host.Outcome.next (if_pos ht)

/-- Settles O5: each transfer begins behind its checks and ends when it is due; the verdicts of the short test read
back from their registers, which the end of the test leaves. -/
theorem emitterTransfersComplete : Obligations.EmitterTransfersComplete := by
  refine ⟨⟨fun s u o r e h hl ht => congrArg Host.Outcome.next (serve_answeredAccepted h ?_),
    fun s u o r e sdi h => congrArg Host.Outcome.next (serve_deferring h rfl),
    fun s u o r e h hl hw => congrArg Host.Outcome.next (serve_deferring h ?_),
    fun s readback end_ d hr hd he hl => execChainLatch_shifted hr hd he hl,
    fun s readback end_ d hr hd hb he => execChainLatTimeout_late hr hd hb he,
    fun s t hw ht => execWireDone_ended hw ht⟩, fun s readings mask owner h => ?_⟩
  · have hnone : (!u.anyLive) = true := congrArg (!·) hl
    have hfree : u.emt.shortTest.isNone = true := congrArg Option.isNone ht
    simp only [shortTestOp]
    rw [doneIf_pass hnone, doneIf_pass hfree]
    rfl
  · have hnone : (!u.anyLive) = true := congrArg (!·) hl
    simp only [wireWriteOp, payload_packet]
    rw [doneIf_pass hnone, doneIf_pass hw]
    rfl
  · obtain ⟨t, ht, hpins, hrest⟩ := execShortTestDone_spec h readings
    have hgnd (i : Nat) (hi : i < 64) := (hpins i hi).1
    have hopen (i : Nat) (hi : i < 64) := (hpins i hi).2.1
    have hneigh (i : Nat) (hi : i < 64) := (hpins i hi).2.2
    have hupper {i : Nat} (hi : 60 ≤ i) (hi' : i < 64) : i / 32 = 1 := by omega
    refine ⟨t, ht, fun i hi => ⟨?_, ?_⟩, fun i hi => ?_, fun i hi hi' => ⟨?_, ?_⟩, fun i hi hi' => ?_, hrest⟩
    · rw [hgnd i (by omega), showsGnd, pinSelected_of_lt mask hi]
    · rw [hopen i (by omega), showsOpen, pinSelected_of_lt mask hi]
    · rw [hneigh i (by omega), showsNeigh, pinSelected_of_lt mask (by omega), pinSelected_of_lt mask (by omega),
        decide_eq_true hi, Bool.true_and]
    · rw [← hupper (by omega) hi', hgnd i hi', showsGnd, pinSelected_of_le mask hi, Bool.false_and]
    · rw [← hupper (by omega) hi', hopen i hi', showsOpen, pinSelected_of_le mask hi, Bool.false_and]
    · rw [← hupper hi hi', hneigh i hi', showsNeigh, decide_eq_false (Nat.not_lt.mpr hi), Bool.false_and,
        Bool.false_and]

end Sys2Proof.Machine

namespace Sys2Proof.Machine

/-! The commands of family 0x7 behind their checks (05 R116, R124 to R126, R128, R130, R135). -/

/-- A check that applies only where a test fails. -/
theorem or_eq_true_of_imp {a b : Bool} (h : a = false → b = true) : (a || b) = true := by
  cases a with
  | false => exact h rfl
  | true => rfl

/-- An effect that ends OK with an empty reply. -/
def Done.ofState (s : State) : Done := { st := s }

section
variable {u : State} {o : Origin} {r : Request}

/-- LOOP_SWAP behind its checks: every selected loop waits for its swap, those in mode 0 swap, and the reply waits
while one of them still has to. -/
theorem loopSwap_act {u' v : State} (hvalid : ∀ k ∈ maskUnits (field r.payload 0 2), (u.loop k).shdValid = true)
    (hu : (maskUnits (field r.payload 0 2)).foldl
      (fun t k => t.setLoop k fun l => { l with pendSwap := true }) u = u')
    (hrate : u'.rateOk = true ∨ ∀ k ∈ maskUnits (field r.payload 0 2), (u.loop k).nextMode = 0)
    (hv : (maskUnits (field r.payload 0 2)).foldl
      (fun (t : State) k => if (t.loop k).mode = 0 then t.setLoop k ControlLoop.swapBanks else t) u' = v) :
    loopSwapOp.act u o (r.packet 0x71) =
      { st := v, defer := (maskUnits (field r.payload 0 2)).any fun k => (v.loop k).pendSwap } := by
  subst hu hv
  simp only [loopSwapOp, payload_packet]
  rw [doneIf_pass (List.all_eq_true.mpr hvalid), doneIf_pass, doneIf_nil]
  simpa using hrate

/-- LOOP_SETPOINT of a loop whose set-point no other loop drives. -/
theorem loopSetpoint_act (h : u.cascaded (field r.payload 0 1) = false) :
    loopSetpointOp.act u o (r.packet 0x72) =
      { st := u.setPoint (field r.payload 0 1) (fieldInt r.payload 4 4) } := by
  have hfree : (!u.cascaded (field r.payload 0 1)) = true := congrArg (!·) h
  simp only [loopSetpointOp, payload_packet]
  rw [doneIf_pass hfree, doneIf_nil]

/-- LOOP_MODE behind its checks: at once from mode 0, else at the next sample. -/
theorem loopMode_act {k m : Nat} {v : State} (hk : field r.payload 0 1 = k) (hm : field r.payload 1 1 = m)
    (hv : u.setLoop k (fun l => { l with pendMode := some m }) = v)
    (hon : m ≠ 0 → (if (u.loop k).pendSwap = true then (u.loop k).shdValid else (u.loop k).actValid) = true ∧
      v.rateOk = true)
    (hin : m = 2 → (u.loop k).inSel ≠ 0xFF) :
    loopModeOp.act u o (r.packet 0x73) = { st :=
      if (u.loop k).mode = 0 then
        (if m = 0 then u else u.setLoop k fun l => { l.enter m with nextAt := u.time5 })
      else if m = (u.loop k).mode then u.setLoop k fun l => { l with pendMode := none } else v } := by
  subst hk hm hv
  simp only [loopModeOp, payload_packet]
  rw [doneIf_pass, doneIf_pass, doneIf_pass, doneIf_nil]
  · refine (ite_not ..).trans (.trans ?_ (apply_ite Done.ofState _ _ _).symm)
    exact ite_congr rfl (fun _ => (apply_ite Done.ofState _ _ _).symm) fun _ => rfl
  · exact or_eq_true_of_imp fun h => (hon (beq_eq_false_iff_ne.mp h)).2
  · exact or_eq_true_of_imp fun h => bne_iff_ne.mpr (hin (by simpa using h))
  · exact or_eq_true_of_imp fun h => (hon (beq_eq_false_iff_ne.mp h)).1

/-- LOOP_IO of a stopped loop whose new output no other loop drives and whose cascade closes no circle. -/
theorem loopIo_act {k out : Nat} (hk : field r.payload 0 1 = k) (hout : field r.payload 2 1 = out)
    (hmode : (u.loop k).mode = 0)
    (hfree : out ≠ 0xFF → ∀ j, j < 16 → j ≠ k → (u.loop j).outSel.toNat ≠ out)
    (hcycle : 0x20 ≤ out → out ≤ 0x2F → u.cascadeReaches k 17 (out - 0x20) = false) :
    loopIoOp.act u o (r.packet 0x74) = { st := u.setLoop k fun l =>
      { l with inSel := BitVec.ofNat 8 (field r.payload 1 1), outSel := BitVec.ofNat 8 out } } := by
  subst hk hout
  simp only [loopIoOp, payload_packet]
  rw [doneIf_pass (beq_iff_eq.mpr hmode), doneIf_pass, doneIf_pass, doneIf_nil]
  · rw [Bool.not_eq_true', Bool.and_eq_false_imp]
    exact fun h => hcycle (of_decide_eq_true h).1 (of_decide_eq_true h).2
  · rw [Bool.not_eq_true', Bool.and_eq_false_imp]
    simpa using hfree
end

/-- Settles O27: each command's effect, behind an accepted packet and the checks of the loops' state. -/
theorem loopCommandsComplete : Obligations.LoopCommandsComplete := by
  refine ⟨fun s u o r e h => congrArg Host.Outcome.next (serve_answered h rfl), ?_,
    fun s u o r e h hc => congrArg Host.Outcome.next (serve_answered h (loopSetpoint_act hc)), ?_, ?_⟩
  · intro s u o r e h ks u' v hvalid hrate
    have hact := loopSwap_act (o := o) hvalid rfl hrate rfl
    refine ⟨fun hnone => congrArg Host.Outcome.next (serve_answered h ?_),
      fun hsome => congrArg Host.Outcome.next (serve_deferring h ?_)⟩
    · have hd : (ks.any fun k => (v.loop k).pendSwap) = false := by simpa using hnone
      exact hact.trans (congrArg (fun d => { st := v, defer := d : Done }) hd)
    · have hd : (ks.any fun k => (v.loop k).pendSwap) = true := by simpa using hsome
      exact hact.trans (congrArg (fun d => { st := v, defer := d : Done }) hd)
  · intro s u o r e h k m l v hon hin
    exact congrArg Host.Outcome.next (serve_answered h (loopMode_act rfl rfl rfl hon hin))
  · intro s u o r e h k out hmode hfree hcycle
    exact congrArg Host.Outcome.next (serve_answered h (loopIo_act rfl rfl hmode hfree hcycle))

end Sys2Proof.Machine

namespace Sys2Proof.Machine

/-! A change of a loop (05 R115). -/

section
variable (s : State) (k : Nat) (f g : ControlLoop → ControlLoop) (x : ControlLoop)

theorem loop_setLoop_self (h : k < s.cle.loops.length) : (s.setLoop k f).loop k = f (s.loop k) :=
  nth_upd_self _ _ _ _ h

theorem loop_setLoop_other {j : Nat} (h : j ≠ k) : (s.setLoop k f).loop j = s.loop j := nth_upd_other _ _ _ h

theorem length_loops_setLoop : (s.setLoop k f).cle.loops.length = s.cle.loops.length := length_upd _ _ _

/-- A change of a loop that is there gives it the value that its present one is taken to. -/
theorem setLoop_eq_put (h : k < s.cle.loops.length) : s.setLoop k f = s.setLoop k fun _ => f (s.loop k) := by
  have hl : upd s.cle.loops k f = upd s.cle.loops k fun _ => f (s.loop k) := by
    simp [upd, List.modify_eq_set_get _ h, State.loop, nth, h]
  exact congrArg (fun l => { s with cle.loops := l }) hl

/-- A loop given a value, and then changed. -/
theorem setLoop_put : (s.setLoop k fun _ => x).setLoop k g = s.setLoop k fun _ => g x := by
  have hl : upd (upd s.cle.loops k fun _ => x) k g = upd s.cle.loops k fun _ => g x := List.modify_modify_eq ..
  exact congrArg (fun l => { s with cle.loops := l }) hl

theorem setLoop_put_self (h : k < s.cle.loops.length) : (s.setLoop k fun _ => s.loop k) = s := by
  have hl : upd s.cle.loops k (fun _ => s.loop k) = s.cle.loops := by
    simp [upd, List.modify_eq_set_get _ h, State.loop, nth, h]
  exact congrArg (fun l => { s with cle.loops := l }) hl
end

/-! The boundary of a sample (05 R127 to R129). -/

/-- The changes of a boundary in their order: the swap, the mode, the set-point. -/
def ControlLoop.atBoundary (l : ControlLoop) : ControlLoop :=
  let l := if l.pendSwap then l.swapBanks else l
  let l := l.pendMode.elim l l.enter
  { l with w := l.pendW.getD l.w, pendW := none }

/-- The sample period of a loop in units of 0.2 ns (05 R115, R125). -/
def ControlLoop.period (l : ControlLoop) : Nat := 25 * max 1 (bankDiv l.active)

/-- The first instant of a loop's grid behind the present one that is not past. -/
def ControlLoop.instantAfter (l : ControlLoop) (now : Nat) : Nat :=
  l.nextAt + l.period * max 1 (ceilDiv (now - l.nextAt) l.period)

theorem ControlLoop.period_pos (l : ControlLoop) : 0 < l.period := by
  unfold ControlLoop.period
  omega

theorem ControlLoop.lt_instantAfter (l : ControlLoop) (now : Nat) : l.nextAt < l.instantAfter now :=
  Nat.lt_add_of_pos_right (Nat.mul_pos l.period_pos (by omega))

theorem ControlLoop.le_instantAfter (l : ControlLoop) (now : Nat) : now ≤ l.instantAfter now := by
  have hpos := l.period_pos
  have hceil : now - l.nextAt ≤ l.period * ceilDiv (now - l.nextAt) l.period := by
    unfold ceilDiv
    have := Nat.lt_mul_div_succ (now - l.nextAt + l.period - 1) hpos
    rw [Nat.mul_add] at this
    omega
  have hmax := Nat.mul_le_mul_left l.period (Nat.le_max_right 1 (ceilDiv (now - l.nextAt) l.period))
  unfold ControlLoop.instantAfter
  omega

/-- Entering a mode puts it into force, and leaves what else a boundary settles. -/
theorem enter_settings (l : ControlLoop) (m : Nat) :
    (l.enter m).mode = m ∧ (l.enter m).pendMode = none ∧ (l.enter m).pendSwap = l.pendSwap ∧
      (l.enter m).active = l.active ∧ (l.enter m).w = l.w ∧ (l.enter m).pendW = l.pendW ∧
      (l.enter m).nextAt = l.nextAt ∧ (l.enter m).outSel = l.outSel := by
  unfold ControlLoop.enter
  split_ifs <;> exact ⟨rfl, rfl, rfl, rfl, rfl, rfl, rfl, rfl⟩

/-- What the boundary makes of a loop: the waiting swap, mode and set-point are in force. -/
theorem atBoundary_settled (l : ControlLoop) :
    l.atBoundary.mode = l.pendMode.getD l.mode ∧ l.atBoundary.pendMode = none ∧ l.atBoundary.pendSwap = false ∧
      l.atBoundary.active = (if l.pendSwap = true then l.shadow else l.active) ∧
      l.atBoundary.w = l.pendW.getD l.w ∧ l.atBoundary.pendW = none ∧ l.atBoundary.nextAt = l.nextAt ∧
      l.atBoundary.outSel = l.outSel := by
  unfold ControlLoop.atBoundary
  extract_lets a b
  have ha : a.mode = l.mode ∧ a.pendMode = l.pendMode ∧ a.pendSwap = false ∧
      a.active = (if l.pendSwap = true then l.shadow else l.active) ∧ a.w = l.w ∧ a.pendW = l.pendW ∧
      a.nextAt = l.nextAt ∧ a.outSel = l.outSel := by
    unfold a
    cases hs : l.pendSwap with
    | false => exact ⟨rfl, rfl, hs, rfl, rfl, rfl, rfl, rfl⟩
    | true => exact ⟨rfl, rfl, rfl, rfl, rfl, rfl, rfl, rfl⟩
  obtain ⟨hmode, hpend, hswap, hact, hw, hpw, hnext, hout⟩ := ha
  have hb : b.mode = a.pendMode.getD a.mode ∧ b.pendMode = none ∧ b.pendSwap = a.pendSwap ∧ b.active = a.active ∧
      b.w = a.w ∧ b.pendW = a.pendW ∧ b.nextAt = a.nextAt ∧ b.outSel = a.outSel := by
    unfold b
    cases hm : a.pendMode with
    | none => exact ⟨rfl, hm, rfl, rfl, rfl, rfl, rfl, rfl⟩
    | some m => exact enter_settings a m
  obtain ⟨hbmode, hbpend, hbswap, hbact, hbw, hbpw, hbnext, hbout⟩ := hb
  refine ⟨hbmode.trans ?_, hbpend, hbswap.trans hswap, hbact.trans hact, ?_, rfl, hbnext.trans hnext, hbout.trans hout⟩
  · rw [hpend, hmode]
  · show b.pendW.getD b.w = _
    rw [hbpw, hbw, hpw, hw]

theorem bit_latch (s : State) (a m k : Nat) (hk : k < 32) :
    bit ((s.latch a m).regN a) k = (bit (s.regN a) k || bit m k) := by
  simp only [bit, State.regN, reg_latch_self, BitVec.testBit_toNat, BitVec.getLsbD_or, BitVec.getLsbD_ofNat, hk,
    decide_true, Bool.true_and]

/-- A due sample (05 R115, R117): the loop is on, the clocks of the loops run, its instant is reached, and neither the
evaluation in progress nor a loop of a lower number holds it back. -/
def State.sampleDue (s : State) (k : Nat) : Prop :=
  (s.loop k).mode ≠ 0 ∧ s.cle.pllLost = false ∧ s.seq.clockHold = false ∧ (s.loop k).nextAt ≤ s.time5 ∧
    s.cle.evalUntil ≤ s.time5 ∧ s.loopBefore k = false

theorem not_held_of_sampleDue {s : State} {k : Nat} (h : s.sampleDue k) :
    ¬ ((s.loop k).mode = 0 ∨ s.cle.pllLost = true ∨ s.seq.clockHold = true ∨ s.time5 < (s.loop k).nextAt ∨
      s.time5 < s.cle.evalUntil ∨ s.loopBefore k = true) := by
  obtain ⟨hon, hpll, hhold, hdue, hfree, hfirst⟩ := h
  simp [hon, hpll, hhold, hfirst, hdue, hfree]

/-- The boundary's changes, applied one by one. -/
theorem applyBoundary_eq {s s1 s2 : State} {k : Nat} (hk : k < s.cle.loops.length)
    (h1 : s1 = if (s.loop k).pendSwap = true then s.setLoop k ControlLoop.swapBanks else s)
    (h2 : s2 = (s1.loop k).pendMode.elim s1 fun m => s1.setLoop k fun l => l.enter m) :
    (s2.setLoop k fun l => { l with w := l.pendW.getD l.w, pendW := none }) =
      s.setLoop k fun _ => (s.loop k).atBoundary := by
  have hs1 : s1 = s.setLoop k fun _ => if (s.loop k).pendSwap = true then (s.loop k).swapBanks else s.loop k := by
    rw [h1]
    split
    · exact setLoop_eq_put s k _ hk
    · exact (setLoop_put_self s k hk).symm
  have hl1 := congrArg (State.loop · k) hs1
  simp only [loop_setLoop_self s k _ hk] at hl1
  rw [hl1] at h2
  have hs2 : s2 = s.setLoop k fun _ => (s1.loop k).pendMode.elim (s1.loop k) (s1.loop k).enter := by
    rw [h2, hl1]
    cases hm : (if (s.loop k).pendSwap = true then (s.loop k).swapBanks else s.loop k).pendMode with
    | none => exact hs1
    | some m => exact (congrArg (State.setLoop · k _) hs1).trans (setLoop_put ..)
  rw [hs2, setLoop_put, hl1]
  rfl

/-- A due sample: the boundary's changes and the next instant stand when the evaluation begins, and a start after
the next instant has set OVERRUN. -/
theorem execLoopEvaluation_due {s : State} {k : Fin 16} {x : ControlLoop} (hlen : s.cle.loops.length = 16)
    (hx : (s.loop k).atBoundary = x) (hdue : s.sampleDue k) (hstay : (s.loop k).pendMode ≠ some 0) :
    ∃ t : State, exec (.loopEvaluation k) s = .next (t.evaluate k).swapDone ∧ t.cle.loops.length = 16 ∧
      t.loop k = { x with nextAt := x.instantAfter s.time5 } ∧ t.cle.evalUntil = s.time5 + 1150 ∧
      (x.nextAt + x.period < s.time5 → bit (t.regN (CLE_LOOP_STAT k)) 5 = true) := by
  have hk : k.val < s.cle.loops.length := by omega
  have hnext : (s.loop k).nextAt = x.nextAt := by
    obtain ⟨-, -, -, -, -, -, h, -⟩ := atBoundary_settled (s.loop k)
    exact h.symm.trans (congrArg ControlLoop.nextAt hx)
  show ∃ t : State, execLoopEvaluation k s = .next (t.evaluate k).swapDone ∧ _
  unfold execLoopEvaluation
  extract_lets l s1 s2 s3 div late s4 s5 s6
  rw [if_neg (not_held_of_sampleDue hdue), if_neg hstay]
  have h2 : s2 = (s1.loop k).pendMode.elim s1 fun m => s1.setLoop k fun l => l.enter m := by
    unfold s2
    cases (s1.loop k).pendMode <;> rfl
  have h3 : s3 = s.setLoop k fun _ => x := hx ▸ applyBoundary_eq hk rfl h2
  have hl3 : s3.loop k = x := by rw [h3, loop_setLoop_self s k _ hk]
  have ht3 : s3.time5 = s.time5 := by rw [h3]; rfl
  have hlen3 : s3.cle.loops.length = 16 := by rw [h3, length_loops_setLoop, hlen]
  have hdiv : div = x.period := by rw [← hl3]; rfl
  have h4 : s4.cle = s3.cle ∧ s4.time5 = s3.time5 := by
    unfold s4
    split <;> exact ⟨rfl, rfl⟩
  have hlen4 : s4.cle.loops.length = 16 := by rw [h4.1, hlen3]
  have hl4 : s4.loop k = x := by
    unfold State.loop at hl3 ⊢
    rw [h4.1, hl3]
  have ht4 : s4.time5 = s.time5 := h4.2.trans ht3
  refine ⟨_, rfl, (length_loops_setLoop s4 k _).trans hlen4, ?_, congrArg (· + 1150) ht4, fun hlate => ?_⟩
  · refine (loop_setLoop_self s4 k _ (by omega)).trans ?_
    rw [hl4, hdiv, ht4, show l.nextAt = x.nextAt from hnext]
    rfl
  · have hl : late := by
      unfold late
      rw [hdiv, ht3, show l.nextAt = x.nextAt from hnext]
      omega
    have hs4 : s4 = (s3.latch (CLE_LOOP_STAT k) 0x20).latch CLE_STATUS 0x10000 := if_pos hl
    show bit (s4.regN (CLE_LOOP_STAT k)) 5 = true
    have hother : s4.regN (CLE_LOOP_STAT k) = (s3.latch (CLE_LOOP_STAT k) 0x20).regN (CLE_LOOP_STAT k) := by
      rw [hs4]
      exact congrArg BitVec.toNat (reg_latch_other _ _ (by show 0x30100 + 4 * k.val ≠ 0x30000; omega))
    rw [hother, bit_latch _ _ _ _ (by decide)]
    exact Bool.or_true _

/-! One evaluation (05 R120 to R123, R127, R133). -/

theorem hkInput_keeps (s : State) (code : Nat) : s.keeps (s.hkInput code).2.2 [.drawn] := by
  unfold State.hkInput
  extract_lets c r
  split
  · split
    · exact .refl s _
    · exact draw_keeps s 60
  · exact .refl s _

theorem feedForward_keeps (s : State) (l : ControlLoop) : s.keeps (s.feedForward l).2.2 [.drawn] := by
  unfold State.feedForward
  extract_lets b ff
  split
  · exact hkInput_keeps s _
  · split <;> exact .refl s _
  · exact .refl s _

/-- A measurement draws free values, and changes of its loop what it keeps of the encoder. -/
theorem measure_spec (s : State) (l : ControlLoop) (first : Bool) : ∃ p t n d,
    (s.measure l first).2.2.1 = { l with encP := p, encT := t, encVn := n, encVd := d } ∧
      s.keeps (s.measure l first).2.2.2 [.drawn] := by
  unfold State.measure
  extract_lets c x n off p v m l'
  split
  · exact ⟨_, _, _, _, rfl, hkInput_keeps s c⟩
  split
  · exact ⟨_, _, _, _, rfl, .refl s _⟩
  split
  · exact ⟨_, _, _, _, rfl, .refl s _⟩
  · have hl : ∃ p t n d, l' = { l with encP := p, encT := t, encVn := n, encVd := d } := by
      unfold l'
      split <;> exact ⟨_, _, _, _, rfl⟩
    obtain ⟨_, _, _, _, hl⟩ := hl
    exact ⟨_, _, _, _, hl, .refl s _⟩

/-- What an evaluation leaves of its loop: what its commands and its boundary set. -/
structure ControlLoop.EvaluatesTo (l x : ControlLoop) : Prop where
  mode : x.mode = l.mode
  pendMode : x.pendMode = l.pendMode
  pendSwap : x.pendSwap = l.pendSwap
  active : x.active = l.active
  w : x.w = l.w
  pendW : x.pendW = l.pendW
  nextAt : x.nextAt = l.nextAt
  entered : x.entered = none
  clamped : fieldInt l.active 8 2 ≤ fieldInt l.active 10 2 →
    fieldInt l.active 8 2 ≤ x.uPrev ∧ x.uPrev ≤ fieldInt l.active 10 2

theorem clampInt_bounds {lo hi : Int} (h : lo ≤ hi) (v : Int) : lo ≤ clampInt lo hi v ∧ clampInt lo hi v ≤ hi := by
  unfold clampInt
  omega

/-- What a change leaves of a loop as one of the engine's: the loop, the evaluation in progress, and OVERRUN. -/
structure State.KeepsLoop (s t : State) (k : Nat) : Prop where
  loop : t.loop k = s.loop k
  length : t.cle.loops.length = s.cle.loops.length
  evalUntil : t.cle.evalUntil = s.cle.evalUntil
  overrun : bit (t.regN (CLE_LOOP_STAT k)) 5 = bit (s.regN (CLE_LOOP_STAT k)) 5

theorem State.KeepsLoop.refl (s : State) (k : Nat) : s.KeepsLoop s k := ⟨rfl, rfl, rfl, rfl⟩

theorem State.KeepsLoop.trans {s t u : State} {k : Nat} (h : s.KeepsLoop t k) (g : t.KeepsLoop u k) : s.KeepsLoop u k :=
  ⟨g.loop.trans h.loop, g.length.trans h.length, g.evalUntil.trans h.evalUntil, g.overrun.trans h.overrun⟩

theorem State.KeepsLoop.ite {s t u : State} {k : Nat} {c : Prop} [Decidable c] (ht : s.KeepsLoop t k)
    (hu : s.KeepsLoop u k) : s.KeepsLoop (if c then t else u) k := by
  split
  · exact ht
  · exact hu

/-- A change that leaves the loops' engine and the status of a loop. -/
theorem State.KeepsLoop.of_cle {s t : State} {k : Nat} (hc : t.cle = s.cle)
    (hr : bit (t.regN (CLE_LOOP_STAT k)) 5 = bit (s.regN (CLE_LOOP_STAT k)) 5) : s.KeepsLoop t k :=
  ⟨congrArg (fun c : LoopUnit => nth c.loops k _) hc, congrArg (fun c : LoopUnit => c.loops.length) hc,
    congrArg LoopUnit.evalUntil hc, hr⟩

theorem State.KeepsLoop.of_keeps {s t : State} {l : List Part} (h : s.keeps t l) (hc : Part.cle ∉ l)
    (hr : Part.regs ∉ l) (k : Nat) : s.KeepsLoop t k :=
  .of_cle (h .cle hc) (congrArg (fun w : Word => bit w.toNat 5) (reg_congr (h .regs hr) _))

theorem State.KeepsLoop.setLoop {s t : State} {k : Nat} (h : s.KeepsLoop t k) (hk : k < s.cle.loops.length)
    (f : ControlLoop → ControlLoop) : (s.setLoop k f).KeepsLoop (t.setLoop k f) k where
  loop := by rw [loop_setLoop_self s k f hk, loop_setLoop_self t k f (h.length ▸ hk), h.loop]
  length := by rw [length_loops_setLoop, length_loops_setLoop, h.length]
  evalUntil := h.evalUntil
  overrun := h.overrun

theorem setLoop_keepsLoop_other (s : State) {j k : Nat} (f : ControlLoop → ControlLoop) (h : k ≠ j) :
    s.KeepsLoop (s.setLoop j f) k := ⟨loop_setLoop_other s j f h, length_loops_setLoop s j f, rfl, rfl⟩

/-- A flag of a loop's status other than OVERRUN. -/
theorem State.KeepsLoop.latch {s t : State} {k m : Nat} (h : s.KeepsLoop t k) (hm : bit m 5 = false) :
    s.KeepsLoop (t.latch (CLE_LOOP_STAT k) m) k :=
  h.trans (.of_cle rfl (by rw [bit_latch _ _ _ _ (by decide), hm, Bool.or_false]))

theorem State.KeepsLoop.unlatch {s t : State} {k m : Nat} (h : s.KeepsLoop t k) (hm : bit m 5 = false) :
    s.KeepsLoop (t.unlatch (CLE_LOOP_STAT k) m) k :=
  h.trans (.of_cle rfl (by rw [bit_unlatch, hm, Bool.not_false, Bool.and_true]))

theorem State.KeepsLoop.latchStatus {s t : State} {k : Nat} (h : s.KeepsLoop t k) (m : Nat) :
    s.KeepsLoop (t.latch CLE_STATUS m) k :=
  h.trans (.of_cle rfl (congrArg (fun w : Word => bit w.toNat 5)
    (reg_latch_other t m (by show 0x30100 + 4 * k ≠ 0x30000; omega))))

/-- An output that is no cascade into a loop leaves that loop. -/
theorem driveOutput_keepsLoop (s : State) {k sel : Nat} (h : sel ≠ 0x20 + k) (u : Int) :
    s.KeepsLoop (s.driveOutput sel u) k := by
  unfold State.driveOutput
  extract_lets code slot
  have hspi (x) : s.KeepsLoop { s with cle.spi := x } k := ⟨rfl, rfl, rfl, rfl⟩
  refine .ite ⟨rfl, rfl, rfl, rfl⟩ (.ite ⟨rfl, rfl, rfl, rfl⟩ (.ite (.ite ?_ ⟨rfl, rfl, rfl, rfl⟩) ?_))
  · exact .latchStatus (hspi _) _
  · split
    · next hs => exact setLoop_keepsLoop_other s _ (by omega)
    · exact .refl s k

theorem finishDeferred_keepsLoop (s : State) (st d : Nat) (pl : List Byte) (k : Nat) :
    s.KeepsLoop (s.finishDeferred st d pl) k := by
  unfold State.finishDeferred
  split
  · exact .refl s k
  · refine .trans (t := { s with pk.deferred := none }) ⟨rfl, rfl, rfl, rfl⟩ (.of_cle ?_ ?_)
    · exact finish_keeps _ _ _ _ _ _ _ .cle (by decide)
    · refine congrArg (fun w : Word => bit w.toNat 5) (finish_keepsRegs _ _ _ _ _ _ _ _ ?_)
      rw [List.mem_singleton]
      show 0x30100 + 4 * k ≠ 0x00004
      omega

theorem swapDone_keepsLoop (s : State) (k : Nat) : s.KeepsLoop s.swapDone k := by
  unfold State.swapDone
  split
  · exact .ite (finishDeferred_keepsLoop s _ _ _ k) (.refl s k)
  · exact .refl s k

/-- An evaluation gives its loop a value with the clamped output within its limits, and else keeps what a change of
the loop's own value keeps. -/
theorem evaluate_spec {s : State} {k : Nat} (hk : k < s.cle.loops.length)
    (hout : (s.loop k).outSel.toNat ≠ 0x20 + k) :
    ∃ x, (s.loop k).EvaluatesTo x ∧ (s.setLoop k fun _ => x).KeepsLoop (s.evaluate k) k := by
  unfold State.evaluate
  extract_lets l b fresh
  have hmeas : ∃ p t n d,
      (if l.mode = 2 then s.measure l l.entered.isSome else (0, false, l, s)).2.2.1 =
        { l with encP := p, encT := t, encVn := n, encVd := d } ∧
      s.keeps (if l.mode = 2 then s.measure l l.entered.isSome else (0, false, l, s)).2.2.2 [.drawn] := by
    split
    · exact measure_spec s l _
    · exact ⟨_, _, _, _, rfl, .refl s _⟩
  split
  next m stale l1 s1 hm =>
  rw [hm] at hmeas
  obtain ⟨ep, et, en, ed, hl1, hs1⟩ := hmeas
  dsimp only at hl1 hs1
  extract_lets meas mf lim vPrev l2 ff s2 e p d r r' core out s3 s4 s5 s6 s7
  have hl2 : ∃ r v i mf' vp, l2 =
      { l1 with r := r, v := v, vPrev := vp, integ := i, mf := mf' } := by
    unfold l2
    split <;> exact ⟨_, _, _, _, _, rfl⟩
  have hcore : ∃ v, core.2.1 = clampInt (fieldInt b 8 2) (fieldInt b 10 2) v := by
    unfold core
    split
    · exact ⟨_, rfl⟩
    · split <;> exact ⟨_, rfl⟩
  have hs2 : s.KeepsLoop s2 k :=
    .of_keeps (hs1.trans (feedForward_keeps s1 l2)) (by decide) (by decide) k
  clear_value core s2 l2
  obtain ⟨_, _, _, _, _, rfl⟩ := hl2
  obtain ⟨v, hv⟩ := hcore
  refine ⟨_, ?_, State.KeepsLoop.trans (t := s3) (hs2.setLoop hk _) ?_⟩
  · subst hl1
    exact ⟨rfl, rfl, rfl, rfl, rfl, rfl, rfl, rfl, fun h => hv ▸ clampInt_bounds h v⟩
  · have h4 : s3.KeepsLoop s4 k := by
      unfold s4
      split
      · exact .latch (.refl s3 k) rfl
      · exact .unlatch (.refl s3 k) rfl
      · exact .refl s3 k
    have h5 : s3.KeepsLoop s5 k := .ite (.latch h4 rfl) h4
    have h6 : s3.KeepsLoop s6 k := .ite (.latch h5 rfl) h5
    have h7 : s3.KeepsLoop s7 k := .ite (.latch h6 rfl) h6
    exact h7.trans (driveOutput_keepsLoop s7 (by subst hl1; exact hout) _)

/-! Waveforms and frames (05 R136, R138). -/

theorem nth_set_self {α : Type} {l : List α} {i : Nat} (h : i < l.length) (x d : α) : nth (l.set i x) i d = x := by
  simp [nth, h]

theorem nth_set_other {α : Type} (l : List α) {i k : Nat} (h : k ≠ i) (x d : α) : nth (l.set i x) k d = nth l k d := by
  simp [nth, Ne.symm h]

theorem execPwmPeriod_spec {s : State} {n : Fin 16} {old new : Option Nat}
    (hn : nth s.cle.pwm n (none, none) = (old, new)) (hpwm : s.cle.pwm.length = 16)
    (hhigh : s.cle.pwmHigh.length = 16) :
    ∃ t, exec (.pwmPeriod n) s = .next t ∧ nth t.cle.pwm n (none, none) = (new, new) ∧
      nth t.cle.pwmHigh n none = t.pwmSpans n ∧
      (∀ k, k ≠ n.val → nth t.cle.pwm k (none, none) = nth s.cle.pwm k (none, none)) ∧ s.keeps t [.cle] := by
  have hin : n.val < s.cle.pwm.length := by omega
  have hlen : n.val < s.cle.pwmHigh.length := by omega
  refine ⟨_, rfl, ?_, ?_, fun k hk => nth_upd_other _ _ _ hk, keeps_cle s _⟩
  · exact (nth_upd_self _ _ _ _ hin).trans (by rw [hn])
  · dsimp only
    split
    · exact (nth_set_other _ (by omega) _ _).trans (nth_set_self hlen _ _)
    · exact nth_set_self hlen _ _

/-- The slot that has waited longest, and what still waits behind it. -/
theorem execSpiFrame_cons {s : State} {slot : Nat} {code : Half} {rest : List (Nat × Half)}
    (h : s.cle.spi = (slot, code) :: rest) (miso : BitVec 24) : exec (.spiFrame miso) s = .next (
      if s.cle.pllLost = true ∨ s.seq.clockHold = true then s
      else { s.setRegN (CLE_SPI_RX slot) miso.toNat with
        cle.spi := rest
        cle.spiSent := some (slot, BitVec.ofNat 32 (s.fld (CLE_SPI_SLOT slot) 23 16 * 65536 + code.toNat)) }) := by
  show execSpiFrame miso s = _
  simp only [execSpiFrame, h]

theorem execSpiFrame_sends {s : State} {slot : Nat} {code : Half} {rest : List (Nat × Half)}
    (h : s.cle.spi = (slot, code) :: rest) (hpll : s.cle.pllLost = false) (hhold : s.seq.clockHold = false)
    (miso : BitVec 24) :
    ∃ t, exec (.spiFrame miso) s = .next t ∧ t.cle.spi = rest ∧
      t.cle.spiSent = some (slot, BitVec.ofNat 32 (s.fld (CLE_SPI_SLOT slot) 23 16 * 65536 + code.toNat)) ∧
      t.regN (CLE_SPI_RX slot) = miso.toNat ∧ s.keepsRegs t [CLE_SPI_RX slot] ∧ s.keeps t [.regs, .cle] := by
  refine ⟨_, (execSpiFrame_cons h miso).trans (congrArg Host.Outcome.next (if_neg (by simp [hpll, hhold]))), rfl, rfl,
    ?_, setReg_keepsRegs s _ _, .after (keeps_cle _ _) rfl (.first (setRegN_keeps s _ _) rfl)⟩
  refine (regN_setRegN_self s _ _).trans (Nat.mod_eq_of_lt ?_)
  omega

/-! Edges that an encoder's filter holds (05 R131, R132). -/

theorem encoder_setEncoder_self (s : State) {n : Nat} (f : Encoder → Encoder) (h : n < s.cle.enc.length) :
    (s.setEncoder n f).encoder n = f (s.encoder n) := nth_upd_self _ _ _ _ h

/-- A change that leaves the control loops' part leaves the encoders. -/
theorem State.keeps.encoder {s t : State} {l : List Part} (h : s.keeps t l) (hl : Part.cle ∉ l) (n : Nat) :
    t.encoder n = s.encoder n := congrArg (fun c : LoopUnit => nth c.enc n _) (h .cle hl)

section
variable {s : State} {n : Fin 2} {chanB : Bool} (rising : Bool) (stamp : Stamp)

/-- An encoder that is off, or whose edge no TDC stamps, follows the level. -/
theorem execEncoderEdge_unstamped
    (h : bit (s.regN (CLE_ENC_CFG n)) 0 = false ∨ s.auxDead (9 + 3 * n.val + b2n chanB) = true) :
    exec (.encoderEdge n chanB rising stamp) s = .next
      (s.setEncoder n fun y => if chanB = true then { y with levelB := rising } else { y with levelA := rising }) := by
  refine congrArg Host.Outcome.next (if_pos ?_)
  simpa using h

variable (hon : bit (s.regN (CLE_ENC_CFG n)) 0 = true) (hlive : s.auxDead (9 + 3 * n.val + b2n chanB) = false)
include hon hlive

/-- Within FILT of the last edge held of its channel an edge is rejected with that one. -/
theorem execEncoderEdge_rejected {e : EncItem}
    (he : ((s.encoder n).held.reverse.find? fun e => e.chanB == some chanB) = some e)
    (ht : (s.auxTime (9 + 3 * n.val + b2n chanB) stamp).1.toNat <
      e.time + 2048 * bits (s.regN (CLE_ENC_CFG n)) 11 8) :
    exec (.encoderEdge n chanB rising stamp) s =
      .next (s.setEncoder n fun y => { y with held := y.held.erase e }) := by
  refine congrArg Host.Outcome.next ((if_neg (by simp [hon, hlive])).trans ?_)
  simp only [he]
  exact if_pos ht

/-- Any other edge is held for the filter. -/
theorem execEncoderEdge_held
    (ht : ∀ e, ((s.encoder n).held.reverse.find? fun e => e.chanB == some chanB) = some e →
      e.time + 2048 * bits (s.regN (CLE_ENC_CFG n)) 11 8 ≤ (s.auxTime (9 + 3 * n.val + b2n chanB) stamp).1.toNat) :
    exec (.encoderEdge n chanB rising stamp) s = .next (s.setEncoder n fun y =>
      { y with held := holdItem y.held (EncItem.mk (some chanB) rising
        (s.auxTime (9 + 3 * n.val + b2n chanB) stamp).1.toNat (s.stampTick stamp)) }) := by
  refine congrArg Host.Outcome.next ((if_neg (by simp [hon, hlive])).trans ?_)
  dsimp only
  split
  · next e he => exact if_neg (Nat.not_lt.mpr (ht e he))
  · rfl
end

/-! Held edges apply (05 R131, R132). -/

section
variable {s : State} {n : Nat} {e : EncItem} {rest : List EncItem} (hheld : (s.encoder n).held = e :: rest)
include hheld

theorem settleOne_waits (hdue : ¬ e.tick + s.filterTicks n ≤ s.tim.shot) : s.settleOne n = none := by
  simp only [State.settleOne, hheld, decide_eq_true_eq]
  exact if_pos hdue

theorem settleOne_index (hdue : e.tick + s.filterTicks n ≤ s.tim.shot) (he : e.chanB = none) :
    s.settleOne n = some ((s.setEncoder n fun y => { y with held := rest }).indexEdge n e.time) := by
  simp only [State.settleOne, hheld, decide_eq_true_eq]
  rw [if_neg (not_not_intro hdue), he]

theorem settleOne_alone {b : Bool} (hdue : e.tick + s.filterTicks n ≤ s.tim.shot) (he : e.chanB = some b)
    (hnear : (rest.find? fun f => f.chanB == some (!b) && decide (f.time < e.time + 4096)) = none) :
    s.settleOne n = some ((s.setEncoder n fun y => { y with held := rest }).countEdge n b e.rising e.time) := by
  simp only [State.settleOne, hheld, decide_eq_true_eq]
  rw [if_neg (not_not_intro hdue), he]
  simp only [hnear]

theorem settleOne_paired {b : Bool} {f : EncItem} (hdue : e.tick + s.filterTicks n ≤ s.tim.shot)
    (he : e.chanB = some b)
    (hnear : (rest.find? fun f => f.chanB == some (!b) && decide (f.time < e.time + 4096)) = some f) :
    s.settleOne n = if f.tick + s.filterTicks n ≤ s.tim.shot then
        some ((s.setEncoder n fun y => { y with held := rest.erase f }).illegalEdges n
          (if b = true then f.rising else e.rising) (if b = true then e.rising else f.rising))
      else none := by
  simp only [State.settleOne, hheld, decide_eq_true_eq]
  rw [if_neg (not_not_intro hdue), he]
  simp only [hnear]
end

/-! The position and the index (05 R131, R132). -/

theorem signed_toNat (w : Word) : signed 32 w.toNat = w.toInt := by
  simp only [signed, BitVec.toInt]
  omega

theorem ofNat_enc (v : Int) : BitVec.ofNat 32 (enc 32 v) = BitVec.ofInt 32 v := by
  apply BitVec.eq_of_toNat_eq
  simp only [enc, BitVec.toNat_ofNat, BitVec.toNat_ofInt]
  omega

theorem reg_addPos_pos (s : State) (n : Nat) (d : Int) :
    (s.addPos n d).reg (CLE_ENC_POS n) = s.reg (CLE_ENC_POS n) + BitVec.ofInt 32 d := by
  refine (reg_setRegN_self _ _ _).trans ?_
  rw [ofNat_enc, State.encPos, State.regN, signed_toNat, BitVec.ofInt_add, BitVec.ofInt_toInt]

/-- A counted edge moves the position by its step, and the level of its channel follows. -/
theorem countEdge_spec {s : State} {n : Nat} (hn : n < s.cle.enc.length) (b rising : Bool) (t : Nat) :
    (s.countEdge n b rising t).reg (CLE_ENC_POS n) = s.reg (CLE_ENC_POS n) + BitVec.ofInt 32
        (edgeStep b rising (if b = true then (s.encoder n).levelA else (s.encoder n).levelB)
          (bit (s.regN (CLE_ENC_CFG n)) 3)) ∧
      ((s.countEdge n b rising t).encoder n).levelA = (if b = true then (s.encoder n).levelA else rising) ∧
      ((s.countEdge n b rising t).encoder n).levelB = (if b = true then rising else (s.encoder n).levelB) := by
  unfold State.countEdge
  extract_lets x d u pos
  have hu : s.keeps (u.angleWaits n pos d t) [.regs, .pk, .pg] :=
    .after (angleWaits_keeps _ _ _ _ _) rfl (.first (addPos_keeps s n d) rfl)
  have hlen : n < (u.angleWaits n pos d t).cle.enc.length := by rw [hu .cle (by decide)]; exact hn
  have henc := hu.encoder (by decide) n
  refine ⟨reg_addPos_pos s n d, ?_, ?_⟩ <;> rw [encoder_setEncoder_self _ _ hlen, henc]

/-- The latched position of an index, and where the mode says so the position at zero. -/
def State.indexLatched (s : State) (n : Nat) : State :=
  let t := s.setReg (CLE_ENC_IDX n) (s.reg (CLE_ENC_POS n))
  if s.fld (CLE_ENC_CFG n) 5 4 == 2 || (s.fld (CLE_ENC_CFG n) 5 4 == 1 && (s.encoder n).armed) then
    (t.setRegN (CLE_ENC_POS n) 0).setEncoder n fun y => { y with armed := false }
  else t

theorem indexLatched_keepsRegs (s : State) (n : Nat) :
    s.keepsRegs (s.indexLatched n) [CLE_ENC_IDX n, CLE_ENC_POS n] := by
  have ht : s.keepsRegs (s.setReg (CLE_ENC_IDX n) (s.reg (CLE_ENC_POS n))) [CLE_ENC_IDX n, CLE_ENC_POS n] :=
    (setReg_keepsRegs s _ _).mono (by simp)
  exact .ite (ht.trans ((setReg_keepsRegs _ _ _).mono (by simp))) ht

theorem indexLatched_keeps (s : State) (n : Nat) : s.keeps (s.indexLatched n) [.regs, .cle] := by
  have ht : s.keeps (s.setReg (CLE_ENC_IDX n) (s.reg (CLE_ENC_POS n))) [.regs, .cle] := .first (setReg_keeps s _ _) rfl
  exact .ite (.after (setEncoder_keeps _ _ _) rfl (.after (setRegN_keeps _ _ _) rfl ht)) ht

/-- An index latches the position, and then starts what waits for it where it is the selected one. -/
theorem indexEdge_eq (s : State) (n t : Nat) : s.indexEdge n t =
    if b2n (bit (s.regN (CLE_ENC_CFG 0)) 31) ≠ n then s.indexLatched n
    else ((s.indexLatched n).present.filter fun p => p.2.state == .armed && p.2.startMode == 2).foldl
      (fun u p => u.runProg p.1 (((s.indexLatched n).ownTime t + 63) / 64).toNat) (s.indexLatched n) := by
  have hcfg : (s.indexLatched n).regN (CLE_ENC_CFG 0) = s.regN (CLE_ENC_CFG 0) := by
    refine congrArg BitVec.toNat (indexLatched_keepsRegs s n _ ?_)
    simp only [List.mem_cons, List.not_mem_nil, or_false]
    show ¬ (0x30500 + 32 * 0 = 0x30514 + 32 * n ∨ 0x30500 + 32 * 0 = 0x30504 + 32 * n)
    omega
  rw [← hcfg]
  rfl

theorem indexLatched_spec {s : State} {n : Nat} (hn : n < s.cle.enc.length) :
    let zero : Bool := s.fld (CLE_ENC_CFG n) 5 4 == 2 || (s.fld (CLE_ENC_CFG n) 5 4 == 1 && (s.encoder n).armed)
    (s.indexLatched n).reg (CLE_ENC_IDX n) = s.reg (CLE_ENC_POS n) ∧
      (zero = true → (s.indexLatched n).reg (CLE_ENC_POS n) = 0 ∧ ((s.indexLatched n).encoder n).armed = false) ∧
      (zero = false → (s.indexLatched n).reg (CLE_ENC_POS n) = s.reg (CLE_ENC_POS n) ∧
        ((s.indexLatched n).encoder n).armed = (s.encoder n).armed) := by
  intro zero
  have hne : CLE_ENC_IDX n ≠ CLE_ENC_POS n := by show 0x30514 + 32 * n ≠ 0x30504 + 32 * n; omega
  cases hz : zero with
  | true =>
    have hs : s.indexLatched n = (State.setRegN (s.setReg (CLE_ENC_IDX n) (s.reg (CLE_ENC_POS n)))
        (CLE_ENC_POS n) 0).setEncoder n fun y => { y with armed := false } := if_pos hz
    rw [hs]
    refine ⟨(reg_setReg_other _ _ hne).trans (reg_setReg_self _ _ _), fun _ => ⟨reg_setRegN_self _ _ _, ?_⟩, nofun⟩
    rw [encoder_setEncoder_self _ _ (by exact hn)]
  | false =>
    have hs : s.indexLatched n = s.setReg (CLE_ENC_IDX n) (s.reg (CLE_ENC_POS n)) := if_neg (by simp [hz, zero])
    rw [hs]
    exact ⟨reg_setReg_self _ _ _, nofun, fun _ => ⟨reg_setReg_other _ _ hne.symm, rfl⟩⟩

/-- A due sample of a loop that stays on. -/
theorem execLoopEvaluation_samples {s : State} {k : Fin 16} (hdue : s.sampleDue k)
    (hstay : (s.loop k).pendMode ≠ some 0) (hlen : s.cle.loops.length = 16)
    (hout : (s.loop k).outSel.toNat ≠ 0x20 + k.val) :
    let x := (s.loop k).atBoundary
    ∃ t, exec (.loopEvaluation k) s = .next t ∧
      ({ x with nextAt := x.instantAfter s.time5 } : ControlLoop).EvaluatesTo (t.loop k) ∧
      t.cle.evalUntil = s.time5 + 1150 ∧
      (x.nextAt + x.period < s.time5 → bit (t.regN (CLE_LOOP_STAT k)) 5 = true) := by
  intro x
  obtain ⟨u, hexec, hulen, hloop, huntil, hlate⟩ := execLoopEvaluation_due hlen rfl hdue hstay
  have hk : k.val < u.cle.loops.length := by omega
  have huout : (u.loop k).outSel.toNat ≠ 0x20 + k.val := by
    obtain ⟨-, -, -, -, -, -, -, hsel⟩ := atBoundary_settled (s.loop k)
    rw [hloop]
    exact hsel ▸ hout
  obtain ⟨y, hy, hkeep⟩ := evaluate_spec hk huout
  have hall := hkeep.trans (swapDone_keepsLoop _ _)
  refine ⟨_, hexec, ?_, hall.evalUntil.trans huntil, fun h => hall.overrun.trans (hlate h)⟩
  rw [hall.loop, loop_setLoop_self _ _ _ hk, ← hloop]
  exact hy

/-- Settles O28: the sample by its boundary and its evaluation, waveforms, frames and edges by their lemmas. -/
theorem loopEventsComplete : Obligations.LoopEventsComplete := by
  refine ⟨fun s k h => congrArg Host.Outcome.next (if_pos h), ?_, ?_,
    fun s n old new hn hpwm hhigh => execPwmPeriod_spec hn hpwm hhigh, ?_, ?_, ?_, ?_, ?_,
    fun s n b rising t hn => countEdge_spec (by omega) b rising t⟩
  · intro s k l bank div hon hpll hhold hdue hfree hfirst hstay hlen hout
    obtain ⟨hmode, hpm, hps, hact, hw, hpw, hnext, -⟩ := atBoundary_settled (s.loop k)
    obtain ⟨t, hexec, hx, huntil, hlate⟩ :=
      execLoopEvaluation_samples ⟨hon, hpll, hhold, hdue, hfree, hfirst⟩ hstay hlen hout
    have hdiv : (s.loop k).atBoundary.period = div := by rw [ControlLoop.period, hact]
    have hinst : (s.loop k).atBoundary.instantAfter s.time5 =
        l.nextAt + div * max 1 (ceilDiv (s.time5 - l.nextAt) div) := by
      rw [ControlLoop.instantAfter, hdiv, hnext]
    refine ⟨t, hexec, hx.mode.trans hmode, hx.pendMode.trans hpm, hx.pendSwap.trans hps, hx.active.trans hact,
      hx.w.trans hw, hx.pendW.trans hpw, hx.entered, hx.nextAt.trans hinst, ?_, ?_, huntil, ?_, ?_⟩
    · exact hx.nextAt ▸ ControlLoop.le_instantAfter _ _
    · exact hx.nextAt ▸ hnext ▸ ControlLoop.lt_instantAfter _ _
    · rwa [hnext, hdiv] at hlate
    · have hclamp := hx.clamped
      dsimp only at hclamp
      rwa [hact] at hclamp
  · intro s k hon hpll hhold hdue hfree hfirst hstop
    have hnot := not_held_of_sampleDue ⟨hon, hpll, hhold, hdue, hfree, hfirst⟩
    exact congrArg Host.Outcome.next ((if_neg hnot).trans (if_pos hstop))
  · intro s miso slot code rest h
    exact ⟨fun hc => (execSpiFrame_cons h miso).trans (congrArg Host.Outcome.next (if_pos hc)),
      fun hpll hhold => execSpiFrame_sends h hpll hhold miso⟩
  · intro s n chanB rising stamp cfg i t x v last new
    exact ⟨execEncoderEdge_unstamped rising stamp,
      fun e hon hlive he ht => execEncoderEdge_rejected rising stamp hon hlive he ht,
      execEncoderEdge_held rising stamp⟩
  · intro s n stamp cfg new
    refine ⟨fun h => congrArg Host.Outcome.next (if_pos ?_),
      fun hon hlive => congrArg Host.Outcome.next (if_neg ?_)⟩
    · simpa using h
    · rw [hon, hlive]
      decide
  · intro s n e rest hheld due u near
    exact ⟨settleOne_waits hheld, settleOne_index hheld, fun b hdue he => settleOne_alone hheld hdue he,
      fun b f hdue he hnear => ⟨fun hf => (settleOne_paired hheld hdue he hnear).trans (if_pos hf),
        fun hf => (settleOne_paired hheld hdue he hnear).trans (if_neg hf)⟩⟩
  · intro s n t hlen mode zero
    refine ⟨fun hother => ?_, fun hsel => ?_⟩
    · obtain ⟨hidx, hzero, hstay⟩ := indexLatched_spec (s := s) (n := n) (by omega)
      rw [indexEdge_eq, if_pos hother]
      exact ⟨hidx, hzero, hstay, indexLatched_keepsRegs s n, indexLatched_keeps s n⟩
    · exact (indexEdge_eq s n t).trans (if_neg (not_not_intro hsel))

end Sys2Proof.Machine

namespace Sys2Proof.Machine

/-! Event inputs and frequency measurement (06 R170 to R173). -/

section
variable {s : State} {k : Fin 8} {rising : Bool} {stamp : Stamp}

/-- EDGES 3 stamps no edge of an event input, 0 only rising and 1 only falling ones (06 R170). -/
def evUnstamped (edges : Nat) (rising : Bool) : Prop := edges = 3 ∨ (edges = 0 ∧ ¬ rising) ∨ (edges = 1 ∧ rising)

theorem evUnstamped_iff {e : Nat} : evUnstamped e rising ↔ e = 3 ∨ e = 0 ∧ rising = false ∨ e = 1 ∧ rising = true := by
  simp [evUnstamped]

theorem not_evUnstamped {e : Nat} (h : e = 2 ∨ e = 0 ∧ rising = true ∨ e = 1 ∧ rising = false) :
    ¬ evUnstamped e rising := by
  rw [evUnstamped_iff]
  rintro (rfl | ⟨rfl, rfl⟩ | ⟨rfl, rfl⟩) <;> simp at h

theorem blindAt_iff {t : Nat} {upper : Bool} {value : Nat} :
    s.blindAt t upper value = true ↔ value < (s.lane t upper).blindUntil := decide_eq_true_iff

theorem laneLevel_eq (t : Nat) (upper : Bool) (value : Nat) : s.laneLevel t upper rising value =
    if value < (s.lane t upper).blindUntil then s.blindEdge t upper rising
    else s.setLane t upper fun l => { l with level := rising } :=
  if_congr blindAt_iff rfl rfl

theorem execEvEdge_dead (h : s.auxDead (15 + k) = true) : exec (.evEdge k rising stamp) s = .next s :=
  congrArg Host.Outcome.next (if_pos h)

theorem execEvEdge_unstamped (h : s.auxDead (15 + k) = false) (he : evUnstamped (s.fld (HCH_EV_CFG k) 1 0) rising) :
    exec (.evEdge k rising stamp) s =
      .next (s.laneLevel (s.auxTdcAt (15 + k) (s.stampTick stamp)) false rising (s.stampValue stamp)) :=
  congrArg Host.Outcome.next ((if_neg (ne_true_of_eq_false h)).trans (if_pos he))

/-- The state after the lane of the TDC that takes over at a changeover, if there is one soon, has seen an edge (06 R165). -/
def State.shadowed (s : State) (swap : Option (Nat × Nat)) (new tick : Nat) (upper rising : Bool) (value : Nat) : State :=
  match shadowTdc swap new tick with
  | some n => s.shadowEdge n upper rising value
  | none => s

/-- An edge that the input's configuration stamps, in the state `m` where every earlier stamp has been merged and the TDC
that takes over has seen it. -/
theorem execEvEdge_stamped {tick t q : Nat} {m0 m v : State} (htick : s.stampTick stamp = tick)
    (ht : s.auxTdcAt (15 + k) tick = t) (hq : s.auxTdc (15 + k) = q) (hm0 : s.merge q (tick - 1) = m0)
    (hm : m0.shadowed (nth m0.hch.auxSwap (15 + k.val) none) q tick false rising (s.stampValue stamp) = m)
    (hv : m.stampEdge t false rising (s.stampValue stamp) = v)
    (h : s.auxDead (15 + k) = false) (he : ¬ evUnstamped (s.fld (HCH_EV_CFG k) 1 0) rising) :
    exec (.evEdge k rising stamp) s = .next (
      if s.stampValue stamp < (m.lane t false).blindUntil then m.blindEdge t false rising
      else if 4 ≤ (v.lane q false).buffer.length then v.dropStamp q tick
      else v.setLane q false fun l => { l with buffer := l.buffer ++
        [{ rising := rising, upper := false, blind := m.edgeBlind t false
           spare := decide (t < 544), tdc := t, tick := tick, tap := stamp.tap.toNat, res := stamp.res.toNat }] }) := by
  subst htick ht hq hv
  refine congrArg Host.Outcome.next ((if_neg (ne_true_of_eq_false h)).trans ((if_neg he).trans ?_))
  simp only [hm0, ← blindAt_iff]
  subst hm
  unfold State.shadowed
  cases shadowTdc _ _ _ <;> rfl

/-- The front stamp of an input's queue, once the watermark has passed it. -/
theorem serveEvents_front {i n : Nat} {h : HitStamp} {rest : List HitStamp} {q : Nat} {v : State} {x : Int × Bool}
    (hi : s.auxTdc (15 + i) = q) (hq : (s.tdc q).queue = h :: rest) (hw : h.tick < s.watermark q)
    (hv : s.setTdc q (fun x => { x with queue := rest }) = v)
    (hx : v.calibrate h.tdc false none h.tick h.tap h.res (v.setAt h.tick) = x) :
    State.serveEvents i (n + 1) s =
      State.serveEvents i n (v.serveStamp i h.rising h.blind x.2 x.1 h.evFlags) := by
  subst hi hv hx
  simp only [State.serveEvents, hq, if_pos hw]

theorem execFreqGateClose_due {f : FreqUnit} {t : Nat} (hf : nth s.hch.freq k none = some f) (ht : f.first = some t)
    (hgate : t + 2048 * f.gate ≤ s.fineNow) {own : Nat} (hown : (s.ownTime t).toNat / 2048 = own) {g : FreqUnit}
    (hg : { f with warm := f.warm && !(s.tim.warmLost.any fun x => decide (own ≤ x) && decide (x ≤ own + f.gate)) } = g)
    {v : State} (hv : (((s.setRegN (HCH_FREQ k) (g.period % 2 ^ 32)).setRegN (HCH_FREQ k + 4) (g.period / 2 ^ 32)).setRegN
      (HCH_FREQ k + 8) g.n).setRegN (HCH_FREQ k + 12) g.flags = v) :
    exec (.freqGateClose k) s = .next (State.complete { v with hch.freq := v.hch.freq.set k none }
      (g.owner, g.sequence) OK 4 (leBytes 8 g.period ++ leBytes 4 g.n ++ leBytes 4 g.flags)) := by
  subst hown hg hv
  simp only [exec, execFreqGateClose, hf, ht, if_pos hgate]
end

/-- Settles O10: each row behind its condition, and the front stamp of a queue. -/
theorem eventInputEdgesAreStamped : Obligations.EventInputEdgesAreStamped := by
  refine ⟨fun s k rising stamp => execEvEdge_dead, ?_, ?_, ?_, ?_⟩
  · intro s k rising stamp e t hd he
    rw [execEvEdge_unstamped hd (evUnstamped_iff.mpr he), laneLevel_eq]
  · intro s k rising stamp e tick t q m0
    have hm0 : s.merge q (tick - 1) = m0 := rfl
    clear_value m0
    intro m h v he hd
    have hm : m0.shadowed (nth m0.hch.auxSwap (15 + k.val) none) q tick false rising (s.stampValue stamp) = m := rfl
    exact execEvEdge_stamped (m := m) (v := v) (t := t) (q := q) (tick := tick) rfl rfl rfl hm0 hm rfl hd (not_evUnstamped he)
  · intro s k n h rest q hq hw v x fl u w
    exact serveEvents_front rfl hq hw rfl rfl
  · intro s k f t hf ht hgate own g v
    exact execFreqGateClose_due hf ht hgate rfl rfl rfl
end Sys2Proof.Machine

namespace Sys2Proof.Machine

/-! What reports, changes of the repair map and ends of migrations leave (17 R418, R428 to R437). -/

/-- The parts that the report of a fault, the map and the end of a migration may change. -/
def repairParts : List Part := [.rep, .regs, .drawn, .pk, .adm, .out, .ifl]

/-- The registers that they may change. -/
def repairRegs : List Nat :=
  [GLB_EVT_SEQ, ADM_STATUS, REP_STATUS, REP_MIG_STAT, REP_MIG_TIME, REP_MIG_COUNT, REP_INC_DROP]

/-- A state that differs only by what the repair function records. -/
def State.repairs (s t : State) : Prop := s.keeps t repairParts ∧ s.keepsRegs t repairRegs

namespace State.repairs

theorem refl (s : State) : s.repairs s := ⟨.refl s _, .refl s _⟩

theorem trans {s t u : State} (h : s.repairs t) (g : t.repairs u) : s.repairs u :=
  ⟨h.1.trans g.1, h.2.trans g.2⟩

theorem ite {s t u : State} {c : Prop} [Decidable c] (ht : s.repairs t) (hu : s.repairs u) :
    s.repairs (if c then t else u) := ⟨.ite ht.1 hu.1, .ite ht.2 hu.2⟩

theorem foldl {α : Type} {f : State → α → State} (hf : ∀ (t : State) x, t.repairs (f t x)) (xs : List α) (s : State) :
    s.repairs (xs.foldl f s) := ⟨.foldl (fun t x => (hf t x).1) xs s, .foldl (fun t x => (hf t x).2) xs s⟩

/-- A change of the repair unit alone. -/
theorem rep (s : State) (x : Repair) : s.repairs { s with rep := x } := ⟨.first (keeps_rep s x) rfl, fun _ _ => rfl⟩

/-- A change that two frames describe. -/
theorem of {s t : State} {l : List Part} {m : List Nat} (h : s.keeps t l) (g : s.keepsRegs t m)
    (hl : (l.all fun p => repairParts.contains p) = true) (hm : (m.all fun a => repairRegs.contains a) = true) :
    s.repairs t := ⟨.first h hl, .mono g (by simpa using hm)⟩

/-- A change that leaves the registers. -/
theorem of_keeps {s t : State} {l : List Part} (h : s.keeps t l) (hr : Part.regs ∉ l)
    (hl : (l.all fun p => repairParts.contains p) = true) : s.repairs t := ⟨.first h hl, h.toRegs hr _⟩

end State.repairs

section
variable (s : State)

theorem event_repairs (code cls unit : Nat) (l : List Byte) (w : Option (Origin × Half)) (d : Option Nat) :
    s.repairs (s.event code cls unit l w d) := .of (event_keeps s _ _ _ _ _ _) (event_keepsRegs s _ _ _ _ _ _) rfl rfl

theorem openEvent_repairs (cls unit : Nat) (l : Option (List Byte)) : s.repairs (s.openEvent cls unit l) :=
  .of (openEvent_keeps s _ _ _) (openEvent_keepsRegs s _ _ _) rfl rfl

theorem report_repairs (key : Word) (b i : Nat) (ended : Bool) : s.repairs (s.report key b i ended) :=
  .of (report_keeps s _ _ _ _) (report_keepsRegs s _ _ _ _) rfl rfl

theorem endCause_repairs (key : Word) : s.repairs (s.endCause key) :=
  .of (endCause_keeps s _) (endCause_keepsRegs s _) rfl rfl

theorem incidentRepair_repairs (key mapSeq : Word) : s.repairs (s.incidentRepair key mapSeq) := .rep s _

theorem mapMade_repairs (cls obj : Nat) (causes : List Nat) : s.repairs (s.mapMade cls obj causes) :=
  .foldl (fun t _ => incidentRepair_repairs t _ _) _ s

theorem repaired_repairs (cls obj : Nat) (causes : List Nat) : s.repairs (s.repaired cls obj causes) :=
  .foldl (fun t _ => (incidentRepair_repairs t _ _).trans (endCause_repairs _ _)) _ s

theorem mapChanged_repairs : s.repairs s.mapChanged :=
  .trans (.trans (.ite (.of_keeps (noteWrap_keeps s _ _ _ _) (by simp) rfl) (.refl s)) (.rep _ _))
    (openEvent_repairs _ _ _ _)

theorem mapAdd_repairs (k o f n : Nat) : s.repairs (s.mapAdd k o f n) :=
  .ite (.trans (.rep s _) (mapChanged_repairs _)) (.trans (.rep s _) (mapChanged_repairs _))

theorem interruption_repairs : s.repairs s.interruption :=
  .trans (.ite (.of (latch_keeps s _ _) (latch_keepsRegs s _ _) rfl rfl) (.refl s))
    (.of_keeps (keeps_adm _ _) (by simp) rfl)

theorem migReport_repairs (m : Migration) (o f n : Nat) : s.repairs (s.migReport m o f n) :=
  .trans (.trans (.trans (.trans (.of_keeps (draw_keeps s 30) (by simp) rfl)
      (.of (setRegN_keeps _ REP_MIG_STAT _) (setReg_keepsRegs _ _ _) rfl rfl))
    (.of (setRegN_keeps _ REP_MIG_TIME _) (setReg_keepsRegs _ _ _) rfl rfl))
    (.of (bump_keeps _ REP_MIG_COUNT) (bump_keepsRegs _ _) rfl rfl))
    (.of (latch_keeps _ REP_STATUS _) (latch_keepsRegs _ _ _) rfl rfl)

theorem migEnd_repairs (m : Migration) (code : Nat) : s.repairs (s.migEnd m code) := by
  unfold State.migEnd
  extract_lets rest first rep u
  have hu : s.repairs u := .rep s _
  split
  · exact hu.trans (event_repairs _ _ _ _ _ _ _)
  · exact hu.trans (openEvent_repairs _ _ _ _)

theorem migDone_repairs (m : Migration) (o f n : Nat) : s.repairs (s.migDone m o f n) :=
  .trans (.trans (migReport_repairs s m _ f n) (interruption_repairs _)) (migEnd_repairs _ _ _)

theorem spareFails_repairs (k u : Nat) : s.repairs (s.spareFails k u) := by
  unfold State.spareFails
  split
  · exact .refl s
  · exact .ite (.trans (.rep s _) (interruption_repairs _)) (.refl s)

theorem queueMig_repairs (k f stopped : Nat) (w : Option (Origin × Half)) : s.repairs (s.queueMig k f stopped w) := by
  unfold State.queueMig
  extract_lets new
  split
  · exact .rep s _
  · exact .ite (.trans (migDone_repairs s _ _ _ _) (.rep _ _)) (.refl s)

theorem faultTdc_repairs (t cause stopped : Nat) : s.repairs (s.faultTdc t cause stopped) := by
  unfold State.faultTdc
  extract_lets serves u rep v
  have hv : s.repairs v := .trans (.trans (spareFails_repairs s _ _) (.rep _ _)) (report_repairs _ _ _ _ _)
  exact .ite (.refl s) (.ite (hv.trans (queueMig_repairs _ _ _ _ _))
    (.trans (hv.trans (mapAdd_repairs _ _ _ _ _)) (mapMade_repairs _ _ _ _)))
end

/-! What they leave of the repair unit itself. -/

/-- The repair unit but for its incidents and for the number and the write-back of its map. -/
def Repair.bare (r : Repair) : Repair := { r with incidents := [], iseq := 0, mapSeq := 0, mapPend := none }

/-- The units whose migrations wait, by kind, in their order. -/
def State.migKeys (s : State) : List (Nat × Nat) := s.rep.migs.map fun m => (m.kind, m.failed)

section
variable (s : State)

theorem bare_of_keeps {s t : State} {l : List Part} (h : s.keeps t l) (hl : Part.rep ∉ l) :
    t.rep.bare = s.rep.bare := congrArg Repair.bare (h .rep hl)

/-- A fold of steps that leave the bare unit leaves it. -/
theorem bare_foldl {α : Type} {f : State → α → State} (hf : ∀ (t : State) x, (f t x).rep.bare = t.rep.bare) :
    ∀ (xs : List α) (s : State), (xs.foldl f s).rep.bare = s.rep.bare
  | [], _ => rfl
  | x :: xs, s => (bare_foldl hf xs (f s x)).trans (hf s x)

theorem report_bare (key : Word) (b i : Nat) (ended : Bool) : (s.report key b i ended).rep.bare = s.rep.bare := by
  simp only [State.report, State.reportWith]
  split
  · rfl
  · split
    · exact congrArg Repair.bare ((bump_keeps s REP_INC_DROP) .rep (by simp))
    · split <;> rfl

theorem endCause_bare (key : Word) : (s.endCause key).rep.bare = s.rep.bare :=
  bare_foldl (fun t _ => bare_of_keeps (event_keeps t _ _ _ _ _ _) (by simp)) _ _

theorem mapMade_bare (cls obj : Nat) (causes : List Nat) : (s.mapMade cls obj causes).rep.bare = s.rep.bare :=
  bare_foldl (f := fun t c => t.incidentRepair (causeKey cls c obj) t.rep.mapSeq) (fun _ _ => rfl) causes s

theorem repaired_bare (cls obj : Nat) (causes : List Nat) : (s.repaired cls obj causes).rep.bare = s.rep.bare :=
  bare_foldl (fun t _ => (endCause_bare (t.incidentRepair _ _) _).trans rfl) _ s

theorem mapChanged_bare : s.mapChanged.rep.bare = s.rep.bare := by
  unfold State.mapChanged
  extract_lets t
  have ht : t.rep = s.rep := by unfold t; split <;> rfl
  exact (bare_of_keeps (openEvent_keeps _ _ _ _) (by simp)).trans (congrArg Repair.bare ht :)

/-- The map has an entry for the unit, of the origin and with the spare; nothing else but its number has changed. -/
theorem mapAdd_spec (k o f n : Nat) : let t := s.mapAdd k o f n
    t.rep.bare = { s.rep.bare with map := t.rep.map } ∧
      ∃ e ∈ t.rep.map, e.kind = k ∧ e.failed = f ∧ e.origin = o ∧ (n ≠ noSpare → e.spare = n) := by
  intro t
  have hmap {m : List MapEntry} (h : t = State.mapChanged { s with rep.map := m }) :
      t.rep.bare = { s.rep.bare with map := m } ∧ t.rep.map = m := by
    have hb : t.rep.bare = { s.rep.bare with map := m } := by rw [h, mapChanged_bare]; rfl
    exact ⟨hb, congrArg Repair.map hb⟩
  by_cases h : (s.rep.map.any fun e => e.kind == k && e.failed == f && e.origin == 4) && n == noSpare
  · obtain ⟨hb, hm⟩ := hmap (if_pos h)
    obtain ⟨hany, hn⟩ := (Bool.and_eq_true _ _).mp h
    obtain ⟨e, he, hold⟩ := List.any_eq_true.mp hany
    refine ⟨hb.trans (by rw [hm]), { e with origin := o, flags := 0 }, ?_, ?_⟩
    · rw [hm]
      exact List.mem_map.mpr ⟨e, he, if_pos hold⟩
    · simp only [Bool.and_eq_true, beq_iff_eq] at hold
      exact ⟨hold.1.1, hold.1.2, rfl, fun h => absurd (eq_of_beq hn) h⟩
  · obtain ⟨hb, hm⟩ := hmap (if_neg h)
    refine ⟨hb.trans (by rw [hm]), MapEntry.mk k o 0 f n (s.sysNs / 1000000000 % 2 ^ 32), ?_, rfl, rfl, rfl, fun _ => rfl⟩
    rw [hm]
    exact List.mem_append_right _ (List.mem_singleton_self _)

/-- The end of a migration: its unit waits no more. -/
theorem migEnd_spec (m : Migration) (code : Nat) : let t := s.migEnd m code
    t.rep = { s.rep with migs := t.rep.migs } ∧
      t.migKeys = s.migKeys.filter fun k => k.1 != m.kind || k.2 != m.failed := by
  intro t
  have hrep : t.rep = (let rest := s.rep.migs.filter fun x => x.kind != m.kind || x.failed != m.failed
      let first := rest.findIdx? fun x => x.kind == m.kind
      { s.rep with migs := rest.zipIdx.map fun x => if first = some x.2 then { x.1 with decideAt := s.time } else x.1 }) := by
    simp only [t, State.migEnd]
    split
    · exact complete_keeps _ _ _ _ _ .rep (by simp)
    · exact openEvent_keeps _ _ _ _ .rep (by simp)
  refine ⟨by rw [hrep], ?_⟩
  simp only [State.migKeys, hrep, List.map_map, List.filter_map]
  conv_rhs => rw [show (fun k : Nat × Nat => k.1 != m.kind || k.2 != m.failed) ∘ (fun x : Migration => (x.kind, x.failed)) =
    fun x => x.kind != m.kind || x.failed != m.failed from rfl]
  generalize s.rep.migs.filter _ = rest
  generalize rest.findIdx? _ = first
  conv_rhs => rw [← List.zipIdx_map_fst 0 rest, List.map_map]
  refine List.map_congr_left fun x _ => ?_
  simp only [Function.comp]
  split <;> rfl

theorem interruption_rep : s.interruption.rep = s.rep := interruption_keeps s .rep (by simp)

theorem migReport_rep (m : Migration) (o f n : Nat) : (s.migReport m o f n).rep = s.rep :=
  migReport_keeps s m o f n .rep (by simp)

theorem migDone_spec (m : Migration) (o f n : Nat) : let t := s.migDone m o f n
    t.rep = { s.rep with migs := t.rep.migs } ∧
      t.migKeys = s.migKeys.filter fun k => k.1 != m.kind || k.2 != m.failed := by
  intro t
  have hrep : ((s.migReport m (if o = 0 ∧ m.replaced then 2 else o) f n).interruption).rep = s.rep :=
    (interruption_rep _).trans (migReport_rep s m _ f n)
  obtain ⟨h, hk⟩ := migEnd_spec (s.migReport m (if o = 0 ∧ m.replaced then 2 else o) f n).interruption m
    (if o = 3 then INTERNAL else OK)
  refine ⟨h.trans (by rw [hrep]; rfl), hk.trans ?_⟩
  simp only [State.migKeys, hrep]

/-- A change of one element that a view does not show. -/
theorem map_upd_of_eq {α β : Type} {g : α → β} {f : α → α} (h : ∀ x, g (f x) = g x) (l : List α) (i : Nat) :
    (upd l i f).map g = l.map g := by
  have hg : g ∘ f = g := funext h
  refine List.ext_getElem? fun j => ?_
  by_cases hj : i = j <;> simp [upd, hj, hg]

theorem spareFails_spec (k u : Nat) : let t := s.spareFails k u
    t.rep = { s.rep with migs := t.rep.migs } ∧ t.migKeys = s.migKeys := by
  intro t
  simp only [t, State.spareFails]
  split
  · exact ⟨rfl, rfl⟩
  next i _ =>
    split
    · refine ⟨by rw [interruption_rep], ?_⟩
      simp only [State.migKeys, interruption_rep]
      exact map_upd_of_eq (fun _ => by rfl) s.rep.migs i
    · exact ⟨rfl, rfl⟩

/-- A unit's work waits, whatever waited before. -/
theorem queueMig_spec (k f stopped : Nat) (w : Option (Origin × Half)) : let t := s.queueMig k f stopped w
    t.rep = { s.rep with migs := t.rep.migs } ∧ (k, f) ∈ t.migKeys := by
  intro t
  simp only [t, State.queueMig]
  split
  · exact ⟨rfl, by simp [State.migKeys]⟩
  next m hm =>
    split
    · obtain ⟨h, _⟩ := migDone_spec s m 3 f 0x3FF
      refine ⟨by rw [h], by simp [State.migKeys]⟩
    · have hk := List.find?_some hm
      simp only [Bool.and_eq_true, beq_iff_eq] at hk
      exact ⟨rfl, List.mem_map.mpr ⟨m, List.mem_of_find?_eq_some hm, by rw [hk.1, hk.2]⟩⟩

/-- A fault of a TDC that has not failed marks it, and what it serves waits for a spare. -/
theorem faultTdc_spec {t : Nat} (h : s.rep.tdcFail.contains t = false) (cause stopped : Nat) :
    let v := s.faultTdc t cause stopped
    v.rep.tdcFail = s.rep.tdcFail ++ [t] ∧ (s.tdcServes t ≠ 0xFFFF → (0, t) ∈ v.migKeys) := by
  intro v
  simp only [v, State.faultTdc]
  rw [if_neg (ne_true_of_eq_false h)]
  have hfail : (s.spareFails 0 t).rep.tdcFail = s.rep.tdcFail := by rw [(spareFails_spec s 0 t).1]
  generalize hu : ({ s.spareFails 0 t with rep.tdcFail := (s.spareFails 0 t).rep.tdcFail ++ [t] } : State).report
    (causeKey 2 cause t) 4 t false = u
  have hmark : u.rep.tdcFail = s.rep.tdcFail ++ [t] := by
    rw [← hu, ← hfail]
    exact congrArg Repair.tdcFail (report_bare _ _ _ _ _)
  by_cases hs : s.tdcServes t = 0xFFFF
  · rw [if_neg (not_not_intro hs)]
    have hb := (mapMade_bare (u.mapAdd 0 2 t noSpare) 2 t [cause]).trans (mapAdd_spec u 0 2 t noSpare).1
    exact ⟨(congrArg Repair.tdcFail hb :).trans hmark, fun h => absurd hs h⟩
  · rw [if_pos hs]
    obtain ⟨hq, hk⟩ := queueMig_spec u 0 t stopped none
    exact ⟨by rw [hq, hmark], fun _ => hk⟩
end
end Sys2Proof.Machine

namespace Sys2Proof.Machine

/-! Lanes (06 R149). -/

section
variable (s : State) {t k : Nat} {upper : Bool} (f : Lane → Lane)

theorem lane_setLane_self (h : t < s.hch.tdcs.length) : (s.setLane t upper f).lane t upper = f (s.lane t upper) := by
  simp only [State.lane, State.setLane, tdc_setTdc_self s _ h]
  cases upper <;> rfl

theorem lane_setLane_flip : (s.setLane t upper f).lane t (!upper) = s.lane t (!upper) := by
  by_cases h : t < s.hch.tdcs.length
  · simp only [State.lane, State.setLane, tdc_setTdc_self s _ h]
    cases upper <;> rfl
  · have hu : upd s.hch.tdcs t (fun x => if upper then { x with upper := f x.upper } else { x with lower := f x.lower }) =
        s.hch.tdcs := List.modify_eq_self (Nat.le_of_not_lt h)
    simp [State.lane, State.setLane, State.setTdc, State.tdc, hu]

theorem tdc_setLane_other (h : k ≠ t) : (s.setLane t upper f).tdc k = s.tdc k := tdc_setTdc_other s _ h

theorem lane_congr {s u : State} (h : u.tdc k = s.tdc k) (b : Bool) : u.lane k b = s.lane k b := by
  simp [State.lane, h]

theorem lane_setLane_other (h : k ≠ t) (b : Bool) : (s.setLane t upper f).lane k b = s.lane k b :=
  lane_congr (tdc_setLane_other s f h) b

@[simp] theorem length_tdcs_setTdc (g : Tdc → Tdc) : (s.setTdc t g).hch.tdcs.length = s.hch.tdcs.length :=
  length_upd _ _ _

@[simp] theorem length_tdcs_setLane : (s.setLane t upper f).hch.tdcs.length = s.hch.tdcs.length := length_upd _ _ _
end

/-! What the fault of a TDC leaves of the lanes (17 R417). -/

section
variable (s : State) (t cause stopped : Nat)

theorem faultTdc_hch : (s.faultTdc t cause stopped).hch = s.hch :=
  (faultTdc_repairs s t cause stopped).1 .hch (by simp [repairParts])

theorem faultTdc_lane (k : Nat) (upper : Bool) : (s.faultTdc t cause stopped).lane k upper = s.lane k upper := by
  simp only [State.lane, State.tdc, faultTdc_hch]

theorem faultTdc_failed : (s.faultTdc t cause stopped).rep.tdcFail.contains t = true := by
  by_cases h : s.rep.tdcFail.contains t = true
  · rw [State.faultTdc, if_pos h, h]
  · rw [(faultTdc_spec s (Bool.eq_false_of_not_eq_true h) cause stopped).1]
    simp
end

/-! The upkeep of lanes, thresholds and the ambient check (01 R29; 06 R148, R159 to R161; 11 R284). -/

section
variable {s : State}

theorem execLiveTableUpdate_healthy {t : Fin 567} {upper : Bool} {l : Lane} {x : List Nat × List Nat × Nat}
    (hl : s.lane t upper = l) (hx : s.nextTable t upper = x) (htotal : s.nCal ≤ l.total) (hfault : l.fault = false)
    (hok : healthy x.2.1 x.2.2 l.total l.ovr = true) :
    exec (.liveTableUpdate t upper) s = .next (s.publishTable t upper x.1 x.2.1 x.2.2) := by
  subst hl hx
  have hdue : ¬ ((s.lane t upper).total < s.nCal ∨ (s.lane t upper).fault = true) := by simp [hfault, htotal]
  exact congrArg Host.Outcome.next ((if_neg hdue).trans (if_pos hok))

theorem publishTable_eq (s : State) (t : Nat) (upper : Bool) (a w : List Nat) (g : Nat) {l : Lane}
    (hl : s.lane t upper = l) : s.publishTable t upper a w g =
      (if l.version = 0xFFFFFFFF then s.noteWrap 4 1 (0x640000 + 192 * t + 96 * b2n upper + 68) 32 else s).setLane t upper
        fun y => { y with
          a := a, g := g, state := y.moved, updates := y.updates + 1, version := y.version + 1
          updated := some s.time, n := List.replicate 32 0, m := List.replicate 32 0, total := 0, ovr := 0
          versions := (({ w := w, g := g, state := l.moved, version := l.version + 1
                          effective := s.watermark t + 64, updates := l.updates + 1 } : LiveTable) ::
            y.versions).take 8 } := by
  subst hl
  simp only [State.publishTable]
  split <;> rfl

/-- A lane whose next table is not healthy. -/
def Lane.sick (l : Lane) (a : List Nat) (g : Nat) : Lane := { l with a := a, g := g, fault := true }

theorem execLiveTableUpdate_sick {t : Fin 567} {upper : Bool} {l : Lane} {x : List Nat × List Nat × Nat}
    (hl : s.lane t upper = l) (hx : s.nextTable t upper = x) (htotal : s.nCal ≤ l.total) (hfault : l.fault = false)
    (hok : healthy x.2.1 x.2.2 l.total l.ovr = false) : exec (.liveTableUpdate t upper) s =
      .next (((s.setLane t upper fun l => l.sick x.1 x.2.2).latch HCH_STATUS 0x4).faultTdc t 3 s.time) := by
  subst hl hx
  have hdue : ¬ ((s.lane t upper).total < s.nCal ∨ (s.lane t upper).fault = true) := by simp [hfault, htotal]
  exact congrArg Host.Outcome.next ((if_neg hdue).trans (if_neg (ne_true_of_eq_false hok)))

/-- What a lane fault leaves: the lane's fault, bit 2 of HCH_STATUS, and the TDC failed. -/
theorem laneFault_spec {t : Nat} {upper : Bool} (hlen : t < s.hch.tdcs.length) (a : List Nat) (g stopped : Nat) :
    let v := ((s.setLane t upper fun l => l.sick a g).latch HCH_STATUS 0x4).faultTdc t 3 stopped
    v.lane t upper = (s.lane t upper).sick a g ∧ bit (v.regN HCH_STATUS) 2 = true ∧
      v.rep.tdcFail.contains t = true ∧ s.keeps v [.hch, .regs, .rep, .pk, .drawn, .out, .ifl, .adm] := by
  intro v
  obtain ⟨hparts, hregs⟩ := faultTdc_repairs ((s.setLane t upper fun l => l.sick a g).latch HCH_STATUS 0x4) t 3 stopped
  refine ⟨?_, ?_, faultTdc_failed _ _ _ _, ?_⟩
  · rw [faultTdc_lane]
    exact lane_setLane_self s (fun l => l.sick a g) hlen
  · rw [State.regN, hregs HCH_STATUS (by simp [repairRegs])]
    exact (bit_latch _ HCH_STATUS 0x4 2 (by decide)).trans (Bool.or_true _)
  · exact .trans (.after (latch_keeps _ _ _) rfl (.first (setLane_keeps s t upper _) rfl)) (.first hparts rfl)

theorem execLaneHold_due {t : Fin 567} {upper : Bool} {at_ : Nat} (hu : (s.lane t upper).updated = some at_)
    (hs : (s.lane t upper).state = 1 ∨ (s.lane t upper).state = 2) (ht : at_ + ticksS 30 ≤ s.time) :
    exec (.laneHold t upper) s = .next (s.setLane t upper fun l => { l with before := l.state, state := 3 }) := by
  simp only [exec, execLaneHold, hu, if_pos (And.intro hs ht)]

theorem execThresholdApply_due {c : Fin 512} {since : Nat} {n : Long} {tu : Int} {l u : Int} {v : Nat}
    (hp : (s.chan c).pending = some (since, n)) (htu : s.applyAt c since n = tu) (hdue : tu ≤ (s.unitNow : Int))
    (hl : fieldInt s.appliedSet (CAL_CMP c 0) 2 = l) (hu : fieldInt s.appliedSet (CAL_CMP c 1) 2 = u)
    (hv : s.regN (HCH_THRESH c) = v) :
    exec (.thresholdApply c) s = .next ((s.setChan c fun x =>
      { x with lower := bits v 9 0, upper := bits v 25 16, pending := none, applied := some tu.toNat
               trimL := l, trimU := u, dacL := dacCode (bits v 9 0) l, dacU := dacCode (bits v 25 16) u
               }).splitShots c tu) := by
  subst htu hl hu hv
  simp only [exec, execThresholdApply, hp, if_neg (Int.not_lt.mpr hdue)]

/-- A channel that the note of an excess names reports it, and one that it does not name changes nothing. -/
theorem execAmbientCheck_noted {c : Fin 512} {u : State}
    (hu : s.noteAmbient c (s.ambientOver c s.tim.shot (nth s.adm.ambient c [])) = u) :
    exec (.ambientCheck c) s = .next (if u.adm.exceeded.contains c.val = true then
      { u with adm.exceeded := u.adm.exceeded.filter (· != c.val) }.latch ADM_STATUS 0x20 else u) := by
  subst hu; rfl

theorem noteAmbient_again {c : Nat} (h : s.adm.exceeded.contains c = true) (over_ : Bool) : s.noteAmbient c over_ = s :=
  if_neg (by simp only [h, Bool.not_true, Bool.and_false]; exact Bool.false_ne_true)

theorem noteAmbient_first {c : Nat} (h : s.adm.exceeded.contains c = false) (over_ : Bool) : s.noteAmbient c over_ =
    if over_ = true then { s with adm.exceeded := c :: s.adm.exceeded } else s := by
  simp only [State.noteAmbient, h, Bool.not_false, Bool.and_true]
end

/-- Settles O9: each row behind its condition, and what the fault of a TDC leaves. -/
theorem hitChannelUpkeepCompletes : Obligations.HitChannelUpkeepCompletes := by
  refine ⟨?_, fun s t upper at_ hu hs ht => execLaneHold_due hu hs ht, ?_, ?_, ?_, ?_⟩
  · intro s t upper l htotal hfault hlen x
    exact ⟨fun hok => (execLiveTableUpdate_healthy rfl rfl htotal hfault hok).trans
        (congrArg Host.Outcome.next (publishTable_eq s t upper x.1 x.2.1 x.2.2 rfl)),
      fun hok => ⟨_, execLiveTableUpdate_sick rfl rfl htotal hfault hok, laneFault_spec hlen x.1 x.2.2 s.time⟩⟩
  · intro s c since n hp tu trim lower upper hdue
    exact execThresholdApply_due hp rfl hdue rfl rfl rfl
  · intro s t h
    obtain ⟨hfail, hmig⟩ := faultTdc_spec s h 1 (s.time - ticksUs 1)
    refine ⟨_, rfl, hfail, faultTdc_hch s t _ _, fun hs => ?_⟩
    obtain ⟨m, hm, hk⟩ := List.mem_map.mp (hmig hs)
    exact List.any_eq_true.mpr ⟨m, hm, by simpa using hk⟩
  · intro s c h
    refine (execAmbientCheck_noted (noteAmbient_again h _)).trans ?_
    rw [if_pos h]
    rfl
  · intro s c h over_
    refine (execAmbientCheck_noted (noteAmbient_first h over_)).trans ?_
    by_cases ho : over_ = true
    · simp only [if_pos ho]
      rw [if_pos (by simp), List.filter_cons_of_neg (by simp)]
      rfl
    · simp only [if_neg ho]
      rw [if_neg (ne_true_of_eq_false h)]
end Sys2Proof.Machine

namespace Sys2Proof.Machine

/-! Writes of a range of channels (06 R145, R146, R148). -/

/-- A step `i` of a loop changes the register `A i` by `g i`, and no other. -/
def writesAt (A : Nat → Nat) (g : Nat → Word → Word) (f : State → Nat → State) : Prop :=
  ∀ (t : State) i a, (f t i).reg a = if a = A i then g i (t.reg a) else t.reg a

/-- A loop whose steps change different registers has changed each once, and no other. -/
theorem reg_foldl_range {A : Nat → Nat} {g : Nat → Word → Word} {f : State → Nat → State} (hf : writesAt A g f)
    (hA : ∀ i j, A i = A j → i = j) (s : State) : ∀ n,
    (∀ i, i < n → ((List.range n).foldl f s).reg (A i) = g i (s.reg (A i))) ∧
      ∀ a, (∀ i, i < n → a ≠ A i) → ((List.range n).foldl f s).reg a = s.reg a
  | 0 => ⟨fun _ h => absurd h (Nat.not_lt_zero _), fun _ _ => rfl⟩
  | n + 1 => by
    obtain ⟨hin, hout⟩ := reg_foldl_range hf hA s n
    simp only [List.range_succ, List.foldl_append, List.foldl_cons, List.foldl_nil]
    refine ⟨fun i hi => ?_, fun a ha => ?_⟩
    · rw [hf]
      by_cases h : i = n
      · subst h
        rw [if_pos rfl, hout (A i) fun j hj he => Nat.ne_of_lt hj (hA _ _ he).symm]
      · rw [if_neg fun he => h (hA _ _ he), hin i (by omega)]
    · rw [hf, if_neg (ha n (Nat.lt_succ_self n)), hout a fun i hi => ha i (by omega)]

/-- A register's value with the bits hi down to lo replaced. -/
def putBits (v hi lo x : Nat) : Nat := v - bits v hi lo * 2 ^ lo + x % 2 ^ (hi - lo + 1) * 2 ^ lo

theorem reg_setRegN (s : State) (a v b : Nat) : (s.setRegN a v).reg b = if b = a then BitVec.ofNat 32 v else s.reg b := by
  split
  · next h => rw [h, reg_setRegN_self]
  · next h => exact reg_setRegN_other s v h

theorem reg_setFld (s : State) (a hi lo x b : Nat) : (s.setFld a hi lo x).reg b =
    if b = a then BitVec.ofNat 32 (putBits (s.reg b).toNat hi lo x) else s.reg b := by
  refine (reg_setRegN s a _ b).trans ?_
  split
  · next h => rw [h]; rfl
  · rfl

theorem setFld_keeps (s : State) (a hi lo x : Nat) : s.keeps (s.setFld a hi lo x) [.regs] := setRegN_keeps s a _

/-- A change of the elements of a list from an index on. -/
def onRange {α : Type} (first n : Nat) (f : α → α) (l : List α) : List α :=
  l.mapIdx fun i x => if first ≤ i ∧ i < first + n then f x else x

theorem onRange_zero {α : Type} (first : Nat) (f : α → α) (l : List α) : onRange first 0 f l = l := by
  have h (i : Nat) (x : α) : (if first ≤ i ∧ i < first + 0 then f x else x) = x := if_neg (by omega)
  refine List.ext_getElem? fun i => ?_
  simp only [onRange, List.getElem?_mapIdx, h]
  exact Option.map_id'

theorem onRange_succ {α : Type} (first n : Nat) (f : α → α) (l : List α) :
    onRange first (n + 1) f l = upd (onRange first n f l) (first + n) f := by
  refine List.ext_getElem? fun i => ?_
  simp only [onRange, upd, List.getElem?_modify, List.getElem?_mapIdx]
  by_cases hi : first + n = i
  · simp [← hi]
  · have h : (first ≤ i ∧ i < first + (n + 1)) ↔ first ≤ i ∧ i < first + n := by omega
    simp [hi, h]

/-! THRESH_SET (06 R145, R148). -/

/-- A change of a channel's codes waits from a time and from a shot on. -/
def Chan.waits (now : Nat) (next : Long) (x : Chan) : Chan := { x with pending := some (now, next) }

/-- The codes of `n` channels from one on, written from a payload. -/
def State.setThresholds (s : State) (d : List Byte) (first n : Nat) : State :=
  (List.range n).foldl (fun t i => t.setThreshold (first + i) (field d (4 + 4 * i) 2) (field d (6 + 4 * i) 2)) s

theorem setThreshold_keeps (s : State) (c lower upper : Nat) : s.keeps (s.setThreshold c lower upper) [.regs, .hch] :=
  .after (setChan_keeps _ _ _) rfl (.first (setRegN_keeps s _ _) rfl)

section
variable (s : State) (d : List Byte) (first : Nat)

theorem setThresholds_keeps (n : Nat) : s.keeps (s.setThresholds d first n) [.regs, .hch] :=
  .foldl (fun t _ => setThreshold_keeps t _ _ _) _ s

/-- The register of a channel holds its two codes, and no other register has changed. -/
theorem setThresholds_regs (n : Nat) :
    (∀ i, i < n → (s.setThresholds d first n).regN (HCH_THRESH (first + i)) =
      field d (6 + 4 * i) 2 * 65536 + field d (4 + 4 * i) 2) ∧
    ∀ a, (∀ i, i < n → a ≠ HCH_THRESH (first + i)) → (s.setThresholds d first n).reg a = s.reg a := by
  obtain ⟨hin, hout⟩ := reg_foldl_range (A := fun i => HCH_THRESH (first + i))
    (f := fun t i => t.setThreshold (first + i) (field d (4 + 4 * i) 2) (field d (6 + 4 * i) 2))
    (g := fun i _ => BitVec.ofNat 32 (field d (6 + 4 * i) 2 * 65536 + field d (4 + 4 * i) 2))
    (fun t i a => reg_setRegN t _ _ a) (fun i j h => by simpa using h) s n
  refine ⟨fun i hi => ?_, hout⟩
  have hl := field_lt d (4 + 4 * i) 2
  have hu := field_lt d (6 + 4 * i) 2
  refine (congrArg BitVec.toNat (hin i hi)).trans ?_
  rw [BitVec.toNat_ofNat, Nat.mod_eq_of_lt (by omega)]

/-- The change of every channel of the range waits from now and from the next shot on. -/
theorem setThresholds_hch (n : Nat) : (s.setThresholds d first n).hch = { s.hch with
    chans := onRange first n (Chan.waits s.time s.seq.next) s.hch.chans } := by
  induction n with
  | zero => simp only [onRange_zero]; rfl
  | succ n ih =>
    have hk := setThresholds_keeps s d first n
    have ht : (s.setThresholds d first n).time = s.time := hk .time (by simp)
    have hs : (s.setThresholds d first n).seq = s.seq := hk .seq (by simp)
    have hstep : (s.setThresholds d first (n + 1)).hch = { (s.setThresholds d first n).hch with
        chans := upd (s.setThresholds d first n).hch.chans (first + n) (Chan.waits s.time s.seq.next) } := by
      rw [← ht, ← hs]
      simp only [State.setThresholds, List.range_succ, List.foldl_append]
      rfl
    rw [hstep, ih, onRange_succ]
end

/-! CHAN_ENABLE and CAPTURE_MODE (06 R146). -/

/-- The enable bits of the channels below `n`, written from a bitmap. -/
def State.enableChans (s : State) (d : List Byte) (n : Nat) : State :=
  (List.range n).foldl (fun t c => t.setFld (HCH_CFG c) 0 0 (b2n (bit (field d (c / 8) 1) (c % 8)))) s

theorem enableChans_keeps (s : State) (d : List Byte) (n : Nat) : s.keeps (s.enableChans d n) [.regs] :=
  .foldl (fun t _ => setFld_keeps t _ _ _ _) _ s

theorem putBits_low (v : Word) (b : Bool) :
    bit (BitVec.ofNat 32 (putBits v.toNat 0 0 (b2n b))).toNat 0 = b ∧
      (BitVec.ofNat 32 (putBits v.toNat 0 0 (b2n b))).toNat / 2 = v.toNat / 2 := by
  have hv := v.isLt
  have h : (BitVec.ofNat 32 (putBits v.toNat 0 0 (b2n b))).toNat = v.toNat - v.toNat % 2 + b2n b := by
    cases b <;> simp [putBits, bits, b2n] <;> omega
  rw [h, bit, Nat.testBit_zero]
  cases b <;> simp [b2n] <;> omega

theorem enableChans_regs (s : State) (d : List Byte) (n : Nat) :
    (∀ c, c < n → bit ((s.enableChans d n).regN (HCH_CFG c)) 0 = bit (field d (c / 8) 1) (c % 8) ∧
      (s.enableChans d n).regN (HCH_CFG c) / 2 = s.regN (HCH_CFG c) / 2) ∧
    ∀ a, (∀ c, c < n → a ≠ HCH_CFG c) → (s.enableChans d n).reg a = s.reg a := by
  obtain ⟨hin, hout⟩ := reg_foldl_range (A := HCH_CFG)
    (f := fun t c => t.setFld (HCH_CFG c) 0 0 (b2n (bit (field d (c / 8) 1) (c % 8))))
    (g := fun c v => BitVec.ofNat 32 (putBits v.toNat 0 0 (b2n (bit (field d (c / 8) 1) (c % 8)))))
    (fun t c a => reg_setFld t _ _ _ _ a) (fun i j h => by simpa using h) s n
  refine ⟨fun c hc => ?_, hout⟩
  have h := putBits_low (s.reg (HCH_CFG c)) (bit (field d (c / 8) 1) (c % 8))
  rwa [← hin c hc] at h

/-- Bit 1 and then bits 11 to 8 of a register replaced. -/
theorem putBits_modes (v : Word) {mode stamps : Nat} (hm : mode ≤ 1) (hs : stamps ≤ 8) :
    (BitVec.ofNat 32 (putBits (BitVec.ofNat 32 (putBits v.toNat 1 1 mode)).toNat 11 8 stamps)).toNat =
      v.toNat - bits v.toNat 1 1 * 2 - bits v.toNat 11 8 * 256 + mode * 2 + stamps * 256 := by
  have hv := v.isLt
  have h1 : (BitVec.ofNat 32 (putBits v.toNat 1 1 mode)).toNat = v.toNat - v.toNat / 2 % 2 * 2 + mode * 2 := by
    simp [putBits, bits]
    omega
  rw [h1]
  have h2 : (v.toNat - v.toNat / 2 % 2 * 2 + mode * 2) / 256 = v.toNat / 256 := by omega
  have hstamps : stamps % 16 = stamps := Nat.mod_eq_of_lt (by omega)
  have hroom : v.toNat - v.toNat / 2 % 2 * 2 + mode * 2 - v.toNat / 256 % 16 * 256 + stamps * 256 < 2 ^ 32 := by omega
  simp [putBits, bits, h2, hstamps]
  omega

/-- The mode and the stamps per shot of `n` channels from one on. -/
def State.setModes (s : State) (first n mode stamps : Nat) : State :=
  (List.range n).foldl (fun t i =>
    (t.setFld (HCH_CFG (first + i)) 1 1 mode).setFld (HCH_CFG (first + i)) 11 8 stamps) s

theorem setModes_keeps (s : State) (first n mode stamps : Nat) : s.keeps (s.setModes first n mode stamps) [.regs] :=
  .foldl (fun t _ => .trans (setFld_keeps t _ _ _ _) (setFld_keeps _ _ _ _ _)) _ s

theorem setModes_regs (s : State) (first n : Nat) {mode stamps : Nat} (hm : mode ≤ 1) (hs : stamps ≤ 8) :
    (∀ i, i < n → (s.setModes first n mode stamps).regN (HCH_CFG (first + i)) =
      s.regN (HCH_CFG (first + i)) - bits (s.regN (HCH_CFG (first + i))) 1 1 * 2 -
        bits (s.regN (HCH_CFG (first + i))) 11 8 * 256 + mode * 2 + stamps * 256) ∧
    ∀ a, (∀ i, i < n → a ≠ HCH_CFG (first + i)) → (s.setModes first n mode stamps).reg a = s.reg a := by
  obtain ⟨hin, hout⟩ := reg_foldl_range (A := fun i => HCH_CFG (first + i))
    (f := fun t i => (t.setFld (HCH_CFG (first + i)) 1 1 mode).setFld (HCH_CFG (first + i)) 11 8 stamps)
    (g := fun _ v => BitVec.ofNat 32 (putBits (BitVec.ofNat 32 (putBits v.toNat 1 1 mode)).toNat 11 8 stamps))
    (fun t i a => by
      rw [reg_setFld, reg_setFld]
      split <;> rfl) (fun i j h => by simpa using h) s n
  refine ⟨fun i hi => ?_, hout⟩
  exact (congrArg BitVec.toNat (hin i hi)).trans (putBits_modes _ hm hs)

/-! FREQ_MEASURE (06 R172). -/

/-- A measurement that waits for its first stamp. -/
def FreqUnit.begun (o : Origin) (sequence : Half) (gate : Nat) : FreqUnit :=
  { owner := o, sequence := sequence, gate := gate, first := none, lastT := 0, n := 0, st := 0, sit := 0
    blind := false, rate := false, warm := true }

/-- An input's frequency unit begins, with its result cleared and its busy bit set. -/
def State.beginFreq (s : State) (k : Nat) (f : FreqUnit) : State :=
  (s.setRegN (HCH_FREQ k + 12) 0x80000000).setRegN (HCH_FREQ k + 8) 0 |>.setRegN (HCH_FREQ k) 0
    |>.setRegN (HCH_FREQ k + 4) 0 |> fun t => { t with hch.freq := t.hch.freq.set k (some f) }

theorem freqMeasure_act {u : State} {r : Request} {k : Nat} (hk : field r.payload 0 1 = k)
    (hon : u.fld (HCH_EV_CFG k) 1 0 ≠ 3) (hidle : nth u.hch.freq k none = none) (o : Origin) :
    freqMeasureOp.act u o (r.packet 0x44) =
      { st := u.beginFreq k (.begun o r.sequence (ticksUs (field r.payload 4 4))), status := ACCEPTED } := by
  subst hk
  simp only [freqMeasureOp, payload_packet]
  rw [doneIf_pass (bne_iff_ne.mpr hon), doneIf_pass (by rw [hidle]; rfl), doneIf_nil]
  rfl

theorem beginFreq_regs (s : State) (k : Nat) (f : FreqUnit) :
    (s.beginFreq k f).regN (HCH_FREQ k) = 0 ∧ (s.beginFreq k f).regN (HCH_FREQ k + 4) = 0 ∧
      (s.beginFreq k f).regN (HCH_FREQ k + 8) = 0 ∧ (s.beginFreq k f).regN (HCH_FREQ k + 12) = 0x80000000 ∧
      s.keepsRegs (s.beginFreq k f) [HCH_FREQ k, HCH_FREQ k + 4, HCH_FREQ k + 8, HCH_FREQ k + 12] := by
  have h (a : Nat) : (s.beginFreq k f).reg a = if a = HCH_FREQ k + 4 then 0 else if a = HCH_FREQ k then 0
      else if a = HCH_FREQ k + 8 then 0 else if a = HCH_FREQ k + 12 then 0x80000000 else s.reg a := by
    refine (reg_setRegN _ _ _ a).trans ?_
    rw [reg_setRegN, reg_setRegN, reg_setRegN]
    rfl
  refine ⟨?_, ?_, ?_, ?_, fun a ha => ?_⟩
  · simp [State.regN, h]
  · simp [State.regN, h]
  · simp [State.regN, h]
  · simp [State.regN, h]
  · simp only [List.mem_cons, List.not_mem_nil, or_false, not_or] at ha
    obtain ⟨h0, h4, h8, h12⟩ := ha
    rw [h, if_neg h4, if_neg h0, if_neg h8, if_neg h12]

/-- CAPTURE_MODE takes a mode of 0 or 1 and at most 8 stamps (06 R146). -/
theorem captureMode_checked {s u : State} {o : Origin} {r : Request} {e : Nat}
    (h : s.accepted captureModeOp o r = some (u, e)) : field r.payload 4 1 ≤ 1 ∧ field r.payload 5 1 ≤ 8 := by
  have hc := firstFail_eq_none.mp (accepted_checked h).2
  have hmode := hc (need (decide (field r.payload 4 1 ≤ 1)) BAD_PARAM 20) (by simp)
  have hstamps := hc (need (within (field r.payload 5 1) 1 8) BAD_PARAM 21) (by simp)
  simp [need, within] at hmode hstamps
  omega

/-- Settles O7: each opcode's effect is its loop over the channels, or one input's. -/
theorem hitChannelConfigurationWritesItsChannels : Obligations.HitChannelConfigurationWritesItsChannels := by
  refine ⟨?_, ?_, ?_, fun s u o r e h => congrArg Host.Outcome.next (serve_answered h rfl), ?_⟩
  · intro s u o r e h first n
    obtain ⟨hin, hout⟩ := setThresholds_regs u r.payload first n
    have hh := setThresholds_hch u r.payload first n
    exact ⟨u.setThresholds r.payload first n, congrArg Host.Outcome.next (serve_answered h rfl), hin,
      congrArg Receiver.chans hh, by rw [hh], hout, setThresholds_keeps _ _ _ _⟩
  · intro s u o r e h
    obtain ⟨hin, hout⟩ := enableChans_regs u r.payload 512
    exact ⟨u.enableChans r.payload 512, congrArg Host.Outcome.next (serve_answered h rfl), hin, hout,
      enableChans_keeps _ _ _⟩
  · intro s u o r e h first n
    obtain ⟨hm, hs⟩ := captureMode_checked h
    obtain ⟨hin, hout⟩ := setModes_regs u first n hm hs
    exact ⟨u.setModes first n (field r.payload 4 1) (field r.payload 5 1),
      congrArg Host.Outcome.next (serve_answered h rfl), hin, hout, setModes_keeps _ _ _ _ _⟩
  · intro s u o r e h k hon hidle
    obtain ⟨h0, h4, h8, h12, hrest⟩ := beginFreq_regs u k (.begun o r.sequence (ticksUs (field r.payload 4 4)))
    exact ⟨_, congrArg Host.Outcome.next (serve_answeredAccepted h (freqMeasure_act rfl hon hidle o)), rfl, h0, h4, h8, h12,
      hrest, .after (keeps_hch _ _) rfl (.after (setRegN_keeps _ _ _) rfl (.after (setRegN_keeps _ _ _) rfl
        (.after (setRegN_keeps _ _ _) rfl (.first (setRegN_keeps u _ _) rfl))))⟩
end Sys2Proof.Machine

namespace Sys2Proof.Machine

/-! Changes of a lane or a TDC that a view of it does not show. -/

section
variable (s : State) {t : Nat} {upper : Bool} {β : Type}

theorem nth_upd_view {α : Type} {g : α → β} {f : α → α} (h : ∀ x, g (f x) = g x) (l : List α) (i k : Nat) (d : α) :
    g (nth (upd l i f) k d) = g (nth l k d) := by
  by_cases hk : k = i
  · subst hk
    by_cases hl : k < l.length
    · rw [nth_upd_self _ _ _ _ hl, h]
    · rw [upd, List.modify_eq_self (Nat.le_of_not_lt hl)]
  · rw [nth_upd_other _ _ _ hk]

theorem tdc_setTdc_view {g : Tdc → β} {f : Tdc → Tdc} (h : ∀ x, g (f x) = g x) (k : Nat) :
    g ((s.setTdc t f).tdc k) = g (s.tdc k) := nth_upd_view h _ _ _ _

theorem tdc_setLane_view {g : Tdc → β} {f : Lane → Lane} (hl : ∀ x : Tdc, g { x with lower := f x.lower } = g x)
    (hu : ∀ x : Tdc, g { x with upper := f x.upper } = g x) (k : Nat) : g ((s.setLane t upper f).tdc k) = g (s.tdc k) := by
  refine tdc_setTdc_view s (fun x => ?_) k
  cases upper
  · exact hl x
  · exact hu x

theorem lane_setLane_view {g : Lane → β} {f : Lane → Lane} (h : ∀ l, g (f l) = g l) (k : Nat) (b : Bool) :
    g ((s.setLane t upper f).lane k b) = g (s.lane k b) := by
  cases b
  · exact tdc_setLane_view s (g := fun x => g x.lower) (fun x => h _) (fun _ => rfl) k
  · exact tdc_setLane_view s (g := fun x => g x.upper) (fun _ => rfl) (fun x => h _) k

theorem lane_setLane_not (f : Lane → Lane) (k : Nat) : (s.setLane t upper f).lane k (!upper) = s.lane k (!upper) := by
  by_cases hk : k = t
  · subst hk
    exact lane_setLane_flip s f
  · exact lane_setLane_other s f hk _

theorem tdc_congr {s u : State} (h : u.hch.tdcs = s.hch.tdcs) (k : Nat) : u.tdc k = s.tdc k := by
  simp [State.tdc, h]
end

/-! What the stamp of an edge and an edge in the blind time leave (06 R149, R150). -/

section
variable (s : State) (t tick : Nat) (upper rising : Bool) (value : Nat)

theorem dropStamp_tdcs : (s.dropStamp t tick).hch.tdcs = s.hch.tdcs := by
  unfold State.dropStamp
  extract_lets u
  have hu : u.hch.tdcs = s.hch.tdcs := congrArg Receiver.tdcs (bump_keeps s (TDC_DROP t) .hch (by simp))
  split <;> exact hu

theorem dropStamp_regs : (s.dropStamp t tick).regs = (s.bump (TDC_DROP t)).regs := by
  unfold State.dropStamp
  extract_lets u
  split <;> rfl

theorem dropStamp_keepsRegs : s.keepsRegs (s.dropStamp t tick) [TDC_DROP t] :=
  .trans (bump_keepsRegs s _) (keepsRegs_of_regs (dropStamp_regs s t tick) _)

theorem mergeOne_keepsRegs (now : Nat) : s.keepsRegs (s.mergeOne t now) [TDC_DROP t] := by
  unfold State.mergeOne
  extract_lets x pick
  clear_value pick
  obtain _ | ⟨up, h⟩ := pick
  · exact .refl s _
  · exact .ite (.refl s _) (.ite (fun a ha => (dropStamp_keepsRegs _ t h.tick a ha).trans rfl) (fun _ _ => rfl))

theorem length_tdcs_mergeOne (now : Nat) : (s.mergeOne t now).hch.tdcs.length = s.hch.tdcs.length := by
  unfold State.mergeOne
  extract_lets x pick
  clear_value pick
  obtain _ | ⟨up, h⟩ := pick
  · rfl
  · dsimp only
    split
    · rfl
    · split
      · rw [dropStamp_tdcs]; simp
      · simp

theorem merge_keepsRegs (now : Nat) : s.keepsRegs (s.merge t now) [TDC_DROP t] :=
  .foldl (fun u _ => mergeOne_keepsRegs u t now) _ s

theorem length_tdcs_merge (now : Nat) : (s.merge t now).hch.tdcs.length = s.hch.tdcs.length :=
  List.foldlRecOn (motive := fun u => u.hch.tdcs.length = s.hch.tdcs.length) (List.range 8) _ rfl
    fun u hu _ _ => (length_tdcs_mergeOne u t now).trans hu

/-- The count of an edge lost in the blind time. -/
def State.countBlind (s : State) (t : Nat) (upper : Bool) : State :=
  if (s.lane t upper).injected || !(s.lane t upper).lost then s.bump (TDC_BLIND t) else s

theorem countBlind_keeps : s.keeps (s.countBlind t upper) [.regs, .pk] := .ite (bump_keeps s _) (.refl s _)

theorem countBlind_keepsRegs : s.keepsRegs (s.countBlind t upper) [TDC_BLIND t] :=
  .ite (bump_keepsRegs s _) (.refl s _)

theorem blindEdge_eq : s.blindEdge t upper rising =
    (s.countBlind t upper).setLane t upper fun l => { l with level := rising, lost := l.lost || !l.injected } := rfl

theorem blindEdge_keeps : s.keeps (s.blindEdge t upper rising) [.regs, .hch, .pk] :=
  .after (setLane_keeps _ _ _ _) rfl (.first (countBlind_keeps s t upper) rfl)

theorem blindEdge_keepsRegs : s.keepsRegs (s.blindEdge t upper rising) [TDC_BLIND t] := countBlind_keepsRegs s t upper

theorem countBlind_hch : (s.countBlind t upper).hch = s.hch := countBlind_keeps s t upper .hch (by simp)

theorem length_tdcs_blindEdge : (s.blindEdge t upper rising).hch.tdcs.length = s.hch.tdcs.length := by
  rw [blindEdge_eq, length_tdcs_setLane, countBlind_hch]

theorem blindEdge_spec (h : t < s.hch.tdcs.length) : let v := s.blindEdge t upper rising
    v.hch.chans = s.hch.chans ∧
      v.lane t upper = { s.lane t upper with
        level := rising, lost := (s.lane t upper).lost || !(s.lane t upper).injected } ∧
      v.reg (TDC_BLIND t) = s.reg (TDC_BLIND t) +
        (if (s.lane t upper).injected = true ∨ (s.lane t upper).lost = false then 1 else 0) := by
  intro v
  have hh := countBlind_hch s t upper
  refine ⟨(congrArg Receiver.chans hh :), ?_, ?_⟩
  · have hl : (s.countBlind t upper).lane t upper = s.lane t upper := lane_congr (tdc_congr (by rw [hh]) t) upper
    simp only [v, blindEdge_eq]
    rw [lane_setLane_self _ _ (by rwa [hh]), hl]
  · have hr : v.reg (TDC_BLIND t) = (s.countBlind t upper).reg (TDC_BLIND t) := rfl
    rw [hr, State.countBlind]
    by_cases hc : (s.lane t upper).injected = true ∨ (s.lane t upper).lost = false
    · rw [if_pos hc, if_pos (by simpa using hc), reg_bump_self]
    · rw [if_neg hc, if_neg (by simpa using hc)]
      exact (BitVec.add_zero _).symm

theorem shadowEdge_keeps : s.keeps (s.shadowEdge t upper rising value) [.regs, .hch, .pk] :=
  .ite (blindEdge_keeps s t upper rising) (.first (setLane_keeps s _ _ _) rfl)

theorem shadowEdge_keepsRegs : s.keepsRegs (s.shadowEdge t upper rising value) [TDC_BLIND t] :=
  .ite (blindEdge_keepsRegs s t upper rising) (keepsRegs_of_regs rfl _)

theorem length_tdcs_shadowEdge : (s.shadowEdge t upper rising value).hch.tdcs.length = s.hch.tdcs.length := by
  simp only [State.shadowEdge]
  split
  · exact length_tdcs_blindEdge s t upper rising
  · exact length_tdcs_setLane s _
end

section
variable (s : State) (swap : Option (Nat × Nat)) (q tick : Nat) (upper rising : Bool) (value : Nat)

/-- The TDC that takes over, where there is one, is the new one. -/
theorem shadowTdc_eq {swap : Option (Nat × Nat)} {q tick n : Nat} (h : shadowTdc swap q tick = some n) : n = q := by
  unfold shadowTdc at h
  split at h
  · split at h
    · exact (Option.some.inj h).symm
    · cases h
  · cases h

/-- Beside the registers of TDC q, the merge and the edge's own blind time change the receiver alone. -/
theorem shadowed_spec : let m := s.shadowed swap q tick upper rising value
    s.keeps m [.regs, .hch, .pk] ∧ s.keepsRegs m [TDC_BLIND q] ∧ m.hch.tdcs.length = s.hch.tdcs.length := by
  intro m
  simp only [m, State.shadowed]
  split
  next n hn =>
    rw [shadowTdc_eq hn]
    exact ⟨shadowEdge_keeps s _ _ _ _, shadowEdge_keepsRegs s _ _ _ _, length_tdcs_shadowEdge s _ _ _ _⟩
  · exact ⟨.refl s _, .refl s _, rfl⟩

/-- The state in which a lane meets an edge: every earlier stamp is merged, and the TDC that takes over has seen it. -/
def State.edgeMet : State := (s.merge q (tick - 1)).shadowed swap q tick upper rising value

theorem edgeMet_spec : let m := s.edgeMet swap q tick upper rising value
    s.keeps m [.regs, .hch, .pk] ∧ s.keepsRegs m [TDC_DROP q, TDC_BLIND q] ∧ m.hch.tdcs.length = s.hch.tdcs.length := by
  intro m
  obtain ⟨hk, hr, hl⟩ := shadowed_spec (s.merge q (tick - 1)) swap q tick upper rising value
  exact ⟨.trans (.first (merge_keeps s q _) rfl) hk,
    .trans (.mono (merge_keepsRegs s q _) (by simp)) (.mono hr (by simp)), hl.trans (length_tdcs_merge s q _)⟩
end

theorem ambient_not_mem {q : Nat} (h : q < 567) : ADM_AMBIENT ∉ [TDC_DROP q, TDC_BLIND q] := by
  simp only [ADM_AMBIENT, TDC_DROP, TDC_BLIND, List.mem_cons, List.not_mem_nil, or_false]
  omega

/-! The stamp that an edge leaves (06 R149, R150; 11 R284). -/

/-- A lane holds one more stamp. -/
def HitStamp.push (h : HitStamp) (l : Lane) : Lane := { l with buffer := l.buffer ++ [h] }

/-- An L-rising edge. -/
def HitStamp.hit (h : HitStamp) : Bool := !h.upper && h.rising

/-- The lane has stamped the edge; its channel is blind, and counts it for the ambient check. -/
def State.edgeStamped (s : State) (c : Nat) (h : HitStamp) : State :=
  let u := (s.stampEdge h.tdc h.upper h.rising h.value).noteBlind c h.value
  if h.hit then u.countAmbient c h.tick else u

/-- A hit triggers the capture units that name its channel (09 R239). -/
def State.hitTriggers (s : State) (c : Nat) (h : HitStamp) : State :=
  s.triggerAll 2 (fun u => s.fld (WFD_CAP_SRC u) 31 23 == c)
    (s.calibrate h.tdc false (some c) h.tick h.tap h.res (s.setAt h.tick)).1

section
variable (m : State) (c : Nat) (h : HitStamp)

theorem hitTriggers_keeps : m.keeps (m.hitTriggers c h) [.regs, .pk, .wfd] :=
  triggerAll_keeps m _ _ _

theorem stampEdge_keeps (t : Nat) (upper rising : Bool) (value : Nat) :
    m.keeps (m.stampEdge t upper rising value) [.hch] := .trans (setLane_keeps m _ _ _) (setTdc_keeps _ _ _)

theorem noteAmbient_keeps (over_ : Bool) : m.keeps (m.noteAmbient c over_) [.adm] := .ite (keeps_adm m _) (.refl m _)

theorem countAmbient_keeps (tick : Nat) : m.keeps (m.countAmbient c tick) [.adm] :=
  .trans (noteAmbient_keeps m c _) (keeps_adm _ _)

theorem edgeStamped_keeps : m.keeps (m.edgeStamped c h) [.hch, .adm] := by
  have hu : m.keeps ((m.stampEdge h.tdc h.upper h.rising h.value).noteBlind c h.value) [.hch, .adm] :=
    .first (.trans (stampEdge_keeps m _ _ _ _) (setChan_keeps _ _ _)) rfl
  exact .ite (.after (countAmbient_keeps _ _ _) rfl hu) hu

theorem edgeStamped_tdcs : (m.edgeStamped c h).hch.tdcs = (m.stampEdge h.tdc h.upper h.rising h.value).hch.tdcs := by
  simp only [State.edgeStamped]
  split
  · exact (congrArg Receiver.tdcs (countAmbient_keeps _ _ _ .hch (by simp)) :)
  · rfl

/-- The count for the ambient check rests on the history of shots, the assumption, and what was counted before. -/
theorem countAmbient_adm {s u : State} (hadm : u.adm = s.adm) (hseq : u.seq = s.seq)
    (hreg : u.reg ADM_AMBIENT = s.reg ADM_AMBIENT) (c tick : Nat) : (u.countAmbient c tick).adm = (s.countAmbient c tick).adm := by
  have hopen (c a : Nat) : u.openIn c a = s.openIn c a := by simp only [State.openIn, hseq]
  have hin (c a : Nat) (l : List Nat) : u.overIn c a l = s.overIn c a l := by
    unfold State.overIn State.regN
    rw [hreg, hopen]
  have hover (c now : Nat) (l : List Nat) : u.ambientOver c now l = s.ambientOver c now l := by
    simp only [State.ambientOver, hin, hseq]
  have hnote (b : Bool) : (u.noteAmbient c b).adm = (s.noteAmbient c b).adm := by
    simp only [State.noteAmbient, hadm]
    split
    · rfl
    · exact hadm
  simp only [State.countAmbient, hover, hadm, hnote]

theorem edgeStamped_adm {s m : State} (hk : s.keeps m [.regs, .hch, .pk]) (hreg : m.reg ADM_AMBIENT = s.reg ADM_AMBIENT)
    (c : Nat) (h : HitStamp) :
    (m.edgeStamped c h).adm = (if h.upper = false ∧ h.rising = true then s.countAmbient c h.tick else s).adm := by
  have hit : h.hit = true ↔ h.upper = false ∧ h.rising = true := by simp [HitStamp.hit]
  unfold State.edgeStamped
  extract_lets u
  have hu : m.keeps u [.hch] := .trans (stampEdge_keeps m _ _ _ _) (setChan_keeps _ _ _)
  have hadm : u.adm = s.adm := (hu .adm (by simp)).trans (hk .adm (by simp))
  have hseq : u.seq = s.seq := (hu .seq (by simp)).trans (hk .seq (by simp))
  have hreg' : u.reg ADM_AMBIENT = s.reg ADM_AMBIENT := (reg_congr (hu .regs (by simp)) _).trans hreg
  clear_value u
  simp only [hit]
  split
  · exact countAmbient_adm hadm hseq hreg' c h.tick
  · exact hadm

/-- The TDCs where a lane has stamped an edge: it alone is blind from the stamp on. -/
theorem stampEdge_lanes (m : State) (t : Nat) (upper rising : Bool) (value : Nat) :
    let u := m.stampEdge t upper rising value
    (t < m.hch.tdcs.length → u.lane t upper = (m.lane t upper).take rising value) ∧
      (∀ k, u.lane k (!upper) = m.lane k (!upper)) ∧ (∀ k, (u.lane k upper).buffer = (m.lane k upper).buffer) ∧
      (∀ k, (u.tdc k).queue = (m.tdc k).queue) ∧ ∀ k, k ≠ t → u.tdc k = m.tdc k := by
  intro u
  let w := m.setLane t upper fun l => l.take rising value
  have hu : u = w.setTdc t fun x => { x with markBlind := false } := rfl
  have hlane (k : Nat) (b : Bool) : u.lane k b = w.lane k b := by
    cases b
    · exact tdc_setTdc_view w (g := Tdc.lower) (f := fun x => { x with markBlind := false }) (fun _ => rfl) k
    · exact tdc_setTdc_view w (g := Tdc.upper) (f := fun x => { x with markBlind := false }) (fun _ => rfl) k
  refine ⟨fun h => ?_, fun k => ?_, fun k => ?_, fun k => ?_, fun k hk => ?_⟩
  · rw [hlane]
    exact lane_setLane_self m (fun l => l.take rising value) h
  · rw [hlane]
    exact lane_setLane_not m _ k
  · rw [hlane]
    exact lane_setLane_view m (g := Lane.buffer) (f := fun l => l.take rising value) (fun _ => rfl) k upper
  · exact (tdc_setTdc_view w (g := Tdc.queue) (f := fun x => { x with markBlind := false }) (fun _ => rfl) k).trans
      (tdc_setLane_view m (g := Tdc.queue) (f := fun l => l.take rising value) (fun _ => rfl) (fun _ => rfl) k)
  · exact (tdc_setTdc_other w _ hk).trans (tdc_setLane_other m _ hk)
end

/-- A lane meets an edge that its channel stamps: it is lost in the blind time; else its stamp stands at the end of the
lane's buffer in the TDC q that serves the channel, or is dropped where four stand there. -/
def State.meetEdge (m : State) (c q : Nat) (h : HitStamp) : State :=
  if m.blindAt h.tdc h.upper h.value then m.blindEdge h.tdc h.upper h.rising
  else
    let w := m.edgeStamped c h
    let full := decide (4 ≤ (w.lane q h.upper).buffer.length)
    let x := if full then w.dropStamp q h.tick else w.setLane q h.upper h.push
    if h.hit && !full then x.hitTriggers c h else x

section
variable {m w : State} {c q : Nat} {h : HitStamp}

theorem meetEdge_blind (hb : h.value < (m.lane h.tdc h.upper).blindUntil) :
    m.meetEdge c q h = m.blindEdge h.tdc h.upper h.rising := if_pos (blindAt_iff.mpr hb)

theorem meetEdge_full (hb : (m.lane h.tdc h.upper).blindUntil ≤ h.value) (hw : m.edgeStamped c h = w)
    (hf : 4 ≤ (w.lane q h.upper).buffer.length) : m.meetEdge c q h = w.dropStamp q h.tick := by
  subst hw
  simp only [State.meetEdge, blindAt_iff, if_neg (Nat.not_lt.mpr hb), decide_eq_true hf, Bool.not_true, Bool.and_false,
    if_true, Bool.false_eq_true, if_false]

theorem meetEdge_kept (hb : (m.lane h.tdc h.upper).blindUntil ≤ h.value) (hw : m.edgeStamped c h = w)
    (hf : ¬ 4 ≤ (w.lane q h.upper).buffer.length) : m.meetEdge c q h =
      if h.hit then (w.setLane q h.upper h.push).hitTriggers c h else w.setLane q h.upper h.push := by
  subst hw
  simp only [State.meetEdge, blindAt_iff, if_neg (Nat.not_lt.mpr hb), decide_eq_false hf, Bool.not_false, Bool.and_true,
    Bool.false_eq_true, if_false]
end

/-- A lane but for the stamps that it holds. -/
def Lane.emptied (l : Lane) : Lane := { l with buffer := [] }

/-- Where a stamp finds its place, and what the lanes are beside it, once the edge is stamped. -/
theorem meetEdge_spec {m w : State} {c q : Nat} {h : HitStamp} (hb : (m.lane h.tdc h.upper).blindUntil ≤ h.value)
    (hw : m.edgeStamped c h = w) (hq : q < w.hch.tdcs.length) : let v := m.meetEdge c q h
    (v.lane q h.upper).buffer = (w.lane q h.upper).buffer ++ (if 4 ≤ (w.lane q h.upper).buffer.length then [] else [h]) ∧
      (4 ≤ (w.lane q h.upper).buffer.length → v.reg (TDC_DROP q) = w.reg (TDC_DROP q) + 1) ∧
      (∀ k, (v.lane k h.upper).emptied = (w.lane k h.upper).emptied) ∧ (∀ k, v.lane k (!h.upper) = w.lane k (!h.upper)) ∧
      (∀ k, (v.tdc k).queue = (w.tdc k).queue) ∧ (∀ k, k ≠ q → v.tdc k = w.tdc k) ∧
      w.keeps v [.regs, .hch, .pk, .wfd] := by
  intro v
  by_cases hf : 4 ≤ (w.lane q h.upper).buffer.length
  · have hv : v = w.dropStamp q h.tick := meetEdge_full hb hw hf
    have htdc (k : Nat) : v.tdc k = w.tdc k := tdc_congr (hv ▸ dropStamp_tdcs w q h.tick) k
    have hlane (k : Nat) (b : Bool) : v.lane k b = w.lane k b := lane_congr (htdc k) b
    refine ⟨by rw [hlane, if_pos hf, List.append_nil], fun _ => ?_, fun k => by rw [hlane], fun k => hlane k _,
      fun k => by rw [htdc], fun k _ => htdc k, hv ▸ .first (dropStamp_keeps w q _) rfl⟩
    rw [hv, reg_congr (dropStamp_regs w q _), reg_bump_self]
  · have hv : v = if h.hit then (w.setLane q h.upper h.push).hitTriggers c h else w.setLane q h.upper h.push :=
      meetEdge_kept hb hw hf
    have hk : (w.setLane q h.upper h.push).keeps v [.regs, .pk, .wfd] :=
      hv ▸ .ite (hitTriggers_keeps _ c h) (.refl _ _)
    have htdc (k : Nat) : v.tdc k = (w.setLane q h.upper h.push).tdc k :=
      tdc_congr (congrArg Receiver.tdcs (hk .hch (by simp))) k
    have hlane (k : Nat) (b : Bool) : v.lane k b = (w.setLane q h.upper h.push).lane k b := lane_congr (htdc k) b
    refine ⟨?_, fun h => absurd h hf, fun k => ?_, fun k => ?_, fun k => ?_, fun k hkq => ?_,
      .trans (.first (setLane_keeps w _ _ _) rfl) (.first hk rfl)⟩
    · rw [hlane, lane_setLane_self w _ hq, if_neg hf]
      rfl
    · rw [hlane]
      exact lane_setLane_view w (g := Lane.emptied) (f := h.push) (fun _ => rfl) k h.upper
    · rw [hlane]
      exact lane_setLane_not w _ k
    · rw [htdc]
      exact tdc_setLane_view w (g := Tdc.queue) (f := h.push) (fun _ => rfl) (fun _ => rfl) k
    · rw [htdc]
      exact tdc_setLane_other w _ hkq

/-- The stamp that the TDC t gives an edge. -/
def State.hitOf (m : State) (x : Stamp) (upper rising : Bool) (t tick : Nat) : HitStamp :=
  { rising := rising, upper := upper, blind := (m.lane t upper).lost || (m.tdc t).markBlind
    spare := decide (512 ≤ t), tdc := t, tick := tick, tap := x.tap.toNat, res := x.res.toNat }

section
variable {s : State} {c : Fin 512} {upper rising : Bool} {stamp : Stamp}

theorem execComparatorEdge_off (h : s.rep.chanLost.contains c.val = true ∨ upper = true ∧ (s.chan c).upper = 0) :
    exec (.comparatorEdge c upper rising stamp) s = .next s :=
  congrArg Host.Outcome.next (if_pos (by simpa using h))

/-- The channel has a TDC, and the comparator is on. -/
def State.edgeLives (s : State) (c : Nat) (upper : Bool) : Prop :=
  s.rep.chanLost.contains c = false ∧ (upper = true → (s.chan c).upper ≠ 0)

theorem not_off_of_lives (h : s.edgeLives c upper) :
    ¬ (s.rep.chanLost.contains c.val || (upper && (s.chan c).upper == 0)) = true := by
  obtain ⟨hlost, hup⟩ := h
  rw [hlost]
  cases upper
  · exact Bool.false_ne_true
  · simpa using hup rfl

theorem execComparatorEdge_unstamped (h : s.edgeLives c upper) (he : s.edgeTaken c upper rising = false) :
    exec (.comparatorEdge c upper rising stamp) s =
      .next (s.laneLevel ((s.chan c).takes (s.stampTick stamp)) upper rising (s.stampValue stamp)) :=
  congrArg Host.Outcome.next ((if_neg (not_off_of_lives h)).trans (if_pos (ne_true_of_eq_false he)))

theorem execComparatorEdge_stamped {q t tick : Nat} {m : State} (hq : (s.chan c).tdc = q)
    (htick : s.stampTick stamp = tick) (ht : (s.chan c).takes tick = t)
    (hm : s.edgeMet (s.chan c).swap q tick upper rising (s.stampValue stamp) = m) (h : s.edgeLives c upper)
    (he : s.edgeTaken c upper rising = true) : exec (.comparatorEdge c upper rising stamp) s =
      .next (m.meetEdge c q (m.hitOf stamp upper rising t tick)) := by
  subst htick ht hq
  refine congrArg Host.Outcome.next ((if_neg (not_off_of_lives h)).trans ((if_neg (not_not_intro he)).trans ?_))
  simp only [State.edgeMet] at hm
  generalize s.merge (s.chan c).tdc (s.stampTick stamp - 1) = m0 at hm
  subst hm
  unfold State.shadowed
  cases shadowTdc _ _ _ <;> rfl
end

/-! Injected edges (06 R158; 14 R365). -/

/-- An injected edge blinds a lane. -/
def Lane.inject (l : Lane) (value : Nat) : Lane := { l with blindUntil := value + 4096, injected := true }

/-- The lane blind, and the channel of its TDC. -/
def State.injected (s : State) (t : Nat) (upper : Bool) (value : Nat) : State :=
  let u := s.setLane t upper fun l => l.inject value
  match u.tdcChan t with
  | some c => u.noteBlind c value
  | none => u

section
variable {s : State} {t : Fin 567} {upper : Bool} {stamp : Stamp}

theorem execPulserInject_on (hon : s.pulserOn t upper = true) (hb : (s.lane t upper).blindUntil ≤ s.stampValue stamp) :
    exec (.pulserInject t upper stamp) s =
      .next ((s.injected t upper (s.stampValue stamp)).qualify t upper stamp.tap.toNat stamp.res.toNat) := by
  have hblind : s.blindAt t upper (s.stampValue stamp) = false :=
    decide_eq_false (Nat.not_lt.mpr hb)
  have hgo : ¬ (¬ (s.pulserOn t upper = true ∨
      (s.calStep 1 && !(upper && decide (544 ≤ t.val)) && s.fld HCH_CAL_CFG 15 8 != 0) = true) ∨
      s.blindAt t upper (s.stampValue stamp) = true) := by
    rw [hblind, hon]
    simp
  refine congrArg Host.Outcome.next ((if_neg hgo).trans ?_)
  extract_lets u v
  have hv : v = s.injected t upper (s.stampValue stamp) := by
    unfold State.injected
    extract_lets w
    have hw : w = u := rfl
    clear_value w
    subst hw
    unfold v
    cases u.tdcChan t <;> rfl
  clear_value v
  rw [← hv]
  exact if_pos hon

theorem pulserOn_of (hup : upper = true → t.val < 544)
    (h : bit (s.regN HCH_CAL_CFG) 26 = true ∧ (512 ≤ t.val ∧ t.val < 544 ∨ s.fld HCH_CAL_CFG 15 8 ≠ 0) ∨
      s.calStep 0 = true ∧ (s.lane t upper).converged = false) : s.pulserOn t upper = true := by
  have hlane : (upper && decide (544 ≤ t.val)) = false := by
    cases upper
    · rfl
    · exact decide_eq_false (Nat.not_le.mpr (hup rfl))
  rw [State.pulserOn, hlane]
  obtain ⟨hsrc, hrate⟩ | ⟨hcal, hconv⟩ := h
  · simp [hsrc, hrate]
  · simp [hcal, hconv]

/-- An injection changes its lane, and notes the blind span of the channel. -/
theorem injected_spec (s : State) (t : Nat) (upper : Bool) (value : Nat) : let u := s.injected t upper value
    u.hch.tdcs = (s.setLane t upper fun l => l.inject value).hch.tdcs ∧ s.keeps u [.hch] := by
  intro u
  unfold u State.injected
  extract_lets v
  have hv : s.keeps v [.hch] := setLane_keeps s _ _ _
  cases v.tdcChan t with
  | none => exact ⟨rfl, hv⟩
  | some c => exact ⟨rfl, hv.trans (setChan_keeps v _ _)⟩

/-- A lane takes a qualifying stamp into its accumulators while fewer than N_CAL stand there. -/
def Lane.qualify (l : Lane) (nCal tap res : Nat) : Lane :=
  if nCal ≤ l.total then l
  else
    { l with n := l.n.modify tap (· + 1), m := l.m.modify tap (· + (2 * res + 1)), total := l.total + 1
             ovr := l.ovr + b2n (res == 63) }

theorem qualify_eq (s : State) (t : Nat) (upper : Bool) (tap res : Nat) :
    s.qualify t upper tap res = s.setLane t upper fun l => l.qualify s.nCal tap res := rfl

theorem Lane.qualify_settings (l : Lane) (nCal tap res : Nat) : (l.qualify nCal tap res).blindUntil = l.blindUntil ∧
    (l.qualify nCal tap res).injected = l.injected ∧ (l.qualify nCal tap res).buffer = l.buffer ∧
    (l.qualify nCal tap res).total = if l.total < nCal then l.total + 1 else l.total := by
  by_cases h : nCal ≤ l.total
  · rw [Lane.qualify, if_pos h, if_neg (Nat.not_lt.mpr h)]
    exact ⟨rfl, rfl, rfl, rfl⟩
  · rw [Lane.qualify, if_neg h, if_pos (Nat.lt_of_not_le h)]
    exact ⟨rfl, rfl, rfl, rfl⟩
end

/-- Settles O8: the edge meets its lane behind the merge of the earlier stamps, and an injection its lane alone. -/
theorem hitEdgesAreStamped : Obligations.HitEdgesAreStamped := by
  refine ⟨fun s c upper rising stamp => execComparatorEdge_off, ?_, ?_, ?_, ?_⟩
  · intro s c upper rising stamp hlost hup he
    rw [execComparatorEdge_unstamped ⟨hlost, hup⟩ he, laneLevel_eq]
  · intro s c upper rising stamp t m0
    have hm0 : s.merge (s.chan c).tdc (s.stampTick stamp - 1) = m0 := rfl
    clear_value m0
    intro m hlost hup he hlen hb
    have hm : s.edgeMet (s.chan c).swap (s.chan c).tdc (s.stampTick stamp) upper rising (s.stampValue stamp) = m := by
      rw [State.edgeMet, hm0]
      rfl
    clear_value m
    obtain ⟨hk, hr, hl⟩ := edgeMet_spec s (s.chan c).swap (s.chan c).tdc (s.stampTick stamp) upper rising (s.stampValue stamp)
    rw [hm] at hk hr hl
    obtain ⟨hchans, hlane, hreg⟩ := blindEdge_spec m t upper rising (by rwa [hl])
    exact ⟨_, (execComparatorEdge_stamped rfl rfl rfl hm ⟨hlost, hup⟩ he).trans
      (congrArg Host.Outcome.next (meetEdge_blind hb)), hchans, hlane, hreg, .trans (.first hk rfl) (.first (blindEdge_keeps m t upper rising) rfl)⟩
  · intro s c upper rising stamp q tick t m0
    have hm0 : s.merge q (tick - 1) = m0 := rfl
    clear_value m0
    intro m hlost hup he hlen ht hq hb h
    have hm : s.edgeMet (s.chan c).swap q tick upper rising (s.stampValue stamp) = m := by
      rw [State.edgeMet, hm0]
      rfl
    clear_value m
    obtain ⟨hk, hr, hl⟩ := edgeMet_spec s (s.chan c).swap q tick upper rising (s.stampValue stamp)
    rw [hm] at hk hr hl
    let w := m.edgeStamped c h
    have hwt (k : Nat) : w.tdc k = (m.stampEdge t upper rising (s.stampValue stamp)).tdc k :=
      tdc_congr (edgeStamped_tdcs m c h) k
    have hw (k : Nat) (b : Bool) : w.lane k b = (m.stampEdge t upper rising (s.stampValue stamp)).lane k b :=
      lane_congr (hwt k) b
    have hwk : m.keeps w [.hch, .adm] := edgeStamped_keeps m c h
    have hwlen : w.hch.tdcs.length = 567 := by
      rw [edgeStamped_tdcs]
      simp [State.stampEdge, hl, hlen]
    obtain ⟨htake, hflip, hbuf, hqueue, hother⟩ := stampEdge_lanes m t upper rising (s.stampValue stamp)
    have hq' : q < w.hch.tdcs.length := by omega
    obtain ⟨vbuf, vdrop, vlane, vflip, vqueue, vother, vk⟩ := meetEdge_spec (w := w) (q := q) (h := h) hb rfl hq'
    have hlane : ((m.meetEdge c q h).lane t upper).emptied = ((m.lane t upper).take rising (s.stampValue stamp)).emptied := by
      rw [vlane, hw, htake (by omega)]
    refine ⟨_, execComparatorEdge_stamped rfl rfl rfl hm ⟨hlost, hup⟩ he, ?_, ?_, ?_, ?_, ?_, ?_, ?_, ?_, ?_, ?_, ?_⟩
    · rw [← hbuf q, ← hw]
      exact vbuf
    · rw [← hbuf q, ← hw, ← reg_congr (hwk .regs (by simp))]
      exact vdrop
    · exact (congrArg Lane.blindUntil hlane :)
    · exact (congrArg Lane.level hlane :)
    · exact (congrArg Lane.lost hlane :)
    · exact (vflip t).trans ((hw t _).trans (hflip t))
    · exact (vflip q).trans ((hw q _).trans (hflip q))
    · exact (vqueue q).trans ((congrArg Tdc.queue (hwt q)).trans (hqueue q))
    · refine (vk .adm (by simp)).trans (edgeStamped_adm hk ?_ c h)
      exact hr _ (ambient_not_mem hq)
    · exact fun k hkt hkq => (vother k hkq).trans ((hwt k).trans (hother k hkt))
    · exact .trans (.first hk rfl) (.trans (.first hwk rfl) (.first vk rfl))
  · intro s t upper stamp hup hon hlen hb
    let value := s.stampValue stamp
    obtain ⟨htdcs, hk⟩ := injected_spec s t upper value
    have hexec := execPulserInject_on (pulserOn_of hup hon) hb
    generalize s.injected t upper value = u at htdcs hk hexec
    have hcal : u.nCal = s.nCal := by
      unfold State.nCal State.fld State.regN
      rw [reg_congr (hk .regs (by simp))]
    have hlane : u.lane t upper = (s.lane t upper).inject value :=
      (lane_congr (tdc_congr htdcs t) upper).trans (lane_setLane_self s _ hlen)
    have hulen : t.val < u.hch.tdcs.length := by
      rw [htdcs, length_tdcs_setLane]
      exact hlen
    let f : Lane → Lane := fun l => l.qualify u.nCal stamp.tap.toNat stamp.res.toNat
    have hv : (u.setLane t upper f).lane t upper = ((s.lane t upper).inject value).qualify s.nCal stamp.tap.toNat stamp.res.toNat := by
      rw [lane_setLane_self u f hulen, hlane, ← hcal]
    obtain ⟨hblind, hinj, hbuf, htotal⟩ :=
      ((s.lane t upper).inject value).qualify_settings s.nCal stamp.tap.toNat stamp.res.toNat
    rw [← hv] at hblind hinj hbuf htotal
    refine ⟨u.setLane t upper f, hexec, hblind, hinj, hbuf, htotal, fun k hkt => ?_, ?_, ?_⟩
    · exact (tdc_setLane_other u f hkt).trans ((tdc_congr htdcs k).trans (tdc_setLane_other s _ hkt))
    · exact hk .regs (by simp)
    · exact hk.trans (setLane_keeps u _ _ _)
end Sys2Proof.Machine

namespace Sys2Proof.Machine

/-! Migrations: the map's entry and the end (17 R418, R426, R428). -/

/-- The migrations that wait once one has ended. -/
def Migration.leaves (m : Migration) (l : List (Nat × Nat)) : List (Nat × Nat) :=
  l.filter fun k => k.1 != m.kind || k.2 != m.failed

/-- The unit of a migration waits no more, and every other as before. -/
theorem gone_of_keys {s t : State} {m : Migration} (h : t.migKeys = m.leaves s.migKeys) :
    t.rep.migs.map (fun x => (x.kind, x.failed)) =
      (s.rep.migs.filter fun x => x.kind != m.kind || x.failed != m.failed).map fun x => (x.kind, x.failed) :=
  h.trans List.filter_map

/-- The units whose migrations wait, as the repair unit holds them. -/
def Repair.keys (r : Repair) : List (Nat × Nat) := r.migs.map fun m => (m.kind, m.failed)

theorem migKeys_of_bare {s t : State} (h : t.rep.bare = s.rep.bare) : t.migKeys = s.migKeys :=
  (congrArg Repair.keys h :)

/-- A change that the map enters, and the end of its migration: the unit but for the map and the migrations that wait, the
migrations that wait, and the entry. -/
theorem mapped_migDone {s w : State} {k o f n : Nat} (hw : w.rep.bare = (s.mapAdd k o f n).rep.bare) (m : Migration)
    (out failed spare : Nat) : let t := w.migDone m out failed spare
    t.rep.bare = { s.rep.bare with map := t.rep.map, migs := t.rep.migs } ∧ t.migKeys = m.leaves s.migKeys ∧
      ∃ e ∈ t.rep.map, e.kind = k ∧ e.failed = f ∧ e.origin = o ∧ (n ≠ noSpare → e.spare = n) := by
  intro t
  obtain ⟨hadd, e, he, hent⟩ := mapAdd_spec s k o f n
  obtain ⟨hrep, hkeys⟩ := migDone_spec w m out failed spare
  have hbare : w.rep.bare = { s.rep.bare with map := w.rep.map } := by
    rw [hw, hadd]
    exact congrArg (fun x => { s.rep.bare with map := x }) (congrArg Repair.map hw :).symm
  have hmap : t.rep.map = (s.mapAdd k o f n).rep.map := (show t.rep.map = w.rep.map by rw [hrep]).trans (congrArg Repair.map hw :)
  refine ⟨?_, hkeys.trans ?_, e, ?_, hent⟩
  · have ht : t.rep.bare = { w.rep.bare with migs := t.rep.migs } := by rw [hrep]; rfl
    rw [ht, hw, hadd, hmap]
  · exact congrArg m.leaves (congrArg Repair.keys hbare :)
  · rw [hmap]
    exact he

/-- The end of a migration that nothing enters in the map. -/
theorem migDone_gone (s : State) (m : Migration) (out failed spare : Nat) : let t := s.migDone m out failed spare
    t.rep.chanLost = s.rep.chanLost ∧ t.rep.map = s.rep.map ∧ t.migKeys = m.leaves s.migKeys := by
  intro t
  obtain ⟨hrep, hkeys⟩ := migDone_spec s m out failed spare
  exact ⟨by rw [hrep], by rw [hrep], hkeys⟩

/-! The changeover of a TDC (06 R161, R165). -/

theorem tdcChan_of_serves {s : State} {t c : Nat} (h : s.tdcServes t = c) (hc : c < 512) : s.tdcChan t = some c := by
  unfold State.tdcServes at h
  unfold State.tdcChan
  split at h
  · next k hk => rw [hk, h]
  · split at h
    · omega
    · split at h <;> omega

theorem tdcChan_congr {s u : State} (h : ∀ k, (u.chan k).tdc = (s.chan k).tdc) (t : Nat) : u.tdcChan t = s.tdcChan t := by
  simp only [State.tdcChan, h]

/-- A state whose channels differ from another's only by the losses of one. -/
def State.losesOn (s u : State) (c : Nat) : Prop :=
  u.hch.tdcs = s.hch.tdcs ∧ u.hch.chans.length = s.hch.chans.length ∧ (∀ k, (u.chan k).tdc = (s.chan k).tdc) ∧
    (∀ k, k ≠ c → u.chan k = s.chan k) ∧ s.keeps u [.regs, .pk, .hch]

theorem State.losesOn.refl (s : State) (c : Nat) : s.losesOn s c :=
  ⟨rfl, rfl, fun _ => rfl, fun _ _ => rfl, .refl s _⟩

theorem State.losesOn.trans {s t u : State} {c : Nat} (h : s.losesOn t c) (g : t.losesOn u c) : s.losesOn u c := by
  obtain ⟨ht, hl, hc, ho, hk⟩ := h
  obtain ⟨ht', hl', hc', ho', hk'⟩ := g
  exact ⟨ht'.trans ht, hl'.trans hl, fun k => (hc' k).trans (hc k), fun k hkc => (ho' k hkc).trans (ho k hkc), hk.trans hk'⟩

theorem State.losesOn.tdcChan {s u : State} {c : Nat} (h : s.losesOn u c) (t : Nat) : u.tdcChan t = s.tdcChan t := by
  obtain ⟨_, _, hc, _, _⟩ := h
  exact tdcChan_congr hc t

theorem dropStamp_losesOn {s : State} {t c : Nat} (h : s.tdcChan t = some c) (tick : Nat) :
    s.losesOn (s.dropStamp t tick) c := by
  have hb : (s.bump (TDC_DROP t)).hch = s.hch := bump_keeps s (TDC_DROP t) .hch (by simp)
  have hch (k : Nat) : (s.bump (TDC_DROP t)).chan k = s.chan k := by simp only [State.chan, hb]
  have hfind : (s.bump (TDC_DROP t)).tdcChan t = some c := (tdcChan_congr (fun k => by rw [hch]) t).trans h
  have hdrop : s.dropStamp t tick = (s.bump (TDC_DROP t)).setChan c fun x => { x with losses := tick :: x.losses } := by
    unfold State.dropStamp
    extract_lets u
    split
    · next c' hc' => rw [Option.some.inj (hc'.symm.trans hfind)]
    · next hc' => exact absurd (hc'.symm.trans hfind) (by simp)
  refine ⟨dropStamp_tdcs s t tick, ?_, fun k => ?_, fun k hk => ?_, dropStamp_keeps s t tick⟩
  · rw [hdrop]
    exact (length_upd _ _ _).trans (by rw [hb])
  · rw [hdrop, ← hch]
    exact nth_upd_view (g := Chan.tdc) (f := fun x => { x with losses := tick :: x.losses }) (fun _ => rfl) _ _ _ _
  · rw [hdrop, chan_setChan_other _ _ hk, hch]

theorem dropStamps_losesOn {s : State} {t c : Nat} (h : s.tdcChan t = some c) (l : List HitStamp) :
    s.losesOn (l.foldl (fun u x => u.dropStamp t x.tick) s) c := by
  induction l generalizing s with
  | nil =>
    rw [List.foldl_nil]
    exact .refl s c
  | cons x l ih =>
    have h1 := dropStamp_losesOn h x.tick
    rw [List.foldl_cons]
    exact h1.trans (ih ((h1.tdcChan t).trans h))

/-- The work of a TDC has passed to another. -/
theorem changeover_spec {s : State} {old c : Nat} (h : s.tdcChan old = some c) (new : Nat) (failed : Bool) :
    let t := s.changeover old new failed
    t.hch.chans.length = s.hch.chans.length ∧ (∀ k, k ≠ c → t.chan k = s.chan k) ∧ s.keeps t [.regs, .pk, .hch] ∧
      (new < s.hch.tdcs.length → (t.tdc new).markBlind = failed ∧
        (((s.tdc old).lower.fault || (s.tdc old).upper.fault) = true →
          (t.tdc new).lower.state = 0 ∧ (t.tdc new).upper.state = 0)) := by
  intro t
  unfold t State.changeover
  extract_lets x sick level held all u v
  have hk : s.keeps v [.regs, .pk, .hch] := .after (setTdc_keeps _ _ _) rfl (.first (setTdc_keeps s _ _) rfl)
  obtain ⟨htdcs, hlen, _, hother, hkeep⟩ := dropStamps_losesOn (s := v) h (all.drop 64)
  refine ⟨hlen, hother, hk.trans hkeep, fun hnew => ?_⟩
  have hview {β : Type} {g : Tdc → β} (hg : ∀ y : Tdc, g { y with
      queue := [], lower := { y.lower with buffer := [] }, upper := { y.upper with buffer := [] } } = g y) :
      g (((all.drop 64).foldl (fun t h => t.dropStamp old h.tick) v).tdc new) = g (u.tdc new) := by
    rw [tdc_congr htdcs]
    exact tdc_setTdc_view u (f := fun y => { y with
      queue := [], lower := { y.lower with buffer := [] }, upper := { y.upper with buffer := [] } }) hg new
  have hu := tdc_setTdc_self s (fun y => { y with
    queue := all.take 64, markBlind := failed, lower := level y.lower x.lower, upper := level y.upper x.upper }) hnew
  have hstate (hs : sick = true) (a b : Lane) : (level a b).state = 0 := by
    simp only [level, hs, if_true]
    rfl
  refine ⟨(hview (g := Tdc.markBlind) fun _ => rfl).trans (congrArg Tdc.markBlind hu), fun hs => ⟨?_, ?_⟩⟩
  · exact (hview (g := fun y => y.lower.state) fun _ => rfl).trans
      ((congrArg (fun y => y.lower.state) hu).trans (hstate hs _ _))
  · exact (hview (g := fun y => y.upper.state) fun _ => rfl).trans
      ((congrArg (fun y => y.upper.state) hu).trans (hstate hs _ _))

/-! TDC_MIGRATION (06 R165; 17 R419, R420, R428). -/

/-- The spare of a channel's route is one of TDC 512 to 543. -/
theorem spareRoute_lt {s : State} {c r n : Nat} (h : s.spareRoute c = some (r, n)) : n < 544 := by
  have hfree : (r, n) ∈ (List.range 4).map fun m => (m, 512 + (c / 16 + 8 * m) % 32) := by
    simp only [State.spareRoute] at h
    split at h
    · next x hx =>
      cases h
      exact (List.mem_filter.mp (List.mem_of_find?_eq_some hx)).1
    · exact (List.mem_filter.mp (List.mem_of_head? h)).1
  obtain ⟨m, _, hm⟩ := List.mem_map.mp hfree
  cases hm
  omega

/-- A channel takes the spare of a route from a tick on. -/
def Chan.reroute (x : Chan) (n route tick old : Nat) : Chan := { x with tdc := n, route := route, swap := some (tick, old) }

section
variable {s : State} {c : Fin 512} {m : Migration}

theorem execTdcMigration_none (h : s.mig 0 = none) : exec (.tdcMigration c) s = .next s := by
  simp only [exec, execTdcMigration, h]

theorem execTdcMigration_other (h : s.mig 0 = some m) (hw : s.tdcServes m.failed < 512)
    (hc : s.tdcServes m.failed ≠ c.val) : exec (.tdcMigration c) s = .next s := by
  have hne : s.tdcServes m.failed ≠ 0xFFFF := by omega
  simp only [exec, execTdcMigration, h, if_neg hne, if_pos hw, if_pos hc]

/-- The migration of the channel that a TDC serves. -/
theorem execTdcMigration_own (h : s.mig 0 = some m) (hw : s.tdcServes m.failed = c.val) :
    exec (.tdcMigration c) s = .next (match s.spareRoute c with
      | some (r, n) =>
        let u := s.changeover m.failed n (!m.commanded)
        ((((u.setChan c fun x => x.reroute n (r + 1) u.switchTick m.failed).mapAdd 0 m.origin m.failed n).repaired
          2 m.failed [1, 2, 3]).migDone m 0 m.failed n)
      | none =>
        if m.commanded then s.migDone m 3 m.failed 0x3FF else
        ((((State.report { s with rep.chanLost := s.rep.chanLost ++ [c.val] } (causeKey 2 4 (0x8000 + c)) 0xE c false).mapAdd
          0 2 m.failed noSpare).mapMade 2 m.failed [1, 2, 3]).mapMade 2 (0x8000 + c) [4]).migDone m 1 m.failed 0x3FF) := by
  have hne : s.tdcServes m.failed ≠ 0xFFFF := by omega
  have hlt : s.tdcServes m.failed < 512 := by omega
  simp only [exec, execTdcMigration, h, if_neg hne, if_pos hlt, if_neg (not_not_intro hw)]
  rfl

theorem execTdcMigration_spare {r n : Nat} {u : State} (h : s.mig 0 = some m) (hw : s.tdcServes m.failed = c.val)
    (hr : s.spareRoute c = some (r, n)) (hu : s.changeover m.failed n (!m.commanded) = u) :
    exec (.tdcMigration c) s = .next ((((u.setChan c fun x => x.reroute n (r + 1) u.switchTick m.failed).mapAdd
      0 m.origin m.failed n).repaired 2 m.failed [1, 2, 3]).migDone m 0 m.failed n) := by
  subst hu
  rw [execTdcMigration_own h hw, hr]

/-- The spare serves the channel. -/
theorem tdcMigration_spare {r n : Nat} (h : s.mig 0 = some m) (hw : s.tdcServes m.failed = c.val)
    (hc : c.val < s.hch.chans.length) (hr : s.spareRoute c = some (r, n)) (hn : n < s.hch.tdcs.length) :
    ∃ t, exec (.tdcMigration c) s = .next t ∧ (t.chan c).tdc = n ∧ (t.chan c).route = r + 1 ∧
      (∀ k, k ≠ c.val → t.chan k = s.chan k) ∧ (t.tdc n).markBlind = !m.commanded ∧
      (t.chan c).swap = some (s.tim.shot + 4, m.failed) ∧
      (((s.tdc m.failed).lower.fault || (s.tdc m.failed).upper.fault) = true →
        (t.tdc n).lower.state = 0 ∧ (t.tdc n).upper.state = 0) ∧ t.migKeys = m.leaves s.migKeys ∧
      (∃ e ∈ t.rep.map, e.kind = 0 ∧ e.failed = m.failed ∧ e.spare = n) ∧
      s.keeps t [.hch, .rep, .regs, .adm, .pk, .drawn, .out, .ifl] := by
  obtain ⟨hlen, hother, huk, hnew⟩ :=
    changeover_spec (tdcChan_of_serves hw c.isLt) (s := s) n (!m.commanded)
  have hexec := execTdcMigration_spare h hw hr rfl
  generalize s.changeover m.failed n (!m.commanded) = u at hlen hother huk hnew hexec
  generalize hx : (u.setChan c fun x => x.reroute n (r + 1) u.switchTick m.failed) = x at hexec
  have hself : x.chan c = (u.chan c).reroute n (r + 1) u.switchTick m.failed :=
    hx ▸ chan_setChan_self u _ (hlen ▸ hc)
  have hxk : u.keeps x [.hch] := hx ▸ setChan_keeps u _ _
  obtain ⟨hbare, hkeys, e, he, hkind, hfailed, _, hspare⟩ := mapped_migDone (s := x)
    (repaired_bare (x.mapAdd 0 m.origin m.failed n) 2 m.failed [1, 2, 3]) m 0 m.failed n
  have hrep : x.repairs _ := ((mapAdd_repairs x 0 m.origin m.failed n).trans (repaired_repairs _ 2 m.failed [1, 2, 3])).trans
    (migDone_repairs _ m 0 m.failed n)
  generalize (((x.mapAdd 0 m.origin m.failed n).repaired 2 m.failed [1, 2, 3]).migDone m 0 m.failed n) = t
    at hexec hbare hkeys he hrep
  have hhch : t.hch = x.hch := hrep.1 .hch (by simp [repairParts])
  have hchan (k : Nat) : t.chan k = x.chan k := by simp only [State.chan, hhch]
  have htdc : t.tdc n = u.tdc n := (tdc_congr (congrArg Receiver.tdcs hhch) n).trans (hx ▸ rfl)
  obtain ⟨hmark, hsick⟩ := hnew hn
  refine ⟨t, hexec, by rw [hchan, hself]; rfl, by rw [hchan, hself]; rfl, fun k hk => ?_, by rw [htdc, hmark], ?_,
    fun hs => by rw [htdc]; exact hsick hs, ?_, ⟨e, he, hkind, hfailed, hspare ?_⟩,
    .trans (.first huk rfl) (.trans (.first hxk rfl) (.first hrep.1 rfl))⟩
  · rw [hchan, ← hx, chan_setChan_other _ _ hk, hother k hk]
  · rw [hchan, hself, ← show u.tim = s.tim from huk .tim (by simp)]
    rfl
  · rw [hkeys, show x.migKeys = s.migKeys from
      migKeys_of_bare (congrArg Repair.bare ((hxk .rep (by simp)).trans (huk .rep (by simp))))]
  · have := spareRoute_lt hr
    simp only [noSpare]
    omega

/-- Without a spare, a command leaves the channel alone. -/
theorem tdcMigration_refused (h : s.mig 0 = some m) (hw : s.tdcServes m.failed = c.val) (hr : s.spareRoute c = none)
    (hm : m.commanded = true) : exec (.tdcMigration c) s = .next (s.migDone m 3 m.failed 0x3FF) := by
  rw [execTdcMigration_own h hw, hr]
  exact congrArg Host.Outcome.next (if_pos hm)

/-- Without a spare, a fault loses the channel. -/
theorem tdcMigration_lost (h : s.mig 0 = some m) (hw : s.tdcServes m.failed = c.val) (hr : s.spareRoute c = none)
    (hm : m.commanded = false) :
    ∃ t, exec (.tdcMigration c) s = .next t ∧ t.rep.chanLost = s.rep.chanLost ++ [c.val] ∧ t.migKeys = m.leaves s.migKeys ∧
      (∃ e ∈ t.rep.map, e.kind = 0 ∧ e.failed = m.failed ∧ e.origin = 2) ∧ s.repairs t := by
  have hexec := execTdcMigration_own (c := c) h hw
  rw [hr] at hexec
  have hexec := hexec.trans (congrArg Host.Outcome.next (if_neg (ne_true_of_eq_false hm)))
  generalize hu : (State.report { s with rep.chanLost := s.rep.chanLost ++ [c.val] } (causeKey 2 4 (0x8000 + c)) 0xE c false) = u
    at hexec
  have hub : u.rep.bare = { s.rep.bare with chanLost := s.rep.chanLost ++ [c.val] } := hu ▸ report_bare _ _ _ _ _
  have hur : s.repairs u := hu ▸ (State.repairs.rep s _).trans (report_repairs _ _ _ _ _)
  obtain ⟨hbare, hkeys, e, he, hkind, hfailed, horigin, _⟩ := mapped_migDone (s := u)
    ((mapMade_bare ((u.mapAdd 0 2 m.failed noSpare).mapMade 2 m.failed [1, 2, 3]) 2 (0x8000 + c) [4]).trans
      (mapMade_bare _ _ _ _)) m 1 m.failed 0x3FF
  have hrep := (((mapAdd_repairs u 0 2 m.failed noSpare).trans (mapMade_repairs _ 2 m.failed [1, 2, 3])).trans
    (mapMade_repairs _ 2 (0x8000 + c) [4])).trans (migDone_repairs _ m 1 m.failed 0x3FF)
  exact ⟨_, hexec, (congrArg Repair.chanLost (hbare.trans (by rw [hub])) :),
    hkeys.trans (congrArg m.leaves (congrArg Repair.keys hub :)), ⟨e, he, hkind, hfailed, horigin⟩, hur.trans hrep⟩
end

end Sys2Proof.Machine

namespace Sys2Proof.Machine

/-! Engines that a change of the profiles or of the shots does not stop (07 R179, R189, R195). -/

/-- The run and the state of an engine. -/
def Engine.doing (y : Engine) : Option EngRun × EngState := (y.run, y.st)

section
variable (s : State)

/-- An engine is put in place of itself with the same run and state. -/
theorem doing_put {e : Nat} {x : Engine} (h : x.doing = (s.eng e).doing) (k : Nat) :
    ((s.setEng e fun _ => x).eng k).doing = (s.eng k).doing := by
  by_cases hk : k = e
  · subst hk
    by_cases hl : k < s.hen.length
    · rw [eng_setEng_self s _ hl, h]
    · have hu : upd s.hen k (fun _ => x) = s.hen := List.modify_eq_self (Nat.le_of_not_lt hl)
      simp only [State.eng, State.setEng, hu]
  · rw [eng_setEng_other s _ hk]

theorem syncEngine_keeps (e : Nat) : s.keeps (s.syncEngine e) [.hen] := setEng_keeps s e _

theorem syncEngine_doing (e k : Nat) : ((s.syncEngine e).eng k).doing = (s.eng k).doing := by
  unfold State.syncEngine
  extract_lets want x held missing y
  refine doing_put s ?_ k
  refine List.foldlRecOn (motive := fun z : Engine => z.doing = x.doing) missing _ rfl fun z hz v _ => ?_
  dsimp only
  split
  · exact hz
  · exact hz

theorem syncProfiles_keeps : s.keeps s.syncProfiles [.hen] := .foldl (fun t e => syncEngine_keeps t e) _ s

theorem syncProfiles_doing (k : Nat) : (s.syncProfiles.eng k).doing = (s.eng k).doing :=
  List.foldlRecOn (motive := fun t => (t.eng k).doing = (s.eng k).doing) (List.range 68) _ rfl
    fun t ht e _ => (syncEngine_doing t e k).trans ht

theorem frozenLoss_keeps (g e since : Nat) : s.keeps (s.frozenLoss g e since) [.hen] := by
  unfold State.frozenLoss
  extract_lets from_ dropped hit
  exact .ite (setEng_keeps s _ _) (.refl s _)

theorem frozenLoss_doing (g e since k : Nat) : ((s.frozenLoss g e since).eng k).doing = (s.eng k).doing := by
  unfold State.frozenLoss
  extract_lets from_ dropped hit
  split
  · exact nth_upd_view (g := Engine.doing) (f := fun y => { y with shots := y.shots.map hit }) (fun _ => rfl) _ _ _ _
  · rfl

/-! What ends with a closed image, a bank or a word that cannot be copied (07 R187; 17 R423). -/

/-- The registers of an engine that the end of a run and a lost word change. -/
def runRegs (e : Nat) : List Nat := [HEN_STAT e, HEN_RUNS e, HEN_MAXRUN e]

/-- A state that differs by one engine's run and counts. -/
def State.runEnds (s t : State) (e : Nat) : Prop := s.keeps t [.regs, .pk, .hen] ∧ s.keepsRegs t (runRegs e)

namespace State.runEnds
variable {s t u : State} {e : Nat}

theorem refl (s : State) (e : Nat) : s.runEnds s e := ⟨.refl s _, .refl s _⟩

theorem trans (h : s.runEnds t e) (g : t.runEnds u e) : s.runEnds u e := ⟨h.1.trans g.1, h.2.trans g.2⟩

theorem ite {c : Prop} [Decidable c] (ht : s.runEnds t e) (hu : s.runEnds u e) : s.runEnds (if c then t else u) e :=
  ⟨.ite ht.1 hu.1, .ite ht.2 hu.2⟩

/-- A change of the engines alone. -/
theorem of_hen (h : s.keeps t [.hen]) : s.runEnds t e := ⟨.first h rfl, h.toRegs (by simp) _⟩
end State.runEnds

theorem latch_runEnds (e v : Nat) : s.runEnds (s.latch (HEN_STAT e) v) e :=
  ⟨.first (latch_keeps s _ _) rfl, .mono (latch_keepsRegs s _ _) (by simp [runRegs])⟩

theorem endRun_runEnds (e : Nat) : s.runEnds (s.endRun e) e := by
  unfold State.endRun
  split
  · exact .refl s e
  next r _ =>
    extract_lets u v w
    have hu : s.runEnds u e := ⟨.first (bump_keeps s _) rfl, .mono (bump_keepsRegs s _) (by simp [runRegs])⟩
    have hv : u.runEnds v e := .ite ⟨.first (setRegN_keeps u _ _) rfl, .mono (setReg_keepsRegs u _ _) (by simp [runRegs])⟩ (.refl u e)
    have hw : v.runEnds w e := .of_hen (setEng_keeps v _ _)
    exact ((hu.trans hv).trans hw).trans (.of_hen (.trans (setEng_keeps w _ _) (syncEngine_keeps _ _)))

theorem abortImage_runEnds (e i : Nat) : s.runEnds (s.abortImage e i).1 e := by
  unfold State.abortImage
  extract_lets reads running waiting mark u v
  split
  · exact ((latch_runEnds s e 0x4).trans (.ite (endRun_runEnds u e) (.refl u e))).trans (.of_hen (setEng_keeps v _ _))
  · exact .refl s e

theorem lostWord_runEnds (e off : Nat) : s.runEnds (s.lostWord e off) e := by
  simp only [State.lostWord]
  split
  · exact .ite ((abortImage_runEnds s e _).trans (.of_hen (setEng_keeps _ _ _))) (.refl s e)
  · split
    · exact ((latch_runEnds s e 0x4).trans (.of_hen (setEng_keeps _ _ _))).trans (.of_hen (setEng_keeps _ _ _))
    · exact .refl s e
  · exact .ite (.of_hen (setEng_keeps s _ _))
      (.ite ((latch_runEnds s e 0x10).trans (.of_hen (setEng_keeps _ _ _))) (.refl s e))

theorem lostWords_runEnds (e : Nat) (offs : List Nat) : s.runEnds (offs.foldl (fun t off => t.lostWord e off) s) e :=
  ⟨.foldl (fun t off => (lostWord_runEnds t e off).1) offs s, .foldl (fun t off => (lostWord_runEnds t e off).2) offs s⟩
end

/-! The handover of an engine's group (17 R421 to R423). -/

/-- The spare as it serves the group: it holds what the engine held, its run comes again, and the descriptors that waited are
taken. -/
def Engine.successor (x y : Engine) (now : Nat) : Engine :=
  let done := x.recq.length - (match x.run with | some r => r.queued | none => 0)
  let ev := (match x.run with | some r => [r.event] | none => []) ++ x.events
  x.xc02.foldl (fun z d => z.take d.1 d.2)
    { x with st := if x.st = .halted ∨ x.wasHalted then .halted else .idle, mem := y.moveMem x, run := none, events := ev
             recq := x.recq.take done, pc := 0, loops := [], heartbeat := now, halting := x.halting && x.run.isSome
             wasHalted := false, xc02 := [] }

/-- An engine whose group has left it, in a state. -/
def Engine.left (z : Engine) (st : EngState) : Engine :=
  { z with run := none, events := [], recq := [], shots := [], groups := [], closed := [none, none]
           bursts := [], recent := [], xstamps := [], loops := [], pc := 0, heldPairs := [], passes := [], xc02 := []
           early := List.replicate 8 0, halting := false, st := st }

/-- The state in which the spare holds the group's work and the failed engine still does. -/
def State.groupCopied (s : State) (m : Migration) (g n : Nat) : State :=
  (s.setEng n fun _ => (s.eng m.failed).successor (s.eng n) s.time).frozenLoss g n m.stopped

/-- The group of a failed engine has passed to another. -/
def State.groupMoved (s : State) (m : Migration) (g n : Nat) : State :=
  let e := m.failed
  let x := s.eng e
  let s := s.groupCopied m g n
  let s := s.setRegN (HEN_WCET n) (s.regN (HEN_WCET e))
  let s := s.setEng e fun z => z.left (if m.commanded then (if x.st = .halted then .halted else .idle) else .failed)
  { s.setRegN (HEN_MAP g) n with rep.pool := s.rep.pool.filter (· != n) }

/-- The words that could not be copied are lost, behind the profiles of the group. -/
def State.wordsLost (s : State) (n : Nat) (unc : List Nat) : State :=
  unc.foldl (fun t off => t.lostWord n off) s.syncProfiles

section
variable {s : State} {m : Migration} {g n : Nat} {unc : List Nat}

theorem execEngineMigration_none (h : s.mig 1 = none) : exec (.engineMigration unc) s = .next s := by
  simp only [exec, execEngineMigration, h]

theorem execEngineMigration_unserved (h : s.mig 1 = some m) (hg : s.engineGroup m.failed = some g)
    (hn : s.spareFor 1 m.failed = none) : exec (.engineMigration unc) s =
      .next (if m.commanded then s.migDone m 3 m.failed 0x3FF else s.groupUnserved m g m.failed) := by
  simp only [exec, execEngineMigration, h, hg, hn]

theorem execEngineMigration_failed (h : s.mig 1 = some m) (hg : s.engineGroup m.failed = some g)
    (hn : s.spareFor 1 m.failed = some n) (hm : m.commanded = false) : exec (.engineMigration unc) s =
      .next ((((((s.groupMoved m g n).wordsLost n unc).mapAdd 1 2 m.failed n).repaired 3 m.failed [1, 2, 3, 4]).postShares).migDone
        m 0 m.failed n) := by
  simp only [exec, execEngineMigration, h, hg, hn, if_neg (ne_true_of_eq_false hm)]
  refine congrArg (fun u : State => Host.Outcome.next (((((u.wordsLost n unc).mapAdd 1 2 m.failed n).repaired 3 m.failed
    [1, 2, 3, 4]).postShares).migDone m 0 m.failed n)) ?_
  simp only [State.groupMoved, State.groupCopied, Engine.successor, Engine.left, if_neg (ne_true_of_eq_false hm)]
    <;> cases (s.eng m.failed).run <;> rfl
end

end Sys2Proof.Machine

namespace Sys2Proof.Machine

/-! Where a group's engine is named (07 R179). -/

section
variable {s t : State}

/-- The engine of a group is that of its register. -/
theorem groupEngine_congr {g : Nat} (h : t.reg (HEN_MAP g) = s.reg (HEN_MAP g)) : t.groupEngine g = s.groupEngine g := by
  simp only [State.groupEngine, State.fld, State.regN, h]

theorem engineGroup_lt {e g : Nat} (h : s.engineGroup e = some g) : g < 64 :=
  List.mem_range.mp (List.mem_of_find?_eq_some h)

/-- Registers written one after another leave the others. -/
theorem reg_foldl_setRegN {α : Type} (a : α → Nat) (v : α → Nat) {b : Nat} (l : List α) (h : ∀ x ∈ l, b ≠ a x) (s : State) :
    (l.foldl (fun t x => t.setRegN (a x) (v x)) s).reg b = s.reg b :=
  List.foldlRecOn (motive := fun t : State => t.reg b = s.reg b) l _ rfl fun _ ht x hx => (reg_setRegN_other _ _ (h x hx)).trans ht

/-- The shares do not name engines. -/
theorem postShares_groupEngine (s : State) {g : Nat} (hg : g < 64) : s.postShares.groupEngine g = s.groupEngine g := by
  refine groupEngine_congr ?_
  unfold State.postShares
  extract_lets ms u v
  have hu : u.reg (HEN_MAP g) = s.reg (HEN_MAP g) :=
    reg_foldl_setRegN ADM_SHARE (fun c => (s.topOf ms c).1 * 2 ^ 24 + (s.topOf ms c).2) _
      (fun c _ => by simp only [HEN_MAP, ADM_SHARE]; omega) s
  have hv : v.reg (HEN_MAP g) = u.reg (HEN_MAP g) := reg_setRegN_other u _ (by simp only [HEN_MAP, SEQ_RATE]; omega)
  exact (reg_foldl_setRegN HEN_WCET _ _ (fun e _ => by simp only [HEN_MAP, HEN_WCET]; omega) v).trans (hv.trans hu)

/-- The repair function does not name engines. -/
theorem State.repairs.groupEngine (h : s.repairs t) {g : Nat} (hg : g < 64) : t.groupEngine g = s.groupEngine g :=
  groupEngine_congr (h.2 _ (by
    simp only [repairRegs, List.mem_cons, List.not_mem_nil, or_false, HEN_MAP, GLB_EVT_SEQ, ADM_STATUS, REP_STATUS, REP_MIG_STAT,
      REP_MIG_TIME, REP_MIG_COUNT, REP_INC_DROP]
    omega))

theorem State.runEnds.groupEngine {e g : Nat} (h : s.runEnds t e) (hg : g < 64) : t.groupEngine g = s.groupEngine g :=
  groupEngine_congr (h.2 _ (by
    simp only [runRegs, List.mem_cons, List.not_mem_nil, or_false, HEN_MAP, HEN_STAT, HEN_RUNS, HEN_MAXRUN]
    omega))
end

/-! The group of a failed engine at the spare (17 R421 to R423). -/

section
variable (s : State) (m : Migration) (g n : Nat)

/-- A descriptor that is taken ends no run. -/
theorem take_run (y : Engine) (x : Shot) (offset : Nat) : (y.take x offset).run = y.run := by
  unfold Engine.take Engine.joinGroup
  extract_lets slot joins z
  have hz : z.run = y.run := by
    unfold z
    split <;> rfl
  exact hz

theorem successor_run (x y : Engine) (now : Nat) : (x.successor y now).run = none :=
  List.foldlRecOn (motive := fun z : Engine => z.run = none) x.xc02 _ rfl fun z hz d _ => (take_run z d.1 d.2).trans hz

theorem groupCopied_keeps : s.keeps (s.groupCopied m g n) [.hen] :=
  .trans (setEng_keeps s _ _) (frozenLoss_keeps (s.setEng n _) g n m.stopped)

theorem groupMoved_rep : (s.groupMoved m g n).rep = { s.rep with pool := s.rep.pool.filter (· != n) } :=
  congrArg (fun r : Repair => { r with pool := r.pool.filter (· != n) })
    ((groupCopied_keeps s m g n) .rep (by simp) :)

theorem groupMoved_groupEngine (hn : n < 68) : (s.groupMoved m g n).groupEngine g = n := by
  have h : (s.groupMoved m g n).reg (HEN_MAP g) = BitVec.ofNat 32 n := reg_setRegN_self _ _ _
  simp only [State.groupEngine, State.fld, State.regN, h, BitVec.toNat_ofNat, bits]
  omega

theorem length_frozenLoss (e since : Nat) : (s.frozenLoss g e since).hen.length = s.hen.length := by
  unfold State.frozenLoss
  extract_lets from_ dropped hit
  split
  · exact length_upd _ _ _
  · rfl

theorem groupMoved_eng (hm : m.commanded = false) (k : Nat) : (s.groupMoved m g n).eng k =
    ((s.groupCopied m g n).setEng m.failed fun z => z.left .failed).eng k := by
  simp only [State.groupMoved, hm, Bool.false_eq_true, if_false]
  rfl

/-- With a fault, the engine that has left its group is failed and the spare has no run yet. -/
theorem groupMoved_doing (hm : m.commanded = false) (hne : n ≠ m.failed) (hn : n < s.hen.length)
    (hf : m.failed < s.hen.length) : ((s.groupMoved m g n).eng n).run = none ∧
      ((s.groupMoved m g n).eng m.failed).run = none ∧ ((s.groupMoved m g n).eng m.failed).st = .failed := by
  have hspare : ((s.groupCopied m g n).eng n).run = none := by
    refine (congrArg Prod.fst (frozenLoss_doing (s.setEng n _) g n m.stopped n) :).trans ?_
    rw [eng_setEng_self s _ hn]
    exact successor_run _ _ _
  have hlen : (s.groupCopied m g n).hen.length = s.hen.length :=
    (length_frozenLoss (s.setEng n _) g n m.stopped).trans (length_upd _ _ _)
  have hleft := eng_setEng_self (s.groupCopied m g n) (fun z => z.left .failed) (hlen ▸ hf)
  refine ⟨?_, ?_, ?_⟩
  · rw [groupMoved_eng s m g n hm, eng_setEng_other _ _ hne]
    exact hspare
  · rw [groupMoved_eng s m g n hm, hleft]
    rfl
  · rw [groupMoved_eng s m g n hm, hleft]
    rfl
end

/-- The work of an engine is handed over: the map's entry, the repaired incidents, the shares and the migration's end. -/
def State.handedOver (s : State) (m : Migration) (n : Nat) : State :=
  (((s.mapAdd 1 2 m.failed n).repaired 3 m.failed [1, 2, 3, 4]).postShares).migDone m 0 m.failed n

theorem handedOver_spec (s : State) (m : Migration) {g n : Nat} (hg : g < 64) : let t := s.handedOver m n
    t.hen = s.hen ∧ t.groupEngine g = s.groupEngine g ∧ t.rep.bare = { s.rep.bare with map := t.rep.map, migs := t.rep.migs } ∧
      t.migKeys = m.leaves s.migKeys ∧
      ∃ e ∈ t.rep.map, e.kind = 1 ∧ e.failed = m.failed ∧ e.origin = 2 ∧ (n ≠ noSpare → e.spare = n) := by
  intro t
  generalize hu : (s.mapAdd 1 2 m.failed n).repaired 3 m.failed [1, 2, 3, 4] = u
  have ht : t = u.postShares.migDone m 0 m.failed n := by rw [← hu]; rfl
  have hsu : s.repairs u := hu ▸ (mapAdd_repairs s _ _ _ _).trans (repaired_repairs _ _ _ _)
  have hp := postShares_keeps u
  have hd := migDone_repairs u.postShares m 0 m.failed n
  have hbare : u.postShares.rep.bare = (s.mapAdd 1 2 m.failed n).rep.bare :=
    (bare_of_keeps hp (by simp)).trans (hu ▸ repaired_bare _ _ _ _)
  rw [ht]
  refine ⟨?_, ?_, mapped_migDone hbare m 0 m.failed n⟩
  · exact (hd.1 .hen (by simp [repairParts])).trans ((hp .hen (by simp)).trans (hsu.1 .hen (by simp [repairParts])))
  · rw [hd.groupEngine hg, postShares_groupEngine u hg, hsu.groupEngine hg]

section
variable {s : State} {m : Migration} {g n : Nat}

/-- The spare serves the group of a failed engine. -/
theorem engineMigration_served (h : s.mig 1 = some m) (hg : s.engineGroup m.failed = some g)
    (hs : s.spareEngine = some n) (hne : n ≠ m.failed) (hn : n < 68) (hm : m.commanded = false) (unc : List Nat) :
    ∃ t, exec (.engineMigration unc) s = .next t ∧ t.groupEngine g = n ∧ t.rep.pool = s.rep.pool.filter (· != n) ∧
      t.migKeys = m.leaves s.migKeys ∧ t.hen = ((s.groupMoved m g n).wordsLost n unc).hen ∧
      ∃ e ∈ t.rep.map, e.kind = 1 ∧ e.failed = m.failed ∧ e.spare = n := by
  have hg64 := engineGroup_lt hg
  have hfor : s.spareFor 1 m.failed = some n := by simp [State.spareFor, hs, hne]
  have hexec := execEngineMigration_failed (unc := unc) h hg hfor hm
  have hends : (s.groupMoved m g n).runEnds ((s.groupMoved m g n).wordsLost n unc) n :=
    .trans (.of_hen (syncProfiles_keeps _)) (lostWords_runEnds _ n unc)
  have hmap := groupMoved_groupEngine s m g n hn
  have hmoved := groupMoved_rep s m g n
  generalize s.groupMoved m g n = v at hends hmap hmoved hexec ⊢
  generalize v.wordsLost n unc = w at hends hexec ⊢
  have hrep : w.rep = v.rep := hends.1 .rep (by simp)
  obtain ⟨hhen, hserves, hbare, hkeys, e, he, hkind, hfailed, _, hspare⟩ := handedOver_spec w m (n := n) hg64
  refine ⟨w.handedOver m n, hexec, ?_, ?_, ?_, hhen, e, he, hkind, hfailed, hspare ?_⟩
  · rw [hserves, hends.groupEngine hg64, hmap]
  · exact (congrArg Repair.pool hbare :).trans (congrArg Repair.pool (hrep.trans hmoved) :)
  · exact hkeys.trans (congrArg (fun r : Repair => m.leaves r.keys) (hrep.trans hmoved) :)
  · simp only [noSpare]
    omega

/-- With nothing uncopyable the group has no run until the next one begins. -/
theorem engineMigration_runs (h : s.mig 1 = some m) (hg : s.engineGroup m.failed = some g)
    (hs : s.spareEngine = some n) (hne : n ≠ m.failed) (hn : n < 68) (hf : m.failed < 68) (hlen : s.hen.length = 68)
    (hm : m.commanded = false) : ∃ t, exec (.engineMigration []) s = .next t ∧ (t.eng n).run = none ∧
      (t.eng m.failed).run = none ∧ (t.eng m.failed).st = .failed ∧
      ∃ e ∈ t.rep.map, e.kind = 1 ∧ e.failed = m.failed ∧ e.spare = n := by
  obtain ⟨t, hexec, _, _, _, hhen, hmap⟩ := engineMigration_served h hg hs hne hn hm []
  obtain ⟨hrun, hrun', hst⟩ := groupMoved_doing s m g n hm hne (hlen ▸ hn) (hlen ▸ hf)
  have hdoing (k : Nat) : (t.eng k).doing = ((s.groupMoved m g n).eng k).doing := by
    rw [← syncProfiles_doing (s.groupMoved m g n)]
    simp only [State.eng, hhen, State.wordsLost, List.foldl_nil]
  exact ⟨t, hexec, (congrArg Prod.fst (hdoing n) :).trans hrun, (congrArg Prod.fst (hdoing _) :).trans hrun',
    (congrArg Prod.snd (hdoing _) :).trans hst, hmap⟩
end
end Sys2Proof.Machine

namespace Sys2Proof.Machine

/-! A group that no engine can take (17 R421). -/

section
variable (s : State)

theorem length_suspend (p cause : Nat) (out : Bool) : (s.suspend p cause out).hen.length = s.hen.length := by
  unfold State.suspend
  split
  · rfl
  next q _ =>
    split
    · rfl
    · extract_lets u v
      have hv : v.hen = (s.endGroups p).hen := rfl
      rw [(event_keeps v _ _ _ _ _ _) .hen (by simp), hv]
      exact List.length_map _

theorem length_suspendAll (cond : Prog → Bool) (cause : Nat) (out : Bool) :
    (s.suspendAll cond cause out).hen.length = s.hen.length :=
  List.foldlRecOn (motive := fun t : State => t.hen.length = s.hen.length) _ _ rfl
    fun t ht p _ => (length_suspend t p.1 cause out).trans ht

theorem orphan_keeps : s.keeps s.orphan [.regs, .pk] := .after (latch_keeps _ _ _) rfl (.first (bump_keeps s _) rfl)

/-- Records that a group leaves behind, of programs or of none, are lost. -/
def State.recsLost (s : State) (lost : List (Option Nat)) : State :=
  lost.foldl (fun t r => match r with | some p => t.loseRecs p 1 | none => t.orphan) s

theorem recsLost_keeps (lost : List (Option Nat)) : s.keeps (s.recsLost lost) [.regs, .pk, .out] :=
  .foldl (fun t r => match r with
    | some p => loseRecs_keeps t p 1
    | none => .first (orphan_keeps t) rfl) lost s

/-- The engine of a group that no engine can take holds nothing more, and the map enters its failure. -/
theorem groupUnserved_spec (m : Migration) (g e : Nat) : let t := s.groupUnserved m g e
    t.migKeys = m.leaves s.migKeys ∧
      (e < s.hen.length → (t.eng e).run = none ∧ (t.eng e).events = [] ∧ (t.eng e).recq = []) ∧
      ∃ x ∈ t.rep.map, x.kind = 1 ∧ x.failed = e ∧ x.origin = 2 := by
  intro t
  unfold t State.groupUnserved
  extract_lets held lost u v w x
  have hu : u.rep = s.rep := suspendAll_keeps s _ _ _ .rep (by decide)
  have hv : u.keeps v [.regs, .pk, .out] := recsLost_keeps u lost
  have hw : w.rep = s.rep := (hv .rep (by simp)).trans hu
  have hx : x.rep.bare = s.rep.bare := (report_bare w _ _ _ _).trans (congrArg Repair.bare hw)
  have hlen : v.hen.length = s.hen.length := (congrArg List.length (hv .hen (by simp))).trans (length_suspendAll s _ _ _)
  have hrep := (((report_repairs w (causeKey 3 5 e) 0xE e false).trans (mapAdd_repairs x 1 2 e noSpare)).trans
    (mapMade_repairs _ 3 e [1, 2, 3, 4, 5])).trans (migDone_repairs _ m 1 e 0x3FF)
  obtain ⟨_, hkeys, y, hy, hkind, hfailed, horigin, _⟩ := mapped_migDone (s := x)
    (mapMade_bare (x.mapAdd 1 2 e noSpare) 3 e [1, 2, 3, 4, 5]) m 1 e 0x3FF
  generalize ((x.mapAdd 1 2 e noSpare).mapMade 3 e [1, 2, 3, 4, 5]).migDone m 1 e 0x3FF = t at hrep hkeys hy ⊢
  have hself (he : e < s.hen.length) : t.eng e = { v.eng e with recq := [], run := none, events := [] } := by
    have hhen : t.hen = w.hen := hrep.1 .hen (by simp [repairParts])
    exact (congrArg (nth · e Engine.reset) hhen :).trans (eng_setEng_self v _ (hlen ▸ he))
  refine ⟨hkeys.trans (congrArg m.leaves (migKeys_of_bare hx)), fun he => ?_, y, hy, hkind, hfailed, horigin⟩
  rw [hself he]
  exact ⟨rfl, rfl, rfl⟩
end

section
variable {s : State} {m : Migration} {g : Nat} {unc : List Nat}

/-- No engine can take a failed engine's group. -/
theorem engineMigration_unserved (h : s.mig 1 = some m) (hg : s.engineGroup m.failed = some g)
    (hs : s.spareEngine = none) (hm : m.commanded = false) :
    exec (.engineMigration unc) s = .next (s.groupUnserved m g m.failed) := by
  have hfor : s.spareFor 1 m.failed = none := by simp [State.spareFor, hs]
  rw [execEngineMigration_unserved h hg hfor, hm]
  rfl

/-- A command without a spare leaves the group where it is. -/
theorem engineMigration_refused (h : s.mig 1 = some m) (hg : s.engineGroup m.failed = some g)
    (hn : s.spareFor 1 m.failed = none) (hm : m.commanded = true) :
    exec (.engineMigration unc) s = .next (s.migDone m 3 m.failed 0x3FF) := by
  rw [execEngineMigration_unserved h hg hn, if_pos hm]
end
end Sys2Proof.Machine

namespace Sys2Proof.Machine

/-! The switchover of the control cores (17 R424). -/

section
variable (s : State)

/-- A calibration run that fails is over, and the repair unit has at most its incident. -/
theorem failRun_spec (r : CalRun) (step : Option Nat) (cause : Nat) : let t := s.failRun r step cause
    t.thm.run = none ∧ t.rep.bare = s.rep.bare ∧ s.keeps t (.thm :: repairParts) := by
  intro t
  unfold t State.failRun
  extract_lets low u v idle w
  have hr := report_bare (u.latch CAL_STATUS 0x10) (causeKey 0xC cause (step.getD low)) 0xB (step.getD low) true
  have hvb : v.rep.bare = s.rep.bare := hr
  have hwb : w.rep.bare = s.rep.bare := hvb
  have hw : s.keeps w (.thm :: repairParts) :=
    .after (keeps_thm v _) rfl (.after (report_repairs (u.latch CAL_STATUS 0x10) _ _ _ _).1 rfl
      (.after (latch_keeps u _ _) rfl (.first (setRegN_keeps s _ _) rfl)))
  split
  · next o _ =>
    have hk := complete_keeps w o CAL_FAILED 0xB []
    exact ⟨(congrArg Thermal.run (hk .thm (by simp)) :), (bare_of_keeps hk (by simp)).trans hwb, .after hk rfl hw⟩
  · have hk := event_keeps { w with thm.retryAt := some w.time } CAL_FAILED 6 0xB [] none none
    exact ⟨(congrArg Thermal.run (hk .thm (by simp)) :), (bare_of_keeps hk (by simp)).trans hwb,
      .after hk rfl (.after (keeps_thm w _) rfl hw)⟩

theorem keeps_boot (x : Boot) : s.keeps { s with boot := x } [.boot] := by
  intro p hp
  cases p <;> simp at hp <;> rfl

/-- What the end of the background operations and the replay of the journal leave of the repair unit. -/
def Repair.core (r : Repair) : Repair := { r.bare with selftest := none, journal := [] }

/-- What the end of the background operations may change. -/
def backgroundParts : List Part := .thm :: .boot :: repairParts

/-- A change of the state that leaves the core of the repair unit. -/
def State.background (s t : State) : Prop := s.keeps t backgroundParts ∧ t.rep.core = s.rep.core

namespace State.background
variable {s : State} {t u : State}

theorem refl (s : State) : s.background s := ⟨.refl s _, rfl⟩

theorem trans (h : s.background t) (g : t.background u) : s.background u := ⟨h.1.trans g.1, g.2.trans h.2⟩

/-- A change that leaves the repair unit. -/
theorem of_keeps {l : List Part} (h : s.keeps t l) (hl : l.all (backgroundParts.contains ·) = true)
    (hr : Part.rep ∉ l) : s.background t := ⟨.first h hl, congrArg Repair.core (h .rep hr)⟩
end State.background

theorem complete_background (w : Origin × Half) (code unit : Nat) : s.background (s.complete w code unit) :=
  .of_keeps (complete_keeps s w code unit []) rfl (by simp)

/-- The background operations of the old pair are over (17 R424). -/
theorem endBackground_spec : let t := s.endBackground
    s.background t ∧ t.thm.run = none ∧ t.boot.activate = none ∧ t.rep.selftest = none := by
  intro t
  unfold t State.endBackground
  extract_lets u v boot w rep
  have hu : s.background u ∧ u.thm.run = none := by
    unfold u
    split
    · next r _ =>
      obtain ⟨hrun, hbare, hk⟩ := failRun_spec s r none 5
      exact ⟨⟨.first hk rfl, congrArg (fun x : Repair => { x with selftest := none, journal := [] }) hbare⟩, hrun⟩
    · next h => exact ⟨.refl s, h⟩
  have hv : u.keeps v [.drawn, .regs, .pk, .out, .ifl] := by
    refine .foldl (fun x y => ?_) _ u
    rcases y with ⟨_ | y, i⟩
    · exact .refl x _
    · exact .ite (.refl x _) (.after (complete_keeps _ _ _ _ _) rfl (.first (keeps_pk x _) rfl))
  have hw : v.keeps w [.boot, .drawn, .regs, .pk, .out, .ifl] ∧ w.boot.activate = none := by
    unfold w
    split
    · next o q _ =>
      have hk := complete_keeps { v with boot.activate := none } (o, q) INTERNAL 0 []
      exact ⟨.after hk rfl (.first (keeps_boot v _) rfl), (congrArg Boot.activate (hk .boot (by simp)) :)⟩
    · next h => exact ⟨.refl v _, h⟩
  have huw : s.background w := .trans (.trans hu.1 (.of_keeps hv rfl (by simp))) (.of_keeps hw.1 rfl (by simp))
  have hrun : w.thm.run = none :=
    (congrArg Thermal.run ((hw.1 .thm (by simp)).trans (hv .thm (by simp))) :).trans hu.2
  have hoff : s.background { w with rep.selftest := none } := huw.trans ⟨.first (keeps_rep w _) rfl, rfl⟩
  split
  · next o _ =>
    have hk := complete_keeps { w with rep.selftest := none } o INTERNAL 0xE []
    exact ⟨hoff.trans (complete_background _ o INTERNAL 0xE), (congrArg Thermal.run (hk .thm (by simp)) :).trans hrun,
      (congrArg Boot.activate (hk .boot (by simp)) :).trans hw.2, (congrArg Repair.selftest (hk .rep (by simp)) :)⟩
  · exact ⟨hoff, hrun, hw.2, rfl⟩
  · next h => exact ⟨huw, hrun, hw.2, h⟩

/-- The replay of the journal writes registers (17 R424). -/
theorem replay_spec : s.keeps s.replay [.regs, .rep] ∧ s.replay.rep.core = s.rep.core ∧
    s.replay.rep.selftest = s.rep.selftest := by
  unfold State.replay
  extract_lets u
  have hu : s.keeps u [.regs] := .foldl (fun t x => .ite (.refl t _) (.foldl (fun t y => setReg_keeps t _ _) _ t)) _ s
  have hr : u.rep = s.rep := hu .rep (by simp)
  exact ⟨.after (keeps_rep u _) rfl (.first hu rfl), (congrArg Repair.core hr :), (congrArg Repair.selftest hr :)⟩

theorem keeps_serving (x : Repair) (y : Boot) (z : PacketUnit) :
    s.keeps { s with rep := x, boot := y, pk := z } [.rep, .boot, .pk] := by
  intro p hp
  cases p <;> simp at hp <;> rfl

/-- The state in which the other pair is the active one. -/
def State.pairTaken (s : State) : State :=
  let u := s.endBackground.replay.drainsResume
  { u with rep.active := s.otherPair, rep.standby := false, rep.switch := none, rep.withdrawn := some s.rep.active
           boot.responder := false, pk.mspiServed := u.time }

/-- What a switchover has put in place: the other pair serves, alone, its background operations are over, and the measuring
core is as before but for the times from which its drains run. -/
def State.pairServes (s t : State) : Prop :=
  t.rep.active = 1 - s.rep.active ∧ t.rep.standby = false ∧ t.rep.switch = none ∧ t.boot.responder = false ∧
    t.boot.activate = none ∧ t.rep.selftest = none ∧ t.thm.run = none ∧
    t.hen.map (fun y => { y with drainAt := 0 }) = s.hen.map (fun y => { y with drainAt := 0 }) ∧
    s.keeps t [.thm, .pk, .boot, .rep, .regs, .drawn, .out, .ifl, .adm, .hen]

theorem pairTaken_spec : s.pairServes s.pairTaken ∧ s.pairTaken.rep.migs = s.rep.migs := by
  obtain ⟨⟨hk, hcore⟩, hrun, hact, hself⟩ := endBackground_spec s
  unfold State.pairTaken
  generalize s.endBackground = b at hk hcore hrun hact hself ⊢
  obtain ⟨hrk, hrcore, hrself⟩ := replay_spec b
  generalize b.replay = r at hrk hrcore hrself ⊢
  have hhen : r.hen = s.hen := (hrk .hen (by simp)).trans (hk .hen (by simp [backgroundParts, repairParts]))
  have hcore' := hrcore.trans hcore
  refine ⟨⟨rfl, rfl, rfl, rfl, ?_, hrself.trans hself, ?_, ?_, ?_⟩, (congrArg Repair.migs hcore' :)⟩
  · exact (congrArg Boot.activate (hrk .boot (by simp)) :).trans hact
  · exact (congrArg Thermal.run (hrk .thm (by simp)) :).trans hrun
  · rw [← hhen]
    exact List.map_map
  · have hdrains : r.keeps r.drainsResume [.hen] := keeps_hen r _
    exact .after (keeps_serving _ _ _ _) rfl (.after hdrains rfl (.after hrk rfl (.first hk rfl)))
end
end Sys2Proof.Machine

namespace Sys2Proof.Machine

/-! CC_SWITCHOVER (17 R424, R425). -/

section
variable (s : State)

/-- A fault's switchover ends the commanded one that waits. -/
def State.superseded (m : Migration) (old : Nat) : State :=
  match (if m.commanded then none else s.mig 4) with
  | some c => s.migDone c 3 old 0x3FF
  | none => s

/-- After a command the map enters the switchover, after a fault its causes end. -/
def State.switchNoted (m : Migration) (old new : Nat) : State :=
  if m.commanded then s.mapAdd 4 4 old new else [1, 2].foldl (fun t c => t.endCause (causeKey 7 c old)) s

/-- The switchover for a migration. -/
def State.switchedOver (m : Migration) : State :=
  ((s.pairTaken.superseded m s.rep.active).switchNoted m s.rep.active s.otherPair).migDone m 0 s.rep.active s.otherPair

/-- The state in which a fault's switchover begins: one more value is drawn. -/
def State.switchDrawn (t : Nat) : State := { ({ s with time := t }.faultMig 4 s.rep.active).2 with time := s.time }

theorem switchDrawn_keeps (t : Nat) : s.keeps (s.switchDrawn t) [.drawn] := by
  intro p hp
  cases p <;> simp at hp <;> rfl
end

section
variable {s : State} {m : Migration}

theorem execCcSwitchover_idle (h : s.mig 4 = none ∧ s.rep.switch = none ∨ s.rep.standby = false) :
    exec .ccSwitchover s = .next s := by
  by_cases hs : s.rep.standby = true
  · obtain ⟨hm, hw⟩ := h.resolve_right (by simp [hs])
    simp only [exec, execCcSwitchover, hs, hm, hw, Option.map_none, if_false, not_true_eq_false]
    rfl
  · simp only [exec, execCcSwitchover, if_pos hs]

theorem execCcSwitchover_fault {t : Nat} (hs : s.rep.standby = true) (hw : s.rep.switch = some t) :
    exec .ccSwitchover s =
      .next ((s.switchDrawn t).switchedOver ({ s with time := t }.faultMig 4 s.rep.active).1) := by
  simp only [exec, execCcSwitchover, hs, hw, Option.map_some, if_false, not_true_eq_false]
  rfl

theorem execCcSwitchover_command (hs : s.rep.standby = true) (hw : s.rep.switch = none) (hm : s.mig 4 = some m) :
    exec .ccSwitchover s = .next (s.switchedOver m) := by
  simp only [exec, execCcSwitchover, hs, hw, hm, Option.map_none, Option.map_some, if_false, not_true_eq_false]
  rfl
end

section
variable {s : State} {m : Migration}

/-- What the repair function records after the other pair serves leaves it serving. -/
theorem State.pairServes.settles {v t : State} (h : s.pairServes v)
    (hb : t.rep.bare = { v.rep.bare with map := t.rep.map, migs := t.rep.migs }) (hr : v.repairs t) : s.pairServes t := by
  obtain ⟨hactive, hstandby, hswitch, hresponder, hactivate, hself, hrun, hhen, hk⟩ := h
  have hboot : t.boot = v.boot := hr.1 .boot (by simp [repairParts])
  have hthm : t.thm = v.thm := hr.1 .thm (by simp [repairParts])
  have hhen' : t.hen = v.hen := hr.1 .hen (by simp [repairParts])
  exact ⟨(congrArg Repair.active hb :).trans hactive, (congrArg Repair.standby hb :).trans hstandby,
    (congrArg Repair.switch hb :).trans hswitch, by rw [hboot, hresponder], by rw [hboot, hactivate],
    (congrArg Repair.selftest hb :).trans hself, by rw [hthm, hrun], by rw [hhen', hhen], .after hr.1 rfl hk⟩

/-- What serves after a switchover from a state that differs by drawn values serves after one from the state itself. -/
theorem State.pairServes.undrawn {u t : State} (h : u.pairServes t) (hu : s.keeps u [.drawn]) : s.pairServes t := by
  obtain ⟨hactive, hstandby, hswitch, hresponder, hactivate, hself, hrun, hhen, hk⟩ := h
  have hrep : u.rep = s.rep := hu .rep (by simp)
  have hhen' : u.hen = s.hen := hu .hen (by simp)
  exact ⟨hrep ▸ hactive, hstandby, hswitch, hresponder, hactivate, hself, hrun, hhen' ▸ hhen, .after hk rfl (.first hu rfl)⟩

theorem leaves_congr {m' : Migration} (hk : m.kind = m'.kind) (hf : m.failed = m'.failed) : m.leaves = m'.leaves := by
  funext l
  simp only [Migration.leaves, hk, hf]

theorem leaves_leaves (l : List (Nat × Nat)) : m.leaves (m.leaves l) = m.leaves l := by
  simp only [Migration.leaves, List.filter_filter, Bool.and_self]

theorem mig_kind {k : Nat} (h : s.mig k = some m) : m.kind = k :=
  beq_iff_eq.mp (List.find?_some (p := fun x : Migration => x.kind == k) h)

/-- A commanded switchover. -/
theorem switchedOver_commanded (hm : m.commanded = true) : s.pairServes (s.switchedOver m) ∧
    (s.switchedOver m).migKeys = m.leaves s.migKeys ∧
    ∃ e ∈ (s.switchedOver m).rep.map, e.kind = 4 ∧ e.failed = s.rep.active := by
  have ht : s.switchedOver m =
      (s.pairTaken.mapAdd 4 4 s.rep.active s.otherPair).migDone m 0 s.rep.active s.otherPair := by
    simp only [State.switchedOver, State.superseded, State.switchNoted, hm, if_true]
  obtain ⟨hserves, hmigs⟩ := pairTaken_spec s
  rw [ht]
  obtain ⟨hbare, hkeys, e, he, hkind, hfailed, _, _⟩ := mapped_migDone (s := s.pairTaken)
    (w := s.pairTaken.mapAdd 4 4 s.rep.active s.otherPair) rfl m 0 s.rep.active s.otherPair
  exact ⟨hserves.settles hbare ((mapAdd_repairs _ _ _ _ _).trans (migDone_repairs _ _ _ _ _)),
    hkeys.trans (congrArg (fun l => m.leaves (l.map fun x => (x.kind, x.failed))) hmigs), e, he, hkind, hfailed⟩

/-- A fault's switchover ends the commanded one that waits. -/
theorem superseded_spec (hm : m.commanded = false) (v : State) (old : Nat) : let t := v.superseded m old
    t.rep = { v.rep with migs := t.rep.migs } ∧ v.repairs t ∧ ∀ c, v.mig 4 = some c → t.migKeys = c.leaves v.migKeys := by
  intro t
  have ht : t = match v.mig 4 with
      | some c => v.migDone c 3 old 0x3FF
      | none => v := by
    unfold t State.superseded
    rw [hm]
    rfl
  cases hc : v.mig 4 with
  | none =>
    rw [ht, hc]
    exact ⟨rfl, .refl v, by simp⟩
  | some c =>
    rw [ht, hc]
    obtain ⟨hrep, hkeys⟩ := migDone_spec v c 3 old 0x3FF
    exact ⟨hrep, migDone_repairs _ _ _ _ _, fun c' h => by cases h; exact hkeys⟩

/-- A fault's switchover. -/
theorem switchedOver_fault (hm : m.commanded = false) : s.pairServes (s.switchedOver m) ∧
    ∀ c, s.mig 4 = some c → m.kind = c.kind → m.failed = c.failed → (s.switchedOver m).migKeys = c.leaves s.migKeys := by
  obtain ⟨hserves, hmigs⟩ := pairTaken_spec s
  obtain ⟨hrep, hrepairs, hkeys⟩ := superseded_spec hm s.pairTaken s.rep.active
  unfold State.switchedOver
  generalize s.pairTaken = u at hserves hmigs hrep hrepairs hkeys ⊢
  generalize u.superseded m s.rep.active = v at hrep hrepairs hkeys ⊢
  have hnoted : v.switchNoted m s.rep.active s.otherPair =
      [1, 2].foldl (fun t c => t.endCause (causeKey 7 c s.rep.active)) v := if_neg (ne_true_of_eq_false hm)
  rw [hnoted]
  have hwb := bare_foldl (f := fun t c => t.endCause (causeKey 7 c s.rep.active)) (fun t c => endCause_bare t _) [1, 2] v
  have hwr := State.repairs.foldl (f := fun t c => t.endCause (causeKey 7 c s.rep.active)) (fun t c => endCause_repairs t _) [1, 2] v
  generalize [1, 2].foldl (fun t c => t.endCause (causeKey 7 c s.rep.active)) v = w at hwb hwr ⊢
  obtain ⟨hdone, hleft⟩ := migDone_spec w m 0 s.rep.active s.otherPair
  have hdr := migDone_repairs w m 0 s.rep.active s.otherPair
  generalize w.migDone m 0 s.rep.active s.otherPair = t at hdone hleft hdr ⊢
  refine ⟨hserves.settles ?_ (hrepairs.trans (hwr.trans hdr)), fun c hc hkind hfailed => ?_⟩
  · have hv : v.rep.bare = { u.rep.bare with migs := v.rep.migs } := by
      rw [hrep]
      rfl
    have ht : t.rep.bare = { w.rep.bare with migs := t.rep.migs } := by
      rw [hdone]
      rfl
    have hmap : t.rep.map = u.rep.map :=
      (congrArg Repair.map hdone).trans ((congrArg Repair.map hwb :).trans (congrArg Repair.map hrep :))
    rw [ht, hwb, hv, hmap]
    rfl
  · have hu : u.mig 4 = some c := (congrArg (fun l => l.find? fun x : Migration => x.kind == 4) hmigs).trans hc
    have hus : u.migKeys = s.migKeys := congrArg (List.map fun x : Migration => (x.kind, x.failed)) hmigs
    have hleaves : t.migKeys = m.leaves w.migKeys := hleft
    rw [hleaves, migKeys_of_bare hwb, hkeys c hu, leaves_congr hkind hfailed, leaves_leaves, hus]
end

/-- A switchover, after a fault or a command. -/
theorem ccSwitchover_serves {s : State} (hs : s.rep.standby = true) (h : s.mig 4 ≠ none ∨ s.rep.switch ≠ none) :
    ∃ t, exec .ccSwitchover s = .next t ∧ s.pairServes t ∧
      (∀ m, s.mig 4 = some m → s.rep.switch = none ∨ m.failed = s.rep.active → t.migKeys = m.leaves s.migKeys) ∧
      (∀ m, s.mig 4 = some m → s.rep.switch = none → m.commanded = true →
        ∃ e ∈ t.rep.map, e.kind = 4 ∧ e.failed = s.rep.active) := by
  cases hw : s.rep.switch with
  | some t =>
    have hu := switchDrawn_keeps s t
    have hrep : (s.switchDrawn t).rep = s.rep := hu .rep (by simp)
    obtain ⟨hserves, hkeys⟩ := switchedOver_fault (s := s.switchDrawn t)
      (m := ({ s with time := t }.faultMig 4 s.rep.active).1) rfl
    refine ⟨_, execCcSwitchover_fault hs hw, hserves.undrawn hu, fun m hm ha => ?_, fun _ _ hn => absurd hn (by simp)⟩
    exact hkeys m hm (mig_kind hm).symm (ha.resolve_left (by simp)).symm
  | none =>
    obtain ⟨m, hm⟩ := Option.ne_none_iff_exists'.mp (h.resolve_right (not_not_intro hw))
    refine ⟨_, execCcSwitchover_command hs hw hm, ?_⟩
    cases hc : m.commanded with
    | false =>
      obtain ⟨hserves, hkeys⟩ := switchedOver_fault (s := s) hc
      refine ⟨hserves, fun c h _ => ?_, fun c h _ hcc => ?_⟩
      · cases hm.symm.trans h
        exact hkeys m hm rfl rfl
      · cases hm.symm.trans h
        exact absurd hcc (by simp [hc])
    | true =>
      obtain ⟨hserves, hkeys, hmap⟩ := switchedOver_commanded (s := s) hc
      refine ⟨hserves, fun c h _ => ?_, fun _ _ _ _ => hmap⟩
      cases hm.symm.trans h
      exact hkeys

/-- Settles O41: a migration of a TDC or of an engine, and a switchover, by what each of its outcomes does. -/
theorem migrationsMoveWorkToSpares : Obligations.MigrationsMoveWorkToSpares := by
  refine ⟨fun s c m h hw hc => ⟨fun r n hr hn => ?_, fun hr hm => ?_, fun hr hm => ?_⟩, fun s c h => execTdcMigration_none h,
    fun s c m h hw hc => execTdcMigration_other h hw hc, fun s m g h hg hm => ⟨fun n hs hne hn hf hlen => ⟨fun unc => ?_,
      engineMigration_runs h hg hs hne hn hf hlen hm⟩, fun hs unc => ?_⟩, fun s m g unc h hg hm hn => ?_,
    fun s unc h => execEngineMigration_none h, fun s h => execCcSwitchover_idle h, fun s hs h => ?_⟩
  · obtain ⟨t, hexec, htdc, hroute, hother, hmark, hswap, hsick, hkeys, hmap, hkeep⟩ := tdcMigration_spare h hw hc hr hn
    exact ⟨t, hexec, htdc, hroute, hother, hmark, hswap, hsick, gone_of_keys hkeys, hmap, hkeep⟩
  · obtain ⟨hlost, hmap, hkeys⟩ := migDone_gone s m 3 m.failed 0x3FF
    exact ⟨_, tdcMigration_refused h hw hr hm, (migDone_repairs s m _ _ _).1 .hch (by simp [repairParts]), hlost, hmap,
      gone_of_keys hkeys⟩
  · obtain ⟨t, hexec, hlost, hkeys, hmap, hrep⟩ := tdcMigration_lost h hw hr hm
    have hhch : t.hch = s.hch := hrep.1 .hch (by simp [repairParts])
    exact ⟨t, hexec, hlost, fun k => by simp only [State.chan, hhch], gone_of_keys hkeys, hmap, .first hrep.1 rfl⟩
  · obtain ⟨t, hexec, hserves, hpool, hkeys, _, _⟩ := engineMigration_served h hg hs hne hn hm unc
    exact ⟨t, hexec, hserves, hpool, gone_of_keys hkeys⟩
  · obtain ⟨hkeys, hheld, hmap⟩ := groupUnserved_spec s m g m.failed
    exact ⟨_, engineMigration_unserved h hg hs hm, gone_of_keys hkeys, hheld, hmap⟩
  · obtain ⟨_, hmap, hkeys⟩ := migDone_gone s m 3 m.failed 0x3FF
    exact ⟨_, engineMigration_refused h hg hn hm, (migDone_repairs s m _ _ _).1 .hen (by simp [repairParts]), hmap,
      gone_of_keys hkeys⟩
  · obtain ⟨t, hexec, ⟨hactive, hstandby, hswitch, hresponder, hactivate, hself, hrun, hhen, hkeep⟩, hkeys, hmap⟩ :=
      ccSwitchover_serves hs h
    exact ⟨t, hexec, hactive, hstandby, hswitch, hresponder, hactivate, hself, hrun, hhen,
      fun m hm ha => gone_of_keys (hkeys m hm ha), hmap, hkeep⟩

end Sys2Proof.Machine

namespace Sys2Proof.Machine

/-! The word that an engine's run executes, and the next one (07 R189, R194). -/

/-- An engine is put in place of itself with the change. -/
theorem setEng_eq_put (s : State) (e : Nat) (f : Engine → Engine) : s.setEng e f = s.setEng e fun _ => f (s.eng e) := by
  refine congrArg (fun l => { s with hen := l }) (List.ext_getElem? fun k => ?_)
  by_cases hk : k = e
  · subst hk
    by_cases hl : k < s.hen.length
    · simp [upd, State.eng, nth, hl]
    · simp [upd, hl]
  · simp [upd, Ne.symm hk]

theorem setEng_self (s : State) (e : Nat) : (s.setEng e fun _ => s.eng e) = s := by
  rw [← setEng_eq_put s e fun y => y]
  exact congrArg (fun l => { s with hen := l }) (List.modify_id _ _)

theorem setEng_setEng (s : State) (e : Nat) (f g : Engine → Engine) :
    (s.setEng e f).setEng e g = s.setEng e fun y => g (f y) :=
  congrArg (fun l => { s with hen := l }) (List.modify_modify_eq _ _ _ _)

/-- The number of an engine that runs is that of an engine. -/
theorem lt_of_run {s : State} {e : Nat} {r : EngRun} (h : (s.eng e).run = some r) : e < s.hen.length := by
  by_contra hl
  rw [State.eng, nth, List.getD_eq_default _ _ (not_lt.mp hl)] at h
  exact absurd h (by simp [Engine.reset])

/-- What the word at the pc of an engine says about the engine and its run. -/
theorem primAt_some {s : State} {e : Nat} {y : Engine} {r : EngRun} {w : Prim} (h : s.primAt e = some (y, r, w)) :
    y = s.eng e ∧ y.run = some r ∧ r.stalled = false := by
  simp only [State.primAt] at h
  split at h
  · cases h
  next r' hr =>
    split at h
    · cases h
    next hc =>
      obtain ⟨w', -, hw⟩ := Option.map_eq_some_iff.mp h
      cases hw
      exact ⟨rfl, hr, by simpa using fun hs => hc (.inr (.inr hs))⟩

/-- The word at the pc is carried out by the row of its code, and the run goes on. -/
theorem prim_of_primAt {s : State} {e op : Nat} {y : Engine} {r : EngRun} {w : Prim} (h : s.primAt e = some (y, r, w))
    (hop : w.op = op) (f : State → Engine → EngRun → Prim → State) :
    s.prim e op f = (f s y r w).nextWord e (r.cyclesOf w) := by
  simp only [State.prim, h, hop, if_true]

section
variable {s : State} {e : Fin 68} {y : Engine} {r : EngRun} {w : Prim} (h : s.primAt e = some (y, r, w))
include h

theorem execPrimNop_at (hop : w.op = 0x00) : execPrimNop e s = .next (s.nextWord e (r.cyclesOf w)) := by
  obtain ⟨rfl, -, -⟩ := primAt_some h
  have hn := prim_of_primAt h hop fun s y _ _ => s.setEng e fun _ => y
  rw [setEng_self] at hn
  exact congrArg Host.Outcome.next hn

theorem execPrimEnd_at (hop : w.op = 0x01) :
    execPrimEnd e s = .next ((s.setRun e fun r => { r with cycles := r.cycles + 1 }).endRun e) := by
  simp only [execPrimEnd, h, hop, if_true]

/-- BRANCH moves the pc over its words when it is taken. -/
theorem execPrimBranch_at (hop : w.op = 0x02) :
    execPrimBranch e s = .next ((s.setEng e fun y =>
      { y with pc := if branchTaken y r w = true then y.pc + w.c else y.pc }).nextWord e (r.cyclesOf w)) := by
  obtain ⟨rfl, -, -⟩ := primAt_some h
  have hpc (y : Engine) : (if branchTaken y r w = true then { y with pc := y.pc + w.c } else y) =
      { y with pc := if branchTaken y r w = true then y.pc + w.c else y.pc } := by
    split <;> rfl
  rw [setEng_eq_put, ← hpc]
  exact congrArg Host.Outcome.next (prim_of_primAt h hop _)

/-- LOOP opens the body behind it. -/
theorem execPrimLoop_at (hop : w.op = 0x03) :
    execPrimLoop e s = .next (((s.setEng e fun y =>
      { y with
        v := y.v.set w.a 0
        loops := { slot := w.a, body := y.pc + 1, stop := y.pc + w.c, left := w.d - 1, done := 0 } :: y.loops }).setRun e
      fun r => { r with cycles := r.cycles + 3 }).nextWord e (r.cyclesOf w)) := by
  obtain ⟨rfl, -, -⟩ := primAt_some h
  rw [setEng_eq_put]
  exact congrArg Host.Outcome.next (prim_of_primAt h hop _)

theorem execPrimWait_at (hop : w.op = 0x04) :
    execPrimWait e s = .next (s.setRun e fun r =>
      { r with waiting := some (w.a, s.tim.shot + cycleTicks w.d, w.b, nearest 32 s.tim.shot (enc 32 (y.slot w.b))) }) := by
  simp only [execPrimWait, h, hop, if_true]
end

/-! The end of a WAIT (07 R195). -/

/-- The watermark of an engine's group has passed a tick. -/
def State.markPassed (s : State) (e mark : Nat) : Bool :=
  match s.engineGroup e with
  | some g => decide (mark < s.groupMark g)
  | none => false

theorem markPassed_iff {s : State} {e mark : Nat} :
    s.markPassed e mark = true ↔ ∃ g, s.engineGroup e = some g ∧ mark < s.groupMark g := by
  unfold State.markPassed
  cases s.engineGroup e <;> simp

/-- WAIT_RESUME of a run that waits: nothing before the wait's end, and then the next word, behind -1 in the slot of a
mark that has not come. -/
theorem execWaitResume_at {s : State} {e : Fin 68} {r : EngRun} {kind stop slot mark : Nat}
    (hr : (s.eng e).run = some r) (hw : r.waiting = some (kind, stop, slot, mark)) :
    let w := nth ((s.eng e).words r.half) (s.eng e).pc (Prim.ofNat 0)
    let t := s.setRun e fun r => { r with waiting := none }
    execWaitResume e s = .next (
      if ¬ (kind = 1 ∧ s.markPassed e mark = true) ∧ s.tim.shot < stop then s
      else (if kind = 1 ∧ ¬ s.markPassed e mark = true then t.setSlot e slot (-1) else t).nextWord e
        (w.d - (stop - s.tim.shot) * 4 / 5)) := by
  simp only [execWaitResume, hr, hw]
  rfl

/-- Settles O16: each row carries out the word of its code, and WAIT_RESUME ends the wait. -/
theorem controlAndSlotPrimitivesComplete : Obligations.ControlAndSlotPrimitivesComplete := by
  refine ⟨fun s e y r w h => ⟨execPrimNop_at h, execPrimEnd_at h, execPrimBranch_at h, execPrimLoop_at h,
    execPrimWait_at h, ?_, ?_, ?_, ?_, ?_, ?_, ?_, ?_, ?_, ?_, ?_⟩,
    fun s e r kind stop slot mark hr hw => ⟨fun hk hp => ?kept, fun hs hk => ?ended, fun hs hk hp => ?missed⟩⟩
  case kept =>
    have hm := markPassed_iff.mpr hp
    refine (execWaitResume_at hr hw).trans (congrArg Host.Outcome.next ?_)
    rw [if_neg fun h => h.1 ⟨hk, hm⟩, if_neg fun h => h.2 hm]
  case ended =>
    refine (execWaitResume_at hr hw).trans (congrArg Host.Outcome.next ?_)
    rw [if_neg fun h => Nat.not_lt.mpr hs h.2, if_neg fun h => hk h.1]
  case missed =>
    refine (execWaitResume_at hr hw).trans (congrArg Host.Outcome.next ?_)
    rw [if_neg fun h => Nat.not_lt.mpr hs h.2, if_pos ⟨hk, mt markPassed_iff.mp hp⟩]
  all_goals exact fun hop => congrArg Host.Outcome.next (prim_of_primAt h hop _)

/-! Vector primitives (07 R193 to R195). -/

/-- Settles O17: each row carries out the word of its code. -/
theorem vectorPrimitivesComplete : Obligations.VectorPrimitivesComplete := by
  refine fun s e y r w h => ⟨?_, ?_, ?_, ?_, ?_, ?_, ?_, ?_, ?_, ?_⟩
  all_goals exact fun hop => congrArg Host.Outcome.next (prim_of_primAt h hop _)

end Sys2Proof.Machine

namespace Sys2Proof.Machine

/-! The order of a list, and the maxima that PSCAN keeps (07 R196). -/

theorem insertBy_eq_orderedInsert {α : Type} (before : α → α → Bool) (x : α) : ∀ l : List α,
    insertBy before x l = l.orderedInsert (fun a b => before b a = false) x
  | [] => rfl
  | y :: t => by
    rw [insertBy, List.orderedInsert_cons, insertBy_eq_orderedInsert before x t]
    cases before y x <;> rfl

/-- The model's order of a list is insertion sort. -/
theorem sortBy_eq_insertionSort {α : Type} (before : α → α → Bool) (l : List α) :
    sortBy before l = l.insertionSort fun a b => before b a = false :=
  congrArg (fun f => l.foldr f []) (funext₂ fun x l => insertBy_eq_orderedInsert before x l)

theorem sortBy_perm {α : Type} (before : α → α → Bool) (l : List α) : (sortBy before l).Perm l := by
  rw [sortBy_eq_insertionSort]
  exact List.perm_insertionSort _ l

/-- A list ordered by position rises in it. -/
theorem sortBy_pos_pairwise (l : List (Nat × Int)) :
    (sortBy (fun p q => decide (p.1 < q.1)) l).Pairwise fun p q => p.1 ≤ q.1 := by
  have := (⟨fun p q => by simpa using Nat.le_total p.1 q.1⟩ :
    Std.Total fun p q : Nat × Int => decide (q.1 < p.1) = false)
  have := (⟨fun p q x hp hq => by simp only [decide_eq_false_iff_not, not_lt] at hp hq ⊢; exact hp.trans hq⟩ :
    IsTrans (Nat × Int) fun p q => decide (q.1 < p.1) = false)
  rw [sortBy_eq_insertionSort]
  exact (List.pairwise_insertionSort _ l).imp fun h => by simpa using h

/-- Two maxima stand at least a number of bins from each other. -/
def Apart (sep : Nat) (p q : Nat × Int) : Prop := sep ≤ p.1 - q.1 + (q.1 - p.1)

theorem Apart.symm {sep : Nat} {p q : Nat × Int} (h : Apart sep p q) : Apart sep q p := by
  unfold Apart at h ⊢
  omega

/-- The maxima that are kept are no more than the limit, and stand apart. -/
theorem keepHighest_spec (count sep : Nat) (cands : List (Nat × Int)) :
    (keepHighest count sep cands).length ≤ count ∧ (keepHighest count sep cands).Pairwise (Apart sep) := by
  refine List.foldlRecOn (motive := fun l : List (Nat × Int) => l.length ≤ count ∧ l.Pairwise (Apart sep)) _ _
    ⟨Nat.zero_le _, .nil⟩ fun kept ⟨hlen, hap⟩ p _ => ?_
  dsimp only
  split
  next hc =>
    obtain ⟨hroom, hfar⟩ := hc
    refine ⟨by simpa using hroom, List.pairwise_append.mpr ⟨hap, List.pairwise_singleton _ _, fun q hq x hx => ?_⟩⟩
    obtain rfl := List.mem_singleton.mp hx
    exact Apart.symm (show sep ≤ _ from of_decide_eq_true (List.all_eq_true.mp hfar q hq))
  next => exact ⟨hlen, hap⟩

/-- In ascending position, each of them stands behind the ones before it. -/
theorem sortBy_keepHighest_spec (count sep : Nat) (cands : List (Nat × Int)) :
    (sortBy (fun p q => decide (p.1 < q.1)) (keepHighest count sep cands)).length ≤ count ∧
      (sortBy (fun p q => decide (p.1 < q.1)) (keepHighest count sep cands)).Pairwise fun p q => p.1 + sep ≤ q.1 := by
  obtain ⟨hlen, hap⟩ := keepHighest_spec count sep cands
  have hperm := sortBy_perm (fun p q : Nat × Int => decide (p.1 < q.1)) (keepHighest count sep cands)
  refine ⟨hperm.length_eq.trans_le hlen, ?_⟩
  refine (sortBy_pos_pairwise _).imp₂ (fun p q hle h => ?_) (hperm.symm.pairwise hap fun h => h.symm)
  unfold Apart at h
  omega

/-! The detection primitives (08 R209 to R218). -/

/-- Settles O18: each row carries out the word of its code. -/
theorem detectionPrimitivesComplete : Obligations.DetectionPrimitivesComplete := by
  refine fun s e y r w h => ⟨fun hop => ⟨?pscan, sortBy_keepHighest_spec _ _ _⟩, ?_, ?_, ?_, ?_, ?_,
    fun hop => ⟨fun hc => ?kept, fun hc => ?dropped⟩, ?_,
    fun hop => ⟨fun hf => ?bare, fun lo hi hf => ⟨fun hn => ?full, fun l hl => ?entered⟩⟩, ?_⟩
  case pscan => exact congrArg Host.Outcome.next (prim_of_primAt h hop _)
  case kept =>
    exact congrArg Host.Outcome.next ((prim_of_primAt h hop _).trans (by simp only [if_pos hc]))
  case dropped =>
    exact congrArg Host.Outcome.next ((prim_of_primAt h hop _).trans (by simp only [if_neg hc]))
  case bare =>
    exact congrArg Host.Outcome.next ((prim_of_primAt h hop _).trans (by simp only [hf]))
  case full =>
    exact congrArg Host.Outcome.next ((prim_of_primAt h hop _).trans (by simp only [hf, hn]))
  case entered =>
    exact congrArg Host.Outcome.next ((prim_of_primAt h hop _).trans (by simp only [hf, hl]))
  all_goals exact fun hop => congrArg Host.Outcome.next (prim_of_primAt h hop _)

end Sys2Proof.Machine

namespace Sys2Proof.Machine

/-! The parts of a record's bytes (10 R253). -/

@[simp] theorem length_leBytesInt (n : Nat) (v : Int) : (leBytesInt n v).length = n := length_leBytes n _

@[simp] theorem length_epochStamp (f : Nat) (t : Int) : (epochStamp f t).length = 8 := length_leBytes 8 _

/-- What stands behind a part of a byte string does not change it. -/
theorem slice_append_of_le {l : List Byte} {off n : Nat} (h : off + n ≤ l.length) (c : List Byte) :
    slice (l ++ c) off n = slice l off n := by
  rw [slice_eq_take h, slice_eq_take (by rw [List.length_append]; omega), List.drop_append_of_le_length (by omega),
    List.take_append_of_le_length (by rw [List.length_drop]; omega)]

/-- The last part of a byte string. -/
theorem slice_append_last {l b : List Byte} {off n : Nat} (hl : l.length = off) (hb : b.length = n) :
    slice (l ++ b) off n = b :=
  slice_part (c := []) (by rw [List.append_nil]) hl hb

theorem field_append_of_le {l : List Byte} {off n : Nat} (h : off + n ≤ l.length) (c : List Byte) :
    field (l ++ c) off n = field l off n := congrArg leNat (slice_append_of_le h c)

theorem field_append_last {l : List Byte} {off n v : Nat} (hl : l.length = off) :
    field (l ++ leBytes n v) off n = v % 256 ^ n := by
  rw [field, slice_append_last hl (length_leBytes n v), leNat_leBytes]

/-- A record is padded to whole entries. -/
theorem length_padTo_16 (l : List Byte) : (padTo 16 l).length = 16 * ceilDiv l.length 16 := by
  simp only [padTo, List.length_append, List.length_replicate, ceilDiv]
  omega

theorem length_flatMap_leBytesInt (n : Nat) (l : List Int) : (l.flatMap fun x => leBytesInt n x).length = l.length * n := by
  simp [List.length_flatMap]

/-! The record primitives (07 R194, R195). -/

section
variable {s : State} {e : Fin 68} {y : Engine} {r : EngRun} {w : Prim} (h : s.primAt e = some (y, r, w))
include h

/-- EMIT: one record for each entry that its mask selects, none of a lost channel, or one STAT record. -/
theorem execPrimEmit_at (hop : w.op = 0x30) :
    ∃ l : List Rec, execPrimEmit e s = .next ((s.queueRecs e l).nextWord e (4 + 2 * l.length)) ∧
      let ps := if s.rep.chanLost.contains (s.devChan e r) = true then [] else
        (y.peakList r r.cur).filter fun p => p.cls &&& w.c % 256 != 0
      (w.a = 1 → l = ps.map (s.echoRec e y r)) ∧ (w.a = 2 → l = ps.map (s.epochRec e y r)) ∧
      (w.a = 3 → l = [s.statRec e r]) := by
  have hps : ((y.peakList r r.cur).filter fun p => !s.chanGone e r && p.cls &&& w.c % 256 != 0) =
      if s.rep.chanLost.contains (s.devChan e r) = true then [] else
        (y.peakList r r.cur).filter fun p => p.cls &&& w.c % 256 != 0 := by
    unfold State.chanGone
    cases s.rep.chanLost.contains (s.devChan e r) <;> simp
  simp only [execPrimEmit, h, hop, ne_eq, not_true_eq_false, if_false, hps]
  exact ⟨_, rfl, fun ha => by simp only [ha], fun ha => by simp only [ha], fun ha => by simp only [ha]⟩

/-- DUMP: one HIST record. -/
theorem execPrimDump_at (hop : w.op = 0x31) :
    ∃ x : Rec, execPrimDump e s = .next ((s.queueRecs e [x]).nextWord e (r.cyclesOf w)) ∧ x.key = r.key ∧
      x.chan = some (s.devChan e r) ∧ x.origin = r.origin ∧ field x.bytes 0 1 = 3 ∧
      x.bytes.length = histBytes ((y.vec r w.a).length - w.d) (if w.a = 0 then 2 else 4) := by
  refine ⟨_, congrArg Host.Outcome.next (prim_of_primAt h hop _), rfl, rfl, rfl, ?_, ?_⟩
  · simp (disch := simp) only [State.ctxRec, padTo, field_append_of_le]
    rfl
  · refine (length_padTo_16 _).trans ?_
    simp only [List.length_append, length_leBytes, length_leBytesInt, length_flatMap_leBytesInt, List.length_drop,
      List.length_singleton, histBytes, bne_iff_ne]
    by_cases ha : w.a = 0 <;> simp [ha]

/-- EMITEV: one EVENT record. -/
theorem execPrimEmitev_at (hop : w.op = 0x32) :
    ∃ x : Rec, execPrimEmitev e s = .next ((s.queueRecs e [x]).nextWord e (r.cyclesOf w)) ∧ x.key = r.key ∧
      x.origin = r.event.tick ∧ field x.bytes 0 1 = 6 ∧ field x.bytes 2 2 = e.val ∧ field x.bytes 4 2 = w.c % 65536 ∧
      slice x.bytes 8 4 = leBytesInt 4 (y.slot w.a) ∧ x.bytes.length = 32 := by
  refine ⟨_, congrArg Host.Outcome.next (prim_of_primAt h hop _), rfl, rfl, ?_, ?_, ?_, ?_, ?_⟩
  · simp (disch := simp) only [State.ctxRec, padTo, field_append_of_le]
    rfl
  · simp (disch := simp) only [State.ctxRec, padTo, field_append_of_le, field_append_last]
    omega
  · simp (disch := simp) only [State.ctxRec, padTo, field_append_of_le, field_append_last]
    omega
  · simp (disch := simp) only [State.ctxRec, padTo, slice_append_of_le, slice_append_last]
  · exact (length_padTo_16 _).trans (by simp [ceilDiv])
end

/-- Settles O19: EMIT, DUMP and EMITEV by their records, and the other rows at once. -/
theorem recordPrimitivesComplete : Obligations.RecordPrimitivesComplete := by
  refine ⟨fun s e y r w h => ⟨execPrimEmit_at h, execPrimDump_at h, execPrimEmitev_at h, fun hop => ?xstamp⟩,
    fun s e r hr hs => ?resume, fun s e off at_ rest hx he => ?complete⟩
  case xstamp => exact congrArg Host.Outcome.next (prim_of_primAt h hop _)
  case resume =>
    show execEmitResume e s = _
    simp only [execEmitResume, hr, hs, if_true]
  case complete =>
    show execXstampComplete e s = _
    cases rest <;> simp only [execXstampComplete, hx]

end Sys2Proof.Machine

namespace Sys2Proof.Machine

/-! The next word of a run (07 R189, R194). -/

/-- The end of a LOOP body changes the pc, the loops and their slots: the words and the run stand. -/
theorem loopBack_run : ∀ (n : Nat) (y : Engine), (Engine.loopBack n y).1.run = y.run
  | 0, _ => rfl
  | n + 1, y => by
    unfold Engine.loopBack
    split
    · split
      · split
        · rfl
        · exact loopBack_run n _
      · rfl
    · rfl

/-- Outside any loop nothing goes back. -/
theorem loopBack_of_nil {n : Nat} {y : Engine} (h : y.loops = []) : Engine.loopBack (n + 1) y = (y, 0) := by
  rw [Engine.loopBack, h]

/-- At the end of a body with iterations left, the run goes back to its first word. -/
theorem loopBack_again {n : Nat} {y : Engine} {f : LoopFrame} {rest : List LoopFrame} (h : y.loops = f :: rest)
    (hpc : y.pc = f.stop + 1) (hl : 0 < f.left) :
    Engine.loopBack (n + 1) y =
      ({ y with pc := f.body, v := y.v.set f.slot ((f.done + 1 : Nat) : Int)
                loops := { f with left := f.left - 1, done := f.done + 1 } :: rest }, 2) := by
  rw [Engine.loopBack, h]
  dsimp only
  rw [if_pos hpc, if_pos hl]

/-- At the end of a body without iterations left, the loop is left; an outer loop that does not end there stands. -/
theorem loopBack_leaves {n : Nat} {y : Engine} {f : LoopFrame} {rest : List LoopFrame} (h : y.loops = f :: rest)
    (hpc : y.pc = f.stop + 1) (hl : f.left = 0) (hout : ∀ g, rest.head? = some g → y.pc ≠ g.stop + 1) :
    Engine.loopBack (n + 2) y = ({ y with loops := rest }, 0) := by
  rw [Engine.loopBack, h]
  dsimp only
  rw [if_pos hpc, if_neg (by omega)]
  cases rest with
  | nil => rfl
  | cons g _ => exact if_neg (hout g rfl)

section
variable {t : State} {e c n : Nat} {r : EngRun} {z : Engine} (hr : (t.eng e).run = some r)
  (hb : Engine.loopBack 5 { t.eng e with pc := (t.eng e).pc + 1 } = (z, n))
include hr hb

/-- The state behind a word, before the program's end is looked at. -/
theorem nextWord_eq_closePast :
    t.nextWord e c = (t.setEng e fun _ => { z with run := some { r with cycles := r.cycles + c + n } }).closePast e := by
  have hz : z.run = some r := by
    have h := loopBack_run 5 { t.eng e with pc := (t.eng e).pc + 1 }
    rw [hb] at h
    exact h.trans hr
  simp only [State.nextWord, hb, State.setRun, setEng_setEng, hz, Option.map_some]

/-- A word whose next one stands in the program changes its engine only. -/
theorem nextWord_within (hw : z.pc < (z.words r.half).length) :
    ((t.nextWord e c).eng e).pc = z.pc ∧ ((t.nextWord e c).eng e).v = z.v ∧
      ((t.nextWord e c).eng e).loops = z.loops ∧ ((t.nextWord e c).eng e).mem = z.mem ∧
      ((t.nextWord e c).eng e).run = some { r with cycles := r.cycles + c + n } ∧
      (∀ k, k ≠ e → (t.nextWord e c).eng k = t.eng k) ∧ t.keeps (t.nextWord e c) [.hen] := by
  have hself := eng_setEng_self t (fun _ => { z with run := some { r with cycles := r.cycles + c + n } }) (lt_of_run hr)
  have hnext : t.nextWord e c = t.setEng e fun _ => { z with run := some { r with cycles := r.cycles + c + n } } := by
    rw [nextWord_eq_closePast hr hb]
    simp only [State.closePast, hself]
    exact if_pos (.inr hw)
  rw [hnext]
  refine ⟨?_, ?_, ?_, ?_, ?_, fun k hk => eng_setEng_other t _ hk, setEng_keeps t _ _⟩
  all_goals rw [hself]
end

/-! The end of a run (07 R189). -/

/-- The load of profiles changes nothing of an engine but its profiles and its memory. -/
theorem syncEngine_view {β : Type} {g : Engine → β} (hg : ∀ (y : Engine) p m, g { y with profiles := p, mem := m } = g y)
    (s : State) (e k : Nat) : g ((s.syncEngine e).eng k) = g (s.eng k) := by
  unfold State.syncEngine
  extract_lets want x held missing y
  have hy : g y = g x := by
    refine List.foldlRecOn (motive := fun z : Engine => g z = g x) missing _ (hg x held x.mem) fun z hz v _ => ?_
    dsimp only
    split
    · exact hz
    · exact (hg z _ _).trans hz
  by_cases hk : k = e
  · subst hk
    by_cases hl : k < s.hen.length
    · rw [eng_setEng_self s _ hl, hy]
    · simp only [State.eng, State.setEng, upd, List.modify_eq_self (Nat.le_of_not_lt hl)]
  · rw [eng_setEng_other s _ hk]

/-- The end of a run counts it, and keeps what its engine's status register holds. -/
theorem endRun_keepsRegs (s : State) (e : Nat) : s.keepsRegs (s.endRun e) [HEN_RUNS e, HEN_MAXRUN e] := by
  unfold State.endRun
  split
  · exact .refl s _
  · extract_lets u v w
    have hu : s.keepsRegs u [HEN_RUNS e, HEN_MAXRUN e] := .mono (bump_keepsRegs s _) (by simp)
    have hv : u.keepsRegs v [HEN_RUNS e, HEN_MAXRUN e] := by
      unfold v
      split
      · exact .mono (setReg_keepsRegs u _ _) (by simp)
      · exact .refl u _
    exact (hu.trans hv).trans (keepsRegs_of_regs rfl _)

/-- Behind the end of a run the engine has none, and its pc is 0. -/
theorem eng_endRun {s : State} {e : Nat} {r : EngRun} (hr : (s.eng e).run = some r) :
    ((s.endRun e).eng e).run = none ∧ ((s.endRun e).eng e).pc = 0 := by
  unfold State.endRun
  split
  next h => exact absurd (hr.symm.trans h) (by simp)
  extract_lets u v w
  have hhen : v.hen = s.hen := by
    have hu : s.keeps u [.regs, .pk] := bump_keeps s _
    have hv : s.keeps v [.regs, .pk] := .ite (.after (setRegN_keeps u _ _) rfl hu) hu
    exact hv .hen (by decide)
  have hlen : e < v.hen.length := hhen ▸ lt_of_run hr
  have hlenw : e < w.hen.length := (length_upd _ _ _).symm ▸ hlen
  exact ⟨(syncEngine_view (g := Engine.run) (fun _ _ _ => rfl) _ e e).trans
      ((congrArg Engine.run (eng_setEng_self w _ hlenw)).trans (congrArg Engine.run (eng_setEng_self v _ hlen))),
    (syncEngine_view (g := Engine.pc) (fun _ _ _ => rfl) _ e e).trans
      ((congrArg Engine.pc (eng_setEng_self w _ hlenw)).trans (congrArg Engine.pc (eng_setEng_self v _ hlen)))⟩

/-! The word past which the program ends (07 R189). -/

/-- A run that goes past the last word ends with ADDR_ERR. -/
theorem nextWord_past {t : State} {e c n : Nat} {r : EngRun} {z : Engine} (hr : (t.eng e).run = some r)
    (hb : Engine.loopBack 5 { t.eng e with pc := (t.eng e).pc + 1 } = (z, n)) (hs : r.stalled = false)
    (hw : (z.words r.half).length ≤ z.pc) :
    ((t.nextWord e c).eng e).run = none ∧ ((t.nextWord e c).eng e).pc = 0 ∧
      bit ((t.nextWord e c).regN (HEN_STAT e)) 4 = true := by
  obtain ⟨u, hu⟩ : ∃ u, u = t.setEng e fun _ => { z with run := some { r with cycles := r.cycles + c + n } } := ⟨_, rfl⟩
  have hself : u.eng e = { z with run := some { r with cycles := r.cycles + c + n } } :=
    hu ▸ eng_setEng_self t _ (lt_of_run hr)
  have hnext : t.nextWord e c = (u.latch (HEN_STAT e) 0x10).endRun e := by
    rw [nextWord_eq_closePast hr hb, ← hu]
    simp only [State.closePast, hself]
    exact if_neg (not_or.mpr ⟨by simp [hs], Nat.not_lt.mpr hw⟩)
  have hstat := endRun_keepsRegs (u.latch (HEN_STAT e) 0x10) e (HEN_STAT e)
    (by simp only [List.mem_cons, List.not_mem_nil, or_false, HEN_STAT, HEN_RUNS, HEN_MAXRUN]; omega)
  obtain ⟨hnone, hzero⟩ := eng_endRun (s := u.latch (HEN_STAT e) 0x10) (congrArg Engine.run hself)
  rw [hnext]
  refine ⟨hnone, hzero, ?_⟩
  rw [State.regN, hstat]
  exact (bit_latch _ _ _ _ (by decide)).trans (Bool.or_true _)

/-! One slot, and the next word (07 R190, R194, R195). -/

section
variable (s : State) (v : Int)

theorem setSlot_keeps (e i : Nat) : s.keeps (s.setSlot e i v) [.regs, .hen] :=
  .ite (.first (setEng_keeps s _ _) rfl) (.after (latch_keeps _ _ _) rfl (.first (setEng_keeps s _ _) rfl))

theorem setSlot_keepsRegs (e i : Nat) : s.keepsRegs (s.setSlot e i v) [HEN_STAT e] := by
  unfold State.setSlot
  extract_lets u
  have hu : s.keepsRegs u [HEN_STAT e] := keepsRegs_of_regs rfl _
  split
  · exact hu
  · exact hu.trans (setReg_keepsRegs u _ _)

/-- The engines behind a slot's write: VSAT is no part of them. -/
theorem eng_setSlot (e i k : Nat) :
    (s.setSlot e i v).eng k = (s.setEng e fun y => { y with v := y.v.set i (sat32 v) }).eng k := by
  unfold State.setSlot
  extract_lets u
  split <;> rfl

/-- VSAT says whether a slot's value was limited. -/
theorem bit_setSlot (e i : Nat) : bit ((s.setSlot e i v).regN (HEN_STAT e)) 3 =
    (bit (s.regN (HEN_STAT e)) 3 || sat32 v != v) := by
  unfold State.setSlot
  extract_lets u
  have hu : u.regN (HEN_STAT e) = s.regN (HEN_STAT e) := rfl
  split
  next h => simp [h, hu]
  next h => rw [bit_latch _ _ _ _ (by decide), hu, bne_iff_ne.mpr h, show bit 0x8 3 = true from rfl]
end

/-- A slot's write and the next word, behind what leaves everything but the engine's status register and VSAT in it
(ADDR_ERR). -/
theorem setSlot_nextWord_spec {s u : State} {e i c : Nat} {v : Int} {y : Engine} {r : EngRun} {w : Prim}
    (h : s.straight e y r w) (hk : s.keeps u [.regs]) (hregs : s.keepsRegs u [HEN_STAT e])
    (hbit : bit (u.regN (HEN_STAT e)) 3 = bit (s.regN (HEN_STAT e)) 3) :
    s.goesOn ((u.setSlot e i v).nextWord e c) e c [HEN_STAT e] ∧ s.slotSet ((u.setSlot e i v).nextWord e c) e i v := by
  obtain ⟨hp, hloops, hpc, -⟩ := h
  obtain ⟨rfl, hrun, -⟩ := primAt_some hp
  have heng (k : Nat) : u.eng k = s.eng k := congrArg (nth · k Engine.reset) (hk .hen (by decide))
  have hlen : e < u.hen.length := lt_of_run ((congrArg Engine.run (heng e)).trans hrun)
  have hself : (u.setSlot e i v).eng e = { s.eng e with v := (s.eng e).v.set i (sat32 v) } := by
    rw [eng_setSlot, eng_setEng_self u _ hlen, heng]
  have hother (k : Nat) (hke : k ≠ e) : (u.setSlot e i v).eng k = s.eng k := by
    rw [eng_setSlot, eng_setEng_other u _ hke, heng]
  obtain ⟨hat, hv, -, hmem, hr', hrest, hkeep⟩ := nextWord_within (t := u.setSlot e i v) (c := c)
    (by rw [hself]; exact hrun) (loopBack_of_nil (by rw [hself]; exact hloops)) (by rw [hself]; exact hpc)
  rw [hself] at hat hv hmem
  refine ⟨⟨hat, by rw [hr', hrun]; rfl, fun k hke => (hrest k hke).trans (hother k hke), ?_, ?_⟩, hv, hmem, ?_⟩
  · exact (hregs.trans (setSlot_keepsRegs u v e i)).trans (hkeep.toRegs (by simp) _)
  · exact .after hkeep rfl (.after (setSlot_keeps u v e i) rfl (.first hk rfl))
  · rw [State.regN, reg_congr (hkeep .regs (by simp))]
    exact (bit_setSlot u v e i).trans (by rw [hbit])

/-- Settles O20: each row writes its slot; behind an address or a selector that is not defined, ADDR_ERR stands beside
VSAT in the status. -/
theorem slotPrimitivesWriteOneSlot : Obligations.SlotPrimitivesWriteOneSlot := by
  intro s e y r w h slot
  have hat {op : Nat} (hop : w.op = op) (f) : (.next (s.prim e op f) : Res) = _ :=
    congrArg Host.Outcome.next (prim_of_primAt h.1 hop f)
  have hslot (i : Nat) (v : Int) : slot ((s.setSlot e i v).nextWord e (r.cyclesOf w)) i v :=
    setSlot_nextWord_spec h (.refl s _) (.refl s _) rfl
  have hnone (i : Nat) : slot (((s.latch (HEN_STAT e) 0x10).setSlot e i 0).nextWord e (r.cyclesOf w)) i 0 :=
    setSlot_nextWord_spec h (latch_keeps s _ _) (latch_keepsRegs s _ _)
      ((bit_latch s _ _ _ (by decide)).trans (Bool.or_false _))
  refine ⟨?_, ?_, ?_, ?_, ?_, fun hop => ?ldv, fun hop => ?getd, ?_, ?_⟩
  case ldv =>
    refine ⟨_, hat hop _, ?_⟩
    cases scratchAt y w 0x2000 with
    | none => exact hnone w.a
    | some a => exact hslot w.a _
  case getd =>
    refine ⟨_, hat hop _, ?_⟩
    cases r.selector w.c with
    | none => exact hnone w.a
    | some v => exact hslot w.a _
  all_goals exact fun hop => ⟨_, hat hop _, hslot _ _⟩

/-! The loops (07 R189, R194). -/

/-- Settles O21: the word's next one by what stands behind the innermost loop's body, and the end of the run past the last
word. -/
theorem wordsFollowTheLoops : Obligations.WordsFollowTheLoops := by
  intro s e y r w h hop
  obtain ⟨rfl, hrun, hst⟩ := primAt_some h
  have hat := execPrimNop_at h hop
  refine ⟨fun f rest hl hpc hleft hbody => ?again, fun f rest hl hpc hleft hin hout => ?left, fun hl hend => ?past⟩
  case again =>
    obtain ⟨hpc', hv, hloops, -, hrun', -, hkeep⟩ := nextWord_within (c := r.cyclesOf w) hrun
      (loopBack_again hl (congrArg (· + 1) hpc) hleft) hbody
    exact ⟨_, hat, hpc', hv, hloops, hrun', hkeep .regs (by simp)⟩
  case left =>
    obtain ⟨hpc', hv, hloops, -, hrun', -, hkeep⟩ := nextWord_within (c := r.cyclesOf w) hrun
      (loopBack_leaves hl (congrArg (· + 1) hpc) hleft fun g hg hp => hout g hg (Nat.succ.inj hp)) hin
    exact ⟨_, hat, hpc', hv, hloops, hrun', hkeep .regs (by simp)⟩
  case past => exact ⟨_, hat, nextWord_past hrun (loopBack_of_nil hl) hst hend.ge⟩

end Sys2Proof.Machine

namespace Sys2Proof.Machine

/-! The images of an engine (07 R197, R198, R199). -/

/-- A staging packet of either memory goes on where that memory has arrived, within 16 MB, and else ends the transfer. -/
theorem stageAdd_mem {s : State} {o : Origin} {p : Packet} {obj : StageObj} {t : Stage} (ht : s.stageBase o p obj = t)
    (mem : Bool) (off : Nat) (data : List Byte) :
    s.stageAdd o p obj mem (some off) data =
      if off = (if mem = true then t.dataMem else t.data).length ∧
          t.data.length + t.dataMem.length + data.length ≤ stageMax then
        { st := s.setStage o (some
            { t with
              data := if mem = true then t.data else t.data ++ data
              dataMem := if mem = true then t.dataMem ++ data else t.dataMem
              whole := !bit p.flags.toNat 5, last := s.time }) }
      else (s.setStage o none).refuse STAGE_ABORT := by
  subst ht
  have hcond (n m : Nat) : (off ≠ n ∨ stageMax < m) ↔ ¬(off = n ∧ m ≤ stageMax) := by
    rw [not_and_or, not_le]
  cases mem
  · exact (if_congr (hcond _ _) rfl rfl).trans (ite_not _ _ _)
  · exact (if_congr (hcond _ _) rfl rfl).trans (ite_not _ _ _)

/-- An accepted packet that ends OK under a condition, and else is refused. -/
theorem serve_answered_or_refused {s u v w : State} {op : OpSpec} {o : Origin} {r : Request} {e st dt : Nat} {c : Prop}
    [Decidable c] (h : s.accepted op o r = some (u, e))
    (ha : op.act u o (r.packet op.opcode) = if c then { st := v } else w.refuse st dt) :
    s.serve op o r = if c then v.answered op.opcode o r e else w.answeredRefusal op.opcode o r e st dt := by
  by_cases hc : c
  · rw [if_pos hc] at ha ⊢
    exact serve_answered h ha
  · rw [if_neg hc] at ha ⊢
    exact serve_answeredRefusal h ha

/-- ENG_LOAD, by the transfer that it goes on with. -/
theorem serve_engLoad {s u : State} {o : Origin} {r : Request} {e : Nat} (h : s.accepted engLoadOp o r = some (u, e))
    {t : Stage} (ht : u.stageBase o (r.packet 0x50) (.engine (BitVec.ofNat 8 (field r.payload 0 1))) = t) :
    s.serve engLoadOp o r =
      if field r.payload 4 4 = (if field r.payload 1 1 = 1 then t.dataMem else t.data).length ∧
          t.data.length + t.dataMem.length + (r.payload.length - 8) ≤ 2 ^ 24 then
        (u.setStage o (some
          { t with
            data := if field r.payload 1 1 = 1 then t.data else t.data ++ r.payload.drop 8
            dataMem := if field r.payload 1 1 = 1 then t.dataMem ++ r.payload.drop 8 else t.dataMem
            whole := !bit r.flags.toNat 5, last := u.time })).answered 0x50 o r e
      else (u.setStage o none).answeredRefusal 0x50 o r e STAGE_ABORT 0 := by
  have hact := stageAdd_mem ht (field r.payload 1 1 == 1) (field r.payload 4 4) (r.payload.drop 8)
  simp only [beq_iff_eq, List.length_drop] at hact
  exact serve_answered_or_refused h hact

/-- What is staged reads the same where the sessions and the time do. -/
theorem stageOf_congr {s t : State} (hp : t.pk = s.pk) (ht : t.time = s.time) (o : Origin) : t.stageOf o = s.stageOf o := by
  simp only [State.stageOf, State.session, hp, ht]

/-- ENG_COMMIT of a sound image behind its complete transfer, with admission where the engine is in use. -/
theorem engCommit_act {u : State} {o : Origin} {r : Request} {t : Stage} {e : Nat} (he : field r.payload 0 1 = e)
    (ht : u.stageOf o = some t) (hobj : t.obj = .engine (BitVec.ofNat 8 e)) (hw : t.whole = true)
    (hcas : t.cas = true → t.gen = u.gen) {v w : State} (hv : (u.refreshImage e).setStage o none = v)
    (hst : (v.eng e).st ≠ .failed) (hfree : (v.eng e).standbyBusy = false)
    (hsound : checkEngImage t.data t.dataMem (field r.payload 4 4) (field r.payload 8 4) = none)
    (hwe : (v.setEng e fun y =>
      let z := y.commitImage t.data t.dataMem (BitVec.ofNat 32 (field r.payload 8 4)) (v.engineLive e) v.seq.next
      if z.image.any ImgHeader.waits = true then z else z.setTimer v.time) = w)
    (hadm : v.engineUsed e = true → w.admissionNow true = none) :
    engCommitOp.act u o (r.packet 0x51) = { st := if v.engineUsed e = true then w.postShares else w } := by
  have hkeep := refreshImage_keeps u e
  have htake := stageTake_whole ((stageOf_congr (hkeep .pk (by decide)) (hkeep .time (by decide)) o).trans ht) hw
    fun hc => (hcas hc).trans (reg_congr (hkeep .regs (by decide)) _).symm
  rw [hobj, hv] at htake
  have hnone : (if v.engineUsed e = true then w.admissionNow true else none) = none := by
    split
    next hused => exact hadm hused
    next => rfl
  subst hwe
  subst hv
  simp only [engCommitOp, payload_packet, he, htake]
  refine (doneIf_pass (bne_iff_ne.mpr hst)).trans ((doneIf_pass ((Bool.not_eq_true' _).mpr hfree)).trans ?_)
  simp only [hsound, State.doneIf, firstFail, hnone]

/-! Mapping and control (07 R181, R200). -/

/-- ENG_MAP of a group that no live program names to a free engine with an image. -/
theorem engMap_act {u : State} {o : Origin} {r : Request} {g e : Nat} (hg : field r.payload 0 1 = g)
    (he : field r.payload 1 1 = e) (hnames : u.liveNames g = false) (hfree : ∀ h, u.engineGroup e = some h → h = g)
    (hst : (u.eng e).st ≠ .failed) (himage : (u.eng e).image.isSome = true) {v : State}
    (hv : (u.endCause (causeKey 3 5 (u.groupEngine g))).setRegN (HEN_MAP g) e = v) :
    engMapOp.act u o (r.packet 0x52) =
      { st := State.postShares (State.syncProfiles { v with rep.pool := v.rep.pool.filter (· != e) }) } := by
  have hgroup : (match u.engineGroup e with | some h => h == g | none => true) = true := by
    split
    next h hh => exact beq_iff_eq.mpr (hfree h hh)
    next => rfl
  subst hv
  simp only [engMapOp, payload_packet, hg, he]
  refine (doneIf_pass ((Bool.not_eq_true' _).mpr hnames)).trans ((doneIf_pass hgroup).trans ?_)
  rw [doneIf_pass ((Bool.and_eq_true _ _).mpr ⟨bne_iff_ne.mpr hst, himage⟩), doneIf_nil]

/-- A row of ENG_CONTROL carries its own action. -/
theorem rowValue_of_field {r : Request} {len off n : Nat} (h : field r.payload off 1 = n) (rows : List Nat) :
    rowValue r len off n rows = n := by
  unfold rowValue
  extract_lets v
  split
  · exact h
  · rfl

theorem engRun_act {u : State} {o : Origin} {r : Request} {e : Nat} (he : field r.payload 0 1 = e)
    (himage : (u.eng e).image.isSome = true) (hst : (u.eng e).st ≠ .failed) :
    engRunOp.act u o (r.packet 0x53) =
      { st := ((u.refreshImage e).unlatch (HEN_STAT e) 0x7F).setEng e fun y =>
          { (y.setTimer u.time).raise { kind := .init, tick := u.tim.shot, shot := none, group := none } with
            st := if y.run.isSome then .busy else .idle, halting := false, heartbeat := u.time } } := by
  simp only [engRunOp, payload_packet, he]
  rw [doneIf_pass ((Bool.and_eq_true _ _).mpr ⟨himage, bne_iff_ne.mpr hst⟩), doneIf_nil]

theorem engHalt_act {u : State} {o : Origin} {r : Request} {e : Nat} (he : field r.payload 0 1 = e)
    (hlive : u.engineLive e = false) :
    engHaltOp.act u o (r.packet 0x53) =
      { st := u.setEng e fun y =>
          { y.dropEvents with
            halting := y.run.isSome
            st := if y.st = .failed ∨ y.run.isSome then y.st else .halted } } := by
  simp only [engHaltOp, payload_packet, he]
  rw [doneIf_pass ((Bool.not_eq_true' _).mpr hlive), doneIf_nil]

/-- ENGINE_TIMER of an engine that runs, when its timer is due. -/
theorem execEngineTimer_due {s : State} {e : Fin 68} {h : ImgHeader} {w v : State} (hw : s.refreshImage e = w)
    (hv : (w.setEng e fun y => { y with timerAt := y.timerAt + 1250 * h.timerUs }) = v)
    (himage : (w.eng e).activeImage = some h) (hon : (w.eng e).on = true) (hus : h.timerUs ≠ 0)
    (hdue : (w.eng e).timerAt ≤ w.time) :
    execEngineTimer e s = .next (
      if ((w.eng e).events.any fun z => z.kind == .timer) = true then v.latch (HEN_STAT e) 0x40
      else v.setEng e fun y => y.raise { kind := .timer, tick := s.tim.shot, shot := none, group := none }) := by
  have htim : s.tim.shot = w.tim.shot := by rw [← hw, refreshImage_keeps s e .tim (by decide)]
  have hrun : ¬(¬(w.eng e).on ∨ h.timerUs = 0 ∨ w.time < (w.eng e).timerAt) := by
    simp [hon, hus, hdue]
  subst hv
  unfold execEngineTimer
  rw [hw, htim]
  dsimp only
  rw [himage]
  exact congrArg Host.Outcome.next (if_neg hrun)

/-- Settles O14: the packets behind their checks, by what each one's effect is there, and ENGINE_TIMER when it is due. -/
theorem engineConfigurationCompletes : Obligations.EngineConfigurationCompletes := by
  refine ⟨fun s u o r e h hf => ?begin, fun s u o r e t h ht hobj hw => ?append, ?commit, ?map, ?run, ?halt,
    fun s e h himage hon hus hdue => execEngineTimer_due rfl rfl himage hon hus hdue⟩
  case begin =>
    obtain ⟨hlen, -⟩ := accepted_checked h
    have hlen : 8 ≤ r.payload.length ∧ r.payload.length ≤ 4080 := by simpa [engLoadOp, between] using hlen
    have hfits : 0 + 0 + (r.payload.length - 8) ≤ 2 ^ 24 := by omega
    refine congrArg Host.Outcome.next ((serve_engLoad h (stageBase_fresh hf _)).trans ?_)
    simp only [State.stageFresh, List.nil_append, ite_self, List.length_nil, hfits, and_true]
    rfl
  case append => exact congrArg Host.Outcome.next (serve_engLoad h (stageBase_open ht hobj hw _))
  case commit =>
    intro s u o r x t h e v ht hobj hw hcas hst hfree hsound w hadm
    exact congrArg Host.Outcome.next (serve_answered h (engCommit_act rfl ht hobj hw hcas rfl hst hfree hsound rfl hadm))
  case map =>
    intro s u o r x h g e hnames hfree hst himage v
    exact congrArg Host.Outcome.next (serve_answered h (engMap_act rfl rfl hnames hfree hst himage rfl))
  case run =>
    intro s u o r x h ha e himage hst
    show execEngControlRun o r s = _
    rw [execEngControlRun, rowValue_of_field ha]
    exact congrArg Host.Outcome.next (serve_answered h (engRun_act rfl himage hst))
  case halt =>
    intro s u o r x h ha e hlive
    show execEngControlHalt o r s = _
    rw [execEngControlHalt, rowValue_of_field ha]
    exact congrArg Host.Outcome.next (serve_answered h (engHalt_act rfl hlive))

end Sys2Proof.Machine

namespace Sys2Proof.Machine

/-! The count of finished captures (09 R238; 10 R262, R274). -/

theorem writeWindow_dram_keeps (s : State) (off : Nat) (d : List Byte) : s.keeps (s.writeWindow 2 off d) [.mem] :=
  keeps_mem s _

section
variable (s : State) (u : Nat) (c : Capture)

theorem storeCapture_keeps : s.keeps (s.storeCapture u c) [.regs, .wfd, .mem] :=
  .after (setCap_keeps _ _ _) rfl (.after (setRegN_keeps _ _ _) rfl
    (.after (writeWindow_dram_keeps _ _ _) rfl (.first (writeWindow_dram_keeps s _ _) rfl)))

theorem storeCapture_keepsRegs : s.keepsRegs (s.storeCapture u c) [WFD_CAP_AREA_FREE u] :=
  .trans (.trans ((writeWindow_dram_keeps s _ _).toRegs (by decide) _)
    ((writeWindow_dram_keeps _ _ _).toRegs (by decide) _)) (.trans (setReg_keepsRegs _ _ _)
      ((setCap_keeps _ _ _).toRegs (by decide) _))

/-- What is stored and counted goes to the record builder; the count stays behind it. -/
theorem finishCapture_count : (s.finishCapture u c).reg (WFD_CAP_COUNT u) =
    (((s.storeCapture u c).bump (WFD_CAP_COUNT u)).handCapture u c).reg (WFD_CAP_COUNT u) :=
  (reg_setRegN_other _ _ (by simp only [WFD_CAP_COUNT, WFD_CAP_MISS_T, WFD_CAP]; omega)).trans
    (reg_setRegN_other _ _ (by simp only [WFD_CAP_COUNT, WFD_CAP_MISS_T, WFD_CAP]; omega))

/-- A capture of one sample has one part, which is not empty. -/
theorem waveParts_one (h : c.samples.length = 1) : ∃ r, s.waveParts u c = [r] ∧ r.bytes ≠ [] := by
  have hparts : ceilDiv 1 32768 = 1 := rfl
  simp only [State.waveParts, h, hparts, List.range_one, List.map_cons, List.map_nil]
  exact ⟨_, rfl, by simp [padTo, State.waveHeader]⟩

/-- The parts of a capture of a shot whose program is present go to that program's stream. -/
theorem handCapture_shot {x : Shot} {r : Rec} (hx : c.shot = some x) (hp : (s.prog x.pid).isSome = true)
    (hr : s.waveParts u c = [r]) : s.handCapture u c = (s.takeRec x.pid r).settleFrees [r] := by
  simp only [State.handCapture, hx, hp, hr, if_true]
  rfl
end

/-- The count is no register of the areas that are freed. -/
theorem settleFrees_capCount (s : State) (gone : List Rec) (v : Nat) :
    (s.settleFrees gone).reg (WFD_CAP_COUNT v) = s.reg (WFD_CAP_COUNT v) := by
  refine List.foldlRecOn (motive := fun t : State => t.reg (WFD_CAP_COUNT v) = s.reg (WFD_CAP_COUNT v)) _ _ rfl
    fun t ht x _ => ?_
  split
  · exact ht
  · exact (reg_setRegN_other t _ (by simp only [WFD_CAP_COUNT, WFD_CAP_AREA_FREE, WFD_CAP]; omega)).trans ht

/-- An Ethernet stream without a staging reservation counts what it is given as late. -/
theorem takeRec_late {s : State} {pid : Nat} {r : Rec} (hs : s.reservation pid = 0) (hr : r.bytes ≠ [])
    (he : stRoute (s.stream pid).desc = 1) :
    (s.takeRec pid r).reg (SEQ_PROG_LATE pid) = s.reg (SEQ_PROG_LATE pid) + 1 := by
  have hfull : ¬ s.stageBytes pid + r.bytes.length ≤ s.reservation pid := by
    have := List.length_pos_of_ne_nil hr
    omega
  have hout : (s.loseRecs pid 1).out = (s.setStream pid fun x => { x with lost := x.lost + 1 }).out :=
    bumpBy_keeps _ (OUT_STREAM_LOST pid) 1 .out (by simp)
  have hroute : stRoute ((s.loseRecs pid 1).stream pid).desc = 1 := by
    rw [State.stream, hout]
    exact (congrArg stRoute (nth_upd_view (g := Stream.desc) (f := fun x => { x with lost := x.lost + 1 })
      (fun _ => rfl) _ _ _ _)).trans he
  have hlost : (s.loseRecs pid 1).reg (SEQ_PROG_LATE pid) = s.reg (SEQ_PROG_LATE pid) :=
    (reg_latch_other _ _ (by simp only [SEQ_PROG_LATE, OUT_STATUS]; omega)).trans
      (reg_bumpBy_other _ _ (by simp only [SEQ_PROG_LATE, OUT_STREAM_LOST]; omega))
  simp only [State.takeRec, if_neg hfull, State.discardRecs, hroute]
  calc _ = ((s.loseRecs pid 1).lateRecs pid 1).reg (SEQ_PROG_LATE pid) :=
        report_keepsRegs _ _ _ _ _ _ (by simp [SEQ_PROG_LATE, REP_INC_DROP, REP_STATUS]; omega)
    _ = (s.loseRecs pid 1).reg (SEQ_PROG_LATE pid) + 1 :=
        (reg_latch_other _ _ (by simp only [SEQ_PROG_LATE, SEQ_STATUS]; omega)).trans (reg_bumpBy_self _ _ _)
    _ = _ := by rw [hlost]

/-- The end of a plain capture of one sample: nothing crosses behind it. -/
theorem execCaptureEnd_one {s : State} {u : Fin 16} {codes : List Byte} (hst : (s.capUnit u).st = .post)
    (havg : s.capAvg u = 0) (htrig : (s.capUnit u).trigIdx = 0) (hpost : s.capPost u = 1) (hlen : codes.length = 33)
    (hnow : s.sampleTime (s.capLane u) (s.sampleFrom (s.capLane u) (s.capUnit u).armedAt) ≤ (s.fineNow : Int)) :
    ∃ c f, exec (.captureEnd u codes) s = .next ((s.finishCapture u c).setCap u f) ∧ c.shot = (s.capUnit u).armShot ∧
      c.samples.length = 1 := by
  show ∃ c f, execCaptureEnd u codes s = _ ∧ _
  unfold execCaptureEnd
  extract_lets c l pre post kTrig k0 ys gone kept ms prev z mask v short ranges
    factor hold tTrig n begun m sums marks first start w
  have hpre : pre = 0 := (congrArg (min _) htrig).trans (Nat.min_zero _)
  have hk : kTrig + post - 1 = s.sampleFrom l c.armedAt := by
    simp only [kTrig, c, htrig, post, hpost]
    omega
  have hdue : ¬(c.st ≠ .post ∨ codes.length ≠ 32 + pre + post ∨ s.fineNow < s.sampleTime l (kTrig + post - 1)) := by
    rw [hk]
    simp [c, l, hst, hpre, hlen, post, hpost, hnow]
  have hys : ys.length = 1 := by simp [ys, State.stream32, hlen]
  have hdrop : ys.drop (pre + 1) = [] := List.drop_eq_nil_of_le (by omega)
  have hv : v = s := by simp [v, z, hdrop, State.detectAll]
  have hn : v.capAvg u = 0 := by rw [hv, havg]
  rw [if_neg hdue]
  have hw : w = s.finishCapture u _ := (if_pos hn).trans (congrArg (State.finishCapture · u _) hv)
  rw [hw]
  exact ⟨_, _, rfl, rfl, by simp [kept, hys]⟩

/-- A program ID, beyond the 64 of the device, whose late counter stands where unit 0 counts its captures. -/
def farId : Nat := 24818

theorem progLate_farId : SEQ_PROG_LATE farId = WFD_CAP_COUNT 0 := rfl

/-- A shot of the program of that ID. -/
def farShot : Shot :=
  { number := 0, pid := farId, fire := 0, dither := 0, beam := [], beamIdx := 0, beamSet := 0, passSel := 0, flags := 0
    tag := 0, patternIdx := 0, pattern := [], burstK := 0, burstTol := 0, coded := false, start := 0, bins := 0
    binExp := 0, adj := [], profile := 0, energy := 0, widths := [], drawn := 0, owed := 0, gen := 0, cond := 0
    tFire := none, tFlags := 0, delays := [], tPre := 0, tLine := 0, stampSrc := 0, stampWin := 0, ng := 0
    edgeDone := true, angle := none, calVer := 0, commit := 0, rcv := [], walks := [] }

/-- A program that runs, with an empty image. -/
def runningProg : Prog :=
  { image := [], state := .running, cause := 0, outOfSet := false, genSubmit := 0, offset := 0, segment := 0
    passes := 0, entry := 0, last := none, passTabs := [], startMode := 0, startTick := 0, nominal := 0, fired := true
    released := true, waitFrom := 0, waitEdges := 0, waitHit := none, unreported := false, waitLate := false
    waitTmo := false, sources := [] }

/-- A stream to Ethernet without a staging reservation. -/
def ethStream : Stream :=
  { desc := [1], waiting := [], openFr := none, closed := [], lost := 0, stalled := false, dry := none }

/-- A device with programs and streams up to the ID farId, whose unit 0 has taken the only sample of a capture of that
program's shot. -/
def farState : State :=
  { State.reset with
    pg := { ProgramUnit.reset with progs := List.replicate (farId + 1) (some runningProg) }
    out := { Output.reset with streams := List.replicate (farId + 1) ethStream }
    wfd := { Wave.reset with
      units := { CapUnit.reset with st := .post, armShot := some farShot } :: List.replicate 15 .reset } }

theorem nth_replicate_last {α : Type} (n : Nat) (a d : α) : nth (List.replicate (n + 1) a) n d = a := by
  simp [nth]

/-- The capture is counted by its unit, and once more as the late record of its program. -/
theorem finishCapture_far {c : Capture} (hx : c.shot = some farShot) (hn : c.samples.length = 1) :
    (farState.finishCapture 0 c).reg (WFD_CAP_COUNT 0) = 2 := by
  generalize hw : (farState.storeCapture 0 c).bump (WFD_CAP_COUNT 0) = w
  have hk : farState.keeps w [.regs, .wfd, .mem, .pk] :=
    hw ▸ .after (bump_keeps _ _) rfl (.first (storeCapture_keeps _ _ _) rfl)
  have hout : w.out = farState.out := hk .out (by decide)
  have hstream : (w.stream farId).desc = [1] := by
    rw [State.stream, hout]
    exact congrArg Stream.desc (nth_replicate_last _ _ _)
  have hprog : (w.prog farId).isSome = true := by
    rw [State.prog, show w.pg = farState.pg from hk .pg (by decide)]
    exact congrArg Option.isSome (nth_replicate_last _ _ _)
  have hcount : w.reg (WFD_CAP_COUNT 0) = 1 := by
    rw [← hw, reg_bump_self, storeCapture_keepsRegs _ _ _ _ (by decide)]
    decide +kernel
  obtain ⟨r, hr, hne⟩ := waveParts_one w 0 c hn
  have hres : w.reservation farId = 0 := by
    rw [State.reservation, hstream]
    rfl
  have hlate : (w.takeRec farId r).reg (WFD_CAP_COUNT 0) = 1 + 1 :=
    (takeRec_late hres hne (by rw [hstream]; rfl)).trans (congrArg (· + 1) hcount)
  rw [finishCapture_count, hw, handCapture_shot w 0 c hx hprog hr, settleFrees_capCount]
  exact hlate

/-- Refutes O25: the statement holds no state to the 64 program IDs of 03 R64. With a program of ID 24818 the counter of
its late records is the register in which unit 0 counts its captures, so that a capture of its shot whose part finds no
room in its stream (10 R270, R274) advances the count by two. -/
theorem not_capturesRunToTheirEnd : ¬ Obligations.CapturesRunToTheirEnd := by
  intro h
  obtain ⟨-, -, hend, -⟩ := h
  obtain ⟨t, ht, -, -, -, hcount, -⟩ := hend farState 0 (List.replicate 33 128) rfl (by decide +kernel) rfl
    (by decide +kernel) (by decide +kernel)
  obtain ⟨c, f, hexec, hx, hn⟩ := execCaptureEnd_one (s := farState) (u := 0) (codes := List.replicate 33 128)
    rfl (by decide +kernel) rfl (by decide +kernel) rfl (by decide +kernel)
  have hfar := finishCapture_far (hx.trans rfl) hn
  cases hexec.symm.trans ht
  exact absurd (hfar.symm.trans hcount) (by decide +kernel)

end Sys2Proof.Machine

namespace Sys2Proof.Machine

/-! Capture units: what misses, dropped sums and their own changes leave (09 R235, R242, R244). -/

section
variable (s : State) {u k : Nat} (f : CapUnit → CapUnit)

theorem capUnit_setCap_self (h : u < s.wfd.units.length) : (s.setCap u f).capUnit u = f (s.capUnit u) :=
  nth_upd_self _ _ _ _ h

theorem capUnit_setCap_other (h : k ≠ u) : (s.setCap u f).capUnit k = s.capUnit k := nth_upd_other _ _ _ h

theorem capUnit_setCap_view {β : Type} {g : CapUnit → β} {f : CapUnit → CapUnit} (h : ∀ x, g (f x) = g x) (k : Nat) :
    g ((s.setCap u f).capUnit k) = g (s.capUnit k) := nth_upd_view h _ _ _ _

theorem capUnit_congr {s t : State} (h : t.wfd = s.wfd) (k : Nat) : t.capUnit k = s.capUnit k := by
  simp only [State.capUnit, h]
end

/-- A state that differs by what a unit holds beside its state, and by what counts and latches that. -/
def State.countsOn (s t : State) (u : Nat) : Prop :=
  t.wfd.units.length = s.wfd.units.length ∧ (∀ k, (t.capUnit k).st = (s.capUnit k).st) ∧
    (∀ k, k ≠ u → t.capUnit k = s.capUnit k) ∧ s.keeps t [.regs, .wfd, .pk]

namespace State.countsOn

theorem refl (s : State) (u : Nat) : s.countsOn s u := ⟨rfl, fun _ => rfl, fun _ _ => rfl, .refl s _⟩

theorem trans {s t v : State} {u : Nat} (h : s.countsOn t u) (g : t.countsOn v u) : s.countsOn v u := by
  obtain ⟨hl, hst, ho, hk⟩ := h
  obtain ⟨gl, gst, go, gk⟩ := g
  exact ⟨gl.trans hl, fun k => (gst k).trans (hst k), fun k hk => (go k hk).trans (ho k hk), hk.trans gk⟩

theorem foldl {α : Type} {u : Nat} {f : State → α → State} (hf : ∀ (t : State) x, t.countsOn (f t x) u) :
    ∀ (xs : List α) (s : State), s.countsOn (xs.foldl f s) u
  | [], s => .refl s u
  | x :: xs, s => (hf s x).trans (State.countsOn.foldl hf xs (f s x))

/-- A change of a unit that leaves its state, behind one that leaves the digitiser. -/
theorem of_setCap {s t : State} {u : Nat} {f : CapUnit → CapUnit} (hf : ∀ x, (f x).st = x.st)
    (h : s.keeps t [.regs, .pk]) : s.countsOn (t.setCap u f) u := by
  have hw : t.wfd = s.wfd := h .wfd (by simp)
  refine ⟨(length_upd _ _ _).trans (congrArg (fun w => w.units.length) hw), fun k => ?_, fun k hk => ?_,
    .after (setCap_keeps _ _ _) rfl (.first h rfl)⟩
  · exact (capUnit_setCap_view t (g := CapUnit.st) hf k).trans (congrArg CapUnit.st (capUnit_congr hw k))
  · exact (capUnit_setCap_other t f hk).trans (capUnit_congr hw k)
end State.countsOn

theorem missTrigger_countsOn (s : State) (u : Nat) (t : Int) : s.countsOn (s.missTrigger u t) u := by
  have hl : s.keeps (((s.bump (WFD_CAP_MISSED u)).latch (WFD_CAP_STAT u) 0x10).latch WFD_STATUS 0x8) [.regs, .pk] :=
    .after (latch_keeps _ _ _) rfl (.after (latch_keeps _ _ _) rfl (bump_keeps s _))
  exact .of_setCap (fun _ => rfl) (.ite (.after (setRegN_keeps _ _ _) rfl (.after (setRegN_keeps _ _ _) rfl hl)) hl)

theorem missKept_countsOn (s : State) (u : Nat) (t : Int) : s.countsOn (s.missKept u t) u := by
  unfold State.missKept
  refine .foldl (fun v x => ?_) _ s
  exact missTrigger_countsOn v u x.2

theorem dropSums_countsOn (s : State) (u : Nat) (ended : Bool) : s.countsOn (s.dropSums u ended) u := by
  unfold State.dropSums
  split
  · exact .refl s u
  · exact .of_setCap (fun _ => rfl) (.after (latch_keeps _ _ _) rfl (.first (latch_keeps s _ _) rfl))

/-- A unit changes behind what counts on it. -/
theorem setCap_of_countsOn {s t : State} {u : Nat} (h : s.countsOn t u) (hu : u < s.wfd.units.length)
    (f : CapUnit → CapUnit) : (t.setCap u f).capUnit u = f (t.capUnit u) ∧
      (∀ k, k ≠ u → (t.setCap u f).capUnit k = s.capUnit k) ∧ s.keeps (t.setCap u f) [.regs, .wfd, .pk] := by
  obtain ⟨hlen, -, hother, hk⟩ := h
  exact ⟨capUnit_setCap_self t f (hlen ▸ hu), fun k hku => (capUnit_setCap_other t f hku).trans (hother k hku),
    .after (setCap_keeps _ _ _) rfl hk⟩

/-- DISARM ends what has no capture under way, and waits for the end of one (09 R236). -/
theorem disarm_spec (s : State) {u : Nat} (hu : u < s.wfd.units.length) : let t := s.disarm u
    ((s.capUnit u).st = .armed ∨ (s.capUnit u).st = .held → (t.capUnit u).st = .idle) ∧
      ((s.capUnit u).st = .post ∨ (s.capUnit u).st = .rearm →
        (t.capUnit u).st = (s.capUnit u).st ∧ (t.capUnit u).disarm = true) ∧
      ((s.capUnit u).st = .idle → t = s) ∧ (∀ k, k ≠ u → t.capUnit k = s.capUnit k) ∧ s.keeps t [.regs, .wfd, .pk] := by
  intro t
  have hidle {v : State} (hv : s.countsOn v u)
      (ht : t = (v.dropSums u true).setCap u fun x => { x with st := .idle, armShot := none, cands := [] }) :
      (t.capUnit u).st = .idle ∧ (∀ k, k ≠ u → t.capUnit k = s.capUnit k) ∧ s.keeps t [.regs, .wfd, .pk] := by
    obtain ⟨hself, hrest⟩ := setCap_of_countsOn (hv.trans (dropSums_countsOn v u true)) hu
      fun x => { x with st := .idle, armShot := none, cands := [] }
    rw [ht]
    exact ⟨congrArg CapUnit.st hself, hrest⟩
  have hwaits (ht : t = (s.dropSums u true).setCap u fun x => { x with disarm := true }) :
      ((t.capUnit u).st = (s.capUnit u).st ∧ (t.capUnit u).disarm = true) ∧
        (∀ k, k ≠ u → t.capUnit k = s.capUnit k) ∧ s.keeps t [.regs, .wfd, .pk] := by
    have hd := dropSums_countsOn s u true
    obtain ⟨hself, hrest⟩ := setCap_of_countsOn hd hu fun x => { x with disarm := true }
    obtain ⟨-, hst, -⟩ := hd
    rw [ht]
    exact ⟨⟨(congrArg CapUnit.st hself).trans (hst u), congrArg CapUnit.disarm hself⟩, hrest⟩
  cases hst : (s.capUnit u).st
  case idle =>
    have ht : t = s := by simp only [t, State.disarm, hst]
    exact ⟨by simp, by simp, fun _ => ht, by simp [ht], ht ▸ .refl s _⟩
  case armed =>
    obtain ⟨h, hrest⟩ := hidle (.refl s u) (by simp only [t, State.disarm, hst])
    exact ⟨fun _ => h, by simp, by simp, hrest⟩
  case held =>
    obtain ⟨h, hrest⟩ := hidle (missKept_countsOn s u s.fineNow) (by simp only [t, State.disarm, hst])
    exact ⟨fun _ => h, by simp, by simp, hrest⟩
  all_goals
    obtain ⟨h, hrest⟩ := hwaits (by simp only [t, State.disarm, hst])
    exact ⟨by simp, fun _ => hst ▸ h, by simp, hrest⟩
end Sys2Proof.Machine

namespace Sys2Proof.Machine

/-! Lanes: their times, and the marks of a change of the allocation (09 R224 to R226). -/

/-- A state in which every lane has the samples that it has in another: the digitiser differs by its units and marks only,
and the device's role is the same. -/
def State.sameLanes (s t : State) : Prop :=
  t.wfd = { s.wfd with units := t.wfd.units, marks := t.wfd.marks } ∧ t.reg IFL_CFG = s.reg IFL_CFG ∧
    s.keeps t [.regs, .wfd]

namespace State.sameLanes

theorem refl (s : State) : s.sameLanes s := ⟨rfl, rfl, .refl s _⟩

theorem trans {s t u : State} (h : s.sameLanes t) (g : t.sameLanes u) : s.sameLanes u := by
  obtain ⟨hw, hr, hk⟩ := h
  obtain ⟨gw, gr, gk⟩ := g
  exact ⟨by rw [gw, hw], gr.trans hr, hk.trans gk⟩

theorem foldl {α : Type} {f : State → α → State} (hf : ∀ (t : State) x, t.sameLanes (f t x)) :
    ∀ (xs : List α) (s : State), s.sameLanes (xs.foldl f s)
  | [], s => .refl s
  | x :: xs, s => (hf s x).trans (State.sameLanes.foldl hf xs (f s x))

variable {s t : State} (h : s.sameLanes t)
include h

theorem laneInput (l : Nat) : t.laneInput l = s.laneInput l := by
  obtain ⟨hw, -, -⟩ := h
  unfold State.laneInput
  rw [hw]

theorem lanePeriod : t.lanePeriod = s.lanePeriod := by
  obtain ⟨hw, -, -⟩ := h
  unfold State.lanePeriod
  rw [hw]

theorem sampleTime (l : Nat) (k : Int) : t.sampleTime l k = s.sampleTime l k := by
  have hperiod := lanePeriod h
  have hinput := laneInput h l
  obtain ⟨hw, hr, hk⟩ := h
  have hifl : t.ifl = s.ifl := hk .ifl (by simp)
  have hdelay : t.laneDelay l = s.laneDelay l := by
    unfold State.laneDelay
    rw [hinput, hw]
  have hrole : t.role = s.role := congrArg (fun v : Word => bits v.toNat 31 30) hr
  have hshift (tick : Nat) : t.treeShift tick = s.treeShift tick := by
    unfold State.treeShift State.dtreeAt
    rw [hrole, hifl]
  simp only [State.sampleTime, hperiod, hdelay, hshift]

theorem sampleAtEdge (l edge : Nat) : t.sampleAtEdge l edge = s.sampleAtEdge l edge := by
  simp only [State.sampleAtEdge, lanePeriod h, sampleTime h]
end State.sameLanes

theorem dropSums_sameLanes (s : State) (u : Nat) (ended : Bool) : s.sameLanes (s.dropSums u ended) := by
  unfold State.dropSums
  split
  · exact .refl s
  · refine ⟨rfl, ?_, .after (setCap_keeps _ _ _) rfl (.after (latch_keeps _ _ _) rfl (.first (latch_keeps s _ _) rfl))⟩
    exact (reg_latch_other _ _ (by simp)).trans (reg_latch_other _ _ (by simp only [IFL_CFG, WFD_CAP_STAT, WFD_CAP]; omega))

theorem dropSums_marks (s : State) (u : Nat) (ended : Bool) : (s.dropSums u ended).wfd.marks = s.wfd.marks := by
  unfold State.dropSums
  split <;> rfl

theorem dropLane_sameLanes (s : State) (l : Nat) : s.sameLanes (s.dropLane l) :=
  .foldl (fun t u => dropSums_sameLanes t u false) _ s

theorem dropLane_marks (s : State) (l : Nat) : (s.dropLane l).wfd.marks = s.wfd.marks :=
  List.foldlRecOn (motive := fun t : State => t.wfd.marks = s.wfd.marks) _ _ rfl
    fun t ht u _ => (dropSums_marks t u false).trans ht

/-- The mark of a lane's first 64 samples from an edge on. -/
def State.edgeMark (s : State) (edge l : Nat) : LaneMark :=
  { bit := 22, start := s.sampleAtEdge l edge, stop := s.sampleAtEdge l edge + (64 * s.lanePeriod : Nat)
    invalid := true, pos := none, was := 0, wasTaps := [], quiet := false }

/-- A lane that a new allocation changes from an edge on. -/
def State.changeLane (edge : Nat) (s : State) (l : Nat) : State :=
  if (s.laneInput l).isSome then (s.dropLane l).markLane l 22 64 (s.sampleAtEdge l edge) true else s.dropLane l

section
variable (edge : Nat) (s : State) (l : Nat)

theorem changeLane_sameLanes : s.sameLanes (s.changeLane edge l) := by
  unfold State.changeLane
  split
  · exact (dropLane_sameLanes s l).trans ⟨rfl, rfl, .first (keeps_wfd _ _) rfl⟩
  · exact dropLane_sameLanes s l

theorem changeLane_marks : (s.changeLane edge l).wfd.marks =
    if (s.laneInput l).isSome then upd s.wfd.marks l fun x => (s.edgeMark edge l :: x).take 1024 else s.wfd.marks := by
  unfold State.changeLane
  split
  · simp only [State.markLane, dropLane_marks, (dropLane_sameLanes s l).lanePeriod]
    rfl
  · exact dropLane_marks s l

variable {s l}

theorem changeLane_marks_other {k : Nat} (h : k ≠ l) :
    nth (s.changeLane edge l).wfd.marks k [] = nth s.wfd.marks k [] := by
  rw [changeLane_marks]
  split
  · exact nth_upd_other _ _ _ h
  · rfl

theorem changeLane_marks_self (hl : l < s.wfd.marks.length) (hi : (s.laneInput l).isSome = true) :
    nth (s.changeLane edge l).wfd.marks l [] = s.edgeMark edge l :: (nth s.wfd.marks l []).take 1023 := by
  rw [changeLane_marks, if_pos hi, nth_upd_self _ _ _ _ hl]
  rfl

theorem length_changeLane_marks : (s.changeLane edge l).wfd.marks.length = s.wfd.marks.length := by
  rw [changeLane_marks]
  split
  · exact length_upd _ _ _
  · rfl

theorem changeLanes_marks_other {ch : List Nat} (h : l ∉ ch) :
    nth (ch.foldl (State.changeLane edge) s).wfd.marks l [] = nth s.wfd.marks l [] :=
  List.foldlRecOn (motive := fun t : State => nth t.wfd.marks l [] = nth s.wfd.marks l []) _ _ rfl
    fun _ ht _ hx => (changeLane_marks_other edge (ne_of_mem_of_not_mem hx h).symm).trans ht

theorem changeLanes_marks_self {ch : List Nat} (h : l ∈ ch) (hl : l < s.wfd.marks.length)
    (hi : (s.laneInput l).isSome = true) :
    ∃ rest, nth (ch.foldl (State.changeLane edge) s).wfd.marks l [] = s.edgeMark edge l :: rest := by
  induction ch generalizing s with
  | nil => exact absurd h List.not_mem_nil
  | cons x ch ih =>
    have hs := changeLane_sameLanes edge s x
    rw [List.foldl_cons]
    by_cases hch : l ∈ ch
    · obtain ⟨rest, hr⟩ := ih hch (length_changeLane_marks (s := s) edge ▸ hl) (hs.laneInput l ▸ hi)
      refine ⟨rest, hr.trans ?_⟩
      simp only [State.edgeMark, hs.sampleAtEdge, hs.lanePeriod]
    · obtain rfl : l = x := (List.mem_cons.mp h).resolve_right hch
      exact ⟨_, (changeLanes_marks_other edge hch).trans (changeLane_marks_self edge hl hi)⟩
end

/-- ALLOC_EFFECT when the edge of the oldest allocation is there. -/
theorem execAllocEffect_due {s : State} {mode edge : Nat} {ins : List Byte} {later : List (Nat × List Byte × Nat)}
    (h : s.wfd.alloc = (mode, ins, edge) :: later) (he : edge ≤ 2048 * s.tim.shot) :
    exec .allocEffect s = .next ((changedLanes s.wfd.mode s.wfd.laneIn mode ins).foldl (State.changeLane edge)
      { s with wfd := { s.wfd with mode := mode, laneIn := ins, alloc := later } }) := by
  show execAllocEffect s = _
  simp only [execAllocEffect, h, if_neg (not_lt.mpr he)]
  rfl

theorem allocEffect_spec {s : State} {mode edge : Nat} {ins : List Byte} {later : List (Nat × List Byte × Nat)}
    (h : s.wfd.alloc = (mode, ins, edge) :: later) (he : edge ≤ 2048 * s.tim.shot) :
    ∃ t, exec .allocEffect s = .next t ∧ t.wfd.mode = mode ∧ t.wfd.laneIn = ins ∧ t.wfd.alloc = later ∧
      (∀ l, l < s.wfd.marks.length → (changedLanes s.wfd.mode s.wfd.laneIn mode ins).contains l = true →
        (t.laneInput l).isSome = true → ∃ m rest, nth t.wfd.marks l [] = m :: rest ∧ m.bit = 22 ∧ m.invalid = true ∧
          m.start = t.sampleAtEdge l edge ∧ m.stop = m.start + (64 * t.lanePeriod : Nat)) ∧
      (∀ l, (changedLanes s.wfd.mode s.wfd.laneIn mode ins).contains l = false →
        nth t.wfd.marks l [] = nth s.wfd.marks l []) ∧ s.keeps t [.regs, .wfd] := by
  refine ⟨_, execAllocEffect_due h he, ?_⟩
  generalize changedLanes s.wfd.mode s.wfd.laneIn mode ins = ch
  generalize hv : ({ s with wfd := { s.wfd with mode := mode, laneIn := ins, alloc := later } } : State) = v
  have hsame : v.sameLanes (ch.foldl (State.changeLane edge) v) := .foldl (changeLane_sameLanes edge) ch v
  have hmarks : v.wfd.marks = s.wfd.marks := by rw [← hv]
  obtain ⟨hw, -, hk⟩ := id hsame
  refine ⟨by rw [hw, ← hv], by rw [hw, ← hv], by rw [hw, ← hv], fun l hl hmem hi => ?_, fun l hmem => ?_,
    .trans (.first (hv ▸ keeps_wfd s _) rfl) hk⟩
  · obtain ⟨rest, hr⟩ := changeLanes_marks_self edge (List.contains_iff_mem.mp hmem) (by rw [hmarks]; exact hl)
      (by rw [← hsame.laneInput]; exact hi)
    exact ⟨_, rest, hr, rfl, rfl, (hsame.sampleAtEdge l edge).symm, by rw [hsame.lanePeriod]; rfl⟩
  · rw [changeLanes_marks_other edge (by simpa using hmem), hmarks]

/-! Gain ranges, filters and the commands of the digitiser behind their checks (09 R228, R229, R234, R236, R243). -/

theorem wfAlloc_act {u : State} {r : Request} {mode : Nat} {ins : List Byte} (hm : field r.payload 0 1 = mode)
    (hi : slice r.payload 4 16 = ins) (h : ∀ c, c < 16 → (u.capUnit c).st ≠ .idle →
      (changedLanes u.lastAlloc.1 u.lastAlloc.2 mode ins).contains (u.capLane c) = false) (o : Origin) :
    wfAllocOp.act u o (r.packet 0x60) =
      { st := { u with wfd.alloc := u.wfd.alloc ++ [(mode, ins, u.allocEdge)] } } := by
  simp only [wfAllocOp, payload_packet, hm, hi]
  rw [doneIf_pass, doneIf_nil]
  refine List.all_eq_true.mpr fun c hc => ?_
  by_cases hst : (u.capUnit c).st = .idle
  · simp [hst]
  · rw [h c (List.mem_range.mp hc) hst]
    exact Bool.or_true _

theorem captureConfig_act {u : State} {r : Request} {c : Nat} (hc : field r.payload 0 1 = c)
    (h : (u.capUnit c).st = .idle) (o : Origin) : captureConfigOp.act u o (r.packet 0x62) =
      { st := (((u.setFld (WFD_CAP_SRC c) 6 0 (field r.payload 2 2)).setRegN (WFD_CAP_THRESH c)
          (field r.payload 4 2)).setFld (WFD_CAP_CFG c) 31 28 (field r.payload 6 1)).setRegN (WFD_CAP_POST c)
          (field r.payload 8 4) } := by
  simp only [captureConfigOp, payload_packet, hc]
  rw [doneIf_pass (beq_iff_eq.mpr h), doneIf_nil]

theorem captureArm_act {u : State} {r : Request} {us : List Nat}
    (hu : ((maskUnits (field r.payload 0 2)).filter fun c => (u.capUnit c).st == .idle) = us)
    (ht : u.thm.shutdown = false) (h : ∀ c ∈ us, u.armable c = true) (o : Origin) :
    captureArmOp.act u o (r.packet 0x63) = { st := us.foldl (fun t c => t.arm c t.fineNow none) u } := by
  simp only [captureArmOp, payload_packet, hu]
  rw [doneIf_pass (by rw [ht]; rfl), doneIf_pass (List.all_eq_true.mpr h), doneIf_nil]

theorem captureTrigger_act {u : State} {r : Request} {us : List Nat} (hu : maskUnits (field r.payload 0 2) = us)
    (h : ∀ c ∈ us, bit (u.regN (WFD_CAP_SRC c)) 6 = true) (o : Origin) :
    captureTriggerOp.act u o (r.packet 0x64) =
      { st := us.foldl (fun t c => t.trigger c 6 (t.nextSample (t.capLane c))) u } := by
  simp only [captureTriggerOp, payload_packet, hu]
  rw [doneIf_pass (List.all_eq_true.mpr h), doneIf_nil]

/-- The boundary of an input, behind the applied set that waits for it. -/
theorem execGainBoundary_at {s t : State} {i : Fin 16} (h : s.boundary i = true)
    (ht : (if s.wfd.dinPend.contains i.val = true then s.takeDin i else s) = t) :
    exec (.gainBoundary i) s = .next (match t.wfd.gainPend with
      | some (j, range, since) =>
        if j = i.val ∧ t.time ≤ since + 125000000 then
          State.finishDeferred { t.setGain i range with wfd.gainPend := none } OK
        else t
      | none => t) := by
  show execGainBoundary i s = _
  simp only [execGainBoundary, h, ht]
  rfl

theorem execGainTimeout_due {s : State} {i : Fin 16} {range since : Nat} (h : s.wfd.gainPend = some (i.val, range, since))
    (hs : since + 125000000 ≤ s.time) : exec (.gainTimeout i) s = .next
      ((State.latch { s with wfd.gainPend := none } WFD_STATUS 0x10).finishDeferred STATE) := by
  show execGainTimeout i s = _
  simp only [execGainTimeout, h]
  exact congrArg Host.Outcome.next (if_pos ⟨trivial, hs⟩)

theorem setShadow_keeps (s : State) (l : Nat) (f : LaneFilter) : s.keeps (s.setShadow l f) [.regs] :=
  (setRegN_keeps s _ _).trans (.foldl (fun t _ => setRegN_keeps t _ _) _ _)

/-- The lane's filter is what its shadow buffer held. -/
theorem applyFilter_laneFilter (s : State) {l : Nat} (h : l < s.wfd.filters.length) :
    (s.applyFilter l).laneFilter l = s.shadowFilter l := by
  obtain ⟨hw, -, -⟩ := dropLane_sameLanes s l
  have hf : ((s.dropLane l).setShadow l (s.laneFilter l)).wfd.filters = s.wfd.filters := by
    rw [show ((s.dropLane l).setShadow l (s.laneFilter l)).wfd = (s.dropLane l).wfd from
      setShadow_keeps _ _ _ .wfd (by simp), hw]
  have hnth : nth (s.wfd.filters.set l (s.shadowFilter l)) l
      { enabled := false, taps := List.replicate 32 0, count := 1 } = s.shadowFilter l := by
    simp [nth, h]
  rw [← hnth, ← hf]
  rfl

/-- Settles O24: each packet's effect behind its checks, and each row behind its condition. -/
theorem digitiserConfigurationCompletes : Obligations.DigitiserConfigurationCompletes := by
  refine ⟨?alloc, ?effect, ?gain, ?boundary, fun s i range since h hs => execGainTimeout_due h hs, ?apply, ?disarm,
    ?config, ?arm, fun s u o r x h hu => congrArg Host.Outcome.next (serve_answered h (captureTrigger_act rfl hu o))⟩
  case alloc =>
    intro s u o r x h mode ins hc
    exact congrArg Host.Outcome.next (serve_answered h (wfAlloc_act rfl rfl hc o))
  case effect =>
    intro s mode ins edge later h
    refine ⟨fun he => ?_, allocEffect_spec h⟩
    show execAllocEffect s = _
    simp only [execAllocEffect, h, if_pos he]
  case gain =>
    intro s u o r x h i range
    refine ⟨fun ht => congrArg Host.Outcome.next (serve_answered h (if_pos ht)), fun ht hb => ?_, fun ht hb => ?_⟩
    · have hn : field r.payload 2 1 ≠ 1 := by omega
      exact congrArg Host.Outcome.next (serve_answered h ((if_neg hn).trans (if_pos hb)))
    · have hn : field r.payload 2 1 ≠ 1 := by omega
      exact congrArg Host.Outcome.next (serve_deferring h ((if_neg hn).trans (if_neg (ne_true_of_eq_false hb))))
  case boundary =>
    intro s i hb t
    refine ⟨fun range since hp ht => ?_, fun hn => ?_⟩
    · rw [execGainBoundary_at hb rfl]
      simp only [t] at hp ht
      simp only [hp]
      exact congrArg Host.Outcome.next (if_pos ⟨trivial, ht⟩)
    · rw [execGainBoundary_at (t := t) hb rfl]
      split
      · next j range since hp =>
        have := hn j range since hp
        exact congrArg Host.Outcome.next (if_neg (by omega))
      · rfl
  case apply =>
    intro s l hb hl
    exact ⟨congrArg Host.Outcome.next (if_neg (ne_true_of_eq_false hb)), applyFilter_laneFilter s (by omega)⟩
  case disarm =>
    intro s u hb hl
    exact ⟨_, congrArg Host.Outcome.next (if_neg (ne_true_of_eq_false hb)), disarm_spec s (by omega)⟩
  case config =>
    intro s u o r x h c hc
    exact congrArg Host.Outcome.next (serve_answered h (captureConfig_act rfl hc o))
  case arm =>
    intro s u o r x h us ht hu
    exact congrArg Host.Outcome.next (serve_answered h (captureArm_act rfl ht hu o))
end Sys2Proof.Machine

namespace Sys2Proof.Machine

/-! Slices: what holds a position, and what leaves or takes one (09 R223, R230; 17 R417, R419). -/

section
variable (s : State) {j k : Nat} (f : Slice → Slice)

theorem wfdSlice_setSlice_self (h : j < s.wfd.slices.length) : (s.setSlice j f).wfdSlice j = f (s.wfdSlice j) :=
  nth_upd_self _ _ _ _ h

theorem wfdSlice_setSlice_other (h : k ≠ j) : (s.setSlice j f).wfdSlice k = s.wfdSlice k := nth_upd_other _ _ _ h

theorem setSlice_keeps (j : Nat) : s.keeps (s.setSlice j f) [.wfd] := keeps_wfd s _

theorem wfdSlice_congr {s t : State} (h : t.wfd.slices = s.wfd.slices) (k : Nat) : t.wfdSlice k = s.wfdSlice k := by
  simp only [State.wfdSlice, h]

theorem wfdSpare_congr {s t : State} (h : t.wfd.slices = s.wfd.slices) (hr : t.rep.released = s.rep.released) :
    t.wfdSpare = s.wfdSpare := by
  simp only [State.wfdSpare, wfdSlice_congr h, hr]

/-- The spare holds no position and has not failed. -/
theorem wfdSpare_spec {s : State} (h : s.wfdSpare = some j) :
    j < 17 ∧ (s.wfdSlice j).pos = none ∧ (s.wfdSlice j).state ≠ 4 := by
  have hfree := List.find?_some h
  simp only [Bool.and_eq_true, Option.isNone_iff_eq_none, bne_iff_ne] at hfree
  exact ⟨List.mem_range.mp (List.mem_of_find?_eq_some h), hfree.1.1, hfree.1.2⟩

theorem takePosition_keeps (j p : Nat) : s.keeps (s.takePosition j p) [.wfd] :=
  (keeps_wfd s _).trans (keeps_wfd _ _)

theorem wfdSlice_takePosition_self (h : j < s.wfd.slices.length) (p : Nat) :
    (s.takePosition j p).wfdSlice j = { s.wfdSlice j with pos := some p, state := 0 } :=
  wfdSlice_setSlice_self s (fun x => { x with pos := some p, state := 0 }) h

theorem wfdSlice_takePosition_other (h : k ≠ j) (p : Nat) : (s.takePosition j p).wfdSlice k = s.wfdSlice k :=
  wfdSlice_setSlice_other s (fun x => { x with pos := some p, state := 0 }) h

theorem leavePosition_keeps (j st : Nat) : s.keeps (s.leavePosition j st) [.wfd] := setSlice_keeps s _ j

theorem wfdSlice_leavePosition_self (h : j < s.wfd.slices.length) (st : Nat) :
    ((s.leavePosition j st).wfdSlice j).pos = none ∧ ((s.leavePosition j st).wfdSlice j).state = st := by
  unfold State.leavePosition
  rw [wfdSlice_setSlice_self _ _ h]
  split
  · exact ⟨rfl, rfl⟩
  · exact ⟨rfl, rfl⟩

theorem wfdSlice_leavePosition_other (h : k ≠ j) (st : Nat) : (s.leavePosition j st).wfdSlice k = s.wfdSlice k :=
  wfdSlice_setSlice_other s _ h

@[simp] theorem length_leavePosition (j st : Nat) :
    (s.leavePosition j st).wfd.slices.length = s.wfd.slices.length := length_upd _ _ _

/-- A slice leaves its position in a state, and another takes it. -/
theorem handPosition_spec (hj : j < s.wfd.slices.length) (hk : k < s.wfd.slices.length) (h : k ≠ j) (st p : Nat) :
    let t := (s.leavePosition j st).takePosition k p
    (t.wfdSlice j).pos = none ∧ (t.wfdSlice j).state = st ∧
      t.wfdSlice k = { s.wfdSlice k with pos := some p, state := 0 } ∧
      (∀ i, i ≠ j → i ≠ k → t.wfdSlice i = s.wfdSlice i) ∧ s.keeps t [.wfd] := by
  intro t
  obtain ⟨hpos, hst⟩ := wfdSlice_leavePosition_self s hj st
  refine ⟨?_, ?_, ?_, fun i hij hik => ?_, (leavePosition_keeps s j st).trans (takePosition_keeps _ k p)⟩
  · rw [wfdSlice_takePosition_other _ h.symm, hpos]
  · rw [wfdSlice_takePosition_other _ h.symm, hst]
  · rw [wfdSlice_takePosition_self _ (by simpa using hk), wfdSlice_leavePosition_other s h]
  · rw [wfdSlice_takePosition_other _ hik, wfdSlice_leavePosition_other s hij]
end

/-! WFD_ROTATION_STEP (09 R230, R231). -/

theorem bit_latch_self (s : State) (a : Nat) {m k : Nat} (hk : k < 32) (h : bit m k = true) :
    bit ((s.latch a m).reg a).toNat k = true := by
  have hm : m.testBit k = true := h
  simp only [bit, reg_latch_self, BitVec.testBit_toNat, BitVec.getLsbD_or, BitVec.getLsbD_ofNat, hm, hk, decide_true,
    Bool.and_self, Bool.or_true]

/-- The holder of the position whose turn it is becomes the spare, and the spare takes it. -/
theorem rotate_spec {s : State} {j k p : Nat} (hj : j < s.wfd.slices.length) (hk : k < s.wfd.slices.length) (h : j ≠ k)
    (hp : s.wfd.rotPos = p) (hf : (List.range 17).find? (fun k => (s.wfdSlice k).pos == some p) = some k) :
    let t := s.rotate j
    t.wfdSlice j = { s.wfdSlice j with pos := some p, state := 0 } ∧ (t.wfdSlice k).pos = none ∧
      (t.wfdSlice k).state = 3 ∧ (∀ i, i ≠ j → i ≠ k → t.wfdSlice i = s.wfdSlice i) ∧ t.wfd.rotPos = (p + 1) % 16 ∧
      t.wfd.rotAt = s.wfd.rotAt ∧ t.wfd.retried = false ∧ s.keeps t [.wfd] := by
  obtain ⟨hpos, hst, hself, hother, hkeep⟩ := handPosition_spec s hk hj h 3 p
  have ht : s.rotate j = { (s.leavePosition k 3).takePosition j p with
      wfd := { ((s.leavePosition k 3).takePosition j p).wfd with rotPos := (p + 1) % 16, retried := false } } := by
    simp only [State.rotate, hp, hf]
  rw [ht]
  exact ⟨hself, hpos, hst, fun i hij hik => hother i hik hij, rfl, rfl, rfl, hkeep.trans (keeps_wfd _ _)⟩

/-- A second failed comparison: the slice fails, rotation stops, and the map enters the failure. -/
theorem shadowFailed_again {s : State} {j : Nat} (h : s.wfd.retried = true) : let t := s.shadowFailed j
    t.wfd.rotDead = true ∧ t.rep.wfdFail = s.rep.wfdFail ++ [j] ∧ (∃ e ∈ t.rep.map, e.kind = 2 ∧ e.failed = j) ∧
      bit (t.regN WFD_STATUS) 6 = true := by
  intro t
  have hfails := (spareFails_spec s 2 j).1
  generalize hu : ({ ((s.spareFails 2 j).latch WFD_STATUS 0x40).setSlice j fun x => { x with state := 4 } with
    wfd.retried := false, wfd.rotDead := true, rep.wfdFail := (s.spareFails 2 j).rep.wfdFail ++ [j] } : State) = u
  have ht : t = (((u.report (causeKey 4 1 j) 7 j false).openEvent 10 7).mapAdd 2 2 j noSpare).mapMade 4 j [1] := by
    rw [← hu]
    exact if_neg (not_not_intro h)
  have hevent : ((u.report (causeKey 4 1 j) 7 j false).openEvent 10 7).rep.bare = u.rep.bare :=
    (bare_of_keeps (openEvent_keeps _ _ _ _) (by simp)).trans (report_bare u _ _ _ _)
  have hreport := (report_repairs u (causeKey 4 1 j) 7 j false).trans (openEvent_repairs _ 10 7 none)
  generalize (u.report (causeKey 4 1 j) 7 j false).openEvent 10 7 = v at ht hevent hreport
  obtain ⟨hbare, e, he, hkind, hfailed, -⟩ := mapAdd_spec v 2 2 j noSpare
  have hmade := mapMade_bare (v.mapAdd 2 2 j noSpare) 4 j [1]
  have hrep : u.repairs t := ht ▸ (hreport.trans (mapAdd_repairs _ _ _ _ _)).trans (mapMade_repairs _ _ _ _)
  obtain ⟨hkeep, hregs⟩ := hrep
  refine ⟨?_, ?_, ⟨e, ?_, hkind, hfailed⟩, ?_⟩
  · rw [show t.wfd = u.wfd from hkeep .wfd (by simp [repairParts]), ← hu]
  · have hfail : t.rep.wfdFail = u.rep.wfdFail := by
      rw [ht]
      exact (congrArg Repair.wfdFail (hmade.trans (hbare.trans (by rw [hevent]))) :)
    rw [hfail, ← hu]
    exact congrArg (· ++ [j]) (by rw [hfails])
  · rw [ht]
    exact (congrArg Repair.map hmade :) ▸ he
  · rw [State.regN, hregs WFD_STATUS (by decide), ← hu]
    exact bit_latch_self (s.spareFails 2 j) WFD_STATUS (m := 0x40) (k := 6) (by decide) rfl

/-- A step of the rotation that is on and has a spare: the part that the spare's state names. -/
theorem execWfdRotationStep_on {s : State} {j : Nat} (hj : s.wfdSpare = some j) (hd : s.wfd.rotDead = false)
    (hon : bit (s.regN WFD_ROT_CFG) 16 = true) (shadow : List Int) (trims : List Byte) :
    exec (.wfdRotationStep shadow trims) s = .next (
      if (s.wfdSlice j).state = 1 then
        { s.setSlice j fun x =>
            { x with state := 2, offset := fieldInt trims 0 2, gain := fieldInt trims 2 2, skew := fieldInt trims 4 2 } with
          wfd.shadowAt := s.time }
      else if (s.wfdSlice j).state = 2 then
        if s.time < s.wfd.shadowAt + 10240 then s
        else if -500 ≤ nth shadow 0 0 ∧ nth shadow 0 0 ≤ 500 ∧ -300 ≤ nth shadow 1 0 ∧ nth shadow 1 0 ≤ 300 then s.rotate j
        else s.shadowFailed j
      else if s.time < s.wfd.rotAt + 1250000 * s.fld WFD_ROT_CFG 7 0 then s
      else { s.setSlice j fun x => { x with state := 1 } with wfd.rotAt := s.time }) := by
  have hrun : ¬(s.wfd.rotDead = true ∨ ¬ bit (s.regN WFD_ROT_CFG) 16 = true) := by simp [hd, hon]
  show execWfdRotationStep shadow trims s = _
  simp only [execWfdRotationStep, hj, if_neg hrun, Bool.and_eq_true, decide_eq_true_eq, and_assoc]
  rfl

/-- Without a spare, or with rotation stopped or off, a step changes nothing. -/
theorem execWfdRotationStep_off {s : State}
    (h : s.wfdSpare = none ∨ s.wfd.rotDead = true ∨ bit (s.regN WFD_ROT_CFG) 16 = false) (shadow : List Int)
    (trims : List Byte) : exec (.wfdRotationStep shadow trims) s = .next s := by
  show execWfdRotationStep shadow trims s = _
  unfold execWfdRotationStep
  split
  · rfl
  · next j hj =>
    have hoff : s.wfd.rotDead = true ∨ ¬ bit (s.regN WFD_ROT_CFG) 16 = true :=
      (h.resolve_left (by simp [hj])).imp_right ne_true_of_eq_false
    exact congrArg Host.Outcome.next (if_pos hoff)

/-! WFD_SLICE_MIGRATION (09 R232; 17 R417, R419, R426). -/

/-- The migration of a slice: the one that waits for it, or one that its fault makes now. -/
def State.sliceMig (s : State) (j : Nat) : Migration × State :=
  match s.rep.migs.find? fun m => m.kind == 2 && m.failed == j with
  | some m => (m, s)
  | none => s.faultMig 2 j

theorem sliceMig_keeps (s : State) (j : Nat) : s.keeps (s.sliceMig j).2 [.drawn] := by
  unfold State.sliceMig
  split
  · exact .refl s _
  · exact draw_keeps s 81

theorem sliceMig_wfd (s : State) (j : Nat) : (s.sliceMig j).2.wfd = s.wfd := sliceMig_keeps s j .wfd (by simp)

theorem sliceMig_rep (s : State) (j : Nat) : (s.sliceMig j).2.rep = s.rep := sliceMig_keeps s j .rep (by simp)

theorem sliceMig_wfdSlice (s : State) (j i : Nat) : (s.sliceMig j).2.wfdSlice i = s.wfdSlice i :=
  wfdSlice_congr (congrArg Wave.slices (sliceMig_wfd s j)) i

theorem sliceMig_wfdSpare (s : State) (j : Nat) : (s.sliceMig j).2.wfdSpare = s.wfdSpare :=
  wfdSpare_congr (congrArg Wave.slices (sliceMig_wfd s j)) (congrArg Repair.released (sliceMig_rep s j))

/-- Unless a command's migration waits for the slice, its own is a fault's. -/
theorem sliceMig_fault {s : State} {j : Nat}
    (h : ∀ m, s.rep.migs.find? (fun m => m.kind == 2 && m.failed == j) = some m → m.commanded = false) :
    (s.sliceMig j).1.commanded = false := by
  unfold State.sliceMig
  split
  · next m hm => exact h m hm
  · rfl

/-- A commanded migration of a slice from a position. -/
def State.sliceLeaves (s : State) (j p : Nat) (m : Migration) : State :=
  match s.wfdSpare with
  | none => s.migDone m 3 j 0x3FF
  | some k =>
    let s := (s.leavePosition j 3).takePosition k p
    ({ s with rep.released := s.rep.released ++ [(2, j)] }.mapAdd 2 4 j k).migDone m 0 j k

/-- A slice in service has failed: the report, and the end of rotation. -/
def State.sliceFault (s : State) (j : Nat) : State :=
  let s := ((s.latch WFD_STATUS 0x40).report (causeKey 4 2 j) 7 j false).openEvent 10 7
  { s with wfd.rotDead := true, rep.wfdFail := s.rep.wfdFail ++ [j] }

/-- The migration of a failed slice from a position. -/
def State.sliceFails (s : State) (j p : Nat) (m : Migration) : State :=
  match s.wfdSpare with
  | none =>
    let x := s.failedFrom
    let s := x.2.setSlice j fun y => { y with state := 4, since := x.1 }
    ((s.mapAdd 2 2 j noSpare).mapMade 4 j [2]).migDone m 1 j 0x3FF
  | some k =>
    let s := ((s.failedSamples p).leavePosition j 4).takePosition k p
    ((s.mapAdd 2 2 j k).repaired 4 j [2]).migDone m 0 j k

theorem execWfdSliceMigration_in {s : State} {j : Fin 17} {p : Nat} (hp : (s.wfdSlice j).pos = some p)
    (hs : (s.wfdSlice j).state ≠ 4) : exec (.wfdSliceMigration j) s = .next (
      let x := s.sliceMig j
      if x.1.commanded then x.2.sliceLeaves j p x.1 else (x.2.sliceFault j).sliceFails j p x.1) := by
  show execWfdSliceMigration j s = _
  simp only [execWfdSliceMigration, hp, if_neg hs]
  rfl

theorem execWfdSliceMigration_out {s : State} {j : Fin 17} (h : (s.wfdSlice j).pos = none ∨ (s.wfdSlice j).state = 4) :
    exec (.wfdSliceMigration j) s = .next s := by
  show execWfdSliceMigration j s = _
  unfold execWfdSliceMigration
  split
  · rfl
  · next p hp => exact congrArg Host.Outcome.next (if_pos (h.resolve_left (by simp [hp])))

/-- The end of a migration behind the map's entry leaves the digitiser. -/
theorem wfd_of_repairs {s t : State} (h : s.repairs t) : t.wfd = s.wfd := h.1 .wfd (by simp [repairParts])

section
variable {s : State} {j p : Nat} (m : Migration)

theorem sliceFault_wfd (s : State) (j : Nat) : (s.sliceFault j).wfd = { s.wfd with rotDead := true } := by
  have h := wfd_of_repairs ((report_repairs (s.latch WFD_STATUS 0x40) (causeKey 4 2 j) 7 j false).trans
    (openEvent_repairs _ 10 7 none))
  exact congrArg (fun w : Wave => { w with rotDead := true }) h

theorem sliceFault_rep (s : State) (j : Nat) :
    (s.sliceFault j).rep.bare = { s.rep.bare with wfdFail := s.rep.wfdFail ++ [j] } := by
  have h : (((s.latch WFD_STATUS 0x40).report (causeKey 4 2 j) 7 j false).openEvent 10 7).rep.bare = s.rep.bare :=
    (bare_of_keeps (openEvent_keeps _ _ _ _) (by simp)).trans (report_bare _ _ _ _ _)
  exact congrArg (fun r : Repair => { r with wfdFail := r.wfdFail ++ [j] }) h

theorem sliceFault_slices (s : State) (j : Nat) : (s.sliceFault j).wfd.slices = s.wfd.slices :=
  (congrArg Wave.slices (sliceFault_wfd s j) :)

theorem sliceFault_wfdSlice (s : State) (j i : Nat) : (s.sliceFault j).wfdSlice i = s.wfdSlice i :=
  wfdSlice_congr (sliceFault_slices s j) i

theorem sliceFault_wfdSpare (s : State) (j : Nat) : (s.sliceFault j).wfdSpare = s.wfdSpare :=
  wfdSpare_congr (sliceFault_slices s j) (congrArg Repair.released (sliceFault_rep s j) :)

/-- A commanded migration hands the position to the spare. -/
theorem sliceLeaves_spare {k : Nat} (hk : s.wfdSpare = some k) (hl : s.wfd.slices.length = 17) (hj : j < 17) (h : k ≠ j) :
    let t := s.sliceLeaves j p m
    (t.wfdSlice j).pos = none ∧ t.wfdSlice k = { s.wfdSlice k with pos := some p, state := 0 } ∧
      ∀ i, i ≠ j → i ≠ k → t.wfdSlice i = s.wfdSlice i := by
  intro t
  obtain ⟨hlt, -⟩ := wfdSpare_spec hk
  obtain ⟨hpos, -, hself, hother, -⟩ := handPosition_spec s (by omega) (by omega) h 3 p
  generalize hx : (s.leavePosition j 3).takePosition k p = x at hpos hself hother
  have ht : t = (State.mapAdd { x with rep.released := x.rep.released ++ [(2, j)] } 2 4 j k).migDone m 0 j k := by
    simp only [t, State.sliceLeaves, hk, hx]
  have hw : t.wfd = x.wfd := by
    rw [ht]
    exact wfd_of_repairs (((State.repairs.rep x _).trans (mapAdd_repairs _ 2 4 j k)).trans (migDone_repairs _ m 0 j k))
  have hslice (i : Nat) : t.wfdSlice i = x.wfdSlice i := wfdSlice_congr (congrArg Wave.slices hw) i
  exact ⟨by rw [hslice, hpos], by rw [hslice, hself], fun i hij hik => by rw [hslice, hother i hij hik]⟩

theorem sliceLeaves_spareless (hk : s.wfdSpare = none) : (s.sliceLeaves j p m).wfd = s.wfd := by
  simp only [State.sliceLeaves, hk]
  exact wfd_of_repairs (migDone_repairs s m 3 j 0x3FF)

theorem failedSamples_keeps (s : State) (p : Nat) : s.keeps (s.failedSamples p) [.drawn, .wfd] :=
  .after (keeps_wfd _ _) rfl (.first (draw_keeps s 73) rfl)

/-- A failed slice hands its position to the spare, and has failed. -/
theorem sliceFails_spare {k : Nat} (hk : s.wfdSpare = some k) (hl : s.wfd.slices.length = 17) (hj : j < 17) (h : k ≠ j) :
    let t := s.sliceFails j p m
    ((t.wfdSlice j).pos = none ∧ t.wfdSlice k = { s.wfdSlice k with pos := some p, state := 0 } ∧
      ∀ i, i ≠ j → i ≠ k → t.wfdSlice i = s.wfdSlice i) ∧
    (t.wfdSlice j).state = 4 ∧ t.wfd.rotDead = s.wfd.rotDead ∧ t.rep.wfdFail = s.rep.wfdFail := by
  intro t
  obtain ⟨hlt, -⟩ := wfdSpare_spec hk
  have hslices : (s.failedSamples p).wfd.slices = s.wfd.slices := rfl
  obtain ⟨hpos, hst, hself, hother, hkeep⟩ := handPosition_spec (s.failedSamples p) (j := j) (k := k)
    (by rw [hslices]; omega) (by rw [hslices]; omega) h 4 p
  have hdead : (((s.failedSamples p).leavePosition j 4).takePosition k p).wfd.rotDead = s.wfd.rotDead := rfl
  generalize hx : ((s.failedSamples p).leavePosition j 4).takePosition k p = x at hpos hst hself hother hkeep hdead
  have ht : t = ((x.mapAdd 2 2 j k).repaired 4 j [2]).migDone m 0 j k := by
    simp only [t, State.sliceFails, hk, hx]
  have hw : t.wfd = x.wfd := by
    rw [ht]
    exact wfd_of_repairs (((mapAdd_repairs x 2 2 j k).trans (repaired_repairs _ 4 j [2])).trans (migDone_repairs _ m 0 j k))
  have hslice (i : Nat) : t.wfdSlice i = x.wfdSlice i := wfdSlice_congr (congrArg Wave.slices hw) i
  have hrep : x.rep = s.rep := (hkeep .rep (by simp)).trans (failedSamples_keeps s p .rep (by simp))
  obtain ⟨hbare, -⟩ := mapped_migDone (s := x) (repaired_bare (x.mapAdd 2 2 j k) 4 j [2]) m 0 j k
  rw [← ht] at hbare
  refine ⟨⟨by rw [hslice, hpos], by rw [hslice, hself, wfdSlice_congr hslices],
    fun i hij hik => by rw [hslice, hother i hij hik, wfdSlice_congr hslices]⟩, by rw [hslice, hst],
    (congrArg Wave.rotDead hw).trans hdead, ?_⟩
  exact (congrArg Repair.wfdFail hbare :).trans (congrArg Repair.wfdFail hrep :)

/-- Without a spare, a failed slice keeps its position. -/
theorem sliceFails_spareless (hk : s.wfdSpare = none) (hj : j < s.wfd.slices.length) : let t := s.sliceFails j p m
    (t.wfdSlice j).pos = (s.wfdSlice j).pos ∧ ∀ i, i ≠ j → t.wfdSlice i = s.wfdSlice i := by
  intro t
  generalize hx : s.failedFrom.2.setSlice j (fun y => { y with state := 4, since := s.failedFrom.1 }) = x
  have ht : t = ((x.mapAdd 2 2 j noSpare).mapMade 4 j [2]).migDone m 1 j 0x3FF := by
    simp only [t, State.sliceFails, hk, hx]
  have hw : t.wfd = x.wfd := by
    rw [ht]
    exact wfd_of_repairs (((mapAdd_repairs x 2 2 j noSpare).trans (mapMade_repairs _ 4 j [2])).trans
      (migDone_repairs _ m 1 j 0x3FF))
  have hslice (i : Nat) : t.wfdSlice i = x.wfdSlice i := wfdSlice_congr (congrArg Wave.slices hw) i
  have hfrom (i : Nat) : s.failedFrom.2.wfdSlice i = s.wfdSlice i := rfl
  refine ⟨?_, fun i hi => ?_⟩
  · rw [hslice, ← hx, wfdSlice_setSlice_self _ _ (by exact hj), hfrom]
  · rw [hslice, ← hx, wfdSlice_setSlice_other _ _ hi, hfrom]
end

/-- WFD_SLICE_MIGRATION of a slice in service, with a spare. -/
theorem sliceMigration_spare {s : State} {j : Fin 17} {p k : Nat} (hp : (s.wfdSlice j).pos = some p)
    (hs : (s.wfdSlice j).state ≠ 4) (hk : s.wfdSpare = some k) (hl : s.wfd.slices.length = 17) :
    ∃ t, exec (.wfdSliceMigration j) s = .next t ∧ ((t.wfdSlice j).pos = none ∧
        t.wfdSlice k = { s.wfdSlice k with pos := some p, state := 0 } ∧
        ∀ i, i ≠ j.val → i ≠ k → t.wfdSlice i = s.wfdSlice i) ∧
      ((s.sliceMig j).1.commanded = false →
        (t.wfdSlice j).state = 4 ∧ t.wfd.rotDead = true ∧ t.rep.wfdFail = s.rep.wfdFail ++ [j.val]) := by
  obtain ⟨-, hnone, -⟩ := wfdSpare_spec hk
  have hne : k ≠ j.val := by
    rintro rfl
    simp [hp] at hnone
  have hexec := execWfdSliceMigration_in hp hs
  have hlen : (s.sliceMig j).2.wfd.slices.length = 17 := by rw [sliceMig_wfd, hl]
  have hspare : (s.sliceMig j).2.wfdSpare = some k := (sliceMig_wfdSpare s j).trans hk
  by_cases hm : (s.sliceMig j).1.commanded = true
  · have ht := sliceLeaves_spare (j := j) (p := p) (s.sliceMig j).1 hspare hlen j.isLt hne
    simp only [sliceMig_wfdSlice] at ht
    exact ⟨_, hexec.trans (congrArg Host.Outcome.next (if_pos hm)), ht, fun hf => absurd hm (ne_true_of_eq_false hf)⟩
  · obtain ⟨ht, hst, hdead, hfail⟩ := sliceFails_spare (s := (s.sliceMig j).2.sliceFault j) (j := j) (p := p)
      (s.sliceMig j).1 ((sliceFault_wfdSpare _ j).trans hspare) (by rw [sliceFault_slices, hlen]) j.isLt hne
    simp only [sliceFault_wfdSlice, sliceMig_wfdSlice] at ht
    have hmarked : ((s.sliceMig j).2.sliceFault j).rep.wfdFail = s.rep.wfdFail ++ [j.val] :=
      (congrArg Repair.wfdFail (sliceFault_rep _ _) :).trans (by rw [sliceMig_rep])
    exact ⟨_, hexec.trans (congrArg Host.Outcome.next (if_neg hm)), ht, fun _ =>
      ⟨hst, hdead.trans (congrArg Wave.rotDead (sliceFault_wfd _ _)), hfail.trans hmarked⟩⟩

/-- WFD_SLICE_MIGRATION of a slice in service, without a spare. -/
theorem sliceMigration_spareless {s : State} {j : Fin 17} {p : Nat} (hp : (s.wfdSlice j).pos = some p)
    (hs : (s.wfdSlice j).state ≠ 4) (hk : s.wfdSpare = none) (hl : s.wfd.slices.length = 17) :
    ∃ t, exec (.wfdSliceMigration j) s = .next t ∧ (t.wfdSlice j).pos = some p ∧
      ∀ i, i ≠ j.val → t.wfdSlice i = s.wfdSlice i := by
  have hexec := execWfdSliceMigration_in hp hs
  have hspare : (s.sliceMig j).2.wfdSpare = none := (sliceMig_wfdSpare s j).trans hk
  by_cases hm : (s.sliceMig j).1.commanded = true
  · have ht (i : Nat) : ((s.sliceMig j).2.sliceLeaves j p (s.sliceMig j).1).wfdSlice i = s.wfdSlice i :=
      (wfdSlice_congr (congrArg Wave.slices (sliceLeaves_spareless _ hspare)) i).trans (sliceMig_wfdSlice s j i)
    exact ⟨_, hexec.trans (congrArg Host.Outcome.next (if_pos hm)), by rw [ht, hp], fun i _ => ht i⟩
  · obtain ⟨hpos, hother⟩ := sliceFails_spareless (s := (s.sliceMig j).2.sliceFault j) (j := j) (p := p)
      (s.sliceMig j).1 ((sliceFault_wfdSpare _ j).trans hspare)
      (by rw [sliceFault_slices, sliceMig_wfd, hl]; exact j.isLt)
    simp only [sliceFault_wfdSlice, sliceMig_wfdSlice] at hpos hother
    exact ⟨_, hexec.trans (congrArg Host.Outcome.next (if_neg hm)), hpos.trans hp, hother⟩

/-- Settles O26: a step by the spare's state and what the comparison found, a migration by whether a spare is there. -/
theorem slicesRotateAndMigrate : Obligations.SlicesRotateAndMigrate := by
  refine ⟨fun s shadow trims h => execWfdRotationStep_off h shadow trims, ?_,
    fun s j h => execWfdSliceMigration_out h, ?_, fun s j p hp hs hk hl => sliceMigration_spareless hp hs hk hl⟩
  · intro s shadow trims j hj hd hon pass p
    have hexec := execWfdRotationStep_on hj hd hon shadow trims
    obtain ⟨hlt, hnone, -⟩ := wfdSpare_spec hj
    refine ⟨fun h1 h2 => ?_, fun h1 => ?_, fun h2 ht => ?_, fun h2 ht => ?_⟩
    · rw [hexec, if_neg h1, if_neg h2]
    · rw [hexec, if_pos h1]
    · rw [hexec, if_neg (by omega), if_pos h2, if_pos ht]
    · rw [if_neg (by omega), if_pos h2, if_neg (not_lt.mpr ht)] at hexec
      refine ⟨fun hpass k hl hk => ?_, fun hpass hr => ?_, fun hpass hr => ?_⟩
      · have hpos : (s.wfdSlice k).pos = some p := by simpa using List.find?_some hk
        have hne : j ≠ k := by
          rintro rfl
          simp [hpos] at hnone
        have hk17 := List.mem_range.mp (List.mem_of_find?_eq_some hk)
        exact ⟨_, hexec.trans (congrArg Host.Outcome.next (if_pos hpass)),
          rotate_spec (by omega) (by omega) hne rfl hk⟩
      · rw [hexec, if_neg hpass, State.shadowFailed, if_pos (ne_true_of_eq_false hr)]
      · exact ⟨_, hexec.trans (congrArg Host.Outcome.next (if_neg hpass)), shadowFailed_again hr⟩
  · intro s j p k hp hs hk hl fault
    obtain ⟨t, ht, ⟨hpos, hself, hother⟩, hfault⟩ := sliceMigration_spare hp hs hk hl
    exact ⟨t, ht, hpos, by rw [hself], by rw [hself], hother, fun hf => hfault (sliceMig_fault hf)⟩
end Sys2Proof.Machine

namespace Sys2Proof.Machine

/-! Streams (10 R264). -/

theorem stream_setStream_self (s : State) {i : Nat} (f : Stream → Stream) (h : i < s.out.streams.length) :
    (s.setStream i f).stream i = f (s.stream i) := nth_upd_self _ _ _ _ h

theorem stream_setStream_other (s : State) {i k : Nat} (f : Stream → Stream) (h : k ≠ i) :
    (s.setStream i f).stream k = s.stream k := nth_upd_other _ _ _ h

@[simp] theorem length_streams_setStream (s : State) (i : Nat) (f : Stream → Stream) :
    (s.setStream i f).out.streams.length = s.out.streams.length := length_upd _ _ _

theorem stream_congr {s t : State} (h : t.out = s.out) (k : Nat) : t.stream k = s.stream k := by
  simp only [State.stream, h]

/-! The bytes of a frame of this device (10 R265). -/

@[simp] theorem length_frameHeader (f : Frame) (n : Nat) : (frameHeader f n).length = 32 := by
  simp [frameHeader]

theorem field_frameHeader_count (f : Frame) (n : Nat) : field (frameHeader f n) 6 2 = f.recs.length % 65536 := by
  simp (disch := simp) only [frameHeader, field_append_of_le, field_append_last, Nat.reducePow]

theorem foldl_recordBytes : ∀ (l : List Rec) (n : Nat),
    l.foldl (fun n r => n + r.bytes.length) n = n + (l.flatMap Rec.bytes).length
  | [], _ => rfl
  | r :: l, n => by
    rw [List.foldl_cons, foldl_recordBytes l, List.flatMap_cons, List.length_append, Nat.add_assoc]

theorem frameSize_eq (l : List Rec) : frameSize l = 32 + (l.flatMap Rec.bytes).length := foldl_recordBytes l 32

section
variable {f : Frame} (h : f.raw = none)
include h

theorem Frame.bytes_own : f.bytes = frameHeader f (frameSize f.recs) ++ f.recs.flatMap Rec.bytes := by
  simp only [Frame.bytes, h, frameSize_eq]

theorem Frame.length_bytes_own : f.bytes.length = frameSize f.recs := by
  rw [Frame.bytes_own h, List.length_append, length_frameHeader, frameSize_eq]

theorem Frame.field_count_own : field f.bytes 6 2 = f.recs.length % 65536 := by
  rw [Frame.bytes_own h, field_append_of_le (by simp), field_frameHeader_count]
end

/-! The close of a frame (10 R265 to R267). -/

/-- The earliest origin of an open frame's records, from which its deadline counts. -/
def OpenFrame.origin (o : OpenFrame) : Nat :=
  o.recs.foldl (fun m r => min m r.origin) (match o.recs with | r :: _ => r.origin | [] => 0)

theorem foldl_min_origin_le : ∀ (l : List Rec) (m : Nat), l.foldl (fun m r => min m r.origin) m ≤ m ∧
    ∀ r ∈ l, l.foldl (fun m r => min m r.origin) m ≤ r.origin
  | [], m => ⟨le_rfl, fun _ h => absurd h List.not_mem_nil⟩
  | x :: l, m => by
    obtain ⟨hm, hl⟩ := foldl_min_origin_le l (min m x.origin)
    refine ⟨hm.trans (min_le_left _ _), fun r hr => ?_⟩
    rcases List.mem_cons.mp hr with rfl | hr
    · exact hm.trans (min_le_right _ _)
    · exact hl r hr

theorem OpenFrame.origin_le {o : OpenFrame} {r : Rec} (h : r ∈ o.recs) : o.origin ≤ r.origin :=
  (foldl_min_origin_le o.recs _).2 r h

/-- The frame that the open frame of a stream becomes. -/
def State.closedFrame (s : State) (pid : Nat) (o : OpenFrame) (isLast : Bool) : Frame :=
  { stream := pid, device := s.ifl.dev, recs := o.recs, isLast := isLast
    stalled := stRoute (s.stream pid).desc == 0 && ((s.stream pid).stalled || !s.credit (s.stream pid).desc)
    fseq := s.reg (OUT_STREAM_FSEQ pid), deadline := o.origin + ticksUs (stBound (s.stream pid).desc)
    key0 := match o.recs with | r :: _ => r.key | [] => 0
    lost := (s.stream pid).lost, raw := none }

/-- A stream without an open frame, whose next frame has nothing to report. -/
def Stream.emptied (x : Stream) : Stream := { x with openFr := none, lost := 0, stalled := false }

/-- A stream with one more closed frame, staged at a time. -/
def Stream.staging (x : Stream) (f : Frame) (now : Nat) : Stream :=
  { x with closed := x.closed ++ [f], dry := if x.closed.isEmpty then some now else x.dry }

section
variable {s : State} {pid : Nat} {o : OpenFrame} (ho : (s.stream pid).openFr = some o)
  (hr : stRoute (s.stream pid).desc ≠ 2)
include ho hr

theorem closeFrame_eq (isLast : Bool) : s.closeFrame pid isLast =
    ((s.bump (OUT_STREAM_FSEQ pid)).setStream pid Stream.emptied).setStream pid
      fun y => y.staging (s.closedFrame pid o isLast) (s.bump (OUT_STREAM_FSEQ pid)).time := by
  simp only [State.closeFrame, ho]
  exact if_neg hr

theorem closeFrame_keeps (isLast : Bool) : s.keeps (s.closeFrame pid isLast) [.regs, .out, .pk] := by
  rw [closeFrame_eq ho hr]
  exact .after (setStream_keeps _ _ _) rfl (.after (setStream_keeps _ _ _) rfl (.first (bump_keeps s _) rfl))

theorem reg_closeFrame (isLast : Bool) (a : Nat) :
    (s.closeFrame pid isLast).reg a = (s.bump (OUT_STREAM_FSEQ pid)).reg a := by
  rw [closeFrame_eq ho hr]
  rfl

theorem stream_closeFrame_self (hp : pid < s.out.streams.length) (isLast : Bool) :
    (s.closeFrame pid isLast).stream pid =
      (s.stream pid).emptied.staging (s.closedFrame pid o isLast) (s.bump (OUT_STREAM_FSEQ pid)).time := by
  have hout : (s.bump (OUT_STREAM_FSEQ pid)).out = s.out := bump_keeps s _ .out (by simp)
  rw [closeFrame_eq ho hr, stream_setStream_self _ _ (by simpa [hout] using hp),
    stream_setStream_self _ _ (by simpa [hout] using hp), stream_congr hout]

theorem stream_closeFrame_other {k : Nat} (h : k ≠ pid) (isLast : Bool) :
    (s.closeFrame pid isLast).stream k = s.stream k := by
  rw [closeFrame_eq ho hr, stream_setStream_other _ _ h, stream_setStream_other _ _ h]
  exact stream_congr (bump_keeps s _ .out (by simp)) k
end

theorem execFrameClose_due {s : State} {pid : Fin 64} {o : OpenFrame} (ho : (s.stream pid).openFr = some o)
    (h : s.ended pid = true ∨ o.opened + 1250 * stClose (s.stream pid).desc ≤ s.time) :
    exec (.frameClose pid) s = .next (s.closeFrame pid (s.ended pid)) := by
  show execFrameClose pid s = _
  simp only [execFrameClose, ho]
  cases he : s.ended pid with
  | true => rfl
  | false => exact congrArg Host.Outcome.next (if_pos (h.resolve_left (by simp [he])))

/-- Settles O23: the frame is the one that the open frame becomes, and closing it changes its stream and its number. -/
theorem closedFrameKeepsItsRecords : Obligations.ClosedFrameKeepsItsRecords := by
  intro s pid o ho hp hr hdue
  have hs := stream_closeFrame_self ho hr hp (s.ended pid)
  refine ⟨_, s.closedFrame pid o (s.ended pid), execFrameClose_due ho hdue, by rw [hs]; rfl, rfl, rfl, rfl, rfl, ?_, rfl,
    by rw [hs]; rfl, fun r hm => Nat.add_le_add_right (OpenFrame.origin_le hm) _, Frame.length_bytes_own rfl,
    Frame.field_count_own rfl, by rw [hs]; rfl, fun k hk => stream_closeFrame_other ho hr hk _, fun a ha => ?_,
    closeFrame_keeps ho hr _⟩
  · rw [reg_closeFrame ho hr, reg_bump_self]
  · rw [reg_closeFrame ho hr, reg_bump_other s ha]

end Sys2Proof.Machine

namespace Sys2Proof.Machine

/-! The record builder (10 R263; 15 R378; 17 R424). -/

theorem execRecordBuild_next {s t : State} {pid : Fin 64} {r : Rec} (ht : (s.sources pid).foldl State.drain s = t)
    (h : nextRec (t.stream pid).waiting = some r) : exec (.recordBuild pid) s = .next
      (if t.passed pid r.key = true ∧ t.dramPaused = false ∧ t.rep.switch = none then t.place pid r else t) := by
  show execRecordBuild pid s = _
  simp only [execRecordBuild, ht, h, Bool.and_eq_true, Bool.not_eq_true', Option.isNone_iff_eq_none, and_assoc]

/-! FRAME_TRANSMIT (10 R269, R271 to R273). -/

/-- The port of an Ethernet server. -/
def portOf (v : Fin 5) : Fin 4 := (BitVec.ofNat 2 (v.val - 1)).toFin

/-- What a server does to start an item that has a deadline. -/
def State.startItem (s : State) (v : Fin 5) (deadline : Int) : Outgoing → State
  | .frame f => if v.val = 0 then s.startPcie f
    else ((s.startFrame v f).setFrags v (fragments (s.fragSize (portOf v)) f.bytes)).nextFragment (portOf v)
  | .packet (.udp q mac ip port tag) p => (s.startPacket v (.udp q mac ip port tag) p).sendPacketUdp q mac ip port tag
      ((s.startPacket v (.udp q mac ip port tag) p).replyPort p deadline) p.bytes
  | .packet dest p => s.startPacket v dest p

section
variable {s : State} {v : Fin 5}

theorem execFrameTransmit_held (hv : v.val ≠ 0) (h : s.launchHolds (portOf v) = true) :
    exec (.frameTransmit v) s = .next s := congrArg Host.Outcome.next (if_pos ⟨hv, h⟩)

variable (hfree : v.val = 0 ∨ s.launchHolds (portOf v) = false)
include hfree

theorem not_held_of_free : ¬ (v.val ≠ 0 ∧ s.launchHolds (portOf v) = true) := by
  rintro ⟨hv, hl⟩
  simp [hv, hl] at hfree

theorem execFrameTransmit_carrying (h : (nth s.out.servers v.val none).isSome = true) :
    exec (.frameTransmit v) s = .next (if v.val = 0 then s else s.nextFragment (portOf v)) :=
  congrArg Host.Outcome.next ((if_neg (not_held_of_free hfree)).trans (if_pos h))

variable {b : Bid} (hn : nth s.out.servers v.val none = none) (hb : bestBid (s.bids v.val) = some b)
include hn hb

theorem execFrameTransmit_starts : exec (.frameTransmit v) s = .next (s.startItem v b.deadline b.item) := by
  refine congrArg Host.Outcome.next ((if_neg (not_held_of_free hfree)).trans ((if_neg (by simp [hn])).trans ?_))
  rw [hb]
  cases hi : b.item with
  | frame f => simp only [hi, State.startItem, portOf]
  | packet dest p => cases dest <;> simp only [hi, State.startItem]
end

/-! FRAME_DELIVERED (10 R269, R274). -/

/-- What the delivery of an item by a server does. -/
def State.deliverItem (t : State) (v : Fin 5) : Outgoing → State
  | .frame f => (if v.val = 0 then t.writeFrame f else t).frameDone v f
  | .packet (.ring n) p => t.writeReply n p
  | .packet _ _ => t

section
variable {s : State} {v : Fin 5} {item : Outgoing} (h : nth s.out.servers v.val none = some item)
include h

theorem execFrameDelivered_sending (hf : nth s.out.frags v.val [] ≠ []) : exec (.frameDelivered v) s = .next s := by
  show execFrameDelivered v s = _
  simp only [execFrameDelivered, h]
  exact congrArg Host.Outcome.next (if_pos (by simpa using hf))

theorem execFrameDelivered_all (hf : nth s.out.frags v.val [] = []) : exec (.frameDelivered v) s =
    .next (State.deliverItem { s with out.servers := s.out.servers.set v.val none } v item) := by
  show execFrameDelivered v s = _
  simp only [execFrameDelivered, h]
  refine congrArg Host.Outcome.next ((if_neg (by simp [hf])).trans ?_)
  cases item with
  | frame f => rfl
  | packet dest p => cases dest <;> rfl
end

/-! STREAM_STALL_SUSPEND and DRING_IRQ (10 R269, R270). -/

theorem execStreamStallSuspend_due {s : State} {pid : Fin 64} {q : Prog} {t : Nat} (hq : s.prog pid = some q)
    (ht : (s.stream pid).dry = some t) (hl : q.live = true) (hr : stRoute (s.stream pid).desc = 1)
    (hs : stStall (s.stream pid).desc ≠ 0) (hc : (s.stream pid).closed ≠ [])
    (hd : t + 1250000 * stStall (s.stream pid).desc ≤ s.time) :
    exec (.streamStallSuspend pid) s = .next (s.suspend pid 5) := by
  show execStreamStallSuspend pid s = _
  simp only [execStreamStallSuspend, hq, ht]
  exact congrArg Host.Outcome.next (if_pos ⟨hl, hr, hs, by simpa using hc, hd⟩)

theorem execDringIrq_due {s : State} {n : Fin 16} {r : DataRing} (h : s.out.rings[n.val]? = some r) (hu : r.unsig ≠ 0)
    (hd : s.fld (OUT_DRING_CFG n) 23 16 ≤ r.unsig ∨ r.firstAt + 1250 * s.fld (OUT_DRING_CFG n) 31 24 ≤ s.time) :
    exec (.dringIrq n) s = .next
      { s with out.rings := s.out.rings.set n.val { r with irqs := r.irqs + 1, unsig := 0 } } := by
  show execDringIrq n s = _
  simp only [execDringIrq, h]
  refine congrArg Host.Outcome.next (if_neg ?_)
  rintro (h0 | ⟨hfew, -, hearly⟩)
  · exact hu h0
  · exact hd.elim (not_le.mpr hfew) (not_le.mpr hearly)

/-- Settles O22: each row behind its condition, FRAME_TRANSMIT and FRAME_DELIVERED by the item that they carry. -/
theorem framesAreBuiltAndDelivered : Obligations.FramesAreBuiltAndDelivered := by
  refine ⟨fun s pid r h => execRecordBuild_next rfl h, fun s pid o ho h => execFrameClose_due ho h,
    fun s v => ⟨execFrameTransmit_held, execFrameTransmit_carrying⟩, ?transmit, ?delivered,
    fun s pid q t hq ht hl hr hs hc hd => execStreamStallSuspend_due hq ht hl hr hs hc hd,
    fun s n r h hu hd => execDringIrq_due h hu hd⟩
  case transmit =>
    intro s v b port hfree hn hb
    have hexec := execFrameTransmit_starts hfree hn hb
    refine ⟨fun f hi hv => ?_, fun f hi hv => ?_, fun q mac ip pt tag p hi => ?_, fun n p hi => ?_⟩ <;> rw [hexec, hi]
    · exact congrArg Host.Outcome.next (if_pos hv)
    · exact congrArg Host.Outcome.next (if_neg hv)
    · rfl
    · rfl
  case delivered =>
    intro s v item h t
    refine ⟨execFrameDelivered_sending h, fun hf => ?_⟩
    have hexec := execFrameDelivered_all h hf
    refine ⟨fun f hi => ?_, fun n p hi => ?_, fun q mac ip pt tag p hi => ?_⟩ <;> rw [hexec, hi] <;> rfl

end Sys2Proof.Machine

namespace Sys2Proof.Machine

/-! The packets of family 0x8 behind their checks (12 R299, R304, R305, R313, R315, R316). -/

/-- A cross-stamp image has 64 bytes (12 R314). -/
theorem length_crossImage (s : State) (source : Nat) (t : Int) : (s.crossImage source t).1.length = 64 := by
  simp [State.crossImage]

section
variable {u : State} {o : Origin} {p : Packet}

theorem timeRead_act (h : u.tim.xsPend = none) : let c := u.crossImage 0 u.fineNow
    timeReadOp.act u o p = { st := { c.2 with tim.xsImage := c.1 }, payload := c.1 } := by
  simp only [timeReadOp]
  rw [doneIf_pass (by rw [h]; rfl), doneIf_nil]

theorem crossStamp_act (h : u.tim.xsPend = none) : crossStampOp.act u o p =
    { st := { u with tim.xsPend := some (field p.payload 0 1, o, p.sequence, u.time), tim.xsHit := none }
      status := ACCEPTED } := by
  simp only [crossStampOp]
  rw [doneIf_pass (by rw [h]; rfl), doneIf_nil]

/-- An increment at most so far from the nominal one as the base allows (12 R304). -/
theorem timeIncr_act : let b := field p.payload 0 1
    let v := field p.payload 4 8
    timeIncrOp.act u o p =
      if ((v : Int) - incrNom).natAbs * 1000000 ≤ u.fld (TIM_PTP_CFG b) 23 16 * incrNom then
        { st := u.correct b false v } else (u.latch TIM_STATUS 0x4).refuse JUMP_REFUSED :=
  (if_congr not_le.symm rfl rfl).trans (ite_not _ _ _)

/-- A step at most so large as the base allows (12 R305, R308). -/
theorem timeStep_act : let b := field p.payload 0 1
    let v := fieldInt p.payload 4 8
    let limit := u.regN (TIM_PTP_JUMP b)
    let t := u.setPtp b fun y => { y with stopped := y.stopped && !y.counting }
    timeStepOp.act u o p = if limit = 0xFFFFFFFF ∨ v.natAbs ≤ limit * 2 ^ 32 then
        { st := if v = 0 then t else t.correct b true v } else (u.latch TIM_STATUS 0x4).refuse JUMP_REFUSED := by
  intro b v limit t
  refine Eq.trans (if_congr ?_ rfl rfl) (ite_not _ _ _)
  show limit ≠ 0xFFFFFFFF ∧ limit * 2 ^ 32 < v.natAbs ↔ _
  rw [not_or, not_le]

/-- A launch far enough ahead, and apart from those that wait (12 R316). -/
theorem launchAt_act {port base time : Nat} {q : List LaunchReq} {t : Int} (hport : field p.payload 0 1 = port)
    (hbase : field p.payload 1 1 = base) (htime : field p.payload 4 8 = time) (hq : nth u.tim.launches port [] = q)
    (ht : u.launchIn base time = t) (hup : nth u.out.ethUp port false = true) (hroom : q.length < 8)
    (hfit : base ≠ 0xFF → 20000 * 2 ^ 32 ≤ t ∧ t ≤ 1000000000 * 2 ^ 32 ∧
      ∀ y ∈ q, y.base = 0xFF ∨ u.overlaps port t (p.payload.drop 12) y = false) :
    launchAtOp.act u o p =
      (let y : LaunchReq := { base := base, time := time, frame := p.payload.drop 12, sequence := p.sequence }
       { st := { u with tim.launches := u.tim.launches.set port (q ++ [y]) } }) := by
  subst hport hbase htime hq ht
  simp only [launchAtOp]
  rw [doneIf_pass hup, doneIf_pass ?ahead, doneIf_pass ?apart, doneIf_pass (decide_eq_true hroom), doneIf_nil]
  case ahead =>
    rw [Bool.or_eq_true, beq_iff_eq, Bool.and_eq_true, decide_eq_true_eq, decide_eq_true_eq]
    exact or_iff_not_imp_left.mpr fun hb =>
      let ⟨hnear, hfar, _⟩ := hfit hb
      ⟨hnear, hfar⟩
  case apart =>
    simp only [Bool.or_eq_true, beq_iff_eq, List.all_eq_true, Bool.not_eq_true']
    exact or_iff_not_imp_left.mpr fun hb =>
      let ⟨_, _, hall⟩ := hfit hb
      hall

theorem refSelect_act_same (hr : u.role ≠ 2) (hc : field p.payload 0 1 = u.tim.refCode) :
    refSelectOp.act u o p = { st := u } :=
  (if_neg hr).trans (if_pos hc)

theorem refSelect_act_other {c : Nat} (hr : u.role ≠ 2) (hp : field p.payload 0 1 = c) (hc : c ≠ u.tim.refCode)
    (hlive : u.anyLive = false) (hidle : ∀ y ∈ u.wfd.units, y.st = .idle) : refSelectOp.act u o p =
    { st := State.setWarm { u with tim.onRef := false, tim.refNew := some c } false 1, defer := true } := by
  subst hp
  refine (if_neg hr).trans ((if_neg hc).trans ((doneIf_pass ?live).trans (doneIf_pass ?idle)))
  case live => rw [hlive]; rfl
  case idle => simpa using hidle

end

/-- Settles O29: each packet's effect behind its checks. -/
theorem timeCommandsComplete : Obligations.TimeCommandsComplete := by
  refine ⟨fun s u o r x h hx => ⟨congrArg Host.Outcome.next (serve_answered h (timeRead_act hx)), length_crossImage _ _ _⟩,
    fun s u o r x h => ?incr, fun s u o r x h => ?step,
    fun s u o r x h hx => congrArg Host.Outcome.next (serve_answeredAccepted h (crossStamp_act hx)),
    fun s u o r x h => ?launch, fun s u o r x h hr => ?ref⟩
  case incr =>
    have hexec := congrArg (Host.Outcome.next : State → Res) (serve_answered_or_refused h timeIncr_act)
    exact ⟨fun hle => hexec.trans (congrArg _ (if_pos hle)), fun hlt => hexec.trans (congrArg _ (if_neg (not_le.mpr hlt)))⟩
  case step =>
    have hexec := congrArg (Host.Outcome.next : State → Res) (serve_answered_or_refused h timeStep_act)
    exact ⟨fun hle => hexec.trans (congrArg _ (if_pos hle)),
      fun hne hlt => hexec.trans (congrArg _ (if_neg (not_or.mpr ⟨hne, not_le.mpr hlt⟩)))⟩
  case launch =>
    intro port base time q t hup hroom hfit
    exact congrArg Host.Outcome.next (serve_answered h (launchAt_act rfl rfl rfl rfl rfl hup hroom hfit))
  case ref =>
    exact ⟨fun hc => congrArg Host.Outcome.next (serve_answered h (refSelect_act_same hr hc)),
      fun hc hlive hidle => congrArg Host.Outcome.next (serve_deferring h (refSelect_act_other hr rfl hc hlive hidle))⟩

end Sys2Proof.Machine

namespace Sys2Proof.Machine

/-! The MAC edge of a PTP base that counts, with one correction that waits (12 R304, R306). -/

section
variable {b : PtpBase} {c : PtpCorr}

/-- The base at its next MAC edge: INCR is added modulo 2^64 (12 R304). -/
def PtpBase.advanced (b : PtpBase) : PtpBase := { b with value := (b.value + b.incr) % 2 ^ 64, edge := b.edge + 16 }

theorem PtpBase.edgeStep_counting (h : b.counting = true) : (b.edgeStep (b.edge + 16)).1 = b.advanced :=
  congrArg Prod.fst (if_pos h)

/-- A tick that holds the base's next MAC edge. -/
theorem PtpBase.tick_counting {now : Nat} (h : b.counting = true) (hedge : b.edge + 16 ≤ 5 * now) (shot : Nat) :
    (b.tick now shot).1 = (b.advanced.applyDue ((5 * shot - (5 * now - (b.edge + 16))) / 5)).1 := by
  unfold tick
  rw [if_pos hedge, ← edgeStep_counting h]

theorem PtpBase.applyDue_early (hc : b.corrs = [c]) (hd : c.due b.edge = false) (tick : Nat) :
    (b.applyDue tick).1 = b := by
  simp [applyDue, hc, hd]

/-- A correction at its MAC edge leaves the tick of the edge and what the base was before it. -/
theorem PtpBase.applyDue_due (hc : b.corrs = [c]) (hd : c.due b.edge = true) (h : b.counting = true) (tick : Nat) :
    (b.applyDue tick).1 = { (b.correct c).1 with
      corrs := [], done := some tick, past := ((b.edge, b.value, b.incr, true) :: b.past).take 16 } := by
  simp [applyDue, hc, hd, h]

/-- A step adds modulo 2^64, and leaves INCR (12 R306, R307). -/
theorem PtpBase.correct_step (h : c.isStep = true) :
    (b.correct c).1 = { b with value := (((b.value : Int) + c.value) % 2 ^ 64).toNat } := by
  unfold correct
  rw [if_pos h]
  rfl

theorem PtpBase.correct_incr (h : c.isStep = false) : (b.correct c).1 = { b with incr := c.value.toNat } := by
  unfold correct
  rw [if_neg (by rw [h]; exact Bool.false_ne_true)]

/-- A step at the base's next MAC edge adds to the value that the base takes there. -/
theorem PtpBase.value_correct_advanced (h : c.isStep = true) :
    ((b.advanced.correct c).1.value : Int) = ((b.value : Int) + b.incr + c.value) % 2 ^ 64 := by
  rw [correct_step h]
  simp only [advanced]
  omega

theorem PtpBase.edge_correct : (b.correct c).1.edge = b.edge := by
  unfold correct
  split <;> rfl

theorem PtpBase.incr_correct (h : c.isStep = true) : (b.correct c).1.incr = b.incr := by
  rw [correct_step h]

end

/-! What a tick does to the PTP bases (log entry 1). -/

/-- The time, TB_SHOT and the PTP bases are the same in two states. -/
def State.sameBases (s t : State) : Prop := t.time = s.time ∧ t.tim.shot = s.tim.shot ∧ t.tim.ptp = s.tim.ptp

namespace State.sameBases

theorem refl (s : State) : s.sameBases s := ⟨rfl, rfl, rfl⟩

theorem trans {s t u : State} (h : s.sameBases t) (g : t.sameBases u) : s.sameBases u := by
  obtain ⟨htime, hshot, hptp⟩ := h
  obtain ⟨gtime, gshot, gptp⟩ := g
  exact ⟨gtime.trans htime, gshot.trans hshot, gptp.trans hptp⟩

theorem ite {s t u : State} {c : Prop} [Decidable c] (ht : s.sameBases t) (hu : s.sameBases u) :
    s.sameBases (if c then t else u) := by
  split
  · exact ht
  · exact hu

theorem foldl {α : Type} {f : State → α → State} (hf : ∀ (t : State) x, t.sameBases (f t x)) :
    ∀ (xs : List α) (s : State), s.sameBases (xs.foldl f s)
  | [], s => .refl s
  | x :: xs, s => (hf s x).trans (State.sameBases.foldl hf xs (f s x))

/-- A change of other parts leaves them. -/
theorem of_keeps {s t : State} {l : List Part} (h : s.keeps t l)
    (hl : (!l.contains .time && !l.contains .tim) = true) : s.sameBases t := by
  simp only [Bool.and_eq_true, Bool.not_eq_true', List.contains_eq_mem, decide_eq_false_iff_not] at hl
  have htim : t.tim = s.tim := h .tim hl.2
  exact ⟨h .time hl.1, by rw [htim], by rw [htim]⟩

theorem ptp {s t : State} (h : s.sameBases t) (p : Nat) : t.ptp p = s.ptp p := by
  unfold State.ptp
  rw [h.2.2]

end State.sameBases

/-- A change of the warm-up flag changes of the time bases the flag, the gates counted and the ticks of its losses
(12 R303). -/
theorem setWarm_tim (s : State) (on : Bool) (cause : Nat) : (s.setWarm on cause).tim =
    if s.tim.warm = on then s.tim else { s.tim with
      warm := on
      gates := if on = true then s.tim.gates else 0
      warmLost := if on = true then s.tim.warmLost else (s.tim.shot :: s.tim.warmLost).take 256 } := by
  unfold State.setWarm
  split
  · rfl
  · extract_lets tim u v
    have hv : v.tim = u.tim := event_keeps u _ _ _ _ _ _ .tim (by decide)
    cases on
    · exact (report_keeps (v.latch TIM_STATUS 0x1) _ _ _ _ .tim (by decide)).trans hv
    · exact (endCause_keeps v _ .tim (by decide)).trans hv

theorem setWarm_sameBases (s : State) (on : Bool) (cause : Nat) : s.sameBases (s.setWarm on cause) := by
  refine ⟨setWarm_keeps s on cause .time (by decide), ?_, ?_⟩ <;> rw [setWarm_tim] <;> split <;> rfl

theorem qualifyPin_sameBases (s : State) : s.sameBases s.qualifyPin := by
  unfold State.qualifyPin
  extract_lets was tim u
  have hu : s.sameBases u := ⟨rfl, rfl, rfl⟩
  exact .ite (.refl s) (.ite (hu.trans (setWarm_sameBases _ _ _)) hu)

theorem crossSeen_sameBases (s : State) (source : Nat) (t : Int) : s.sameBases (s.crossSeen source t) := by
  unfold State.crossSeen
  split
  · exact .ite ⟨rfl, rfl, rfl⟩ (.refl s)
  · exact .refl s

theorem ptpWrapped_sameBases (s : State) (p : Nat) (forward : Bool) (edge : Nat) :
    s.sameBases (s.ptpWrapped p forward edge) :=
  .ite (.trans ⟨rfl, rfl, rfl⟩ (crossSeen_sameBases _ _ _)) ⟨rfl, rfl, rfl⟩

theorem serveStamp_sameBases (s : State) (k : Nat) (r b uncal : Bool) (t : Int) (fl : Nat) :
    s.sameBases (s.serveStamp k r b uncal t fl) := by
  unfold State.serveStamp
  extract_lets u v w
  have hv : s.sameBases v := .trans (.of_keeps (eventWaits_keeps s _ _ _) rfl) (.trans
    (.of_keeps (evFireStamp_keeps _ _ _ _ _) rfl) (.trans (.of_keeps (freqStamp_keeps _ _ _ _ _) rfl)
      (crossSeen_sameBases _ _ _)))
  have hw : s.sameBases w := hv.trans (.of_keeps (triggerAll_keeps _ _ _ _) rfl)
  exact .ite (hw.trans (.of_keeps (spread_keeps _ _ _) rfl)) hw

theorem serveEvents_sameBases (k : Nat) : ∀ (fuel : Nat) (s : State), s.sameBases (State.serveEvents k fuel s)
  | 0, s => .refl s
  | fuel + 1, s => by
    unfold State.serveEvents
    extract_lets q
    split
    · exact .ite (.trans (.trans (.of_keeps (setTdc_keeps s _ _) rfl) (serveStamp_sameBases _ _ _ _ _ _ _))
        (serveEvents_sameBases k fuel _)) (.refl s)
    · exact .refl s

theorem eventTick_sameBases (s : State) : s.sameBases s.eventTick :=
  .foldl (fun t _ => .ite (.refl t) (.trans (.of_keeps (merge_keeps t _ _) rfl) (serveEvents_sameBases _ _ _))) _ s

/-- What follows the clocks in a tick leaves the PTP bases. -/
theorem idle_sameBases (s : State) : s.tick.sameBases s.idle :=
  (qualifyPin_sameBases _).trans (.trans (.of_keeps (reportBegun_keeps _) rfl) (.trans (.of_keeps (markUnlit_keeps _) rfl)
    (.trans (.of_keeps (pulseTick_keeps _) rfl) (.trans (.of_keeps (encoderTick_keeps _) rfl)
      (.trans (eventTick_sameBases _) (.trans (.of_keeps (hkTick_keeps _) rfl) (.of_keeps (calTick_keeps _) rfl)))))))

/-- One tick of a PTP base changes this base alone. -/
theorem ptpTick_bases (s : State) (p : Nat) : let t := s.ptpTick p
    t.time = s.time ∧ t.tim.shot = s.tim.shot ∧
      t.tim.ptp = upd s.tim.ptp p fun b => (b.tick s.time s.tim.shot).1 := by
  intro t
  unfold t State.ptpTick
  split
  next hnone =>
    refine ⟨rfl, rfl, (List.modify_eq_self ?_).symm⟩
    exact List.getElem?_eq_none_iff.mp hnone
  next b hb =>
    extract_lets x
    obtain ⟨htime, hshot, hptp⟩ := State.sameBases.foldl (fun t d => ptpWrapped_sameBases t p d
      (edgeStamp s.time s.tim.shot (s.treeShift s.tim.shot) x.1.edge)) x.2 { s with tim.ptp := s.tim.ptp.set p x.1 }
    have hset : upd s.tim.ptp p (fun b => (b.tick s.time s.tim.shot).1) = s.tim.ptp.set p x.1 := by
      unfold upd
      rw [List.modify_eq_set_getElem?, hb]
      rfl
    exact ⟨htime, hshot, hptp.trans hset.symm⟩

/-- Each of the first bases takes its tick, and the others wait for theirs. -/
theorem ptpTicks_bases (s : State) (n : Nat) : let t := (List.range n).foldl State.ptpTick s
    t.time = s.time ∧ t.tim.shot = s.tim.shot ∧ t.tim.ptp.length = s.tim.ptp.length ∧
      ∀ k < s.tim.ptp.length, t.ptp k = if k < n then ((s.ptp k).tick s.time s.tim.shot).1 else s.ptp k := by
  induction n with
  | zero => exact ⟨rfl, rfl, rfl, fun k _ => rfl⟩
  | succ n ih =>
    rw [List.range_succ, List.foldl_append]
    generalize (List.range n).foldl State.ptpTick s = t at ih
    obtain ⟨htime, hshot, hlen, hbase⟩ := ih
    obtain ⟨gtime, gshot, gptp⟩ := ptpTick_bases t n
    refine ⟨gtime.trans htime, gshot.trans hshot, (congrArg List.length gptp).trans ((length_upd _ _ _).trans hlen),
      fun k hk => ?_⟩
    have hval : (t.ptpTick n).ptp k = nth (upd t.tim.ptp n fun b => (b.tick t.time t.tim.shot).1) k _ :=
      congrArg (nth · k _) gptp
    refine hval.trans ?_
    by_cases h : k = n
    · subst h
      rw [nth_upd_self _ _ _ _ (hlen ▸ hk), if_pos k.lt_succ_self, htime, hshot]
      exact congrArg (fun b : PtpBase => (b.tick s.time s.tim.shot).1) ((hbase k hk).trans (if_neg k.lt_irrefl))
    · rw [nth_upd_other _ _ _ h]
      refine (hbase k hk).trans (if_congr ?_ rfl rfl)
      omega

/-- A PTP base after one tick: it takes the MAC edge that the tick holds. -/
theorem tick_ptp (s : State) {p : Nat} (hp : p < 4) (h : p < s.tim.ptp.length) :
    s.tick.ptp p = ((s.ptp p).tick s.tick.time s.tick.tim.shot).1 := by
  unfold State.tick
  extract_lets alive shot sys5 now wraps tim u v w
  have hw : u.sameBases w := .ite (.trans (.ite (.of_keeps (noteWrap_keeps u _ _ _ _) rfl) (.refl u))
    (.of_keeps (superframe_keeps _) rfl)) (.ite (.of_keeps (noteWrap_keeps u _ _ _ _) rfl) (.refl u))
  obtain ⟨htime, hshot, -, hbase⟩ := ptpTicks_bases w 4
  have hptp : w.tim.ptp = s.tim.ptp := hw.2.2
  have hval := (hbase p (hptp ▸ h)).trans (if_pos hp)
  rw [htime, hshot]
  rw [show w.ptp p = s.ptp p from hw.ptp p] at hval
  exact hval

theorem idle_ptp (s : State) {p : Nat} (hp : p < 4) (h : p < s.tim.ptp.length) :
    s.idle.ptp p = ((s.ptp p).tick s.idle.time s.idle.tim.shot).1 := by
  have hi := idle_sameBases s
  have ⟨htime, hshot, _⟩ := hi
  rw [hi.ptp, htime, hshot]
  exact tick_ptp s hp h

/-! The wraps of a PTP base (12 R307). -/

/-- The oldest wrap of a base leaves the list, and WRAPS moves with it. -/
def State.countWrap (s : State) (p : Nat) (forward : Bool) (w : Nat × Bool × Nat) : State :=
  let t := { s with tim.ptpWraps := s.tim.ptpWraps.erase w }
  let a := TIM_PTP_WRAPS p
  let v := if forward then s.regN a + 1 else s.regN a + (2 ^ 32 - 1)
  let wraps := if forward then decide (2 ^ 32 ≤ v) else s.regN a == 0
  let u := t.setRegN a v
  if wraps then u.noteWrap 9 0 a 32 else u

section
variable (s : State) (p : Fin 4) (forward : Bool) (w : Nat × Bool × Nat)

theorem countWrap_regs : (s.countWrap p forward w).regs =
    (s.setRegN (TIM_PTP_WRAPS p)
      (if forward then s.regN (TIM_PTP_WRAPS p) + 1 else s.regN (TIM_PTP_WRAPS p) + (2 ^ 32 - 1))).regs := by
  unfold State.countWrap
  extract_lets tim t a v wraps u
  rw [apply_ite State.regs]
  exact ite_self _

theorem countWrap_reg : (s.countWrap p forward w).reg (TIM_PTP_WRAPS p) =
    if forward = true then s.reg (TIM_PTP_WRAPS p) + 1 else s.reg (TIM_PTP_WRAPS p) - 1 := by
  rw [reg_congr (countWrap_regs s p forward w), reg_setRegN_self]
  unfold State.regN
  cases forward
  · simp only [Bool.false_eq_true, if_false]
    bv_omega
  · simp only [if_true]
    bv_omega

theorem countWrap_ptpWraps : (s.countWrap p forward w).tim.ptpWraps = s.tim.ptpWraps.erase w := by
  unfold State.countWrap
  extract_lets tim t a v wraps u
  split <;> rfl

theorem countWrap_keeps : s.keeps (s.countWrap p forward w) [.regs, .tim, .pk] := by
  unfold State.countWrap
  extract_lets tim t a v wraps u
  have hu : s.keeps u [.regs, .tim, .pk] := .after (setRegN_keeps t _ _) rfl (.first (keeps_tim s _) rfl)
  exact .ite (.after (noteWrap_keeps u _ _ _ _) rfl hu) hu

theorem countWrap_keepsRegs : s.keepsRegs (s.countWrap p forward w) [TIM_PTP_WRAPS p] :=
  .trans (setReg_keepsRegs s _ _) (keepsRegs_of_regs (countWrap_regs s p forward w) _)

variable {s p forward w}

theorem execPtpWrap_found (h : s.tim.ptpWraps.find? (fun w => w.1 == p.val && w.2.1 == forward) = some w) :
    let u := s.countWrap p forward w
    exec (.ptpWrap p forward) s = .next (u.event OK 7 9 (leBytes 1 p ++ [if forward = true then 0x01 else 0xFF] ++
      [0, 0] ++ leBytes 4 (u.regN (TIM_PTP_WRAPS p)) ++ leBytes 8 (w.2.2 % 2 ^ 59))) := by
  intro u
  show execPtpWrap p forward s = _
  unfold execPtpWrap
  rw [h]
  rfl

end

theorem execCounterWrap_next {s : State} {w : Wrap} {rest : List Wrap} (h : s.pk.wraps = w :: rest) :
    exec .counterWrap s = .next (State.event { s with pk.wraps := rest } OK 8 w.unit.toNat
      ([w.window] ++ [0, 0, 0] ++ leBytes 8 w.offset ++ leBytes 1 w.width ++ [0, 0, 0]) none (some w.at_)) := by
  show execCounterWrap s = _
  unfold execCounterWrap
  rw [h]

/-! The corrections' record, PTP datagrams and launches (12 R306, R311, R317). -/

theorem execPtpCorrectionEffect_done {s : State} {p : Fin 4} {tick : Nat} (h : (s.ptp p).done = some tick) :
    exec (.ptpCorrectionEffect p) s = .next (((s.setPtp p fun b => { b with done := none }).setRegN (TIM_PTP_CORR_LO p)
      (tick % 2 ^ 48 % 2 ^ 32)).setRegN (TIM_PTP_CORR_HI p) (tick % 2 ^ 48 / 2 ^ 32)) := by
  show execPtpCorrectionEffect p s = _
  unfold execPtpCorrectionEffect
  rw [h]

theorem execPtpCorrectionEffect_none {s : State} {p : Fin 4} (h : (s.ptp p).done = none) :
    exec (.ptpCorrectionEffect p) s = .next s := by
  show execPtpCorrectionEffect p s = _
  unfold execPtpCorrectionEffect
  rw [h]

theorem execPtpIngress_up {s : State} {p : Fin 4} {port : Half} (hup : nth s.out.ethUp p false = true)
    (hport : port = 319 ∨ port = 320) (payload : List Byte) (tEvt tEdge : Quad) : let z := s.ptpPoint p true tEvt tEdge
    exec (.ptpIngress p port payload tEvt tEdge) s = .next (if bit (s.regN (TIM_PTP_CFG p)) 1 = true then
      s.ptpLog p 1 payload.length 0 0 z.1 z.2 payload else s.bump (OUT_ETH_RXDROP p)) := by
  intro z
  have hpass : ¬(¬ nth s.out.ethUp p false = true ∨ (port ≠ 319 ∧ port ≠ 320)) := by
    rw [hup]
    tauto
  exact congrArg Host.Outcome.next ((if_neg hpass).trans (ite_not _ _ _))

/-- A frame that leaves by a launch leaves its port's queue, and latches LAUNCH_LATE where it is late. -/
def State.launched (s : State) (p : Fin 4) (x : LaunchReq) (late : Bool) : State :=
  let t := { s with tim.launches := upd s.tim.launches p fun (q : List LaunchReq) => q.erase x
                    out.direct := s.out.direct ++ [(p, x.frame)] }
  if late then t.latch TIM_STATUS 0x2 else t

section
variable (s : State) (p : Fin 4) (x : LaunchReq) (late : Bool)

theorem launched_direct : (s.launched p x late).out.direct = s.out.direct ++ [(p, x.frame)] := by
  cases late <;> rfl

theorem launched_launches : (s.launched p x late).tim.launches = upd s.tim.launches p fun q => q.erase x := by
  cases late <;> rfl

theorem launched_late : bit ((s.launched p x true).regN TIM_STATUS) 1 = true :=
  bit_latch_self _ TIM_STATUS (by decide) (by decide)

variable {s p x}

/-- The one launch that waits on a port, when it is due. -/
theorem execLaunch_due (hq : nth s.tim.launches p [] = [x]) (hdue : s.launchIn x.base x.time ≤ 0)
    (hup : nth s.out.ethUp p false = true) (tEvt tEdge : Quad) : let z := s.ptpPoint p false tEvt tEdge
    let late := decide (s.blockTime p < State.leftAfter x.base x.time z.1 z.2)
    exec (.launch p tEvt tEdge) s = .next ((s.launched p x late).ptpLog p 2 x.frame.length x.sequence.toNat
      (2 * b2n late) z.1 z.2 x.frame) := by
  intro z late
  show execLaunch p tEvt tEdge s = _
  have hfirst : [x].filter (fun x => decide (s.launchIn x.base x.time ≤ 0)) = [x] :=
    List.filter_cons_of_pos (decide_eq_true hdue)
  unfold execLaunch
  simp only [hq, hfirst, List.foldl_cons, List.foldl_nil, hup, not_true_eq_false, if_false]
  rfl

end

/-- Settles O30: a correction by the base's next MAC edge, which the tick holds, and each command's effect. -/
theorem ptpBasesCorrectAndWrap : Obligations.PtpBasesCorrectAndWrap := by
  refine ⟨?correction, fun s p tick h => execPtpCorrectionEffect_done h, fun s p h => execPtpCorrectionEffect_none h,
    fun s p forward w h => ⟨s.countWrap p forward w, execPtpWrap_found h, countWrap_reg s p forward w,
      countWrap_ptpWraps s p forward w, countWrap_keepsRegs s p forward w, countWrap_keeps s p forward w⟩,
    fun s w rest h => execCounterWrap_next h, fun s p port payload tEvt tEdge hup hport =>
      execPtpIngress_up hup hport payload tEvt tEdge, ?launch⟩
  case correction =>
    intro s p c b hpending hlen hc hcount hedge
    have hstep : step s = .next s.idle := by simp only [step, hpending]
    have hptp := idle_ptp s p.isLt (hlen.symm ▸ p.isLt)
    rw [PtpBase.tick_counting hcount (by rw [idle_time]; exact hedge)] at hptp
    have hadv : (s.ptp p).advanced.corrs = [c] := hc
    cases hd : c.due (s.ptp p).advanced.edge with
    | false =>
      have ht := hptp.trans (PtpBase.applyDue_early hadv hd _)
      have hearly : ¬10 * c.at_ + 625 ≤ 2 * (b.edge + 16) := of_decide_eq_false hd
      exact ⟨s.idle, hstep, by rw [ht]; rfl, fun _ => by rw [ht]; exact ⟨hc, rfl, rfl⟩, fun hdue => absurd hdue hearly⟩
    | true =>
      have ht := hptp.trans (PtpBase.applyDue_due hadv hd hcount _)
      have hdue : 10 * c.at_ + 625 ≤ 2 * (b.edge + 16) := of_decide_eq_true hd
      refine ⟨s.idle, hstep, ?_, fun hearly => absurd hearly (not_lt.mpr hdue), fun _ => ?_⟩ <;> rw [ht]
      · exact PtpBase.edge_correct
      · exact ⟨rfl, fun hs => ⟨PtpBase.value_correct_advanced hs, PtpBase.incr_correct hs⟩,
          fun hi => by rw [PtpBase.correct_incr hi]; exact ⟨rfl, rfl⟩, rfl⟩
  case launch =>
    intro s p x tEvt tEdge hq hdue hup
    refine ⟨_, _, execLaunch_due hq hdue hup tEvt tEdge, launched_direct _ _ _ _, fun hp => ?_, ?_⟩
    · rw [launched_launches, nth_upd_self _ _ _ _ hp, hq]
      exact List.erase_cons_head x []
    · generalize decide (s.blockTime p < _) = late
      cases late
      · exact ⟨.inl rfl, fun _ => rfl, fun h => absurd h (by decide)⟩
      · exact ⟨.inr rfl, fun h => absurd h (by decide), fun _ => launched_late _ _ _⟩

end Sys2Proof.Machine

namespace Sys2Proof.Machine

/-! What the end of a warm-up gate does (12 R301, R302). -/

theorem setWarm_keepsRegs (s : State) (on : Bool) (cause : Nat) :
    s.keepsRegs (s.setWarm on cause) [GLB_EVT_SEQ, TIM_STATUS, REP_INC_DROP, REP_STATUS] := by
  unfold State.setWarm
  extract_lets tim u v
  have hv : s.keepsRegs v [GLB_EVT_SEQ, TIM_STATUS, REP_INC_DROP, REP_STATUS] :=
    ((keeps_tim s _).toRegs (by decide) _).trans ((event_keepsRegs u _ _ _ _ _ _).mono (by simp))
  exact .ite (.refl s _) (.ite (hv.trans ((endCause_keepsRegs v _).mono (by simp)))
    (hv.trans (((latch_keepsRegs v _ _).mono (by simp)).trans ((report_keepsRegs _ _ _ _ _).mono (by simp)))))

theorem setWarm_warm (s : State) (on : Bool) (cause : Nat) : (s.setWarm on cause).tim.warm = on := by
  rw [setWarm_tim]
  split
  · assumption
  · rfl

/-- What a gate's end has entered: the offset, the time, whether the gate passed, and the gates passed in a row. -/
def State.sameGate (s t : State) : Prop :=
  t.tim.gateAt = s.tim.gateAt ∧ t.tim.prevY = s.tim.prevY ∧ t.tim.gateOk = s.tim.gateOk ∧ t.tim.gates = s.tim.gates ∧
    t.reg TIM_REF_OFFSET = s.reg TIM_REF_OFFSET

/-- A change of the warm-up flag leaves it, but for the gates in a row where the flag clears. -/
theorem setWarm_sameGate {s : State} {on : Bool} (h : on = false → s.tim.gates = 0) (cause : Nat) :
    s.sameGate (s.setWarm on cause) := by
  have hreg := setWarm_keepsRegs s on cause TIM_REF_OFFSET (by decide)
  have hgates : (if on = true then s.tim.gates else 0) = s.tim.gates := by
    cases on
    · exact (h rfl).symm
    · rfl
  have htim := setWarm_tim s on cause
  rw [hgates] at htim
  split at htim <;> exact ⟨by rw [htim], by rw [htim], by rw [htim], by rw [htim], hreg⟩

/-- A gate's offset is near enough to that of the gate before it; the first gate has none (12 R302). -/
def State.gateDrift (s : State) (y : Int) : Bool :=
  match s.tim.prevY with
  | some z => decide ((y - z).natAbs ≤ bits (s.regN TIM_WARM_CFG) 23 8 * 100)
  | none => false

/-- A gate's offset is small enough, or not limited (12 R302). -/
def State.gateSmall (s : State) (y : Int) : Bool :=
  bits (s.regN TIM_WARM_CFG) 7 4 == 0 || decide (y.natAbs ≤ bits (s.regN TIM_WARM_CFG) 7 4 * 1000000)

theorem gateDrift_iff {s : State} {y : Int} : s.gateDrift y = true ↔
    ∃ z, s.tim.prevY = some z ∧ (y - z).natAbs ≤ bits (s.regN TIM_WARM_CFG) 23 8 * 100 := by
  unfold State.gateDrift
  cases s.tim.prevY <;> simp

theorem gateSmall_iff {s : State} {y : Int} : s.gateSmall y = true ↔
    bits (s.regN TIM_WARM_CFG) 7 4 = 0 ∨ y.natAbs ≤ bits (s.regN TIM_WARM_CFG) 7 4 * 1000000 := by
  simp [State.gateSmall]

/-- The reference has held since a time, and so has the pin where it counts, under a configuration (12 R302). -/
def State.warmHeld (s : State) (cfg since : Nat) : Bool :=
  s.tim.onRef && decide (s.tim.refAt ≤ since) && (!bit cfg 1 || (s.pinActive && decide (s.tim.pinOkAt ≤ since)))

theorem pinActive_iff {s : State} :
    s.pinActive = true ↔ ∃ l, s.tim.pinLevel = some l ∧ l ≠ bit (s.regN TIM_WARM_CFG) 2 := by
  simp [State.pinActive, Option.any_eq_true]

theorem warmHeld_iff {s : State} {since : Nat} : s.warmHeld (s.regN TIM_WARM_CFG) since = true ↔
    s.tim.onRef = true ∧ s.tim.refAt ≤ since ∧ (bit (s.regN TIM_WARM_CFG) 1 = true →
      (∃ l, s.tim.pinLevel = some l ∧ l ≠ bit (s.regN TIM_WARM_CFG) 2) ∧ s.tim.pinOkAt ≤ since) := by
  rw [← pinActive_iff]
  simp only [State.warmHeld, Bool.and_eq_true, Bool.or_eq_true, Bool.not_eq_true', decide_eq_true_eq, and_assoc]
  cases bit (s.regN TIM_WARM_CFG) 1 <;> simp

/-- What the end of a gate with an offset enters, before the flag (12 R301). -/
def State.gateEnds (s : State) (stamps : List Quad) (y : Int) (pass : Bool) : State :=
  let t := if stamps.length < 2 then { s with drawn := s.drawn + 1 } else s
  let u := t.setRegN TIM_REF_OFFSET (enc 32 (clampInt (-2147483648) 2147483647 y))
  { u with tim.gateAt := u.time, tim.prevY := some y, tim.gateOk := pass, tim.gates := if pass then u.tim.gates + 1 else 0 }

/-- What the flag becomes at the end of a gate (12 R302). -/
def State.gateFlag (s : State) (cfg : Nat) (drift pass : Bool) : State :=
  if bit cfg 3 && !pass then s.setWarm false (if drift then 4 else 3)
  else if s.warmHeld cfg (s.time - ticksS (bits cfg 31 24)) && (!bit cfg 3 || decide (bits cfg 31 24 ≤ s.tim.gates)) then
    s.setWarm true 0
  else s

theorem execWarmupGate_due {s : State} {y : Int} {drift pass : Bool} (stamps : List Quad)
    (hdue : s.tim.gateAt + 1250000000 ≤ s.time) (hx : s.tim.xsys = true) (hr : s.role ≠ 2)
    (hy : gateOffset s.drawn stamps = y) (hdrift : s.gateDrift y = drift) (hpass : (drift && s.gateSmall y) = pass) :
    exec (.warmupGate stamps) s = .next ((s.gateEnds stamps y pass).gateFlag (s.regN TIM_WARM_CFG) drift pass) := by
  have hgo : ¬(s.time < s.tim.gateAt + ticksS 1 ∨ ¬s.tim.xsys = true ∨ s.role = 2) := by
    rintro (hearly | hlost | hworker)
    · exact not_lt.mpr hdue hearly
    · exact hlost hx
    · exact hr hworker
  subst hpass hdrift hy
  show execWarmupGate stamps s = _
  unfold execWarmupGate State.gateEnds
  rw [if_neg hgo]
  by_cases h : stamps.length < 2
  · simp only [if_pos h]
    rfl
  · simp only [if_neg h]
    rfl

theorem execWarmupGate_held {s : State} (stamps : List Quad)
    (h : s.time < s.tim.gateAt + 1250000000 ∨ s.tim.xsys = false ∨ s.role = 2) :
    exec (.warmupGate stamps) s = .next s :=
  congrArg Host.Outcome.next (if_pos (h.imp_right (Or.imp_left fun hx => by rw [hx]; exact Bool.false_ne_true)))

section
variable (s : State) (stamps : List Quad) (y : Int) (pass : Bool)

theorem gateEnds_time : (s.gateEnds stamps y pass).time = s.time := by
  unfold State.gateEnds
  split <;> rfl

theorem gateEnds_tim : (s.gateEnds stamps y pass).tim = { s.tim with
    gateAt := s.time, prevY := some y, gateOk := pass, gates := if pass then s.tim.gates + 1 else 0 } := by
  unfold State.gateEnds
  by_cases h : stamps.length < 2
  · rw [if_pos h]
    rfl
  · rw [if_neg h]
    rfl

theorem gateEnds_regs : (s.gateEnds stamps y pass).regs =
    (s.setRegN TIM_REF_OFFSET (enc 32 (clampInt (-2147483648) 2147483647 y))).regs := by
  unfold State.gateEnds
  by_cases h : stamps.length < 2
  · rw [if_pos h]
    rfl
  · rw [if_neg h]

theorem gateEnds_warmHeld (cfg since : Nat) :
    (s.gateEnds stamps y pass).warmHeld cfg since = s.warmHeld cfg since := by
  have hreg : (s.gateEnds stamps y pass).regN TIM_WARM_CFG = s.regN TIM_WARM_CFG :=
    congrArg BitVec.toNat ((reg_congr (gateEnds_regs s stamps y pass) _).trans (reg_setRegN_other s _ (by decide)))
  simp only [State.warmHeld, State.pinActive, hreg, gateEnds_tim]

end

/-- The flag after a gate: clear where the gate failed and gates count, set where reference, pin and gates have held
long enough, and else as it was. -/
theorem gateFlag_spec {s : State} {pass : Bool} (h : pass = false → s.tim.gates = 0) (cfg : Nat) (drift : Bool) :
    s.sameGate (s.gateFlag cfg drift pass) ∧ (s.gateFlag cfg drift pass).tim.warm =
      if bit cfg 3 && !pass then false
      else if s.warmHeld cfg (s.time - ticksS (bits cfg 31 24)) && (!bit cfg 3 || decide (bits cfg 31 24 ≤ s.tim.gates)) then
        true
      else s.tim.warm := by
  unfold State.gateFlag
  split
  next hfail =>
    rw [Bool.and_eq_true, Bool.not_eq_true'] at hfail
    exact ⟨setWarm_sameGate (fun _ => h hfail.2) _, setWarm_warm _ _ _⟩
  next =>
    split
    · exact ⟨setWarm_sameGate (fun hf => absurd hf (by decide)) _, setWarm_warm _ _ _⟩
    · exact ⟨⟨rfl, rfl, rfl, rfl, rfl⟩, rfl⟩

/-- What a due gate leaves: its time, its offset, whether it passed, the gates in a row, and the flag (12 R301, R302). -/
theorem gate_spec {s t : State} {stamps : List Quad} {y : Int} {drift pass : Bool} {cfg : Nat}
    (ht : (s.gateEnds stamps y pass).gateFlag cfg drift pass = t) :
    t.tim.gateAt = s.time ∧ t.tim.prevY = some y ∧ t.tim.gateOk = pass ∧
      t.tim.gates = (if pass = true then s.tim.gates + 1 else 0) ∧
      t.reg TIM_REF_OFFSET = BitVec.ofNat 32 (enc 32 (clampInt (-2147483648) 2147483647 y)) ∧
      t.tim.warm =
        if bit cfg 3 && !pass then false
        else if s.warmHeld cfg (s.time - ticksS (bits cfg 31 24)) &&
            (!bit cfg 3 || decide (bits cfg 31 24 ≤ if pass = true then s.tim.gates + 1 else 0)) then true
        else s.tim.warm := by
  subst ht
  have htim := gateEnds_tim s stamps y pass
  have hnone (hp : pass = false) : (s.gateEnds stamps y pass).tim.gates = 0 := by
    rw [htim, hp]
    rfl
  obtain ⟨⟨hat, hprev, hok, hgates, hreg⟩, hwarm⟩ := gateFlag_spec hnone cfg drift
  rw [gateEnds_warmHeld, gateEnds_time, htim] at hwarm
  rw [htim] at hat hprev hok hgates
  exact ⟨hat, hprev, hok, hgates, hreg.trans ((reg_congr (gateEnds_regs s stamps y pass) _).trans (reg_setRegN_self ..)),
    hwarm⟩

/-! The reference and cross-stamps (12 R299, R313, R315). -/

section
variable {s : State}

theorem execRefLock_locked {c : Nat} (h : s.tim.refNew = some c) : exec (.refLock true) s = .next (State.finishDeferred
    { s with tim.refNew := none, tim.refCode := c, tim.onRef := s.tim.refin, tim.refAt := s.time } OK) := by
  show execRefLock true s = _
  unfold execRefLock
  rw [h]
  rfl

/-- A REF_SELECT fails once 20 ms have passed without a lock, and waits until then. -/
theorem execRefLock_failed {c : Nat} {d : Deferred} (h : s.tim.refNew = some c) (hd : s.pk.deferred = some d) :
    exec (.refLock false) s = .next (if s.time < d.since + ticksMs 20 then s
      else State.finishDeferred { s with tim.refNew := none } STATE) := by
  show execRefLock false s = _
  simp only [execRefLock, h, hd, Bool.false_eq_true, if_false]

theorem execRefLock_found (h : s.tim.refNew = none) (hin : s.tim.refin = true) (hon : s.tim.onRef = false)
    (hphase : s.boot.phase ≠ .hardware) (hr : s.role ≠ 2) :
    exec (.refLock true) s = .next { s with tim.onRef := true, tim.refAt := s.time } := by
  show execRefLock true s = _
  unfold execRefLock
  rw [h]
  refine congrArg Host.Outcome.next (if_pos ?_)
  simp [hin, hon, hphase, hr]

theorem execCrossStampEvent_seen {rising : Bool} {stamp : Stamp} {source since : Nat} {o : Origin} {q : Half} {t : Int}
    (h : s.tim.xsPend = some (source, o, q, since)) (ht : s.crossTime source since rising stamp = some t) :
    let z := s.crossImage source t
    exec (.crossStampEvent ⟨rising, stamp⟩) s =
      .next (State.complete { z.2 with tim.xsImage := z.1, tim.xsPend := none, tim.xsHit := none } (o, q) OK 9) := by
  intro z
  show execCrossStampEvent ⟨rising, stamp⟩ s = _
  simp only [execCrossStampEvent, h, ht]
  rfl

theorem execCrossStampTimeout_pending {source since : Nat} {o : Origin} {q : Half}
    (h : s.tim.xsPend = some (source, o, q, since)) : exec .crossStampTimeout s =
      .next (if s.time < since + 12500000000 then s else
        State.complete { s with tim.xsPend := none, tim.xsHit := none } (o, q) STATE 9) := by
  show execCrossStampTimeout s = _
  simp only [execCrossStampTimeout, h]
  rfl

end

/-- Settles O31: a gate by what it enters and what becomes of the flag, and the other rows behind their conditions. -/
theorem referenceAndCrossStampsComplete : Obligations.ReferenceAndCrossStampsComplete := by
  refine ⟨fun s level => rfl, fun s stamps h => execWarmupGate_held stamps h, ?gate,
    fun s c h => ⟨execRefLock_locked h, fun d hd hlate => ?late, fun d hd hearly => ?early⟩,
    fun s h hin hon hphase hr => execRefLock_found h hin hon hphase hr,
    fun s rising stamp source o q since t h ht => execCrossStampEvent_seen h ht,
    fun s source o q since h => execCrossStampTimeout_pending h⟩
  case late => exact (execRefLock_failed h hd).trans (congrArg _ (if_neg (not_lt.mpr hlate)))
  case early => exact (execRefLock_failed h hd).trans (congrArg _ (if_pos hearly))
  case gate =>
    intro s stamps hdue hx hr cfg y drift offset held
    have hpass : (s.gateDrift y && s.gateSmall y) = true ↔ drift ∧ offset := by
      rw [Bool.and_eq_true, gateDrift_iff, gateSmall_iff]
    have hheld : s.warmHeld cfg (s.time - ticksS (bits cfg 31 24)) = true ↔ held (bits cfg 31 24) := warmHeld_iff
    have hexec := execWarmupGate_due stamps hdue hx hr rfl rfl rfl
    obtain ⟨hat, hprev, hok, hgates, hreg, hwarm⟩ := gate_spec rfl
    refine ⟨_, hexec, hat, hprev, hreg, by rw [hok]; exact hpass, fun hp => hgates.trans (if_pos (hpass.mpr hp)),
      fun hf => hgates.trans (if_neg (hpass.not.mpr hf)), fun hcount hf => ?fails, fun hh hg => ?sets, fun hoff hon => ?set⟩
    case fails =>
      rw [hwarm, if_pos]
      exact (Bool.and_eq_true _ _).mpr ⟨hcount, (Bool.not_eq_true' _).mpr (Bool.eq_false_iff.mpr (hpass.not.mpr hf))⟩
    case sets =>
      have hflag : (s.warmHeld cfg (s.time - ticksS (bits cfg 31 24)) && (!bit cfg 3 ||
          decide (bits cfg 31 24 ≤ if (s.gateDrift y && s.gateSmall y) = true then s.tim.gates + 1 else 0))) = true := by
        rw [hheld.mpr hh, Bool.true_and, Bool.or_eq_true, Bool.not_eq_true', decide_eq_true_eq, or_iff_not_imp_left,
          Bool.not_eq_false]
        intro hcount
        obtain ⟨hdrift, hsmall, hrow⟩ := hg hcount
        rwa [if_pos (hpass.mpr ⟨hdrift, hsmall⟩)]
      have hpassed : ¬(bit cfg 3 && !(s.gateDrift y && s.gateSmall y)) = true := by
        rw [Bool.and_eq_true, Bool.not_eq_true']
        rintro ⟨hcount, hfail⟩
        obtain ⟨hdrift, hsmall, -⟩ := hg hcount
        exact Bool.false_ne_true (hfail.symm.trans (hpass.mpr ⟨hdrift, hsmall⟩))
      rw [hwarm, if_neg hpassed, if_pos hflag]
    case set =>
      rw [hwarm] at hon
      by_contra hh
      rw [Bool.eq_false_iff.mpr (hheld.not.mpr hh), Bool.false_and, hoff, if_neg Bool.false_ne_true, ite_self] at hon
      exact Bool.false_ne_true hon

end Sys2Proof.Machine

namespace Sys2Proof.Machine

/-! Conversion paths and results (13 R321, R329). -/

section
variable (s : State) {i k c : Nat}

theorem hkPath_setHkPath_self (f : HkPath → HkPath) (h : i < s.hka.paths.length) :
    (s.setHkPath i f).hkPath i = f (s.hkPath i) := nth_upd_self _ _ _ _ h

theorem hkPath_setHkPath_other (f : HkPath → HkPath) (h : k ≠ i) : (s.setHkPath i f).hkPath k = s.hkPath k :=
  nth_upd_other _ _ _ h

theorem setHkPath_setHkPath (f g : HkPath → HkPath) : (s.setHkPath i f).setHkPath i g = s.setHkPath i (g ∘ f) :=
  congrArg (fun l => { s with hka.paths := l }) (List.modify_modify_eq f g i s.hka.paths)

theorem setHkPath_id : s.setHkPath i id = s :=
  congrArg (fun l => { s with hka.paths := l }) (List.modify_id i s.hka.paths)

theorem hkPath_congr {s t : State} (h : t.hka.paths = s.hka.paths) (k : Nat) : t.hkPath k = s.hkPath k := by
  simp only [State.hkPath, h]

/-- A path that runs a step or has a slice is there. -/
theorem lt_of_hkStep {s : State} (h : (s.hkPath i).step.isSome = true) : i < s.hka.paths.length := by
  by_contra hi
  simp [State.hkPath, nth, List.getElem?_eq_none (not_lt.mp hi)] at h

theorem lt_of_hkSlice {s : State} (h : (s.hkPath i).slice.isSome = true) : i < s.hka.paths.length := by
  by_contra hi
  simp [State.hkPath, nth, List.getElem?_eq_none (not_lt.mp hi)] at h

/-- The results where one of them has been replaced. -/
theorem hkRes_of_upd {s t : State} {f : HkResult → HkResult} (h : t.hka.results = upd s.hka.results c f)
    (hc : c < s.hka.results.length) : t.hkRes c = f (s.hkRes c) ∧ ∀ k, k ≠ c → t.hkRes k = s.hkRes k := by
  simp only [State.hkRes, h]
  exact ⟨nth_upd_self _ _ _ _ hc, fun k hk => nth_upd_other _ _ _ hk⟩
end

/-! The start of steps (13 R337). -/

theorem hkFreePath_spec {s : State} {i : Nat} (h : s.hkFreePath = some i) :
    (s.hkPath i).step = none ∧ i < s.hka.paths.length := by
  unfold State.hkFreePath at h
  extract_lets free at h
  have hfree (k : Nat) (hk : free k = true) : (s.hkPath k).step = none ∧ k < s.hka.paths.length := by
    obtain ⟨hstep, hslice⟩ := (Bool.and_eq_true _ _).mp hk
    exact ⟨Option.isNone_iff_eq_none.mp hstep, lt_of_hkSlice hslice⟩
  split at h
  next h0 =>
    rw [← Option.some.inj h]
    exact hfree 0 ((Bool.and_eq_true _ _).mp h0).1
  next =>
    split at h
    next h1 =>
      rw [← Option.some.inj h]
      exact hfree 1 h1
    next => cases h

/-- What the start of one step on a free path keeps, the start of a list keeps. -/
theorem hkStart_induct {P : State → Prop} {inj : Bool}
    (hset : ∀ (t : State) i (r : HkRun), t.hkFreePath = some i → P t →
      P (t.setHkPath i fun p => { p with step := some r })) :
    ∀ (l : List HkStep) (s : State), P s → P (s.hkStart inj l).1
  | [], _, h => h
  | x :: rest, s, h => by
    unfold State.hkStart
    extract_lets r r'
    split
    · exact hkStart_induct hset rest s h
    split
    · exact h
    next i hi =>
      extract_lets clash
      split
      · exact h
      · exact hkStart_induct hset rest _ (hset s i r' hi h)

theorem hkStart_hka (s : State) (inj : Bool) (l : List HkStep) :
    (s.hkStart inj l).1.hka = { s.hka with paths := (s.hkStart inj l).1.hka.paths } :=
  hkStart_induct (P := fun t => t.hka = { s.hka with paths := t.hka.paths })
    (fun t i r _ h => by simp only [State.setHkPath]; rw [h]) l s rfl

/-- A step in progress stays while others start. -/
theorem hkStart_step {s : State} {i : Nat} {x : HkRun} (inj : Bool) (l : List HkStep) (h : (s.hkPath i).step = some x) :
    ((s.hkStart inj l).1.hkPath i).step = some x := by
  refine hkStart_induct (P := fun t => (t.hkPath i).step = some x) (fun t k r hk ht => ?_) l s h
  have hne : i ≠ k := by
    rintro rfl
    exact Option.some_ne_none x (ht.symm.trans (hkFreePath_spec hk).1)
  rwa [hkPath_setHkPath_other t _ hne]

theorem hkNone_of_step {s : State} {i : Nat} {x : HkRun} (h : (s.hkPath i).step = some x) :
    s.hkNone x.injected = false := by
  have hi : i < s.hka.paths.length := lt_of_hkStep (by rw [h]; rfl)
  have hx : s.hka.paths[i].step = some x := by
    rw [← h, State.hkPath, nth, List.getD_eq_getElem _ _ hi]
  exact List.all_eq_false.mpr ⟨_, List.getElem_mem hi, by simp [hx]⟩

/-- After the start of a list whose first step may run, a step of the run waits or is in progress. -/
theorem hkStart_busy {s : State} {x : HkStep} (h : s.hkOdd x.code = false) (inj : Bool) (rest : List HkStep) :
    (s.hkStart inj (x :: rest)).2 ≠ [] ∨ (s.hkStart inj (x :: rest)).1.hkNone inj = false := by
  unfold State.hkStart
  extract_lets r r'
  have hinj : r'.injected = inj := by unfold r'; split <;> rfl
  rw [if_neg (ne_true_of_eq_false h)]
  split
  · exact .inl (List.cons_ne_nil _ _)
  next i hi =>
    extract_lets clash
    split
    · exact .inl (List.cons_ne_nil _ _)
    · have hstep : ((s.setHkPath i fun p => { p with step := some r' }).hkPath i).step = some r' := by
        rw [hkPath_setHkPath_self s _ (hkFreePath_spec hi).2]
      have hnone := hkNone_of_step (hkStart_step inj rest hstep)
      exact .inr (hinj ▸ hnone)

theorem hkAdvance_injects {s : State} (h : s.hka.injRun = true) : s.hkAdvance =
    { (s.hkStart true s.hka.injTodo).1 with hka.injTodo := (s.hkStart true s.hka.injTodo).2 } := if_pos h

theorem hkAdvance_cycles {s : State} (h : s.hka.injRun = false) (hc : s.hka.inCycle = true) : s.hkAdvance =
    { (s.hkStart false s.hka.todo).1 with hka.todo := (s.hkStart false s.hka.todo).2 } :=
  (if_neg (ne_true_of_eq_false h)).trans (if_pos hc)

theorem hkAdvance_idle {s : State} (h : s.hka.injRun = false) (hc : s.hka.inCycle = false) : s.hkAdvance = s :=
  (if_neg (ne_true_of_eq_false h)).trans (if_neg (ne_true_of_eq_false hc))

/-- The converter but for its paths and the steps of its runs that wait. -/
def House.bare (h : House) : House := { h with paths := [], todo := [], injTodo := [] }

/-- The start of steps changes their paths and the lists that wait. -/
theorem hkAdvance_bare (s : State) : s.hkAdvance.hka.bare = s.hka.bare := by
  have hstart (inj : Bool) (l : List HkStep) : (s.hkStart inj l).1.hka.bare = s.hka.bare := by
    rw [hkStart_hka]
    rfl
  cases h : s.hka.injRun with
  | true =>
    rw [hkAdvance_injects h]
    exact hstart true s.hka.injTodo
  | false =>
    cases hc : s.hka.inCycle with
    | true =>
      rw [hkAdvance_cycles h hc]
      exact hstart false s.hka.todo
    | false => rw [hkAdvance_idle h hc]

/-- A cycle whose first step may run goes on: a step of it waits, or one is in progress. -/
theorem hkAdvance_busy {s : State} {x : HkStep} {rest : List HkStep} (ht : s.hka.todo = x :: rest)
    (hc : s.hka.inCycle = true) (h : s.hkOdd x.code = false) :
    s.hkAdvance.hka.todo ≠ [] ∨ s.hkAdvance.hkNone false = false := by
  cases hr : s.hka.injRun with
  | true =>
    have htodo : (s.hkStart true s.hka.injTodo).1.hka.todo = s.hka.todo := by rw [hkStart_hka]
    rw [hkAdvance_injects hr]
    exact .inl (htodo.trans ht ▸ List.cons_ne_nil x rest)
  | false =>
    rw [hkAdvance_cycles hr hc, ht]
    exact hkStart_busy h false rest

end Sys2Proof.Machine

namespace Sys2Proof.Machine

/-! Cycles (13 R336, R338). -/

/-- The state in which the steps of a new cycle start. -/
def State.hkCycleBegun (s : State) : State :=
  let seq := s.hka.newReg.getD s.hka.regular
  let period := ticksUs (s.fld HKA_SEQ_CFG 31 16)
  { s.bump HKA_CYCLES with hka := { s.hka with
      regular := seq, newReg := none, todo := seq, inCycle := !seq.isEmpty
      cycleAt := if period = 0 then s.time else s.hka.cycleAt + period * ((s.time - s.hka.cycleAt) / period + 1) } }

theorem hkCycle_eq (s : State) : s.hkCycle = { s.hkCycleBegun.hkAdvance with
    hka.inCycle := s.hkCycleBegun.hkAdvance.hka.inCycle &&
      !(s.hkCycleBegun.hkAdvance.hka.todo.isEmpty && s.hkCycleBegun.hkAdvance.hkNone false) } := by
  have hb := bump_keeps s HKA_CYCLES
  have hcfg : (s.bump HKA_CYCLES).fld HKA_SEQ_CFG 31 16 = s.fld HKA_SEQ_CFG 31 16 :=
    congrArg (fun v => bits (BitVec.toNat v) 31 16) (reg_bump_other s (by decide))
  have htime : (s.bump HKA_CYCLES).time = s.time := hb .time (by simp)
  have hhka : (s.bump HKA_CYCLES).hka = s.hka := hb .hka (by simp)
  unfold State.hkCycle State.hkCycleBegun
  simp only [hcfg, htime, hhka]

theorem hkCycle_bare (s : State) :
    { s.hkCycle.hka.bare with inCycle := false } = { s.hkCycleBegun.hka.bare with inCycle := false } := by
  rw [hkCycle_eq, ← hkAdvance_bare s.hkCycleBegun]
  rfl

theorem hkOdd_hkCycleBegun (s : State) (c : Nat) : s.hkCycleBegun.hkOdd c = s.hkOdd c := by
  have hcfg : s.hkCycleBegun.reg (HKA_IN_CFG (c - 1)) = s.reg (HKA_IN_CFG (c - 1)) :=
    reg_bump_other s (by show 0xA0040 + 4 * (c - 1) ≠ 0xA0018; omega)
  simp only [State.hkOdd, State.regN, hcfg]

theorem hkCycle_keepsRegs (s : State) : s.keepsRegs s.hkCycle [HKA_CYCLES] := by
  rw [hkCycle_eq]
  exact .trans (u := s.hkCycleBegun.hkAdvance) (bump_keepsRegs s HKA_CYCLES)
    ((hkAdvance_keeps s.hkCycleBegun).toRegs (by simp) _)

theorem reg_hkCycle (s : State) : s.hkCycle.reg HKA_CYCLES = s.reg HKA_CYCLES + 1 := by
  rw [hkCycle_eq]
  exact (reg_congr (hkAdvance_keeps s.hkCycleBegun .regs (by simp)) _).trans (reg_bump_self s _)

/-- A cycle whose first step may run is in progress behind its start. -/
theorem hkCycle_inCycle {s : State} (h : s.hka.newReg.getD s.hka.regular ≠ [])
    (ho : ∀ x ∈ s.hka.newReg.getD s.hka.regular, s.hkOdd x.code = false) : s.hkCycle.hka.inCycle = true := by
  obtain ⟨x, rest, hseq⟩ := List.exists_cons_of_ne_nil h
  have hin : s.hkCycleBegun.hka.inCycle = true := by
    show (!(s.hka.newReg.getD s.hka.regular).isEmpty) = true
    rw [hseq]
    rfl
  have hbusy := hkAdvance_busy (s := s.hkCycleBegun) hseq hin
    ((hkOdd_hkCycleBegun s _).trans (ho x (hseq ▸ List.mem_cons_self)))
  have hstays : s.hkCycleBegun.hkAdvance.hka.inCycle = true :=
    (congrArg House.inCycle (hkAdvance_bare s.hkCycleBegun) :).trans hin
  have hgoes : (s.hkCycleBegun.hkAdvance.hka.todo.isEmpty && s.hkCycleBegun.hkAdvance.hkNone false) = false := by
    rw [Bool.and_eq_false_iff, List.isEmpty_eq_false_iff]
    exact hbusy
  rw [hkCycle_eq]
  show (_ && _) = true
  rw [hstays, hgoes]
  rfl

/-- A cycle in progress has a step. -/
theorem ne_nil_of_hkCycle {s : State} (h : s.hkCycle.hka.inCycle = true) : s.hka.newReg.getD s.hka.regular ≠ [] := by
  rw [hkCycle_eq] at h
  have hin : s.hkCycleBegun.hka.inCycle = true :=
    (congrArg House.inCycle (hkAdvance_bare s.hkCycleBegun) :).symm.trans ((Bool.and_eq_true _ _).mp h).1
  intro hnil
  have hout : s.hkCycleBegun.hka.inCycle = false := by
    show (!(s.hka.newReg.getD s.hka.regular).isEmpty) = false
    rw [hnil]
    rfl
  exact Bool.false_ne_true (hout.symm.trans hin)

/-- The instant of the next cycle: the first of the grid past now. -/
theorem hkCycleBegun_cycleAt {s : State} (hp : s.fld HKA_SEQ_CFG 31 16 ≠ 0) (hd : s.hka.cycleAt ≤ s.time) :
    s.time < s.hkCycleBegun.hka.cycleAt ∧
      s.hkCycleBegun.hka.cycleAt ≤ s.time + 1250 * s.fld HKA_SEQ_CFG 31 16 := by
  have hpos : 0 < ticksUs (s.fld HKA_SEQ_CFG 31 16) := by unfold ticksUs; omega
  have hat : s.hkCycleBegun.hka.cycleAt = s.hka.cycleAt + ticksUs (s.fld HKA_SEQ_CFG 31 16) *
      ((s.time - s.hka.cycleAt) / ticksUs (s.fld HKA_SEQ_CFG 31 16) + 1) := if_neg hpos.ne'
  rw [hat]
  change _ ∧ _ ≤ s.time + ticksUs (s.fld HKA_SEQ_CFG 31 16)
  generalize ticksUs (s.fld HKA_SEQ_CFG 31 16) = period at hpos
  have hdiv := Nat.div_add_mod (s.time - s.hka.cycleAt) period
  have hmod := Nat.mod_lt (s.time - s.hka.cycleAt) hpos
  rw [Nat.mul_add_one]
  omega

/-! A slice takes a path (13 R340; 17 R426). -/

theorem hka_of_repairs {s t : State} (h : s.repairs t) : t.hka = s.hka := h.1 .hka (by simp [repairParts])

/-- The command under which the slice of a path leaves it. -/
def State.hkCommanded (s : State) (i : Nat) : Option Migration :=
  (s.hkPath i).slice.bind fun j => s.rep.migs.find? fun m => m.kind == 3 && m.failed == j && m.commanded

/-- A path that a slice has taken. -/
def HkPath.served (k : Nat) (p : HkPath) : HkPath := { p with slice := some k, next := none }

/-- A slice has taken a path as the end of a rotation step: the path's former slice is the spare. -/
def State.hkRotated (s : State) (i k : Nat) : State :=
  { s.setHkPath i (HkPath.served k) with
    hka.spare := (s.hkPath i).slice, hka.rotPath := 1 - i, hka.rotStage := 0, hka.retried := false }

/-- A slice has taken a path whose slice is released under a command. -/
def State.hkReleased (s : State) (i k : Nat) (m : Migration) : State :=
  { s.setHkPath i (HkPath.served k) with
    hka.spare := none, hka.rotStage := 0, hka.retried := false, rep.released := s.rep.released ++ [(3, m.failed)] }

section
variable {s : State} {i : Nat}

theorem hkSwitch_rotates (h : s.hkCommanded i = none) (k : Nat) : s.hkSwitch i k = s.hkRotated i k := by
  unfold State.hkSwitch
  extract_lets old u
  split
  next m hm => exact absurd (hm.symm.trans h) (Option.some_ne_none m)
  next => rfl

theorem hkSwitch_releases {m : Migration} (h : s.hkCommanded i = some m) (k : Nat) :
    s.hkSwitch i k = ((s.hkReleased i k m).mapAdd 3 4 m.failed k).migDone m 0 m.failed k := by
  unfold State.hkSwitch
  extract_lets old u
  split
  next m' hm =>
    obtain rfl : m = m' := Option.some.inj (h.symm.trans hm)
    rfl
  next hn => exact absurd (h.symm.trans hn) (Option.some_ne_none m)
end

/-! What the start and the end of steps, cycles and boundaries leave (13 R336, R345). -/

/-- The results, the injected list and the one that waits. -/
def State.hkLists (s : State) : List HkResult × List HkStep × Option (List HkStep) :=
  (s.hka.results, s.hka.injected, s.hka.newInj)

theorem hkLists_of_hka {s t : State} (h : t.hka = s.hka) : t.hkLists = s.hkLists :=
  congrArg (fun y : House => (y.results, y.injected, y.newInj)) h

theorem hkLists_of_keeps {s t : State} {l : List Part} (h : s.keeps t l) (hl : Part.hka ∉ l) : t.hkLists = s.hkLists :=
  hkLists_of_hka (h .hka hl)

theorem hkLists_foldl {α : Type} {f : State → α → State} (hf : ∀ (t : State) x, (f t x).hkLists = t.hkLists) :
    ∀ (xs : List α) (s : State), (xs.foldl f s).hkLists = s.hkLists
  | [], _ => rfl
  | x :: xs, s => (hkLists_foldl hf xs (f s x)).trans (hf s x)

section
variable (s : State)

theorem hkSwitch_hkLists (i k : Nat) : (s.hkSwitch i k).hkLists = s.hkLists := by
  cases h : s.hkCommanded i with
  | none => rw [hkSwitch_rotates h]; rfl
  | some m =>
    have hleft : (s.hkReleased i k m).hkLists = s.hkLists := rfl
    rw [hkSwitch_releases h]
    exact (hkLists_of_hka (hka_of_repairs ((mapAdd_repairs _ _ _ _ _).trans (migDone_repairs _ _ _ _ _)))).trans hleft

theorem hkBoundary_hkLists (i : Nat) : (s.hkBoundary i).hkLists = s.hkLists := by
  unfold State.hkBoundary
  extract_lets p u
  have hu : u.hkLists = s.hkLists := by unfold u; split <;> rfl
  split
  · exact (hkSwitch_hkLists u _ _).trans hu
  · split
    · exact hu
    · exact hu
  · exact hu

theorem hkLeave_hkLists (i : Nat) (x : HkRun) : (s.hkLeave i x).hkLists = s.hkLists := by
  unfold State.hkLeave
  extract_lets u hka v
  have hv : v.hkLists = s.hkLists := by unfold v; split <;> rfl
  exact (hkBoundary_hkLists v i).trans hv

theorem hkAdvance_hkLists : s.hkAdvance.hkLists = s.hkLists :=
  (congrArg (fun y : House => (y.results, y.injected, y.newInj)) (hkAdvance_bare s) :)

theorem hkCycle_hkLists : s.hkCycle.hkLists = s.hkLists :=
  (congrArg (fun y : House => (y.results, y.injected, y.newInj)) (hkCycle_bare s) :)

theorem hkNext_hkLists : s.hkNext.hkLists = s.hkLists := by
  unfold State.hkNext
  extract_lets a u v b w period
  have hu : u.hkLists = s.hkLists := by unfold u; split <;> rfl
  have hv : v.hkLists = s.hkLists := (hkAdvance_hkLists u).trans hu
  have hw : w.hkLists = s.hkLists := hv
  split
  · split
    · split
      · exact (hkCycle_hkLists w).trans hw
      · split
        · exact (hkCycle_hkLists _).trans hw
        · exact hw
    · exact hw
  · exact hv
end

/-! Triggers and what publishes them (13 R339). -/

theorem hkTrigger_busy {s : State} (h : s.hka.injRun = true) :
    s.hkTrigger = (s.bump HKA_INJ_MISSED).latch HKA_STATUS 0x10 := if_pos h

/-- A trigger takes the injected list that waits, and leaves the results. -/
theorem hkTrigger_hkLists {s : State} (h : s.hka.injRun = false) :
    s.hkTrigger.hkLists = (s.hka.results, s.hka.newInj.getD s.hka.injected, none) := by
  unfold State.hkTrigger
  rw [if_neg (ne_true_of_eq_false h)]
  extract_lets old again u seq
  have hu : u.hkLists = s.hkLists := hkLists_foldl (f := fun t (x : Nat × HkRun) => t.hkLeave x.1 x.2)
    (fun t x => hkLeave_hkLists t x.1 x.2) old s
  obtain ⟨hresults, hinjected, hnew⟩ : u.hka.results = s.hka.results ∧ u.hka.injected = s.hka.injected ∧
      u.hka.newInj = s.hka.newInj := by simpa only [State.hkLists, Prod.mk.injEq] using hu
  refine (hkNext_hkLists _).trans ((hkAdvance_hkLists _).trans ?_)
  show (u.hka.results, seq, none) = _
  unfold seq
  rw [hresults, hinjected, hnew]

theorem hkTrigger_results (s : State) : s.hkTrigger.hka.results = s.hka.results := by
  cases h : s.hka.injRun with
  | true =>
    rw [hkTrigger_busy h]
    exact congrArg House.results (bump_keeps s HKA_INJ_MISSED .hka (by simp))
  | false => exact (congrArg Prod.fst (hkTrigger_hkLists h) :)

theorem groupShutdown_keeps (s : State) (g : Nat) : s.keeps (s.groupShutdown g) statusParts :=
  .ite (.refl s _) (.after (openEvent_keeps _ _ _ _) rfl (.after (report_keeps _ _ _ _ _) rfl
    (.first (latch_keeps s _ _) rfl)))

theorem hkPublished_results (s : State) (c : Nat) (injected : Bool) :
    (s.hkPublished c injected).hka.results = s.hka.results := by
  unfold State.hkPublished
  extract_lets r u out
  have hu : s.keeps u statusParts := .foldl (fun t g => .ite (groupShutdown_keeps t g) (.refl t _)) _ s
  have hres : u.hka.results = s.hka.results := congrArg House.results (hu .hka (by simp [statusParts]))
  split
  · exact (hkTrigger_results u).trans hres
  · exact hres

/-- A published result stands, whatever it sets off. -/
theorem hkPublished_hkNext_results (s : State) (c : Nat) (injected : Bool) :
    (s.hkPublished c injected).hkNext.hka.results = s.hka.results :=
  (congrArg Prod.fst (hkNext_hkLists _) :).trans (hkPublished_results s c injected)

/-! The commands of cycles and of GO (13 R336, R338, R339). -/

theorem execHkCycleStart_due {s : State} (hon : s.hkOn = true) (hr : bit (s.regN HKA_SEQ_CFG) 0 = true)
    (hc : s.hka.inCycle = false) (hd : s.hka.cycleAt ≤ s.time) : exec .hkCycleStart s = .next s.hkCycle :=
  congrArg Host.Outcome.next (if_pos ⟨hon, hr, ne_true_of_eq_false hc, hd⟩)

theorem execHkCycleStart_not {s : State} (h : s.hkOn = false ∨ bit (s.regN HKA_SEQ_CFG) 0 = false ∨
    s.hka.inCycle = true ∨ s.time < s.hka.cycleAt) : exec .hkCycleStart s = .next s := by
  refine congrArg Host.Outcome.next (if_neg ?_)
  rintro ⟨hon, hr, hc, hd⟩
  rcases h with h | h | h | h
  · exact ne_true_of_eq_false h hon
  · exact ne_true_of_eq_false h hr
  · exact hc h
  · exact absurd hd (not_le.mpr h)

section
variable {s : State}

theorem execGo_off (h : s.fld HKA_INJ_CFG 31 30 ≠ 0) : exec .go s = .next s := congrArg Host.Outcome.next (if_pos h)

theorem execGo_waits (h : s.fld HKA_INJ_CFG 31 30 = 0) (hon : s.hkOn = false) :
    exec .go s = .next { s with hka.goPend := true } :=
  congrArg Host.Outcome.next ((if_neg (not_not_intro h)).trans (if_neg (ne_true_of_eq_false hon)))

theorem execGo_triggers (h : s.fld HKA_INJ_CFG 31 30 = 0) (hon : s.hkOn = true) : exec .go s = .next s.hkTrigger :=
  congrArg Host.Outcome.next ((if_neg (not_not_intro h)).trans (if_pos hon))
end

/-- The cycle that a due HK_CYCLE_START begins. -/
theorem hkCycle_spec (s : State) (hd : s.hka.cycleAt ≤ s.time) : let seq := s.hka.newReg.getD s.hka.regular
    s.hkCycle.hka.regular = seq ∧ s.hkCycle.hka.newReg = none ∧ s.hkCycle.hka.results = s.hka.results ∧
      (s.fld HKA_SEQ_CFG 31 16 ≠ 0 → s.time < s.hkCycle.hka.cycleAt ∧
        s.hkCycle.hka.cycleAt ≤ s.time + 1250 * s.fld HKA_SEQ_CFG 31 16) := by
  have hbare := hkCycle_bare s
  have hat : s.hkCycle.hka.cycleAt = s.hkCycleBegun.hka.cycleAt := (congrArg House.cycleAt hbare :)
  refine ⟨(congrArg House.regular hbare :), (congrArg House.newReg hbare :), (congrArg House.results hbare :),
    fun hp => ?_⟩
  rw [hat]
  exact hkCycleBegun_cycleAt hp hd

end Sys2Proof.Machine

namespace Sys2Proof.Machine

/-! The boundary between two steps of a path (13 R340; 14 R363). -/

/-- What a boundary brings into force leaves a path's slice and its step. -/
theorem hkBoundary_next {s : State} {i k : Nat} (h : (s.hkPath i).next = some k) :
    ∃ f : HkPath → HkPath, (∀ q, (f q).slice = q.slice ∧ (f q).step = q.step) ∧
      s.hkBoundary i = (s.setHkPath i f).hkSwitch i k := by
  unfold State.hkBoundary
  extract_lets p u
  have hu : ∃ f : HkPath → HkPath, (∀ q, (f q).slice = q.slice ∧ (f q).step = q.step) ∧ u = s.setHkPath i f := by
    unfold u
    split
    · exact ⟨fun q => { q with fresh := false, common := slice s.appliedSet CAL_HREF 4 }, fun _ => ⟨rfl, rfl⟩, rfl⟩
    · exact ⟨id, fun _ => ⟨rfl, rfl⟩, (setHkPath_id s).symm⟩
  obtain ⟨f, hf, hu⟩ := hu
  refine ⟨f, hf, ?_⟩
  split
  next k' hk =>
    obtain rfl : k = k' := Option.some.inj (h.symm.trans hk)
    rw [hu]
  next hn _ => exact absurd (h.symm.trans hn) (Option.some_ne_none k)
  next hn _ => exact absurd (h.symm.trans hn) (Option.some_ne_none k)

section
variable {s : State} {j p : Nat}

/-- On an idle path a slice takes its place at once. -/
theorem hkTake_idle (hp : p < s.hka.paths.length) (h : (s.hkPath p).step = none) :
    ∃ f : HkPath → HkPath, (∀ q, (f q).slice = q.slice ∧ (f q).step = q.step) ∧
      s.hkTake j p = (s.setHkPath p f).hkSwitch p j := by
  have hpath := hkPath_setHkPath_self s (fun q => { q with next := some j }) hp
  obtain ⟨f, hf, hb⟩ := hkBoundary_next (s := s.setHkPath p fun q => { q with next := some j }) (i := p) (k := j)
    (by rw [hpath])
  refine ⟨f ∘ fun q => { q with next := some j }, fun q => hf { q with next := some j }, ?_⟩
  unfold State.hkTake
  rw [if_pos (by rw [hpath, h]; rfl), hb, setHkPath_setHkPath]

/-- While a step runs, the slice waits for the path's next boundary. -/
theorem hkTake_busy (h : (s.hkPath p).step.isSome = true) :
    s.hkTake j p = s.setHkPath p fun q => { q with next := some j } := by
  refine if_neg ?_
  rw [hkPath_setHkPath_self s _ (lt_of_hkStep h)]
  simpa using Option.isSome_iff_ne_none.mp h
end

/-! HK_ROTATION_STEP (13 R340). -/

/-- The paths wait for no slice, and rotation is on, with a spare. -/
theorem execHkRotationStep_on {s : State} {j : Nat} (hj : s.hka.spare = some j) (hd : s.hkStopped = false)
    (hon : s.hkOn = true) (hn : s.hka.paths.any (fun p => p.next.isSome) = false) (shadow : List Int)
    (trims : List Byte) : exec (.hkRotationStep shadow trims) s = .next (
      if s.hka.rotStage = 1 then
        { s with hka.trims := upd s.hka.trims j fun _ => slice trims 0 16, hka.rotStage := 2, hka.shadowed := 0 }
      else if s.hka.rotStage = 2 then
        if s.hka.shadowed < 64 then s
        else if -2000 ≤ nth shadow 0 0 ∧ nth shadow 0 0 ≤ 2000 ∧ -10 ≤ nth shadow 1 0 ∧ nth shadow 1 0 ≤ 10 then
          { s with hka.rotStage := 3 }.hkTake j s.hka.rotPath
        else s.hkShadowFailed j
      else if s.time < s.hka.rotAt + 1250000 * s.fld HKA_ROT_CFG 7 0 then s
      else { s with hka.rotStage := 1, hka.rotAt := s.time }) := by
  have hrun : ¬(s.hkStopped = true ∨ ¬ s.hkOn = true ∨ s.hka.paths.any (fun p => p.next.isSome) = true) := by
    simp only [hd, hon, hn]
    decide
  show execHkRotationStep shadow trims s = _
  simp only [execHkRotationStep, hj, if_neg hrun, Bool.and_eq_true, decide_eq_true_eq, and_assoc]
  rfl

theorem execHkRotationStep_off {s : State} (h : s.hka.spare = none ∨ s.hkStopped = true ∨ s.hkOn = false ∨
    s.hka.paths.any (fun p => p.next.isSome) = true) (shadow : List Int) (trims : List Byte) :
    exec (.hkRotationStep shadow trims) s = .next s := by
  show execHkRotationStep shadow trims s = _
  unfold execHkRotationStep
  split
  · rfl
  next j hj =>
    have hoff := h.resolve_left (hj ▸ Option.some_ne_none j)
    exact congrArg Host.Outcome.next (if_pos (hoff.imp_right (Or.imp_left ne_true_of_eq_false)))

/-- A shadow that has passed on an idle path: the spare takes it, and its slice becomes the spare. -/
theorem hkTake_rotates {s : State} {j p : Nat} (hp : p < s.hka.paths.length) (h : (s.hkPath p).step = none)
    (hm : ∀ m ∈ s.rep.migs, m.kind = 3 → m.commanded = false) : let t := s.hkTake j p
    (t.hkPath p).slice = some j ∧ t.hka.spare = (s.hkPath p).slice ∧ t.hka.rotPath = 1 - p ∧ t.hka.retried = false ∧
      t.hka.rotStage = 0 ∧ (∀ k, k ≠ p → t.hkPath k = s.hkPath k) ∧ s.keeps t [.hka] := by
  intro t
  obtain ⟨f, hf, ht⟩ := hkTake_idle (j := j) hp h
  have hnone : (s.setHkPath p f).hkCommanded p = none := by
    refine Option.bind_eq_none_iff.mpr fun i _ => List.find?_eq_none.mpr fun m hmem hkind => ?_
    simp only [Bool.and_eq_true, beq_iff_eq] at hkind
    exact ne_true_of_eq_false (hm m hmem hkind.1.1) hkind.2
  have hrot : t = (s.setHkPath p f).hkRotated p j := ht.trans (hkSwitch_rotates hnone j)
  have hpaths : t.hka.paths = (s.setHkPath p (HkPath.served j ∘ f)).hka.paths := by
    rw [hrot, ← setHkPath_setHkPath]
    rfl
  refine ⟨?_, ?_, by rw [hrot]; rfl, by rw [hrot]; rfl, by rw [hrot]; rfl, fun k hk => ?_, ?_⟩
  · rw [hkPath_congr hpaths, hkPath_setHkPath_self s _ hp]
    rfl
  · rw [hrot]
    show ((s.setHkPath p f).hkPath p).slice = _
    rw [hkPath_setHkPath_self s f hp, (hf _).1]
  · rw [hkPath_congr hpaths, hkPath_setHkPath_other s _ hk]
  · rw [hrot]
    exact keeps_hka s _

/-- A second failed comparison: the spare is gone, rotation stops, and the map enters the failure. -/
theorem hkShadowFailed_again {s : State} {j : Nat} (h : s.hka.retried = true) : let t := s.hkShadowFailed j
    t.hka.spare = none ∧ t.hka.rotDead = true ∧ t.hka.paths = s.hka.paths ∧ t.rep.hkaFail = s.rep.hkaFail ++ [j] ∧
      ∃ e ∈ t.rep.map, e.kind = 3 ∧ e.failed = j := by
  intro t
  have hspare : (s.spareFails 3 j).hka = s.hka := hka_of_repairs (spareFails_repairs s 3 j)
  have hfails : (s.spareFails 3 j).rep.hkaFail = s.rep.hkaFail := by rw [(spareFails_spec s 3 j).1]
  generalize hu : ({ (s.spareFails 3 j).latch HKA_STATUS 0x100 with
    hka.spare := none, hka.retried := false, hka.rotDead := true, hka.rotStage := 0
    rep.hkaFail := (s.spareFails 3 j).rep.hkaFail ++ [j] } : State) = u
  have ht : t = ((u.report (causeKey 5 1 j) 0xA j false).mapAdd 3 2 j noSpare).mapMade 5 j [1] := by
    rw [← hu]
    exact if_neg (not_not_intro h)
  have hhka : t.hka = u.hka := by
    rw [ht]
    exact hka_of_repairs (((report_repairs u _ _ _ _).trans (mapAdd_repairs _ _ _ _ _)).trans (mapMade_repairs _ _ _ _))
  obtain ⟨hbare, e, he, hkind, hfailed, -⟩ := mapAdd_spec (u.report (causeKey 5 1 j) 0xA j false) 3 2 j noSpare
  have hmade := mapMade_bare ((u.report (causeKey 5 1 j) 0xA j false).mapAdd 3 2 j noSpare) 5 j [1]
  rw [← ht] at hmade
  refine ⟨by rw [hhka, ← hu], by rw [hhka, ← hu], ?_, ?_, e, ?_, hkind, hfailed⟩
  · rw [hhka, ← hu]
    exact (congrArg House.paths hspare :)
  · have hfail : t.rep.hkaFail = u.rep.hkaFail :=
      (congrArg Repair.hkaFail (hmade.trans (hbare.trans (by rw [report_bare]))) :)
    rw [hfail, ← hu]
    exact congrArg (· ++ [j]) hfails
  · exact (congrArg Repair.map hmade :) ▸ he

end Sys2Proof.Machine

namespace Sys2Proof.Machine

/-! HK_SLICE_MIGRATION (13 R340; 17 R417, R419, R426). -/

/-- The migration of a slice of the converter: the one that waits for it, or one that its fault makes now. -/
def State.hkSliceMig (s : State) (j : Nat) : Migration × State :=
  match s.rep.migs.find? fun m => m.kind == 3 && m.failed == j with
  | some m => (m, s)
  | none => s.faultMig 3 j

theorem hkSliceMig_waits {s : State} {j : Nat} {m : Migration}
    (h : s.rep.migs.find? (fun m => m.kind == 3 && m.failed == j) = some m) : s.hkSliceMig j = (m, s) := by
  rw [State.hkSliceMig, h]

/-- Unless a command's migration waits for the slice, its own is a fault's. -/
theorem hkSliceMig_fault {s : State} {j : Nat}
    (h : ∀ m, s.rep.migs.find? (fun m => m.kind == 3 && m.failed == j) = some m → m.commanded = false) :
    (s.hkSliceMig j).1.commanded = false ∧ s.keeps (s.hkSliceMig j).2 [.drawn] := by
  unfold State.hkSliceMig
  split
  next m hm => exact ⟨h m hm, .refl s _⟩
  next => exact ⟨rfl, draw_keeps s 81⟩

section
variable {s : State} {j : Fin 3} {p : Nat}

theorem execHkSliceMigration_out
    (h : (∀ i, i < 2 → (s.hkPath i).slice ≠ some j.val) ∨ s.rep.hkaFail.contains j.val = true) :
    exec (.hkSliceMigration j) s = .next s := by
  show execHkSliceMigration j s = _
  unfold execHkSliceMigration
  split
  · rfl
  next p hp =>
    have hserves : (s.hkPath p).slice = some j.val := by simpa using List.find?_some hp
    have hlt : p < 2 := List.mem_range.mp (List.mem_of_find?_eq_some hp)
    exact congrArg Host.Outcome.next (if_pos (h.resolve_left fun hn => hn p hlt hserves))

/-- A slice of a path leaves it under a command: the spare takes the path at its next boundary. -/
def State.hkLeaves (s : State) (j p : Nat) (m : Migration) : State :=
  if s.hka.paths.any (fun q => q.next.isSome) then s
  else match s.hka.spare with
    | none => s.migDone m 3 j 0x3FF
    | some k => s.hkTake k p

theorem execHkSliceMigration_in (hp : (List.range 2).find? (fun i => (s.hkPath i).slice == some j.val) = some p)
    (hf : s.rep.hkaFail.contains j.val = false) : exec (.hkSliceMigration j) s = .next (
      let x := s.hkSliceMig j
      if ¬ x.1.commanded then x.2.hkReplace j p x.1 else x.2.hkLeaves j p x.1) := by
  show execHkSliceMigration j s = _
  simp only [execHkSliceMigration, hp, if_neg (ne_true_of_eq_false hf)]
  rfl
end

section
variable {s : State} {j p : Nat} {m : Migration}

theorem hkLeaves_held (h : s.hka.paths.any (fun q => q.next.isSome) = true) : s.hkLeaves j p m = s := if_pos h

variable (hn : s.hka.paths.any (fun q => q.next.isSome) = false)
include hn

theorem hkLeaves_spareless (h : s.hka.spare = none) : s.hkLeaves j p m = s.migDone m 3 j 0x3FF := by
  rw [State.hkLeaves, if_neg (ne_true_of_eq_false hn), h]

theorem hkLeaves_spare {k : Nat} (h : s.hka.spare = some k) : s.hkLeaves j p m = s.hkTake k p := by
  rw [State.hkLeaves, if_neg (ne_true_of_eq_false hn), h]
end

/-- A search that finds an element finds it under a narrower condition that holds of it. -/
theorem find?_and_of_find? {α : Type} {f g : α → Bool} {l : List α} {x : α} (h : l.find? f = some x) (hg : g x = true) :
    l.find? (fun y => f y && g y) = some x := by
  obtain ⟨hx, as, bs, rfl, has⟩ := List.find?_eq_some_iff_append.mp h
  refine List.find?_eq_some_iff_append.mpr ⟨by rw [hx, hg, Bool.and_self], as, bs, rfl, fun y hy => ?_⟩
  rw [(Bool.not_eq_true' _).mp (has y hy), Bool.false_and, Bool.not_false]

/-- On an idle path, the commanded slice is released, and the spare takes its path. -/
theorem hkTake_releases {s : State} {j k p : Nat} {m : Migration} (hp : p < s.hka.paths.length)
    (h : (s.hkPath p).step = none) (hs : (s.hkPath p).slice = some j)
    (hm : s.rep.migs.find? (fun m => m.kind == 3 && m.failed == j) = some m) (hc : m.commanded = true) :
    let t := s.hkTake k p
    (t.hkPath p).slice = some k ∧ t.hka.spare = none ∧ t.rep.released = s.rep.released ++ [(3, j)] ∧
      t.rep.hkaFail = s.rep.hkaFail ∧ ∀ i, i ≠ p → t.hkPath i = s.hkPath i := by
  intro t
  obtain ⟨f, hf, ht⟩ := hkTake_idle (j := k) hp h
  have hmj : m.failed = j := by
    have hkind := List.find?_some hm
    simp only [Bool.and_eq_true, beq_iff_eq] at hkind
    exact hkind.2
  have hcommanded : (s.setHkPath p f).hkCommanded p = some m := by
    rw [State.hkCommanded, hkPath_setHkPath_self s f hp, (hf _).1, hs]
    exact find?_and_of_find? hm hc
  generalize hu : (s.setHkPath p f).hkReleased p k m = u
  have hrel : t = (u.mapAdd 3 4 m.failed k).migDone m 0 m.failed k :=
    hu ▸ ht.trans (hkSwitch_releases hcommanded k)
  have hhka : t.hka = u.hka := by
    rw [hrel]
    exact hka_of_repairs ((mapAdd_repairs _ _ _ _ _).trans (migDone_repairs _ _ _ _ _))
  have hbare := (mapped_migDone (s := u) (k := 3) (o := 4) (f := m.failed) (n := k) rfl m 0 m.failed k).1
  rw [← hrel] at hbare
  have hpaths : t.hka.paths = (s.setHkPath p (HkPath.served k ∘ f)).hka.paths := by
    rw [hhka, ← hu, ← setHkPath_setHkPath]
    rfl
  refine ⟨?_, by rw [hhka, ← hu]; rfl, ?_, ?_, fun i hi => ?_⟩
  · rw [hkPath_congr hpaths, hkPath_setHkPath_self s _ hp]
    rfl
  · rw [← hmj, show t.rep.released = u.rep.released from (congrArg Repair.released hbare :), ← hu]
    rfl
  · rw [show t.rep.hkaFail = u.rep.hkaFail from (congrArg Repair.hkaFail hbare :), ← hu]
    rfl
  · rw [hkPath_congr hpaths, hkPath_setHkPath_other s _ hi]

/-! A slice that has failed (13 R340; 17 R417, R419). -/

/-- A path for which no slice waits. -/
def HkPath.unqueued (p : HkPath) : HkPath := { p with next := none }

/-- A path whose step runs again, on the slice that has taken it. -/
def HkPath.restarted (k now : Nat) (p : HkPath) : HkPath :=
  { p with slice := some k, step := p.step.map fun (x : HkRun) => { x with start := now, made := false } }

/-- A slice in service has failed: the report, and the end of rotation. -/
def State.hkSliceFault (s : State) (j : Nat) : State :=
  let s := (s.latch HKA_STATUS 0x100).report (causeKey 5 2 j) 0xA j false
  { s with
    hka.rotDead := true, hka.rotStage := 0, rep.hkaFail := s.rep.hkaFail ++ [j]
    hka.paths := s.hka.paths.map HkPath.unqueued }

section
variable (s : State) (j : Nat)

theorem hkSliceFault_hka : (s.hkSliceFault j).hka =
    { s.hka with rotDead := true, rotStage := 0, paths := s.hka.paths.map HkPath.unqueued } := by
  have h : ((s.latch HKA_STATUS 0x100).report (causeKey 5 2 j) 0xA j false).hka =
      (s.latch HKA_STATUS 0x100).hka := hka_of_repairs (report_repairs _ _ _ _ _)
  exact congrArg (fun y : House => { y with rotDead := true, rotStage := 0, paths := y.paths.map HkPath.unqueued }) h

theorem hkSliceFault_hkaFail : (s.hkSliceFault j).rep.hkaFail = s.rep.hkaFail ++ [j] := by
  have h := report_bare (s.latch HKA_STATUS 0x100) (causeKey 5 2 j) 0xA j false
  exact congrArg (· ++ [j]) (congrArg Repair.hkaFail h :)

theorem hkSliceFault_time : (s.hkSliceFault j).time = s.time :=
  (report_keeps (s.latch HKA_STATUS 0x100) (causeKey 5 2 j) 0xA j false .time (by simp) :)

theorem hkSliceFault_hkPath (i : Nat) : (s.hkSliceFault j).hkPath i = (s.hkPath i).unqueued := by
  have h : (s.hkSliceFault j).hka.paths = s.hka.paths.map HkPath.unqueued :=
    (congrArg House.paths (hkSliceFault_hka s j) :)
  rw [State.hkPath, h]
  exact List.getD_map s.hka.paths ⟨none, none, 0, none, false, []⟩ HkPath.unqueued
end

/-- The spare has taken the path of a slice that fails, and the step on it runs again. -/
def State.hkRestarted (s : State) (p k : Nat) : State :=
  let s := match (s.hkPath p).step.bind HkRun.source with
    | some i => { s with hka.iex := upd s.hka.iex i fun y => (false, y.2) }
    | none => s
  { s.setHkPath p (HkPath.restarted k s.time) with hka.spare := none }

theorem hkRestarted_hka (s : State) (p k : Nat) : ∃ l, (s.hkRestarted p k).hka = { s.hka with
    iex := l, spare := none, paths := upd s.hka.paths p (HkPath.restarted k s.time) } := by
  unfold State.hkRestarted
  split
  · exact ⟨_, rfl⟩
  · exact ⟨_, rfl⟩

theorem hkRestarted_rep (s : State) (p k : Nat) : (s.hkRestarted p k).rep = s.rep := by
  unfold State.hkRestarted
  split
  · rfl
  · rfl

/-- The end of a migration behind the map's entry leaves what has failed. -/
theorem hkaFail_of_migDone {s w : State} {k o f n : Nat} (hw : w.rep.bare = (s.mapAdd k o f n).rep.bare) (m : Migration)
    (out failed spare : Nat) : (w.migDone m out failed spare).rep.hkaFail = s.rep.hkaFail :=
  (congrArg Repair.hkaFail (mapped_migDone hw m out failed spare).1 :)

section
variable {s : State} {j p : Nat} (m : Migration)

theorem hkSliceFault_spare (s : State) (j : Nat) : (s.hkSliceFault j).hka.spare = s.hka.spare :=
  (congrArg House.spare (hkSliceFault_hka s j) :)

theorem hkReplace_none (h : s.hka.spare = none) : s.hkReplace j p m =
    (((s.hkSliceFault j).mapAdd 3 2 j noSpare).mapMade 5 j [2]).migDone m 1 j 0x3FF := by
  unfold State.hkReplace
  extract_lets u _ _ v
  have hv : v.hka.spare = none := (hkSliceFault_spare s j).trans h
  split
  next => rfl
  next k hk => exact absurd (hk.symm.trans hv) (Option.some_ne_none k)

theorem hkReplace_some {k : Nat} (h : s.hka.spare = some k) : s.hkReplace j p m =
    ((((s.hkSliceFault j).hkRestarted p k).mapAdd 3 2 j k).repaired 5 j [2]).migDone m 0 j k := by
  unfold State.hkReplace
  extract_lets u _ _ v
  have hv : v.hka.spare = some k := (hkSliceFault_spare s j).trans h
  split
  next hn => exact absurd (hv.symm.trans hn) (Option.some_ne_none k)
  next k' hk =>
    obtain rfl : k = k' := Option.some.inj (hv.symm.trans hk)
    rfl

/-- Without a spare, the path stays on the slice that fails. -/
theorem hkReplace_spareless (hk : s.hka.spare = none) : let t := s.hkReplace j p m
    t.hka = (s.hkSliceFault j).hka ∧ t.rep.hkaFail = s.rep.hkaFail ++ [j] := by
  intro t
  have ht : t = _ := hkReplace_none m hk
  rw [ht]
  have hrep := ((mapAdd_repairs (s.hkSliceFault j) 3 2 j noSpare).trans (mapMade_repairs _ 5 j [2])).trans
    (migDone_repairs _ m 1 j 0x3FF)
  exact ⟨hka_of_repairs hrep,
    (hkaFail_of_migDone (mapMade_bare _ 5 j [2]) m 1 j 0x3FF).trans (hkSliceFault_hkaFail s j)⟩

/-- The spare takes the path of a slice that fails, and the step on it runs again. -/
theorem hkReplace_spare {k : Nat} (hk : s.hka.spare = some k) : let t := s.hkReplace j p m
    t.hka = ((s.hkSliceFault j).hkRestarted p k).hka ∧ t.rep.hkaFail = s.rep.hkaFail ++ [j] := by
  intro t
  have ht : t = _ := hkReplace_some m hk
  rw [ht]
  have hrep := ((mapAdd_repairs ((s.hkSliceFault j).hkRestarted p k) 3 2 j k).trans (repaired_repairs _ 5 j [2])).trans
    (migDone_repairs _ m 0 j k)
  refine ⟨hka_of_repairs hrep,
    (hkaFail_of_migDone (repaired_bare _ 5 j [2]) m 0 j k).trans ?_⟩
  rw [hkRestarted_rep, hkSliceFault_hkaFail]

/-- The fault of a slice in service, with and without a spare. -/
theorem hkReplace_spec (hp : p < s.hka.paths.length) : let t := s.hkReplace j p m
    t.hka.rotDead = true ∧ t.hka.spare = none ∧ t.rep.hkaFail = s.rep.hkaFail ++ [j] ∧
      (∀ k, s.hka.spare = some k → (t.hkPath p).slice = some k ∧
        (t.hkPath p).step = (s.hkPath p).step.map fun x => { x with start := s.time, made := false }) ∧
      (s.hka.spare = none → (t.hkPath p).slice = (s.hkPath p).slice ∧ (t.hkPath p).step = (s.hkPath p).step) ∧
      ∀ i, i ≠ p → (t.hkPath i).slice = (s.hkPath i).slice ∧ (t.hkPath i).step = (s.hkPath i).step := by
  intro t
  have hdead : (s.hkSliceFault j).hka.rotDead = true := (congrArg House.rotDead (hkSliceFault_hka s j) :)
  have hpath (i : Nat) : ((s.hkSliceFault j).hkPath i).slice = (s.hkPath i).slice ∧
      ((s.hkSliceFault j).hkPath i).step = (s.hkPath i).step := by
    rw [hkSliceFault_hkPath]
    exact ⟨rfl, rfl⟩
  cases hk : s.hka.spare with
  | none =>
    obtain ⟨hhka, hfail⟩ := hkReplace_spareless (j := j) (p := p) m hk
    have ht (i : Nat) : (t.hkPath i).slice = (s.hkPath i).slice ∧ (t.hkPath i).step = (s.hkPath i).step := by
      rw [hkPath_congr (congrArg House.paths hhka)]
      exact hpath i
    exact ⟨(congrArg House.rotDead hhka).trans hdead,
      (congrArg House.spare hhka).trans ((hkSliceFault_spare s j).trans hk), hfail, fun k h => absurd h.symm (Option.some_ne_none k), fun _ => ht p, fun i _ => ht i⟩
  | some k =>
    obtain ⟨hhka, hfail⟩ := hkReplace_spare (j := j) (p := p) m hk
    obtain ⟨l, hl⟩ := hkRestarted_hka (s.hkSliceFault j) p k
    have hpaths : t.hka.paths =
        ((s.hkSliceFault j).setHkPath p (HkPath.restarted k s.time)).hka.paths := by
      rw [hhka, hl, hkSliceFault_time]
      rfl
    have hlen : p < (s.hkSliceFault j).hka.paths.length := by
      rw [hkSliceFault_hka]
      simpa using hp
    refine ⟨?_, by rw [hhka, hl], hfail, fun k' h => ?_, fun h => absurd h (Option.some_ne_none k), fun i hi => ?_⟩
    · rw [hhka, hl]
      exact hdead
    · obtain rfl : k = k' := Option.some.inj h
      rw [hkPath_congr hpaths, hkPath_setHkPath_self _ _ hlen, hkSliceFault_hkPath]
      exact ⟨rfl, rfl⟩
    · rw [hkPath_congr hpaths, hkPath_setHkPath_other _ _ hi]
      exact hpath i
end

theorem execHkSliceMigration_command {s : State} {j : Fin 3} {p : Nat} {m : Migration}
    (hp : (List.range 2).find? (fun i => (s.hkPath i).slice == some j.val) = some p)
    (hf : s.rep.hkaFail.contains j.val = false)
    (hm : s.rep.migs.find? (fun m => m.kind == 3 && m.failed == j.val) = some m) (hc : m.commanded = true) :
    exec (.hkSliceMigration j) s = .next (s.hkLeaves j p m) := by
  rw [execHkSliceMigration_in hp hf, hkSliceMig_waits hm]
  exact congrArg Host.Outcome.next (if_neg (not_not_intro hc))

/-- A slice in service fails. -/
theorem hkSliceMigration_fault {s : State} {j : Fin 3} {p : Nat}
    (hp : (List.range 2).find? (fun i => (s.hkPath i).slice == some j.val) = some p)
    (hf : s.rep.hkaFail.contains j.val = false) (hlt : p < s.hka.paths.length)
    (h : ∀ m, s.rep.migs.find? (fun m => m.kind == 3 && m.failed == j.val) = some m → m.commanded = false) :
    ∃ t, exec (.hkSliceMigration j) s = .next t ∧ t.hka.rotDead = true ∧ t.hka.spare = none ∧
      t.rep.hkaFail = s.rep.hkaFail ++ [j.val] ∧
      (∀ k, s.hka.spare = some k → (t.hkPath p).slice = some k ∧
        (t.hkPath p).step = (s.hkPath p).step.map fun x => { x with start := s.time, made := false }) ∧
      (s.hka.spare = none → (t.hkPath p).slice = some j.val ∧ (t.hkPath p).step = (s.hkPath p).step) ∧
      ∀ i, i ≠ p → (t.hkPath i).slice = (s.hkPath i).slice ∧ (t.hkPath i).step = (s.hkPath i).step := by
  have hserves : (s.hkPath p).slice = some j.val := by simpa using List.find?_some hp
  obtain ⟨hm, hdrawn⟩ := hkSliceMig_fault h
  have hexec : exec (.hkSliceMigration j) s = .next ((s.hkSliceMig j).2.hkReplace j p (s.hkSliceMig j).1) :=
    (execHkSliceMigration_in hp hf).trans (congrArg Host.Outcome.next (if_pos (ne_true_of_eq_false hm)))
  have hhka : (s.hkSliceMig j).2.hka = s.hka := hdrawn .hka (by simp)
  have hrep : (s.hkSliceMig j).2.rep = s.rep := hdrawn .rep (by simp)
  have htime : (s.hkSliceMig j).2.time = s.time := hdrawn .time (by simp)
  have hpath (i : Nat) : (s.hkSliceMig j).2.hkPath i = s.hkPath i := hkPath_congr (congrArg House.paths hhka) i
  have ht := hkReplace_spec (s := (s.hkSliceMig j).2) (j := j) (s.hkSliceMig j).1 (hhka ▸ hlt)
  simp only [hhka, hrep, htime, hpath, hserves] at ht
  exact ⟨_, hexec, ht⟩

/-- A slice leaves its path under a command. -/
theorem hkLeaves_spec {s : State} {j p : Nat} {m : Migration} (hn : s.hka.paths.any (fun q => q.next.isSome) = false)
    (hp : p < s.hka.paths.length) (hs : (s.hkPath p).slice = some j)
    (hm : s.rep.migs.find? (fun m => m.kind == 3 && m.failed == j) = some m) (hc : m.commanded = true) :
    let t := s.hkLeaves j p m
    t.rep.hkaFail = s.rep.hkaFail ∧ (∀ i, i ≠ p → t.hkPath i = s.hkPath i) ∧ (s.hka.spare = none → t.hka = s.hka) ∧
      (∀ k, s.hka.spare = some k → (s.hkPath p).step.isSome = true →
        t = s.setHkPath p fun q => { q with next := some k }) ∧
      (∀ k, s.hka.spare = some k → (s.hkPath p).step = none →
        (t.hkPath p).slice = some k ∧ t.hka.spare = none ∧ t.rep.released = s.rep.released ++ [(3, j)]) := by
  intro t
  cases hk : s.hka.spare with
  | none =>
    have ht : t = s.migDone m 3 j 0x3FF := hkLeaves_spareless hn hk
    have hhka : t.hka = s.hka := ht ▸ hka_of_repairs (migDone_repairs s m 3 j 0x3FF)
    refine ⟨?_, fun i _ => hkPath_congr (congrArg House.paths hhka) i, fun _ => hhka,
      fun k h => absurd h.symm (Option.some_ne_none k), fun k h => absurd h.symm (Option.some_ne_none k)⟩
    rw [ht, (migDone_spec s m 3 j 0x3FF).1]
  | some k =>
    have ht : t = s.hkTake k p := hkLeaves_spare hn hk
    cases hstep : (s.hkPath p).step with
    | none =>
      obtain ⟨hslice, hspare, hreleased, hfail, hother⟩ := hkTake_releases (k := k) hp hstep hs hm hc
      rw [← ht] at hslice hspare hreleased hfail hother
      refine ⟨hfail, hother, fun h => absurd h (Option.some_ne_none k), fun _ _ h => absurd h Bool.false_ne_true,
        fun k' h _ => ?_⟩
      obtain rfl : k = k' := Option.some.inj h
      exact ⟨hslice, hspare, hreleased⟩
    | some x =>
      have hbusy : t = s.setHkPath p fun q => { q with next := some k } := ht.trans (hkTake_busy (by rw [hstep]; rfl))
      refine ⟨by rw [hbusy]; rfl, fun i hi => by rw [hbusy, hkPath_setHkPath_other s _ hi],
        fun h => absurd h (Option.some_ne_none k), fun k' h _ => ?_, fun _ _ h => absurd h (Option.some_ne_none x)⟩
      obtain rfl : k = k' := Option.some.inj h
      exact hbusy

end Sys2Proof.Machine

namespace Sys2Proof.Machine

/-! Linearisation draws free values (13 R331 to R335). -/

theorem hkLinear_keeps (s : State) (cfg user : Nat) (code : Int) (current : Nat) :
    s.keeps (s.hkLinear cfg user code current).2 [.drawn] := by
  unfold State.hkLinear
  extract_lets curve f free e num den k temp hi cj c r bad known x
  clear_value temp known
  have hfree (lo hi : Int) : s.keeps (free lo hi).2 [.drawn] := draw_keeps s 61
  have hsame : s.keeps s [.drawn] := .refl s _
  split
  · split
    · exact hfree _ _
    · exact hsame
  split
  · split
    · exact hfree _ _
    · exact hsame
  split
  · split
    · exact hfree (-6400) hi
    · exact hsame
  split
  · split
    · exact hfree _ _
    · exact hsame
  · exact hsame

theorem hkValue_keeps (s : State) (x : HkRun) (code : Int) (current : Nat) :
    s.keeps (s.hkValue x code current).2 [.drawn] := by
  unfold State.hkValue
  extract_lets c
  split
  · exact hkLinear_keeps s _ _ _ _
  split
  · exact .refl s _
  split
  · exact .refl s _
  · exact .refl s _

/-! HK_STEP (13 R327 to R329). -/

/-- The result that the end of a step publishes, from the one before (13 R329, R345). -/
def HkResult.measured (old : HkResult) (x : HkRun) (y : Curved) (mean : Int) (clip dead nocal : Bool)
    (current now : Nat) : HkResult :=
  let v := clampInt y.lo y.hi y.value
  let good := if clip || dead then 0 else old.good + 1
  let stays := dead || (old.open_ && decide (good < 3))
  { old with
    valid := true, open_ := stays, short := old.short && stays, stale := y.stale
    range := y.range || v != y.value, clip := clip, nocal := nocal, inj := x.injected
    cycle := x.cycle, value := if stays then 0x7FFF else v, at_ := now
    held := if stays || clip then old.held else some v
    good := if stays then good else 0, current := current, code := mean }

/-- The mean code of a step's conversions; the channel RING keeps the one before. -/
def State.hkMean (s : State) (x : HkRun) (codes : List (BitVec 16)) : Int :=
  if x.step.code = 0x23 then (s.hkRes x.step.code).code
  else roundDiv (codes.map BitVec.toInt).sum (2 ^ x.step.avg)

/-- A kept code of the step has reached a limit. -/
def HkRun.clips (x : HkRun) (codes : List (BitVec 16)) : Bool :=
  x.step.code != 0x23 && codes.any fun v => v == 32767 || v == -32768

theorem clips_toInt (x : HkRun) (codes : List (BitVec 16)) :
    (x.step.code != 0x23 && (codes.map BitVec.toInt).any fun v => v == 32767 || v == -32768) = x.clips codes := by
  have hcode (v : BitVec 16) : (v.toInt == 32767 || v.toInt == -32768) = (v == 32767 || v == -32768) := by
    rw [Bool.eq_iff_iff]
    simp only [Bool.or_eq_true, beq_iff_eq, ← BitVec.toInt_inj]
    rfl
  simp only [HkRun.clips, List.any_map, Function.comp_def, hcode]

section
variable {s : State} {path : Fin 2} {x : HkRun} (hx : (s.hkPath path).step = some x) (hon : s.hkOn = true)
include hx hon

/-- A step that has its conversions replaces the result of its channel. -/
theorem execHkStep_ends {codes : List (BitVec 16)} (hd : x.start + x.step.ticks ≤ s.time)
    (hl : x.step.code ≠ 0x23 → codes.length = 2 ^ x.step.avg) {current : Nat} {t : State}
    (ht : exec (.hkStep path codes current) s = .next t) : ∃ y nocal i,
      t.hka.results = upd s.hka.results x.step.code fun _ => (s.hkRes x.step.code).measured x y (s.hkMean x codes)
        (x.clips codes) (x.step.code != 0x23 && s.hkDead path) nocal i s.time := by
  have hrun : ¬(¬ s.hkOn = true ∨ s.time < x.start + x.step.ticks ∨
      (x.step.code ≠ 0x23 ∧ codes.length ≠ 2 ^ x.step.avg)) := by
    rintro (h | h | h)
    · exact h hon
    · omega
    · exact h.2 (hl h.1)
  replace ht : execHkStep path codes current s = .next t := ht
  unfold execHkStep at ht
  replace ht := Host.Outcome.next.inj ht
  split at ht
  next hn => exact absurd (hx.symm.trans hn) (Option.some_ne_none x)
  next x' hx' =>
    obtain rfl : x = x' := Option.some.inj (hx.symm.trans hx')
    extract_lets c vals mean clip cur dead _ counted left _ metered y v valued old good stays r stored noted at ht
    rw [if_neg hrun] at ht
    have hcounted : s.keeps counted [.hka] := .ite (keeps_hka s _) (.refl s _)
    have hleft : left.hkLists = s.hkLists :=
      (hkLeave_hkLists counted path x).trans (by unfold counted; split <;> rfl)
    have hleftAt : left.time = s.time :=
      (hkLeave_keeps counted path x .time (by simp [hkParts])).trans (hcounted .time (by simp))
    have hmetered : metered.hkLists = left.hkLists ∧ metered.time = left.time := by
      unfold metered
      split <;> exact ⟨rfl, rfl⟩
    have hdrawn : metered.keeps valued [.drawn] := hkValue_keeps metered x mean cur
    have hvalued : valued.hka.results = s.hka.results :=
      (congrArg Prod.fst ((hkLists_of_keeps hdrawn (by simp)).trans (hmetered.1.trans hleft)) :)
    have hnow : valued.time = s.time := (hdrawn .time (by simp)).trans (hmetered.2.trans hleftAt)
    have hold : old = s.hkRes c := by simp only [old, State.hkRes, hvalued]
    have hclip : clip = x.clips codes := clips_toInt x codes
    have hr : r = (s.hkRes c).measured x y.1 mean (x.clips codes) dead valued.hkStopped cur s.time := by
      rw [← hold, ← hclip, ← hnow]
      rfl
    have hnoted : noted.hka = stored.hka := by
      unfold noted
      split
      · exact hka_of_repairs ((endCause_repairs stored _).trans (endCause_repairs _ _))
      · split <;> rfl
    refine ⟨y.1, valued.hkStopped, cur, ?_⟩
    rw [← ht, hkPublished_hkNext_results, hnoted]
    show upd valued.hka.results c (fun _ => r) = _
    rw [hvalued, hr]
    rfl

/-- A channel's result as a report of the excitation monitor leaves it (13 R329). -/
def HkResult.broken (r : HkResult) (x : HkRun) (short nocal : Bool) (now : Nat) : HkResult :=
  { r with valid := true, open_ := true, short := short, stale := false, range := false, clip := false
           nocal := nocal, inj := x.injected, cycle := x.cycle, value := 0x7FFF, at_ := now
           good := 0, seenOpen := r.seenOpen || !short, seenShort := r.seenShort || short }

/-- A report of the monitor replaces the result of the channel whose step it ends. -/
theorem execHkMonitorReport_ends {k : Nat} (hk : x.source = some k) (hm : x.made = true) (hd : x.start + 1250 ≤ s.time)
    {short : Bool} {t : State} (ht : exec (.hkMonitorReport path short) s = .next t) : ∃ nocal now,
      t.hka.results = upd s.hka.results x.step.code fun r => r.broken x short nocal now := by
  have hrun : ¬(¬ s.hkOn = true ∨ ¬ x.made = true ∨ s.time < x.start + 1250) := by
    rintro (h | h | h)
    · exact h hon
    · exact h hm
    · omega
  replace ht : execHkMonitorReport path short s = .next t := ht
  unfold execHkMonitorReport at ht
  replace ht := Host.Outcome.next.inj ht
  split at ht
  next hn => exact absurd (hx.symm.trans hn) (Option.some_ne_none x)
  next x' hx' =>
    obtain rfl : x = x' := Option.some.inj (hx.symm.trans hx')
    split at ht
    next hn => exact absurd (hk.symm.trans hn) (Option.some_ne_none k)
    next k' hk' =>
      extract_lets c left _ marked old newly seen stored noted reported at ht
      rw [if_neg hrun] at ht
      have hmarked : marked.hka.results = s.hka.results := (congrArg Prod.fst (hkLeave_hkLists s path x) :)
      have hnoted : noted.hka = stored.hka := by
        unfold noted
        split
        · exact openEvent_keeps _ _ _ _ .hka (by simp)
        · rfl
      have hreported : reported.hka = noted.hka := by
        unfold reported
        split
        · exact hka_of_repairs (report_repairs noted _ _ _ _)
        · rfl
      refine ⟨marked.hkStopped, marked.time, ?_⟩
      rw [← ht, hkPublished_hkNext_results, hreported, hnoted]
      show upd marked.hka.results c _ = _
      rw [hmarked]
      rfl
end

/-- Without a step whose excitation has been on for 0.5 us, the monitor reports nothing. -/
theorem execHkMonitorReport_not {s : State} {path : Fin 2} (h : ∀ x, (s.hkPath path).step = some x →
    x.source = none ∨ x.made = false ∨ s.time < x.start + 1250 ∨ s.hkOn = false) (short : Bool) :
    exec (.hkMonitorReport path short) s = .next s := by
  show execHkMonitorReport path short s = _
  unfold execHkMonitorReport
  refine congrArg Host.Outcome.next ?_
  split
  next => rfl
  next x hx =>
    split
    next => rfl
    next k hk =>
      rcases (h x hx).resolve_left (hk ▸ Option.some_ne_none k) with hm | hd | hon
      · exact if_pos (.inr (.inl (ne_true_of_eq_false hm)))
      · exact if_pos (.inr (.inr hd))
      · exact if_pos (.inl (ne_true_of_eq_false hon))

/-- A step that has its conversions publishes one result, and leaves every other. -/
theorem execHkStep_publishes {s : State} {path : Fin 2} {codes : List (BitVec 16)} {current : Nat} {x : HkRun}
    (hx : (s.hkPath path).step = some x) (hon : s.hkOn = true) (hd : x.start + x.step.ticks ≤ s.time)
    (hl : x.step.code ≠ 0x23 → codes.length = 2 ^ x.step.avg) (hc : x.step.code < s.hka.results.length) :
    ∃ t y nocal i, exec (.hkStep path codes current) s = .next t ∧
      t.hkRes x.step.code = (s.hkRes x.step.code).measured x y (s.hkMean x codes) (x.clips codes)
        (x.step.code != 0x23 && s.hkDead path) nocal i s.time ∧
      ∀ k, k ≠ x.step.code → t.hkRes k = s.hkRes k := by
  obtain ⟨t, ht⟩ := exec_next (.hkStep path codes current) s
  obtain ⟨y, nocal, i, hres⟩ := execHkStep_ends hx hon hd hl ht
  exact ⟨t, y, nocal, i, ht, hkRes_of_upd hres hc⟩

/-- OPEN holds on a failed slice, and until the third good result in a row (13 R329; 17 R419). -/
theorem measured_stays {old : HkResult} {x : HkRun} {y : Curved} {mean : Int} {clip dead nocal : Bool} {i now : Nat} :
    let good := if clip = true ∨ dead = true then 0 else old.good + 1
    let stays : Bool := dead || (old.open_ && decide (good < 3))
    let r := old.measured x y mean clip dead nocal i now
    r.open_ = stays ∧ r.short = (old.short && stays) ∧
      (stays = true → r.value = 0x7FFF ∧ r.good = good ∧ r.held = old.held) ∧
      (stays = false → r.good = 0 ∧ r.held = if clip = true then old.held else some r.value) := by
  intro good stays r
  have hgood : (if clip || dead then 0 else old.good + 1) = good := by
    simp only [good, Bool.or_eq_true]
  have hopen : r.open_ = stays := by
    show (dead || (old.open_ && decide ((if clip || dead then 0 else old.good + 1) < 3))) = stays
    rw [hgood]
  have hvalue : r.value = if r.open_ then 0x7FFF else clampInt y.lo y.hi y.value := rfl
  have hcount : r.good = if r.open_ then (if clip || dead then 0 else old.good + 1) else 0 := rfl
  have hheld : r.held = if r.open_ || clip then old.held else some (clampInt y.lo y.hi y.value) := rfl
  rw [hgood] at hcount
  refine ⟨hopen, congrArg (old.short && ·) hopen, fun h => ?_, fun h => ?_⟩
  · rw [hvalue, hcount, hheld, hopen, h]
    exact ⟨rfl, rfl, rfl⟩
  · rw [hvalue, hcount, hheld, hopen, h]
    exact ⟨rfl, rfl⟩

/-- Settles O32: a published result stands whatever it sets off, a step of the rotation is the part that its stage
names, and a slice takes a path at once or at its next boundary. The rotation in three rows, the shadow repeated from
the shadow on and the boundary of an idle path, which is now, are a DESIGN CHOICE of the model (notes/assumptions, log
entry 113). -/
theorem housekeepingCompletes : Obligations.HousekeepingCompletes := by
  refine ⟨⟨?sequence, ?channel, fun s h => execHkCycleStart_not h, ?cycle, ?step,
    fun s path short h => execHkMonitorReport_not h short, ?monitor, ?go⟩,
    fun s shadow trims h => execHkRotationStep_off h shadow trims, ?rotation,
    fun s j h => execHkSliceMigration_out h, ?migration⟩
  case sequence =>
    intro s u o r e h l
    exact congrArg Host.Outcome.next (serve_answered h rfl)
  case channel =>
    intro s u o r e h d n cfg
    exact congrArg Host.Outcome.next (serve_answered h rfl)
  case cycle =>
    intro s hon hr hc hd seq
    obtain ⟨hregular, hnew, hresults, hat⟩ := hkCycle_spec s hd
    exact ⟨s.hkCycle, execHkCycleStart_due hon hr hc hd, reg_hkCycle s, hregular, hnew, ne_nil_of_hkCycle,
      hkCycle_inCycle, hresults, hat, hkCycle_keepsRegs s⟩
  case step =>
    intro s path codes current x hx hon hd hl hc c old dead clip good stays
    obtain ⟨t, y, nocal, i, ht, hself, hother⟩ := execHkStep_publishes (current := current) hx hon hd hl hc
    obtain ⟨hopen, hshort, hstays, hclears⟩ := measured_stays (old := old) (x := x) (y := y) (mean := s.hkMean x codes)
      (clip := clip) (dead := dead) (nocal := nocal) (i := i) (now := s.time)
    exact ⟨t, ht, by rw [hself]; rfl, by rw [hself]; rfl, by rw [hself]; rfl, by rw [hself]; rfl, by rw [hself]; rfl,
      by rw [hself]; rfl, by rw [hself]; exact hopen, by rw [hself]; exact hshort, by rw [hself]; exact hstays,
      by rw [hself]; exact hclears, hother⟩
  case monitor =>
    intro s path short x hx hk hon hm hd hc
    obtain ⟨k, hk⟩ := Option.isSome_iff_exists.mp hk
    obtain ⟨t, ht⟩ := exec_next (.hkMonitorReport path short) s
    obtain ⟨nocal, now, hres⟩ := execHkMonitorReport_ends hx hon hk hm hd ht
    obtain ⟨hself, hother⟩ := hkRes_of_upd hres hc
    exact ⟨t, ht, by rw [hself]; rfl, by rw [hself]; rfl, by rw [hself]; rfl, by rw [hself]; rfl, by rw [hself]; rfl,
      hother⟩
  case go =>
    intro s
    refine ⟨execGo_off, execGo_waits, fun h hon hr => ?_, fun h hon hr => ?_⟩
    · rw [execGo_triggers h hon, hkTrigger_busy hr]
    · have hlists := hkTrigger_hkLists hr
      exact ⟨s.hkTrigger, execGo_triggers h hon, congrArg (·.2.1) hlists, congrArg (·.2.2) hlists,
        congrArg Prod.fst hlists⟩
  case rotation =>
    intro s shadow trims j hj hd hon hn pass p due
    have hexec := execHkRotationStep_on hj hd hon hn shadow trims
    refine ⟨fun h => ?_, fun h => ?_, fun h hs => ?_, fun h hs hpass hp hstep hm => ?_, fun h hs hpass hp hstep => ?_,
      fun h hs hpass hr => ?_, fun h hs hpass hr => ?_⟩
    · rw [hexec, if_neg (by omega), if_neg (by omega)]
    · rw [if_pos h] at hexec
      exact ⟨_, hexec, rfl, rfl, rfl, hj, fun hlen => nth_upd_self _ _ _ _ hlen, fun k hk => nth_upd_other _ _ _ hk,
        keeps_hka s _⟩
    · rw [hexec, if_neg (by omega), if_pos h, if_pos hs]
    all_goals rw [if_neg (by omega), if_pos h, if_neg (not_lt.mpr hs)] at hexec
    · rw [if_pos hpass] at hexec
      obtain ⟨hslice, hspare, hpath, hretried, hstage, hother, hk⟩ :=
        hkTake_rotates (s := { s with hka.rotStage := 3 }) (j := j) hp hstep hm
      exact ⟨_, hexec, hslice, hspare, hpath, hretried, hstage, hother, (keeps_hka s _).trans hk⟩
    · rw [if_pos hpass, hkTake_busy (s := { s with hka.rotStage := 3 }) hstep] at hexec
      exact ⟨_, hexec, rfl, hkPath_setHkPath_self { s with hka.rotStage := 3 } _ hp, hj,
        fun k hk => hkPath_setHkPath_other { s with hka.rotStage := 3 } _ hk, keeps_hka s _⟩
    · rw [if_neg hpass, State.hkShadowFailed, if_pos (ne_true_of_eq_false hr)] at hexec
      exact ⟨_, hexec, rfl, hj, h, rfl, rfl, latch_keepsRegs s _ _,
        .after (keeps_hka _ _) rfl (.first (latch_keeps s _ _) rfl)⟩
    · rw [if_neg hpass] at hexec
      exact ⟨_, hexec, hkShadowFailed_again hr⟩
  case migration =>
    intro s j p hp hf hlen fault
    have hserves : (s.hkPath p).slice = some j.val := by simpa using List.find?_some hp
    have hlt : p < s.hka.paths.length := hlen ▸ List.mem_range.mp (List.mem_of_find?_eq_some hp)
    refine ⟨fun h => ?fault, fun h hn => ?held, fun h hn => ?command⟩
    case fault => exact hkSliceMigration_fault hp hf (hlen ▸ hlt) h
    all_goals
      obtain ⟨m, hm, hc⟩ : ∃ m, s.rep.migs.find? (fun m => m.kind == 3 && m.failed == j.val) = some m ∧
          m.commanded = true := by simpa [fault] using h
      have hexec := execHkSliceMigration_command hp hf hm hc
    case held => rw [hexec, hkLeaves_held hn]
    case command => exact ⟨_, hexec, hkLeaves_spec hn hlt hserves hm hc⟩

end Sys2Proof.Machine

namespace Sys2Proof.Machine

/-! The configuration flash has its form, or is what it was (19 R466). What a function leaves of the flash is said once for
each, in the order of the model, as a simp lemma. (`by rfl`, and not `rfl`: simp then rewrites under the binders of a fold.) -/

/-- The flash is a list of the bytes that differ from FFh, in rising order of their addresses. -/
def State.flashFormed (s : State) : Prop := Sparse.wf erased s.boot.flash = true

theorem State.keeps.flash {s t : State} {l : List Part} (h : s.keeps t l) (hl : l.contains .boot = false) :
    t.boot.flash = s.boot.flash := congrArg Boot.flash (h .boot (by simpa using hl))

@[simp] theorem flash_ite (c : Prop) [Decidable c] (s t : State) :
    (if c then s else t).boot.flash = if c then s.boot.flash else t.boot.flash := apply_ite (fun u => u.boot.flash) c s t

/-- A fold keeps what each of its steps keeps of its state. -/
theorem foldl_fixes {α β γ : Type} {g : β → γ} {f : β → α → β} (hf : ∀ b a, g (f b a) = g b) (l : List α) (b : β) :
    g (l.foldl f b) = g b := by
  induction l generalizing b with
  | nil => rfl
  | cons a l ih => rw [List.foldl_cons, ih, hf]

@[simp] theorem flash_foldl {α : Type} {f : State → α → State}
    (hf : ∀ (t : State) (x : α), (f t x).boot.flash = t.boot.flash) (l : List α) (s : State) :
    (l.foldl f s).boot.flash = s.boot.flash := foldl_fixes (g := fun u : State => u.boot.flash) hf l s

/-! Fields of registers. -/

@[simp] theorem setRegN_flash (s : State) (a : Nat) (v : Nat) : (s.setRegN a v).boot.flash = s.boot.flash := by rfl
@[simp] theorem setFld_flash (s : State) (a : Nat) (hi : Nat) (lo : Nat) (v : Nat) :
    (s.setFld a hi lo v).boot.flash = s.boot.flash := by rfl
@[simp] theorem bumpBy_flash (s : State) (a : Nat) (n : Nat) :
    (s.bumpBy a n).boot.flash = s.boot.flash := (bumpBy_keeps s a n).flash rfl
@[simp] theorem bump_flash (s : State) (a : Nat) : (s.bump a).boot.flash = s.boot.flash := (bump_keeps s a).flash rfl

/-! Registers, sessions, EVENTs and incidents. -/

@[simp] theorem bumpGen_flash (s : State) : (s.bumpGen).boot.flash = s.boot.flash := by simp [State.bumpGen]
@[simp] theorem draw_flash (s : State) (label : Nat) : (s.draw label).2.boot.flash = s.boot.flash := by rfl
@[simp] theorem sendBlock_flash (s : State) (type : Nat) (value : Nat) (skip : Option Nat) :
    (s.sendBlock type value skip).boot.flash = s.boot.flash := (sendBlock_keeps s type value skip).flash rfl
@[simp] theorem sendTo_flash (s : State) (dest : Origin) (deadline : Nat) (p : Packet) :
    (s.sendTo dest deadline p).boot.flash = s.boot.flash := (sendTo_keeps s dest deadline p).flash rfl
@[simp] theorem event_flash (s : State) (code : Nat) (cls : Nat) (unit : Nat) (detail : List Byte) (owner : Option
    (Origin × Half)) (dated : Option Nat) :
    (s.event code cls unit detail owner dated).boot.flash = s.boot.flash :=
      (event_keeps s code cls unit detail owner dated).flash rfl
@[simp] theorem complete_flash (s : State) (owner : Origin × Half) (code : Nat) (unit : Nat) (detail : List Byte) :
    (s.complete owner code unit detail).boot.flash = s.boot.flash :=
      (complete_keeps s owner code unit detail).flash rfl
@[simp] theorem openEvent_flash (s : State) (cls : Nat) (unit : Nat) (detail : Option (List Byte)) :
    (s.openEvent cls unit detail).boot.flash = s.boot.flash := (openEvent_keeps s cls unit detail).flash rfl
@[simp] theorem incidentEvent_flash (s : State) (i : Incident) :
    (s.incidentEvent i).boot.flash = s.boot.flash := by simp [State.incidentEvent]
@[simp] theorem reportWith_flash (s : State) (key : Word) (block : Nat) (x3 : Nat) (ended : Bool) (reports : Nat)
    (devices : Half) (firstDev : Nat) :
    (s.reportWith key block x3 ended reports devices firstDev).boot.flash = s.boot.flash :=
      (reportWith_keeps s key block x3 ended reports devices firstDev).flash rfl
@[simp] theorem report_flash (s : State) (key : Word) (block : Nat) (x3 : Nat) (ended : Bool) :
    (s.report key block x3 ended).boot.flash = s.boot.flash := (report_keeps s key block x3 ended).flash rfl
@[simp] theorem endCause_flash (s : State) (key : Word) :
    (s.endCause key).boot.flash = s.boot.flash := (endCause_keeps s key).flash rfl
@[simp] theorem incidentRepair_flash (s : State) (key : Word) (mapSeq : Word) :
    (s.incidentRepair key mapSeq).boot.flash = s.boot.flash := by rfl
@[simp] theorem setEng_flash (s : State) (e : Nat) (f : Engine → Engine) :
    (s.setEng e f).boot.flash = s.boot.flash := by rfl

/-! Programs. -/

@[simp] theorem suspend_flash (s : State) (p : Nat) (cause : Nat) (outOfSet : Bool) :
    (s.suspend p cause outOfSet).boot.flash = s.boot.flash := (suspend_keeps s p cause outOfSet).flash rfl
@[simp] theorem suspendAll_flash (s : State) (cond : Prog → Bool) (cause : Nat) (outOfSet : Bool) :
    (s.suspendAll cond cause outOfSet).boot.flash = s.boot.flash := (suspendAll_keeps s cond cause outOfSet).flash rfl
@[simp] theorem sendThrice_flash (s : State) (type : Nat) (value : Nat) (skip : Option Nat) :
    (s.sendThrice type value skip).boot.flash = s.boot.flash := (sendThrice_keeps s type value skip).flash rfl
@[simp] theorem releaseTag_flash (s : State) (tag : Nat) (tick : Nat) :
    (s.releaseTag tag tick).boot.flash = s.boot.flash := by rfl
@[simp] theorem waitReported_flash (s : State) (dev : Nat) (tag : Nat) :
    (s.waitReported dev tag).boot.flash = s.boot.flash := (waitReported_keeps s dev tag).flash rfl
@[simp] theorem reportBegun_flash (s : State) :
    (s.reportBegun).boot.flash = s.boot.flash := (reportBegun_keeps s).flash rfl
@[simp] theorem stopProg_flash (s : State) (p : Nat) : (s.stopProg p).boot.flash = s.boot.flash := by rfl
@[simp] theorem endPass_flash (s : State) (p : Nat) :
    (s.endPass p).boot.flash = s.boot.flash := (endPass_keeps s p).flash rfl
@[simp] theorem runProg_flash (s : State) (p : Nat) (start : Nat) :
    (s.runProg p start).boot.flash = s.boot.flash := (runProg_keeps s p start).flash rfl

/-! Admission. -/

@[simp] theorem postShares_flash (s : State) :
    (s.postShares).boot.flash = s.boot.flash := (postShares_keeps s).flash rfl
@[simp] theorem countRefusal_flash (s : State) :
    (s.countRefusal).boot.flash = s.boot.flash := by simp [State.countRefusal]
@[simp] theorem readmit_flash (s : State) : (s.readmit).boot.flash = s.boot.flash := (readmit_keeps s).flash rfl
@[simp] theorem interruption_flash (s : State) :
    (s.interruption).boot.flash = s.boot.flash := (interruption_keeps s).flash rfl

/-! Live state. -/

@[simp] theorem refreshImage_flash (s : State) (e : Nat) :
    (s.refreshImage e).boot.flash = s.boot.flash := (refreshImage_keeps s e).flash rfl
@[simp] theorem countNeighbours_flash (s : State) (a : Nat) : (s.countNeighbours a).boot.flash = s.boot.flash := by
  unfold State.countNeighbours
  split <;> simp
@[simp] theorem readReg_flash (s : State) (a : Nat) : (s.readReg a).2.boot.flash = s.boot.flash := by
  simp only [State.readReg]
  repeat' split
  all_goals simp
@[simp] theorem readRegs_flash (s : State) (a : Nat) (n : Nat) : (s.readRegs a n).2.boot.flash = s.boot.flash := by
  induction n generalizing s a with
  | zero => rfl
  | succ n ih => simp [State.readRegs, ih]

/-! Memory windows. -/

@[simp] theorem writeWindow_flash (s : State) (w : Nat) (off : Nat) (d : List Byte) :
    (s.writeWindow w off d).boot.flash = s.boot.flash := by simp [State.writeWindow]

/-! How a packet is taken and answered. -/

@[simp] theorem entry_flash (s : State) (o : Origin) :
    (s.entry o).2.boot.flash = s.boot.flash := (entry_keeps s o).flash rfl
@[simp] theorem enqueue_flash (s : State) (o : Origin) (a : Arrival) : (s.enqueue o a).boot.flash = s.boot.flash := by
  unfold State.enqueue
  split <;> simp
@[simp] theorem openSession_flash (s : State) (o : Origin) : (s.openSession o).boot.flash = s.boot.flash := by rfl
@[simp] theorem ensureSession_flash (s : State) (o : Origin) :
    ∀ t, s.ensureSession o = some t → t.boot.flash = s.boot.flash := by
  unfold State.ensureSession
  repeat' split
  all_goals simp
@[simp] theorem answer_flash (s : State) (o : Origin) (p : Packet) (entered : Nat) (status : Nat) (detail : Nat) :
    (s.answer o p entered status detail).boot.flash = s.boot.flash :=
      (answer_keeps s o p entered status detail).flash rfl
@[simp] theorem finish_flash (s : State) (o : Origin) (p : Packet) (entered : Nat) (status : Nat) (detail : Nat)
    (payload : List Byte) :
    (s.finish o p entered status detail payload).boot.flash = s.boot.flash :=
      (finish_keeps s o p entered status detail payload).flash rfl
@[simp] theorem finishDeferred_flash (s : State) (status : Nat) (detail : Nat) (payload : List Byte) :
    (s.finishDeferred status detail payload).boot.flash = s.boot.flash := by
  unfold State.finishDeferred
  split <;> simp
@[simp] theorem noteAway_flash (s : State) (o : Origin) (p : Packet) (entered : Nat) :
    (s.noteAway o p entered).boot.flash = s.boot.flash := by
  unfold State.noteAway
  split <;> simp
@[simp] theorem forward_flash (s : State) (o : Origin) (p : Packet) (entered : Nat) :
    (s.forward o p entered).boot.flash = s.boot.flash := by
  unfold State.forward
  split <;> simp
@[simp] theorem refuse_flash (s : State) (status : Nat) (detail : Nat) :
    (s.refuse status detail).st.boot.flash = s.boot.flash := by rfl
@[simp] theorem doneIf_flash (s : State) (checks : List Check) {f : State → Done} (hf :
    (f s).st.boot.flash = s.boot.flash) :
    (s.doneIf checks f).st.boot.flash = s.boot.flash := by
  unfold State.doneIf
  split
  · rfl
  · exact hf
@[simp] theorem setStage_flash (s : State) (o : Origin) (x : Option Stage) :
    (s.setStage o x).boot.flash = s.boot.flash := by rfl
@[simp] theorem turnDown_flash (s : State) (p : Packet) (o : Origin) (status : Nat) :
    (s.turnDown p o status).boot.flash = s.boot.flash := by simp [State.turnDown]
/-- A packet behind its checks keeps what holds of the flash when its opcode's effect does. -/
theorem perform_flash {op : OpSpec} {P : List (Nat × Byte) → Prop} (s : State) (o : Origin) (p : Packet) (e : Nat)
    (h : P s.boot.flash) (ha : P (op.act s o p).st.boot.flash) : P (s.perform op o p e).boot.flash := by
  unfold State.perform
  split
  · simpa using h
  · simp only []
    split_ifs
    · exact ha
    · exact ha
    · simpa using ha
theorem sequenced_flash {op : OpSpec} {P : List (Nat × Byte) → Prop} (s : State) (o : Origin) (p : Packet) (e : Nat)
    (h : P s.boot.flash) (ha : ∀ u : State, P u.boot.flash → P (op.act u o p).st.boot.flash) :
    P (s.sequenced op o p e).boot.flash := by
  have hs (d n) (q : Packet) (x : Nat) : P (s.sendTo o d q).boot.flash ∧ P (s.answer o p e n x).boot.flash := by
    simpa using h
  unfold State.sequenced
  split
  · exact h
  · simp only []
    split
    · split_ifs
      · exact h
      · exact (hs _ 0 _ 0).1
      · exact (hs 0 _ p _).2
    · split
      · exact (hs 0 _ p _).2
      · exact perform_flash _ _ _ _ h (ha _ h)
theorem handle_flash {op : OpSpec} {P : List (Nat × Byte) → Prop} (s : State) (o : Origin) (p : Packet) (e : Nat)
    (h : P s.boot.flash) (ha : ∀ u : State, P u.boot.flash → P (op.act u o p).st.boot.flash) :
    P (s.handle op o p e).boot.flash := by
  unfold State.handle
  split
  · simpa using h
  · split
    · simpa using h
    · next u hu =>
      have hf : P u.boot.flash := by rw [ensureSession_flash s o u hu]; exact h
      split
      · simpa using hf
      · exact sequenced_flash u o p e hf ha
@[simp] theorem ringTake_flash (s : State) (o : Origin) : (s.ringTake o).boot.flash = s.boot.flash := by
  unfold State.ringTake
  split <;> simp
@[simp] theorem take_flash (s : State) (o : Origin) :
    (s.take o).boot.flash = s.boot.flash := (take_keeps s o).flash rfl
@[simp] theorem taken_flash (s : State) (o : Origin) (a : Arrival) :
    ∀ x, s.taken o a = some x → x.2.boot.flash = s.boot.flash := by
  unfold State.taken
  repeat' split
  all_goals simp
/-- An opcode's command keeps what holds of the flash when the opcode's effect does. -/
theorem serve_flash {op : OpSpec} {P : List (Nat × Byte) → Prop} (s : State) (o : Origin) (r : Request)
    (h : P s.boot.flash) (ha : ∀ (u : State) p, P u.boot.flash → P (op.act u o p).st.boot.flash) :
    P (s.serve op o r).boot.flash := by
  unfold State.serve
  simp only []
  split
  · exact h
  · split
    · next x hx =>
      refine handle_flash _ _ _ _ ?_ fun u => ha u _
      rw [taken_flash _ _ _ _ hx]; exact h
    · split
      · exact h
      · simpa using h

/-! Sessions. -/

@[simp] theorem treeSize_flash (s : State) : (s.treeSize).2.boot.flash = s.boot.flash := by
  unfold State.treeSize
  split <;> simp
@[simp] theorem closeSession_flash (s : State) (o : Origin) : (s.closeSession o).boot.flash = s.boot.flash := by
  unfold State.closeSession
  split <;> simp
@[simp] theorem stageAdd_flash (s : State) (o : Origin) (p : Packet) (obj : StageObj) (mem : Bool)
    (offset : Option Nat) (data : List Byte) :
    (s.stageAdd o p obj mem offset data).st.boot.flash = s.boot.flash := by
  simp only [State.stageAdd]
  repeat' split
  all_goals simp
@[simp] theorem stageTake_flash (s : State) (o : Origin) (obj : StageObj) :
    (s.stageTake o obj).1.boot.flash = s.boot.flash := by
  unfold State.stageTake
  repeat' split
  all_goals simp

/-! Staging and tables. -/

@[simp] theorem syncEngine_flash (s : State) (e : Nat) : (s.syncEngine e).boot.flash = s.boot.flash := by rfl
@[simp] theorem syncProfiles_flash (s : State) : (s.syncProfiles).boot.flash = s.boot.flash := by rfl
@[simp] theorem putTable_flash (s : State) (t : Table) : (s.putTable t).boot.flash = s.boot.flash := by rfl
@[simp] theorem commitTable_flash (s : State) (kind : Nat) (id : Nat) (data : List Byte) :
    (s.commitTable kind id data).st.boot.flash = s.boot.flash := by
  unfold State.commitTable
  extract_lets t s' users
  have hs : s'.boot.flash = s.boot.flash := by simp [s']
  split
  · rfl
  split
  · rfl
  split
  · simp [State.refuse]
  · split <;> simp [State.refuse, hs]

/-! Commands of programs. -/

@[simp] theorem managerAnswer_flash (s : State) : (s.managerAnswer).2.boot.flash = s.boot.flash := by
  simp only [State.managerAnswer]
  repeat' split
  all_goals simp
@[simp] theorem putProg_flash (s : State) (pid : Nat) (q : Prog) :
    (s.putProg pid q).boot.flash = s.boot.flash := by rfl
@[simp] theorem submit_flash (s : State) (pid : Nat) (img : List Byte) :
    (s.submit pid img).st.boot.flash = s.boot.flash := by
  simp only [State.submit]
  repeat' split
  all_goals simp
@[simp] theorem restartEngines_flash (s : State) (img : List Byte) :
    (s.restartEngines img).boot.flash = s.boot.flash := by simp [State.restartEngines]
@[simp] theorem begin_flash (s : State) (pid : Nat) (mode : Nat) (tick : Nat) :
    (s.begin pid mode tick).boot.flash = s.boot.flash := by simp [State.begin]
@[simp] theorem progStopAct_flash (mode : Nat) (s : State) (o : Origin) (p : Packet) :
    (progStopAct mode s o p).st.boot.flash = s.boot.flash := by
  unfold progStopAct
  simp only []
  split
  · rfl
  · refine doneIf_flash _ _ ?_
    split_ifs <;> simp

/-! Emission. -/

@[simp] theorem limitBudget_flash (s : State) (g : Nat) : (s.limitBudget g).boot.flash = s.boot.flash := by rfl
@[simp] theorem chainFault_flash (s : State) (board : Nat) :
    (s.chainFault board).boot.flash = s.boot.flash := by simp [State.chainFault]
@[simp] theorem chainLatched_flash (s : State) :
    (s.chainLatched).boot.flash = s.boot.flash := by simp [State.chainLatched]
@[simp] theorem mapShot_flash (s : State) (number : Long) (f : Shot → Shot) :
    (s.mapShot number f).boot.flash = s.boot.flash := by rfl
@[simp] theorem groupShutdown_flash (s : State) (g : Nat) :
    (s.groupShutdown g).boot.flash = s.boot.flash := (groupShutdown_keeps s g).flash rfl
@[simp] theorem clearOt_flash (s : State) (value : Nat) :
    (s.clearOt value).boot.flash = s.boot.flash := by simp [State.clearOt]

/-! Stamps. -/

@[simp] theorem setLane_flash (s : State) (t : Nat) (upper : Bool) (f : Lane → Lane) :
    (s.setLane t upper f).boot.flash = s.boot.flash := by rfl
@[simp] theorem blindEdge_flash (s : State) (t : Nat) (upper : Bool) (rising : Bool) :
    (s.blindEdge t upper rising).boot.flash = s.boot.flash := (blindEdge_keeps s t upper rising).flash rfl
@[simp] theorem stampEdge_flash (s : State) (t : Nat) (upper : Bool) (rising : Bool) (value : Nat) :
    (s.stampEdge t upper rising value).boot.flash = s.boot.flash := by rfl
@[simp] theorem laneLevel_flash (s : State) (t : Nat) (upper : Bool) (rising : Bool) (value : Nat) :
    (s.laneLevel t upper rising value).boot.flash = s.boot.flash := by simp [State.laneLevel]
@[simp] theorem shadowEdge_flash (s : State) (t : Nat) (upper : Bool) (rising : Bool) (value : Nat) :
    (s.shadowEdge t upper rising value).boot.flash = s.boot.flash :=
      (shadowEdge_keeps s t upper rising value).flash rfl

/-! Capture units. -/

@[simp] theorem arm_flash (s : State) (u : Nat) (at_ : Int) (shot : Option Shot) :
    (s.arm u at_ shot).boot.flash = s.boot.flash := by rfl
@[simp] theorem dropSums_flash (s : State) (u : Nat) (ended : Bool) :
    (s.dropSums u ended).boot.flash = s.boot.flash := by simp [State.dropSums]
@[simp] theorem missTrigger_flash (s : State) (u : Nat) (t : Int) :
    (s.missTrigger u t).boot.flash = s.boot.flash := (missTrigger_keeps s u t).flash rfl
@[simp] theorem missKept_flash (s : State) (u : Nat) (t : Int) :
    (s.missKept u t).boot.flash = s.boot.flash := by simp [State.missKept]
@[simp] theorem disarm_flash (s : State) (u : Nat) : (s.disarm u).boot.flash = s.boot.flash := by
  unfold State.disarm
  split <;> simp
@[simp] theorem trigger_flash (s : State) (u : Nat) (source : Nat) (t : Int) :
    (s.trigger u source t).boot.flash = s.boot.flash := (trigger_keeps s u source t).flash rfl
@[simp] theorem shotArms_flash (s : State) (x : Shot) :
    (s.shotArms x).boot.flash = s.boot.flash := by simp [State.shotArms]

/-! Shots. -/

@[simp] theorem settle_flash (s : State) (x : Shot) (edge : Bool) :
    (s.settle x edge).boot.flash = s.boot.flash := (settle_keeps s x edge).flash rfl
@[simp] theorem compTemp_flash (s : State) (src : Nat) :
    (s.compTemp src).2.boot.flash = s.boot.flash := (compTemp_keeps s src).flash rfl
@[simp] theorem pulseWidths_flash (s : State) (b : List Byte) (pattern : List Byte) (energy : Nat) (cal : List Byte) :
    (s.pulseWidths b pattern energy cal).2.boot.flash = s.boot.flash := by
  simp only [State.pulseWidths]
  repeat' split
  all_goals simp
@[simp] theorem deliver_flash (s : State) (x : Shot) (offset : Nat) :
    (s.deliver x offset).boot.flash = s.boot.flash := (deliver_keeps s x offset).flash rfl
@[simp] theorem energise_flash (s : State) (x : Shot) (request : Nat) :
    (s.energise x request).2.boot.flash = s.boot.flash := by
  simp only [State.energise]
  repeat' split
  all_goals simp
@[simp] theorem advance_flash (s : State) (q : Prog) (p : Plan) (number : Long) :
    (s.advance q p number).boot.flash = s.boot.flash := (advance_keeps s q p number).flash rfl
@[simp] theorem commitShot_flash (s : State) (q : Prog) (p : Plan) (number : Long) :
    (s.commitShot q p number).boot.flash = s.boot.flash := by simp [State.commitShot]
@[simp] theorem takeNumber_flash (s : State) :
    (s.takeNumber).2.boot.flash = s.boot.flash := (takeNumber_keeps s).flash rfl
@[simp] theorem announce_flash (s : State) (pid : Nat) (number : Long) (fire : Nat) :
    (s.announce pid number fire).boot.flash = s.boot.flash := (announce_keeps s pid number fire).flash rfl
@[simp] theorem releaseWait_flash (s : State) (pid : Nat) (at_ : Nat) (late : Bool) (tmo : Bool) :
    (s.releaseWait pid at_ late tmo).boot.flash = s.boot.flash := by rfl
@[simp] theorem stampShot_flash (s : State) (x : Shot) (t : Int) (tFlags : Nat) (cond : Word) :
    (s.stampShot x t tFlags cond).boot.flash = s.boot.flash := (stampShot_keeps s x t tFlags cond).flash rfl
@[simp] theorem stampMissing_flash (s : State) (x : Shot) (cond : Word) :
    (s.stampMissing x cond).boot.flash = s.boot.flash := by simp [State.stampMissing]
@[simp] theorem padFall_flash (s : State) (x : Shot) (t : Nat) :
    (s.padFall x t).boot.flash = s.boot.flash := by simp [State.padFall]
@[simp] theorem noteLead_flash (s : State) (x : Shot) (own : Int) :
    (s.noteLead x own).boot.flash = s.boot.flash := by rfl
@[simp] theorem padStamp_flash (s : State) (x : Shot) (p : Stamp) :
    (s.padStamp x p).boot.flash = s.boot.flash := by simp [State.padStamp]
@[simp] theorem pulseTick_flash (s : State) : (s.pulseTick).boot.flash = s.boot.flash := (pulseTick_keeps s).flash rfl
@[simp] theorem markUnlit_flash (s : State) : (s.markUnlit).boot.flash = s.boot.flash := (markUnlit_keeps s).flash rfl

/-! Migrations. -/

@[simp] theorem mapChanged_flash (s : State) :
    (s.mapChanged).boot.flash = s.boot.flash := (mapChanged_keeps s).flash rfl
@[simp] theorem mapAdd_flash (s : State) (kind : Nat) (origin : Nat) (failed : Nat) (spare : Nat) :
    (s.mapAdd kind origin failed spare).boot.flash = s.boot.flash :=
      (mapAdd_keeps s kind origin failed spare).flash rfl
@[simp] theorem mapMade_flash (s : State) (cls : Nat) (obj : Nat) (causes : List Nat) :
    (s.mapMade cls obj causes).boot.flash = s.boot.flash := by
  simp [State.mapMade]
@[simp] theorem mapRemove_flash (s : State) (kind : Nat) (failed : Nat) :
    (s.mapRemove kind failed).boot.flash = s.boot.flash := by simp [State.mapRemove]
@[simp] theorem migEnd_flash (s : State) (m : Migration) (code : Nat) :
    (s.migEnd m code).boot.flash = s.boot.flash := (migEnd_keeps s m code).flash rfl
@[simp] theorem migDone_flash (s : State) (m : Migration) (outcome : Nat) (failed : Nat) (spare : Nat) :
    (s.migDone m outcome failed spare).boot.flash = s.boot.flash := (migDone_keeps s m outcome failed spare).flash rfl
@[simp] theorem migVoid_flash (s : State) (m : Migration) :
    (s.migVoid m).boot.flash = s.boot.flash := by simp [State.migVoid]
@[simp] theorem spareFails_flash (s : State) (kind : Nat) (unit : Nat) :
    (s.spareFails kind unit).boot.flash = s.boot.flash := by
  unfold State.spareFails
  split <;> simp
@[simp] theorem queueMig_flash (s : State) (kind : Nat) (failed : Nat) (stopped : Nat) (owner : Option
    (Origin × Half)) :
    (s.queueMig kind failed stopped owner).boot.flash = s.boot.flash := by
  unfold State.queueMig
  split <;> simp
@[simp] theorem repaired_flash (s : State) (cls : Nat) (obj : Nat) (causes : List Nat) :
    (s.repaired cls obj causes).boot.flash = s.boot.flash := by simp [State.repaired]
@[simp] theorem faultMig_flash (s : State) (kind : Nat) (failed : Nat) :
    (s.faultMig kind failed).2.boot.flash = s.boot.flash := by rfl
@[simp] theorem rowDone_flash (s : State) (kind : Nat) (since : Nat) (spare : Bool) :
    (s.rowDone kind since spare).boot.flash = s.boot.flash := by simp [State.rowDone]

/-! Records. -/

@[simp] theorem loseRecs_flash (s : State) (pid : Nat) (n : Nat) :
    (s.loseRecs pid n).boot.flash = s.boot.flash := (loseRecs_keeps s pid n).flash rfl
@[simp] theorem lateRecs_flash (s : State) (pid : Nat) (n : Nat) :
    (s.lateRecs pid n).boot.flash = s.boot.flash := (lateRecs_keeps s pid n).flash rfl
@[simp] theorem orphan_flash (s : State) : (s.orphan).boot.flash = s.boot.flash := (orphan_keeps s).flash rfl
@[simp] theorem discardRecs_flash (s : State) (pid : Nat) (n : Nat) :
    (s.discardRecs pid n).boot.flash = s.boot.flash := (discardRecs_keeps s pid n).flash rfl
@[simp] theorem takeRec_flash (s : State) (pid : Nat) (r : Rec) :
    (s.takeRec pid r).boot.flash = s.boot.flash := (takeRec_keeps s pid r).flash rfl
@[simp] theorem spread_flash (s : State) (want : List Byte → Bool) (r : Rec) :
    (s.spread want r).boot.flash = s.boot.flash := (spread_keeps s want r).flash rfl
@[simp] theorem faultTdc_flash (s : State) (t : Nat) (cause : Nat) (stopped : Nat) :
    (s.faultTdc t cause stopped).boot.flash = s.boot.flash := by simp [State.faultTdc]
@[simp] theorem faultEngine_flash (s : State) (e : Nat) (cause : Nat) (stopped : Nat) :
    (s.faultEngine e cause stopped).boot.flash = s.boot.flash := by simp [State.faultEngine]

/-! The parts of a tick. -/

@[simp] theorem ptpTick_flash (s : State) (p : Nat) :
    (s.ptpTick p).boot.flash = s.boot.flash := (ptpTick_keeps s p).flash rfl
@[simp] theorem superframe_flash (s : State) :
    (s.superframe).boot.flash = s.boot.flash := (superframe_keeps s).flash rfl
@[simp] theorem tick_flash (s : State) : (s.tick).boot.flash = s.boot.flash := by simp [State.tick]

/-! Hit channels and event inputs. -/

@[simp] theorem setThreshold_flash (s : State) (c : Nat) (lower : Nat) (upper : Nat) :
    (s.setThreshold c lower upper).boot.flash = s.boot.flash := by rfl
@[simp] theorem dropStamp_flash (s : State) (t : Nat) (tick : Nat) :
    (s.dropStamp t tick).boot.flash = s.boot.flash := (dropStamp_keeps s t tick).flash rfl
@[simp] theorem merge_flash (s : State) (t : Nat) (now : Nat) :
    (s.merge t now).boot.flash = s.boot.flash := (merge_keeps s t now).flash rfl
@[simp] theorem noteBlind_flash (s : State) (c : Nat) (value : Nat) :
    (s.noteBlind c value).boot.flash = s.boot.flash := by rfl
@[simp] theorem noteAmbient_flash (s : State) (c : Nat) (over_ : Bool) :
    (s.noteAmbient c over_).boot.flash = s.boot.flash := (noteAmbient_keeps s c over_).flash rfl
@[simp] theorem qualify_flash (s : State) (t : Nat) (upper : Bool) (tap : Nat) (res : Nat) :
    (s.qualify t upper tap res).boot.flash = s.boot.flash := by rfl
@[simp] theorem splitShots_flash (s : State) (c : Nat) (lo : Int) :
    (s.splitShots c lo).boot.flash = s.boot.flash := by rfl
@[simp] theorem eventTick_flash (s : State) : (s.eventTick).boot.flash = s.boot.flash := (eventTick_keeps s).flash rfl

/-! Engines. -/

@[simp] theorem mergeGroup_flash (s : State) (g : Nat) :
    (s.mergeGroup g).boot.flash = s.boot.flash := (mergeGroup_keeps s g).flash rfl
@[simp] theorem binPairing_flash (s : State) (e : Nat) (group : Nat) (chan : Nat) (bin : Nat) :
    (s.binPairing e group chan bin).boot.flash = s.boot.flash := by simp [State.binPairing]
@[simp] theorem binHeld_flash (s : State) (e : Nat) :
    (s.binHeld e).boot.flash = s.boot.flash := by simp [State.binHeld]
@[simp] theorem keepHit_flash (s : State) (e : Nat) (g : Nat) (n : Long) (chan : Nat) (t : Timed) :
    (s.keepHit e g n chan t).boot.flash = s.boot.flash := by
  simp only [State.keepHit]
  repeat' split
  all_goals simp
@[simp] theorem pairOne_flash (s : State) (e : Nat) (g : Nat) (h : Hit) (x : EngShot) (t : Timed) (bin : Nat) :
    (s.pairOne e g h x t bin).boot.flash = s.boot.flash := by simp [State.pairOne]
@[simp] theorem pairHit_flash (s : State) (e : Nat) (g : Nat) (h : Hit) :
    (s.pairHit e g h).boot.flash = s.boot.flash := by simp [State.pairHit]
@[simp] theorem qualifyStamp_flash (s : State) (g : Nat) (chan : Nat) (h : HitStamp) (rest : List HitStamp) :
    (s.qualifyStamp g chan h rest).boot.flash = s.boot.flash := by simp [State.qualifyStamp]
@[simp] theorem releaseOne_flash (s : State) (e : Nat) (g : Nat) :
    (s.releaseOne e g).1.boot.flash = s.boot.flash := by
  simp only [State.releaseOne]
  repeat' split
  all_goals simp
@[simp] theorem releaseHit_flash (s : State) (e : Nat) (g : Nat) (fuel : Nat) :
    (s.releaseHit e g fuel).boot.flash = s.boot.flash := by
  induction fuel generalizing s with
  | zero => rfl
  | succ n ih =>
    have h : (s.releaseOne e g).1.boot.flash = s.boot.flash := by simp
    unfold State.releaseHit
    split
    · next t ht => rw [ht] at h; exact h
    · next t ht => rw [ht] at h; rw [ih, h]
@[simp] theorem endRun_flash (s : State) (e : Nat) : (s.endRun e).boot.flash = s.boot.flash := by
  unfold State.endRun
  split <;> simp
@[simp] theorem abortImage_flash (s : State) (e : Nat) (i : Nat) :
    (s.abortImage e i).1.boot.flash = s.boot.flash := by
  simp only [State.abortImage]
  repeat' split
  all_goals simp

/-! Primitives. -/

@[simp] theorem setRun_flash (s : State) (e : Nat) (f : EngRun → EngRun) :
    (s.setRun e f).boot.flash = s.boot.flash := by rfl
@[simp] theorem closePast_flash (s : State) (e : Nat) : (s.closePast e).boot.flash = s.boot.flash := by
  simp only [State.closePast]
  repeat' split
  all_goals simp
@[simp] theorem nextWord_flash (s : State) (e : Nat) (cycles : Nat) :
    (s.nextWord e cycles).boot.flash = s.boot.flash := by simp [State.nextWord]
@[simp] theorem prim_flash (s : State) (e : Nat) (op : Nat) {f : State → Engine → EngRun → Prim → State}
    (hf : ∀ y r w, (f s y r w).boot.flash = s.boot.flash) : (s.prim e op f).boot.flash = s.boot.flash := by
  unfold State.prim
  split
  · simp [hf]
  · rfl
@[simp] theorem primEng_flash (s : State) (e op : Nat) (f : Engine → EngRun → Prim → Engine) :
    (s.primEng e op f).boot.flash = s.boot.flash :=
  prim_flash s e op fun _ _ _ => setEng_flash _ _ _
@[simp] theorem setSlot_flash (s : State) (e : Nat) (i : Nat) (v : Int) :
    (s.setSlot e i v).boot.flash = s.boot.flash := (setSlot_keeps _ _ _ _).flash rfl
@[simp] theorem setVec_flash (s : State) (e : Nat) (v : Nat) (l : List Int) :
    (s.setVec e v l).boot.flash = s.boot.flash := by simp [State.setVec]
@[simp] theorem primVec_flash (s : State) (e : Nat) (op : Nat) (dst : Prim → Nat)
    (f : Engine → Prim → List Int → List Int → List Int) :
    (s.primVec e op dst f).boot.flash = s.boot.flash := by simp [State.primVec]
@[simp] theorem setPeaks_flash (s : State) (e : Nat) (c : Nat) (l : List Peak) :
    (s.setPeaks e c l).boot.flash = s.boot.flash := by rfl
@[simp] theorem engineRec_flash (s : State) (e : Nat) (r : Rec) : (s.engineRec e r).boot.flash = s.boot.flash := by
  simp only [State.engineRec]
  repeat' split
  all_goals simp
@[simp] theorem drain_flash (s : State) (e : Nat) : (s.drain e).boot.flash = s.boot.flash := by simp [State.drain]
@[simp] theorem pumpRecs_flash (s : State) (e : Nat) : (s.pumpRecs e).boot.flash = s.boot.flash := by
  simp only [State.pumpRecs]
  repeat' split
  all_goals simp
@[simp] theorem queueRecs_flash (s : State) (e : Nat) (l : List Rec) :
    (s.queueRecs e l).boot.flash = s.boot.flash := by
  simp only [State.queueRecs]
  repeat' split
  all_goals simp

/-! Detection. -/

@[simp] theorem runCond_flash (s : State) (e : Nat) (flag : Nat) (status : Nat) :
    (s.runCond e flag status).boot.flash = s.boot.flash := by rfl
@[simp] theorem mapPeaks_flash (s : State) (e : Nat) (y : Engine) (r : EngRun) (f : Peak → Peak) :
    (s.mapPeaks e y r f).boot.flash = s.boot.flash := by rfl

/-! The digitiser. -/

@[simp] theorem markLane_flash (s : State) (l : Nat) (bit_ : Nat) (n : Nat) (from_ : Int) (invalid : Bool)
    (was : Nat) (wasTaps : List Int) (quiet : Bool) :
    (s.markLane l bit_ n from_ invalid was wasTaps quiet).boot.flash = s.boot.flash := by rfl
@[simp] theorem dropLane_flash (s : State) (l : Nat) :
    (s.dropLane l).boot.flash = s.boot.flash := by simp [State.dropLane]
@[simp] theorem setGain_flash (s : State) (i : Nat) (range : Nat) (quiet : Bool) :
    (s.setGain i range quiet).boot.flash = s.boot.flash := by
  simp only [State.setGain]
  repeat' split
  all_goals simp
@[simp] theorem takeDin_flash (s : State) (i : Nat) :
    (s.takeDin i).boot.flash = s.boot.flash := by simp [State.takeDin]
@[simp] theorem setShadow_flash (s : State) (l : Nat) (f : LaneFilter) :
    (s.setShadow l f).boot.flash = s.boot.flash := by rfl
@[simp] theorem applyFilter_flash (s : State) (l : Nat) :
    (s.applyFilter l).boot.flash = s.boot.flash := by simp [State.applyFilter]
@[simp] theorem storeCapture_flash (s : State) (u : Nat) (c : Capture) :
    (s.storeCapture u c).boot.flash = s.boot.flash := by rfl
@[simp] theorem freeArea_flash (s : State) (u : Nat) (bytes : Nat) :
    (s.freeArea u bytes).boot.flash = s.boot.flash := by rfl
@[simp] theorem settleFrees_flash (s : State) (gone : List Rec) :
    (s.settleFrees gone).boot.flash = s.boot.flash := (settleFrees_keeps s gone).flash rfl
@[simp] theorem handCapture_flash (s : State) (u : Nat) (c : Capture) :
    (s.handCapture u c).boot.flash = s.boot.flash := by
  simp only [State.handCapture]
  repeat' split
  all_goals simp
@[simp] theorem finishCapture_flash (s : State) (u : Nat) (c : Capture) :
    (s.finishCapture u c).boot.flash = s.boot.flash := by simp [State.finishCapture]
@[simp] theorem missCrossings_flash (s : State) (u : Nat) (codes : List Byte) :
    (s.missCrossings u codes).boot.flash = s.boot.flash := by simp [State.missCrossings]
@[simp] theorem leaveRearm_flash (s : State) (u : Nat) :
    (s.leaveRearm u).boot.flash = s.boot.flash := by simp [State.leaveRearm]
@[simp] theorem setSlice_flash (s : State) (j : Nat) (f : Slice → Slice) :
    (s.setSlice j f).boot.flash = s.boot.flash := by rfl
@[simp] theorem takePosition_flash (s : State) (j : Nat) (pos : Nat) :
    (s.takePosition j pos).boot.flash = s.boot.flash := by rfl
@[simp] theorem leavePosition_flash (s : State) (j : Nat) (state : Nat) :
    (s.leavePosition j state).boot.flash = s.boot.flash := by rfl
@[simp] theorem failedFrom_flash (s : State) : (s.failedFrom).2.boot.flash = s.boot.flash := by rfl
@[simp] theorem failedSamples_flash (s : State) (pos : Nat) :
    (s.failedSamples pos).boot.flash = s.boot.flash := by rfl
@[simp] theorem rotate_flash (s : State) (j : Nat) : (s.rotate j).boot.flash = s.boot.flash := by
  simp only [State.rotate]
  repeat' split
  all_goals simp
@[simp] theorem shadowFailed_flash (s : State) (j : Nat) :
    (s.shadowFailed j).boot.flash = s.boot.flash := by simp [State.shadowFailed]

/-! The flash. -/

/-- A write of the flash keeps its form (19 R469). -/
theorem flashWrite_formed {s : State} (off : Nat) (d : List Byte) (h : s.flashFormed) :
    (s.flashWrite off d).flashFormed := by
  refine Sparse.wf_setMany _ _ _ ?_
  split
  · exact Sparse.wf_clear _ _ _ h
  · exact h
/-- A stored object keeps the form of the flash. -/
theorem flashStore_formed {s : State} (off size : Nat) (d : List Byte) (h : s.flashFormed) :
    (s.flashStore off size d).flashFormed := Sparse.wf_setMany _ _ _ (Sparse.wf_clear _ _ _ h)

/-! Spares and repair. -/

@[simp] theorem changeover_flash (s : State) (old : Nat) (new : Nat) (failed : Bool) :
    (s.changeover old new failed).boot.flash = s.boot.flash := by simp [State.changeover]
@[simp] theorem frozenLoss_flash (s : State) (g : Nat) (e : Nat) (since : Nat) :
    (s.frozenLoss g e since).boot.flash = s.boot.flash := (frozenLoss_keeps s g e since).flash rfl
@[simp] theorem markAbort_flash (s : State) (e : Nat) (i : Nat) :
    (s.markAbort e i).boot.flash = s.boot.flash := by rfl
@[simp] theorem lostWord_flash (s : State) (e : Nat) (off : Nat) : (s.lostWord e off).boot.flash = s.boot.flash := by
  simp only [State.lostWord]
  repeat' split
  all_goals simp
@[simp] theorem groupUnserved_flash (s : State) (m : Migration) (g e : Nat) :
    (s.groupUnserved m g e).boot.flash = s.boot.flash := by
  unfold State.groupUnserved
  simp only [mapMade_flash, migDone_flash, mapAdd_flash, report_flash, setEng_flash]
  refine (flash_foldl (fun t r => ?_) _ _).trans (suspendAll_flash _ _ _ _)
  cases r <;> simp
@[simp] theorem faultPair_flash (s : State) (cause : Nat) :
    (s.faultPair cause).boot.flash = s.boot.flash := by simp [State.faultPair]
@[simp] theorem failRun_flash (s : State) (r : CalRun) (step : Option Nat) (cause : Nat) :
    (s.failRun r step cause).boot.flash = s.boot.flash := by
  unfold State.failRun
  repeat' split
  all_goals simp
@[simp] theorem endBackground_flash (s : State) : (s.endBackground).boot.flash = s.boot.flash := by
  unfold State.endBackground
  extract_lets s1 s2 b s3 r
  have h1 : s1.boot.flash = s.boot.flash := by unfold s1; split <;> simp
  have h2 : s2.boot.flash = s1.boot.flash := flash_foldl (fun t x => by
    obtain ⟨_ | y, i⟩ := x
    · rfl
    · dsimp only; split <;> simp) _ _
  have h3 : s3.boot.flash = s2.boot.flash := by unfold s3; split <;> simp [b]
  split <;> simp [h3, h2, h1]
@[simp] theorem replay_flash (s : State) : s.replay.boot.flash = s.boot.flash := by
  have he (l : List (Nat × Word)) (t : State) : (l.foldl (fun t e => t.setReg e.1 e.2) t).boot.flash = t.boot.flash :=
    flash_foldl (fun t e => by rfl) _ _
  have h := flash_foldl (f := fun (t : State) (x : JournalRec) =>
    if x.applied then t else x.effect.foldl (fun t e => t.setReg e.1 e.2) t) (fun t x => by split <;> simp
        [he]) s.rep.journal s
  exact h
@[simp] theorem drainsResume_flash (s : State) : (s.drainsResume).boot.flash = s.boot.flash := by rfl
@[simp] theorem testFailed_flash (s : State) (mask : Nat) (x : Nat × Nat) :
    (s.testFailed mask x).boot.flash = s.boot.flash := by
  unfold State.testFailed
  repeat' split
  all_goals simp
@[simp] theorem releaseDone_flash (s : State) (failed : List (Nat × Nat)) (x : Nat × Nat) :
    (s.releaseDone failed x).boot.flash = s.boot.flash := by
  unfold State.releaseDone
  repeat' split
  all_goals simp

/-! Steering loops. -/

@[simp] theorem setLoop_flash (s : State) (k : Nat) (f : ControlLoop → ControlLoop) :
    (s.setLoop k f).boot.flash = s.boot.flash := by rfl
@[simp] theorem swapDone_flash (s : State) : (s.swapDone).boot.flash = s.boot.flash := by
  unfold State.swapDone
  split <;> simp
@[simp] theorem setPoint_flash (s : State) (k : Nat) (w : Int) : (s.setPoint k w).boot.flash = s.boot.flash := by rfl
@[simp] theorem safeOutput_flash (s : State) (sel : Nat) :
    (s.safeOutput sel).boot.flash = s.boot.flash := by simp [State.safeOutput]
@[simp] theorem driveOutput_flash (s : State) (sel : Nat) (u : Int) :
    (s.driveOutput sel u).boot.flash = s.boot.flash := by simp [State.driveOutput]
@[simp] theorem loopOff_flash (s : State) (k : Nat) :
    (s.loopOff k).boot.flash = s.boot.flash := by simp [State.loopOff]
@[simp] theorem hkInput_flash (s : State) (code : Nat) :
    (s.hkInput code).2.2.boot.flash = s.boot.flash := (hkInput_keeps s code).flash rfl
@[simp] theorem measure_flash (s : State) (l : ControlLoop) (first : Bool) :
    (s.measure l first).2.2.2.boot.flash = s.boot.flash := by
  simp only [State.measure]
  repeat' split
  all_goals simp
@[simp] theorem feedForward_flash (s : State) (l : ControlLoop) :
    (s.feedForward l).2.2.boot.flash = s.boot.flash := (feedForward_keeps s l).flash rfl
@[simp] theorem evaluate_flash (s : State) (k : Nat) : (s.evaluate k).boot.flash = s.boot.flash := by
  unfold State.evaluate
  extract_lets l b fresh
  split
  next m stale y u hx =>
  have hu : u.boot.flash = s.boot.flash := by
    split at hx
    · rw [← measure_flash s l l.entered.isSome, hx]
    · cases hx; rfl
  extract_lets meas mf lim vPrev z ff v e p d r r' core out v1 v2 v3 v4 v5
  have h1 : v1.boot.flash = u.boot.flash := (setLoop_flash _ _ _).trans (feedForward_flash u z)
  have h2 : v2.boot.flash = v1.boot.flash := by unfold v2; split <;> rfl
  have h3 : v3.boot.flash = v2.boot.flash := (flash_ite _ _ _).trans (ite_self _)
  have h4 : v4.boot.flash = v3.boot.flash := (flash_ite _ _ _).trans (ite_self _)
  have h5 : v5.boot.flash = v4.boot.flash := (flash_ite _ _ _).trans (ite_self _)
  rw [driveOutput_flash, h5, h4, h3, h2, h1, hu]
@[simp] theorem encoderTick_flash (s : State) :
    (s.encoderTick).boot.flash = s.boot.flash := (encoderTick_keeps s).flash rfl
@[simp] theorem loopsSafe_flash (s : State) : (s.loopsSafe).boot.flash = s.boot.flash := by rfl
@[simp] theorem bothLost_flash (s : State) : (s.bothLost).boot.flash = s.boot.flash := by simp [State.bothLost]
@[simp] theorem dacSafe_flash (t : State) (n : Nat) :
    (t.dacSafe n).boot.flash = t.boot.flash := by simp [State.dacSafe]
@[simp] theorem dacsSafe_flash (s : State) : (s.dacsSafe).boot.flash = s.boot.flash := by simp [State.dacsSafe]
@[simp] theorem bothEnded_flash (s : State) : (s.bothEnded).boot.flash = s.boot.flash := by simp [State.bothEnded]

/-! Time bases. -/

@[simp] theorem setPtp_flash (s : State) (p : Nat) (f : PtpBase → PtpBase) :
    (s.setPtp p f).boot.flash = s.boot.flash := by rfl
@[simp] theorem ptpLog_flash (s : State) (p : Nat) (kind : Nat) (length : Nat) (lseq : Nat) (flags_ : Nat)
    (t : Nat) (tShot : Int) (data : List Byte) :
    (s.ptpLog p kind length lseq flags_ t tShot data).boot.flash = s.boot.flash := by simp [State.ptpLog]
@[simp] theorem jumpRefused_flash (s : State) : (s.jumpRefused).st.boot.flash = s.boot.flash := by rfl
@[simp] theorem correct_flash (s : State) (p : Nat) (isStep : Bool) (v : Int) :
    (s.correct p isStep v).boot.flash = s.boot.flash := by rfl
@[simp] theorem setWarm_flash (s : State) (on : Bool) (cause : Nat) :
    (s.setWarm on cause).boot.flash = s.boot.flash := (setWarm_keeps s on cause).flash rfl
@[simp] theorem qualifyPin_flash (s : State) :
    (s.qualifyPin).boot.flash = s.boot.flash := (qualifyPin_keeps s).flash rfl
@[simp] theorem crossImage_flash (s : State) (source : Nat) (t : Int) :
    (s.crossImage source t).2.boot.flash = s.boot.flash := by simp [State.crossImage]

/-! Housekeeping. -/

@[simp] theorem setHkInput_flash (s : State) (n : Nat) (cfg : Nat) :
    (s.setHkInput n cfg).boot.flash = s.boot.flash := by simp [State.setHkInput]
@[simp] theorem hkBoundary_flash (s : State) (i : Nat) :
    (s.hkBoundary i).boot.flash = s.boot.flash := (hkBoundary_keeps s i).flash rfl
@[simp] theorem hkTake_flash (s : State) (j : Nat) (path : Nat) :
    (s.hkTake j path).boot.flash = s.boot.flash := by simp [State.hkTake]
@[simp] theorem hkLeave_flash (s : State) (i : Nat) (x : HkRun) :
    (s.hkLeave i x).boot.flash = s.boot.flash := (hkLeave_keeps s i x).flash rfl
@[simp] theorem hkCycle_flash (s : State) : (s.hkCycle).boot.flash = s.boot.flash := (hkCycle_keeps s).flash rfl
@[simp] theorem hkNext_flash (s : State) : (s.hkNext).boot.flash = s.boot.flash := (hkNext_keeps s).flash rfl
@[simp] theorem hkTrigger_flash (s : State) : (s.hkTrigger).boot.flash = s.boot.flash := (hkTrigger_keeps s).flash rfl
@[simp] theorem hkGo_flash (s : State) : (s.hkGo).boot.flash = s.boot.flash := (hkGo_keeps s).flash rfl
@[simp] theorem hkTick_flash (s : State) : (s.hkTick).boot.flash = s.boot.flash := (hkTick_keeps s).flash rfl
@[simp] theorem hkValue_flash (s : State) (x : HkRun) (code : Int) (current : Nat) :
    (s.hkValue x code current).2.boot.flash = s.boot.flash := (hkValue_keeps s x code current).flash rfl
@[simp] theorem hkPublished_flash (s : State) (c : Nat) (injected : Bool) :
    (s.hkPublished c injected).boot.flash = s.boot.flash := by simp [State.hkPublished]
@[simp] theorem hkShadowFailed_flash (s : State) (j : Nat) :
    (s.hkShadowFailed j).boot.flash = s.boot.flash := by simp [State.hkShadowFailed]
@[simp] theorem hkReplace_flash (s : State) (j : Nat) (p : Nat) (m : Migration) :
    (s.hkReplace j p m).boot.flash = s.boot.flash := by
  simp only [State.hkReplace]
  repeat' split
  all_goals simp

/-! Thermal management and calibration. -/

@[simp] theorem readSensor_flash (s : State) (n : Nat) (r : Option Int) :
    (s.readSensor n r).boot.flash = s.boot.flash := by simp [State.readSensor]
@[simp] theorem readDie_flash (s : State) : (s.readDie).boot.flash = s.boot.flash := by simp [State.readDie]
@[simp] theorem thermalShutdown_flash (s : State) (z : Nat) : (s.thermalShutdown z).boot.flash = s.boot.flash := by
  unfold State.thermalShutdown
  simp only []
  split <;> simp
@[simp] theorem readZones_flash (s : State) : (s.readZones).boot.flash = s.boot.flash := by
  simp only [State.readZones]
  repeat' split
  all_goals simp
@[simp] theorem storeSet_flash (s : State) (k : Nat) (b : List Byte) :
    (s.storeSet k b).boot.flash = s.boot.flash := by rfl
@[simp] theorem publishSet_flash (s : State) (b : List Byte) :
    (s.publishSet b).boot.flash = s.boot.flash := by simp [State.publishSet]
@[simp] theorem buildSet_flash (s : State) : (s.buildSet).boot.flash = s.boot.flash := by
  simp only [State.buildSet]
  repeat' split
  all_goals simp
@[simp] theorem startRun_flash (s : State) (mask : Nat) (owner : Option (Origin × Half)) (first : Bool) :
    (s.startRun mask owner first).boot.flash = s.boot.flash := by rfl
@[simp] theorem calTick_flash (s : State) : (s.calTick).boot.flash = s.boot.flash := (calTick_keeps s).flash rfl
@[simp] theorem idle_flash (s : State) : (s.idle).boot.flash = s.boot.flash := by simp [State.idle]
@[simp] theorem calEnd_flash (s : State) (r : CalRun) (measured : List (Nat × List Byte)) :
    (s.calEnd r measured).boot.flash = s.boot.flash := by
  unfold State.calEnd
  repeat' split
  all_goals simp

/-! Ethernet. -/

@[simp] theorem nextDatagram_flash (s : State) (p : Nat) :
    (s.nextDatagram p).2.boot.flash = s.boot.flash := by simp [State.nextDatagram]
@[simp] theorem datagram_flash (s : State) (p : Nat) (mac : List Byte) (ip : List Byte) (sport : Nat)
    (dport : Nat) (vlan : Nat) (d : List Byte) (dscp : Nat) :
    (s.datagram p mac ip sport dport vlan d dscp).2.boot.flash = s.boot.flash := by simp [State.datagram]
@[simp] theorem sendDirect_flash (s : State) (p : Fin 4) (frame : List Byte) :
    (s.sendDirect p frame).boot.flash = s.boot.flash := by rfl

/-! The island. -/

@[simp] theorem takeMail_flash (s : State)  : (s.takeMail).boot.flash = s.boot.flash := by
  unfold State.takeMail
  split
  · rfl
  · refine flash_foldl (fun t m => ?_) _ _
    split <;> simp
@[simp] theorem mailPush_flash (s : State) (m : MailOut) : (s.mailPush m).boot.flash = s.boot.flash := by
  unfold State.mailPush
  repeat' split
  all_goals simp
@[simp] theorem safeRecord_flash (s : State) (kind : Nat) (cause : Nat) :
    (s.safeRecord kind cause).boot.flash = s.boot.flash := by simp [State.safeRecord]
@[simp] theorem driveOuts_flash (s : State) (o : List Bool) (cause : Nat) :
    (s.driveOuts o cause).boot.flash = s.boot.flash := by simp [State.driveOuts]
@[simp] theorem abortTest_flash (s : State) : (s.abortTest).boot.flash = s.boot.flash := by
  unfold State.abortTest
  split <;> simp
@[simp] theorem safeFault_flash (s : State) (n : Nat) :
    (s.safeFault n).boot.flash = s.boot.flash := by simp [State.safeFault]
@[simp] theorem safeState_flash (s : State) (st : IslandState) (cause : Nat) :
    (s.safeState st cause).boot.flash = s.boot.flash := by simp [State.safeState]
@[simp] theorem checkDisc_flash (s : State) : (s.checkDisc).boot.flash = s.boot.flash := by
  unfold State.checkDisc
  split <;> simp
@[simp] theorem checkGuardTest_flash (s : State) : (s.checkGuardTest).boot.flash = s.boot.flash := by
  unfold State.checkGuardTest
  split <;> simp
@[simp] theorem trackGuard_flash (s : State) : (s.trackGuard).boot.flash = s.boot.flash := by rfl
@[simp] theorem checkSpeed_flash (s : State) : (s.checkSpeed).boot.flash = s.boot.flash := by
  unfold State.checkSpeed
  split <;> simp
@[simp] theorem checkWatchdog_flash (s : State) :
    (s.checkWatchdog).boot.flash = s.boot.flash := by simp [State.checkWatchdog]
@[simp] theorem takeCopy_flash (s : State) (q : Demands) (port : Nat) (raw : List Byte) :
    (s.takeCopy q port raw).1.boot.flash = s.boot.flash := by
  simp only [State.takeCopy]
  repeat' split
  all_goals simp
@[simp] theorem answerAgain_flash (s : State) (r : Deferred) : (s.answerAgain r).boot.flash = s.boot.flash := by
  unfold State.answerAgain
  refine (flash_foldl (fun t x => ?_) _ _).trans rfl
  split <;> simp
@[simp] theorem paramReply_flash (s : State) (r : Deferred) (status : Nat) (detail : Nat) :
    (s.paramReply r status detail).boot.flash = s.boot.flash := by simp [State.paramReply]
@[simp] theorem decideParam_flash (s : State) (b : List Byte) : (s.decideParam b).2.2.boot.flash = s.boot.flash := by
  simp only [State.decideParam]
  repeat' split
  all_goals simp
@[simp] theorem paramAlone_flash (s : State) (r : Deferred) :
    (s.paramAlone r).boot.flash = s.boot.flash := by simp [State.paramAlone]
@[simp] theorem takeParam_flash (s : State) (port : Nat) (r : Deferred) :
    (s.takeParam port r).boot.flash = s.boot.flash := by
  simp only [State.takeParam]
  repeat' split
  all_goals simp
@[simp] theorem samplePins_flash (s : State) (p : SafetyPins) : (s.samplePins p).boot.flash = s.boot.flash := by rfl
@[simp] theorem takeMailIn_flash (s : State)  : (s.takeMailIn).1.boot.flash = s.boot.flash := by
  have h (l : List MailIn) (x : State × Demands) : 
      (l.foldl (fun (x : State × Demands) m =>
        match m with
        | .telegram port d => x.1.takeCopy x.2 port d
        | .param port r => (x.1.takeParam port r, x.2)) x).1.boot.flash = x.1.boot.flash := by
    induction l generalizing x with
    | nil => rfl
    | cons m l ih => cases m <;> simp [ih]
  exact h _ _
@[simp] theorem resetFaults_flash (s : State) :
    (s.resetFaults).boot.flash = s.boot.flash := by simp [State.resetFaults]
@[simp] theorem islandStart_flash (s : State) (faults : Nat) :
    (s.islandStart faults).boot.flash = s.boot.flash := by simp [State.islandStart]
@[simp] theorem islandReset_flash (s : State) (cause : Nat) :
    (s.islandReset cause).boot.flash = s.boot.flash := by simp [State.islandReset]

/-! Memories. -/

@[simp] theorem dropStaged_flash (s : State) (pid : Nat) :
    (s.dropStaged pid).boot.flash = s.boot.flash := (dropStaged_keeps s pid).flash rfl
@[simp] theorem tableError_flash (s : State) (off : Nat) :
    (s.tableError off).boot.flash = s.boot.flash := by simp [State.tableError]
@[simp] theorem coreError_flash (s : State) (pair : Nat) :
    (s.coreError pair).boot.flash = s.boot.flash := by simp [State.coreError]
@[simp] theorem ingressError_flash (s : State) (i : Nat) : (s.ingressError i).boot.flash = s.boot.flash := by
  unfold State.ingressError
  repeat' split
  all_goals simp
@[simp] theorem sramUe_flash (s : State) (a : Nat) : (s.sramUe a).boot.flash = s.boot.flash := by
  simp only [State.sramUe]
  repeat' split
  all_goals simp
@[simp] theorem frameError_flash (s : State) : (s.frameError).boot.flash = s.boot.flash := by
  simp only [State.frameError]
  repeat' split
  all_goals simp
@[simp] theorem captureError_flash (s : State) (u : Nat) (off : Nat) :
    (s.captureError u off).boot.flash = s.boot.flash := by
  simp only [State.captureError]
  repeat' split
  all_goals simp
@[simp] theorem snapshotError_flash (s : State) :
    (s.snapshotError).boot.flash = s.boot.flash := by simp [State.snapshotError]
@[simp] theorem dramUe_flash (s : State) (addr : Nat) : (s.dramUe addr).boot.flash = s.boot.flash := by
  simp only [State.dramUe]
  repeat' split
  all_goals simp
@[simp] theorem cutArea_flash (s : State) (base : Nat) (size : Nat) (unit : Nat) :
    (s.cutArea base size unit).boot.flash = s.boot.flash := by rfl
@[simp] theorem failChannel_flash (s : State) (c : Nat) :
    (s.failChannel c).boot.flash = s.boot.flash := by simp [State.failChannel]
@[simp] theorem loadDelays_flash (s : State) (c : Nat) (set_ : List Byte) :
    (s.loadDelays c set_).boot.flash = s.boot.flash := by rfl
@[simp] theorem train_flash (s : State) (c : Nat) (passes : List Bool) :
    (s.train c passes).boot.flash = s.boot.flash := by
  unfold State.train
  repeat' split
  all_goals simp

/-! Arriving packets. -/

@[simp] theorem discard_flash (s : State) (o : Origin) (raw : List Byte) (entered : Nat) :
    (s.discard o raw entered).boot.flash = s.boot.flash := by
  unfold State.discard
  split <;> simp
@[simp] theorem receive_flash (s : State) (o : Origin) (raw : List Byte) :
    (s.receive o raw).boot.flash = s.boot.flash := by
  unfold State.receive
  split
  · rfl
  split
  · split
    · simp
    · exact serve_flash (P := (· = s.boot.flash)) _ _ _ rfl fun u p hu => hu
  · split
    · next x hx => simp [taken_flash _ _ _ _ hx]
    · split <;> simp
@[simp] theorem readWindow_flash (s : State) (w : Nat) (off : Nat) (n : Nat) :
    (s.readWindow w off n).2.boot.flash = s.boot.flash := by
  unfold State.readWindow
  split <;> simp
@[simp] theorem touchSnapshot_flash (s : State) (w : Nat) :
    (s.touchSnapshot w).boot.flash = s.boot.flash := by simp [State.touchSnapshot]

/-! The tree. -/

@[simp] theorem setPort_flash (s : State) (p : Nat) (f : LinkPort → LinkPort) :
    (s.setPort p f).boot.flash = s.boot.flash := by rfl
@[simp] theorem treeRowOf_flash (s : State) (d : Nat) : (s.treeRowOf d).2.boot.flash = s.boot.flash := by
  simp only [State.treeRowOf]
  repeat' split
  all_goals simp
@[simp] theorem gainLock_flash (s : State) (p : Nat) :
    (s.gainLock p).boot.flash = s.boot.flash := by simp [State.gainLock]
@[simp] theorem publishTree_flash (s : State) :
    (s.publishTree).boot.flash = s.boot.flash := by simp [State.publishTree]
@[simp] theorem treeWarm_flash (s : State) : (s.treeWarm).boot.flash = s.boot.flash := by simp [State.treeWarm]
@[simp] theorem linkJoined_flash (s : State) (p : Nat) :
    (s.linkJoined p).boot.flash = s.boot.flash := by simp [State.linkJoined]
@[simp] theorem resyncSeen_flash (s : State) (p : Nat) : (s.resyncSeen p).boot.flash = s.boot.flash := by
  unfold State.resyncSeen
  split <;> simp
@[simp] theorem parentExchange_flash (s : State) (p : Nat) (x : Exchange) :
    (s.parentExchange p x).boot.flash = s.boot.flash := by simp [State.parentExchange]
@[simp] theorem childExchange_flash (s : State) (p : Nat) (x : Exchange) :
    (s.childExchange p x).boot.flash = s.boot.flash := by simp [State.childExchange]
@[simp] theorem loadShot_flash (s : State) (n : Int) :
    (s.loadShot n).boot.flash = s.boot.flash := by simp [State.loadShot]
@[simp] theorem loadStep_flash (s : State) (p : Nat) :
    (s.loadStep p).boot.flash = s.boot.flash := by simp [State.loadStep]
@[simp] theorem joinStep_flash (s : State) (p : Nat) : (s.joinStep p).boot.flash = s.boot.flash := by
  simp only [State.joinStep]
  repeat' split
  all_goals simp
@[simp] theorem parentLost_flash (s : State) : (s.parentLost).boot.flash = s.boot.flash := by simp [State.parentLost]
@[simp] theorem linkDown_flash (s : State) (p : Nat) :
    (s.linkDown p).boot.flash = s.boot.flash := by simp [State.linkDown]
@[simp] theorem skipEntry_flash (s : State) (pid : Nat) : (s.skipEntry pid).boot.flash = s.boot.flash := by
  unfold State.skipEntry
  split <;> simp
@[simp] theorem skipSync_flash (s : State) (pid : Nat) (cause : Nat) (counter : Nat) (n : Nat) :
    (s.skipSync pid cause counter n).boot.flash = s.boot.flash := by
  induction n generalizing s with
  | zero => rfl
  | succ n ih =>
    unfold State.skipSync
    split
    · simp [ih]
    · rfl
@[simp] theorem noteSeen_flash (s : State) (dev : Nat) (tag : Nat) :
    (s.noteSeen dev tag).boot.flash = s.boot.flash := by rfl
@[simp] theorem awaited_flash (s : State) (kind : Nat) (sess : Byte) (q : Half) :
    (s.awaited kind sess q).2.boot.flash = s.boot.flash := by
  unfold State.awaited
  repeat' split
  all_goals simp
@[simp] theorem returned_flash (s : State) (p : Nat) (kind : Nat) (dev : Nat) (sess : Byte) (data : List Byte) :
    (s.returned p kind dev sess data).boot.flash = s.boot.flash := by
  unfold State.returned
  repeat' split
  all_goals simp
@[simp] theorem incidentFrame_flash (s : State) (p : Nat) (dev : Nat) (sess : Byte) (seq : Half) (data : List Byte) :
    (s.incidentFrame p dev sess seq data).boot.flash = s.boot.flash := by
  simp only [State.incidentFrame]
  repeat' split
  all_goals simp
@[simp] theorem recordFrame_flash (s : State) (dev : Nat) (sess : Byte) (data : List Byte) :
    (s.recordFrame dev sess data).boot.flash = s.boot.flash := by
  simp only [State.recordFrame]
  repeat' split
  all_goals simp
@[simp] theorem forwardIncident_flash (s : State) (i : Incident) :
    (s.forwardIncident i).boot.flash = s.boot.flash := by simp [State.forwardIncident]

/-! Output. -/

@[simp] theorem sendUp_flash (s : State) (f : Frame) :
    (s.sendUp f).boot.flash = s.boot.flash := by simp [State.sendUp]
@[simp] theorem closeFrame_flash (s : State) (pid : Nat) (isLast : Bool) :
    (s.closeFrame pid isLast).boot.flash = s.boot.flash := by
  simp only [State.closeFrame]
  repeat' split
  all_goals simp
@[simp] theorem place_flash (s : State) (pid : Nat) (r : Rec) : (s.place pid r).boot.flash = s.boot.flash := by
  simp only [State.place]
  repeat' split
  all_goals simp
@[simp] theorem markDry_flash (s : State) (n : Nat) : (s.markDry n).boot.flash = s.boot.flash := by rfl
@[simp] theorem writeBack_flash (s : State) (n : Nat) (length : Nat) :
    (s.writeBack n length).boot.flash = s.boot.flash := by rfl
@[simp] theorem sendFragment_flash (s : State) (p : Fin 4) (f : Frame) (x : Nat × List Byte) :
    (s.sendFragment p f x).boot.flash = s.boot.flash := by simp [State.sendFragment]
@[simp] theorem nextFragment_flash (s : State) (p : Fin 4) : (s.nextFragment p).boot.flash = s.boot.flash := by
  unfold State.nextFragment
  split <;> simp
@[simp] theorem sendPacketUdp_flash (s : State) (p : Fin 4) (mac : Long) (ip : Word) (port : Half)
    (tag : Option Half) (cmd : Nat) (d : List Byte) :
    (s.sendPacketUdp p mac ip port tag cmd d).boot.flash = s.boot.flash := by simp [State.sendPacketUdp]
@[simp] theorem startFrame_flash (s : State) (v : Nat) (f : Frame) :
    (s.startFrame v f).boot.flash = s.boot.flash := by simp [State.startFrame]
@[simp] theorem startPcie_flash (s : State) (f : Frame) :
    (s.startPcie f).boot.flash = s.boot.flash := by simp [State.startPcie]
@[simp] theorem startPacket_flash (s : State) (v : Nat) (dest : Origin) (p : Packet) :
    (s.startPacket v dest p).boot.flash = s.boot.flash := by rfl
@[simp] theorem frameDone_flash (s : State) (v : Nat) (f : Frame) :
    (s.frameDone v f).boot.flash = s.boot.flash := by simp [State.frameDone]
@[simp] theorem writeFrame_flash (s : State) (f : Frame) :
    (s.writeFrame f).boot.flash = s.boot.flash := by simp [State.writeFrame]
@[simp] theorem writeReply_flash (s : State) (n : Fin 4) (p : Packet) :
    (s.writeReply n p).boot.flash = s.boot.flash := by
  unfold State.writeReply
  split <;> simp
@[simp] theorem routeDown_flash (s : State) (v : Nat) :
    (s.routeDown v).boot.flash = s.boot.flash := (routeDown_keeps s v).flash rfl

/-! The endpoint. -/

@[simp] theorem enableRing_flash (s : State) (n : Fin 4) :
    (s.enableRing n).boot.flash = s.boot.flash := by simp [State.enableRing]
@[simp] theorem cmdTail_flash (s : State) (n : Fin 4) (tail : Nat) (packets : List (List Byte)) :
    (s.cmdTail n tail packets).boot.flash = s.boot.flash := by
  simp only [State.cmdTail]
  repeat' split
  all_goals simp
@[simp] theorem endDry_flash (s : State) (n : Fin 4) (since : Nat) :
    (s.endDry n since).boot.flash = s.boot.flash := by rfl
@[simp] theorem replyTail_flash (s : State) (n : Fin 4) (tail : Nat) (lens : List Nat) :
    (s.replyTail n tail lens).boot.flash = s.boot.flash := by
  unfold State.replyTail
  repeat' split
  all_goals simp
@[simp] theorem dataTail_flash (s : State) (n : Fin 16) (tail : Nat) (bufs : List RingBuf) :
    (s.dataTail n tail bufs).boot.flash = s.boot.flash := by
  unfold State.dataTail
  split <;> simp
@[simp] theorem resetRegs_flash (s : State) (l : List Nat) :
    (s.resetRegs l).boot.flash = s.boot.flash := (resetRegs_keeps s l).flash rfl
@[simp] theorem resetRings_flash (s : State) : (s.resetRings).boot.flash = s.boot.flash := by
  unfold State.resetRings
  split <;> simp
@[simp] theorem arpAsked_flash (s : State) (p : Fin 4) (target : Word) (mac : Long) (ip : Word) :
    (s.arpAsked p target mac ip).boot.flash = s.boot.flash := by simp [State.arpAsked]

/-! Clocks. -/

@[simp] theorem clockReport_flash (s : State) (c : Clock) :
    (s.clockReport c).boot.flash = s.boot.flash := by simp [State.clockReport]
@[simp] theorem loseRefin_flash (s : State) : (s.loseRefin).boot.flash = s.boot.flash := by simp [State.loseRefin]
@[simp] theorem loseXsys_flash (s : State) : (s.loseXsys).boot.flash = s.boot.flash := by simp [State.loseXsys]
@[simp] theorem ethStop_flash (s : State) (p : Nat) :
    (s.ethStop p).boot.flash = s.boot.flash := (ethStop_keeps s p).flash rfl
@[simp] theorem ethStart_flash (s : State) (p : Nat) :
    (s.ethStart p).boot.flash = s.boot.flash := by simp [State.ethStart]
@[simp] theorem loseEth_flash (s : State) : (s.loseEth).boot.flash = s.boot.flash := by simp [State.loseEth]

/-! Register writes. -/

@[simp] theorem poke_flash (s : State) (w : RegWrite) : (s.poke w).boot.flash = s.boot.flash := by simp [State.poke]
@[simp] theorem leaveTree_flash (s : State) : (s.leaveTree).boot.flash = s.boot.flash := by simp [State.leaveTree]
@[simp] theorem linkPorts_flash (s : State) : (s.linkPorts).boot.flash = s.boot.flash := by simp [State.linkPorts]
@[simp] theorem ethSet_flash (t : State) (p : Nat) (old : Nat) :
    (t.ethSet p old).boot.flash = t.boot.flash := by simp [State.ethSet]
theorem atInst_flash (a base count stride : Nat) {f : Nat → State → State}
    (hf : ∀ n (t : State), (f n t).boot.flash = t.boot.flash) (t : State) :
    (match inst a base count stride with | some n => f n t | none => t).boot.flash = t.boot.flash := by
  split
  · exact hf _ _
  · rfl
@[simp] theorem regEffect_flash (s t : State) (w : RegWrite) : (s.regEffect t w).boot.flash = t.boot.flash := by
  unfold State.regEffect
  extract_lets a v at_ back pk free ring cmd rpl data t1 t2 t3 t4
  have hat (base count stride) (f : Nat → State → State) (hf : ∀ n (t : State), (f n t).boot.flash = t.boot.flash)
      (u : State) : (at_ base count stride f u).boot.flash = u.boot.flash := atInst_flash a _ _ _ hf u
  clear_value at_
  have hback (u : State) : (back u).boot.flash = u.boot.flash := by rfl
  have hfree (n) (u : State) : (free n u).boot.flash = u.boot.flash := by rfl
  have hring (f n) (u : State) : (ring f n u).boot.flash = u.boot.flash := by rfl
  have hdata (n) (u : State) : (data n u).boot.flash = u.boot.flash := by rfl
  split
  · split <;> rfl
  · split
    · simp
    · simp [hat]
  · refine (hat _ _ _ _ ?_ _).trans ((hat _ _ _ _ ?_ _).trans (hat _ _ _ _ ?_ _)) <;> intro n u
    · simp [hback]
    · rfl
    · simp
  · simp [hat, hback]
  · refine hat _ _ _ _ (fun n u => ?_) _
    split <;> rfl
  · split
    · simp
    · simp [hat, hfree]
  · have h1 : t1.boot.flash = t.boot.flash := by simp [t1, hat, hdata, cmd, rpl, hring]
    have h2 : t2.boot.flash = t1.boot.flash := hat _ _ _ _ (fun n u => by split <;> simp [hback]) _
    have h3 : t3.boot.flash = t2.boot.flash := hat _ _ _ _ (fun n u => by split <;> simp [hback]) _
    have h4 : t4.boot.flash = t3.boot.flash := hat _ _ _ _ (fun n u => by split <;> simp [hback]) _
    split <;> simp [hat, h1, h2, h3, h4]
  · split
    · simp
    · simp [hat, hback]
  · split
    · simp
    · rfl
  · rfl
@[simp] theorem clearLatched_flash (t : State) (w : RegWrite) : (t.clearLatched w).boot.flash = t.boot.flash := by
  unfold State.clearLatched
  split <;> simp
@[simp] theorem startAction_flash (t : State) (w : RegWrite) : (t.startAction w).boot.flash = t.boot.flash := by
  unfold State.startAction
  repeat' split
  all_goals simp
@[simp] theorem tentative_flash (s : State) (ws : List RegWrite) :
    (s.tentative ws).boot.flash = s.boot.flash := by simp [State.tentative]
@[simp] theorem writeRegs_flash (s : State) (ws : List RegWrite) : (s.writeRegs ws).boot.flash = s.boot.flash := by
  simp [State.writeRegs, State.tentative]
@[simp] theorem performWrites_flash (s : State) (ws : List RegWrite) (detail : Nat → Nat → Nat) {f : State → Done}
    (hf : ∀ t : State, (f t).st.boot.flash = t.boot.flash) :
    (s.performWrites ws detail f).st.boot.flash = s.boot.flash := by
  unfold State.performWrites
  split
  · simp
  · simp [hf]

/-! Boot and resets. -/

@[simp] theorem slotRegs_flash (s : State) : (s.slotRegs).boot.flash = s.boot.flash := by
  unfold State.slotRegs
  exact flash_foldl (fun _ _ => (setRegN_flash _ _ _).trans (setRegN_flash _ _ _)) _ _
theorem writeHeaders_formed {s : State} (slot : Nat) (h : s.flashFormed) : (s.writeHeaders slot).flashFormed :=
  flashStore_formed _ _ _ h
@[simp] theorem switchTo_flash (s : State) (slot : Nat) :
    (s.switchTo slot).boot.flash = s.boot.flash := by simp [State.switchTo]
@[simp] theorem resetAct_flash (scope : Nat) (s : State) : (resetAct scope s).st.boot.flash = s.boot.flash := by
  unfold resetAct
  split <;> simp
@[simp] theorem restoreEntry_flash (s : State) (e : MapEntry) : (s.restoreEntry e).boot.flash = s.boot.flash := by
  simp only [State.restoreEntry]
  repeat' split
  all_goals simp
@[simp] theorem restoreMap_flash (s : State) : (s.restoreMap).boot.flash = s.boot.flash := by simp [State.restoreMap]
@[simp] theorem readMap_flash (s : State) : (s.readMap).boot.flash = s.boot.flash := by
  unfold State.readMap
  split <;> simp
@[simp] theorem resetMeasuring_flash (s : State) :
    (s.resetMeasuring).boot.flash = s.boot.flash := by simp [State.resetMeasuring]
@[simp] theorem resetWhole_flash (s : State) (cause : Nat) (bootId : Word) (mode : Nat) (held : Bool) :
    (s.resetWhole cause bootId mode held).boot.flash = s.boot.flash := by simp [State.resetWhole]
@[simp] theorem bringTime_flash (s : State) (lock : Bool) :
    (s.bringTime lock).boot.flash = s.boot.flash := by simp [State.bringTime]
@[simp] theorem bringCal_flash (s : State) : (s.bringCal).boot.flash = s.boot.flash := by simp [State.bringCal]
@[simp] theorem hardRepair_flash (s : State) : (s.hardRepair).boot.flash = s.boot.flash := by simp [State.hardRepair]
@[simp] theorem bringMem_flash (s : State) (passes : List (List Bool)) :
    (s.bringMem passes).boot.flash = s.boot.flash := by
  unfold State.bringMem
  split <;> simp
@[simp] theorem bringChainFault_flash (s : State) (board : Nat) :
    (s.bringChainFault board).boot.flash = s.boot.flash := by simp [State.bringChainFault]
@[simp] theorem bringChain_flash (s : State) (p w) : (s.bringChain p w).boot.flash = s.boot.flash := by
  unfold State.bringChain
  extract_lets emt u
  have hu : u.boot.flash = s.boot.flash := by rfl
  clear_value u
  split
  · exact hu
  · extract_lets boards bytes wireLen chainLen v wire emt' x
    split
    · exact hu
    · have hv : v.boot.flash = u.boot.flash := (setFld_flash _ _ _ _ _).trans (setRegN_flash _ _ _)
      have hx : x.boot.flash = v.boot.flash := (flash_ite _ _ _).trans (ite_self _)
      rw [← hu, ← hv, ← hx]
      clear_value x v
      split
      · rfl
      · split
        · exact bringChainFault_flash _ _
        · split
          · rfl
          · split
            · exact bringChainFault_flash _ _
            · exact chainLatched_flash _
@[simp] theorem preloadPair_flash (s : State) (i : Nat) (w : RegWrite) :
    (s.preloadPair i w).boot.flash = s.boot.flash := by simp [State.preloadPair]
@[simp] theorem preload_flash (s : State) : (s.preload).boot.flash = s.boot.flash := by
  unfold State.preload
  split <;> simp

/-! Every command's outcome. -/

/-- A command's outcome keeps the form of the flash. -/
def State.keepsFlashForm (s : State) (r : Res) : Prop := ∀ t, r = .next t → s.flashFormed → t.flashFormed

theorem State.keepsFlashForm.of_eq {s t : State} (h : t.boot.flash = s.boot.flash) : s.keepsFlashForm (.next t) := by
  rintro u ⟨⟩ hs
  simpa [State.flashFormed, h] using hs

theorem State.keepsFlashForm.of_formed {s t : State} (h : s.flashFormed → t.flashFormed) :
    s.keepsFlashForm (.next t) := by
  rintro u ⟨⟩ hs
  exact h hs

theorem State.keepsFlashForm.serve {op : OpSpec} {s : State} {o : Origin} {r : Request}
    (ha : ∀ (u : State) p, (op.act u o p).st.boot.flash = u.boot.flash) : s.keepsFlashForm (.next (s.serve op o r)) :=
  .of_eq (serve_flash (P := (· = s.boot.flash)) s o r rfl fun u p hu => (ha u p).trans hu)

/-! Sessions: the commands. -/

theorem execNop_flash (o : Origin) (r : Request) (s : State) : s.keepsFlashForm (execNop o r s) :=
  .serve fun u p => by simp [nopOp]
theorem execIdent_flash (o : Origin) (r : Request) (s : State) : s.keepsFlashForm (execIdent o r s) :=
  .serve fun u p => by simp [identOp]
theorem execStatus_flash (o : Origin) (r : Request) (s : State) : s.keepsFlashForm (execStatus o r s) :=
  .serve fun u p => by simp [statusOp]
theorem execSessionOpen_flash (o : Origin) (r : Request) (s : State) : s.keepsFlashForm (execSessionOpen o r s) :=
  .serve fun u p => by simp [sessionOpenOp]
theorem execSessionClose_flash (o : Origin) (r : Request) (s : State) : s.keepsFlashForm (execSessionClose o r s) :=
  .serve fun u p => by simp [sessionCloseOp]
theorem execStageTimeout_flash (o : Origin) (s : State) : s.keepsFlashForm (execStageTimeout o s) := by
  refine .of_eq ?_
  repeat' split
  all_goals simp

/-! Staging and tables: the commands. -/

theorem execTableLoad_flash (o : Origin) (r : Request) (s : State) : s.keepsFlashForm (execTableLoad o r s) :=
  .serve fun u p => by simp [tableLoadOp]
theorem execTableCommit_flash (o : Origin) (r : Request) (s : State) : s.keepsFlashForm (execTableCommit o r s) :=
  .serve fun u p => by
    simp only [tableCommitOp]
    repeat' split
    all_goals simp
theorem execTableDelete_flash (o : Origin) (r : Request) (s : State) : s.keepsFlashForm (execTableDelete o r s) :=
  .serve fun u p => by simp [tableDeleteOp]
theorem execTableList_flash (o : Origin) (r : Request) (s : State) : s.keepsFlashForm (execTableList o r s) :=
  .serve fun u p => by simp [tableListOp]

/-! Commands of programs: the commands. -/

theorem execProgSubmit_flash (o : Origin) (r : Request) (s : State) : s.keepsFlashForm (execProgSubmit o r s) :=
  .serve fun u p => by
    simp only [progSubmitOp]
    repeat' split
    all_goals simp
theorem execProgStart_flash (o : Origin) (r : Request) (s : State) : s.keepsFlashForm (execProgStart o r s) :=
  .serve fun u p => by
    unfold progStartOp
    dsimp only
    split
    · rfl
    · refine doneIf_flash _ _ ?_
      split <;> simp
theorem execProgStopEndOfSegment_flash (o : Origin) (r : Request) (s : State) :
    s.keepsFlashForm (execProgStopEndOfSegment o r s) :=
  .serve fun u p => by simp [progStopOp]
theorem execProgStopImmediate_flash (o : Origin) (r : Request) (s : State) :
    s.keepsFlashForm (execProgStopImmediate o r s) :=
  .serve fun u p => by simp [progStopOp]
theorem execProgWithdraw_flash (o : Origin) (r : Request) (s : State) : s.keepsFlashForm (execProgWithdraw o r s) :=
  .serve fun u p => by
    simp only [progWithdrawOp]
    repeat' split
    all_goals simp
theorem execProgStatus_flash (o : Origin) (r : Request) (s : State) : s.keepsFlashForm (execProgStatus o r s) :=
  .serve fun u p => by
    simp only [progStatusOp]
    repeat' split
    all_goals simp

/-! Emission: the commands. -/

theorem execFireConfig_flash (o : Origin) (r : Request) (s : State) : s.keepsFlashForm (execFireConfig o r s) :=
  .serve fun u p => by
    simp only [fireConfigOp]
    repeat' split
    all_goals simp
theorem execMatrixConfig_flash (o : Origin) (r : Request) (s : State) : s.keepsFlashForm (execMatrixConfig o r s) :=
  .serve fun u p => by
    simp only [matrixConfigOp]
    repeat' split
    all_goals simp
theorem execBudgetSet_flash (o : Origin) (r : Request) (s : State) : s.keepsFlashForm (execBudgetSet o r s) :=
  .serve fun u p => by
    simp only [budgetSetOp]
    repeat' split
    all_goals simp
theorem execShortTest_flash (o : Origin) (r : Request) (s : State) : s.keepsFlashForm (execShortTest o r s) :=
  .serve fun u p => doneIf_flash _ _ (by rfl)
theorem execShortTestDone_flash (readings : List (Nat × Nat)) (s : State) :
    s.keepsFlashForm (execShortTestDone readings s) :=
  .of_eq (by split <;> simp)
theorem execChainWrite_flash (o : Origin) (r : Request) (sdi : List Byte) (s : State) :
    s.keepsFlashForm (execChainWrite o r sdi s) :=
  .serve fun u p => by simp [chainWriteOp]
theorem execWireWrite_flash (o : Origin) (r : Request) (s : State) : s.keepsFlashForm (execWireWrite o r s) :=
  .serve fun u p => by simp [wireWriteOp]
theorem execWireDone_flash (s : State) : s.keepsFlashForm (execWireDone s) := .of_eq (by split <;> simp)
theorem execOtPinShutdown_flash (s : State) : s.keepsFlashForm (execOtPinShutdown s) := .of_eq (by simp)
theorem execOtClear_flash (value : Word) (pinLow : Bool) (s : State) :
    s.keepsFlashForm (execOtClear value pinLow s) :=
  .of_eq (by simp)

/-! Shots: the commands. -/

theorem execBudgetIdleUpdate_flash (g : Fin 4) (s : State) : s.keepsFlashForm (execBudgetIdleUpdate g s) :=
  .of_eq (by simp)
theorem execShotCommit_flash (s : State) : s.keepsFlashForm (execShotCommit s) := by
  refine .of_eq ?_
  repeat' split
  all_goals simp
theorem execProgramStartInstant_flash (pid : Fin 64) (s : State) : s.keepsFlashForm (execProgramStartInstant pid s) :=
  .of_eq (by split <;> simp)
theorem execWaitReleased_flash (pid : Fin 64) (s : State) : s.keepsFlashForm (execWaitReleased pid s) := by
  refine .of_eq ?_
  repeat' split
  all_goals simp
theorem execWaitTimeout_flash (pid : Fin 64) (s : State) : s.keepsFlashForm (execWaitTimeout pid s) := by
  refine .of_eq ?_
  repeat' split
  all_goals simp
theorem execFireEdge_flash (stamp : Option Stamp) (s : State) : s.keepsFlashForm (execFireEdge stamp s) := by
  refine .of_eq ?_
  repeat' split
  all_goals simp
theorem execFireStampMissing_flash (shot : Long) (s : State) : s.keepsFlashForm (execFireStampMissing shot s) :=
  .of_eq (by split <;> simp)
theorem execChainLatch_flash (s : State) : s.keepsFlashForm (execChainLatch s) := by
  refine .of_eq ?_
  repeat' split
  all_goals simp
theorem execChainLatTimeout_flash (s : State) : s.keepsFlashForm (execChainLatTimeout s) := .of_eq (by split <;> simp)

/-! Hit channels and event inputs: the commands. -/

theorem execThreshSet_flash (o : Origin) (r : Request) (s : State) : s.keepsFlashForm (execThreshSet o r s) :=
  .serve fun u p => by simp [threshSetOp]
theorem execChanEnable_flash (o : Origin) (r : Request) (s : State) : s.keepsFlashForm (execChanEnable o r s) :=
  .serve fun u p => by simp [chanEnableOp]
theorem execCaptureMode_flash (o : Origin) (r : Request) (s : State) : s.keepsFlashForm (execCaptureMode o r s) :=
  .serve fun u p => by simp [captureModeOp]
theorem execEventInput_flash (o : Origin) (r : Request) (s : State) : s.keepsFlashForm (execEventInput o r s) :=
  .serve fun u p => by simp [eventInputOp]
theorem shadowed_flash (s : State) (swap : Option (Nat × Nat)) (new tick : Nat) (upper rising : Bool) (value : Nat) :
    (s.shadowed swap new tick upper rising value).boot.flash = s.boot.flash := by
  unfold State.shadowed
  split <;> simp
theorem edgeMet_flash (s : State) (swap : Option (Nat × Nat)) (q tick : Nat) (upper rising : Bool) (value : Nat) :
    (s.edgeMet swap q tick upper rising value).boot.flash = s.boot.flash := by
  simp [State.edgeMet, shadowed_flash]
theorem meetEdge_flash (s : State) (c : Fin 512) (q : Nat) (h : HitStamp) :
    (s.meetEdge c q h).boot.flash = s.boot.flash := by
  unfold State.meetEdge
  extract_lets w full x
  have hx : x.boot.flash = s.boot.flash := by
    rw [← (edgeStamped_keeps s c h).flash rfl]
    unfold x
    split <;> simp [w]
  split_ifs
  · simp
  · exact ((hitTriggers_keeps x c h).flash rfl).trans hx
  · exact hx
theorem execComparatorEdge_flash (c : Fin 512) (upper rising : Bool) (stamp : Stamp) (s : State) :
    s.keepsFlashForm (execComparatorEdge c upper rising stamp s) := by
  change s.keepsFlashForm (exec (.comparatorEdge c upper rising stamp) s)
  by_cases hl : s.edgeLives c upper
  · cases he : s.edgeTaken c upper rising
    · rw [execComparatorEdge_unstamped hl he]
      exact .of_eq (laneLevel_flash ..)
    · rw [execComparatorEdge_stamped rfl rfl rfl rfl hl he]
      exact .of_eq ((meetEdge_flash ..).trans (edgeMet_flash ..))
  · rw [execComparatorEdge_off (by
      simpa [State.edgeLives, or_iff_not_imp_left] using hl)]
    exact .of_eq rfl
theorem execPulserInject_flash (t : Fin 567) (upper : Bool) (stamp : Stamp) (s : State) :
    s.keepsFlashForm (execPulserInject t upper stamp s) := by
  refine .of_eq ?_
  simp only []
  repeat' split
  all_goals simp
theorem execLiveTableUpdate_flash (t : Fin 567) (upper : Bool) (s : State) :
    s.keepsFlashForm (execLiveTableUpdate t upper s) :=
  .of_eq (by simp)
theorem execLaneHold_flash (t : Fin 567) (upper : Bool) (s : State) : s.keepsFlashForm (execLaneHold t upper s) := by
  refine .of_eq ?_
  simp only []
  repeat' split
  all_goals simp
theorem execThresholdApply_flash (c : Fin 512) (s : State) : s.keepsFlashForm (execThresholdApply c s) :=
  .of_eq (by split <;> simp)
theorem execWatermarkStall_flash (t : Fin 567) (s : State) : s.keepsFlashForm (execWatermarkStall t s) :=
  .of_eq (by simp)
theorem execEvEdge_flash (k : Fin 8) (rising : Bool) (stamp : Stamp) (s : State) :
    s.keepsFlashForm (execEvEdge k rising stamp s) := by
  change s.keepsFlashForm (exec (.evEdge k rising stamp) s)
  cases hd : s.auxDead (15 + k)
  · by_cases he : evUnstamped (s.fld (HCH_EV_CFG k) 1 0) rising
    · rw [execEvEdge_unstamped hd he]
      exact .of_eq (laneLevel_flash ..)
    · rw [execEvEdge_stamped rfl rfl rfl rfl rfl rfl hd he]
      refine .of_eq ?_
      split_ifs
      · rw [blindEdge_flash, shadowed_flash, merge_flash]
      · rw [dropStamp_flash, stampEdge_flash, shadowed_flash, merge_flash]
      · rw [setLane_flash, stampEdge_flash, shadowed_flash, merge_flash]
  · rw [execEvEdge_dead hd]
    exact .of_eq rfl
theorem execFreqMeasure_flash (o : Origin) (r : Request) (s : State) : s.keepsFlashForm (execFreqMeasure o r s) :=
  .serve fun u p => by simp [freqMeasureOp]
theorem execFreqGateClose_flash (k : Fin 8) (s : State) : s.keepsFlashForm (execFreqGateClose k s) := by
  refine .of_eq ?_
  repeat' split
  all_goals simp
theorem execAmbientCheck_flash (c : Fin 512) (s : State) : s.keepsFlashForm (execAmbientCheck c s) := .of_eq (by simp)

/-! Engines: the commands. -/

theorem execEngLoad_flash (o : Origin) (r : Request) (s : State) : s.keepsFlashForm (execEngLoad o r s) :=
  .serve fun u p => by simp [engLoadOp]
theorem execEngCommit_flash (o : Origin) (r : Request) (s : State) : s.keepsFlashForm (execEngCommit o r s) :=
  .serve fun u p => by
    unfold engCommitOp
    dsimp only
    split
    · refine (doneIf_flash _ _ ?_).trans (by simp)
      split <;> simp
    · simp
    · simp
theorem execEngMap_flash (o : Origin) (r : Request) (s : State) : s.keepsFlashForm (execEngMap o r s) :=
  .serve fun u p => by simp [engMapOp]
theorem engControlOp_flash (a : Nat) (u : State) (o : Origin) (p : Packet) :
    ((engControlOp a).act u o p).st.boot.flash = u.boot.flash := by
  unfold engControlOp
  split
  · simp [engRunOp]
  · exact doneIf_flash _ _ (by rfl)
theorem execEngControlRun_flash (o : Origin) (r : Request) (s : State) : s.keepsFlashForm (execEngControlRun o r s) :=
  .serve fun u p => engControlOp_flash _ u o p
theorem execEngControlHalt_flash (o : Origin) (r : Request) (s : State) : s.keepsFlashForm
    (execEngControlHalt o r s) :=
  .serve fun u p => engControlOp_flash _ u o p
theorem execEngineTimer_flash (e : Fin 68) (s : State) : s.keepsFlashForm (execEngineTimer e s) := by
  refine .of_eq ?_
  simp only []
  repeat' split
  all_goals simp
theorem execPassOpen_flash (e : Fin 68) (shot : Long) (s : State) : s.keepsFlashForm (execPassOpen e shot s) :=
  .of_eq (by split <;> simp)
theorem execHitRelease_flash (e : Fin 68) (s : State) : s.keepsFlashForm (execHitRelease e s) :=
  .of_eq (by split <;> simp)
theorem execBurstTest_flash (e : Fin 68) (s : State) : s.keepsFlashForm (execBurstTest e s) := by
  refine .of_eq ?_
  simp only []
  repeat' split
  all_goals simp
theorem execPassClose_flash (e : Fin 68) (shot : Long) (s : State) : s.keepsFlashForm (execPassClose e shot s) := by
  refine .of_eq ?_
  simp only []
  repeat' split
  all_goals simp
theorem execGroupHandover_flash (e : Fin 68) (s : State) : s.keepsFlashForm (execGroupHandover e s) :=
  .of_eq (by split <;> simp)
theorem execRunStart_flash (e : Fin 68) (s : State) : s.keepsFlashForm (execRunStart e s) := by
  refine .of_eq ?_
  simp only []
  repeat' split
  all_goals simp

/-! Primitives: the commands. -/

theorem execPrimNop_flash (e : Fin 68) (s : State) : s.keepsFlashForm (execPrimNop e s) := .of_eq (by simp)
theorem execPrimEnd_flash (e : Fin 68) (s : State) : s.keepsFlashForm (execPrimEnd e s) := .of_eq (by split <;> simp)
theorem execPrimBranch_flash (e : Fin 68) (s : State) : s.keepsFlashForm (execPrimBranch e s) := .of_eq (by simp)
theorem execPrimLoop_flash (e : Fin 68) (s : State) : s.keepsFlashForm (execPrimLoop e s) := .of_eq (by simp)
theorem execPrimWait_flash (e : Fin 68) (s : State) : s.keepsFlashForm (execPrimWait e s) :=
  .of_eq (by split <;> simp)
theorem execWaitResume_flash (e : Fin 68) (s : State) : s.keepsFlashForm (execWaitResume e s) := by
  refine .of_eq ?_
  repeat' split
  all_goals simp
theorem execPrimChan_flash (e : Fin 68) (s : State) : s.keepsFlashForm (execPrimChan e s) := .of_eq (by simp)
theorem execPrimSetv_flash (e : Fin 68) (s : State) : s.keepsFlashForm (execPrimSetv e s) := .of_eq (by simp)
theorem execPrimMovv_flash (e : Fin 68) (s : State) : s.keepsFlashForm (execPrimMovv e s) := .of_eq (by simp)
theorem execPrimAddv_flash (e : Fin 68) (s : State) : s.keepsFlashForm (execPrimAddv e s) := .of_eq (by simp)
theorem execPrimSubv_flash (e : Fin 68) (s : State) : s.keepsFlashForm (execPrimSubv e s) := .of_eq (by simp)
theorem execPrimMulv_flash (e : Fin 68) (s : State) : s.keepsFlashForm (execPrimMulv e s) := .of_eq (by simp)
theorem execPrimLdv_flash (e : Fin 68) (s : State) : s.keepsFlashForm (execPrimLdv e s) :=
  .of_eq (prim_flash _ _ _ fun y r w => by split <;> simp)
theorem execPrimStv_flash (e : Fin 68) (s : State) : s.keepsFlashForm (execPrimStv e s) :=
  .of_eq (prim_flash _ _ _ fun y r w => by split <;> simp)
theorem execPrimGetd_flash (e : Fin 68) (s : State) : s.keepsFlashForm (execPrimGetd e s) :=
  .of_eq (prim_flash _ _ _ fun y r w => by split <;> simp)
theorem execPrimGetp_flash (e : Fin 68) (s : State) : s.keepsFlashForm (execPrimGetp e s) := .of_eq (by simp)
theorem execPrimFlag_flash (e : Fin 68) (s : State) : s.keepsFlashForm (execPrimFlag e s) := .of_eq (by simp)
theorem execPrimBin_flash (e : Fin 68) (s : State) : s.keepsFlashForm (execPrimBin e s) := .of_eq (by simp)
theorem execPrimClear_flash (e : Fin 68) (s : State) : s.keepsFlashForm (execPrimClear e s) := .of_eq (by simp)
theorem execPrimCopy_flash (e : Fin 68) (s : State) : s.keepsFlashForm (execPrimCopy e s) := .of_eq (by simp)
theorem execPrimDecay_flash (e : Fin 68) (s : State) : s.keepsFlashForm (execPrimDecay e s) := .of_eq (by simp)
theorem execPrimVadd_flash (e : Fin 68) (s : State) : s.keepsFlashForm (execPrimVadd e s) := .of_eq (by simp)
theorem execPrimVscale_flash (e : Fin 68) (s : State) : s.keepsFlashForm (execPrimVscale e s) := .of_eq (by simp)
theorem execPrimConv_flash (e : Fin 68) (s : State) : s.keepsFlashForm (execPrimConv e s) := .of_eq (by simp)
theorem execPrimVsum_flash (e : Fin 68) (s : State) : s.keepsFlashForm (execPrimVsum e s) := .of_eq (by simp)
theorem execPrimVmax_flash (e : Fin 68) (s : State) : s.keepsFlashForm (execPrimVmax e s) := .of_eq (by simp)
theorem execPrimVmin_flash (e : Fin 68) (s : State) : s.keepsFlashForm (execPrimVmin e s) := .of_eq (by simp)
theorem execPrimPscan_flash (e : Fin 68) (s : State) : s.keepsFlashForm (execPrimPscan e s) := .of_eq (by simp)
theorem execPrimStload_flash (e : Fin 68) (s : State) : s.keepsFlashForm (execPrimStload e s) := .of_eq (by simp)
theorem execEmitResume_flash (e : Fin 68) (s : State) : s.keepsFlashForm (execEmitResume e s) :=
  .of_eq (by split <;> simp)
theorem execPrimEmit_flash (e : Fin 68) (s : State) : s.keepsFlashForm (execPrimEmit e s) :=
  .of_eq (by split <;> simp)
theorem execPrimDump_flash (e : Fin 68) (s : State) : s.keepsFlashForm (execPrimDump e s) := .of_eq (by simp)
theorem execPrimEmitev_flash (e : Fin 68) (s : State) : s.keepsFlashForm (execPrimEmitev e s) := .of_eq (by simp)
theorem execPrimXstamp_flash (e : Fin 68) (s : State) : s.keepsFlashForm (execPrimXstamp e s) := .of_eq (by simp)

/-! Detection: the commands. -/

theorem execPrimPlain_flash (e : Fin 68) (s : State) : s.keepsFlashForm (execPrimPlain e s) := .of_eq (by simp)
theorem execPrimGhost_flash (e : Fin 68) (s : State) : s.keepsFlashForm (execPrimGhost e s) := .of_eq (by simp)
theorem execPrimValley_flash (e : Fin 68) (s : State) : s.keepsFlashForm (execPrimValley e s) := .of_eq (by simp)
theorem execPrimParab_flash (e : Fin 68) (s : State) : s.keepsFlashForm (execPrimParab e s) := .of_eq (by simp)
theorem execPrimCentroid_flash (e : Fin 68) (s : State) : s.keepsFlashForm (execPrimCentroid e s) := .of_eq (by simp)
theorem execPrimColtest_flash (e : Fin 68) (s : State) : s.keepsFlashForm (execPrimColtest e s) := .of_eq (by simp)
theorem execPrimVeil_flash (e : Fin 68) (s : State) : s.keepsFlashForm (execPrimVeil e s) :=
  .of_eq (prim_flash _ _ _ fun y r w => by
    dsimp only
    split
    · simp
    · split <;> simp)
theorem execPrimClassify_flash (e : Fin 68) (s : State) : s.keepsFlashForm (execPrimClassify e s) := .of_eq (by simp)

/-! The digitiser: the commands. -/

theorem execWfAlloc_flash (o : Origin) (r : Request) (s : State) : s.keepsFlashForm (execWfAlloc o r s) :=
  .serve fun u p => by simp [wfAllocOp]
theorem execAllocEffect_flash (s : State) : s.keepsFlashForm (execAllocEffect s) := .of_eq (by split <;> simp)
theorem execWfGain_flash (o : Origin) (r : Request) (s : State) : s.keepsFlashForm (execWfGain o r s) :=
  .serve fun u p => by
    simp only [wfGainOp]
    repeat' split
    all_goals simp
theorem execGainBoundary_flash (input : Fin 16) (s : State) : s.keepsFlashForm (execGainBoundary input s) := by
  refine .of_eq ?_
  simp only []
  repeat' split
  all_goals simp
theorem execGainTimeout_flash (input : Fin 16) (s : State) : s.keepsFlashForm (execGainTimeout input s) :=
  .of_eq (by split <;> simp)
theorem execApply_flash (l : Fin 16) (s : State) : s.keepsFlashForm (execApply l s) := .of_eq (by simp)
theorem execDisarm_flash (u : Fin 16) (s : State) : s.keepsFlashForm (execDisarm u s) := .of_eq (by simp)
theorem execCaptureConfig_flash (o : Origin) (r : Request) (s : State) : s.keepsFlashForm (execCaptureConfig o r s) :=
  .serve fun u p => doneIf_flash _ _ (by simp only [setRegN_flash, setFld_flash])
theorem execCaptureArm_flash (o : Origin) (r : Request) (s : State) : s.keepsFlashForm (execCaptureArm o r s) :=
  .serve fun u p => by simp [captureArmOp]
theorem execCaptureTrigger_flash (o : Origin) (r : Request) (s : State) :
    s.keepsFlashForm (execCaptureTrigger o r s) :=
  .serve fun u p => by simp [captureTriggerOp]
theorem execTriggerSample_flash (u : Fin 16) (codes : List Byte) (s : State) :
    s.keepsFlashForm (execTriggerSample u codes s) := by
  refine .of_eq ?_
  simp only []
  repeat' split
  all_goals simp
theorem execCaptureEnd_flash (u : Fin 16) (codes : List Byte) (s : State) :
    s.keepsFlashForm (execCaptureEnd u codes s) :=
  .of_eq (by simp)
theorem execRearmDone_flash (seen : CaptureSeen) (s : State) : s.keepsFlashForm (execRearmDone seen s) :=
  .of_eq (by simp)
theorem execCaptureAreaFree_flash (seen : CaptureSeen) (s : State) : s.keepsFlashForm (execCaptureAreaFree seen s) :=
  .of_eq (by simp)
theorem execWfdRotationStep_flash (shadow : List Int) (trims : List Byte) (s : State) :
    s.keepsFlashForm (execWfdRotationStep shadow trims s) :=
  .of_eq (by split <;> simp)
theorem sliceLeaves_flash (s : State) (j p : Nat) (m : Migration) :
    (s.sliceLeaves j p m).boot.flash = s.boot.flash := by
  unfold State.sliceLeaves
  split <;> simp
theorem sliceFails_flash (s : State) (j p : Nat) (m : Migration) : (s.sliceFails j p m).boot.flash = s.boot.flash
    := by
  unfold State.sliceFails
  split <;> simp
theorem sliceFault_flash (s : State) (j : Nat) : (s.sliceFault j).boot.flash = s.boot.flash := by
  simp [State.sliceFault]
theorem execWfdSliceMigration_flash (j : Fin 17) (s : State) : s.keepsFlashForm (execWfdSliceMigration j s) := by
  change s.keepsFlashForm (exec (.wfdSliceMigration j) s)
  cases hp : (s.wfdSlice j).pos with
  | none => rw [execWfdSliceMigration_out (.inl hp)]; exact .of_eq rfl
  | some p =>
    by_cases hs : (s.wfdSlice j).state = 4
    · rw [execWfdSliceMigration_out (.inr hs)]; exact .of_eq rfl
    · rw [execWfdSliceMigration_in hp hs]
      refine .of_eq ?_
      simp [sliceLeaves_flash, sliceFails_flash, sliceFault_flash, (sliceMig_keeps s j).flash rfl]

/-! Spares and repair: the commands. -/

theorem execParityError_flash (engine : Bool) (idx : Nat) (s : State) :
    s.keepsFlashForm (execParityError engine idx s) :=
  .of_eq (by simp)
theorem execHeartbeatTimeout_flash (e : Fin 68) (s : State) : s.keepsFlashForm (execHeartbeatTimeout e s) :=
  .of_eq (by simp)
theorem execRunLongerThanWcet_flash (e : Fin 68) (s : State) : s.keepsFlashForm (execRunLongerThanWcet e s) :=
  .of_eq (by split <;> simp)
theorem execTdcMigration_flash (c : Fin 512) (s : State) : s.keepsFlashForm (execTdcMigration c s) := by
  refine .of_eq ?_
  repeat' split
  all_goals simp
theorem execEngineMigration_flash (uncopyable : List Nat) (s : State) :
    s.keepsFlashForm (execEngineMigration uncopyable s) := by
  refine .of_eq ?_
  simp only []
  repeat' split
  all_goals simp
theorem execLockstepMismatch_flash (s : State) : s.keepsFlashForm (execLockstepMismatch s) := .of_eq (by simp)
theorem execThrumiWatchdog_flash (s : State) : s.keepsFlashForm (execThrumiWatchdog s) := .of_eq (by simp)
theorem switchedOver_flash (s : State) (m : Migration) : (s.switchedOver m).boot.flash = s.boot.flash := by
  have hs (u : State) (old : Nat) : (u.superseded m old).boot.flash = u.boot.flash := by
    unfold State.superseded
    split <;> simp
  have hn (u : State) (old new : Nat) : (u.switchNoted m old new).boot.flash = u.boot.flash := by
    unfold State.switchNoted
    split <;> simp
  have hp : s.pairTaken.boot.flash = s.boot.flash := by simp [State.pairTaken]
  rw [State.switchedOver, migDone_flash, hn, hs, hp]
theorem execCcSwitchover_flash (s : State) : s.keepsFlashForm (execCcSwitchover s) := by
  change s.keepsFlashForm (exec .ccSwitchover s)
  cases hs : s.rep.standby
  · rw [execCcSwitchover_idle (.inr hs)]; exact .of_eq rfl
  · cases hw : s.rep.switch with
    | some t =>
      rw [execCcSwitchover_fault hs hw]
      exact .of_eq ((switchedOver_flash _ _).trans ((switchDrawn_keeps s t).flash rfl))
    | none =>
      cases hm : s.mig 4 with
      | none => rw [execCcSwitchover_idle (.inl ⟨hm, hw⟩)]; exact .of_eq rfl
      | some m => rw [execCcSwitchover_command hs hw hm]; exact .of_eq (switchedOver_flash _ _)
theorem execPairRejoin_flash (ok : Bool) (s : State) : s.keepsFlashForm (execPairRejoin ok s) := .of_eq (by simp)
theorem execRepSummary_flash (o : Origin) (r : Request) (s : State) : s.keepsFlashForm (execRepSummary o r s) :=
  .serve fun u p => by simp [repSummaryOp]
theorem execRepMigrate_flash (o : Origin) (r : Request) (s : State) : s.keepsFlashForm (execRepMigrate o r s) :=
  .serve fun u p => by simp [repMigrateOp]
theorem execRepSelftest_flash (o : Origin) (r : Request) (s : State) : s.keepsFlashForm (execRepSelftest o r s) :=
  .serve fun u p => by simp [repSelftestOp]
theorem execBistPeriodic_flash (s : State) : s.keepsFlashForm (execBistPeriodic s) := .of_eq (by simp)
theorem execSelftestDone_flash (failed : List (Nat × Nat)) (s : State) :
    s.keepsFlashForm (execSelftestDone failed s) := by
  refine .of_eq ?_
  simp only []
  repeat' split
  all_goals simp
theorem execRepairMapWriteback_flash (s : State) : s.keepsFlashForm (execRepairMapWriteback s) := by
  refine .of_formed fun h => ?_
  split
  · exact h
  · exact flashStore_formed _ _ _ h

/-! Steering loops: the commands. -/

theorem execLoopCoef_flash (o : Origin) (r : Request) (s : State) : s.keepsFlashForm (execLoopCoef o r s) :=
  .serve fun u p => by simp [loopCoefOp]
theorem execLoopSwap_flash (o : Origin) (r : Request) (s : State) : s.keepsFlashForm (execLoopSwap o r s) :=
  .serve fun u p => doneIf_flash _ _ ((flash_foldl (fun t k => by simp) _ _).trans (flash_foldl
      (fun t k => by rfl) _ _))
theorem execLoopSetpoint_flash (o : Origin) (r : Request) (s : State) : s.keepsFlashForm (execLoopSetpoint o r s) :=
  .serve fun u p => by simp [loopSetpointOp]
theorem execPwmPeriod_flash (n : Fin 16) (s : State) : s.keepsFlashForm (execPwmPeriod n s) := .of_eq (by rfl)
theorem execSpiFrame_flash (miso : BitVec 24) (s : State) : s.keepsFlashForm (execSpiFrame miso s) :=
  .of_eq (by split <;> simp)
theorem execLoopMode_flash (o : Origin) (r : Request) (s : State) : s.keepsFlashForm (execLoopMode o r s) :=
  .serve fun u p => doneIf_flash _ _ (by dsimp only; split_ifs <;> rfl)
theorem execLoopIo_flash (o : Origin) (r : Request) (s : State) : s.keepsFlashForm (execLoopIo o r s) :=
  .serve fun u p => doneIf_flash _ _ (by rfl)
theorem execLoopEvaluation_flash (k : Fin 16) (s : State) : s.keepsFlashForm (execLoopEvaluation k s) := by
  refine .of_eq ?_
  simp only []
  repeat' split
  all_goals simp
theorem execEncoderEdge_flash (n : Fin 2) (chanB : Bool) (rising : Bool) (stamp : Stamp) (s : State) :
    s.keepsFlashForm (execEncoderEdge n chanB rising stamp s) := by
  refine .of_eq ?_
  repeat' split
  all_goals simp
theorem execEncoderIndex_flash (n : Fin 2) (stamp : Stamp) (s : State) :
    s.keepsFlashForm (execEncoderIndex n stamp s) :=
  .of_eq (by simp)

/-! Time bases: the commands. -/

theorem execPtpIngress_flash (p : Fin 4) (udpPort : Half) (payload : List Byte) (tEvt : Quad) (tEdge : Quad)
    (s : State) :
    s.keepsFlashForm (execPtpIngress p udpPort payload tEvt tEdge s) :=
  .of_eq (by simp)
theorem execTimeIncr_flash (o : Origin) (r : Request) (s : State) : s.keepsFlashForm (execTimeIncr o r s) :=
  .serve fun u p => by
    simp only [timeIncrOp]
    repeat' split
    all_goals simp
theorem execTimeStep_flash (o : Origin) (r : Request) (s : State) : s.keepsFlashForm (execTimeStep o r s) :=
  .serve fun u p => by
    simp only [timeStepOp]
    repeat' split
    all_goals simp
theorem execPtpCorrectionEffect_flash (p : Fin 4) (s : State) : s.keepsFlashForm (execPtpCorrectionEffect p s) :=
  .of_eq (by split <;> simp)
theorem execPtpWrap_flash (p : Fin 4) (forward : Bool) (s : State) : s.keepsFlashForm (execPtpWrap p forward s) :=
  .of_eq (by split <;> simp)
theorem execCounterWrap_flash (s : State) : s.keepsFlashForm (execCounterWrap s) := .of_eq (by split <;> simp)
theorem execOcxoWarmChange_flash (level : Bool) (s : State) : s.keepsFlashForm (execOcxoWarmChange level s) :=
  .of_eq (by simp)
theorem execWarmupGate_flash (stamps : List Quad) (s : State) : s.keepsFlashForm (execWarmupGate stamps s) :=
  .of_eq (by simp)
theorem execRefSelect_flash (o : Origin) (r : Request) (s : State) : s.keepsFlashForm (execRefSelect o r s) :=
  .serve fun u p => by
    simp only [refSelectOp]
    repeat' split
    all_goals simp
theorem execRefLock_flash (ok : Bool) (s : State) : s.keepsFlashForm (execRefLock ok s) := .of_eq (by split <;> simp)
theorem execTimeRead_flash (o : Origin) (r : Request) (s : State) : s.keepsFlashForm (execTimeRead o r s) :=
  .serve fun u p => by simp [timeReadOp]
theorem execCrossStamp_flash (o : Origin) (r : Request) (s : State) : s.keepsFlashForm (execCrossStamp o r s) :=
  .serve fun u p => by simp [crossStampOp]
theorem execCrossStampEvent_flash (edge : EventEdge) (s : State) : s.keepsFlashForm (execCrossStampEvent edge s) := by
  refine .of_eq ?_
  repeat' split
  all_goals simp
theorem execCrossStampTimeout_flash (s : State) : s.keepsFlashForm (execCrossStampTimeout s) :=
  .of_eq (by split <;> simp)
theorem execXstampComplete_flash (e : Fin 68) (s : State) : s.keepsFlashForm (execXstampComplete e s) :=
  .of_eq (by split <;> simp)
theorem execLaunchAt_flash (o : Origin) (r : Request) (s : State) : s.keepsFlashForm (execLaunchAt o r s) :=
  .serve fun u p => by simp [launchAtOp]
theorem execLaunch_flash (p : Fin 4) (tEvt : Quad) (tEdge : Quad) (s : State) :
    s.keepsFlashForm (execLaunch p tEvt tEdge s) := by
  refine .of_eq ?_
  simp only []
  repeat' split
  all_goals simp

/-! Housekeeping: the commands. -/

theorem execHkChannel_flash (o : Origin) (r : Request) (s : State) : s.keepsFlashForm (execHkChannel o r s) :=
  .serve fun u p => by simp [hkChannelOp]
theorem execHkSequence_flash (o : Origin) (r : Request) (s : State) : s.keepsFlashForm (execHkSequence o r s) :=
  .serve fun u p => by simp [hkSequenceOp]
theorem execGo_flash (s : State) : s.keepsFlashForm (execGo s) := .of_eq (by simp)
theorem execHkStep_flash (path : Fin 2) (codes : List (BitVec 16)) (iex : Nat) (s : State) : s.keepsFlashForm
    (execHkStep path codes iex s) := by
  refine .of_eq ?_
  split
  · rfl
  next x hx =>
  extract_lets c vals mean clip current dead hka u v hka' w y value z old good stays r z1 z2
  have hu : u.boot.flash = s.boot.flash := (flash_ite _ _ _).trans (ite_self _)
  have hw : w.boot.flash = v.boot.flash := by unfold w; split <;> rfl
  have hz : z1.boot.flash = s.boot.flash := by simp [z1, z, y, hw, v, hu]
  have hz2 : z2.boot.flash = z1.boot.flash := by simp [z2]
  split_ifs
  · rfl
  · simp [hz2, hz]
theorem execHkMonitorReport_flash (path : Fin 2) (short : Bool) (s : State) :
    s.keepsFlashForm (execHkMonitorReport path short s) := by
  refine .of_eq ?_
  repeat' split
  all_goals simp
theorem execHkCycleStart_flash (s : State) : s.keepsFlashForm (execHkCycleStart s) := .of_eq (by simp)
theorem execHkRotationStep_flash (shadow : List Int) (trims : List Byte) (s : State) :
    s.keepsFlashForm (execHkRotationStep shadow trims s) :=
  .of_eq (by split <;> simp)
theorem hkLeaves_flash (s : State) (j p : Nat) (m : Migration) : (s.hkLeaves j p m).boot.flash = s.boot.flash := by
  unfold State.hkLeaves
  split
  · rfl
  · split <;> simp
theorem hkSliceMig_flash (s : State) (j : Nat) : (s.hkSliceMig j).2.boot.flash = s.boot.flash := by
  unfold State.hkSliceMig
  split <;> simp
theorem execHkSliceMigration_flash (j : Fin 3) (s : State) : s.keepsFlashForm (execHkSliceMigration j s) := by
  change s.keepsFlashForm (exec (.hkSliceMigration j) s)
  cases hp : (List.range 2).find? (fun i => (s.hkPath i).slice == some j.val) with
  | none =>
    have hn (i) (hi : i < 2) : (s.hkPath i).slice ≠ some j.val := by
      simpa using List.find?_eq_none.mp hp i (List.mem_range.mpr hi)
    rw [execHkSliceMigration_out (.inl hn)]
    exact .of_eq rfl
  | some p =>
    cases hf : s.rep.hkaFail.contains j.val
    · rw [execHkSliceMigration_in hp hf]
      refine .of_eq ?_
      simp [hkLeaves_flash, hkSliceMig_flash]
    · rw [execHkSliceMigration_out (.inr hf)]; exact .of_eq rfl

/-! Thermal management and calibration: the commands. -/

theorem execThermalReading_flash (readings : List (Option Int)) (s : State) :
    s.keepsFlashForm (execThermalReading readings s) :=
  .of_eq (by simp)
theorem execThrottleStepChange_flash (s : State) : s.keepsFlashForm (execThrottleStepChange s) := .of_eq (by simp)
theorem execThermThresh_flash (o : Origin) (r : Request) (s : State) : s.keepsFlashForm (execThermThresh o r s) :=
  .serve fun u p => by simp [thermThreshOp]
theorem execThermSubst_flash (o : Origin) (r : Request) (s : State) : s.keepsFlashForm (execThermSubst o r s) :=
  .serve fun u p => doneIf_flash _ _ (by rfl)
theorem execCalActivate_flash (o : Origin) (r : Request) (s : State) : s.keepsFlashForm (execCalActivate o r s) :=
  .serve fun u p => by simp [calActivateOp]
theorem execCalStatus_flash (o : Origin) (r : Request) (s : State) : s.keepsFlashForm (execCalStatus o r s) :=
  .serve fun u p => by simp [calStatusOp]
theorem execAppliedSetBuild_flash (s : State) : s.keepsFlashForm (execAppliedSetBuild s) := .of_eq (by simp)
theorem execCalRun_flash (o : Origin) (r : Request) (s : State) : s.keepsFlashForm (execCalRun o r s) :=
  .serve fun u p => by simp [calRunOp]
theorem execCalAutoRun_flash (s : State) : s.keepsFlashForm (execCalAutoRun s) := .of_eq (by simp)
theorem execFirstCalStart_flash (s : State) : s.keepsFlashForm (execFirstCalStart s) := .of_eq (by simp)
theorem execCalRunEnd_flash (result : CalResult) (s : State) : s.keepsFlashForm (execCalRunEnd result s) := by
  refine .of_eq ?_
  repeat' split
  all_goals simp
theorem execCalsetWriteback_flash (k : Fin 8) (s : State) : s.keepsFlashForm (execCalsetWriteback k s) := by
  refine .of_formed fun h => ?_
  split
  · exact h
  · split
    · exact h
    · exact flashStore_formed _ _ _ h

/-! The island: the commands. -/

theorem execGuardDisc_flash (s : State) : s.keepsFlashForm (execGuardDisc s) := .of_eq (by simp)
theorem execGuardTestDone_flash (s : State) : s.keepsFlashForm (execGuardTestDone s) := .of_eq (by simp)
theorem execSpdinEdge_flash (t : Quad) (s : State) : s.keepsFlashForm (execSpdinEdge t s) := by
  refine .of_eq ?_
  repeat' split
  all_goals simp
theorem execSpeedBelowLimit_flash (s : State) : s.keepsFlashForm (execSpeedBelowLimit s) := .of_eq (by simp)
theorem execBrakeFeedbackCheck_flash (sw : Fin 6) (s : State) : s.keepsFlashForm (execBrakeFeedbackCheck sw s) :=
  .of_eq (by simp)
theorem execWatchdogExpiry_flash (s : State) : s.keepsFlashForm (execWatchdogExpiry s) := .of_eq (by simp)
theorem execSafetyTelegram_flash (port : Fin 2) (data : List Byte) (s : State) :
    s.keepsFlashForm (execSafetyTelegram port data s) :=
  .of_eq (by simp)
theorem execStatusTelegram_flash (s : State) : s.keepsFlashForm (execStatusTelegram s) := .of_eq (by simp)
theorem execSafParam_flash (o : Origin) (r : Request) (s : State) : s.keepsFlashForm (execSafParam o r s) :=
  .serve fun u p => by
    simp only [safParamOp]
    repeat' split
    all_goals simp
theorem execSafParamPairTimeout_flash (s : State) : s.keepsFlashForm (execSafParamPairTimeout s) := by
  refine .of_eq ?_
  simp only []
  repeat' split
  all_goals simp
theorem execParamActivate_flash (writeOk : Bool) (s : State) : s.keepsFlashForm (execParamActivate writeOk s) :=
  .of_eq (by split <;> simp)
theorem execParamLapse_flash (s : State) : s.keepsFlashForm (execParamLapse s) := .of_eq (by split <;> simp)
theorem execSafAbort_flash (o : Origin) (r : Request) (s : State) : s.keepsFlashForm (execSafAbort o r s) :=
  .serve fun u p => by simp [safAbortOp]
theorem execSafStatus_flash (o : Origin) (r : Request) (s : State) : s.keepsFlashForm (execSafStatus o r s) :=
  .serve fun u p => by simp [safStatusOp]
theorem execTestPulse_flash (which : Nat) (fb : Bool) (s : State) : s.keepsFlashForm (execTestPulse which fb s) :=
  .of_eq (by split <;> simp)
theorem execSafetyCycle_flash (pins : SafetyPins) (s : State) : s.keepsFlashForm (execSafetyCycle pins s) := by
  unfold execSafetyCycle
  refine .of_eq ?_
  extract_lets now saf a was b bad m q c d saf' e saf'' f g h opened len brake aborts i saf3 j k saf4 l
  have hf : f.boot.flash = s.boot.flash := by simp [f, e, d, c, m, b, a]
  have hh : h.boot.flash = f.boot.flash := by simp [h, g]
  have hi : i.boot.flash = h.boot.flash := by simp [i]
  have hj : j.boot.flash = i.boot.flash := by
    unfold j
    split
    · rfl
    · split <;> rfl
  split
  · rfl
  · simp [l, k, hj, hi, hh, hf]
theorem execOutputRefreshTimeout_flash (out : Nat) (s : State) : s.keepsFlashForm (execOutputRefreshTimeout out s) :=
  .of_eq (by simp)
theorem execIslandReset_flash (cause : Nat) (s : State) : s.keepsFlashForm (execIslandReset cause s) :=
  .of_eq (by simp)
theorem execIslandPowerOn_flash (stores : List (List Byte)) (s : State) :
    s.keepsFlashForm (execIslandPowerOn stores s) :=
  .of_eq (by simp)

/-! Memories: the commands. -/

theorem execSramError_flash (addr : Nat) (s : State) : s.keepsFlashForm (execSramError addr s) := .of_eq (by simp)
theorem execSramScrub_flash (errs : List Nat) (s : State) : s.keepsFlashForm (execSramScrub errs s) :=
  .of_eq (by simp)
theorem execSramRowRepair_flash (macro_ : Nat) (row : Nat) (s : State) :
    s.keepsFlashForm (execSramRowRepair macro_ row s) :=
  .of_eq (by simp)
theorem execDramScrub_flash (errs : List Nat) (s : State) : s.keepsFlashForm (execDramScrub errs s) :=
  .of_eq (by simp)
theorem execDramUncorrectable_flash (addr : Nat) (s : State) : s.keepsFlashForm (execDramUncorrectable addr s) :=
  .of_eq (by simp)
theorem execDramRowRepair_flash (row : DramRow) (pprOk : Bool) (s : State) :
    s.keepsFlashForm (execDramRowRepair row pprOk s) :=
  .of_eq (by simp)
theorem execChannelFallback_flash (c : Fin 2) (s : State) : s.keepsFlashForm (execChannelFallback c s) :=
  .of_eq (by simp)
theorem execRetrain_flash (c : Fin 2) (passes : List Bool) (s : State) : s.keepsFlashForm (execRetrain c passes s) :=
  .of_eq (by simp)

/-! Arriving packets: the commands. -/

theorem execPacketDiscard_flash (o : Origin) (raw : List Byte) (s : State) :
    s.keepsFlashForm (execPacketDiscard o raw s) :=
  .of_eq (by simp)
theorem execPacketForward_flash (o : Origin) (n : Byte) (r : Request) (s : State) : s.keepsFlashForm
    (execPacketForward o n r s) := by
  unfold execPacketForward
  split
  · exact .of_eq rfl
  · exact .serve fun u p => rfl
theorem execMspiWritePacket_flash (raw : List Byte) (s : State) : s.keepsFlashForm (execMspiWritePacket raw s) :=
  .of_eq (by simp)
theorem execMspiReadReply_flash (s : State) : s.keepsFlashForm (execMspiReadReply s) := .of_eq (by split <;> simp)
theorem execMspiReadStatus_flash (s : State) : s.keepsFlashForm (execMspiReadStatus s) := .of_eq (by rfl)
theorem execResponderTakeover_flash (s : State) : s.keepsFlashForm (execResponderTakeover s) :=
  .of_eq (by split <;> simp)
theorem execMemRead_flash (o : Origin) (r : Request) (s : State) : s.keepsFlashForm (execMemRead o r s) :=
  .serve fun u p => by simp [memReadOp]
theorem execRegRead_flash (o : Origin) (r : Request) (s : State) : s.keepsFlashForm (execRegRead o r s) :=
  .serve fun u p => by simp [regReadOp]
theorem execSnapshot_flash (o : Origin) (r : Request) (s : State) : s.keepsFlashForm (execSnapshot o r s) :=
  .serve fun u p => by
    simp only [snapshotOp]
    repeat' split
    all_goals simp
theorem execSnapshotRelease_flash (o : Origin) (r : Request) (s : State) :
    s.keepsFlashForm (execSnapshotRelease o r s) :=
  .serve fun u p => by simp [snapshotReleaseOp]
theorem execSnapshotDone_flash (h : Fin 4) (s : State) : s.keepsFlashForm (execSnapshotDone h s) :=
  .of_eq (by split <;> simp)
theorem execSnapshotExpiry_flash (h : Fin 4) (s : State) : s.keepsFlashForm (execSnapshotExpiry h s) :=
  .of_eq (by split <;> simp)

/-! The tree: the commands. -/

theorem execTreeConfig_flash (o : Origin) (r : Request) (s : State) : s.keepsFlashForm (execTreeConfig o r s) :=
  .serve fun u p => doneIf_flash _ _ (by
    dsimp only
    split_ifs <;> simp)
theorem execTreeStatus_flash (o : Origin) (r : Request) (s : State) : s.keepsFlashForm (execTreeStatus o r s) := by
  refine .serve (op := treeStatusOp) fun u p => ?_
  unfold treeStatusOp
  dsimp only
  refine foldl_fixes (g := fun a : List Byte × State => a.2.boot.flash) (fun a d => ?_) _ _
  exact treeRowOf_flash a.2 d
theorem execWorkerResync_flash (o : Origin) (r : Request) (s : State) : s.keepsFlashForm (execWorkerResync o r s) :=
  .serve fun u p => by
    simp only [workerResyncOp]
    repeat' split
    all_goals simp
theorem execBlockLock_flash (p : Fin 4) (s : State) : s.keepsFlashForm (execBlockLock p s) := .of_eq (by simp)
theorem execTimeExchange_flash (p : Fin 4) (x : Exchange) (s : State) : s.keepsFlashForm (execTimeExchange p x s) :=
  .of_eq (by simp)
theorem execLinkJoin_flash (s : State) : s.keepsFlashForm (execLinkJoin s) := .of_eq (by simp)
theorem execLinkDown_flash (p : Fin 4) (s : State) : s.keepsFlashForm (execLinkDown p s) := .of_eq (by simp)
theorem execSyncFull_flash (shot : Long) (s : State) : s.keepsFlashForm (execSyncFull shot s) := .of_eq (by simp)
theorem execSyncShot_flash (pid : Fin 64) (low16 : Half) (low26 : BitVec 26) (arrival : Long) (s : State) :
    s.keepsFlashForm (execSyncShot pid low16 low26 arrival s) := by
  refine .of_eq ?_
  simp only []
  repeat' split
  all_goals simp
theorem execWaitReport_flash (dev : Fin 16) (tag : Half) (s : State) : s.keepsFlashForm (execWaitReport dev tag s) :=
  .of_eq (by simp)
theorem execWaitRelease_flash (tag : Half) (low32 : Word) (s : State) :
    s.keepsFlashForm (execWaitRelease tag low32 s) :=
  .of_eq (by simp)
theorem execAck_flash (seq : Half) (s : State) : s.keepsFlashForm (execAck seq s) := .of_eq (by rfl)
theorem execIncidentFrameRepeat_flash (seq : Half) (s : State) : s.keepsFlashForm (execIncidentFrameRepeat seq s) :=
  .of_eq (by rfl)
theorem execLinkFrame_flash (p : Fin 4) (kind : Fin 16) (dev : Fin 16) (sess : Byte) (seq : Half)
    (data : List Byte) (crcOk : Bool) (s : State) :
    s.keepsFlashForm (execLinkFrame p kind dev sess seq data crcOk s) := by
  refine .of_eq ?_
  repeat' split
  all_goals simp
theorem execIncidentWindowClose_flash (iseq : Word) (s : State) : s.keepsFlashForm (execIncidentWindowClose iseq s) :=
  .of_eq (by split <;> simp)

/-! Output: the commands. -/

theorem execRecordBuild_flash (pid : Fin 64) (s : State) : s.keepsFlashForm (execRecordBuild pid s) := by
  refine .of_eq ?_
  simp only []
  repeat' split
  all_goals simp
theorem execFrameClose_flash (pid : Fin 64) (s : State) : s.keepsFlashForm (execFrameClose pid s) :=
  .of_eq (by split <;> simp)
theorem execStreamStallSuspend_flash (pid : Fin 64) (s : State) :
    s.keepsFlashForm (execStreamStallSuspend pid s) := by
  refine .of_eq ?_
  simp only []
  repeat' split
  all_goals simp
theorem execFrameTransmit_flash (server : Fin 5) (s : State) : s.keepsFlashForm (execFrameTransmit server s) := by
  refine .of_eq ?_
  repeat' split
  all_goals simp
theorem execFrameDelivered_flash (server : Fin 5) (s : State) : s.keepsFlashForm (execFrameDelivered server s) := by
  refine .of_eq ?_
  repeat' split
  all_goals simp

/-! The endpoint: the commands. -/

theorem execOutCmdqTail_flash (n : Fin 4) (tail : Word) (packets : List (List Byte)) (s : State) :
    s.keepsFlashForm (execOutCmdqTail n tail packets s) :=
  .of_eq (by simp)
theorem execOutRplqTail_flash (n : Fin 4) (tail : Word) (bufLens : List Nat) (s : State) :
    s.keepsFlashForm (execOutRplqTail n tail bufLens s) :=
  .of_eq (by simp)
theorem execOutDringTail_flash (n : Fin 16) (tail : Word) (bufs : List RingBuf) (s : State) :
    s.keepsFlashForm (execOutDringTail n tail bufs s) :=
  .of_eq (by simp)
theorem execDringIrq_flash (n : Fin 16) (s : State) : s.keepsFlashForm (execDringIrq n s) :=
  .of_eq (by split <;> simp)
theorem execFunctionLevelReset_flash (s : State) : s.keepsFlashForm (execFunctionLevelReset s) := .of_eq (by simp)
theorem execPciePerst_flash (s : State) : s.keepsFlashForm (execPciePerst s) := .of_eq (by simp)
theorem execPcieLinkTrained_flash (width : Nat) (speed : Nat) (s : State) :
    s.keepsFlashForm (execPcieLinkTrained width speed s) :=
  .of_eq (by simp)
theorem execArpRequest_flash (port : Fin 4) (targetIp : Word) (senderMac : Long) (senderIp : Word) (s : State) :
    s.keepsFlashForm (execArpRequest port targetIp senderMac senderIp s) :=
  .of_eq (by simp)
theorem execEthFrameReceived_flash (p : Fin 4) (f : List Byte) (s : State) :
    s.keepsFlashForm (execEthFrameReceived p f s) := by
  unfold execEthFrameReceived
  split
  · exact .of_eq (by simp)
  split
  · exact .of_eq (by simp)
  split
  · exact .of_eq (by simp)
  split
  · exact .of_eq (by simp)
  split
  · exact .of_eq (by simp)
  split
  · exact .of_eq (by simp)
  split
  · exact .of_eq (by simp)
  split
  · exact execSafetyTelegram_flash _ _ _
  · exact .of_eq (by simp)

/-! Clocks: the commands. -/

theorem execClockLoss_flash (clock : Clock) (s : State) : s.keepsFlashForm (execClockLoss clock s) := by
  refine .of_eq ?_
  repeat' split
  all_goals simp
theorem execClockReturn_flash (clock : Clock) (s : State) : s.keepsFlashForm (execClockReturn clock s) := by
  refine .of_eq ?_
  repeat' split
  all_goals simp

/-! Register writes: the commands. -/

theorem execRegWrite_flash (o : Origin) (r : Request) (s : State) : s.keepsFlashForm (execRegWrite o r s) :=
  .serve fun u p => by simp [regWriteOp]
theorem execRegModify_flash (o : Origin) (r : Request) (s : State) : s.keepsFlashForm (execRegModify o r s) :=
  .serve fun u p => by simp [regModifyOp]
theorem execMemWrite_flash (o : Origin) (r : Request) (s : State) : s.keepsFlashForm (execMemWrite o r s) :=
  .serve fun u p => by
    simp only [memWriteOp]
    repeat' split
    all_goals simp
theorem execRegisterWrite_flash (path : RegPath) (addr : Nat) (values : List Word) (s : State) :
    s.keepsFlashForm (execRegisterWrite path addr values s) := by
  refine .of_eq ?_
  simp only []
  repeat' split
  all_goals simp

/-! Boot and resets: the commands. -/

theorem execFwWrite_flash (o : Origin) (r : Request) (s : State) : s.keepsFlashForm (execFwWrite o r s) :=
  .of_formed fun h => serve_flash (P := (Sparse.wf erased · = true)) s o r h fun u p hu => by
    unfold fwWriteOp State.doneIf
    dsimp only
    split
    · exact hu
    · exact flashWrite_formed _ _ hu
theorem execFlashRead_flash (o : Origin) (r : Request) (s : State) : s.keepsFlashForm (execFlashRead o r s) :=
  .serve fun u p => by simp [flashReadOp]
theorem execFwActivate_flash (o : Origin) (r : Request) (s : State) : s.keepsFlashForm (execFwActivate o r s) :=
  .serve fun u p => by simp [fwActivateOp]
theorem execFwActivateDone_flash (s : State) : s.keepsFlashForm (execFwActivateDone s) := by
  refine .of_formed fun h => ?_
  split
  · exact h
  · dsimp only
    split
    · simpa [State.flashFormed] using h
    · next slot o q _ _ =>
      have hw : ((State.switchTo { s with boot.activate := none } slot).slotRegs.writeHeaders slot).flashFormed :=
        writeHeaders_formed _ (by simpa [State.flashFormed] using h)
      simpa [State.flashFormed] using hw
theorem execResetFirmwareRestart_flash (o : Origin) (r : Request) (s : State) :
    s.keepsFlashForm (execResetFirmwareRestart o r s) :=
  .serve fun u p => by simp [resetOp]
theorem execResetMeasuringCore_flash (o : Origin) (r : Request) (s : State) :
    s.keepsFlashForm (execResetMeasuringCore o r s) :=
  .serve fun u p => by simp [resetOp]
theorem execResetWholeDevice_flash (o : Origin) (r : Request) (s : State) :
    s.keepsFlashForm (execResetWholeDevice o r s) :=
  .serve fun u p => by simp [resetOp]
theorem execPorst_flash (powerUp : Bool) (straps : Byte) (bootId : Word) (s : State) :
    s.keepsFlashForm (execPorst powerUp straps bootId s) :=
  .of_eq (by simp)
theorem execPorstLAssert_flash (s : State) : s.keepsFlashForm (execPorstLAssert s) := .of_eq (by simp)
theorem execLoading_flash (s : State) : s.keepsFlashForm (execLoading s) := by
  refine .of_eq ?_
  simp only []
  repeat' split
  all_goals simp
theorem execBringup_flash (b : BringupInputs) (s : State) : s.keepsFlashForm (execBringup b s) := .of_eq (by simp)
theorem execReady_flash (s : State) : s.keepsFlashForm (execReady s) := .of_eq (by simp)
theorem execResetTakesEffect_flash (s : State) : s.keepsFlashForm (execResetTakesEffect s) :=
  .of_eq (by split <;> simp)

theorem exec_keepsFlashForm : ∀ (c : Instr) (s : State), s.keepsFlashForm (exec c s)
  | .nop o r, s => execNop_flash o r s
  | .ident o r, s => execIdent_flash o r s
  | .status o r, s => execStatus_flash o r s
  | .sessionOpen o r, s => execSessionOpen_flash o r s
  | .sessionClose o r, s => execSessionClose_flash o r s
  | .tableLoad o r, s => execTableLoad_flash o r s
  | .tableCommit o r, s => execTableCommit_flash o r s
  | .tableDelete o r, s => execTableDelete_flash o r s
  | .tableList o r, s => execTableList_flash o r s
  | .progSubmit o r, s => execProgSubmit_flash o r s
  | .progStart o r, s => execProgStart_flash o r s
  | .progStopEndOfSegment o r, s => execProgStopEndOfSegment_flash o r s
  | .progStopImmediate o r, s => execProgStopImmediate_flash o r s
  | .progWithdraw o r, s => execProgWithdraw_flash o r s
  | .progStatus o r, s => execProgStatus_flash o r s
  | .fireConfig o r, s => execFireConfig_flash o r s
  | .matrixConfig o r, s => execMatrixConfig_flash o r s
  | .budgetSet o r, s => execBudgetSet_flash o r s
  | .shortTest o r, s => execShortTest_flash o r s
  | .chainWrite o r sdi, s => execChainWrite_flash o r sdi s
  | .wireWrite o r, s => execWireWrite_flash o r s
  | .threshSet o r, s => execThreshSet_flash o r s
  | .chanEnable o r, s => execChanEnable_flash o r s
  | .captureMode o r, s => execCaptureMode_flash o r s
  | .eventInput o r, s => execEventInput_flash o r s
  | .freqMeasure o r, s => execFreqMeasure_flash o r s
  | .engLoad o r, s => execEngLoad_flash o r s
  | .engCommit o r, s => execEngCommit_flash o r s
  | .engMap o r, s => execEngMap_flash o r s
  | .engControlRun o r, s => execEngControlRun_flash o r s
  | .engControlHalt o r, s => execEngControlHalt_flash o r s
  | .wfAlloc o r, s => execWfAlloc_flash o r s
  | .wfGain o r, s => execWfGain_flash o r s
  | .captureConfig o r, s => execCaptureConfig_flash o r s
  | .captureArm o r, s => execCaptureArm_flash o r s
  | .captureTrigger o r, s => execCaptureTrigger_flash o r s
  | .loopCoef o r, s => execLoopCoef_flash o r s
  | .loopSwap o r, s => execLoopSwap_flash o r s
  | .loopSetpoint o r, s => execLoopSetpoint_flash o r s
  | .loopMode o r, s => execLoopMode_flash o r s
  | .loopIo o r, s => execLoopIo_flash o r s
  | .timeRead o r, s => execTimeRead_flash o r s
  | .timeIncr o r, s => execTimeIncr_flash o r s
  | .timeStep o r, s => execTimeStep_flash o r s
  | .crossStamp o r, s => execCrossStamp_flash o r s
  | .launchAt o r, s => execLaunchAt_flash o r s
  | .refSelect o r, s => execRefSelect_flash o r s
  | .hkSequence o r, s => execHkSequence_flash o r s
  | .hkChannel o r, s => execHkChannel_flash o r s
  | .thermThresh o r, s => execThermThresh_flash o r s
  | .thermSubst o r, s => execThermSubst_flash o r s
  | .safStatus o r, s => execSafStatus_flash o r s
  | .safParam o r, s => execSafParam_flash o r s
  | .safAbort o r, s => execSafAbort_flash o r s
  | .repSummary o r, s => execRepSummary_flash o r s
  | .repMigrate o r, s => execRepMigrate_flash o r s
  | .repSelftest o r, s => execRepSelftest_flash o r s
  | .regRead o r, s => execRegRead_flash o r s
  | .regWrite o r, s => execRegWrite_flash o r s
  | .regModify o r, s => execRegModify_flash o r s
  | .memRead o r, s => execMemRead_flash o r s
  | .memWrite o r, s => execMemWrite_flash o r s
  | .snapshot o r, s => execSnapshot_flash o r s
  | .snapshotRelease o r, s => execSnapshotRelease_flash o r s
  | .calRun o r, s => execCalRun_flash o r s
  | .calActivate o r, s => execCalActivate_flash o r s
  | .calStatus o r, s => execCalStatus_flash o r s
  | .treeStatus o r, s => execTreeStatus_flash o r s
  | .treeConfig o r, s => execTreeConfig_flash o r s
  | .workerResync o r, s => execWorkerResync_flash o r s
  | .fwWrite o r, s => execFwWrite_flash o r s
  | .fwActivate o r, s => execFwActivate_flash o r s
  | .resetFirmwareRestart o r, s => execResetFirmwareRestart_flash o r s
  | .resetMeasuringCore o r, s => execResetMeasuringCore_flash o r s
  | .resetWholeDevice o r, s => execResetWholeDevice_flash o r s
  | .resetTakesEffect, s => execResetTakesEffect_flash s
  | .flashRead o r, s => execFlashRead_flash o r s
  | .packetForward o opcode r, s => execPacketForward_flash o opcode r s
  | .packetDiscard o raw, s => execPacketDiscard_flash o raw s
  | .stageTimeout o, s => execStageTimeout_flash o s
  | .snapshotDone h, s => execSnapshotDone_flash h s
  | .snapshotExpiry h, s => execSnapshotExpiry_flash h s
  | .registerWrite path addr values, s => execRegisterWrite_flash path addr values s
  | .mspiWritePacket raw, s => execMspiWritePacket_flash raw s
  | .mspiReadReply, s => execMspiReadReply_flash s
  | .mspiReadStatus, s => execMspiReadStatus_flash s
  | .responderTakeover, s => execResponderTakeover_flash s
  | .outCmdqTail n tail packets, s => execOutCmdqTail_flash n tail packets s
  | .outRplqTail n tail bufLens, s => execOutRplqTail_flash n tail bufLens s
  | .outDringTail n tail bufs, s => execOutDringTail_flash n tail bufs s
  | .functionLevelReset, s => execFunctionLevelReset_flash s
  | .pciePerst, s => execPciePerst_flash s
  | .arpRequest port targetIp senderMac senderIp, s => execArpRequest_flash port targetIp senderMac senderIp s
  | .dringIrq n, s => execDringIrq_flash n s
  | .shotCommit, s => execShotCommit_flash s
  | .budgetIdleUpdate g, s => execBudgetIdleUpdate_flash g s
  | .programStartInstant pid, s => execProgramStartInstant_flash pid s
  | .fireEdge stamp, s => execFireEdge_flash stamp s
  | .fireStampMissing shot, s => execFireStampMissing_flash shot s
  | .waitReleased pid, s => execWaitReleased_flash pid s
  | .waitTimeout pid, s => execWaitTimeout_flash pid s
  | .otPinShutdown, s => execOtPinShutdown_flash s
  | .otClear value pinLow, s => execOtClear_flash value pinLow s
  | .shortTestDone readings, s => execShortTestDone_flash readings s
  | .chainLatch, s => execChainLatch_flash s
  | .chainLatTimeout, s => execChainLatTimeout_flash s
  | .wireDone, s => execWireDone_flash s
  | .loopEvaluation k, s => execLoopEvaluation_flash k s
  | .pwmPeriod n, s => execPwmPeriod_flash n s
  | .spiFrame miso, s => execSpiFrame_flash miso s
  | .encoderEdge n chanB rising stamp, s => execEncoderEdge_flash n chanB rising stamp s
  | .encoderIndex n stamp, s => execEncoderIndex_flash n stamp s
  | .comparatorEdge c upper rising stamp, s => execComparatorEdge_flash c upper rising stamp s
  | .pulserInject t upper stamp, s => execPulserInject_flash t upper stamp s
  | .liveTableUpdate t upper, s => execLiveTableUpdate_flash t upper s
  | .laneHold t upper, s => execLaneHold_flash t upper s
  | .thresholdApply c, s => execThresholdApply_flash c s
  | .watermarkStall t, s => execWatermarkStall_flash t s
  | .evEdge k rising stamp, s => execEvEdge_flash k rising stamp s
  | .freqGateClose k, s => execFreqGateClose_flash k s
  | .passOpen e shot, s => execPassOpen_flash e shot s
  | .hitRelease e, s => execHitRelease_flash e s
  | .burstTest e, s => execBurstTest_flash e s
  | .passClose e shot, s => execPassClose_flash e shot s
  | .groupHandover e, s => execGroupHandover_flash e s
  | .engineTimer e, s => execEngineTimer_flash e s
  | .runStart e, s => execRunStart_flash e s
  | .primNop e, s => execPrimNop_flash e s
  | .primEnd e, s => execPrimEnd_flash e s
  | .primBranch e, s => execPrimBranch_flash e s
  | .primLoop e, s => execPrimLoop_flash e s
  | .primWait e, s => execPrimWait_flash e s
  | .waitResume e, s => execWaitResume_flash e s
  | .primChan e, s => execPrimChan_flash e s
  | .primSetv e, s => execPrimSetv_flash e s
  | .primMovv e, s => execPrimMovv_flash e s
  | .primAddv e, s => execPrimAddv_flash e s
  | .primSubv e, s => execPrimSubv_flash e s
  | .primMulv e, s => execPrimMulv_flash e s
  | .primLdv e, s => execPrimLdv_flash e s
  | .primStv e, s => execPrimStv_flash e s
  | .primGetd e, s => execPrimGetd_flash e s
  | .primGetp e, s => execPrimGetp_flash e s
  | .primFlag e, s => execPrimFlag_flash e s
  | .primBin e, s => execPrimBin_flash e s
  | .primClear e, s => execPrimClear_flash e s
  | .primCopy e, s => execPrimCopy_flash e s
  | .primDecay e, s => execPrimDecay_flash e s
  | .primVadd e, s => execPrimVadd_flash e s
  | .primVscale e, s => execPrimVscale_flash e s
  | .primConv e, s => execPrimConv_flash e s
  | .primVsum e, s => execPrimVsum_flash e s
  | .primVmax e, s => execPrimVmax_flash e s
  | .primVmin e, s => execPrimVmin_flash e s
  | .primPscan e, s => execPrimPscan_flash e s
  | .primCentroid e, s => execPrimCentroid_flash e s
  | .primParab e, s => execPrimParab_flash e s
  | .primPlain e, s => execPrimPlain_flash e s
  | .primValley e, s => execPrimValley_flash e s
  | .primColtest e, s => execPrimColtest_flash e s
  | .primClassify e, s => execPrimClassify_flash e s
  | .primGhost e, s => execPrimGhost_flash e s
  | .primVeil e, s => execPrimVeil_flash e s
  | .primEmit e, s => execPrimEmit_flash e s
  | .primDump e, s => execPrimDump_flash e s
  | .primEmitev e, s => execPrimEmitev_flash e s
  | .emitResume e, s => execEmitResume_flash e s
  | .primXstamp e, s => execPrimXstamp_flash e s
  | .xstampComplete e, s => execXstampComplete_flash e s
  | .primStload e, s => execPrimStload_flash e s
  | .recordBuild pid, s => execRecordBuild_flash pid s
  | .frameClose pid, s => execFrameClose_flash pid s
  | .frameTransmit server, s => execFrameTransmit_flash server s
  | .frameDelivered server, s => execFrameDelivered_flash server s
  | .streamStallSuspend pid, s => execStreamStallSuspend_flash pid s
  | .ambientCheck c, s => execAmbientCheck_flash c s
  | .allocEffect, s => execAllocEffect_flash s
  | .gainBoundary input, s => execGainBoundary_flash input s
  | .gainTimeout input, s => execGainTimeout_flash input s
  | .apply l, s => execApply_flash l s
  | .disarm u, s => execDisarm_flash u s
  | .triggerSample u codes, s => execTriggerSample_flash u codes s
  | .captureEnd u codes, s => execCaptureEnd_flash u codes s
  | .rearmDone u, s => execRearmDone_flash u s
  | .captureAreaFree u, s => execCaptureAreaFree_flash u s
  | .wfdRotationStep shadow trims, s => execWfdRotationStep_flash shadow trims s
  | .wfdSliceMigration j, s => execWfdSliceMigration_flash j s
  | .hkCycleStart, s => execHkCycleStart_flash s
  | .hkStep path codes iexCurrent, s => execHkStep_flash path codes iexCurrent s
  | .hkMonitorReport path short, s => execHkMonitorReport_flash path short s
  | .go, s => execGo_flash s
  | .hkRotationStep shadow trims, s => execHkRotationStep_flash shadow trims s
  | .hkSliceMigration j, s => execHkSliceMigration_flash j s
  | .thermalReading readings, s => execThermalReading_flash readings s
  | .throttleStepChange, s => execThrottleStepChange_flash s
  | .appliedSetBuild, s => execAppliedSetBuild_flash s
  | .calAutoRun, s => execCalAutoRun_flash s
  | .calRunEnd result, s => execCalRunEnd_flash result s
  | .firstCalStart, s => execFirstCalStart_flash s
  | .calsetWriteback k, s => execCalsetWriteback_flash k s
  | .warmupGate stamps, s => execWarmupGate_flash stamps s
  | .ocxoWarmChange level, s => execOcxoWarmChange_flash level s
  | .clockLoss clock, s => execClockLoss_flash clock s
  | .clockReturn clock, s => execClockReturn_flash clock s
  | .refLock ok, s => execRefLock_flash ok s
  | .ptpCorrectionEffect p, s => execPtpCorrectionEffect_flash p s
  | .ptpWrap p forward, s => execPtpWrap_flash p forward s
  | .counterWrap, s => execCounterWrap_flash s
  | .ptpIngress p udpPort payload tEvt tEdge, s => execPtpIngress_flash p udpPort payload tEvt tEdge s
  | .launch p tEvt tEdge, s => execLaunch_flash p tEvt tEdge s
  | .crossStampEvent stamp, s => execCrossStampEvent_flash stamp s
  | .crossStampTimeout, s => execCrossStampTimeout_flash s
  | .safetyCycle pins, s => execSafetyCycle_flash pins s
  | .spdinEdge t, s => execSpdinEdge_flash t s
  | .speedBelowLimit, s => execSpeedBelowLimit_flash s
  | .guardDisc, s => execGuardDisc_flash s
  | .guardTestDone, s => execGuardTestDone_flash s
  | .brakeFeedbackCheck sw, s => execBrakeFeedbackCheck_flash sw s
  | .testPulse which fb, s => execTestPulse_flash which fb s
  | .watchdogExpiry, s => execWatchdogExpiry_flash s
  | .safetyTelegram port data, s => execSafetyTelegram_flash port data s
  | .statusTelegram, s => execStatusTelegram_flash s
  | .safParamPairTimeout, s => execSafParamPairTimeout_flash s
  | .paramActivate writeOk, s => execParamActivate_flash writeOk s
  | .paramLapse, s => execParamLapse_flash s
  | .outputRefreshTimeout out, s => execOutputRefreshTimeout_flash out s
  | .islandReset cause, s => execIslandReset_flash cause s
  | .islandPowerOn stores, s => execIslandPowerOn_flash stores s
  | .incidentWindowClose iseq, s => execIncidentWindowClose_flash iseq s
  | .incidentFrameRepeat seq, s => execIncidentFrameRepeat_flash seq s
  | .tdcMigration c, s => execTdcMigration_flash c s
  | .engineMigration uncopyable, s => execEngineMigration_flash uncopyable s
  | .heartbeatTimeout e, s => execHeartbeatTimeout_flash e s
  | .ccSwitchover, s => execCcSwitchover_flash s
  | .thrumiWatchdog, s => execThrumiWatchdog_flash s
  | .pairRejoin ok, s => execPairRejoin_flash ok s
  | .bistPeriodic, s => execBistPeriodic_flash s
  | .repairMapWriteback, s => execRepairMapWriteback_flash s
  | .sramError addr, s => execSramError_flash addr s
  | .sramRowRepair macro_ row, s => execSramRowRepair_flash macro_ row s
  | .sramScrub errs, s => execSramScrub_flash errs s
  | .retrain c passes, s => execRetrain_flash c passes s
  | .dramRowRepair row pprOk, s => execDramRowRepair_flash row pprOk s
  | .dramUncorrectable addr, s => execDramUncorrectable_flash addr s
  | .channelFallback c, s => execChannelFallback_flash c s
  | .blockLock p, s => execBlockLock_flash p s
  | .timeExchange p x, s => execTimeExchange_flash p x s
  | .linkJoin, s => execLinkJoin_flash s
  | .linkDown p, s => execLinkDown_flash p s
  | .syncFull shot, s => execSyncFull_flash shot s
  | .syncShot pid low16 low26 arrival, s => execSyncShot_flash pid low16 low26 arrival s
  | .waitReport dev tag, s => execWaitReport_flash dev tag s
  | .waitRelease tag low32, s => execWaitRelease_flash tag low32 s
  | .ack seq, s => execAck_flash seq s
  | .linkFrame p kind dev sess seq data crcOk, s => execLinkFrame_flash p kind dev sess seq data crcOk s
  | .porst powerUp straps bootId, s => execPorst_flash powerUp straps bootId s
  | .loading, s => execLoading_flash s
  | .bringup b, s => execBringup_flash b s
  | .ready, s => execReady_flash s
  | .ethFrameReceived p frame, s => execEthFrameReceived_flash p frame s
  | .pcieLinkTrained width speed, s => execPcieLinkTrained_flash width speed s
  | .porstLAssert, s => execPorstLAssert_flash s
  | .parityError engine idx, s => execParityError_flash engine idx s
  | .runLongerThanWcet e, s => execRunLongerThanWcet_flash e s
  | .lockstepMismatch, s => execLockstepMismatch_flash s
  | .dramScrub errs, s => execDramScrub_flash errs s
  | .fwActivateDone, s => execFwActivateDone_flash s
  | .selftestDone failed, s => execSelftestDone_flash failed s

/-- Settles O59: one arm for each command, and the tick of an empty queue. -/
theorem flashKeepsItsForm : Obligations.FlashKeepsItsForm := by
  intro s t h ht
  cases hp : s.pending with
  | nil =>
    simp only [step, hp] at ht
    rw [← Host.Outcome.next.inj ht, idle_flash]
    exact h
  | cons c rest =>
    simp only [step, hp] at ht
    exact exec_keepsFlashForm c { s with pending := rest } t ht h

end Sys2Proof.Machine

namespace Sys2Proof.Machine

/-! Thermal readings and the throttle step (14 R346 to R356). -/

theorem nth_map_range {α : Type} {n i : Nat} (f : Nat → α) (d : α) (h : i < n) :
    nth ((List.range n).map f) i d = f i := by
  simp [nth, h]

theorem fld_congr {s t : State} {a : Nat} (h : t.reg a = s.reg a) (hi lo : Nat) : t.fld a hi lo = s.fld a hi lo := by
  simp only [State.fld, State.regN, h]

/-- What thermal management holds beside the calibration run in progress. -/
def Thermal.bare (x : Thermal) : Thermal := { x with run := none, retryAt := none }

theorem Thermal.bare_of_shutdown {x : Thermal} {b : Bool} (h : x.shutdown = b) :
    x.bare = { x.bare with shutdown := b } := by
  rw [← h]
  rfl

theorem Thermal.levels_of_bare {x y : Thermal} {b : Bool} (h : x.bare = { y.bare with shutdown := b }) :
    x.zones = y.zones ∧ x.warn = y.warn ∧ x.throt = y.throt ∧ x.shut = y.shut ∧ x.cool = y.cool ∧ x.shutdown = b := by
  have hf (α : Type) (f : Thermal → α) := congrArg f h
  exact ⟨hf _ Thermal.zones, hf _ Thermal.warn, hf _ Thermal.throt, hf _ Thermal.shut, hf _ Thermal.cool,
    hf _ Thermal.shutdown⟩

theorem failRun_bare (s : State) (r : CalRun) (step : Option Nat) (cause : Nat) :
    (s.failRun r step cause).thm.bare = s.thm.bare := by
  unfold State.failRun
  extract_lets low u v thm w
  have hv : v.thm = s.thm := (report_keeps _ _ _ _ _ .thm (by decide)).trans rfl
  have hw : w.thm.bare = s.thm.bare := (congrArg Thermal.bare hv : v.thm.bare = _)
  split
  · rw [complete_keeps _ _ _ _ _ .thm (by decide), hw]
  · rw [event_keeps _ _ _ _ _ _ _ .thm (by decide), ← hw]
    rfl

theorem disarm_keeps (s : State) (u : Nat) : s.keeps (s.disarm u) [.regs, .wfd, .pk] := by
  have hd (t : State) : t.keeps (t.dropSums u true) [.regs, .wfd, .pk] := (dropSums_countsOn t u true).2.2.2
  unfold State.disarm
  split
  · exact .refl s _
  · exact .after (setCap_keeps _ _ _) rfl (hd s)
  · exact .after (setCap_keeps _ _ _) rfl ((missKept_countsOn s u s.fineNow).2.2.2.trans (hd _))
  all_goals exact .after (setCap_keeps _ _ _) rfl (hd s)

theorem thermalShutdown_bare (s : State) (zone : Nat) :
    (s.thermalShutdown zone).thm.bare = { s.thm.bare with shutdown := true } := by
  unfold State.thermalShutdown
  extract_lets thm u v w
  have hw : w.thm = { s.thm with shutdown := true } :=
    (foldl_fixes (g := State.thm) (fun t u => disarm_keeps t u .thm (by decide)) _ _).trans
      ((suspendAll_keeps _ _ _ _ .thm (by decide)).trans
        ((openEvent_keeps _ _ _ _ .thm (by decide)).trans (report_keeps _ _ _ _ _ .thm (by decide))))
  split
  · rw [failRun_bare, hw]; rfl
  · rw [hw]; rfl

/-- The levels of the eight zones after a reading (14 R347, R351, R355). -/
def State.zoneLevels (s : State) : Thermal :=
  let lev (was : List Bool) (thr : Nat → Int) : List Bool :=
    (List.range 8).map fun z => s.level (nth was z false) (s.zoneTemp z) (thr z)
  { s.thm with
    zones := (List.range 8).map s.zoneTemp, warn := lev s.thm.warn s.zoneWarn, throt := lev s.thm.throt s.zoneThrottle
    shut := lev s.thm.shut s.zoneShutdown
    cool := (List.range 8).all fun z => !s.level true (s.zoneTemp z) (s.zoneThrottle z) }

/-- Whether the thermal shutdown is in force after a reading: one in force stays while a zone is not below its
hysteresis. -/
def State.staysShut (s : State) : Bool :=
  if s.thm.shutdown then (List.range 8).any fun z => s.level true (s.zoneTemp z) (s.zoneShutdown z)
  else (List.range 8).any fun z => nth s.zoneLevels.shut z false

theorem readZones_bare (s : State) : s.readZones.thm.bare = { s.zoneLevels.bare with shutdown := s.staysShut } := by
  unfold State.readZones
  extract_lets temps old lev warn throt shut u v thm w x
  have hv : v.thm = s.zoneLevels := (foldl_fixes (g := State.thm)
    (fun t z => State.keeps.ite (openEvent_keeps t 5 0xA none) (.refl t _) .thm (by decide)) _ _).trans (by rfl)
  have hr : s.keepsRegs v [GLB_EVT_SEQ] := .trans (t := u) (fun _ _ => rfl) (.foldl (fun t z => by
    split
    · exact openEvent_keepsRegs t 5 0xA none
    · exact .refl t _) _ _)
  have hany : ((List.range 8).any fun z => v.level true (nth temps z 0) (v.zoneShutdown z)) =
      (List.range 8).any fun z => s.level true (s.zoneTemp z) (s.zoneShutdown z) := by
    rw [Bool.eq_iff_iff, List.any_eq_true, List.any_eq_true]
    refine exists_congr fun z => and_congr_right fun hz => ?_
    rw [nth_map_range _ _ (List.mem_range.mp hz)]
    have hb : v.zoneShutdown z = s.zoneShutdown z := 
      congrArg (signed 16) (fld_congr (hr _ (by simp only [THM_ZONE_B, GLB_EVT_SEQ, List.mem_singleton]; omega)) 15 0)
    rw [hb, State.level, State.level, fld_congr (hr THM_CFG (by decide)) 23 16]
  have hs : v.thm.shutdown = s.thm.shutdown := (congrArg Thermal.shutdown hv).trans rfl
  rw [State.staysShut, ← hs]
  by_cases h : v.thm.shutdown = true
  · rw [if_pos h, if_pos h, hany]
    split
    next ha => rw [hv, ha, Thermal.bare_of_shutdown (hv ▸ h)]
    next ha =>
      have hx : x.thm = w.thm := foldl_fixes (g := State.thm) (fun t z => endCause_keeps t _ .thm (by decide)) _ _
      rw [openEvent_keeps _ _ _ _ .thm (by decide), hx, eq_false_of_ne_true ha]
      exact congrArg (fun y : Thermal => ({ y.bare with shutdown := false } : Thermal)) hv
  · rw [if_neg h, if_neg h]
    have hshut : shut = s.zoneLevels.shut := by rfl
    rw [hshut]
    split
    next z hz =>
      have hz' : ((List.range 8).any fun z => nth s.zoneLevels.shut z false) = true :=
        List.any_eq_true.mpr ⟨z, List.mem_of_find?_eq_some hz, by simpa using List.find?_some hz⟩
      rw [thermalShutdown_bare, hz', hv]
    next hz =>
      have hz' : ((List.range 8).any fun z => nth s.zoneLevels.shut z false) = false :=
        List.any_eq_false.mpr fun z hm => List.find?_eq_none.mp hz z hm
      rw [hz', hv, ← Thermal.bare_of_shutdown (hv ▸ eq_false_of_ne_true h)]

theorem zoneLevels_level {s : State} {z : Nat} (hz : z < 8) : let l := s.zoneLevels
    nth l.warn z false = s.level (nth s.thm.warn z false) (s.zoneTemp z) (s.zoneWarn z) ∧
      nth l.throt z false = s.level (nth s.thm.throt z false) (s.zoneTemp z) (s.zoneThrottle z) ∧
      nth l.shut z false = s.level (nth s.thm.shut z false) (s.zoneTemp z) (s.zoneShutdown z) :=
  ⟨nth_map_range _ _ hz, nth_map_range _ _ hz, nth_map_range _ _ hz⟩

theorem level_iff {s : State} {was : Bool} {temp thr : Int} : s.level was temp thr = true ↔ 32 * thr ≤ 10 * temp ∨
    was = true ∧ 32 * (thr - (s.fld THM_CFG 23 16 : Nat)) ≤ 10 * temp := by
  simp [State.level]

/-- The throttle step to which a change leads (14 R354). -/
def State.throttleNext (s : State) : Nat :=
  if s.thm.throt.any id then (if s.thm.step + 1 < s.stepCount then s.thm.step + 1 else s.thm.step)
  else if s.thm.cool then s.thm.step - 1 else s.thm.step

theorem execThrottleStepChange_due {s : State}
    (h : s.thm.stepAt = 0 ∨ s.thm.stepAt + 1250000 * s.fld THM_CFG 31 24 ≤ s.time) :
    (s.throttleNext = s.thm.step → exec .throttleStepChange s = .next s) ∧
    (s.throttleNext ≠ s.thm.step → ∃ t, exec .throttleStepChange s = .next t ∧ t.thm.step = s.throttleNext ∧
      t.thm.stepAt = s.time) := by
  have hd : ¬ (s.time < s.thm.stepAt + ticksMs (s.fld THM_CFG 31 24) ∧ s.thm.stepAt ≠ 0) := by
    unfold ticksMs
    omega
  change (_ → execThrottleStepChange s = _) ∧ (_ → ∃ t, execThrottleStepChange s = _ ∧ _)
  unfold execThrottleStepChange
  rw [if_neg hd]
  refine ⟨fun he => congrArg Host.Outcome.next (if_pos he), fun he => ⟨_, congrArg Host.Outcome.next (if_neg he), ?_⟩⟩
  rw [openEvent_keeps _ _ _ _ .thm (by decide)]
  exact ⟨rfl, rfl⟩

theorem execThermalReading_on {s : State} {readings : List (Option Int)} (h : s.boot.held = false) :
    exec (.thermalReading readings) s =
      .next ((List.range 24).foldl (fun t n => t.readSensor n (nth readings n none)) s).readDie.readZones := by
  change execThermalReading readings s = _
  unfold execThermalReading
  rw [if_neg (ne_true_of_eq_false h)]

/-- Settles O33: a reading's levels are those of `readZones_bare`, and the step goes where `throttleNext` says. -/
theorem thermalManagementCompletes : Obligations.ThermalManagementCompletes := by
  refine ⟨fun s u o r x h => congrArg Host.Outcome.next (serve_answered h rfl), ?subst, ?held, ?reading, ?step⟩
  case subst =>
    intro s u o r x h hf hm
    have hok : (field r.payload 1 1 == 0xFF || !(u.sensor (field r.payload 1 1)).failed) = true := by
      rw [Bool.or_eq_true, beq_iff_eq, Bool.not_eq_true']
      exact or_iff_not_imp_left.mpr hm
    refine congrArg Host.Outcome.next (serve_answered h ?_)
    simp only [thermSubstOp, payload_packet, doneIf_pass hf, doneIf_pass hok, doneIf_nil]
  case held => exact fun s readings h => congrArg Host.Outcome.next (if_pos h)
  case reading =>
    intro s readings h v
    refine ⟨v.readZones, execThermalReading_on h, ?_⟩
    clear_value v
    obtain ⟨hz, hw, ht, hs, hc, hd⟩ := Thermal.levels_of_bare (readZones_bare v)
    refine ⟨hz, fun z hz => ?_, fun h => ?_, fun h => ?_, ?_, fun was temp thr => level_iff⟩
    · rw [hw, ht, hs]
      exact zoneLevels_level hz
    · rw [hd, hs, State.staysShut, h]
      simp
    · rw [hd, State.staysShut, h]
      simp
    · rw [hc]
      simp [State.zoneLevels]
  case step =>
    intro s hdue
    obtain ⟨hstay, hmove⟩ := execThrottleStepChange_due hdue
    refine ⟨fun hh hl => ?_, fun hh hl => ?_, fun hh hc hl => ?_, fun hh hl => ?_⟩
    · have hn : s.throttleNext = s.thm.step + 1 := by simp only [State.throttleNext, if_pos hh, if_pos hl]
      exact hn ▸ hmove (by omega)
    · exact hstay (by simp only [State.throttleNext, if_pos hh, if_neg (not_lt.mpr hl)])
    · have hn : s.throttleNext = s.thm.step - 1 := by simp [State.throttleNext, hh, hc]
      exact hn ▸ hmove (by omega)
    · refine hstay ?_
      simp only [State.throttleNext, hh, Bool.false_eq_true, if_false]
      rcases hl with hc | h0
      · simp [hc]
      · simp [h0]

end Sys2Proof.Machine

namespace Sys2Proof.Machine

/-! Calibration sets and runs (14 R360 to R366). -/

theorem setGain_keeps (s : State) (i range : Nat) (quiet : Bool) : s.keeps (s.setGain i range quiet) [.wfd] := by
  unfold State.setGain
  extract_lets old wfd u
  split
  · exact keeps_wfd s _
  · exact .trans (keeps_wfd s _) (keeps_wfd _ _)

theorem takeDin_keeps (s : State) (i : Nat) : s.keeps (s.takeDin i) [.wfd] :=
  .trans (keeps_wfd s _) (setGain_keeps _ _ _ _)

theorem hkSwitch_keepsRegs (s : State) (i k : Nat) : s.keepsRegs (s.hkSwitch i k) repairRegs := by
  cases h : s.hkCommanded i with
  | none =>
    rw [hkSwitch_rotates h]
    exact keepsRegs_of_regs rfl _
  | some m =>
    rw [hkSwitch_releases h]
    exact .trans (t := s.hkReleased i k m) (keepsRegs_of_regs rfl _)
      ((mapAdd_repairs _ _ _ _ _).trans (migDone_repairs _ _ _ _ _)).2

theorem hkBoundary_keepsRegs (s : State) (i : Nat) : s.keepsRegs (s.hkBoundary i) repairRegs := by
  unfold State.hkBoundary
  extract_lets p u
  have hu : s.keepsRegs u repairRegs := by
    unfold u
    split <;> exact keepsRegs_of_regs rfl _
  split
  · exact hu.trans (hkSwitch_keepsRegs u _ _)
  · split
    · exact hu.trans (keepsRegs_of_regs rfl _)
    · exact hu
  · exact hu

/-- The version that a set which comes into force takes. -/
def State.nextApplied (s : State) (b : List Byte) : Applied :=
  { version := match s.thm.applied with | x :: _ => x.version + 1 | [] => 1, effect := s.tim.shot + 64, bytes := b }

/-- Thermal management with the set that comes into force. -/
def State.published (s : State) (b : List Byte) : Thermal :=
  { s.thm with applied := s.nextApplied b :: s.thm.applied }

/-- What a set's publication does to comparators, inputs, slices and paths. -/
def publishParts : List Part := .hch :: .wfd :: hkParts

theorem keeps_wfd_hka (s : State) (x : Wave) (y : House) : s.keeps { s with wfd := x, hka := y } [.wfd, .hka] := by
  intro p hp
  cases p with
  | wfd => simp at hp
  | hka => simp at hp
  | _ => rfl

theorem publishSet_spec (s : State) (b : List Byte) :
    (s.publishSet b).thm = s.published b ∧
      (s.publishSet b).reg CAL_VER = s.reg CAL_VER + 1 := by
  unfold State.publishSet
  extract_lets old u v thm w x changed wfd y z wfd₁ hka a
  have hx : w.keeps x [.hch] :=
    .foldl (fun t c => by split; exacts [.refl t _, setChan_keeps t _ _]) _ _
  have hz : x.keeps z [.wfd] :=
    .trans (keeps_wfd x _) (.foldl (fun t i => .ite (takeDin_keeps t i) (.refl t _)) changed y)
  have ha : z.keeps a [.wfd, .hka] := keeps_wfd_hka z _ _
  have hwa : w.keeps a publishParts := .after ha rfl (.after hz rfl (.first hx rfl))
  have hregs : a.regs = u.regs := (ha .regs (by decide)).trans ((hz .regs (by decide)).trans (hx .regs (by decide)))
  have hend (t : State) (i : Nat) : t.keeps (if (t.hkPath i).step.isNone then t.hkBoundary i else t) hkParts ∧
      t.keepsRegs (if (t.hkPath i).step.isNone then t.hkBoundary i else t) repairRegs :=
    ⟨.ite (hkBoundary_keeps t i) (.refl t _), by split; exacts [hkBoundary_keepsRegs t i, .refl t _]⟩
  have hua (p : Part) (hp : p ∉ [.regs, .pk]) : p.same s u := bump_keeps s CAL_VER p hp
  constructor
  · have hthm : u.thm = s.thm := hua .thm (by decide)
    have htim : u.tim = s.tim := hua .tim (by decide)
    have hfold := State.keeps.foldl (fun t i => (hend t i).1) (List.range 2) a .thm (by decide)
    refine hfold.trans ((hwa .thm (by decide)).trans ?_)
    have hp : u.published b = s.published b := by simp only [State.published, State.nextApplied, hthm, htim]
    exact Eq.trans (by rfl) hp
  · have hfold := State.keepsRegs.foldl (fun t i => (hend t i).2) (List.range 2) a CAL_VER (by decide)
    exact hfold.trans ((reg_congr hregs CAL_VER).trans (reg_bump_self s CAL_VER))

theorem foldl_ne_none {α : Type} {g : Option α → α → Option α} (hg : ∀ o x, g o x ≠ none) {l : List α} (h : l ≠ [])
    (o : Option α) : l.foldl g o ≠ none := by
  induction l generalizing o with
  | nil => exact absurd rfl h
  | cons x l ih =>
    rw [List.foldl_cons]
    by_cases hl : l = []
    · rw [hl]
      exact hg o x
    · exact ih hl _

/-- A build finds a set to start from wherever there is one. -/
theorem mixOf_ne_none {sets : List (List Byte)} (h : sets ≠ []) (t : Int) : mixOf sets t ≠ none := by
  obtain ⟨x, hx⟩ := List.exists_mem_of_ne_nil sets h
  unfold mixOf
  extract_lets low high top
  have htop (f : Int → Int → Bool) {l : List (List Byte)} (hl : l ≠ []) : top f l ≠ none :=
    foldl_ne_none (fun o x => by cases o with
      | none => exact Option.some_ne_none x
      | some y => dsimp only; split <;> exact Option.some_ne_none _) hl none
  have hside : low ≠ [] ∨ high ≠ [] := by
    by_cases ht : 32 * setTemp x ≤ 10 * t
    · exact .inl (List.ne_nil_of_mem (List.mem_filter.mpr ⟨hx, by simpa using ht⟩))
    · exact .inr (List.ne_nil_of_mem (List.mem_filter.mpr ⟨hx, by simpa using ht⟩))
  clear_value top
  split
  case h_4 hlow hhigh => exact hside.elim (fun hl => absurd hlow (htop _ hl)) fun hh => absurd hhigh (htop _ hh)
  all_goals exact Option.some_ne_none _

/-- A build publishes a set, and notes its temperature. -/
theorem buildSet_publishes (s : State) : ∃ b out factory, s.buildSet = { (s.draw 62).2.publishSet b with
    thm.tApply := s.thm.tDie, thm.extrap := out, thm.factory := factory, thm.buildDue := false } := by
  unfold State.buildSet
  extract_lets stored factory t
  have hsets : (if factory = true then (List.range 8).map factorySet else stored) ≠ [] := by
    split
    · simp
    next h => exact fun hn => h (List.isEmpty_iff.mpr hn)
  split
  next hn => exact absurd hn (mixOf_ne_none hsets t)
  next m out hm =>
    exact ⟨calSet ((s.draw 62).1 % 8) (roundDiv (10 * t) 32) ((s.draw 62).1 / 8 % 64) ((s.draw 62).1 / 512 % 2 ^ 64)
      m.body, out, factory, by dsimp only [t]⟩

/-- The end of a run that succeeds leaves no run, its temperature as the last, and a build due. -/
theorem calEnd_thm (s : State) (r : CalRun) (m : List (Nat × List Byte)) :
    (s.calEnd r m).thm.run = none ∧ (s.calEnd r m).thm.tLast = r.tRun ∧ (s.calEnd r m).thm.buildDue = true := by
  unfold State.calEnd
  extract_lets b k set_ u thm v boot v₁ w
  have hw : w.thm = v.thm := by
    unfold w
    split <;> rfl
  have hv : v.thm.run = none ∧ v.thm.tLast = r.tRun ∧ v.thm.buildDue = true := ⟨rfl, rfl, rfl⟩
  split
  · rwa [complete_keeps _ _ _ _ _ .thm (by decide), hw]
  · rwa [event_keeps _ _ _ _ _ _ _ .thm (by decide), hw]

@[simp] theorem sequence_packet (r : Request) (n : Nat) : (r.packet n).sequence = r.sequence := rfl

/-- A run whose lanes have not all converged within the allowance of step 0 (14 R365). -/
def State.tapsLate (s : State) (r : CalRun) : Bool :=
  bit r.mask 0 && decide (r.started + ticksMs (s.fld (CAL_TMO 0) 15 0) < r.tapAt.getD s.time)

theorem tapsLate_iff {s : State} {r : CalRun} : s.tapsLate r = true ↔
    bit r.mask 0 = true ∧ r.started + 1250000 * s.fld (CAL_TMO 0) 15 0 < r.tapAt.getD s.time := by
  rw [State.tapsLate, Bool.and_eq_true, decide_eq_true_iff, ticksMs]

section
variable {s : State} {r : CalRun} (h : s.thm.run = some r)
include h

theorem execCalRunEnd_certain (hc : r.cause ≠ 0) (result : CalResult) :
    exec (.calRunEnd result) s = .next (s.failRun r none r.cause) := by
  change execCalRunEnd result s = _
  unfold execCalRunEnd
  simp only [h, if_pos hc]

variable (hc : r.cause = 0) (hk : bit r.mask 4 = true → s.hkStopped = false)
include hc hk

theorem execCalRunEnd_failed {k : Nat} (hb : bit r.mask k = true) (hl : k < 6) :
    exec (.calRunEnd (.failed k)) s = .next (s.failRun r (some k)
      (if r.started + ticksMs (s.fld (CAL_TMO k) 15 0) ≤ s.time then 1 else 2)) := by
  have hst : ¬ (bit r.mask 4 && s.hkStopped) = true := by simpa using hk
  change execCalRunEnd (.failed k) s = _
  unfold execCalRunEnd
  simp only [h, if_neg (not_not.mpr hc), if_neg hst]
  rw [if_neg (by simp [hb]; omega)]

/-- What the measured elements of a run lead to, in the order of the checks. -/
theorem execCalRunEnd_ok (m : List (Nat × List Byte)) :
    (s.tapsLate r → exec (.calRunEnd (.ok m)) s = .next (s.failRun r (some 0) 1)) ∧
    (¬ s.tapsLate r → ((s.lastStep r).2 < s.time →
        exec (.calRunEnd (.ok m)) s = .next (s.failRun r (some (s.lastStep r).1) 1)) ∧
      (s.time ≤ (s.lastStep r).2 → (bit r.mask 0 = true → r.tapAt = none → exec (.calRunEnd (.ok m)) s = .next s) ∧
        ((bit r.mask 0 = true → r.tapAt.isSome = true) →
          (s.trimsOk r m = false → exec (.calRunEnd (.ok m)) s = .next (s.failRun r (some 2) 2)) ∧
          (s.trimsOk r m = true → exec (.calRunEnd (.ok m)) s = .next (s.calEnd r m))))) := by
  have hst : ¬ (bit r.mask 4 && s.hkStopped) = true := by simpa using hk
  have hexec : exec (.calRunEnd (.ok m)) s = .next (if s.tapsLate r then s.failRun r (some 0) 1
      else if (s.lastStep r).2 < s.time then s.failRun r (some (s.lastStep r).1) 1
      else if (bit r.mask 0 && r.tapAt.isNone) = true then s
      else if ¬ s.trimsOk r m then s.failRun r (some 2) 2 else s.calEnd r m) := by
    change execCalRunEnd (.ok m) s = _
    unfold execCalRunEnd
    simp only [h, if_neg (not_not.mpr hc), if_neg hst, State.tapsLate]
    rfl
  simp only [hexec, Host.Outcome.next.injEq]
  refine ⟨fun hl => by rw [if_pos hl], fun hl => ⟨fun ht => by rw [if_neg hl, if_pos ht], fun ht => ?_⟩⟩
  rw [if_neg hl, if_neg (not_lt.mpr ht)]
  refine ⟨fun hb hn => if_pos (by simp [hb, hn]), fun hn => ?_⟩
  rw [if_neg (by simpa [← Option.isSome_iff_ne_none] using hn)]
  exact ⟨fun ho => by simp [ho], fun ho => by simp [ho]⟩
end

theorem calNewest_copy {s : State} {k : Nat} {y : Nat × List Byte} (h : s.calNewest k = some y) :
    y.1 = 0 ∨ y.1 = 1 := by
  unfold State.calNewest at h
  split at h
  · split at h
    · exact .inr (congrArg Prod.fst (Option.some.inj h)).symm
    · exact .inl (congrArg Prod.fst (Option.some.inj h)).symm
  · exact .inl (congrArg Prod.fst (Option.some.inj h)).symm
  · exact .inr (congrArg Prod.fst (Option.some.inj h)).symm
  · cases h

/-- Settles O34: a run's end in the order of its checks, and a build through what the publication of a set keeps. -/
theorem calibrationCompletes : Obligations.CalibrationCompletes := by
  refine ⟨?run, ?activate, fun s u o r x h => congrArg Host.Outcome.next (serve_answered h rfl), ?auto, ?first, ?ends,
    ?build, ?writeback⟩
  case run =>
    intro s u o r x h hn hs
    refine congrArg Host.Outcome.next (serve_answeredAccepted h ?_)
    simp only [calRunOp, payload_packet, sequence_packet, doneIf_pass (congrArg Option.isNone hn),
      doneIf_pass (congrArg Bool.not hs), doneIf_nil]
  case activate =>
    intro s u o r x h hn
    simp only
    by_cases hok : calSetOk (Sparse.getMany zeroByte u.thm.staging 0 calLength) (field r.payload 0 1) = true
    · rw [if_pos hok]
      refine congrArg Host.Outcome.next (serve_answered h ?_)
      simp only [calActivateOp, payload_packet, doneIf_pass hok, doneIf_pass (congrArg Option.isNone hn), doneIf_nil]
    · rw [if_neg hok]
      refine congrArg Host.Outcome.next (serve_answeredRefusal h ?_)
      simp only [calActivateOp, payload_packet, doneIf_fail (eq_false_of_ne_true hok)]
  case auto =>
    intro s ha hb hf ht
    have hheld : s.firstHeld = false := by
      rw [State.firstHeld]
      cases h : s.boot.firstCal with
      | false => rfl
      | true => exact hf h
    change execCalAutoRun s = _
    unfold execCalAutoRun
    rw [if_pos]
    simp only [ha, hb, hheld, Bool.not_false, Bool.and_self, decide_eq_true ht]
  case first =>
    intro s ha hf hb hw
    have hheld : s.firstHeld = true := by rw [State.firstHeld, hf, hb, Bool.and_self]
    have hnow : (s.tim.warm && s.settled ||
        decide (s.boot.readyAt + ticksS (s.fld BOOT_CFG 31 16) ≤ s.time)) = true := by
      rw [Bool.or_eq_true, Bool.and_eq_true, decide_eq_true_iff]
      exact hw
    change execFirstCalStart s = _
    unfold execFirstCalStart
    rw [if_pos]
    rw [ha, hheld, Bool.and_self, Bool.true_and]
    exact hnow
  case ends =>
    intro s result r h
    simp only [← tapsLate_iff]
    refine ⟨fun hc => execCalRunEnd_certain h hc result, fun hc hk => ⟨?_, ?_, ?_, ?_, ?_, ?_⟩⟩
    · rintro k rfl hb hl
      exact execCalRunEnd_failed h hc hk hb hl
    · rintro m rfl hl
      exact (execCalRunEnd_ok h hc hk m).1 hl
    · rintro m rfl hl ht
      exact ((execCalRunEnd_ok h hc hk m).2 hl).1 ht
    · rintro m rfl hl ht hb hn
      exact (((execCalRunEnd_ok h hc hk m).2 hl).2 ht).1 hb hn
    · rintro m rfl hl ht hn ho
      exact ((((execCalRunEnd_ok h hc hk m).2 hl).2 ht).2 hn).1 ho
    · rintro m rfl hl ht hn ho
      exact ⟨((((execCalRunEnd_ok h hc hk m).2 hl).2 ht).2 hn).2 ho, calEnd_thm s r m⟩
  case build =>
    intro s ha hd
    obtain ⟨b, out, factory, hbuild⟩ := buildSet_publishes s
    obtain ⟨hthm, hver⟩ := publishSet_spec (s.draw 62).2 b
    refine ⟨s.buildSet, (s.draw 62).2.nextApplied b, ?_, ?_⟩
    · change execAppliedSetBuild s = _
      unfold execAppliedSetBuild
      rw [if_pos ⟨fun he => ha (List.isEmpty_iff.mp he), .inl hd⟩]
    · rw [hbuild]
      generalize (s.draw 62).2.publishSet b = w at hthm hver
      exact ⟨congrArg Thermal.applied hthm, rfl, hver, rfl, rfl⟩
  case writeback =>
    intro s k b hf hw hb
    have hdue : ¬ (¬ s.boot.firmware = true ∨ (s.thm.writeback.all fun x => x.1 != k.val) = true) := by
      rintro (h | h)
      · exact h hf
      · obtain ⟨y, hy, he⟩ := List.any_eq_true.mp hw
        exact absurd he (by simpa using List.all_eq_true.mp h y hy)
    cases hn : s.calNewest k with
    | none =>
      refine ⟨_, 0, ?_, rfl, .inl rfl, fun y hy => absurd hy (Option.some_ne_none y).symm⟩
      change execCalsetWriteback k s = _
      simp only [execCalsetWriteback, if_neg hdue, hb, hn]
    | some x =>
      have hcopy : x.1 = 0 ∨ x.1 = 1 := calNewest_copy hn
      refine ⟨_, 1 - x.1, ?_, rfl, by omega, fun y hy => ?_⟩
      · change execCalsetWriteback k s = _
        simp only [execCalsetWriteback, if_neg hdue, hb, hn]
      · cases hy
        omega

end Sys2Proof.Machine

namespace Sys2Proof.Machine

/-! What the fault of a unit tells (17 R417, R431): an incident of its cause, or a report that is counted as dropped. -/

/-- A cause stands in an incident, or its report has been counted as dropped. -/
def State.tells (s t : State) (key : Word) : Prop :=
  (∃ i ∈ t.rep.incidents, i.key = key) ∨ t.reg REP_INC_DROP = s.reg REP_INC_DROP + 1

/-- The causes that stand in incidents and the count of dropped reports are the same in two states. -/
def State.keepsTold (s t : State) : Prop :=
  t.rep.incidents.map Incident.key = s.rep.incidents.map Incident.key ∧ t.reg REP_INC_DROP = s.reg REP_INC_DROP

namespace State.keepsTold

theorem refl (s : State) : s.keepsTold s := ⟨rfl, rfl⟩

theorem trans {s t u : State} (h : s.keepsTold t) (g : t.keepsTold u) : s.keepsTold u :=
  ⟨g.1.trans h.1, g.2.trans h.2⟩

theorem ite {s t u : State} {c : Prop} [Decidable c] (ht : s.keepsTold t) (hu : s.keepsTold u) :
    s.keepsTold (if c then t else u) := by
  split
  exacts [ht, hu]

theorem foldl {α : Type} {f : State → α → State} (hf : ∀ (t : State) x, t.keepsTold (f t x)) :
    ∀ (xs : List α) (s : State), s.keepsTold (xs.foldl f s)
  | [], s => refl s
  | x :: xs, s => (hf s x).trans (foldl hf xs (f s x))

/-- A change of other parts and registers leaves both. -/
theorem of {s t : State} {l : List Part} {m : List Nat} (h : s.keeps t l) (g : s.keepsRegs t m)
    (hl : Part.rep ∉ l) (hm : REP_INC_DROP ∉ m) : s.keepsTold t :=
  ⟨congrArg (fun r : Repair => r.incidents.map Incident.key) (h .rep hl), g REP_INC_DROP hm⟩

/-- A change of the repair unit that leaves its incidents leaves both. -/
theorem rep {s : State} {x : Repair} (h : x.incidents = s.rep.incidents) : s.keepsTold { s with rep := x } :=
  ⟨congrArg (List.map Incident.key) h, rfl⟩

end State.keepsTold

theorem State.tells.kept {s t u : State} {key : Word} (h : s.tells t key) (g : t.keepsTold u) : s.tells u key := by
  refine h.imp (fun ⟨i, hi, hk⟩ => ?_) fun hd => g.2.trans hd
  have hm : key ∈ u.rep.incidents.map Incident.key := g.1 ▸ hk ▸ List.mem_map_of_mem hi
  exact List.mem_map.mp hm

theorem State.tells.after {s t u : State} {key : Word} (h : t.tells u key) (g : s.keepsTold t) : s.tells u key :=
  h.imp_right fun hd => hd.trans (by rw [g.2])

theorem report_tells (s : State) (key : Word) (b i : Nat) (ended : Bool) : s.tells (s.report key b i ended) key := by
  unfold State.report State.reportWith
  extract_lets joins
  split
  next h =>
    obtain ⟨x, hx, hj⟩ := List.any_eq_true.mp h
    have hk : x.key = key := of_decide_eq_true ((Bool.and_eq_true _ _).mp hj).1
    exact .inl ⟨_, List.mem_map_of_mem hx, by rw [if_pos hj]; exact hk⟩
  next =>
    split
    · refine .inr ?_
      rw [reg_latch_other _ _ (by decide), reg_bump_self]
    · exact .inl ⟨_, List.mem_append_right _ (List.mem_singleton_self _), rfl⟩

section
variable (s : State)

theorem openEvent_keepsTold (cls unit : Nat) (l : Option (List Byte)) : s.keepsTold (s.openEvent cls unit l) :=
  .of (openEvent_keeps s _ _ _) (openEvent_keepsRegs s _ _ _) (by decide) (by decide)

theorem mapChanged_keepsTold : s.keepsTold s.mapChanged := by
  have hwrap : s.keepsTold (if s.rep.mapSeq = 0xFFFFFFFF then s.noteWrap 0xE 0x73 4 32 else s) := .ite ⟨rfl, rfl⟩ (.refl s)
  exact hwrap.trans (.trans (.rep rfl) (openEvent_keepsTold _ _ _ _))

theorem mapAdd_keepsTold (k o f n : Nat) : s.keepsTold (s.mapAdd k o f n) :=
  .ite (.trans (.rep rfl) (mapChanged_keepsTold _)) (.trans (.rep rfl) (mapChanged_keepsTold _))

theorem incidentRepair_keepsTold (key mapSeq : Word) : s.keepsTold (s.incidentRepair key mapSeq) := by
  refine ⟨?_, rfl⟩
  simp only [State.incidentRepair, List.map_map]
  refine List.map_congr_left fun i _ => ?_
  simp only [Function.comp]
  split <;> rfl

theorem mapMade_keepsTold (cls obj : Nat) (causes : List Nat) : s.keepsTold (s.mapMade cls obj causes) :=
  .foldl (fun t _ => incidentRepair_keepsTold t _ _) _ s

theorem interruption_keepsTold : s.keepsTold s.interruption := by
  unfold State.interruption
  extract_lets bound double u
  have hu : s.keepsTold u :=
    .ite (.of (latch_keeps s _ _) (latch_keepsRegs s _ _) (by decide) (by decide)) (.refl s)
  exact hu.trans ⟨rfl, rfl⟩

theorem migReport_keepsTold (m : Migration) (o f n : Nat) : s.keepsTold (s.migReport m o f n) := by
  refine ⟨congrArg (fun r : Repair => r.incidents.map Incident.key) (migReport_rep s m o f n), ?_⟩
  unfold State.migReport
  rw [reg_latch_other _ _ (by decide), reg_bump_other _ (by decide), reg_setRegN_other _ _ (by decide),
    reg_setRegN_other _ _ (by decide)]
  rfl

theorem migEnd_keepsTold (m : Migration) (code : Nat) : s.keepsTold (s.migEnd m code) := by
  unfold State.migEnd
  extract_lets rest first rep u
  have hu : s.keepsTold u := .rep rfl
  split
  · exact hu.trans (.of (complete_keeps _ _ _ _ _) (complete_keepsRegs _ _ _ _ _) (by decide) (by decide))
  · exact hu.trans (openEvent_keepsTold _ _ _ _)

theorem migDone_keepsTold (m : Migration) (o f n : Nat) : s.keepsTold (s.migDone m o f n) :=
  .trans (.trans (migReport_keepsTold s m _ f n) (interruption_keepsTold _)) (migEnd_keepsTold _ _ _)

theorem spareFails_keepsTold (k u : Nat) : s.keepsTold (s.spareFails k u) := by
  unfold State.spareFails
  split
  · exact .refl s
  · exact .ite (.trans (.rep rfl) (interruption_keepsTold _)) (.refl s)

theorem queueMig_keepsTold (k f stopped : Nat) (w : Option (Origin × Half)) :
    s.keepsTold (s.queueMig k f stopped w) := by
  unfold State.queueMig
  extract_lets new
  split
  · exact .rep rfl
  · exact .ite (.trans (migDone_keepsTold s _ _ _ _) (.rep rfl)) (.refl s)
end

/-! What the fault of a unit leaves: its work waits, or, where it serves nothing, the map has it (17 R418, R428). -/

/-- The work of a unit that serves waits for a migration; one that serves nothing is mapped out. -/
def State.settleFault (s : State) (kind unit stopped cls cause : Nat) (serves : Prop) [Decidable serves] : State :=
  if serves then s.queueMig kind unit stopped else (s.mapAdd kind 2 unit noSpare).mapMade cls unit [cause]

section
variable (s : State) (kind unit stopped cls cause : Nat) (serves : Prop) [Decidable serves]

/-- The repair unit but for what waits and what the map holds. -/
theorem settleFault_spec : let t := s.settleFault kind unit stopped cls cause serves
    t.rep.bare = { s.rep.bare with migs := t.rep.migs, map := t.rep.map } ∧ s.repairs t ∧ s.keepsTold t ∧
      (serves → (kind, unit) ∈ t.migKeys) ∧
      (¬ serves → t.migKeys = s.migKeys ∧ ∃ x ∈ t.rep.map, x.kind = kind ∧ x.failed = unit ∧ x.origin = 2) := by
  intro t
  by_cases h : serves
  · have ht : t = s.queueMig kind unit stopped := if_pos h
    obtain ⟨hrep, hkey⟩ := queueMig_spec s kind unit stopped none
    rw [ht]
    exact ⟨by rw [hrep]; rfl, queueMig_repairs s _ _ _ _, queueMig_keepsTold s _ _ _ _, fun _ => hkey,
      fun hn => absurd h hn⟩
  · have ht : t = (s.mapAdd kind 2 unit noSpare).mapMade cls unit [cause] := if_neg h
    obtain ⟨hadd, x, hx, hkind, hfailed, horigin, -⟩ := mapAdd_spec s kind 2 unit noSpare
    have hmade := mapMade_bare (s.mapAdd kind 2 unit noSpare) cls unit [cause]
    have hbare := hmade.trans hadd
    have hmap : t.rep.map = (s.mapAdd kind 2 unit noSpare).rep.map := by
      rw [ht]
      exact (congrArg Repair.map hmade :)
    rw [ht] at hmap ⊢
    refine ⟨?_, .trans (mapAdd_repairs s _ _ _ _) (mapMade_repairs _ _ _ _),
      .trans (mapAdd_keepsTold s _ _ _ _) (mapMade_keepsTold _ _ _ _), fun hs => absurd hs h, fun _ => ⟨?_, x, ?_⟩⟩
    · have hmigs : ((s.mapAdd kind 2 unit noSpare).mapMade cls unit [cause]).rep.migs = s.rep.migs :=
        (congrArg Repair.migs hbare :)
      rw [hmap, hmigs]
      exact hbare
    · exact (congrArg (fun r : Repair => r.migs.map fun m : Migration => (m.kind, m.failed)) hbare :)
    · exact ⟨hmap ▸ hx, hkind, hfailed, horigin⟩
end

/-- The unit is marked, its cause is told, and what follows is settled: what the fault of a unit of one of the two kinds
leaves. -/
structure State.faulted (s t : State) (kind unit : Nat) (key : Word) (serves : Prop) : Prop where
  told : s.tells t key
  waits : serves → (kind, unit) ∈ t.migKeys
  mapped : ¬ serves → t.migKeys = s.migKeys ∧ ∃ x ∈ t.rep.map, x.kind = kind ∧ x.failed = unit
  regs : s.keepsRegs t repairRegs

theorem faultTdc_faulted {s : State} {i : Nat} (h : s.rep.tdcFail.contains i = false) (cause stopped : Nat) :
    let t := s.faultTdc i cause stopped
    t.rep.tdcFail = s.rep.tdcFail ++ [i] ∧ s.faulted t 0 i (causeKey 2 cause i) (s.tdcServes i ≠ 0xFFFF) := by
  intro t
  have hkeys : (s.spareFails 0 i).migKeys = s.migKeys := (spareFails_spec s 0 i).2
  have hkept : s.keepsTold (s.spareFails 0 i) := spareFails_keepsTold s 0 i
  obtain ⟨u, hu⟩ : ∃ u : State, u = { s.spareFails 0 i with rep.tdcFail := (s.spareFails 0 i).rep.tdcFail ++ [i] } := ⟨_, rfl⟩
  have hsu : s.keepsTold u := hkept.trans (hu ▸ .rep rfl)
  have huk : u.migKeys = s.migKeys := hu ▸ hkeys
  obtain ⟨v, hv⟩ : ∃ v, v = u.report (causeKey 2 cause i) 4 i false := ⟨_, rfl⟩
  have hvk : v.migKeys = u.migKeys :=
    hv ▸ (congrArg (fun r : Repair => r.migs.map fun m : Migration => (m.kind, m.failed)) (report_bare u _ _ _ _) :)
  have ht : t = v.settleFault 0 i stopped 2 cause (s.tdcServes i ≠ 0xFFFF) := by
    rw [hv, hu]
    exact if_neg (ne_true_of_eq_false h)
  obtain ⟨-, -, htold, hwaits, hmapped⟩ := settleFault_spec v 0 i stopped 2 cause (s.tdcServes i ≠ 0xFFFF)
  refine ⟨(faultTdc_spec s h cause stopped).1, ?_, ht ▸ hwaits, fun hn => ?_, (faultTdc_repairs s i cause stopped).2⟩
  · rw [ht]
    exact ((hv ▸ report_tells u _ _ _ _ : u.tells v _).after hsu).kept htold
  · obtain ⟨hm, x, hx, hk, hf, -⟩ := hmapped hn
    exact ⟨ht ▸ hm.trans (hvk.trans huk), x, ht ▸ hx, hk, hf⟩

/-- An engine that a fault stops. -/
def Engine.faulty (x : Engine) : Engine := { x with st := .failed, wasHalted := x.st == .halted }

theorem faultEngine_faulted {s : State} {e : Nat} (h : s.rep.engFail.contains e = false) (cause stopped : Nat) :
    let t := s.faultEngine e cause stopped
    t.rep.engFail = s.rep.engFail ++ [e] ∧ t.rep.pool = s.rep.pool.filter (· != e) ∧
      t.hen = (s.setEng e Engine.faulty).hen ∧ s.keeps t (.hen :: repairParts) ∧
      s.faulted t 1 e (causeKey 3 cause e) ((s.engineGroup e).isSome = true) := by
  intro t
  obtain ⟨u, hu⟩ : ∃ u, u = s.spareFails 1 e := ⟨_, rfl⟩
  obtain ⟨hrep, hkeys⟩ := spareFails_spec s 1 e
  have hsu : s.repairs u := hu ▸ spareFails_repairs s 1 e
  rw [← hu] at hrep hkeys
  obtain ⟨v, hv⟩ : ∃ v : State, v = { u with
    rep.engFail := u.rep.engFail ++ [e], rep.pool := u.rep.pool.filter (· != e) } := ⟨_, rfl⟩
  have huv : u.repairs v := hv ▸ .rep u _
  obtain ⟨w, hw⟩ : ∃ w, w = v.setEng e Engine.faulty := ⟨_, rfl⟩
  have hvw : v.keeps w [.hen] := hw ▸ setEng_keeps v e _
  obtain ⟨x, hx⟩ : ∃ x, x = w.report (causeKey 3 cause e) 5 e false := ⟨_, rfl⟩
  have hwx : w.repairs x := hx ▸ report_repairs w _ _ _ _
  have hbare : x.rep.bare = w.rep.bare := hx ▸ report_bare w _ _ _ _
  have ht : t = x.settleFault 1 e stopped 3 cause ((s.engineGroup e).isSome = true) := by
    rw [hx, hw, hv, hu]
    exact if_neg (ne_true_of_eq_false h)
  obtain ⟨htb, hxt, htold, hwaits, hmapped⟩ :=
    settleFault_spec x 1 e stopped 3 cause ((s.engineGroup e).isSome = true)
  rw [← ht] at htb hxt htold hwaits hmapped
  have hwrep : w.rep = v.rep := hvw .rep (by decide)
  have hhen : w.hen = (s.setEng e Engine.faulty).hen := by
    rw [hw]
    exact congrArg (upd · e Engine.faulty) ((huv.1 .hen (by decide)).trans (hsu.1 .hen (by decide)))
  refine ⟨?_, ?_, ?_, ?_, ?_, hwaits, fun hn => ?_, ?_⟩
  · have hl : t.rep.engFail = w.rep.engFail :=
      (congrArg Repair.engFail htb :).trans (congrArg Repair.engFail hbare :)
    rw [hl, hwrep, hv, hrep]
  · have hl : t.rep.pool = w.rep.pool := (congrArg Repair.pool htb :).trans (congrArg Repair.pool hbare :)
    rw [hl, hwrep, hv, hrep]
  · exact (hxt.1 .hen (by decide)).trans ((hwx.1 .hen (by decide)).trans hhen)
  · exact .after hxt.1 rfl (.after hwx.1 rfl (.after hvw rfl (.first (hsu.trans huv).1 rfl)))
  · have hsw : s.keepsTold w :=
      .trans (hu ▸ spareFails_keepsTold s 1 e : s.keepsTold u) (.trans (hv ▸ .rep rfl : u.keepsTold v) (hw ▸ ⟨rfl, rfl⟩))
    exact ((hx ▸ report_tells w _ _ _ _ : w.tells x _).after hsw).kept htold
  · obtain ⟨hm, y, hy, hk, hf, -⟩ := hmapped hn
    refine ⟨hm.trans (Eq.trans ?_ hkeys), y, hy, hk, hf⟩
    have hxw : x.migKeys = w.migKeys :=
      (congrArg (fun r : Repair => r.migs.map fun m : Migration => (m.kind, m.failed)) hbare :)
    rw [hxw, State.migKeys, hwrep, hv]
    rfl
  · exact .trans (hsu.trans huv).2 (.trans (hvw.toRegs (by decide) _) (.trans hwx.2 hxt.2))

theorem faultEngine_again {s : State} {e : Nat} (h : s.rep.engFail.contains e = true) (cause stopped : Nat) :
    s.faultEngine e cause stopped = s := if_pos h

/-- The fault of the active pair. -/
theorem faultPair_spec (s : State) (cause : Nat) :
    (s.boot.firmware = false ∨ s.rep.switch ≠ none → s.faultPair cause = s) ∧
    (s.boot.firmware = true → s.rep.switch = none → s.rep.standby = true → let t := s.faultPair cause
      t.rep.switch = some s.time ∧ s.tells t (causeKey 7 cause s.rep.active) ∧ s.keeps t [.rep, .regs, .drawn, .pk]) ∧
    (s.boot.firmware = true → s.rep.switch = none → s.rep.standby = false → let t := s.faultPair cause
      t.boot.firmware = false ∧ t.boot.responder = true ∧ s.keeps t [.rep, .regs, .drawn, .pk, .boot]) := by
  obtain ⟨u, hu⟩ : ∃ u, u = s.report (causeKey 7 cause s.rep.active) 0xE s.rep.active false := ⟨_, rfl⟩
  have hsu : s.keeps u [.rep, .regs, .pk, .drawn] := hu ▸ report_keeps s _ _ _ _
  have hbare : u.rep.bare = s.rep.bare := hu ▸ report_bare s _ _ _ _
  have hstandby : u.rep.standby = s.rep.standby := (congrArg Repair.standby hbare :)
  have hpair (hf : s.boot.firmware = true) (hw : s.rep.switch = none) : s.faultPair cause =
      if s.rep.standby = true then { u with rep.switch := some u.time }
      else { u.report (causeKey 7 3 u.rep.active) 0xE u.rep.active false with boot.firmware := false, boot.responder := true } := by
    rw [← hstandby, hu]
    exact if_neg (by simp [hf, hw])
  refine ⟨fun h => if_pos ?_, fun hf hw hs => ?_, fun hf hw hs => ?_⟩
  · rw [Bool.not_eq_true, ← Option.ne_none_iff_isSome]
    exact h
  · rw [hpair hf hw, if_pos hs]
    have htime : u.time = s.time := hsu .time (by decide)
    exact ⟨congrArg some htime, (hu ▸ report_tells s _ _ _ _ : s.tells u _).kept (.rep rfl),
      .after (keeps_rep u _) rfl (.first hsu rfl)⟩
  · rw [hpair hf hw, if_neg (ne_true_of_eq_false hs)]
    exact ⟨rfl, rfl, .after (keeps_boot _ _) rfl (.after (report_keeps u _ _ _ _) rfl (.first hsu rfl))⟩

/-- A unit that waits by its key. -/
theorem mem_migs_of_key {s : State} {k f : Nat} (h : (k, f) ∈ s.migKeys) : ∃ m ∈ s.rep.migs, m.kind = k ∧ m.failed = f := by
  obtain ⟨m, hm, he⟩ := List.mem_map.mp h
  exact ⟨m, hm, congrArg Prod.fst he, congrArg Prod.snd he⟩

theorem failed_of_keys {s t : State} (h : t.migKeys = s.migKeys) :
    t.rep.migs.map Migration.failed = s.rep.migs.map Migration.failed := by
  have hl : ∀ u : State, u.rep.migs.map Migration.failed = u.migKeys.map Prod.snd := fun u => by
    simp only [State.migKeys, List.map_map]
    rfl
  rw [hl, hl, h]

/-- Settles O40: each cause leads to one of the faults. -/
theorem unitFaultsMarkReportAndQueue : Obligations.UnitFaultsMarkReportAndQueue := by
  unfold Obligations.UnitFaultsMarkReportAndQueue
  intro told tdc engine
  have htdc {s : State} {c : Instr} {i cause stopped : Nat} (hc : exec c s = .next (s.faultTdc i cause stopped))
      (h : s.rep.tdcFail.contains i = false) : tdc s c i cause := by
    obtain ⟨hfail, hf⟩ := faultTdc_faulted h cause stopped
    refine ⟨_, hc, hfail, hf.told, fun hs => mem_migs_of_key (hf.waits hs), fun hs => ?_,
      (faultTdc_repairs s i cause stopped).1.mono (by simp [repairParts])⟩
    obtain ⟨hm, x, hx⟩ := hf.mapped (not_not.mpr hs)
    exact ⟨failed_of_keys hm, x, hx⟩
  have hengine {s : State} {c : Instr} {e cause stopped : Nat} (hc : exec c s = .next (s.faultEngine e cause stopped))
      (h : s.rep.engFail.contains e = false) : engine s c e cause := by
    obtain ⟨hfail, hpool, hhen, hkeep, hf⟩ := faultEngine_faulted h cause stopped
    have heng (k : Nat) : (s.faultEngine e cause stopped).eng k = (s.setEng e Engine.faulty).eng k := by
      simp only [State.eng, hhen]
    refine ⟨_, hc, hfail, hpool, hf.told, fun hl => ?_, fun k hk => ?_, fun hs => mem_migs_of_key (hf.waits hs), fun hs => ?_,
      hkeep.mono (by simp [repairParts])⟩
    · rw [heng, eng_setEng_self s _ hl]
      rfl
    · rw [heng, eng_setEng_other s _ hk]
    · obtain ⟨hm, x, hx⟩ := hf.mapped (ne_true_of_eq_false hs)
      exact ⟨failed_of_keys hm, x, hx⟩
  have hwcet (s : State) (e : Fin 68) : exec (.runLongerThanWcet e) s = .next (match (s.eng e).run with
      | some r => if 2 * s.regN (HEN_WCET e) < s.runCycles e r then s.faultEngine e 4 s.time else s
      | none => s) := rfl
  refine ⟨fun s i hi h => htdc (congrArg Host.Outcome.next (if_pos hi)) h, fun s i h => ?_,
    fun s i hi h => hengine (congrArg Host.Outcome.next (if_pos hi)) h, fun s e h => hengine rfl h,
    fun s e r h hr hl => hengine (stopped := s.time) ?_ h, fun s e h => ⟨?_, ?_⟩, fun s e h => ?_, fun s c cause hc => ?_⟩
  · have hagain : s.faultTdc i 2 s.time = s := if_pos h
    exact congrArg Host.Outcome.next ((congrArg (ite _ · s) hagain).trans (ite_self s))
  · rw [hwcet, hr]
    exact congrArg Host.Outcome.next (if_pos hl)
  · exact congrArg Host.Outcome.next (faultEngine_again h _ _)
  · rw [hwcet, faultEngine_again h]
    cases (s.eng e).run with
    | none => rfl
    | some r => exact congrArg Host.Outcome.next (ite_self s)
  · rw [hwcet]
    cases hr : (s.eng e).run with
    | none => rfl
    | some r => exact congrArg Host.Outcome.next (if_neg (Nat.not_lt.mpr (h r hr)))
  · have hexec : exec c s = .next (s.faultPair cause) := by
      obtain ⟨rfl, rfl⟩ | ⟨rfl, rfl⟩ := hc
      exacts [rfl, rfl]
    obtain ⟨hstay, hswitch, hfail⟩ := faultPair_spec s cause
    exact ⟨fun hf hw hs => ⟨_, hexec, hswitch hf hw hs⟩, fun hf hw hs => ⟨_, hexec, hfail hf hw hs⟩,
      fun h => hexec.trans (congrArg Host.Outcome.next (hstay h))⟩

end Sys2Proof.Machine

namespace Sys2Proof.Machine

/-! SRAM errors, scrubs and row repairs (15 R371, R372). -/

/-- What an uncorrectable SRAM error may change. -/
def sramUeParts : List Part := [.drawn, .regs, .pk, .pg, .hch, .hen, .out, .adm, .tim, .thm, .mem, .rep, .ifl, .boot]

/-- A state that an SRAM error leaves: the rows that gave errors are the same. -/
def State.keepsRows (s t : State) : Prop := s.keeps t sramUeParts ∧ t.mem.sramCe = s.mem.sramCe

namespace State.keepsRows

theorem refl (s : State) : s.keepsRows s := ⟨.refl s _, rfl⟩

theorem trans {s t u : State} (h : s.keepsRows t) (g : t.keepsRows u) : s.keepsRows u := ⟨h.1.trans g.1, g.2.trans h.2⟩

theorem ite {s t u : State} {c : Prop} [Decidable c] (ht : s.keepsRows t) (hu : s.keepsRows u) :
    s.keepsRows (if c then t else u) := by
  split
  exacts [ht, hu]

/-- A change of other parts. -/
theorem of {s t : State} {l : List Part} (h : s.keeps t l) (hm : Part.mem ∉ l)
    (hl : (l.all fun p => sramUeParts.contains p) = true) : s.keepsRows t :=
  ⟨.first h hl, congrArg MemUnit.sramCe (h .mem hm)⟩

end State.keepsRows

theorem faultEngine_keeps (s : State) (e cause stopped : Nat) :
    s.keeps (s.faultEngine e cause stopped) (.hen :: repairParts) := by
  cases h : s.rep.engFail.contains e with
  | true => rw [faultEngine_again h]; exact .refl s _
  | false => exact (faultEngine_faulted h cause stopped).2.2.2.1

theorem coreError_keepsRows (s : State) (pair : Nat) : s.keepsRows (s.coreError pair) := by
  unfold State.coreError
  refine .ite (.of (keeps_rep s _) (by decide) (by decide)) (.ite (.refl s) (.ite (.of (keeps_rep s _) (by decide) (by decide)) ?_))
  exact .trans (t := { s with boot.firmware := false, boot.responder := true }) (.of (keeps_boot s _) (by decide) (by decide))
    (.of (report_keeps _ _ _ _ _) (by decide) (by decide))

theorem tableError_keepsRows (s : State) (off : Nat) : s.keepsRows (s.tableError off) := by
  unfold State.tableError
  extract_lets hit bad mem u
  have hu : s.keepsRows u := ⟨.first (keeps_mem s _) (by decide), rfl⟩
  exact hu.trans (.of (suspendAll_keeps _ _ _ _) (by decide) (by decide))

theorem ringTake_keeps (s : State) (o : Origin) : s.keeps (s.ringTake o) [.pk] := by
  cases o
  case ring n => exact keeps_pk s _
  all_goals exact .refl s _

theorem ingressError_keeps (s : State) (i : Nat) : s.keeps (s.ingressError i) [.regs, .pk, .out, .ifl] := by
  unfold State.ingressError
  split
  · exact .refl s _
  · extract_lets pk u p
    have hu : s.keeps u [.regs, .pk, .out, .ifl] := .after (bump_keeps _ _) rfl (.after (ringTake_keeps _ _) rfl
      (.first (keeps_pk s _) rfl))
    clear_value p u
    split
    · exact .ite (.after (answer_keeps _ _ _ _ _ _) rfl hu) hu
    · exact hu

theorem writeWindow_one_keepsRows (s : State) (off : Nat) (d : List Byte) : s.keepsRows (s.writeWindow 1 off d) := by
  unfold State.writeWindow
  rw [if_neg (by decide), if_neg (by decide), if_neg (by decide), if_pos rfl]
  exact .ite (.of (keeps_thm s _) (by decide) (by decide)) ⟨.first (keeps_mem s _) (by decide), rfl⟩

/-- The counter and the status of an uncorrectable SRAM error. -/
def State.sramCounted (s : State) : State := (s.bump MEM_SRAM_UE).latch MEM_STATUS 0x2

theorem sramCounted_keeps (s : State) : s.keeps s.sramCounted [.regs, .pk] :=
  .after (latch_keeps _ _ _) rfl (bump_keeps s _)

theorem reg_sramCounted (s : State) : s.sramCounted.reg MEM_SRAM_UE = s.reg MEM_SRAM_UE + 1 := by
  rw [State.sramCounted, reg_latch_other _ _ (by decide), reg_bump_self]

/-- The error of a region that is no engine's, as it is reported. -/
def State.sramReported (s : State) (a : Nat) : State :=
  s.sramCounted.report (causeKey 6 1 (sramRegion a)) 0xC (sramRegion a) true

theorem sramReported_keeps (s : State) (a : Nat) : s.keeps (s.sramReported a) [.regs, .pk, .rep, .drawn] :=
  .after (report_keeps _ _ _ _ _) rfl (.first (sramCounted_keeps s) rfl)

theorem reg_sramReported (s : State) (a : Nat) : (s.sramReported a).reg MEM_SRAM_UE = s.reg MEM_SRAM_UE + 1 :=
  (report_keepsRegs _ _ _ _ _ MEM_SRAM_UE (by decide)).trans (reg_sramCounted s)

theorem sramUe_keepsRows (s : State) (a : Nat) : s.keepsRows (s.sramUe a) := by
  have hcounted : s.keepsRows s.sramCounted := .of (sramCounted_keeps s) (by decide) (by decide)
  have hreported : s.keepsRows (s.sramReported a) := .of (sramReported_keeps s a) (by decide) (by decide)
  unfold State.sramUe
  extract_lets u e r v
  split
  · exact hcounted.trans (.ite (.of (faultEngine_keeps _ _ _ _) (by decide) (by decide)) (.refl _))
  · have hv : s.keepsRows v := hreported
    refine hv.trans ?_
    clear_value v r
    split
    · exact coreError_keepsRows v 0
    · exact coreError_keepsRows v 1
    · exact tableError_keepsRows v _
    · exact .ite (.of (keeps_thm v _) (by decide) (by decide))
        (.ite (.of (keeps_thm v _) (by decide) (by decide)) (.refl v))
    · exact .ite (.refl v) (.of (setLane_keeps v _ _ _) (by decide) (by decide))
    · exact .of (keeps_tim v _) (by decide) (by decide)
    · exact .of (keeps_pk v _) (by decide) (by decide)
    · exact .ite (.refl v) (.trans (.of (draw_keeps v 64) (by decide) (by decide))
        (.of (ingressError_keeps _ _) (by decide) (by decide)))
    · exact .of (.after (settleFrees_keeps _ _) rfl (.after (loseRecs_keeps _ _ _) rfl (.after (setStream_keeps _ _ _) rfl
        (.first (draw_keeps v 65) rfl)))) (l := [.drawn, .regs, .pk, .out]) (by decide) (by decide)
    · exact writeWindow_one_keepsRows v _ _
    · exact .refl v

theorem sramRegion_table {a : Nat} (hl : 0x200000 ≤ a) (hh : a < 0x400000) : sramRegion a = 2 := by
  have hr : List.range 13 = [0, 1, 2, 3, 4, 5, 6, 7, 8, 9, 10, 11, 12] := rfl
  have h0 : 0x100000 ≤ a := by omega
  unfold sramRegion
  simp [hr, nth, hl, Nat.not_le.mpr hh, show ∀ n, 0x400000 ≤ n → ¬ n ≤ a from fun n h => by omega, h0]

theorem sramRegion_set {a : Nat} (hl : 0x400000 ≤ a) (hh : a < 0x500000) : sramRegion a = 3 := by
  have hr : List.range 13 = [0, 1, 2, 3, 4, 5, 6, 7, 8, 9, 10, 11, 12] := rfl
  have h0 (n : Nat) (h : n ≤ 0x400000) : n ≤ a := by omega
  have h1 (n : Nat) (h : 0x500000 ≤ n) : ¬ n ≤ a := by omega
  unfold sramRegion
  simp [hr, nth, h0, h1]

theorem sramUe_engine {s : State} {a : Nat} (h : 0x800000 ≤ a) (he : (a - 0x800000) / 0x70000 < 68) :
    s.sramUe a = s.sramCounted.faultEngine ((a - 0x800000) / 0x70000) 1 s.sramCounted.time := by
  unfold State.sramUe
  rw [if_pos h]
  exact if_pos he

theorem sramUe_table {s : State} {a : Nat} (hl : 0x200000 ≤ a) (hh : a < 0x400000) :
    s.sramUe a = (s.sramReported a).tableError (a - 0x200000) := by
  unfold State.sramUe
  rw [if_neg (by omega)]
  simp only [State.sramReported, sramRegion_table hl hh]
  rfl

theorem sramUe_set {s : State} {a k : Nat} (hl : 0x400000 + 0x20000 * k ≤ a) (hh : a < 0x400000 + 0x20000 * (k + 1))
    (hk : k < 8) : s.sramUe a = { s.sramReported a with
      thm.stored := (s.sramReported a).thm.stored.set k none, thm.buildDue := true } := by
  have hbound : 0x20000 * (k + 1) ≤ 0x20000 * 8 := Nat.mul_le_mul_left _ hk
  have hend : a < 0x500000 := by
    generalize 0x20000 * (k + 1) = m at hh hbound
    omega
  have hdiv : (a - 0x400000) / 0x20000 = k := by omega
  have hregion : sramRegion a = 3 := sramRegion_set (Nat.le_of_add_right_le hl) hend
  unfold State.sramUe
  rw [if_neg (by omega)]
  simp only [State.sramReported, hregion, hdiv, if_pos hk]
  rfl

/-- The row of an SRAM error is one to replace. -/
def State.rowMarked (s : State) (a : Nat) : State :=
  { s with mem.sramCe := s.mem.sramCe ++ List.replicate 3 (a / 65536, a % 65536 / 8, s.time) }

theorem rowMarked_keeps (s : State) (a : Nat) : s.keeps (s.rowMarked a) [.mem] := keeps_mem s _

theorem exec_sramError (s : State) (a : Nat) : exec (.sramError a) s = .next ((s.sramUe a).rowMarked a) := rfl

theorem sramError_rows (s : State) (a : Nat) : ((s.sramUe a).rowMarked a).mem.sramCe =
    s.mem.sramCe ++ List.replicate 3 (a / 65536, a % 65536 / 8, s.time) := by
  obtain ⟨hkeep, hrows⟩ := sramUe_keepsRows s a
  have htime : (s.sramUe a).time = s.time := hkeep .time (by decide)
  rw [← htime, ← hrows]
  rfl

theorem sramError_engine {s : State} {a e : Nat} (h : 0x800000 ≤ a) (he : (a - 0x800000) / 0x70000 = e) (hlt : e < 68)
    (hf : s.rep.engFail.contains e = false) : let t := (s.sramUe a).rowMarked a
    t.reg MEM_SRAM_UE = s.reg MEM_SRAM_UE + 1 ∧ t.rep.engFail = s.rep.engFail ++ [e] ∧
      s.keeps t [.regs, .pk, .rep, .drawn, .hen, .mem, .adm, .out, .ifl] := by
  subst he
  intro t
  have hu : s.sramUe a = s.sramCounted.faultEngine ((a - 0x800000) / 0x70000) 1 s.sramCounted.time := sramUe_engine h hlt
  have hcounted := sramCounted_keeps s
  have hrep : s.sramCounted.rep = s.rep := hcounted .rep (by decide)
  obtain ⟨hfail, -, -, hkeep, hfault⟩ := faultEngine_faulted (hrep ▸ hf) 1 s.sramCounted.time
  rw [← hu] at hfail hkeep hfault
  refine ⟨?_, ?_, .after (rowMarked_keeps _ a) rfl (.after hkeep rfl (.first hcounted rfl))⟩
  · exact (hfault.regs MEM_SRAM_UE (by decide)).trans (reg_sramCounted s)
  · exact hfail.trans (by rw [hrep])

theorem nth_set_default {α : Type} (l : List α) (k : Nat) (d : α) : nth (l.set k d) k d = d := by
  by_cases h : k < l.length
  · exact nth_set_self h d d
  · rw [List.set_eq_of_length_le (Nat.le_of_not_lt h)]
    simp [nth, List.getElem?_eq_none (Nat.le_of_not_lt h)]

theorem sramError_set {s : State} {a k : Nat} (hl : 0x400000 + 0x20000 * k ≤ a) (hh : a < 0x400000 + 0x20000 * (k + 1))
    (hk : k < 8) : let t := (s.sramUe a).rowMarked a
    t.reg MEM_SRAM_UE = s.reg MEM_SRAM_UE + 1 ∧ nth t.thm.stored k none = none ∧ t.thm.buildDue = true ∧
      s.keeps t [.regs, .pk, .rep, .drawn, .thm, .mem] := by
  intro t
  have hkeep : (s.sramReported a).keeps (s.sramUe a) [.thm] := by
    rw [sramUe_set hl hh hk]
    exact keeps_thm _ _
  have hstored : t.thm.stored = (s.sramReported a).thm.stored.set k none :=
    congrArg (fun u : State => u.thm.stored) (sramUe_set hl hh hk)
  refine ⟨?_, ?_, congrArg (fun u : State => u.thm.buildDue) (sramUe_set hl hh hk),
    .after (rowMarked_keeps _ a) rfl (.after hkeep rfl (.first (sramReported_keeps s a) rfl))⟩
  · exact (reg_congr (hkeep .regs (by decide)) MEM_SRAM_UE).trans (reg_sramReported s a)
  · rw [hstored]
    exact nth_set_default _ k none

/-- The tables that an error of the table store hits are corrupt. -/
theorem sramError_table {s : State} {a : Nat} {x : Table} (hl : 0x200000 ≤ a) (hh : a < 0x400000) (hx : x ∈ s.pg.tables)
    (hlo : x.offset ≤ a - 0x200000) (hhi : a - 0x200000 < x.offset + x.data.length) :
    ((s.sramUe a).rowMarked a).mem.corrupt.contains (x.kind, x.id) = true := by
  change (s.sramUe a).mem.corrupt.contains (x.kind, x.id) = true
  rw [sramUe_table hl hh]
  have hpg : (s.sramReported a).pg = s.pg := sramReported_keeps s a .pg (by decide)
  generalize s.sramReported a = u at hpg
  rw [← hpg] at hx
  unfold State.tableError
  extract_lets hit bad mem v
  have hbad : x ∈ bad := List.mem_filter.mpr ⟨hx, by simp [hit, hlo, hhi]⟩
  have hv : v.mem.corrupt.contains (x.kind, x.id) = true := by
    rw [List.contains_iff_mem]
    by_cases hold : (x.kind, x.id) ∈ u.mem.corrupt
    · exact List.mem_append_left _ hold
    · exact List.mem_append_right _ (List.mem_filter.mpr ⟨List.mem_map.mpr ⟨x, hbad, rfl⟩, by simp [hold]⟩)
  rw [suspendAll_keeps _ _ _ _ .mem (by decide)]
  exact hv

theorem execSramScrub_due {s : State} (errs : List Nat)
    (h : s.scrubTest = true ∨ s.mem.sramAt + 1250000000 * s.fld MEM_SCRUB_CFG 7 0 ≤ s.time) :
    ∃ t, exec (.sramScrub errs) s = .next t ∧ t.mem.sramAt = s.time ∧
      t.reg MEM_SRAM_CE = s.reg MEM_SRAM_CE + BitVec.ofNat 32 errs.length ∧
      (∀ a ∈ errs, (a / 65536, a % 65536 / 8, s.time) ∈ t.mem.sramCe) ∧ s.keepsRegs t [MEM_SRAM_CE] ∧
      s.keeps t [.regs, .pk, .mem] := by
  have hdue : ¬ (s.time < s.mem.sramAt + ticksS (s.fld MEM_SCRUB_CFG 7 0) ∧ ¬ s.scrubTest = true) := by
    rintro ⟨ht, hs⟩
    exact h.elim hs fun hl => absurd ht (Nat.not_lt.mpr hl)
  have hb := bumpBy_keeps s MEM_SRAM_CE errs.length
  have htime : (s.bumpBy MEM_SRAM_CE errs.length).time = s.time := hb .time (by decide)
  have hexec : exec (.sramScrub errs) s = .next (
      let u := s.bumpBy MEM_SRAM_CE errs.length
      { u with
        mem.sramAt := u.time
        mem.sramCe := u.recentCe (u.mem.sramCe ++ errs.map fun a => (a / 65536, a % 65536 / 8, u.time)) }) := by
    change execSramScrub errs s = _
    unfold execSramScrub
    rw [if_neg hdue]
  refine ⟨_, hexec, htime, ?_, fun a ha => ?_, ?_, .after (keeps_mem _ _) rfl (.first hb rfl)⟩
  · exact reg_bumpBy_self s MEM_SRAM_CE errs.length
  · refine List.mem_filter.mpr ⟨List.mem_append_right _ (List.mem_map.mpr ⟨a, ha, by rw [htime]⟩), ?_⟩
    rw [htime]
    exact decide_eq_true (Nat.le_add_right _ _)
  · exact .trans (t := s.bumpBy MEM_SRAM_CE errs.length) (bumpBy_keepsRegs s _ _) (keepsRegs_of_regs rfl _)

end Sys2Proof.Machine

namespace Sys2Proof.Machine

/-! DDR5: scrubs, row repairs and uncorrectable bursts (15 R375, R381, R382). -/

section
variable {s : State} {c k : Nat} (f : DramChan → DramChan)

theorem setDram_keeps (s : State) (c : Nat) (f : DramChan → DramChan) : s.keeps (s.setDram c f) [.mem] := keeps_mem s _

theorem dramChan_setDram_self (h : c < s.mem.chans.length) : (s.setDram c f).dramChan c = f (s.dramChan c) :=
  nth_upd_self _ _ _ _ h

theorem dramChan_setDram_other (h : k ≠ c) : (s.setDram c f).dramChan k = s.dramChan k := nth_upd_other _ _ _ h

@[simp] theorem length_chans_setDram : (s.setDram c f).mem.chans.length = s.mem.chans.length := length_upd _ _ _
end

theorem dramChan_congr {s t : State} (h : t.mem.chans = s.mem.chans) (c : Nat) : t.dramChan c = s.dramChan c := by
  simp only [State.dramChan, h]

/-- The pause of a channel is over. -/
def DramChan.resumed (x : DramChan) : DramChan := { x with paused := false, repairs := none }

section
variable {s : State} {c : Nat} (h : (s.dramChan c).paused = true)
include h

theorem resumeDram_paused : s.resumeDram c = { s.setDram c DramChan.resumed with
    mem.pauses := (((s.dramChan c).pauseAt, s.tim.shot) :: s.mem.pauses).take 64 } := if_neg (not_not.mpr h)

theorem resumeDram_chan (hc : c < s.mem.chans.length) : (s.resumeDram c).dramChan c = (s.dramChan c).resumed := by
  rw [resumeDram_paused h]
  exact dramChan_setDram_self _ hc
end

theorem resumeDram_keeps (s : State) (c : Nat) : s.keeps (s.resumeDram c) [.mem] := by
  unfold State.resumeDram
  exact .ite (.refl s _) (keeps_mem s _)

theorem resumeDram_chans_length (s : State) (c : Nat) : (s.resumeDram c).mem.chans.length = s.mem.chans.length := by
  unfold State.resumeDram
  extract_lets x mem
  split
  · rfl
  · exact length_upd _ _ _

theorem resumeDram_other (s : State) {c k : Nat} (h : k ≠ c) : (s.resumeDram c).dramChan k = s.dramChan k := by
  unfold State.resumeDram
  extract_lets x mem
  split
  · rfl
  · exact dramChan_setDram_other _ h

/-- The memory unit but for its rows with corrections, its map of spares and its channels' state. -/
theorem resumeDram_mem (s : State) (c : Nat) : (s.resumeDram c).mem =
    { s.mem with chans := (s.resumeDram c).mem.chans, pauses := (s.resumeDram c).mem.pauses } := by
  unfold State.resumeDram
  extract_lets x mem
  split <;> rfl

theorem rowDone_repairs (s : State) (kind since : Nat) (spare : Bool) : s.repairs (s.rowDone kind since spare) :=
  .trans (.of_keeps (draw_keeps s 82) (by simp) rfl) (migDone_repairs _ _ _ _ _)

theorem migDone_map (s : State) (m : Migration) (o f n : Nat) : (s.migDone m o f n).rep.map = s.rep.map := by
  rw [(migDone_spec s m o f n).1]

theorem rowDone_map (s : State) (kind since : Nat) (spare : Bool) : (s.rowDone kind since spare).rep.map = s.rep.map := by
  unfold State.rowDone
  extract_lets x
  have hx : x.2.rep = s.rep := draw_keeps s 82 .rep (by decide)
  clear_value x
  rw [migDone_map, hx]

section
variable {s : State} {row : DramRow} (hup : (s.dramChan row.channel.val).up = true)
include hup

theorem execDramRowRepair_begins (ok : Bool) (hp : (s.dramChan row.channel.val).paused = false) :
    exec (.dramRowRepair row ok) s = .next (
      if ((s.recentCe s.mem.dramCe).filter fun y => y.1 == row.channel.val && y.2.1 == row.code.toNat).length < 3 then s
      else s.pauseDram row.channel.val (some row.code.toNat)) := by
  change execDramRowRepair row ok s = _
  unfold execDramRowRepair
  simp only [hup, hp, not_true_eq_false, Bool.false_eq_true, not_false_eq_true, if_true, if_false]

variable (hp : (s.dramChan row.channel.val).paused = true)
include hp

theorem execDramRowRepair_other (ok : Bool) (hr : (s.dramChan row.channel.val).repairs ≠ some row.code.toNat) :
    exec (.dramRowRepair row ok) s = .next s := by
  change execDramRowRepair row ok s = _
  unfold execDramRowRepair
  simp only [hup, hp, not_true_eq_false, if_false, if_pos hr]

/-- The channel resumes, and the row's corrections are forgotten. -/
def State.rowResumed (s : State) (c code : Nat) : State :=
  { s.resumeDram c with mem.dramCe := (s.resumeDram c).mem.dramCe.filter fun y => y.1 != c || y.2.1 != code }

variable (hr : (s.dramChan row.channel.val).repairs = some row.code.toNat)
include hr

theorem execDramRowRepair_ends (ok : Bool) :
    let c := row.channel.val
    let code := row.code.toNat
    let u := s.rowResumed c code
    let since := s.time - (s.tim.shot - (s.dramChan c).pauseAt)
    exec (.dramRowRepair row ok) s = .next (
      if ok = true then ((u.latch MEM_STATUS 0x4).mapAdd 7 2 (c * 2 ^ 31 + code) noSpare).rowDone 7 since false
      else if 0 < (s.dramChan c).spares then
        ((((u.draw 63).2.setDram c fun x => { x with spares := x.spares - 1 }).latch MEM_STATUS 0x4).mapAdd 7 2
          (c * 2 ^ 31 + code) (c * 2 ^ 31 + (u.draw 63).1 % 2 ^ 31)).rowDone 7 since true
      else u.dramUe (u.rowBase c code)) := by
  change execDramRowRepair row ok s = _
  unfold execDramRowRepair
  simp only [hup, hp, not_true_eq_false, if_false, if_neg (not_not.mpr hr)]
  rfl

/-- A spare row serves, and the map names it. -/
theorem execDramRowRepair_spare (hs : 0 < (s.dramChan row.channel.val).spares) :
    ∃ t, exec (.dramRowRepair row false) s = .next t ∧
      (row.channel.val < s.mem.chans.length →
        (t.dramChan row.channel.val).spares + 1 = (s.dramChan row.channel.val).spares ∧
          (t.dramChan row.channel.val).paused = false) ∧
      ∃ e ∈ t.rep.map, e.kind = 7 ∧ e.failed = row.channel.val * 2 ^ 31 + row.code.toNat := by
  have hends := execDramRowRepair_ends hup hp hr false
  simp only at hends
  rw [if_neg Bool.false_ne_true, if_pos hs] at hends
  generalize hc : row.channel.val = c at *
  generalize row.code.toNat = code at *
  generalize hu : s.rowResumed c code = u at *
  generalize hw : (u.draw 63).2.setDram c (fun x => { x with spares := x.spares - 1 }) = w at *
  generalize c * 2 ^ 31 + code = f at *
  refine ⟨_, hends, fun hl => ?_, ?_⟩
  · have hmem : ∀ since n, (((w.latch MEM_STATUS 0x4).mapAdd 7 2 f n).rowDone 7 since true).mem = w.mem := fun since n =>
      ((rowDone_repairs _ _ _ _).1 .mem (by decide)).trans (((mapAdd_repairs _ _ _ _ _).1 .mem (by decide)).trans
        (latch_keeps w _ _ .mem (by decide)))
    rw [dramChan_congr (congrArg MemUnit.chans (hmem _ _))]
    have hlen : c < (u.draw 63).2.mem.chans.length := by
      rw [← hu]
      exact hl.trans_eq (resumeDram_chans_length s c).symm
    have hchan : (u.draw 63).2.dramChan c = (s.dramChan c).resumed := by
      rw [← hu]
      exact resumeDram_chan hp hl
    rw [← hw, dramChan_setDram_self _ hlen, hchan]
    exact ⟨Nat.sub_add_cancel hs, rfl⟩
  · obtain ⟨-, e, he, hkind, hfailed, -⟩ := mapAdd_spec (w.latch MEM_STATUS 0x4) 7 2 f (c * 2 ^ 31 + (u.draw 63).1 % 2 ^ 31)
    exact ⟨e, (rowDone_map _ _ _ _).symm ▸ he, hkind, hfailed⟩
end

end Sys2Proof.Machine

namespace Sys2Proof.Machine

/-! Scrubs and uncorrectable bursts of DDR5 (15 R381, R382). -/

theorem frameError_keeps (s : State) : s.keeps s.frameError [.drawn, .regs, .pk, .out] := by
  unfold State.frameError
  obtain ⟨y, hy⟩ : ∃ y, y = s.draw 66 := ⟨_, rfl⟩
  have hu : s.keeps y.2 [.drawn, .regs, .pk, .out] := hy ▸ .first (draw_keeps s 66) rfl
  rw [← hy]
  obtain ⟨f, u⟩ := y
  dsimp only
  refine .ite hu ?_
  split
  · exact hu
  · exact .after (settleFrees_keeps _ _) rfl (.after (loseRecs_keeps _ _ _) rfl (.after (setStream_keeps u _ _) rfl hu))

theorem snapshotError_keeps (s : State) : s.keeps s.snapshotError [.drawn, .pk] :=
  .trans (.first (draw_keeps s 67) rfl) (.ite (.refl _ _) (.first (keeps_pk _ _) rfl))

theorem captureError_keeps (s : State) (u off : Nat) : s.keeps (s.captureError u off) [.regs, .pk, .out] := by
  unfold State.captureError
  extract_lets mine held size
  split
  · exact .refl s _
  · refine .foldl (fun t p => ?_) _ s
    extract_lets gone w
    exact .ite (.refl t _) (.after (settleFrees_keeps _ _) rfl (.after (loseRecs_keeps _ _ _) rfl
      (.first (setStream_keeps t _ _) rfl)))

/-- An uncorrectable burst is poisoned, and nothing else of the memory changes. -/
theorem dramUe_mem (s : State) (a : Nat) : (s.dramUe a).mem =
    { s.mem with poison := if s.mem.poison.contains (a / 64) then s.mem.poison else s.mem.poison ++ [a / 64] } := by
  unfold State.dramUe
  extract_lets c u b mem v stage snap
  have hu : u.mem = s.mem := report_keeps _ _ _ _ _ .mem (by decide) |>.trans
    ((latch_keeps _ _ _ .mem (by decide)).trans (bump_keeps s _ .mem (by decide)))
  have hv : v.mem = { s.mem with
      poison := if s.mem.poison.contains (a / 64) then s.mem.poison else s.mem.poison ++ [a / 64] } := by
    rw [← hu]
  rw [← hv]
  clear_value v
  split
  · exact frameError_keeps v .mem (by decide)
  · split
    · exact snapshotError_keeps v .mem (by decide)
    · split
      · exact captureError_keeps v _ _ .mem (by decide)
      · rfl

theorem dramUe_dram (s : State) (a : Nat) : (s.dramUe a).mem.dram = s.mem.dram := by
  rw [dramUe_mem]

theorem dramUe_poison (s : State) (a : Nat) : (s.dramUe a).mem.poison.contains (a / 64) = true ∧
    ∀ b, s.mem.poison.contains b = true → (s.dramUe a).mem.poison.contains b = true := by
  rw [dramUe_mem]
  cases h : s.mem.poison.contains (a / 64) with
  | true => exact ⟨h, fun b hb => hb⟩
  | false => exact ⟨by simp, fun b hb => by simp [List.contains_iff_mem.mp hb]⟩

theorem dramChannel_congr {s t : State} (h : t.mem.fallback = s.mem.fallback) (a : Nat) :
    t.dramChannel a = s.dramChannel a := by simp only [State.dramChannel, h]

theorem execDramScrub_due {s : State} (errs : List Nat)
    (h : s.scrubTest = true ∨ s.mem.dramAt + 1250000000 * (3600 * s.fld MEM_SCRUB_CFG 15 8) ≤ s.time) :
    ∃ t, exec (.dramScrub errs) s = .next t ∧ t.mem.dramAt = s.time ∧
      (∀ a ∈ errs, (s.dramChannel a, dramCode a, s.time) ∈ t.mem.dramCe) ∧ s.keeps t [.regs, .pk, .mem] := by
  have hdue : ¬ (s.time < s.mem.dramAt + ticksS (3600 * s.fld MEM_SCRUB_CFG 15 8) ∧ ¬ s.scrubTest = true) := by
    rintro ⟨ht, hs⟩
    exact h.elim hs fun hl => absurd ht (Nat.not_lt.mpr hl)
  change ∃ t, execDramScrub errs s = .next t ∧ _
  unfold execDramScrub
  rw [if_neg hdue]
  refine ⟨_, rfl, ?_⟩
  extract_lets m u v m₁ w
  have huv : u.keeps v [.regs, .pk] := .foldl (fun t a => bump_keeps t _) errs u
  have hmem : v.mem = u.mem := huv .mem (by decide)
  have htime : v.time = s.time := huv .time (by decide)
  have hask (t : State) (c : Nat) : (if 64 < (t.mem.ceSecond.filter fun (x : Nat × Nat) => x.1 == c).length then
      t.setDram c fun (x : DramChan) => { x with retrain := true } else t).mem.dramAt = t.mem.dramAt ∧
      (if 64 < (t.mem.ceSecond.filter fun (x : Nat × Nat) => x.1 == c).length then
      t.setDram c fun (x : DramChan) => { x with retrain := true } else t).mem.dramCe = t.mem.dramCe := by
    split <;> exact ⟨rfl, rfl⟩
  refine ⟨?_, fun a ha => ?_, ?_⟩
  · rw [foldl_fixes (g := fun t : State => t.mem.dramAt) (fun t c => (hask t c).1)]
    exact congrArg MemUnit.dramAt hmem
  · rw [foldl_fixes (g := fun t : State => t.mem.dramCe) (fun t c => (hask t c).2)]
    refine List.mem_filter.mpr ⟨List.mem_append_right _ (List.mem_map.mpr ⟨a, ha, ?_⟩), ?_⟩
    · rw [htime, dramChannel_congr (congrArg MemUnit.fallback hmem)]
      rfl
    · rw [htime]
      exact decide_eq_true (Nat.le_add_right _ _)
  · refine .trans (t := w) (.after (keeps_mem v _) rfl (.after huv rfl (.first (keeps_mem s _) rfl))) (.foldl (fun t c => ?_) _ w)
    exact .ite (.first (setDram_keeps t _ _) rfl) (.refl t _)

/-! Retraining and the loss of a channel (15 R376, R377, R383). -/

theorem loadDelays_keeps (s : State) (c : Nat) (set_ : List Byte) : s.keeps (s.loadDelays c set_) [.regs] :=
  .foldl (fun t _ => .trans (.foldl (fun u _ => setRegN_keeps u _ _) _ t) (setRegN_keeps _ _ _)) _ s

/-- A channel that has been trained on a candidate. -/
def DramChan.trained (k : Nat) (temp : Int) (x : DramChan) : DramChan :=
  { x with up := true, set_ := k, temp := temp, retrain := false }

theorem train_passes {s : State} {c k : Nat} {passes : List Bool} (hf : (s.dramChan c).failed = false)
    (hl : s.tim.lost.contains (.dramPll (if c = 0 then 0 else 1)) = false)
    (hk : ((s.trialOrder c).zip passes).find? Prod.snd = some (k, true)) : s.train c passes =
      (s.setDram c (DramChan.trained k (nth s.thm.zones 6 0))).loadDelays c (nth (nth s.mem.cands c []) k []) := by
  unfold State.train
  rw [if_neg (by simp only [hf, hl, Bool.false_eq_true, or_self, not_false_eq_true]), hk]
  rfl

theorem execRetrain_ends {s : State} {c : Fin 2} {k : Nat} {passes : List Bool} (hup : (s.dramChan c).up = true)
    (hp : (s.dramChan c).paused = true) (hr : (s.dramChan c).repairs = none) (hc : c.val < s.mem.chans.length)
    (hf : (s.dramChan c).failed = false) (hl : s.tim.lost.contains (.dramPll (if c.val = 0 then 0 else 1)) = false)
    (hk : ((s.trialOrder c).zip passes).find? Prod.snd = some (k, true)) :
    ∃ t, exec (.retrain c passes) s = .next t ∧ t.dramChan c =
        ((s.dramChan c).resumed).trained k (nth s.thm.zones 6 0) ∧
      t.mem.pauses = (((s.dramChan c).pauseAt, s.tim.shot) :: s.mem.pauses).take 64 ∧
      t.dramChan (1 - c.val) = s.dramChan (1 - c.val) ∧ t.mem.dram = s.mem.dram ∧ s.keeps t [.mem, .regs, .adm] := by
  have hexec : exec (.retrain c passes) s = .next ((s.resumeDram c).train c passes).interruption := by
    change execRetrain c passes s = _
    unfold execRetrain
    simp only [hup, hp, hr, not_true_eq_false, if_false, Option.isSome_none, Bool.false_eq_true]
  obtain ⟨u, hu⟩ : ∃ u, u = s.resumeDram c := ⟨_, rfl⟩
  have hself : u.dramChan c = (s.dramChan c).resumed := hu ▸ resumeDram_chan hp hc
  have hkeep : s.keeps u [.mem] := hu ▸ resumeDram_keeps s c
  have htim : u.tim = s.tim := hkeep .tim (by decide)
  have hthm : u.thm = s.thm := hkeep .thm (by decide)
  have hmem : u.mem = { s.mem with chans := u.mem.chans, pauses := u.mem.pauses } := hu ▸ resumeDram_mem s c
  have hpauses : u.mem.pauses = (((s.dramChan c).pauseAt, s.tim.shot) :: s.mem.pauses).take 64 := by
    rw [hu, resumeDram_paused hp]
  have hlen : c.val < u.mem.chans.length := hu ▸ hc.trans_eq (resumeDram_chans_length s c).symm
  have horder : u.trialOrder c = s.trialOrder c := by
    have hcands : u.mem.cands = s.mem.cands := (congrArg MemUnit.cands hmem :)
    simp only [State.trialOrder, hself, hcands]
    rfl
  rw [← hu, train_passes (by rw [hself]; exact hf) (by rw [htim]; exact hl) (horder ▸ hk)] at hexec
  obtain ⟨v, hv⟩ : ∃ v, v = u.setDram c (DramChan.trained k (nth u.thm.zones 6 0)) := ⟨_, rfl⟩
  rw [← hv] at hexec
  refine ⟨_, hexec, ?_⟩
  have hend : v.keeps ((v.loadDelays c (nth (nth u.mem.cands c []) k [])).interruption) [.regs, .adm] :=
    .after (interruption_keeps _) rfl (.first (loadDelays_keeps v _ _) rfl)
  generalize (v.loadDelays c (nth (nth u.mem.cands c []) k [])).interruption = t at hend
  have htm : t.mem = v.mem := hend .mem (by decide)
  have hchan (i : Nat) : t.dramChan i = v.dramChan i := dramChan_congr (congrArg MemUnit.chans htm) i
  refine ⟨?_, ?_, ?_, ?_, ?_⟩
  · rw [hchan, hv, dramChan_setDram_self _ hlen, hself, hthm]
  · rw [htm, hv]
    exact hpauses
  · rw [hchan, hv, dramChan_setDram_other _ (by omega), hu, resumeDram_other s (by omega)]
  · rw [htm, hv]
    exact (congrArg MemUnit.dram hmem :)
  · exact .after hend rfl (.trans (.first hkeep rfl) (hv ▸ .first (setDram_keeps u _ _) rfl))

theorem cutArea_keeps (s : State) (base size unit : Nat) : s.keeps (s.cutArea base size unit) [.regs] :=
  setRegN_keeps s _ _

theorem dropSums_snapshots (s : State) (u : Nat) (ended : Bool) :
    (s.dropSums u ended).pk.snapshots = s.pk.snapshots := by
  unfold State.dropSums
  split <;> rfl

theorem bump_snapshots (s : State) (a : Nat) : (s.bump a).pk.snapshots = s.pk.snapshots := by
  unfold State.bump State.bumpBy
  extract_lets v t
  split <;> rfl

theorem missTrigger_snapshots (s : State) (u : Nat) (t : Int) : (s.missTrigger u t).pk.snapshots = s.pk.snapshots := by
  unfold State.missTrigger
  extract_lets kept first v w
  have hv : v.pk.snapshots = s.pk.snapshots := bump_snapshots s _
  have hw : w.pk.snapshots = v.pk.snapshots := by
    unfold w
    split <;> rfl
  exact hw.trans hv

theorem disarm_snapshots (s : State) (u : Nat) : (s.disarm u).pk.snapshots = s.pk.snapshots := by
  unfold State.disarm
  split
  · rfl
  case h_3 =>
    exact (dropSums_snapshots _ u true).trans
      (foldl_fixes (g := fun t : State => t.pk.snapshots) (fun t x => missTrigger_snapshots t u _) _ _)
  all_goals exact dropSums_snapshots s u true

/-- A capture unit behind the loss of a channel: its area is empty, and it is disarmed where the area no longer fits. -/
def State.areaLost (s : State) (u : Nat) : State :=
  let t := s.setRegN (WFD_CAP_AREA_FREE u) (s.areaSize u)
  let t := t.setCap u fun (x : CapUnit) => { x with wr := 0 }
  let t := if (t.capUnit u).st == .post then t.setCap u fun (x : CapUnit) => { x with st := .idle, armShot := none, cands := [] } else t
  if t.areaFits u then t else t.disarm u

theorem areaLost_spec (s : State) (u : Nat) :
    s.keeps (s.areaLost u) [.regs, .wfd, .pk] ∧ (s.areaLost u).pk.snapshots = s.pk.snapshots := by
  unfold State.areaLost
  extract_lets t v w
  have ht : s.keeps t [.regs] := setRegN_keeps s _ _
  have hv : s.keeps v [.regs, .wfd] := .trans (.first ht rfl) (.first (setCap_keeps t _ _) rfl)
  have hw : s.keeps w [.regs, .wfd] := .ite (.after (setCap_keeps v _ _) rfl hv) hv
  have hsnap : w.pk.snapshots = s.pk.snapshots := congrArg PacketUnit.snapshots (hw .pk (by decide))
  split
  · exact ⟨.first hw rfl, hsnap⟩
  · exact ⟨.after (disarm_keeps w u) rfl (.first hw rfl), (disarm_snapshots w u).trans hsnap⟩

theorem failChannel_spec {s : State} {c : Nat} (hf : (s.dramChan c).failed = false)
    (ho : (s.dramChan (1 - c)).failed = false) : let t := s.failChannel c
    t.mem.fallback = some (1 - c) ∧ t.mem.dram = [] ∧ t.mem.poison = [] ∧ t.pk.snapshots = List.replicate 4 none ∧
      (c < s.mem.chans.length → (t.dramChan c).failed = true ∧ (t.dramChan c).up = false) := by
  unfold State.failChannel
  rw [if_neg (ne_true_of_eq_false hf)]
  extract_lets other u v m w x pk y z a
  have hother : other.failed = false := ho
  have hv : v.mem.chans = (u.setDram c fun x => { x with up := false, failed := true, paused := false, retrain := false }).mem.chans :=
    congrArg MemUnit.chans (report_keeps _ _ _ _ _ .mem (by decide))
  have hwx : w.keeps x [.regs, .pk, .out] := .foldl (fun t p => dropStaged_keeps t p) _ w
  have hyz : y.keeps z [.regs, .wfd, .pk] := .foldl (fun t i => (areaLost_spec t i).1) _ y
  have hsnap : z.pk.snapshots = y.pk.snapshots := by
    clear_value y
    unfold z
    refine foldl_fixes (g := fun t : State => t.pk.snapshots) (fun t i => ?_) _ y
    exact (areaLost_spec t i).2
  have hza : z.keeps a [.regs] := .trans (cutArea_keeps z _ _ _) (cutArea_keeps _ _ _ _)
  have hxy : x.keeps y [.pk] := keeps_pk x _
  have hwa : w.keeps a.readmit (.wfd :: suspendParts) :=
    .after (readmit_keeps a) rfl (.after hza rfl (.after hyz rfl (.after hxy rfl (.first hwx rfl))))
  have hmem : (a.readmit).mem = w.mem := hwa .mem (by decide)
  refine ⟨?_, ?_, ?_, ?_, fun hc => ?_⟩
  · rw [hmem]
    exact if_neg (ne_true_of_eq_false hother)
  · rw [hmem]
  · rw [hmem]
  · rw [(readmit_keepsHost a).snapshots, hza .pk (by decide), hsnap]
  · rw [dramChan_congr (congrArg MemUnit.chans hmem), dramChan_congr (t := w) hv,
      dramChan_setDram_self _ (hc.trans_eq (resumeDram_chans_length s c).symm)]
    exact ⟨rfl, rfl⟩

/-- Settles O42: the errors by region, the rows by their corrections, and the channels by their pauses. -/
theorem memoryFaultsAreContained : Obligations.MemoryFaultsAreContained := by
  unfold Obligations.MemoryFaultsAreContained
  refine ⟨?engine, fun s a k hl hh hk => ⟨_, exec_sramError s a, sramError_set hl hh hk⟩,
    fun s a => ⟨_, exec_sramError s a, sramError_rows s a⟩,
    fun s a x hl hh hx hlo hhi => ⟨_, exec_sramError s a, sramError_table hl hh hx hlo hhi⟩,
    fun s errs hs ht => congrArg Host.Outcome.next (if_pos ⟨ht, ne_true_of_eq_false hs⟩),
    fun s errs => execSramScrub_due errs, ?sram,
    fun s errs => ⟨fun hs ht => congrArg Host.Outcome.next (if_pos ⟨ht, ne_true_of_eq_false hs⟩), execDramScrub_due errs⟩,
    ?dram, ?burst, ?retrain, ?fallback⟩
  case engine =>
    intro s a h hlt e hf
    exact ⟨_, exec_sramError s a, sramError_engine h rfl hlt hf⟩
  case sram =>
    intro s m row hm hrow
    change (_ → execSramRowRepair m row s = _) ∧ (_ → _ → execSramRowRepair m row s = _) ∧
      (_ → _ → execSramRowRepair m row s = _)
    unfold execSramRowRepair
    refine ⟨fun h => ?_, fun h hu => ?_, fun h hu => ?_⟩
    · rw [if_pos (.inr (.inr h))]
    · rw [if_neg (by omega)]
      simp only [if_neg (Nat.not_lt.mpr hu)]
    · rw [if_neg (by omega)]
      simp only [if_pos hu]
  case dram =>
    intro s row ok
    refine ⟨fun h => ?_, fun hup hp => execDramRowRepair_begins hup ok hp,
      fun hup hp hr => execDramRowRepair_other hup hp ok hr, fun hup hp hr => ⟨fun hc => ?_, ?_, ?_, ?_⟩⟩
    · exact congrArg Host.Outcome.next (if_pos (ne_true_of_eq_false h))
    · rw [resumeDram_chan hp hc]
      rfl
    · rintro rfl
      refine (execDramRowRepair_ends hup hp hr true).trans ?_
      rw [if_pos rfl]
      rfl
    · rintro rfl hs
      exact execDramRowRepair_spare hup hp hr hs
    · rintro rfl hs
      refine (execDramRowRepair_ends hup hp hr false).trans ?_
      rw [if_neg Bool.false_ne_true, if_neg (by omega)]
      rfl
  case burst =>
    intro s a
    refine ⟨fun h => congrArg Host.Outcome.next (if_pos h), fun h => ?_⟩
    obtain ⟨hself, hkept⟩ := dramUe_poison s a
    exact ⟨_, congrArg Host.Outcome.next (if_neg (Nat.not_le.mpr h)), hself, hkept, dramUe_dram s a⟩
  case retrain =>
    intro s c passes
    refine ⟨fun h => ?_, fun hup hp => ?_, fun hup hp hr hc hf hl k hk => ?_⟩
    · change execRetrain c passes s = _
      unfold execRetrain
      rcases h with h | ⟨hp, hr⟩
      · simp only [h, Bool.false_eq_true, not_false_eq_true, if_true]
      · simp only [hp, hr, not_true_eq_false, if_false, if_true, ite_self]
    · change execRetrain c passes s = _
      unfold execRetrain
      simp only [hup, hp, not_true_eq_false, if_false, Bool.false_eq_true, not_false_eq_true, if_true]
    · obtain ⟨t, hexec, hchan, hpauses, hother, hdram, hkeep⟩ := execRetrain_ends hup hp hr hc hf hl hk
      exact ⟨t, hexec, by rw [hchan]; rfl, by rw [hchan]; rfl, by rw [hchan]; rfl, by rw [hchan]; rfl, hpauses,
        by rw [hchan]; rfl, hother, hdram, hkeep⟩
  case fallback =>
    intro s c
    refine ⟨fun h => ?_, fun hp hf ho => ⟨_, congrArg Host.Outcome.next (if_pos (beq_iff_eq.mpr hp)), failChannel_spec hf ho⟩⟩
    change execChannelFallback c s = _
    unfold execChannelFallback
    split
    next hp => exact congrArg Host.Outcome.next (if_pos (h.resolve_left (not_not.mpr (eq_of_beq hp))))
    · rfl

end Sys2Proof.Machine

namespace Sys2Proof.Machine

/-! What the operations of the island leave (16 R389 to R411): its samples, and the pads that they set. -/

/-- The samples and the mailbox of the island are the same, and each pad stands where it stood, or where the output is
driven. -/
structure Island.samples (x y : Island) : Prop where
  cycleAt : y.cycleAt = x.cycleAt
  mailIn : y.mailIn = x.mailIn
  prevIns : y.prevIns = x.prevIns
  ins : y.ins = x.ins
  pads : ∀ i, i < 4 → nth y.pads i false = nth x.pads i false ∧ nth y.outs i false = nth x.outs i false ∨
    nth y.pads i false = nth y.outs i false

theorem Island.samples.of_eq {x y : Island} (hc : y.cycleAt = x.cycleAt) (hm : y.mailIn = x.mailIn)
    (hp : y.prevIns = x.prevIns) (hi : y.ins = x.ins) (hpads : y.pads = x.pads) (ho : y.outs = x.outs) : x.samples y :=
  ⟨hc, hm, hp, hi, fun i _ => .inl ⟨by rw [hpads], by rw [ho]⟩⟩

theorem Island.samples.trans {x y z : Island} (h : x.samples y) (g : y.samples z) : x.samples z := by
  refine ⟨g.cycleAt.trans h.cycleAt, g.mailIn.trans h.mailIn, g.prevIns.trans h.prevIns, g.ins.trans h.ins, fun i hi => ?_⟩
  rcases g.pads i hi with ⟨hp, ho⟩ | hd
  · rcases h.pads i hi with ⟨hp', ho'⟩ | hd'
    · exact .inl ⟨hp.trans hp', ho.trans ho'⟩
    · exact .inr (hp.trans (hd'.trans ho.symm))
  · exact .inr hd

/-- An operation of the island, of its records, incidents, EVENTs and replies. -/
def State.goes (s t : State) : Prop := s.keeps t islandParts ∧ s.saf.samples t.saf

theorem keeps_saf (s : State) (x : Island) : s.keeps { s with saf := x } [.saf] := by
  intro p hp
  cases p with
  | saf => simp at hp
  | _ => rfl

namespace State.goes

theorem refl (s : State) : s.goes s := ⟨.refl s _, .of_eq rfl rfl rfl rfl rfl rfl⟩

theorem trans {s t u : State} (h : s.goes t) (g : t.goes u) : s.goes u := ⟨h.1.trans g.1, h.2.trans g.2⟩

theorem ite {s t u : State} {c : Prop} [Decidable c] (ht : s.goes t) (hu : s.goes u) : s.goes (if c then t else u) := by
  split
  exacts [ht, hu]

theorem foldl {α : Type} {f : State → α → State} (hf : ∀ (t : State) x, t.goes (f t x)) :
    ∀ (xs : List α) (s : State), s.goes (xs.foldl f s)
  | [], s => refl s
  | x :: xs, s => (hf s x).trans (foldl hf xs (f s x))

/-- A change of other parts. -/
theorem of {s t : State} {l : List Part} (h : s.keeps t l) (hs : Part.saf ∉ l)
    (hl : (l.all fun p => islandParts.contains p) = true) : s.goes t := by
  have hsaf : t.saf = s.saf := h .saf hs
  exact ⟨.first h hl, hsaf ▸ .of_eq rfl rfl rfl rfl rfl rfl⟩

/-- A change of the island that leaves its samples. -/
theorem saf {s : State} {y : Island} (h : s.saf.samples y) : s.goes { s with saf := y } :=
  ⟨.first (keeps_saf s y) (by decide), h⟩

end State.goes

section
variable (s : State)

theorem mailPush_saf (m : MailOut) : (s.mailPush m).saf = { s.saf with mailOut := (s.mailPush m).saf.mailOut } := by
  unfold State.mailPush
  split
  · rfl
  · split
    next i _ => rw [bump_keeps _ _ .saf (by decide)]
    · rw [bump_keeps _ _ .saf (by decide)]

theorem mailPush_keeps (m : MailOut) : s.keeps (s.mailPush m) [.saf, .regs, .pk] := by
  unfold State.mailPush
  refine .ite (.first (keeps_saf s _) rfl) ?_
  split
  · exact .after (bump_keeps _ _) rfl (.first (keeps_saf s _) rfl)
  · exact .first (bump_keeps s _) rfl

theorem safeRecord_saf (k c : Nat) : (s.safeRecord k c).saf =
    { s.saf with iseq := s.saf.iseq + 1, mailOut := (s.safeRecord k c).saf.mailOut } := by
  unfold State.safeRecord
  extract_lets x b u y
  have hu : u.saf = s.saf := by
    unfold u
    split <;> rfl
  rw [mailPush_saf]
  have hy : y = s.saf := hu
  rw [hy]

theorem safeRecord_keeps (k c : Nat) : s.keeps (s.safeRecord k c) [.saf, .regs, .pk] := by
  unfold State.safeRecord
  extract_lets x b u y
  have hu : s.keeps u [.saf, .regs, .pk] := .ite (.first (noteWrap_keeps s _ _ _ _) rfl) (.refl s _)
  exact .trans (.after (keeps_saf u _) rfl hu) (mailPush_keeps _ _)

theorem safeRecord_goes (k c : Nat) : s.goes (s.safeRecord k c) := by
  refine ⟨.first (safeRecord_keeps s k c) (by decide), ?_⟩
  rw [safeRecord_saf]
  exact .of_eq rfl rfl rfl rfl rfl rfl

theorem setOuts_goes (o : List Bool) : s.goes (s.setOuts o) := by
  refine .saf ⟨rfl, rfl, rfl, rfl, fun i hi => ?_⟩
  rw [nth_map_range _ _ hi]
  by_cases h : nth o i false = nth s.saf.outs i false
  · have hsame : (nth o i false != nth s.saf.outs i false) = false := by rw [h, bne_self_eq_false]
    exact .inl ⟨if_neg (ne_true_of_eq_false hsame), h⟩
  · exact .inr (if_pos (bne_iff_ne.mpr h))

theorem driveOuts_goes (o : List Bool) (c : Nat) : s.goes (s.driveOuts o c) :=
  .ite (.refl s) ((setOuts_goes s o).trans (safeRecord_goes _ _ _))

theorem abortTest_goes : s.goes s.abortTest := by
  unfold State.abortTest
  split
  · exact .refl s
  · exact .trans (.trans (t := { s with saf.testing := none, saf.testEnd := some s.safeNow })
      (.saf (.of_eq rfl rfl rfl rfl rfl rfl)) (.of (bump_keeps _ _) (by decide) (by decide))) (safeRecord_goes _ _ _)

theorem safeFault_goes (n : Nat) : s.goes (s.safeFault n) := by
  unfold State.safeFault
  extract_lets was saf u v w
  have hu : s.goes u := .saf (.of_eq rfl rfl rfl rfl rfl rfl)
  have hv : s.goes v := hu.trans (((abortTest_goes u).trans (setOuts_goes _ _)).trans (safeRecord_goes _ _ _))
  have hw : s.goes w := .ite hv (hv.trans (safeRecord_goes _ _ _))
  exact .ite (.refl s) ((hw.trans (.of (report_keeps _ _ _ _ _) (by decide) (by decide))).trans
    (.of (openEvent_keeps _ _ _ _) (by decide) (by decide)))

theorem safeState_goes (st : IslandState) (c : Nat) : s.goes (s.safeState st c) :=
  .ite (.refl s) (.trans (.trans (t := { s with saf.st := st, saf.statDue := true })
    (.saf (.of_eq rfl rfl rfl rfl rfl rfl)) (safeRecord_goes _ _ _)) (.of (openEvent_keeps _ _ _ _) (by decide) (by decide)))

theorem checkDisc_goes : s.goes s.checkDisc := by
  unfold State.checkDisc
  split
  · exact .ite (safeFault_goes s 0) (.refl s)
  · exact .refl s

theorem checkGuardTest_goes : s.goes s.checkGuardTest := by
  unfold State.checkGuardTest
  split
  · extract_lets saf u
    have hu : s.goes u := .saf (.of_eq rfl rfl rfl rfl rfl rfl)
    exact .ite (.ite (hu.trans (safeState_goes u _ _)) hu) (.ite (.saf (.of_eq rfl rfl rfl rfl rfl rfl)) (.refl s))
  · exact .refl s

theorem trackGuard_goes : s.goes s.trackGuard := .saf (.of_eq rfl rfl rfl rfl rfl rfl)

theorem checkSpeed_goes : s.goes s.checkSpeed := by
  unfold State.checkSpeed
  split
  · exact .ite (.saf (.of_eq rfl rfl rfl rfl rfl rfl)) (.refl s)
  · exact .refl s

theorem checkWatchdog_goes : s.goes s.checkWatchdog :=
  .ite (.trans (.trans (t := { s with saf.pairAt := none, saf.laser := false, saf.brake := false })
    (.saf (.of_eq rfl rfl rfl rfl rfl rfl)) (abortTest_goes _)) (safeRecord_goes _ _ _)) (.refl s)

theorem resetFaults_goes : s.goes s.resetFaults := by
  unfold State.resetFaults
  extract_lets bits_ saf u v w
  have hu : s.goes u := .trans (t := { s with saf.faults := 0, saf.statDue := true })
    (.saf (.of_eq rfl rfl rfl rfl rfl rfl)) (.foldl (fun t n => .trans (.of (endCause_keeps t _) (by decide) (by decide))
      (.of (endCause_keeps _ _) (by decide) (by decide))) _ _)
  have hv : s.goes v := hu.trans (safeRecord_goes u 2 2)
  refine .ite (.ite ?_ (hv.trans (.of (openEvent_keeps _ _ _ _) (by decide) (by decide)))) (.refl s)
  exact .trans (hv.trans (safeState_goes v _ _)) (.saf (.of_eq rfl rfl rfl rfl rfl rfl))

theorem takeCopy_goes (q : Demands) (port : Nat) (raw : List Byte) : s.goes (s.takeCopy q port raw).1 := by
  unfold State.takeCopy
  split
  · exact .of (bump_keeps s _) (by decide) (by decide)
  · extract_lets d tseq data req now p saf u fresh other back saf₁ v kept
    have hu : s.goes u := .saf (.of_eq rfl rfl rfl rfl rfl rfl)
    have hv : s.goes v := hu.trans (.saf (.of_eq rfl rfl rfl rfl rfl rfl))
    clear_value u other v
    split
    · split
      · exact .ite (hv.trans (safeRecord_goes v 5 _)) hv
      · exact hu
    · exact hu.trans (.saf (.of_eq rfl rfl rfl rfl rfl rfl))

theorem answerAgain_goes (r : Deferred) : s.goes (s.answerAgain r) := by
  unfold State.answerAgain
  extract_lets hit saf
  have hu : s.goes { s with saf.again := s.saf.again.filter fun x => !hit x } := .saf (.of_eq rfl rfl rfl rfl rfl rfl)
  refine hu.trans (.foldl (fun t x => ?_) _ _)
  split
  · exact .of (sendTo_keeps t _ _ _) (by decide) (by decide)
  · exact .refl t

theorem paramReply_goes (r : Deferred) (status detail : Nat) : s.goes (s.paramReply r status detail) :=
  .trans (.of (finish_keeps s _ _ _ _ _ _) (by decide) (by decide)) (answerAgain_goes _ _)

theorem decideParam_goes (b : List Byte) : s.goes (s.decideParam b).2.2 := by
  unfold State.decideParam
  extract_lets a
  split
  · exact .refl s
  · split
    · exact .refl s
    · split
      · exact .refl s
      · exact .trans (t := { s with saf.staged := some (b, s.safeNow), saf.openFrom := none })
          (.saf (.of_eq rfl rfl rfl rfl rfl rfl)) (safeRecord_goes _ _ _)

theorem takeParam_goes (port : Nat) (r : Deferred) : s.goes (s.takeParam port r) := by
  unfold State.takeParam
  split
  · extract_lets saf u a b x v
    have hu : s.goes u := .saf (.of_eq rfl rfl rfl rfl rfl rfl)
    have hx : s.goes x.2.2 := by
      unfold x
      split
      · exact hu
      · split
        · exact hu.trans (decideParam_goes u b)
        · exact hu
    refine .ite ((hx.trans (paramReply_goes _ _ _ _)).trans (paramReply_goes _ _ _ _)) ?_
    exact .trans (hu.trans (paramReply_goes u _ _ _)) (.saf (.of_eq rfl rfl rfl rfl rfl rfl))
  · exact .saf (.of_eq rfl rfl rfl rfl rfl rfl)

theorem nextDatagram_keeps (p : Nat) : s.keeps (s.nextDatagram p).2 [.out, .regs, .pk] :=
  .after (bump_keeps _ _) rfl (.first (keeps_out s _) rfl)

/-- The fabric takes one entry of the island's mailbox. -/
def State.takeEntry (t : State) (m : MailOut) : State :=
  match m with
  | .record b => t.spread (fun d => bit (stSysMask d) 1)
      { bytes := b, key := t.keyNow, chan := none, origin := t.tim.shot, frees := none, pid := none }
  | .telegram net d =>
    let a := t.saf.active
    let x := t.datagram net (slice a (52 + 6 * net) 6) (slice a (44 + 4 * net) 4) (pbPort a) (pbPort a)
      (field a (64 + 2 * net) 2) d
    x.2.sendDirect (if net = 0 then 0 else 1) x.1

theorem takeEntry_keeps (m : MailOut) : s.keeps (s.takeEntry m) [.drawn, .regs, .pk, .out, .rep] := by
  cases m with
  | record b => exact spread_keeps s _ _
  | telegram net d => exact .after (keeps_out _ _) rfl (.first (nextDatagram_keeps s net) rfl)

theorem takeMail_eq : s.takeMail = if s.boot.held || s.boot.phase == .hardware then s
    else s.saf.mailOut.foldl State.takeEntry { s with saf.mailOut := [] } := rfl

/-- The fabric takes what the island has queued. -/
theorem takeMail_spec : s.keeps s.takeMail islandParts ∧
    s.takeMail.saf = { s.saf with mailOut := s.takeMail.saf.mailOut } := by
  rw [takeMail_eq]
  split
  · exact ⟨.refl s _, rfl⟩
  · have hfold : State.keeps { s with saf.mailOut := [] } _ _ := .foldl takeEntry_keeps s.saf.mailOut _
    have hsaf := hfold .saf (by decide)
    generalize s.saf.mailOut.foldl State.takeEntry { s with saf.mailOut := [] } = t at hfold hsaf
    have hs : t.saf = { s.saf with mailOut := [] } := hsaf
    exact ⟨.after hfold (by decide) (.first (keeps_saf s _) (by decide)), by rw [hs]⟩

theorem takeMail_goes : s.goes s.takeMail := by
  obtain ⟨hk, hsaf⟩ := takeMail_spec s
  refine ⟨hk, ?_⟩
  rw [hsaf]
  exact .of_eq rfl rfl rfl rfl rfl rfl
end

end Sys2Proof.Machine

namespace Sys2Proof.Machine

/-! A safety cycle (16 R389). -/

theorem takeCopy_demands {s : State} {port : Nat} {raw : List Byte} (h : s.copyOk port raw = true) (q : Demands) :
    (s.takeCopy q port raw).2 =
      { len := q.len || !bit (field (slice (uninvert port raw) 24 32) 0 1) 0
        brake := q.brake || !bit (field (slice (uninvert port raw) 24 32) 0 1) 1 } := by
  unfold State.takeCopy
  rw [if_neg (not_not.mpr h)]
  extract_lets d tseq data req now p saf u fresh other back saf₁ v kept
  clear_value u other v
  split
  · split
    · rfl
    · rfl
  · rfl

/-- The island's mailbox is empty. -/
def State.mailEmptied (s : State) : State := { s with saf.mailIn := [] }

theorem takeMailIn_goes (s : State) : s.mailEmptied.goes s.takeMailIn.1 := by
  unfold State.takeMailIn
  change s.mailEmptied.goes (s.saf.mailIn.foldl _ (s.mailEmptied, _)).1
  generalize s.mailEmptied = u
  have hfold (l : List MailIn) : ∀ x : State × Demands, x.1.goes (l.foldl (fun (x : State × Demands) m =>
      match m with
      | .telegram port d => x.1.takeCopy x.2 port d
      | .param port r => (x.1.takeParam port r, x.2)) x).1 := by
    induction l with
    | nil => exact fun x => .refl x.1
    | cons m l ih =>
      intro x
      refine .trans ?_ (ih _)
      cases m with
      | telegram port d => exact takeCopy_goes x.1 x.2 port d
      | param port r => exact takeParam_goes x.1 port r
  exact hfold s.saf.mailIn (u, Demands.mk false false)

theorem takeMailIn_copy {s : State} {port : Nat} {d : List Byte} (hm : s.saf.mailIn = [MailIn.telegram port d])
    (h : s.copyOk port d = true) : s.takeMailIn.2 =
      { len := !bit (field (slice (uninvert port d) 24 32) 0 1) 0
        brake := !bit (field (slice (uninvert port d) 24 32) 0 1) 1 } := by
  have hok : State.copyOk { s with saf.mailIn := [] } port d = true := h
  unfold State.takeMailIn
  rw [hm]
  exact takeCopy_demands hok _

/-- What LEN and the brake depend on is the same in two islands. -/
structure Island.sameDemand (x y : Island) : Prop where
  st : y.st = x.st
  gtPhase : y.gtPhase = x.gtPhase
  ins : y.ins = x.ins
  active : y.active = x.active
  speedOk : y.speedOk = x.speedOk
  laser : y.laser = x.laser
  brake : y.brake = x.brake
  pairAt : y.pairAt = x.pairAt
  passed : y.passed = x.passed

namespace Island.sameDemand

theorem refl (x : Island) : x.sameDemand x := ⟨rfl, rfl, rfl, rfl, rfl, rfl, rfl, rfl, rfl⟩

theorem trans {x y z : Island} (h : x.sameDemand y) (g : y.sameDemand z) : x.sameDemand z :=
  ⟨g.st.trans h.st, g.gtPhase.trans h.gtPhase, g.ins.trans h.ins, g.active.trans h.active, g.speedOk.trans h.speedOk,
    g.laser.trans h.laser, g.brake.trans h.brake, g.pairAt.trans h.pairAt, g.passed.trans h.passed⟩

theorem guardClosed {x y : Island} (h : x.sameDemand y) : y.guardClosed = x.guardClosed := by
  simp only [Island.guardClosed, h.ins, h.active]

theorem wdOk {s t : State} (h : s.saf.sameDemand t.saf) (ht : t.tim = s.tim) : t.wdOk = s.wdOk := by
  simp only [State.wdOk, h.pairAt, h.active, ht]

end Island.sameDemand

theorem safeRecord_sameDemand (s : State) (k c : Nat) : s.saf.sameDemand (s.safeRecord k c).saf := by
  rw [safeRecord_saf]
  exact ⟨rfl, rfl, rfl, rfl, rfl, rfl, rfl, rfl, rfl⟩

theorem abortTest_sameDemand (s : State) : s.saf.sameDemand s.abortTest.saf := by
  unfold State.abortTest
  split
  · exact .refl s.saf
  · refine .trans ?_ (safeRecord_sameDemand _ _ _)
    rw [bump_keeps _ _ .saf (by decide)]
    exact ⟨rfl, rfl, rfl, rfl, rfl, rfl, rfl, rfl, rfl⟩

theorem driveOuts_sameDemand (s : State) (o : List Bool) (c : Nat) : s.saf.sameDemand (s.driveOuts o c).saf := by
  unfold State.driveOuts
  split
  · exact .refl s.saf
  · exact .trans (y := (s.setOuts o).saf) ⟨rfl, rfl, rfl, rfl, rfl, rfl, rfl, rfl, rfl⟩ (safeRecord_sameDemand (s.setOuts o) 1 c)

theorem driveOuts_outs (s : State) (o : List Bool) (c : Nat) : (s.driveOuts o c).saf.outs = o := by
  unfold State.driveOuts
  split
  next h => exact h
  next h => rw [safeRecord_saf]; rfl

theorem lenWanted_iff (s : State) : s.lenWanted = true ↔ s.saf.st = .run ∧ s.saf.gtPhase = 2 ∧ s.saf.guardClosed = true ∧
    s.saf.speedOk = true ∧ s.saf.laser = true ∧ s.wdOk = true := by
  simp only [State.lenWanted, Bool.and_eq_true, beq_iff_eq, and_assoc]

theorem brakeWanted_safe {s : State} (h : s.brakeWanted = true) : (s.saf.st = .run ∨ s.saf.st = .guardTest) ∧
    s.saf.guardClosed = true ∧ s.saf.brake = true ∧ s.wdOk = true ∧ s.saf.passed.all id = true := by
  simp only [State.brakeWanted, Bool.and_eq_true, Bool.or_eq_true, beq_iff_eq, and_assoc] at h
  obtain ⟨hst, -, hguard, hbrake, hwd, hpassed⟩ := h
  exact ⟨hst, hguard, hbrake, hwd, hpassed⟩

/-- The four levels: a LEN output is high only where LEN is, and both brake outputs only where the brake is released. -/
theorem outLevels_len {s : State} {len brake : Bool}
    (h : nth (s.outLevels len brake) 0 false = true ∨ nth (s.outLevels len brake) 1 false = true) : len = true := by
  cases len
  · simp [State.outLevels, nth] at h
  · rfl

theorem outLevels_brake {s : State} {len brake : Bool} (h2 : nth (s.outLevels len brake) 2 false = true)
    (h3 : nth (s.outLevels len brake) 3 false = true) : brake = true := by
  obtain ⟨w, hw⟩ : ∃ w, s.outLevels len brake =
      [len && w != 2, len && w != 3, if w = 0 then !brake else brake, if w = 1 then !brake else brake] := ⟨_, rfl⟩
  rw [hw] at h2 h3
  change (if w = 0 then !brake else brake) = true at h2
  change (if w = 1 then !brake else brake) = true at h3
  by_cases h : w = 0
  · subst h
    simpa using h3
  · rwa [if_neg h] at h2

/-- The status DATA depends on the island but for its mailboxes and the DATA kept, and on the time. -/
theorem statusData_congr {s t : State} {m : List MailOut} {d : List Byte}
    (h : t.saf = { s.saf with mailOut := m, statData := d }) (ht : t.tim = s.tim) : t.statusData = s.statusData := by
  have hw : t.wdOk = s.wdOk := by simp only [State.wdOk, h, ht]
  unfold State.statusData
  rw [hw, h]
  rfl

/-- The state of a cycle whose outputs are to be driven: what the copies demand, whether the guard has opened and which
test may start are known. -/
def State.cycleDriven (s w : State) (was : Island) (q : Demands) : State :=
  let opened := was.guardClosed && !w.saf.guardClosed
  let len := w.lenWanted && !q.len
  let brake := w.brakeWanted && !q.brake
  let aborts := match w.saf.testing with
    | some (k, _) => if k < 2 then q.brake || opened else !len
    | none => false
  let u : State := if aborts then w.abortTest else w
  let v : State := if q.len || q.brake || opened then u
    else match u.dueTest len with
      | some k => { u with saf.testing := some (k, s.safeNow) }
      | none => u
  v.driveOuts (v.outLevels len brake) (outCause was v.saf q)

theorem cycleDriven_spec (s w : State) (was : Island) (q : Demands) : let t := s.cycleDriven w was q
    w.goes t ∧ w.saf.sameDemand t.saf ∧
      ∃ u : State, t.saf.outs = u.outLevels (w.lenWanted && !q.len) (w.brakeWanted && !q.brake) := by
  unfold State.cycleDriven
  extract_lets opened len brake aborts u saf v t
  have hu : w.goes u ∧ w.saf.sameDemand u.saf := by
    unfold u
    split
    exacts [⟨abortTest_goes w, abortTest_sameDemand w⟩, ⟨.refl w, .refl w.saf⟩]
  have hv : u.goes v ∧ u.saf.sameDemand v.saf := by
    unfold v
    split
    · exact ⟨.refl u, .refl u.saf⟩
    · split
      exacts [⟨.saf (.of_eq rfl rfl rfl rfl rfl rfl), ⟨rfl, rfl, rfl, rfl, rfl, rfl, rfl, rfl, rfl⟩⟩, ⟨.refl u, .refl u.saf⟩]
  exact ⟨(hu.1.trans hv.1).trans (driveOuts_goes v _ _), (hu.2.trans hv.2).trans (driveOuts_sameDemand v _ _), v,
    driveOuts_outs v _ _⟩

/-- The outputs are refreshed, and the status DATA is produced. -/
def State.cycleTold (s : State) (now : Nat) : State :=
  let t := { s with saf.refresh := List.replicate 4 now }
  State.takeMail { t with saf.statData := t.statusData }

theorem cycleTold_spec (s : State) (now : Nat) : let t := s.cycleTold now
    s.goes t ∧ s.saf.sameDemand t.saf ∧ t.saf.refresh = List.replicate 4 now ∧ t.saf.outs = s.saf.outs ∧
      t.saf.statData = t.statusData := by
  obtain ⟨u, hu⟩ : ∃ u : State, u = { s with saf.refresh := List.replicate 4 now } := ⟨_, rfl⟩
  obtain ⟨v, hv⟩ : ∃ v : State, v = { u with saf.statData := u.statusData } := ⟨_, rfl⟩
  have ht : s.cycleTold now = v.takeMail := by rw [hv, hu]; rfl
  obtain ⟨hkeep, hsaf⟩ := takeMail_spec v
  have htim : v.takeMail.tim = u.tim := (hkeep .tim (by decide)).trans (by rw [hv])
  have hsafu : v.takeMail.saf = { u.saf with mailOut := v.takeMail.saf.mailOut, statData := u.statusData } := by
    rw [hsaf, hv]
  have hstatus : v.takeMail.statusData = u.statusData := statusData_congr hsafu htim
  have hgo : s.goes v := by
    rw [hv, hu]
    exact .saf (.of_eq rfl rfl rfl rfl rfl rfl)
  rw [ht]
  refine ⟨hgo.trans (takeMail_goes v), ?_, ?_, ?_, ?_⟩
  · rw [hsafu, hu]
    exact ⟨rfl, rfl, rfl, rfl, rfl, rfl, rfl, rfl, rfl⟩
  · rw [hsafu, hu]
  · rw [hsafu, hu]
  · rw [hstatus, hsafu]

/-- The cycle has begun: its time is noted, and the pins are sampled. -/
def State.cycleBegun (s : State) (pins : SafetyPins) : State :=
  State.samplePins { s with saf.cycleAt := some s.safeNow, saf.resetReq := false, saf.testReq := false } pins

/-- The state of a cycle behind its checks. -/
def State.cycleChecked (s : State) (pins : SafetyPins) : State :=
  let b := s.cycleBegun pins
  let bad := (List.range 6).filter b.mismatch
  let u := b.takeMailIn.1.trackGuard.resetFaults
  let u : State := if u.saf.testReq then { u with saf.nextTest := [s.safeNow, s.safeNow, s.safeNow] } else u
  let u := if u.saf.fast then { u with saf.fast := false }.safeFault 7 else u
  let u := u.checkDisc.checkGuardTest.checkSpeed.checkWatchdog
  bad.foldl (fun (t : State) (i : Nat) => t.safeFault (mismatchFault i)) u

theorem cycleChecked_goes (s : State) (pins : SafetyPins) :
    (s.cycleBegun pins).mailEmptied.goes (s.cycleChecked pins) := by
  unfold State.cycleChecked
  extract_lets b bad u saf v saf₁ w x
  have hu : State.goes (s.cycleBegun pins).mailEmptied u :=
    ((takeMailIn_goes b).trans (trackGuard_goes _)).trans (resetFaults_goes _)
  have hv : u.goes v := .ite (.saf (.of_eq rfl rfl rfl rfl rfl rfl)) (.refl u)
  have hw : v.goes w := .ite (.trans (t := { v with saf.fast := false }) (.saf (.of_eq rfl rfl rfl rfl rfl rfl))
    (safeFault_goes _ _)) (.refl v)
  have hx : w.goes x := (((checkDisc_goes w).trans (checkGuardTest_goes _)).trans (checkSpeed_goes _)).trans
    (checkWatchdog_goes _)
  exact (((hu.trans hv).trans hw).trans hx).trans (.foldl (fun t i => safeFault_goes t _) bad x)

/-- The outputs of a due cycle, driven. -/
def State.cycleDone (s : State) (pins : SafetyPins) : State :=
  s.cycleDriven (s.cycleChecked pins)
    { s.saf with cycleAt := some s.safeNow, resetReq := false, testReq := false } (s.cycleBegun pins).takeMailIn.2

theorem execSafetyCycle_due {s : State} (h : s.cycleDue = true) (pins : SafetyPins) :
    exec (.safetyCycle pins) s = .next ((s.cycleDone pins).cycleTold s.safeNow) := by
  change execSafetyCycle pins s = _
  unfold execSafetyCycle
  rw [if_neg (not_not.mpr h)]
  rfl

theorem cycleDue_iff (s : State) : s.cycleDue = true ↔
    s.islandOn = true ∧ s.safeNow % 2500 = 0 ∧ s.saf.cycleAt ≠ some s.safeNow := by
  simp only [State.cycleDue, Bool.and_eq_true, beq_iff_eq, bne_iff_ne, ne_eq, and_assoc]

/-- Settles O37: the cycle's operations keep its samples, and its outputs are driven from the demands. -/
theorem safetyCycleGivesEnablesOnlyWhenSafe : Obligations.SafetyCycleGivesEnablesOnlyWhenSafe := by
  unfold Obligations.SafetyCycleGivesEnablesOnlyWhenSafe
  refine ⟨fun s pins hon hmod hrun => ?_, fun s pins h => ?_⟩
  · intro new
    have hdue : s.cycleDue = true := (cycleDue_iff s).mpr ⟨hon, hmod, hrun⟩
    obtain ⟨b, hb⟩ : ∃ b, b = s.cycleBegun pins := ⟨_, rfl⟩
    obtain ⟨w, hw⟩ : ∃ w, w = s.cycleChecked pins := ⟨_, rfl⟩
    obtain ⟨q, hq⟩ : ∃ q, q = (s.cycleBegun pins).takeMailIn.2 := ⟨_, rfl⟩
    obtain ⟨d, hd⟩ : ∃ d, d = s.cycleDone pins := ⟨_, rfl⟩
    obtain ⟨v, hv⟩ : ∃ v, v = d.cycleTold s.safeNow := ⟨_, rfl⟩
    have hbw : b.mailEmptied.goes w := hb ▸ hw ▸ cycleChecked_goes s pins
    obtain ⟨hwd, hdemand, u, houts⟩ := cycleDriven_spec s w
      { s.saf with cycleAt := some s.safeNow, resetReq := false, testReq := false } q
    have hd' : d = s.cycleDriven w { s.saf with cycleAt := some s.safeNow, resetReq := false, testReq := false } q := by
      rw [hd, hw, hq]
      rfl
    rw [← hd'] at hwd hdemand houts
    obtain ⟨hdv, hdemand', hrefresh, hsame, hdata⟩ := cycleTold_spec d s.safeNow
    rw [← hv] at hdv hdemand' hrefresh hsame hdata
    rw [← hsame] at houts
    obtain ⟨hkeep, hsamples⟩ := (hbw.trans hwd).trans hdv
    have hsb : s.keeps b.mailEmptied islandParts := hb ▸ .first (keeps_saf s _) (by decide)
    have hwv := hdemand.trans hdemand'
    have htim : v.tim = w.tim := (hwd.trans hdv).1 .tim (by decide)
    have hlen : (w.lenWanted && !q.len) = true → v.saf.st = .run ∧ v.saf.gtPhase = 2 ∧ v.saf.guardClosed = true ∧
        v.saf.speedOk = true ∧ v.saf.laser = true ∧ v.wdOk = true := fun h => by
      rw [hwv.st, hwv.gtPhase, hwv.guardClosed, hwv.speedOk, hwv.laser, Island.sameDemand.wdOk hwv htim]
      exact (lenWanted_iff w).mp ((Bool.and_eq_true _ _).mp h).1
    have hbrake : (w.brakeWanted && !q.brake) = true → (v.saf.st = .run ∨ v.saf.st = .guardTest) ∧
        v.saf.guardClosed = true ∧ v.saf.brake = true ∧ v.wdOk = true ∧ v.saf.passed.all id = true := fun h => by
      rw [hwv.st, hwv.guardClosed, hwv.brake, hwv.passed, Island.sameDemand.wdOk hwv htim]
      exact brakeWanted_safe ((Bool.and_eq_true _ _).mp h).1
    refine ⟨v, by rw [hv, hd]; exact execSafetyCycle_due hdue pins, ?_, ?_, hrefresh, ?_, fun i hi => ?_, fun i hi => ?_,
      hdata, fun h => ?_, fun h2 h3 => ?_, fun port c hm hok => ⟨fun hr => ?_, fun hr => ?_⟩, hsb.trans hkeep⟩
    · rw [hsamples.cycleAt, hb]
      rfl
    · rw [hsamples.mailIn]
      rfl
    · rw [hsamples.prevIns, hb]
      rfl
    · refine (hsamples.pads i hi).imp (fun h => h.1.trans ?_) id
      rw [hb]
      rfl
    · rw [hsamples.ins, hb]
      exact nth_map_range _ _ hi
    · rw [houts] at h
      exact hlen (outLevels_len h)
    · rw [houts] at h2 h3
      exact hbrake (outLevels_brake h2 h3)
    · have hq' : q.len = true := by
        rw [hq, takeMailIn_copy (s := s.cycleBegun pins) hm hok, hr]
        rfl
      have hoff : (w.lenWanted && !q.len) = false := by rw [hq', Bool.not_true, Bool.and_false]
      rw [houts, hoff]
      exact ⟨rfl, rfl⟩
    · have hq' : q.brake = true := by
        rw [hq, takeMailIn_copy (s := s.cycleBegun pins) hm hok, hr]
        rfl
      have hoff : (w.brakeWanted && !q.brake) = false := by rw [hq', Bool.not_true, Bool.and_false]
      rintro ⟨h2, h3⟩
      rw [houts, hoff] at h2 h3
      exact absurd (outLevels_brake h2 h3) Bool.false_ne_true
  · refine congrArg Host.Outcome.next (if_pos fun hdue => ?_)
    obtain ⟨hon, hmod, hrun⟩ := (cycleDue_iff s).mp hdue
    rcases h with h | h | h
    exacts [absurd (hon.symm.trans h) (by decide), h hmod, hrun h]

end Sys2Proof.Machine

namespace Sys2Proof.Machine

/-! A packet that firmware serves: no switchover is due (17 R424; 02 R61). -/

theorem arrived_keeps {s u : State} {opcode : Nat} {o : Origin} {r : Request} {e : Nat}
    (h : s.arrived opcode o r = some (u, e)) : s.keeps u [.pk, .drawn] ∧ s.served o = true := by
  simp only [State.arrived] at h
  repeat' split at h
  all_goals cases h
  next x hx _ _ t ht _ _ _ _ _ =>
    refine ⟨.after (setSession_keeps t o _) rfl (.after (ensureSession_keeps ht) rfl (taken_keeps hx)), ?_⟩
    unfold State.taken at hx
    split at hx
    · cases hx
    next hs =>
      simp only [Bool.or_eq_true, Bool.not_eq_true', not_or, Bool.not_eq_false] at hs
      exact hs.1

/-- A packet whose opcode the responder does not execute is accepted while the active pair executes firmware. -/
theorem thrumi_of_accepted {s u : State} {op : OpSpec} {o : Origin} {r : Request} {e : Nat}
    (h : s.accepted op o r = some (u, e)) (hop : op.responder = false) : u.thrumi = true := by
  unfold State.accepted at h
  split at h
  · cases h
  next x hx =>
    split at h
    · cases h
    next hc =>
      cases h
      obtain ⟨hkeep, hserved⟩ := arrived_keeps hx
      have hboot : u.boot = s.boot := hkeep .boot (by decide)
      have hrep : u.rep = s.rep := hkeep .rep (by decide)
      have ho : u.opChecks op o (r.packet op.opcode) = none := firstFail_eq_none.mp hc _ (by simp)
      have hby : u.byResponder o = false := by
        have h1 := firstFail_eq_none.mp ho (need (!u.byResponder o || op.responder) FW_ABSENT) (by simp)
        rw [hop] at h1
        cases hb : u.byResponder o with
        | false => rfl
        | true => simp [hb, need] at h1
      have ht : u.thrumi = s.thrumi := by simp only [State.thrumi, hboot, hrep]
      rw [ht]
      rw [State.byResponder, hboot] at hby
      unfold State.served at hserved
      split at hserved
      · simpa using (Bool.or_eq_true _ _).mp hserved |>.resolve_right (by simpa using hby)
      · exact ((Bool.and_eq_true _ _).mp hserved).1
      · exact hserved

/-! Self-tests, released units and the repair map (17 R425 to R429). -/

/-- The repair unit but for its map. -/
theorem mapRemove_bare (s : State) (k f : Nat) :
    (s.mapRemove k f).rep.bare = { s.rep.bare with map := (s.mapRemove k f).rep.map } := by
  unfold State.mapRemove
  extract_lets stays
  split
  · rfl
  · have hb := mapChanged_bare { s with rep.map := s.rep.map.filter stays }
    generalize State.mapChanged { s with rep.map := s.rep.map.filter stays } = t at hb
    have hm : t.rep.map = s.rep.map.filter stays := (congrArg Repair.map hb :)
    rw [hm]
    exact hb

/-- Where no self-test runs, the tests of the released units are all that ends. -/
theorem execSelftestDone_none {s t : State} {l : List (Nat × Nat)}
    (ht : s.rep.released.foldl (fun t x => t.releaseDone l x) s = t) (hn : t.rep.selftest = none) :
    exec (.selftestDone l) s = .next t := by
  change execSelftestDone l s = _
  unfold execSelftestDone
  simp only [ht, hn]

section
variable {s : State} {e : Nat} (hr : s.rep.released = [(1, e)]) (hs : s.engineGroup e = none)
include hr hs

theorem releaseDone_passed {l : List (Nat × Nat)} (hl : l.contains (1, e) = false) :
    s.rep.released.foldl (fun t x => t.releaseDone l x) s = State.mapRemove { s with
      rep.released := [], rep.pool := sortBy (fun a b => decide (a < b)) (e :: s.rep.pool) } 1 e := by
  have herase : s.rep.released.erase (1, e) = [] := by simp [hr]
  have hserves : ¬ (State.unitServes { s with rep.released := [] } 1 e = true) := by
    change ¬ ((s.engineGroup e).isSome = true)
    rw [hs]
    exact Bool.false_ne_true
  rw [hr, List.foldl_cons, List.foldl_nil, State.releaseDone, herase]
  simp only [if_neg hserves, hl, Bool.false_eq_true, if_false]

/-- An engine whose self-test failed after its release. -/
theorem releaseDone_failed {l : List (Nat × Nat)} (hl : l.contains (1, e) = true) (he : e < 68)
    (hf : s.rep.engFail.contains e = false) : let t := s.rep.released.foldl (fun t x => t.releaseDone l x) s
    t.rep.released = [] ∧ t.rep.engFail = s.rep.engFail ++ [e] ∧ t.rep.pool = s.rep.pool.filter (· != e) ∧
      t.rep.selftest = s.rep.selftest ∧ ∃ x ∈ t.rep.map, x.kind = 1 ∧ x.failed = e ∧ x.origin = 3 := by
  obtain ⟨u, hu⟩ : ∃ u : State, u = { s with rep.released := [] } := ⟨_, rfl⟩
  have herase : s.rep.released.erase (1, e) = [] := by simp [hr]
  have hserves : u.unitServes 1 e = false := by
    rw [hu]
    change (s.engineGroup e).isSome = false
    rw [hs]
    rfl
  have hfailed : u.unitFailed 1 e = false := by rw [hu]; exact hf
  obtain ⟨v, hv⟩ : ∃ v, v = ((u.latch REP_STATUS 0x4).openEvent 4 0xE).spareFails 1 e := ⟨_, rfl⟩
  obtain ⟨w, hw⟩ : ∃ w : State, w = { v with
    rep.released := v.rep.released.erase (1, e), rep.engFail := v.rep.engFail ++ [e]
    rep.pool := v.rep.pool.filter (· != e) } := ⟨_, rfl⟩
  obtain ⟨x, hx⟩ : ∃ x, x = (w.setEng e fun y => { y with st := .failed }).report (causeKey 3 0x10 e) 0xE e false := ⟨_, rfl⟩
  have ht : s.rep.released.foldl (fun t x => t.releaseDone l x) s =
      ((x.mapAdd 1 3 e noSpare).mapMade 3 e [0x10]).postShares := by
    rw [hr, List.foldl_cons, List.foldl_nil, State.releaseDone, herase]
    simp only [← hu, hserves, hl, Bool.false_eq_true, if_false, if_true]
    unfold State.testFailed
    dsimp only
    rw [if_neg ?_, hx, hw, hv]
    · rfl
    · simp only [hserves, hfailed]
      simp [kindTests, kindCount, nth, he]
  have hvrep : v.rep = { u.rep with migs := v.rep.migs } := by
    have hkeep : ((u.latch REP_STATUS 0x4).openEvent 4 0xE).rep = u.rep :=
      (openEvent_keeps _ _ _ _ .rep (by decide)).trans (latch_keeps u _ _ .rep (by decide))
    rw [hv, (spareFails_spec _ 1 e).1, hkeep]
  have hxbare : x.rep.bare = w.rep.bare := hx ▸ report_bare _ _ _ _ _
  obtain ⟨hadd, y, hy, hkind, hfail, horigin, -⟩ := mapAdd_spec x 1 3 e noSpare
  have hmade := mapMade_bare (x.mapAdd 1 3 e noSpare) 3 e [0x10]
  have hpost := postShares_keeps ((x.mapAdd 1 3 e noSpare).mapMade 3 e [0x10]) .rep (by decide)
  rw [ht]
  generalize ((x.mapAdd 1 3 e noSpare).mapMade 3 e [0x10]).postShares = t at hpost
  have hbare : t.rep.bare = { w.rep.bare with map := (x.mapAdd 1 3 e noSpare).rep.map } := by
    rw [← hxbare, ← hadd, ← hmade]
    exact congrArg Repair.bare hpost
  have hf (α : Type) (f : Repair → α) := congrArg f hbare
  have hwrep : w.rep.released = [] ∧ w.rep.engFail = s.rep.engFail ++ [e] ∧ w.rep.pool = s.rep.pool.filter (· != e) ∧
      w.rep.selftest = s.rep.selftest := by
    rw [hw, hvrep, hu]
    exact ⟨rfl, rfl, rfl, rfl⟩
  obtain ⟨h1, h2, h3, h4⟩ := hwrep
  refine ⟨(hf _ Repair.released).trans h1, (hf _ Repair.engFail).trans h2, (hf _ Repair.pool).trans h3,
    (hf _ Repair.selftest).trans h4, y, ?_, hkind, hfail, horigin⟩
  rwa [show t.rep.map = _ from hf _ Repair.map]
end

/-! The former active pair (17 R425, R426, R429). -/

/-- The entry of the repair map says already why the pair is out. -/
def State.pairLost (s : State) : Bool :=
  s.rep.map.any fun e => e.kind == 4 && e.failed == s.otherPair && e.origin != 4

theorem not_pairLost {s : State}
    (h : ∀ e ∈ s.rep.map, e.kind = 4 → e.failed = 1 - s.rep.active → e.origin = 4) : s.pairLost = false := by
  rw [State.pairLost, List.any_eq_false]
  intro e he hlost
  simp only [Bool.and_eq_true, beq_iff_eq, bne_iff_ne] at hlost
  obtain ⟨⟨hk, hf⟩, ho⟩ := hlost
  exact ho (h e he hk hf)

/-- A pair that passes its self-test is the standby. -/
theorem mapRemove_rejoins (s : State) (p : Nat) :
    let t := { s.mapRemove 4 p with rep.standby := true, rep.withdrawn := none }
    t.rep.standby = true ∧ t.rep.active = s.rep.active ∧ s.keeps t [.rep, .regs, .pk, .drawn, .out, .ifl] := by
  refine ⟨rfl, (congrArg Repair.active (mapRemove_bare s 4 p) :), .after (keeps_rep _ _) rfl ?_⟩
  exact .ite (.refl s _) (.after (mapChanged_keeps _) rfl (.first (keeps_rep s _) rfl))

/-- A pair that fails its self-test enters the repair map and stays out. -/
theorem pairFails_spec (s : State) (p : Nat) :
    let t := ((s.report (causeKey 7 0x10 p) 0xE p false).mapAdd 4 3 p noSpare).mapMade 7 p [0x10]
    t.rep.standby = s.rep.standby ∧ t.rep.active = s.rep.active ∧
      (∃ e ∈ t.rep.map, e.kind = 4 ∧ e.failed = p ∧ e.origin = 3) ∧
      s.keeps t [.rep, .regs, .pk, .drawn, .out, .ifl] := by
  obtain ⟨u, hu⟩ : ∃ u, u = s.report (causeKey 7 0x10 p) 0xE p false := ⟨_, rfl⟩
  obtain ⟨hadd, x, hx, hkind, hfailed, horigin, -⟩ := mapAdd_spec u 4 3 p noSpare
  have hbare : ((u.mapAdd 4 3 p noSpare).mapMade 7 p [0x10]).rep.bare =
      { s.rep.bare with map := (u.mapAdd 4 3 p noSpare).rep.map } := by
    rw [mapMade_bare, hadd, hu, report_bare]
  have hkeep : s.keeps (u.mapAdd 4 3 p noSpare) [.rep, .regs, .pk, .drawn, .out, .ifl] :=
    .after (mapAdd_keeps u _ _ _ _) rfl (hu ▸ .first (report_keeps s _ _ _ _) rfl)
  rw [← hu]
  have hf (α : Type) (f : Repair → α) := congrArg f hbare
  refine ⟨hf _ Repair.standby, hf _ Repair.active, ⟨x, ?_, hkind, hfailed, horigin⟩, ?_⟩
  · rwa [show ((u.mapAdd 4 3 p noSpare).mapMade 7 p [0x10]).rep.map = _ from hf _ Repair.map]
  · exact .after (keeps_rep _ _) rfl hkeep

/-- What a self-test without failed units leaves (17 R427). -/
theorem selftestDone_passed {s : State} {mask : Nat} {owner : Option (Origin × Half)}
    (h : s.rep.selftest = some (mask, owner)) (hr : s.rep.released = []) :
    ∃ t, exec (.selftestDone []) s = .next t ∧ t.rep = { s.rep with selftest := none } ∧
      (bit mask 5 = true → t.mem = { s.mem with sramAt := s.time, dramAt := s.time }) ∧
      (bit mask 5 = false → t.mem = s.mem) ∧ s.keepsRegs t [GLB_EVT_SEQ] ∧
      s.keeps t [.rep, .mem, .regs, .pk, .drawn, .out, .ifl] := by
  obtain ⟨u, hu⟩ : ∃ u, u = if bit mask 5 = true then { s with mem.sramAt := s.time, mem.dramAt := s.time } else s :=
    ⟨_, rfl⟩
  have hkeep : s.keeps u [.mem] := hu ▸ .ite (keeps_mem s _) (.refl s _)
  obtain ⟨v, hv⟩ : ∃ v : State, v = { u with rep.selftest := none } := ⟨_, rfl⟩
  have hrep : v.rep = { s.rep with selftest := none } := by rw [hv, ← show u.rep = s.rep from hkeep .rep (by decide)]
  have hmem : v.mem = u.mem := by rw [hv]
  have hregs : v.regs = s.regs := by rw [hv]; exact hkeep .regs (by decide)
  have hsv : s.keeps v [.rep, .mem] := hv ▸ .after (keeps_rep u _) rfl (.first hkeep rfl)
  have hexec : exec (.selftestDone []) s = .next (match owner with | some o => v.complete o OK 0xE | none => v) := by
    change execSelftestDone [] s = _
    unfold execSelftestDone
    rw [hr]
    subst hv hu
    cases owner <;> simp only [List.foldl_nil, List.filter_nil, h]
  have hyes (hb : bit mask 5 = true) : v.mem = { s.mem with sramAt := s.time, dramAt := s.time } := by
    rw [hmem, hu, if_pos hb]
  have hno (hb : bit mask 5 = false) : v.mem = s.mem := by rw [hmem, hu, if_neg (by simp [hb])]
  cases owner with
  | none => exact ⟨v, hexec, hrep, hyes, hno, keepsRegs_of_regs hregs _, hsv.mono (by decide)⟩
  | some o =>
    have hc := complete_keeps v o OK 0xE []
    refine ⟨_, hexec, (hc .rep (by decide)).trans hrep, fun hb => (hc .mem (by decide)).trans (hyes hb),
      fun hb => (hc .mem (by decide)).trans (hno hb), ?_, .after hc rfl (hsv.mono (by decide))⟩
    exact (keepsRegs_of_regs hregs _).trans (complete_keepsRegs v o OK 0xE [])

/-- A unit's migration is taken when it serves, has a spare and none of its kind waits. -/
theorem repMigrate_taken {u : State} (hu : u.thrumi = true) {o : Origin} {r : Request}
    (hf : u.unitFailed (field r.payload 0 1) (field r.payload 2 2) = false)
    (hs : u.unitServes (field r.payload 0 1) (field r.payload 2 2) = true)
    (hp : u.unitSpare (field r.payload 0 1) (field r.payload 2 2) = true) :
    repMigrateOp.act u o (r.packet 0xB1) =
      if u.mig (field r.payload 0 1) = none then
        { st := u.queueMig (field r.payload 0 1) (field r.payload 2 2) u.time (some (o, r.sequence))
          status := ACCEPTED }
      else u.refuse BUSY 0 := by
  have hsw : u.rep.switch.isNone = true := ((Bool.and_eq_true _ _).mp hu).2
  simp only [repMigrateOp, payload_packet, sequence_packet]
  rw [doneIf_pass (by simp [hf, hs, hp])]
  split
  next hn => rw [doneIf_pass (by simp [hn, hsw]), doneIf_nil]
  next hn => exact doneIf_fail (by simp [hn])

/-- Settles O39: each row from the lemma about its function; a packet's effect stands behind its checks, and a row
whose condition does not hold takes the other branch. -/
theorem repairCommandsComplete : Obligations.RepairCommandsComplete := by
  unfold Obligations.RepairCommandsComplete
  refine ⟨fun s u o r x h => congrArg Host.Outcome.next (serve_answered h rfl), fun s u o r x h => ?_, fun s u o r x h => ?_,
    fun s hb hf hn => ⟨fun hd => ?_, fun hd => ?_⟩, fun s h => ?_, fun s l hn hr => ?_, fun s l e hn hr hg => ?_,
    fun s mask owner h hr => selftestDone_passed h hr, fun s ok hs hf hm => ?_, fun s ok h => ?_,
    fun s x hp hf => ?_, fun s h => ?_⟩
  case refine_1 =>
    intro k i hf hs hp
    have hact := repMigrate_taken (thrumi_of_accepted h rfl) (o := o) hf hs hp
    refine ⟨fun hm => congrArg Host.Outcome.next (serve_answeredAccepted h ?_),
      fun hm => congrArg Host.Outcome.next (serve_answeredRefusal h ?_)⟩
    · exact hact.trans (if_pos hm)
    · exact hact.trans (if_neg hm)
  case refine_2 =>
    refine ⟨fun hn => congrArg Host.Outcome.next (serve_answeredAccepted h ?_),
      fun hn => congrArg Host.Outcome.next (serve_answeredRefusal h ?_)⟩ <;>
      simp only [repSelftestOp, payload_packet, sequence_packet]
    · rw [doneIf_pass (by simp [hn]), doneIf_nil]
    · exact doneIf_fail (Option.isNone_eq_false_iff.mpr (Option.isSome_iff_ne_none.mpr hn))
  case refine_3 => exact congrArg Host.Outcome.next (if_pos ⟨hb, hf, by simp [hn], hd⟩)
  case refine_4 => exact congrArg Host.Outcome.next (if_neg fun ⟨_, _, _, hle⟩ => absurd hd (Nat.not_lt.mpr hle))
  case refine_5 =>
    refine congrArg Host.Outcome.next (if_neg fun ⟨hb, hf, hn, _⟩ => ?_)
    rcases h with h | h | h
    · simp [h] at hb
    · simp [h] at hf
    · exact h (by simpa using hn)
  case refine_6 => exact execSelftestDone_none (by rw [hr]; rfl) hn
  case refine_7 =>
    refine ⟨fun hl => ?_, fun hl he hf => ?_⟩
    · refine execSelftestDone_none (releaseDone_passed hr hg hl) ?_
      exact (congrArg Repair.selftest (mapRemove_bare _ 1 e) :).trans hn
    · obtain ⟨h1, h2, h3, h4, h5⟩ := releaseDone_failed hr hg hl he hf
      exact ⟨_, execSelftestDone_none rfl (h4.trans hn), h1, h2, h3, h5⟩
  case refine_8 =>
    have hexec : exec (.pairRejoin ok) s = .next (if ok = true then
        { s.mapRemove 4 s.otherPair with rep.standby := true, rep.withdrawn := none }
        else ((s.report (causeKey 7 0x10 s.otherPair) 0xE s.otherPair false).mapAdd 4 3 s.otherPair noSpare).mapMade 7
          s.otherPair [0x10]) := by
      refine congrArg Host.Outcome.next (if_neg ?_)
      rintro (h | h | h)
      · simp [hs] at h
      · exact h hf
      · exact absurd h (by rw [show (s.rep.map.any _) = false from not_pairLost hm]; exact Bool.false_ne_true)
    cases ok with
    | true =>
      obtain ⟨h1, h2, h3⟩ := mapRemove_rejoins s s.otherPair
      exact ⟨_, hexec, h1, h2, nofun, h3⟩
    | false =>
      obtain ⟨h1, h2, h3, h4⟩ := pairFails_spec s s.otherPair
      exact ⟨_, hexec, h1.trans hs, h2, fun _ => h3, h4⟩
  case refine_9 => exact congrArg Host.Outcome.next (if_pos (h.elim .inl fun h => .inr (.inl (by simp [h]))))
  case refine_10 =>
    intro u copy
    change execRepairMapWriteback s = _
    rw [execRepairMapWriteback, if_neg (by simp [hp, hf])]
  case refine_11 => exact congrArg Host.Outcome.next (if_pos (h.imp (by simp [·]) (by simp [·])))

end Sys2Proof.Machine

namespace Sys2Proof.Machine

/-! The reset state (19 R464, R472). -/

/-- No program is present after reset (04 R93). -/
theorem reset_prog (pid : Nat) : State.reset.prog pid = none := by
  change (List.replicate 64 none).getD pid none = none
  rw [List.getD_eq_getElem?_getD, List.getElem?_replicate]
  split <;> rfl

/-- Settles O60: the reset state is one value, and each clause reads a field of it. -/
theorem resetStateIsSound : Obligations.ResetStateIsSound := by
  unfold Obligations.ResetStateIsSound
  refine ⟨rfl, rfl, rfl, rfl, fun _ => rfl, by decide, by decide +kernel, by decide +kernel, rfl, reset_prog, rfl, rfl,
    by decide, by decide⟩

end Sys2Proof.Machine

namespace Sys2Proof.Machine

/-! What the actions of BRINGUP and READY leave alone (19 R470 to R472): the boot unit, the island, the time, and
that the time bases run. -/

/-- Every part but the boot unit, the island, the time and the time unit. -/
def bringParts : List Part :=
  [.drawn, .regs, .pk, .pg, .seq, .emt, .cle, .hch, .hen, .wfd, .out, .adm, .hka, .thm, .mem, .rep, .ifl]

/-- A change that leaves the boot unit, the island and the time, and does not stop the time bases. -/
def State.keepsBoot (s t : State) : Prop := s.keeps t (.tim :: bringParts) ∧ t.tim.running = s.tim.running

namespace State.keepsBoot

theorem refl (s : State) : s.keepsBoot s := ⟨.refl s _, rfl⟩

theorem trans {s t u : State} (h : s.keepsBoot t) (g : t.keepsBoot u) : s.keepsBoot u :=
  ⟨h.1.trans g.1, g.2.trans h.2⟩

/-- A change of other parts. -/
theorem of {s t : State} {l : List Part} (h : s.keeps t l) (hl : (l.all fun p => bringParts.contains p) = true) :
    s.keepsBoot t := by
  have ht : s.keeps t bringParts := .first h hl
  exact ⟨ht.mono (by decide), congrArg TimeUnit.running (ht .tim (by decide))⟩

theorem ite {s t u : State} {c : Prop} [Decidable c] (ht : s.keepsBoot t) (hu : s.keepsBoot u) :
    s.keepsBoot (if c then t else u) := by
  split
  exacts [ht, hu]

theorem foldl {α : Type} {f : State → α → State} (hf : ∀ (t : State) x, t.keepsBoot (f t x)) :
    ∀ (xs : List α) (s : State), s.keepsBoot (xs.foldl f s)
  | [], s => refl s
  | x :: xs, s => (hf s x).trans (foldl hf xs (f s x))

theorem boot {s t : State} (h : s.keepsBoot t) : t.boot = s.boot := h.1 .boot (by decide)
theorem saf {s t : State} (h : s.keepsBoot t) : t.saf = s.saf := h.1 .saf (by decide)
theorem time {s t : State} (h : s.keepsBoot t) : t.time = s.time := h.1 .time (by decide)

end State.keepsBoot

section
variable (s : State)

/-! Links (18 R456). -/

theorem setWarm_keepsBoot (on : Bool) (cause : Nat) : s.keepsBoot (s.setWarm on cause) := by
  refine ⟨.first (setWarm_keeps s on cause) rfl, ?_⟩
  unfold State.setWarm
  split
  · rfl
  · extract_lets tim u v
    have hv : v.tim = u.tim := event_keeps _ _ _ _ _ _ _ .tim (by decide)
    have hu : u.tim.running = s.tim.running := rfl
    rw [← hu, ← hv]
    split
    · exact congrArg TimeUnit.running (endCause_keeps v _ .tim (by decide))
    · exact congrArg TimeUnit.running ((report_keeps (v.latch _ _) _ _ _ _ .tim (by decide)).trans
        (latch_keeps v _ _ .tim (by decide)))

theorem bothLost_keepsBoot : s.keepsBoot s.bothLost := by
  have hsafe : s.keepsBoot s.loopsSafe := .of (keeps_cle s _) rfl
  have hheld : s.loopsSafe.keepsBoot { s.loopsSafe with seq.clockHold := true } := .of (keeps_seq _ _) rfl
  exact (hsafe.trans hheld).trans (.of (report_keeps _ _ _ _ _) rfl)

theorem parentLost_keepsBoot : s.keepsBoot s.parentLost := by
  unfold State.parentLost
  extract_lets tim ifl u v up w x sync
  have hu : s.keepsBoot u :=
    .trans (t := { s with tim.onRef := false, ifl.joining := false })
      ⟨.after (keeps_ifl { s with tim.onRef := false } _) (by decide) (.first (keeps_tim s _) (by decide)), rfl⟩
      (setWarm_keepsBoot _ _ _)
  have hv : u.keepsBoot v := .ite (.refl u) (bothLost_keepsBoot u)
  have hw : v.keepsBoot w := .of (suspendAll_keeps v _ _ _) rfl
  have hx : w.keepsBoot x := .foldl (fun t pid => .of (dropStaged_keeps t pid) rfl) _ w
  exact hu.trans (hv.trans (hw.trans (hx.trans (.foldl (fun t p => .of (suspend_keeps t _ _ _) rfl) _ x))))

theorem setPort_keeps (p : Nat) (f : LinkPort → LinkPort) : s.keeps (s.setPort p f) [.ifl] := keeps_ifl s _

theorem linkDown_keepsBoot (p : Nat) : s.keepsBoot (s.linkDown p) := by
  unfold State.linkDown
  split
  · exact .refl s
  · extract_lets parent key u v w
    have hu : s.keepsBoot u := .of (setPort_keeps s p _) rfl
    have hv : u.keepsBoot v := .of (.after (report_keeps _ _ _ _ _) rfl (.first (latch_keeps u _ _) rfl) :
      u.keeps v (.regs :: [.rep, .pk, .drawn])) rfl
    have hw : v.keepsBoot w := .ite (parentLost_keepsBoot v) (.refl v)
    have hr : w.keepsBoot w.readmit := .of (readmit_keeps w) rfl
    exact hu.trans (hv.trans (hw.trans (hr.trans (.of (openEvent_keeps _ _ _ _) rfl))))

theorem leaveTree_keepsBoot : s.keepsBoot s.leaveTree := by
  unfold State.leaveTree
  split
  · exact .refl s
  · extract_lets u old
    refine .trans (t := u) (.foldl (fun t p => .ite ?_ (.refl t)) _ s) (.of (keeps_ifl u _) rfl)
    exact (linkDown_keepsBoot t p).trans (.of (setPort_keeps _ _ _) rfl)

theorem linkPorts_keepsBoot : s.keepsBoot s.linkPorts := by
  refine (leaveTree_keepsBoot s).trans (.foldl (fun t p => .ite (.of (setPort_keeps _ _ _) rfl) ?_) _ _)
  exact (linkDown_keepsBoot t p).trans (.of (setPort_keeps _ _ _) rfl)

/-! Rings (19 R478). -/

theorem cmdTail_keepsBoot (n : Fin 4) (k : Nat) : s.keepsBoot (s.cmdTail n k []) := by
  unfold State.cmdTail
  extract_lets size
  split
  · exact .refl s
  · refine .ite (.refl s) (.ite (.of (setRegN_keeps s _ _) rfl) ?_)
    simp only [List.take_nil, List.foldl_nil]
    refine .trans (t := if _ then s else s.enableRing n) (.ite (.refl s) ?_) (.of (setRegN_keeps _ _ _) rfl)
    refine .trans (t := if _ then s else s.openSession (.ring n)) (.ite (.refl s) ?_) (.of (keeps_pk _ _) rfl)
    exact .of (openSession_keeps s _) rfl

theorem replyTail_keepsBoot (n : Fin 4) (k : Nat) (lens : List Nat) : s.keepsBoot (s.replyTail n k lens) := by
  unfold State.replyTail
  extract_lets size new
  split
  · exact .refl s
  · refine .ite (.refl s) ?_
    extract_lets u r' pk
    have hu : s.keepsBoot u := by
      unfold u
      split
      · exact .ite (.refl s) (.of (endDry_keeps s _ _) rfl)
      · exact .refl s
    exact hu.trans (.of (.after (setRegN_keeps _ _ _) rfl (.first (keeps_pk u _) rfl) : u.keeps _ [.regs, .pk]) rfl)

theorem dataTail_keepsBoot (n : Fin 16) (k : Nat) (bufs : List RingBuf) : s.keepsBoot (s.dataTail n k bufs) := by
  unfold State.dataTail
  extract_lets size
  split
  · exact .refl s
  · refine .ite (.refl s) (.ite (.of (setRegN_keeps s _ _) rfl) ?_)
    extract_lets old u r'
    have hu : s.keepsBoot u := .ite (.refl s) (.of (setRegN_keeps s _ _) rfl)
    exact hu.trans (.of (.after (setRegN_keeps _ _ _) rfl (.first (keeps_out u _) rfl) : u.keeps _ [.regs, .out]) rfl)

/-! Ethernet ports (10 R278; 11 R292). -/

theorem ethStart_keeps (p : Nat) : s.keeps (s.ethStart p) [.out] := .ite (keeps_out s _) (.refl s _)

theorem ethSet_keepsBoot (p old : Nat) : s.keepsBoot (s.ethSet p old) := by
  unfold State.ethSet
  extract_lets new
  refine .ite (.refl s) ?_
  split
  · exact .trans (.of (ethStart_keeps s p) rfl) (.of (readmit_keeps _) rfl)
  · exact .trans (.of (ethStop_keeps s p) rfl) (.of (readmit_keeps _) rfl)

/-! What a register's write starts (20 R486). -/

theorem clearOt_keepsBoot (v : Nat) : s.keepsBoot (s.clearOt v) := by
  have hclear (t : State) (m : Nat) (key : Word) : t.keepsBoot ((t.unlatch EMT_STATUS m).endCause key) :=
    .of (.after (endCause_keeps _ _) rfl (.first (unlatch_keeps t _ _) rfl) :
      t.keeps _ [.rep, .drawn, .regs, .pk, .out, .ifl]) rfl
  unfold State.clearOt
  extract_lets u v'
  have hu : s.keepsBoot u := .ite (hclear s _ _) (.refl s)
  have hv : u.keepsBoot v' := .of (unlatch_keeps u _ _) rfl
  exact hu.trans (hv.trans (.foldl (fun t g => .ite (hclear t _ _) (.refl t)) _ v'))

theorem applyFilter_keepsBoot (l : Nat) : s.keepsBoot (s.applyFilter l) := by
  have hdrop : s.keepsBoot (s.dropLane l) := .of (dropLane_sameLanes s l).2.2 rfl
  have hshadow (t : State) (f : LaneFilter) : t.keepsBoot (t.setShadow l f) := .of (setShadow_keeps t l f) rfl
  exact (hdrop.trans (hshadow _ _)).trans (.of (.after (keeps_wfd _ _) rfl (keeps_wfd _ _)) rfl)

theorem poke_keeps (w : RegWrite) : s.keeps (s.poke w) [.regs] := .ite (.refl s _) (setReg_keeps s _ _)

theorem tentative_keepsBoot (ws : List RegWrite) : s.keepsBoot (s.tentative ws) :=
  .foldl (fun t w => .of (poke_keeps t w) rfl) ws s

theorem clearLatched_keepsBoot (w : RegWrite) : s.keepsBoot (s.clearLatched w) := by
  unfold State.clearLatched
  split
  · exact .ite (.refl s) (.of (.after (latch_keeps _ _ _) rfl (unlatch_keeps s _ _)) rfl)
  · exact .refl s

theorem startAction_keepsBoot (w : RegWrite) : s.keepsBoot (s.startAction w) := by
  unfold State.startAction
  split
  · exact .refl s
  · refine .ite (.refl s) (.ite (.of (hkGo_keeps s) rfl) ?_)
    split
    · exact applyFilter_keepsBoot s _
    · exact .of (disarm_keeps s _) rfl
    · exact .of (setDram_keeps s _ _) rfl
    · exact .refl s
end

end Sys2Proof.Machine

namespace Sys2Proof.Machine

/-! Register writes (20 R485, R486), of the preload (19 R471). -/

/-- The effect on the register array that an address lies in. -/
theorem atInst_keepsBoot (a base count stride : Nat) {f : Nat → State → State}
    (hf : ∀ n (t : State), t.keepsBoot (f n t)) (t : State) :
    t.keepsBoot (match inst a base count stride with | some n => f n t | none => t) := by
  split
  · exact hf _ _
  · exact .refl t

theorem regEffect_keepsBoot (s t : State) (w : RegWrite) : t.keepsBoot (s.regEffect t w) := by
  unfold State.regEffect
  extract_lets a v at_ back pk free ring cmd rpl data t1 t2 t3 t4
  have hat (base count stride) (f : Nat → State → State) (hf : ∀ n (t : State), t.keepsBoot (f n t)) (u : State) :
      u.keepsBoot (at_ base count stride f u) := atInst_keepsBoot a _ _ _ hf u
  clear_value at_
  have hback (u : State) : u.keepsBoot (back u) := .of (setReg_keeps u _ _) rfl
  have hfree (n) (u : State) : u.keepsBoot (free n u) :=
    .of (.after (setCap_keeps _ _ _) rfl (.first (setRegN_keeps u _ _) rfl) : u.keeps _ [.wfd, .regs]) rfl
  have hring (f n) (u : State) : u.keepsBoot (ring f n u) := .of (keeps_pk u _) rfl
  have hdata (n) (u : State) : u.keepsBoot (data n u) := .of (keeps_out u _) rfl
  have hlimit (g) (u : State) : u.keepsBoot (u.limitBudget g) := .of (keeps_emt u _) rfl
  clear_value back free ring data
  split
  · exact .ite (.of (keeps_pk t _) rfl) (.refl t)
  · refine .ite (clearOt_keepsBoot t v) ?_
    exact (hat _ _ _ _ hlimit _).trans (hat _ _ _ _ hlimit _)
  · refine .trans ((hat _ _ _ _ ?_ _).trans (hat _ _ _ _ ?_ _)) (hat _ _ _ _ ?_ _) <;> intro n u
    · exact .ite (.refl u) (.of (keeps_cle u _) rfl)
    · exact .of (keeps_cle u _) rfl
    · exact (hback u).trans (.of (keeps_cle _ _) rfl)
  · exact hat _ _ _ _ (fun n u => (hback u).trans (.of (setThreshold_keeps _ _ _ _) rfl)) _
  · exact hat _ _ _ _ (fun n u => .ite (.of (setRegN_keeps u _ _) rfl) (.refl u)) _
  · refine .ite (.ite (.of (openEvent_keeps t _ _ _) rfl) (.refl t)) ?_
    exact ((hat _ _ _ _ hfree _).trans (hat _ _ _ _ hfree _)).trans (hat _ _ _ _ hfree _)
  · have h1 : t.keepsBoot t1 := (hat _ _ _ _ hdata _).trans ((hat _ _ _ _ hdata _).trans ((hat _ _ _ _ (hring _) _).trans
      ((hat _ _ _ _ (hring _) _).trans ((hat _ _ _ _ (hring _) _).trans (hat _ _ _ _ (hring _) _)))))
    have h2 : t1.keepsBoot t2 := hat _ _ _ _ (fun n u => by
      split
      · exact (hback u).trans (cmdTail_keepsBoot _ _ _)
      · exact .refl u) _
    have h3 : t2.keepsBoot t3 := hat _ _ _ _ (fun n u => by
      split
      · exact (hback u).trans (replyTail_keepsBoot _ _ _ _)
      · exact .refl u) _
    have h4 : t3.keepsBoot t4 := hat _ _ _ _ (fun n u => by
      split
      · exact (hback u).trans (dataTail_keepsBoot _ _ _ _)
      · exact .refl u) _
    refine (h1.trans (h2.trans (h3.trans h4))).trans (.ite (.of (postShares_keeps t4) rfl) ?_)
    exact hat _ _ _ _ (fun p u => ethSet_keepsBoot u p _) _
  · refine .ite (.of (postShares_keeps t) rfl) (hat _ _ _ _ (fun n u => (hback u).trans ?_) _)
    have hset : (back u).keepsBoot ((back u).setRegN (HKA_IN_CFG n) (u.regN a)) := .of (setRegN_keeps _ _ _) rfl
    exact hset.trans (.ite (.refl _) (.of (keeps_hka _ _) rfl))
  · exact .ite (linkPorts_keepsBoot t) (.refl t)
  · exact .refl t

theorem writeRegs_keepsBoot (s : State) (ws : List RegWrite) : s.keepsBoot (s.writeRegs ws) :=
  ((tentative_keepsBoot s ws).trans
    (.foldl (fun t w => (clearLatched_keepsBoot t w).trans (regEffect_keepsBoot s _ w)) _ _)).trans
    (.foldl (fun t w => startAction_keepsBoot t w) _ _)

section
variable (s : State)

theorem preload_keepsBoot : s.keepsBoot s.preload := by
  unfold State.preload
  split
  · exact .refl s
  · refine .foldl (fun t i => .ite (writeRegs_keepsBoot t _) ?_) _ s
    exact .trans (.of (setFld_keeps t _ _ _ _) rfl) (.ite (.of (setFld_keeps _ _ _ _ _) rfl) (.refl _))

/-! Calibration (14 R363). -/

theorem publishSet_keepsBoot (b : List Byte) : s.keepsBoot (s.publishSet b) := by
  unfold State.publishSet
  extract_lets old u v thm w x changed wfd y z wfd' hka a
  have hu : s.keepsBoot u := .of (bump_keeps s _) rfl
  have hw : u.keepsBoot w := .of (keeps_thm u _) rfl
  have hx : w.keepsBoot x := .foldl (fun t c => .ite (.refl t) (.of (setChan_keeps t _ _) rfl)) _ w
  have hy : x.keepsBoot y := .of (keeps_wfd x _) rfl
  have hz : y.keepsBoot z := .foldl (fun t i => .ite (.of (takeDin_keeps t i) rfl) (.refl t)) _ y
  have ha : z.keepsBoot a := .trans (t := { z with wfd := a.wfd }) (.of (keeps_wfd z _) rfl)
    (.of (keeps_hka { z with wfd := a.wfd } a.hka) rfl)
  exact (hu.trans (hw.trans (hx.trans (hy.trans (hz.trans ha))))).trans
    (.foldl (fun t i => .ite (.of (hkBoundary_keeps t i) rfl) (.refl t)) _ a)

theorem buildSet_keepsBoot : s.keepsBoot s.buildSet := by
  unfold State.buildSet
  extract_lets stored factory t
  split
  · exact .refl s
  · exact (State.keepsBoot.of (draw_keeps s 62) rfl).trans ((publishSet_keepsBoot _ _).trans (.of (keeps_thm _ _) rfl))

/-! DDR5 and the chain of the emitter boards (15 R377, R383; 04 R92). -/

theorem failChannel_keepsBoot (c : Nat) : s.keepsBoot (s.failChannel c) := by
  unfold State.failChannel
  refine .ite (.refl s) ?_
  extract_lets other u v mem w x pk y z a
  have hu : s.keepsBoot u := .of (resumeDram_keeps s c) rfl
  have hv : u.keepsBoot v := (State.keepsBoot.of (setDram_keeps u c _) rfl).trans (.of (report_keeps _ _ _ _ _) rfl)
  have hw : v.keepsBoot w := .of (keeps_mem v _) rfl
  have hx : w.keepsBoot x := .foldl (fun t pid => .of (dropStaged_keeps t pid) rfl) _ w
  have hy : x.keepsBoot y := .of (keeps_pk x _) rfl
  have hz : y.keepsBoot z := by
    refine .foldl (fun t u => ?_) _ y
    have hset : t.keepsBoot (t.setRegN (WFD_CAP_AREA_FREE u) (t.areaSize u)) := .of (setRegN_keeps t _ _) rfl
    have hwr (t : State) (f : CapUnit → CapUnit) : t.keepsBoot (t.setCap u f) := .of (setCap_keeps t _ _) rfl
    exact ((hset.trans (hwr _ _)).trans (.ite (hwr _ _) (.refl _))).trans (.ite (.refl _) (.of (disarm_keeps _ _) rfl))
  have ha : z.keepsBoot a :=
    (State.keepsBoot.of (cutArea_keeps z _ _ _) rfl).trans (.of (cutArea_keeps _ _ _ _) rfl)
  exact (hu.trans (hv.trans (hw.trans (hx.trans (hy.trans (hz.trans ha)))))).trans (.of (readmit_keeps a) rfl)

theorem train_keepsBoot (c : Nat) (passes : List Bool) : s.keepsBoot (s.train c passes) := by
  unfold State.train
  refine .ite (failChannel_keepsBoot s c) ?_
  split
  · exact .trans (.of (setDram_keeps s c _) rfl) (.of (loadDelays_keeps _ _ _) rfl)
  · exact failChannel_keepsBoot s c

theorem hardRepair_keepsBoot : s.keepsBoot s.hardRepair :=
  .ite (.trans (.of (keeps_rep s _) rfl) (.of (mapChanged_keeps _) rfl)) (.refl s)

theorem bringMem_keepsBoot (passes : List (List Bool)) : s.keepsBoot (s.bringMem passes) := by
  have hfail (t : State) : t.keepsBoot ((t.failChannel 0).failChannel 1) :=
    (failChannel_keepsBoot t 0).trans (failChannel_keepsBoot _ 1)
  unfold State.bringMem
  split
  · exact hfail s
  · refine .trans (.of (draw_keeps s 72) rfl) (.trans (.of (keeps_mem _ _) rfl) (.ite ?_ (hfail _)))
    exact (hardRepair_keepsBoot _).trans ((train_keepsBoot _ 0 _).trans (train_keepsBoot _ 1 _))

theorem chainFault_keepsBoot (board : Nat) : s.keepsBoot (s.chainFault board) :=
  (State.keepsBoot.of (setRegN_keeps s _ _) rfl).trans
    ((State.keepsBoot.of (report_keeps _ _ _ _ _) rfl).trans (.of (openEvent_keeps _ _ _ _) rfl))

theorem bringChainFault_keepsBoot (board : Nat) : s.keepsBoot (s.bringChainFault board) :=
  (chainFault_keepsBoot s board).trans (.of (latch_keeps _ _ _) rfl)

theorem chainLatched_keepsBoot : s.keepsBoot s.chainLatched := by
  unfold State.chainLatched
  extract_lets b u
  have hu : s.keepsBoot u := .ite (.of (endCause_keeps s _) rfl) (.refl s)
  exact hu.trans (.trans (.of (setRegN_keeps u _ _) rfl) (.of (keeps_emt _ _) rfl))

theorem bringChain_keepsBoot (probe write : List Byte) : s.keepsBoot (s.bringChain probe write) := by
  unfold State.bringChain
  extract_lets emt u
  have hu : s.keepsBoot u := .of (keeps_emt s _) rfl
  split
  · exact hu
  · extract_lets boards bytes wireLen chainLen v wire emt' x emt2 y emt3 z
    have hv : u.keepsBoot v := .trans (.of (setRegN_keeps u _ _) rfl) (.of (setFld_keeps _ _ _ _ _) rfl)
    have hx : v.keepsBoot x := .ite (.of (keeps_emt v _) rfl) (.refl v)
    have hy : x.keepsBoot y := .of (keeps_emt x _) rfl
    refine .ite hu ((hu.trans (hv.trans hx)).trans (.ite (.refl x) (hy.trans ?_)))
    split
    · exact bringChainFault_keepsBoot y _
    · refine .ite (.refl y) ?_
      have hz : y.keepsBoot z := .of (keeps_emt y _) rfl
      refine hz.trans ?_
      split
      · exact bringChainFault_keepsBoot z _
      · exact chainLatched_keepsBoot z
end

end Sys2Proof.Machine

namespace Sys2Proof.Machine

/-! LOADING (19 R468, R472). -/

theorem slotRegs_keeps (s : State) : s.keeps s.slotRegs [.regs] :=
  .foldl (fun t _ => (setRegN_keeps t _ _).trans (setRegN_keeps _ _ _)) _ s

section
variable {s t : State} (h : t.boot.flash = s.boot.flash)
include h

/-! The header and the slots are read from the flash. -/

theorem flashRead_congr (off n : Nat) : t.flashRead off n = s.flashRead off n := by rw [State.flashRead, h]; rfl

theorem bootHeader_congr : t.bootHeader = s.bootHeader := by
  have hcopy (c : Nat) : t.headerCopy c = s.headerCopy c := by simp only [State.headerCopy, flashRead_congr h]
  simp only [State.bootHeader, hcopy]

theorem slotValid_congr (i : Nat) : t.slotValid i = s.slotValid i := by
  have hread : t.flashRead = s.flashRead := funext₂ (flashRead_congr h)
  unfold State.slotValid State.slotHeader
  rw [hread]

theorem chosenSlot_congr (mode : Nat) : t.chosenSlot mode = s.chosenSlot mode := by
  simp only [State.chosenSlot, bootHeader_congr h, slotValid_congr h]
end

/-- The repair map holds a control-core pair as failed (17 R428). -/
def State.pairDead (s : State) (p : Nat) : Bool :=
  s.rep.map.any fun e => e.kind == 4 && e.failed == p && e.origin != 4

theorem pairDead_iff (s : State) (p : Nat) :
    s.pairDead p = true ↔ ∃ e ∈ s.rep.map, e.kind = 4 ∧ e.failed = p ∧ e.origin ≠ 4 := by
  simp only [State.pairDead, List.any_eq_true, Bool.and_eq_true, beq_iff_eq, bne_iff_ne, and_assoc]

/-- The device holds. -/
def State.hold (s : State) : State := { s with boot.phase := .hold }

/-- The firmware of a slot serves on the first pair that has not failed. -/
def State.loaded (s : State) (i : Nat) : State :=
  let t := s.setRegN BOOT_FW_VER (field (s.slotHeader i) 8 4)
  { t with
    boot.phase := .loading, boot.firmware := true, boot.responder := false, boot.slot := i
    rep.active := if t.pairDead 0 then 1 else 0, rep.standby := !(t.pairDead 0 || t.pairDead 1)
    rep.withdrawn := if t.pairDead 0 then some 0 else none, pk.mspiServed := t.time }

theorem hold_keeps (s : State) : s.keeps s.hold [.boot] := by
  intro p hp
  cases p with
  | boot => simp at hp
  | _ => rfl

theorem loaded_spec (s : State) (i : Nat) : let t := s.loaded i
    t.boot.phase = .loading ∧ t.boot.firmware = true ∧ t.boot.responder = false ∧ t.boot.slot = i ∧
      t.rep.active = (if s.pairDead 0 then 1 else 0) ∧ t.rep.standby = !(s.pairDead 0 || s.pairDead 1) ∧
      s.keeps t [.regs, .boot, .rep, .pk] := by
  unfold State.loaded
  extract_lets t
  have hst : s.keeps t [.regs] := setRegN_keeps s _ _
  have hdead (p : Nat) : t.pairDead p = s.pairDead p := by
    rw [State.pairDead, show t.rep = s.rep from hst .rep (by decide)]
    rfl
  rw [← hdead 0, ← hdead 1]
  clear_value t
  refine ⟨rfl, rfl, rfl, rfl, rfl, rfl, (hst.mono (by decide)).trans ?_⟩
  intro p hp
  cases p with
  | boot => simp at hp
  | rep => simp at hp
  | pk => simp at hp
  | _ => rfl

/-- LOADING in the hardware phase, by the slot that is chosen. -/
theorem execLoading_hardware {s : State} (hp : s.boot.phase = .hardware) (hh : s.boot.held = false) :
    exec .loading s = .next (if s.fld BOOT_CFG 1 0 = 1 then s.slotRegs.hold
      else match s.slotRegs.chosenSlot (s.fld BOOT_CFG 1 0) with
        | none => (s.slotRegs.latch BOOT_STATUS 0x20).hold
        | some (i, other) =>
          let t := if other then s.slotRegs.latch BOOT_STATUS 0x40 else s.slotRegs
          if t.pairDead 0 && t.pairDead 1 then t.hold else t.loaded i) := by
  have h : ¬ (s.boot.phase ≠ .hardware ∨ s.boot.held = true) := by simp [hp, hh]
  change execLoading s = _
  unfold execLoading
  rw [if_neg h]
  rfl

/-- The device holds: the phase and registers change. -/
theorem hold_of {s u : State} (h : s.keeps u [.regs]) : u.hold.boot.phase = .hold ∧
    u.hold.boot.firmware = s.boot.firmware ∧ u.hold.boot.responder = s.boot.responder ∧
    s.keeps u.hold [.regs, .boot] := by
  have hb : u.boot = s.boot := h .boot (by decide)
  exact ⟨rfl, (congrArg Boot.firmware hb :), (congrArg Boot.responder hb :), .after (hold_keeps u) rfl (.first h rfl)⟩

/-! BRINGUP and READY (19 R472). -/

theorem bringTime_spec (s : State) (lock : Bool) : (s.bringTime lock).tim.running = true ∧
    (s.bringTime lock).boot = s.boot ∧ (s.bringTime lock).saf = s.saf ∧ (s.bringTime lock).time = s.time := by
  obtain ⟨u, hu⟩ : ∃ u, u = if s.profile.isNone then s.latch BOOT_STATUS 0x100 else s := ⟨_, rfl⟩
  have hsu : s.keepsBoot u := hu ▸ .ite (.of (latch_keeps s _ _) rfl) (.refl s)
  have hfld (x : Nat) : s.keepsBoot (u.setFld IFL_CFG 31 30 x) := hsu.trans (.of (setFld_keeps u _ _ _ _) rfl)
  refine ⟨rfl, ?_, ?_, ?_⟩ <;> simp only [State.bringTime, ← hu]
  exacts [(hfld _).boot, (hfld _).saf, (hfld _).time]

theorem bringCal_keepsBoot (s : State) : s.keepsBoot s.bringCal := by
  unfold State.bringCal
  extract_lets thm u
  exact .trans (t := u) (.of (keeps_thm s u.thm) rfl) (buildSet_keepsBoot u)

theorem execBringup_loading {s : State} (b : BringupInputs) (h : s.boot.phase = .loading) :
    ∃ t, exec (.bringup b) s = .next t ∧ t.boot.phase = .bringup ∧ t.tim.running = true ∧
      t.boot.firmware = s.boot.firmware ∧ t.saf = s.saf ∧ t.time = s.time ∧ t.boot.flash = s.boot.flash := by
  change ∃ t, execBringup b s = .next t ∧ _
  unfold execBringup
  rw [if_neg (not_not_intro h)]
  extract_lets boot u v wfd hka w x boot'
  obtain ⟨hrun, hboot, hsaf, htime⟩ := bringTime_spec u b.refLock
  have hub : u.boot = { s.boot with phase := .bringup } := rfl
  have hus : u.saf = s.saf := rfl
  have hut : u.time = s.time := rfl
  have hcal : (u.bringTime b.refLock).keepsBoot v := bringCal_keepsBoot _
  clear_value v
  have hvw : v.keepsBoot w :=
    .trans (t := { v with wfd := w.wfd }) (.of (keeps_wfd v _) rfl) (.of (keeps_hka { v with wfd := w.wfd } w.hka) rfl)
  have hwx : w.keepsBoot x :=
    (bringMem_keepsBoot w _).trans ((bringChain_keepsBoot _ _ _).trans (preload_keepsBoot _))
  have hall : (u.bringTime b.refLock).keepsBoot x := hcal.trans (hvw.trans hwx)
  clear_value x w u
  have hxb : x.boot = { s.boot with phase := .bringup } := hall.boot.trans (hboot.trans hub)
  exact ⟨_, rfl, (congrArg Boot.phase hxb :), hall.2.trans hrun, (congrArg Boot.firmware hxb :),
    hall.saf.trans (hsaf.trans hus), hall.time.trans (htime.trans hut), (congrArg Boot.flash hxb :)⟩

theorem execReady_bringup {s : State} (h : s.boot.phase = .bringup) :
    ∃ t, exec .ready s = .next t ∧ t.boot.phase = .ready ∧ t.boot.readyAt = s.time ∧
      t.saf = s.saf ∧ t.time = s.time ∧ t.boot.flash = s.boot.flash := by
  obtain ⟨u, hu⟩ : ∃ u : State, u = { s with
    boot.phase := .ready, boot.readyAt := s.time, rep.bistAt := s.time, mem.sramAt := s.time
    mem.dramAt := s.time } := ⟨_, rfl⟩
  have hexec : exec .ready s = .next ((List.range 4).foldl State.ethStart u).linkPorts.postShares := by
    change execReady s = _
    unfold execReady
    rw [if_neg (not_not_intro h), hu]
  have hall : u.keepsBoot ((List.range 4).foldl State.ethStart u).linkPorts.postShares :=
    ((State.keepsBoot.foldl (fun t p => .of (ethStart_keeps t p) rfl) _ u).trans (linkPorts_keepsBoot _)).trans
      (.of (postShares_keeps _) rfl)
  have hb : u.boot = { s.boot with phase := .ready, readyAt := s.time } := by rw [hu]
  refine ⟨_, hexec, ?_, ?_, hall.saf.trans (hu ▸ rfl), hall.time.trans (hu ▸ rfl), ?_⟩ <;> rw [hall.boot, hb]

/-- Settles O52: LOADING by the slot and the pairs that are left; BRINGUP and READY by the frame of their actions. -/
theorem bootPhasesFollow : Obligations.BootPhasesFollow := by
  unfold Obligations.BootPhasesFollow
  refine ⟨fun s h => congrArg Host.Outcome.next (if_pos h), fun s hp hh => ?_,
    fun s b => ⟨fun h => congrArg Host.Outcome.next (if_pos h), execBringup_loading b⟩,
    fun s => ⟨fun h => congrArg Host.Outcome.next (if_pos h), execReady_bringup⟩⟩
  intro mode dead
  have hexec := execLoading_hardware hp hh
  have hslot : s.slotRegs.chosenSlot mode = s.chosenSlot mode :=
    chosenSlot_congr (congrArg Boot.flash (slotRegs_keeps s .boot (by decide)) :) mode
  rw [hslot] at hexec
  refine ⟨fun h => ?_, fun i other hm hc => ?_⟩
  · by_cases hm : mode = 1
    · exact ⟨_, hexec.trans (by rw [if_pos hm]), hold_of (slotRegs_keeps s)⟩
    · have hc : s.chosenSlot mode = none := h.resolve_left hm
      refine ⟨_, hexec.trans (by rw [if_neg hm, hc]), hold_of ?_⟩
      exact (slotRegs_keeps s).trans (latch_keeps _ _ _)
  · obtain ⟨u, hu⟩ : ∃ u, u = if other = true then s.slotRegs.latch BOOT_STATUS 0x40 else s.slotRegs := ⟨_, rfl⟩
    have hsu : s.keeps u [.regs] := hu ▸ (slotRegs_keeps s).trans (.ite (latch_keeps _ _ _) (.refl _ _))
    have hrep : u.rep = s.rep := hsu .rep (by decide)
    have hd (p : Nat) : u.pairDead p = true ↔ dead p := by
      rw [show u.pairDead p = s.pairDead p by rw [State.pairDead, hrep]; rfl]
      exact pairDead_iff s p
    simp only [hc, ← hu] at hexec
    refine ⟨fun hlive => ?_, fun h0 h1 => ?_⟩
    · obtain ⟨h1, h2, h3, h4, h5, h6, h7⟩ := loaded_spec u i
      have hleft : ¬ ((u.pairDead 0 && u.pairDead 1) = true) := by rwa [Bool.and_eq_true, hd, hd]
      rw [if_neg hm, if_neg hleft] at hexec
      refine ⟨u.loaded i, hexec, h1, h2, h3, h4, fun h0 => ?_,
        fun h0 => ?_, ?_, ?_⟩
      · rw [h5, if_pos ((hd 0).mpr h0)]
      · rw [h5, if_neg (mt (hd 0).mp h0)]
      · rw [h6, Bool.not_eq_true', Bool.or_eq_false_iff, ← Bool.not_eq_true, ← Bool.not_eq_true, hd, hd]
      · exact (hsu.mono (by decide)).trans h7
    · obtain ⟨h1', h2', -, -⟩ := hold_of hsu
      rw [if_neg hm, if_pos (by rw [(hd 0).mpr h0, (hd 1).mpr h1]; rfl)] at hexec
      exact ⟨_, hexec, h1', h2'⟩

end Sys2Proof.Machine

namespace Sys2Proof.Machine

/-! Register reads and writes (20 R485 to R487). -/

/-- REG_READ answers the registers from its address. -/
theorem regRead_answers {s u : State} {o : Origin} {r : Request} {x : Nat}
    (h : s.accepted regReadOp o r = some (u, x)) :
    let y := u.readRegs (field r.payload 0 4) (field r.payload 4 2)
    exec (.regRead o r) s = .next (y.2.answered 0xC0 o r x (slice r.payload 0 6 ++ [0, 0] ++ y.1.flatMap (leBytes 4))) :=
  congrArg Host.Outcome.next (serve_answered h rfl)

section
variable {s : State} {ws : List RegWrite} {detail : Nat → Nat → Nat} {f : State → Done}

theorem performWrites_pass (h : s.badWrite ws (fun _ => true) = none) :
    s.performWrites ws detail f = f (s.writeRegs ws) := by
  rw [State.performWrites, h]

/-- A value that fails refuses; only a refused admission is counted (11 R291). -/
theorem performWrites_fail {i st : Nat} (h : s.badWrite ws (fun _ => true) = some (i, st)) (hst : st ≠ ADM_REFUSED) :
    s.performWrites ws detail f = s.refuse st (detail i st) := by
  rw [State.performWrites, h]
  exact congrArg (State.refuse · st (detail i st)) (if_neg hst)
end

theorem regWrite_act (u : State) (o : Origin) (r : Request) :
    regWriteOp.act u o (r.packet 0xC1) = u.performWrites (regWrites (field r.payload 0 4) (payloadWords r.payload 8))
      (valueOffset 24) fun s => { st := s } := rfl

theorem regModify_act (u : State) (o : Origin) (r : Request) :
    let a := field r.payload 0 4
    let w := u.modified a (BitVec.ofNat 32 (field r.payload 4 4)) (BitVec.ofNat 32 (field r.payload 8 4))
    let v := (u.readReg a).2
    regModifyOp.act u o (r.packet 0xC2) = v.performWrites [(a, w)] (v.modifyDetail (a, w)) fun s =>
      { st := (s.readReg a).2, payload := leBytes 4 (u.readReg a).1 ++ leBytes 4 (s.readReg a).1 } := rfl

/-- REG_WRITE writes its values when all pass. -/
theorem regWrite_writes {s u : State} {o : Origin} {r : Request} {x : Nat}
    (h : s.accepted regWriteOp o r = some (u, x)) :
    let ws := regWrites (field r.payload 0 4) (payloadWords r.payload 8)
    u.badWrite ws (fun _ => true) = none → exec (.regWrite o r) s = .next ((u.writeRegs ws).answered 0xC1 o r x) :=
  fun hb => congrArg Host.Outcome.next (serve_answered h ((regWrite_act u o r).trans (performWrites_pass hb)))

section
variable {s : State} {path : RegPath} {a : Nat} {ws : List Word}

/-- A register write that nothing bars, by its values (20 R486, R489). -/
theorem execRegisterWrite_allowed (hh : s.boot.held = false)
    (hp : path = .responder → s.boot.responder = true ∧ touchesFw (regWrites a ws) = false) (ha : a % 4 = 0)
    (hw : a + 4 * ws.length ≤ 0x100000) (hb : s.badWrite (regWrites a ws) (fun _ => true) = none) :
    exec (.registerWrite path a ws) s =
      .next (if path = .responder then (s.writeRegs (regWrites a ws)).bumpGen else s.writeRegs (regWrites a ws)) := by
  have hbar : (path == .responder && (!s.boot.responder || touchesFw (regWrites a ws))) = false := by
    cases path with
    | bar0 => rfl
    | responder =>
      obtain ⟨hr, hf⟩ := hp rfl
      simp [hr, hf]
  have hspan : (regSpan a ws.length).isSome = false := by simp [regSpan, need, ha, hw]
  change execRegisterWrite path a ws s = _
  unfold execRegisterWrite
  extract_lets w barred
  rw [if_neg (by simp only [hh, hspan, barred, w, hbar]; decide), hb]

/-- A register write that a hold, the list of the responder or its span bars. -/
theorem execRegisterWrite_barred
    (h : s.boot.held = true ∨ (path = .responder ∧ touchesFw (regWrites a ws) = true) ∨
      (regSpan a ws.length).isSome = true) : exec (.registerWrite path a ws) s = .next s := by
  change execRegisterWrite path a ws s = _
  unfold execRegisterWrite
  extract_lets w barred
  refine congrArg Host.Outcome.next (if_pos ?_)
  rcases h with h | ⟨rfl, h⟩ | h
  · exact .inl h
  · exact .inr (.inl (by simp [barred, w, h]))
  · exact .inr (.inr h)

/-- A value that fails leaves every register. -/
theorem execRegisterWrite_bad {i st : Nat} (h : s.badWrite (regWrites a ws) (fun _ => true) = some (i, st))
    (hst : st ≠ ADM_REFUSED) : exec (.registerWrite path a ws) s = .next s := by
  change execRegisterWrite path a ws s = _
  unfold execRegisterWrite
  extract_lets w barred
  refine congrArg Host.Outcome.next ?_
  rw [h]
  exact (if_congr Iff.rfl rfl (if_neg hst)).trans (ite_self s)
end

/-! Scratch registers (20 R484): all their bits are RW. -/

theorem regDesc_scratch {n : Nat} (h : n < 4) :
    (regDesc (GLB_SCRATCH n)).map (fun d => (d.rw, d.w1c, d.w1s)) = some (0xFFFFFFFF, 0, 0) := by
  revert n
  decide

theorem takenBits_scratch (s : State) {n : Nat} (h : n < 4) : s.takenBits (GLB_SCRATCH n) = 0xFFFFFFFF := by
  have hd := regDesc_scratch h
  have hi : inst (GLB_SCRATCH n) (WFD_CAP_CFG 0) 16 64 = none := if_neg fun hc => by
    have := hc.1
    simp only [WFD_CAP_CFG, WFD_CAP, GLB_SCRATCH] at this
    omega
  rw [Option.map_eq_some_iff] at hd
  obtain ⟨d, hd, hbits⟩ := hd
  simp only [State.takenBits, hd, hi]
  rw [show d.rw = 0xFFFFFFFF from congrArg Prod.fst hbits]
  rfl

/-- A write of a scratch register stores its word, and starts nothing. -/
theorem writeRegs_scratch (s : State) {n : Nat} (h : n < 4) (w : Word) :
    s.writeRegs [(GLB_SCRATCH n, w)] = s.setReg (GLB_SCRATCH n) w := by
  obtain ⟨d, hd, hbits⟩ := Option.map_eq_some_iff.mp (regDesc_scratch h)
  have hw1c : d.w1c = 0 := congrArg (fun x => x.2.1) hbits
  have hw1s : d.w1s = 0 := congrArg (fun x => x.2.2) hbits
  have hblock : GLB_SCRATCH n / 0x10000 = 0 := by simp only [GLB_SCRATCH]; omega
  have hport : GLB_SCRATCH n ≠ GLB_CMD_UDP_PORT := by simp only [GLB_SCRATCH, GLB_CMD_UDP_PORT]; omega
  have hpoke : s.poke (GLB_SCRATCH n, w) = s.setReg (GLB_SCRATCH n) w := by
    rw [State.poke, takenBits_scratch s h]
    refine (if_neg (by decide)).trans (congrArg _ ?_)
    exact (congrArg₂ (· ||| ·) BitVec.and_zero BitVec.and_allOnes).trans BitVec.zero_or
  have hclear (t : State) : t.clearLatched (GLB_SCRATCH n, w) = t := by
    simp only [State.clearLatched, hd, hw1c, true_or, if_true]
  have heffect (t : State) : s.regEffect t (GLB_SCRATCH n, w) = t := by
    simp only [State.regEffect, hblock]
    exact if_neg fun hc => hport hc.1
  have hstart (t : State) : t.startAction (GLB_SCRATCH n, w) = t := by
    simp only [State.startAction, hd, hw1s, Nat.and_zero, if_true]
  simp only [State.writeRegs, State.tentative, List.foldl_cons, List.foldl_nil, hpoke, hclear, heffect, hstart]

/-- Every value passes for a scratch register. -/
theorem badWrite_scratch (s : State) {n : Nat} (h : n < 4) (w : Word) :
    s.badWrite [(GLB_SCRATCH n, w)] (fun _ => true) = none := by
  have hblock : GLB_SCRATCH n / 0x10000 = 0 := by simp only [GLB_SCRATCH]; omega
  have hport : GLB_SCRATCH n ≠ GLB_CMD_UDP_PORT := by simp only [GLB_SCRATCH, GLB_CMD_UDP_PORT]; omega
  have hrule (t : State) : s.regRule t (GLB_SCRATCH n) w.toNat = OK := by
    simp only [State.regRule, hblock]
    exact if_neg hport
  simp [State.badWrite, List.zipIdx, hrule]

/-- Settles O43: each row by whether its values pass; a scratch register takes every word. -/
theorem registerAccessCompletes : Obligations.RegisterAccessCompletes := by
  unfold Obligations.RegisterAccessCompletes
  refine ⟨fun s u o r x h => regRead_answers h, fun s u o r x h => ⟨regWrite_writes h, fun i st hb hst => ?_⟩,
    fun s u o r x h => ?_, fun s u o r x i st h => ?_, fun s path a ws hh ha hw hb => ⟨?_, ?_⟩,
    fun s path a ws h => ?_, fun s n w hn hh => ?_⟩
  · exact congrArg Host.Outcome.next (serve_answeredRefusal h ((regWrite_act u o r).trans (performWrites_fail hb hst)))
  · intro a w v hb
    exact congrArg Host.Outcome.next (serve_answered h ((regModify_act u o r).trans (performWrites_pass hb)))
  · intro a w v hb hst
    refine congrArg Host.Outcome.next (serve_answeredRefusal h ((regModify_act u o r).trans ((performWrites_fail hb hst).trans ?_)))
    exact congrArg (fun d => v.refuse st d) (if_congr Iff.rfl rfl (if_neg hst))
  · rintro rfl
    exact execRegisterWrite_allowed hh nofun ha hw hb
  · rintro rfl hr hf
    exact execRegisterWrite_allowed hh (fun _ => ⟨hr, hf⟩) ha hw hb
  · rcases h with h | h | h | ⟨i, st, h, hst⟩
    · exact execRegisterWrite_barred (.inl h)
    · exact execRegisterWrite_barred (.inr (.inr (by simp [regSpan, need, h])))
    · exact execRegisterWrite_barred (.inr (.inr (by simp [regSpan, need, h])))
    · exact execRegisterWrite_bad h hst
  · have hexec : exec (.registerWrite .bar0 (GLB_SCRATCH n) [w]) s = .next (s.setReg (GLB_SCRATCH n) w) := by
      rw [← writeRegs_scratch s hn w]
      refine execRegisterWrite_allowed hh nofun ?_ ?_ (badWrite_scratch s hn w)
      · simp only [GLB_SCRATCH]; omega
      · simp only [GLB_SCRATCH, List.length_singleton]; omega
    exact ⟨_, hexec, reg_setReg_self s _ w, setReg_keepsRegs s _ w, setReg_keeps s _ w⟩

/-! What the responder may not write (20 R489). -/

theorem fwOnly_of_listed {a : Nat}
    (h : a ∈ [ADM_AMBIENT, ADM_STAGE_SIZE, ADM_STAGE_BASE_LO, ADM_STAGE_BASE_HI, THM_CFG, EMT_MATRIX_CFG,
        EMT_MATRIX_LINES_A, EMT_MATRIX_LINES_K, EMT_MATRIX_WMAX, IFL_CFG] ∨
      (∃ i, i < 8 ∧ (a = THM_STEP_TAB i ∨ a = EMT_FIRE_MODE i)) ∨
      (∃ g, g < 4 ∧ (a = EMT_BUDGET_RATED g ∨ a = EMT_BUDGET_REFILL g ∨ a = EMT_BUDGET_OVERDRIVE g ∨
        a = EMT_COMP_SEL g ∨ a = OUT_ETH_CFG g)) ∨
      (∃ g, g < 64 ∧ a = HCH_WALK_SEL g) ∨ (∃ n, n < 24 ∧ a = HKA_USER_SEL n) ∨ ∃ n, n < 16 ∧ a = OUT_DRING_CFG n) :
    fwOnly a = true := by
  have h8 : ∀ i, i < 8 → fwOnly (THM_STEP_TAB i) = true ∧ fwOnly (EMT_FIRE_MODE i) = true := by decide
  have h4 : ∀ g, g < 4 → fwOnly (EMT_BUDGET_RATED g) = true ∧ fwOnly (EMT_BUDGET_REFILL g) = true ∧
    fwOnly (EMT_BUDGET_OVERDRIVE g) = true ∧ fwOnly (EMT_COMP_SEL g) = true ∧ fwOnly (OUT_ETH_CFG g) = true := by decide
  have h64 : ∀ g, g < 64 → fwOnly (HCH_WALK_SEL g) = true := by decide
  have h24 : ∀ n, n < 24 → fwOnly (HKA_USER_SEL n) = true := by decide
  have h16 : ∀ n, n < 16 → fwOnly (OUT_DRING_CFG n) = true := by decide
  rcases h with h | ⟨i, hi, h⟩ | ⟨g, hg, h⟩ | ⟨g, hg, rfl⟩ | ⟨n, hn, rfl⟩ | ⟨n, hn, rfl⟩
  · have hall : ∀ b ∈ [ADM_AMBIENT, ADM_STAGE_SIZE, ADM_STAGE_BASE_LO, ADM_STAGE_BASE_HI, THM_CFG, EMT_MATRIX_CFG,
        EMT_MATRIX_LINES_A, EMT_MATRIX_LINES_K, EMT_MATRIX_WMAX, IFL_CFG], fwOnly b = true := by decide
    exact hall a h
  · obtain ⟨ht, hf⟩ := h8 i hi
    rcases h with rfl | rfl <;> assumption
  · obtain ⟨h1, h2, h3, h4, h5⟩ := h4 g hg
    rcases h with rfl | rfl | rfl | rfl | rfl <;> assumption
  · exact h64 g hg
  · exact h24 n hn
  · exact h16 n hn

theorem touchesFw_of_mem {ws : List RegWrite} {w : RegWrite} (hw : w ∈ ws) (h : fwOnly w.1 = true) :
    touchesFw ws = true := List.any_eq_true.mpr ⟨w, hw, h⟩

/-- A packet that the responder executes, with a sound class, length and flags, and that touches a register which only
firmware writes. -/
theorem serve_barred {s u : State} {op : OpSpec} {o : Origin} {r : Request} {x : Nat}
    (h : s.arrived op.opcode o r = some (u, x)) (hby : u.byResponder o = true) (hop : op.responder = true)
    (hknown : op.known = true) (hunit : familyUnit op.opcode = none) (hfam : (op.opcode / 16 != 0xA) = true)
    (hcls : r.cls.toNat % 16 ≤ 3) (hlen : op.lengthOk r.payload = true) (hflag : bit r.flags.toNat 5 = false)
    (hbar : op.barred r.payload = true) : s.serve op o r = u.answeredRefusal op.opcode o r x FW_ABSENT 0 := by
  have hchecks : u.opChecks op o (r.packet op.opcode) = some (FW_ABSENT, 0) := by
    have hc : (r.packet op.opcode).cls.toNat % 16 ≤ 3 := hcls
    have hf : bit (r.packet op.opcode).flags.toNat 5 = false := hflag
    simp [State.opChecks, need, firstFail, hop, hknown, hunit, hfam, hc, hlen, hf, hby, hbar]
  rw [serve_turnedDown (x := (FW_ABSENT, 0)) h (by rw [hchecks]; rfl)]
  exact congrArg (State.answeredRefusal · op.opcode o r x FW_ABSENT 0) (if_neg fun hc => absurd hc.1 (by decide))

/-- A packet that the responder accepts touches no register which only firmware writes. -/
theorem not_barred_of_accepted {s u : State} {op : OpSpec} {o : Origin} {r : Request} {x : Nat}
    (h : s.accepted op o r = some (u, x)) (hby : u.byResponder o = true) : op.barred r.payload = false := by
  unfold State.accepted at h
  split at h
  · cases h
  · split at h
    · cases h
    next hc =>
      cases h
      have hall : u.opChecks op o (r.packet op.opcode) = none := firstFail_eq_none.mp hc _ (by simp)
      have hops := firstFail_eq_none.mp hall (need (!u.byResponder o || !op.barred r.payload) FW_ABSENT) (by simp)
      cases hb : op.barred r.payload with
      | false => rfl
      | true => simp [hby, hb, need] at hops

/-- Settles O44: a register of the list is one that only firmware writes, and a packet that touches one fails the check
before its values. -/
theorem responderRefusesFirmwareRegisters : Obligations.ResponderRefusesFirmwareRegisters := by
  unfold Obligations.ResponderRefusesFirmwareRegisters
  intro listed
  have hlisted {a : Nat} (h : listed a) : fwOnly a = true := fwOnly_of_listed h
  refine ⟨fun s u o r x h _ => regRead_answers h, fun s u o r x h hby hcls hlen hflag ⟨w, hw, hl⟩ => ?_,
    fun s u o r x h hby => ⟨fun w hw hl => ?_, regWrite_writes h⟩, fun s u o r x h hby hcls hlen hflag hl => ?_,
    fun s u o r x h hby hcls hlen hflag hzero ⟨w, hw, hl⟩ => ?_, fun s a ws hr ⟨w, hw, hl⟩ => ?_⟩
  · exact congrArg Host.Outcome.next (serve_barred (op := regWriteOp) h hby rfl rfl rfl rfl hcls hlen hflag
      (touchesFw_of_mem hw (hlisted hl)))
  · have hfree : touchesFw _ = false := not_barred_of_accepted h hby
    rw [touchesFw_of_mem hw (hlisted hl)] at hfree
    cases hfree
  · exact congrArg Host.Outcome.next (serve_barred (op := regModifyOp) h hby rfl rfl rfl rfl hcls
      (beq_iff_eq.mpr hlen) hflag (hlisted hl))
  · refine congrArg Host.Outcome.next (serve_barred (op := memWriteOp) h hby rfl rfl rfl rfl hcls
      (decide_eq_true hlen) hflag ?_)
    exact (Bool.and_eq_true _ _).mpr ⟨beq_iff_eq.mpr hzero, touchesFw_of_mem hw (hlisted hl)⟩
  · exact execRegisterWrite_barred (.inr (.inl ⟨rfl, touchesFw_of_mem hw (hlisted hl)⟩))

end Sys2Proof.Machine

namespace Sys2Proof.Machine

/-! Writes of the flash (19 R469). -/

/-- The flash of a write, once the sector that it begins has been erased. -/
def State.sectorErased (s : State) (off : Nat) : List (Nat × Byte) :=
  if off % 65536 = 0 then Sparse.clear s.boot.flash off 65536 else s.boot.flash

theorem get_sectorErased (s : State) (off a : Nat) : Sparse.get erased (s.sectorErased off) a =
    if off % 65536 = 0 ∧ off ≤ a ∧ a < off + 65536 then 0xFF else Sparse.get erased s.boot.flash a := by
  unfold State.sectorErased
  by_cases h : off % 65536 = 0
  · rw [if_pos h, Sparse.get_clear]
    exact if_congr (by simp [h]) rfl rfl
  · rw [if_neg h, if_neg fun hc => h hc.1]

theorem flashWrite_flash_eq (s : State) (off : Nat) (d : List Byte) :
    (s.flashWrite off d).boot.flash = Sparse.setMany erased (s.sectorErased off) off
      ((List.range d.length).map fun i => Sparse.get erased (s.sectorErased off) (off + i) &&& nth d i 0xFF) := rfl

theorem get_flashWrite_in (s : State) (off : Nat) (d : List Byte) {i : Nat} (h : i < d.length) :
    Sparse.get erased (s.flashWrite off d).boot.flash (off + i) =
      if off % 65536 = 0 ∧ i < 65536 then nth d i 0 else Sparse.get erased s.boot.flash (off + i) &&& nth d i 0 := by
  have hnth : nth d i 0xFF = nth d i 0 := by
    rw [nth, nth, List.getD_eq_getElem _ _ h, List.getD_eq_getElem _ _ h]
  rw [flashWrite_flash_eq, Sparse.get_setMany_in _ _ _ _ (by simpa using h), List.getElem_map, List.getElem_range,
    get_sectorErased, hnth]
  by_cases hc : off % 65536 = 0 ∧ i < 65536
  · rw [if_pos hc, if_pos ⟨hc.1, Nat.le_add_right off i, Nat.add_lt_add_left hc.2 off⟩]
    exact BitVec.allOnes_and
  · rw [if_neg hc, if_neg fun hs => hc ⟨hs.1, Nat.lt_of_add_lt_add_left hs.2.2⟩]

theorem get_flashWrite_out (s : State) (off : Nat) (d : List Byte) {a : Nat} (h : a < off ∨ off + d.length ≤ a) :
    Sparse.get erased (s.flashWrite off d).boot.flash a =
      if off % 65536 = 0 ∧ off ≤ a ∧ a < off + 65536 then 0xFF else Sparse.get erased s.boot.flash a := by
  rw [flashWrite_flash_eq, Sparse.get_setMany_out _ _ _ _ (by simpa using h), get_sectorErased]

/-! FW_ACTIVATE_DONE (19 R469; 17 R424). -/

/-- The standby pair takes over with the firmware of a slot. -/
theorem switchTo_spec (s : State) (slot : Nat) : let t := s.switchTo slot
    t.boot.slot = slot ∧ t.boot.activate = none ∧ t.rep.active = 1 - s.rep.active ∧ t.rep.standby = s.rep.standby ∧
      s.keeps t backgroundParts := by
  obtain ⟨⟨hback, hcore⟩, -, hact, -⟩ := endBackground_spec s
  obtain ⟨hreplay, hrcore, -⟩ := replay_spec s.endBackground
  have hsu : s.keeps s.endBackground.replay backgroundParts := .after hreplay rfl hback
  have hboot : s.endBackground.replay.boot = s.endBackground.boot := hreplay .boot (by decide)
  unfold State.switchTo
  extract_lets u pk rep boot v
  have hu : u.rep.core = s.rep.core := hrcore.trans hcore
  have huact : u.boot.activate = none := (congrArg Boot.activate hboot).trans hact
  have hsu : s.keeps u backgroundParts := hsu
  clear_value u
  have huv : u.keeps v [.pk, .rep, .boot] := by
    intro p hp
    cases p with
    | pk => simp at hp
    | rep => simp at hp
    | boot => simp at hp
    | _ => rfl
  refine ⟨rfl, huact, congrArg (1 - ·) (congrArg Repair.active hu :), (congrArg Repair.standby hu :), ?_⟩
  exact .after (setRegN_keeps v _ _) rfl (.after huv rfl hsu)

theorem writeHeaders_keeps (s : State) (slot : Nat) : s.keeps (s.writeHeaders slot) [.boot] := keeps_boot s _

theorem flashStore_boot (s : State) (off size : Nat) (d : List Byte) :
    (s.flashStore off size d).boot = { s.boot with flash := (s.flashStore off size d).boot.flash } := rfl

theorem writeHeaders_boot (s : State) (slot : Nat) :
    (s.writeHeaders slot).boot = { s.boot with flash := (s.writeHeaders slot).boot.flash } := flashStore_boot s _ _ _

/-- No activation waits any more. -/
def State.deactivated (s : State) : State := { s with boot.activate := none }

theorem slotValid_deactivated (s : State) (slot : Nat) : s.deactivated.slotValid slot = s.slotValid slot :=
  slotValid_congr rfl slot

/-- An activation by whether a standby pair and a valid slot are there. -/
theorem execFwActivateDone_some {s : State} {slot : Nat} {o : Origin} {q : Half}
    (h : s.boot.activate = some (slot, o, q)) : exec .fwActivateDone s =
      .next (if s.rep.standby = false ∨ s.slotValid slot = false then s.deactivated.complete (o, q) IMAGE_INVALID 0xF
        else (((s.deactivated.switchTo slot).slotRegs.writeHeaders slot).interruption).complete (o, q) OK 0xF) := by
  change execFwActivateDone s = _
  unfold execFwActivateDone
  rw [h, ← slotValid_deactivated]
  exact congrArg Host.Outcome.next (if_congr (by simp [State.deactivated]) rfl rfl)

/-- What an activation that takes effect leaves. -/
theorem activated_spec (s : State) (slot : Nat) (o : Origin) (q : Half) :
    let t := (((s.deactivated.switchTo slot).slotRegs.writeHeaders slot).interruption).complete (o, q) OK 0xF
    t.boot.slot = slot ∧ t.rep.active = 1 - s.rep.active ∧ t.rep.standby = s.rep.standby ∧ t.boot.activate = none ∧
      s.keeps t backgroundParts := by
  obtain ⟨hslot, hact, hactive, hstandby, hkeep⟩ := switchTo_spec s.deactivated slot
  generalize s.deactivated.switchTo slot = u at hslot hact hactive hstandby hkeep
  have hregs : u.keeps u.slotRegs [.regs] := slotRegs_keeps u
  generalize u.slotRegs = v at hregs
  have hvw : v.keeps (v.writeHeaders slot) [.boot] := writeHeaders_keeps v slot
  have hboot := writeHeaders_boot v slot
  generalize v.writeHeaders slot = w at hvw hboot
  have hint : w.keeps w.interruption [.regs, .adm] := interruption_keeps w
  have hend := complete_keeps w.interruption (o, q) OK 0xF []
  have hwb : w.boot = { u.boot with flash := w.boot.flash } := by rw [hboot, hregs .boot (by decide)]
  have htb : (w.interruption.complete (o, q) OK 0xF).boot = w.boot :=
    (hend .boot (by decide)).trans (hint .boot (by decide))
  have htr : (w.interruption.complete (o, q) OK 0xF).rep = u.rep :=
    (hend .rep (by decide)).trans ((hint .rep (by decide)).trans ((hvw .rep (by decide)).trans (hregs .rep (by decide))))
  have hsu : s.keeps u backgroundParts := .trans (.first (keeps_boot s _) rfl) hkeep
  rw [← htb] at hwb
  refine ⟨(congrArg Boot.slot hwb :).trans hslot, (congrArg Repair.active htr).trans hactive,
    (congrArg Repair.standby htr).trans hstandby, (congrArg Boot.activate hwb :).trans hact, ?_⟩
  exact .after hend rfl (.after hint rfl (.after hvw rfl (.after hregs rfl hsu)))

/-- Settles O53: a write reads back by the rules of the sparse store; each packet's effect stands behind its checks. -/
theorem flashCommandsComplete : Obligations.FlashCommandsComplete := by
  unfold Obligations.FlashCommandsComplete
  refine ⟨fun s u o r x h => ?_, fun s off d => ?_, fun s u o r x h => congrArg Host.Outcome.next (serve_answered h rfl),
    fun s u o r x h => ⟨fun hs hn => ?_, fun hs hn => ?_, fun hs => ?_⟩, fun s h => ?_, fun s slot o q h => ?_⟩
  · intro off d
    refine ⟨fun hok => congrArg Host.Outcome.next (serve_answered h ?_),
      fun hby hbar => congrArg Host.Outcome.next (serve_answeredRefusal h ?_)⟩ <;>
      simp only [fwWriteOp, payload_packet]
    · rw [doneIf_pass (by simpa only [Bool.or_eq_true, Bool.not_eq_true'] using hok), doneIf_nil]
    · exact doneIf_fail (by rw [hby, show u.flashBarred _ _ = true from hbar]; rfl)
  · intro t
    exact ⟨fun i hi => get_flashWrite_in s off d hi, fun a ha => get_flashWrite_out s off d ha, rfl, keeps_boot s _⟩
  · refine congrArg Host.Outcome.next (serve_answeredAccepted h ?_)
    simp only [fwActivateOp, payload_packet, sequence_packet]
    rw [doneIf_pass (by simp [hs]), doneIf_pass (by simp [hn]), doneIf_nil]
  · refine congrArg Host.Outcome.next (serve_answeredRefusal h ?_)
    simp only [fwActivateOp]
    rw [doneIf_pass (by simp [hs])]
    exact doneIf_fail (Option.isNone_eq_false_iff.mpr (Option.isSome_iff_ne_none.mpr hn))
  · refine congrArg Host.Outcome.next (serve_answeredRefusal h ?_)
    simp only [fwActivateOp]
    exact doneIf_fail (by simp [hs])
  · change execFwActivateDone s = _
    rw [execFwActivateDone, h]
  · refine ⟨fun hs hv => ?_, fun hf => ?_⟩
    · obtain ⟨hslot, hactive, hstandby, hact, hkeep⟩ := activated_spec s slot o q
      have hexec := execFwActivateDone_some h
      rw [if_neg (by simp [hs, hv])] at hexec
      exact ⟨_, hexec, hslot, hactive, hstandby.trans hs, hact, hkeep.mono (by decide)⟩
    · have hc := complete_keeps_undrawn s.deactivated (o, q) IMAGE_INVALID 0xF []
      have hd : s.keeps s.deactivated [.boot] := keeps_boot s _
      refine ⟨_, (execFwActivateDone_some h).trans (by rw [if_pos hf]), hc .boot (by decide),
        (hc .rep (by decide)).trans (hd .rep (by decide)), ?_, .after hc rfl (.first hd rfl)⟩
      exact (keepsRegs_of_regs (hd .regs (by decide)) _).trans (complete_keepsRegs s.deactivated (o, q) _ _ _)

end Sys2Proof.Machine

namespace Sys2Proof.Machine

/-! Control blocks (18 R442, R450 to R453). -/

/-- A control block joins those that wait, and no other part of the tree changes. -/
theorem sendBlock_ifl (s : State) (ty v : Nat) (skip : Option Nat) :
    (s.sendBlock ty v skip).ifl = { s.ifl with blocks := (s.sendBlock ty v skip).ifl.blocks } := by
  refine List.foldlRecOn (motive := fun t : State => t.ifl = { s.ifl with blocks := t.ifl.blocks }) (List.range 4) _ rfl
    fun t ht p _ => ?_
  dsimp only
  split
  · rw [ht]
  · exact ht

section
variable {s : State}

/-- The full number is kept behind the block that goes on. -/
theorem syncFull_kept {b : State} (hb : b.ifl = { s.ifl with blocks := b.ifl.blocks }) (hk : s.keeps b [.ifl]) (n : Long) :
    let t := { b with ifl.syncFull := some n }
    t.ifl.syncFull = some n ∧ t.ifl.latest = s.ifl.latest ∧ s.keeps t [.ifl] :=
  ⟨rfl, (congrArg Tree.latest hb :), hk.trans (keeps_ifl b _)⟩

/-- The entry of a program at its announced time (R451, R452). -/
def State.syncShotAt (u : State) (pid : Nat) (low26 : BitVec 26) (arr n : Long) : State :=
  match u.prog pid with
  | none => u
  | some q =>
    if ¬ q.issues then u
    else
      let p := u.plan pid q
      let at_ := nearest 48 u.tim.shot arr.toNat
      let fire := u.placed low26.toNat at_
      if ¬ seSync p.entry then u
      else if fire < 32 * (at_ + 64) then u.skipSync pid 3 IFL_SYNC_LATE 1
      else if u.seq.clockHold ∨ u.thm.shutdown then u
      else u.commitShot q { p with fire := fire, nominal := fire - 32 * p.dither } n

theorem syncShotAt_absent {u : State} {pid : Nat} (h : u.prog pid = none) (low26 : BitVec 26) (arr n : Long) :
    u.syncShotAt pid low26 arr n = u := by rw [State.syncShotAt, h]

theorem syncShotAt_commits {u : State} {pid : Nat} {q : Prog} {low26 : BitVec 26} {arr : Long}
    (hq : u.prog pid = some q) (hi : q.issues = true) (hs : seSync (u.plan pid q).entry = true)
    (hl : 32 * (nearest 48 u.tim.shot arr.toNat + 64) ≤ u.placed low26.toNat (nearest 48 u.tim.shot arr.toNat))
    (hh : u.seq.clockHold = false) (hd : u.thm.shutdown = false) (n : Long) :
    let fire := u.placed low26.toNat (nearest 48 u.tim.shot arr.toNat)
    u.syncShotAt pid low26 arr n =
      u.commitShot q { u.plan pid q with fire := fire, nominal := fire - 32 * (u.plan pid q).dither } n := by
  intro fire
  have hidle : ¬ (u.seq.clockHold = true ∨ u.thm.shutdown = true) := by simp [hh, hd]
  rw [State.syncShotAt, hq]
  dsimp only
  rw [if_neg (not_not_intro hi), if_neg (not_not_intro hs), if_neg (Nat.not_lt.mpr hl), if_neg hidle]

/-- SYNC_SHOT behind a SYNC_FULL: no entry is skipped, and the number is the full one's (R451). -/
theorem execSyncShot_full {b : State} {f n : Long} {pid : Fin 64} {low16 : Half} {low26 : BitVec 26} (hr : s.role = 2)
    (hf : s.ifl.syncFull = some f) (hnum : n = BitVec.ofNat 48 (nearest 16 f.toNat low16.toNat))
    (hsent : b = s.sendBlock 0x51 (pid.val * 2 ^ 42 + low16.toNat * 2 ^ 26 + low26.toNat) (some s.ifl.parentPort))
    (arr : Long) : exec (.syncShot pid low16 low26 arr) s =
      .next (State.syncShotAt { b with ifl.syncFull := none, ifl.latest := some n } pid low26 arr n) := by
  have hb : b.ifl.syncFull = some f := by
    rw [hsent, sendBlock_ifl]
    exact hf
  have hn : b.announcedNumber low16 = (n, true) := by rw [State.announcedNumber, hb, hnum]
  change execSyncShot pid low16 low26 arr s = _
  unfold execSyncShot
  rw [if_neg (not_not_intro hr), ← hsent]
  extract_lets b' n' gap ifl u v
  have hn' : n' = (n, true) := hn
  have hgap : gap = 0 := by
    unfold gap
    rw [hn']
    split
    · exact if_pos (.inl rfl)
    · rfl
  have hu : u = { b with ifl.syncFull := none, ifl.latest := some n } := by
    unfold u
    rw [hn']
  have hv : v = u := by
    unfold v
    rw [hgap]
    rfl
  rw [← hu]
  clear_value v n' u
  subst hv hn'
  rfl

/-- A wait's report at the manager (R453). -/
theorem execWaitReport_manager {dev : Fin 16} {tag : Half} (hr : s.role = 1)
    (hn : s.repeated dev.val tag.toNat = false) : exec (.waitReport dev tag) s =
      .next ((s.noteSeen dev.val tag.toNat).waitReported dev.val tag.toNat) := by
  have hrole : (s.noteSeen dev.val tag.toNat).role = 1 := hr
  change execWaitReport dev tag s = _
  unfold execWaitReport
  rw [if_neg (by simp [hr, hn])]
  exact congrArg Host.Outcome.next (if_pos hrole)

/-- A wait's release at a worker (R453). -/
theorem execWaitRelease_worker {tag : Half} {low : Word} (hr : s.role = 2) (hn : s.repeated 16 tag.toNat = false) :
    exec (.waitRelease tag low) s = .next (((s.noteSeen 16 tag.toNat).sendThrice 0x53 (tag.toNat * 2 ^ 32 + low.toNat)
      (some s.ifl.parentPort)).releaseTag tag.toNat (nearest 32 s.tim.shot low.toNat)) := by
  have htim : ((s.noteSeen 16 tag.toNat).sendThrice 0x53 (tag.toNat * 2 ^ 32 + low.toNat)
      (some s.ifl.parentPort)).tim = s.tim := sendThrice_keeps _ _ _ _ .tim (by decide)
  change execWaitRelease tag low s = _
  unfold execWaitRelease
  rw [if_neg (by simp [hr, hn]), ← htim]

/-! Link frames (18 R443, R454, R455, R458). -/

/-- A port of a list of ports that each change by themselves. -/
theorem port_map_tx (f : LinkPort → LinkPort) (hf : (f .reset).tx = []) (p : Nat) :
    (State.port { s with ifl.ports := s.ifl.ports.map f } p).tx = (f (s.port p)).tx := by
  simp only [State.port, nth, List.getD_eq_getElem?_getD, List.getElem?_map]
  cases s.ifl.ports[p]? with
  | none => exact hf.symm
  | some x => rfl

/-- A link frame on a JOINED port whose bytes arrive whole. -/
theorem execLinkFrame_joined {p : Fin 4} (h : (s.port p).state = 3) (kind dev : Fin 16) (sess : Byte) (seq : Half)
    (data : List Byte) : exec (.linkFrame p kind dev sess seq data true) s = .next (match kind.val with
      | 0 => s.receive (.ifl p dev sess) data
      | 1 => s.returned p 1 dev sess data
      | 2 => s.returned p 2 dev sess data
      | 3 => s.incidentFrame p dev sess seq data
      | 4 => s.recordFrame dev sess data
      | _ => s.bump (IFL_BLK_ERR p)) := by
  change execLinkFrame p kind dev sess seq data true s = _
  exact congrArg Host.Outcome.next ((if_neg (not_not_intro h)).trans (if_neg (by decide)))

/-- What comes back for another device goes on towards the manager (02 R62). -/
theorem returned_forwards {p kind dev : Nat} {sess : Byte} {data : List Byte} (hd : dev ≠ s.ifl.dev) (hr : s.role = 2)
    (hp : s.ifl.parentPort ≠ p) : s.returned p kind dev sess data = s.linkSend s.ifl.parentPort kind dev sess data := by
  have hport : s.portFor (p == s.ifl.parentPort) dev = some s.ifl.parentPort := by
    rw [State.portFor, if_pos hr, if_neg (by simpa using hp.symm)]
  rw [State.returned, if_neg hd, hport]
  exact if_neg hp

/-- A link frame that is queued leaves the control blocks. -/
theorem linkSend_blocks (port kind dev : Nat) (sess : Byte) (data : List Byte) :
    (s.linkSend port kind dev sess data).ifl.blocks = s.ifl.blocks := by
  unfold State.linkSend
  extract_lets q u
  have hu : u.ifl = s.ifl := by
    unfold u
    split
    · exact noteWrap_keeps s _ _ _ _ .ifl (by decide)
    · rfl
  exact (congrArg Tree.blocks hu :)

/-- The port acknowledges every incident frame (R458). -/
theorem incidentFrame_acknowledges (p dev : Nat) (sess : Byte) (seq : Half) (data : List Byte) :
    (p, 0x54, seq.toNat * 2 ^ 32) ∈ (s.incidentFrame p dev sess seq data).ifl.blocks := by
  unfold State.incidentFrame
  extract_lets ifl u ifl' v x
  have hu : (p, 0x54, seq.toNat * 2 ^ 32) ∈ u.ifl.blocks := List.mem_cons_self ..
  have hv : v.ifl.blocks = u.ifl.blocks := rfl
  split
  · exact hu
  · split
    · rw [linkSend_blocks, hv]
      exact hu
    · have hx : x.2.ifl = v.ifl := draw_keeps v 71 .ifl (by decide)
      rw [reportWith_keeps _ _ _ _ _ _ _ _ .ifl (by decide), hx, hv]
      exact hu

/-! Incident windows (17 R431). -/

/-- The incident that a window leaves. -/
def State.windowed (s : State) (i : Incident) : Incident :=
  { i with state := if i.ended then 2 else 1, lastT := s.sysNs }

theorem forwardIncident_keeps (i : Incident) : s.keeps (s.forwardIncident i) [.pk, .ifl] :=
  .ite (linkSend_keeps s _ _ _ _ _) (.refl s _)

/-- What the end of an incident's window leaves. -/
theorem windowClosed_spec {iseq : Word} {i : Incident}
    (h : s.rep.incidents.find? (fun i => i.iseq == iseq) = some i) (hs : i.state = 0) (ht : i.closes < s.time) :
    ∃ t, exec (.incidentWindowClose iseq) s = .next t ∧
      t.rep.incidents = s.rep.incidents.map (fun x => if x.iseq = iseq then s.windowed i else x) ∧
      s.keeps t [.rep, .pk, .regs, .drawn, .out, .ifl] := by
  obtain ⟨u, hu⟩ : ∃ u : State, u = { s with
    rep.incidents := s.rep.incidents.map fun x => if x.iseq = iseq then s.windowed i else x } := ⟨_, rfl⟩
  have hevent : u.keeps (u.incidentEvent (s.windowed i)) [.drawn, .regs, .pk, .out, .ifl] := event_keeps u _ _ _ _ _ _
  have hforward := forwardIncident_keeps (s := u.incidentEvent (s.windowed i)) (s.windowed i)
  refine ⟨(u.incidentEvent (s.windowed i)).forwardIncident (s.windowed i), ?_, ?_, ?_⟩
  · change execIncidentWindowClose iseq s = _
    unfold execIncidentWindowClose
    rw [h, hu]
    exact congrArg Host.Outcome.next (if_neg (by simp [hs, ht]))
  · rw [hforward .rep (by decide), hevent .rep (by decide), hu]
  · exact .after hforward rfl (.after hevent rfl (hu ▸ .first (keeps_rep s _) rfl))
end

/-- Settles O50: each row by its guard; what a block, a frame or a window changes stands in the lemma of its function. -/
theorem treeBlocksAndFramesComplete : Obligations.TreeBlocksAndFramesComplete := by
  unfold Obligations.TreeBlocksAndFramesComplete
  refine ⟨fun s c hr hc => ?_, fun s n hr => ⟨_, congrArg Host.Outcome.next (if_neg (not_not_intro hr)), syncFull_kept (sendBlock_ifl s _ _ _) (sendBlock_keeps s _ _ _) n⟩,
    fun s pid low16 low26 arr f hr hf => ?_, fun s dev tag => ⟨fun h => congrArg Host.Outcome.next (if_pos h), fun hr hn =>
      execWaitReport_manager hr hn⟩, fun s tag low => ⟨fun h => congrArg Host.Outcome.next (if_pos (.inr h)), fun hr hn =>
      execWaitRelease_worker hr hn⟩, fun s seq => ⟨_, rfl, keeps_ifl s _, fun p f => ?_⟩,
    fun s seq => ⟨_, rfl, keeps_ifl s _, fun p => ?_⟩, fun s p kind dev sess seq data ok h => ?_,
    fun s p kind dev sess seq data h => ⟨?_, fun hk => ?_, fun hk hd hr hp => ?_, fun hk => ?_, fun hk hr => ?_,
      fun hk => ?_⟩, fun s iseq i hi => ⟨fun h => ?_, fun hs ht => ?_⟩, fun s iseq h => ?_⟩
  case refine_1 =>
    rcases hc with ⟨n, rfl⟩ | ⟨p, a, b, t, rfl⟩ | ⟨a, b, rfl⟩
    · exact congrArg Host.Outcome.next (if_pos hr)
    · exact congrArg Host.Outcome.next (if_pos hr)
    · exact congrArg Host.Outcome.next (if_pos (.inl hr))
  case refine_2 =>
    intro n b u
    have hnum : n = BitVec.ofNat 48 (nearest 16 f.toNat low16.toNat) := rfl
    have hsent : b = s.sendBlock 0x51 (pid.val * 2 ^ 42 + low16.toNat * 2 ^ 26 + low26.toNat) (some s.ifl.parentPort) := rfl
    have hu : u = { b with ifl.syncFull := none, ifl.latest := some n } := rfl
    clear_value u b n
    have hexec := execSyncShot_full hr hf hnum hsent arr
    rw [← hu] at hexec
    refine ⟨fun hp => hexec.trans (congrArg Host.Outcome.next (syncShotAt_absent hp low26 arr n)), fun q hq hi => ?_⟩
    intro p at_ fire hs hl hh hd
    exact hexec.trans (congrArg Host.Outcome.next (syncShotAt_commits hq hi hs hl hh hd n))
  case refine_3 =>
    have htx := port_map_tx (s := s) (fun x => { x with tx := x.tx.filter fun f => f.kind != 3 || f.seq != seq }) rfl p
    rw [htx, List.mem_filter]
    simp
  case refine_4 => exact port_map_tx _ (by rfl) p
  case refine_5 => exact congrArg Host.Outcome.next (if_pos h)
  case refine_6 => exact congrArg Host.Outcome.next ((if_neg (not_not_intro h)).trans (if_pos (by decide)))
  case refine_7 => rw [execLinkFrame_joined h, hk]; rfl
  case refine_8 =>
    rw [execLinkFrame_joined h]
    rcases hk with hk | hk <;> rw [hk] <;> exact congrArg Host.Outcome.next (returned_forwards hd hr hp)
  case refine_9 =>
    rw [execLinkFrame_joined h, hk]
    exact ⟨_, rfl, incidentFrame_acknowledges p.val dev.val sess seq data⟩
  case refine_10 =>
    rw [execLinkFrame_joined h, hk]
    exact congrArg Host.Outcome.next (if_pos hr)
  case refine_11 =>
    rw [execLinkFrame_joined h]
    split
    case h_6 => rfl
    all_goals omega
  case refine_12 =>
    change execIncidentWindowClose iseq s = _
    unfold execIncidentWindowClose
    rw [hi]
    exact congrArg Host.Outcome.next (if_pos h)
  case refine_13 =>
    obtain ⟨t, hexec, hinc, hkeep⟩ := windowClosed_spec hi hs ht
    have hmem := List.mem_of_find?_eq_some hi
    have hiseq : i.iseq = iseq := by simpa using List.find?_some hi
    refine ⟨t, hexec, ⟨s.windowed i, ?_, hiseq, rfl, rfl⟩, fun j hj => ?_, hkeep⟩
    · rw [hinc, List.mem_map]
      exact ⟨i, hmem, if_pos hiseq⟩
    · rw [hinc, List.mem_map]
      constructor
      · rintro ⟨x, hx, rfl⟩
        split at hj
        · exact absurd hiseq hj
        next hne => rwa [if_neg hne]
      · exact fun hj' => ⟨j, hj', if_neg hj⟩
  case refine_14 =>
    change execIncidentWindowClose iseq s = _
    rw [execIncidentWindowClose, h]

end Sys2Proof.Machine

namespace Sys2Proof.Machine

/-! What EVENTs, reports and suspensions leave of the link (18 R441 to R448): every port but what it queues, and every
register of the tree. -/

/-- A port but for the frames that it queues. -/
def LinkPort.bare (x : LinkPort) : LinkPort := { x with tx := [] }

/-- The tree but for the frames that its ports queue and their number. -/
def Tree.bare (t : Tree) : Tree := { t with ports := t.ports.map LinkPort.bare, frameSeq := 0 }

/-- The link is the same in two states, but for the frames that wait. -/
def State.sameLink (s t : State) : Prop := t.ifl.bare = s.ifl.bare ∧ ∀ a, 0xF0000 ≤ a → t.reg a = s.reg a

namespace State.sameLink

theorem refl (s : State) : s.sameLink s := ⟨rfl, fun _ _ => rfl⟩

theorem trans {s t u : State} (h : s.sameLink t) (g : t.sameLink u) : s.sameLink u :=
  ⟨g.1.trans h.1, fun a ha => (g.2 a ha).trans (h.2 a ha)⟩

theorem ite {s t u : State} {c : Prop} [Decidable c] (ht : s.sameLink t) (hu : s.sameLink u) :
    s.sameLink (if c then t else u) := by
  split
  exacts [ht, hu]

theorem foldl {α : Type} {f : State → α → State} : ∀ (xs : List α) (s : State),
    (∀ (t : State) x, x ∈ xs → t.sameLink (f t x)) → s.sameLink (xs.foldl f s)
  | [], s, _ => refl s
  | x :: xs, s, h => (h s x List.mem_cons_self).trans (foldl xs (f s x) fun t y hy => h t y (List.mem_cons_of_mem x hy))

/-- A change of other parts, and of registers below the tree's. -/
theorem of {s t : State} {l : List Part} {m : List Nat} (h : s.keeps t l) (g : s.keepsRegs t m) (hl : Part.ifl ∉ l)
    (hm : (m.all fun a => decide (a < 0xF0000)) = true) : s.sameLink t := by
  refine ⟨congrArg Tree.bare (h .ifl hl), fun a ha => g a fun hmem => ?_⟩
  have := of_decide_eq_true (List.all_eq_true.mp hm a hmem)
  omega

/-- A change of other parts than the tree and the registers. -/
theorem of_keeps {s t : State} {l : List Part} (h : s.keeps t l) (hl : Part.ifl ∉ l) (hr : Part.regs ∉ l) :
    s.sameLink t := ⟨congrArg Tree.bare (h .ifl hl), fun a _ => reg_congr (h .regs hr) a⟩

theorem setRegN (s : State) {a : Nat} (v : Nat) (h : a < 0xF0000) : s.sameLink (s.setRegN a v) :=
  ⟨congrArg Tree.bare (setRegN_keeps s a v .ifl (by decide)), fun b hb => reg_setReg_other s _ (by omega)⟩

/-! What the same link says of a port. -/

variable {s t : State} (h : s.sameLink t)
include h

theorem port (p : Nat) : (t.port p).bare = (s.port p).bare := by
  have hports : t.ifl.ports.map LinkPort.bare = s.ifl.ports.map LinkPort.bare := congrArg Tree.ports h.1
  have hp := congrArg (fun l => l.getD p LinkPort.reset.bare) hports
  simp only [List.getD_map] at hp
  exact hp

theorem length : t.ifl.ports.length = s.ifl.ports.length := by
  simpa [Tree.bare] using congrArg (fun x => x.ports.length) h.1

theorem role : t.role = s.role := fld_congr (h.2 IFL_CFG (by decide)) 31 30

theorem averaged : t.averaged = s.averaged := congrArg (2 ^ ·) (fld_congr (h.2 IFL_CFG (by decide)) 23 20)

theorem state (p : Nat) : (t.port p).state = (s.port p).state := (congrArg LinkPort.state (h.port p) :)
theorem locked (p : Nat) : (t.port p).locked = (s.port p).locked := (congrArg LinkPort.locked (h.port p) :)
theorem count (p : Nat) : (t.port p).count = (s.port p).count := (congrArg LinkPort.count (h.port p) :)
theorem peer (p : Nat) : (t.port p).peer = (s.port p).peer := (congrArg LinkPort.peer (h.port p) :)
theorem isParent (p : Nat) : (t.port p).parent = (s.port p).parent := (congrArg LinkPort.parent (h.port p) :)
theorem dev : t.ifl.dev = s.ifl.dev := (congrArg Tree.dev h.1 :)
theorem parentPort : t.ifl.parentPort = s.ifl.parentPort := (congrArg Tree.parentPort h.1 :)
theorem parentWarm : t.ifl.parentWarm = s.ifl.parentWarm := (congrArg Tree.parentWarm h.1 :)
theorem joining : t.ifl.joining = s.ifl.joining := (congrArg Tree.joining h.1 :)
theorem slipped : t.ifl.slipped = s.ifl.slipped := (congrArg Tree.slipped h.1 :)
theorem resync : t.ifl.resync = s.ifl.resync := (congrArg Tree.resync h.1 :)

end State.sameLink

section
variable (s : State)

theorem linkSend_sameLink (port kind dev : Nat) (sess : Byte) (data : List Byte) :
    s.sameLink (s.linkSend port kind dev sess data) := by
  unfold State.linkSend
  extract_lets q u ifl
  have hu : s.sameLink u := .ite (.of_keeps (noteWrap_keeps s _ _ _ _) (by decide) (by decide)) (.refl s)
  refine hu.trans ⟨?_, fun _ _ => rfl⟩
  refine congrArg (fun l => ({ u.ifl with ports := l, frameSeq := 0 } : Tree)) (map_upd_of_eq (g := LinkPort.bare) ?_ _ _)
  exact fun _ => rfl

theorem sendTo_sameLink (o : Origin) (d : Nat) (p : Packet) : s.sameLink (s.sendTo o d p) := by
  cases o
  case ifl => exact linkSend_sameLink s _ _ _ _ _
  all_goals exact ⟨rfl, fun _ _ => rfl⟩

theorem event_sameLink (code cls unit : Nat) (l : List Byte) (w : Option (Origin × Half)) (d : Option Nat) :
    s.sameLink (s.event code cls unit l w d) := by
  unfold State.event
  extract_lets chosen u old seq pl p dests pk u1 u2 u3
  have hu : s.sameLink u := .ite (.refl s) (.of_keeps (draw_keeps s 8) (by decide) (by decide))
  have h1 : u.sameLink u1 := .of_keeps (keeps_pk u _) (by decide) (by decide)
  have h2 : u1.sameLink u2 := .of (setReg_keeps u1 _ _) (setReg_keepsRegs u1 _ _) (by decide) (by decide)
  have h3 : u2.sameLink u3 := .ite (.of_keeps (noteWrap_keeps u2 _ _ _ _) (by decide) (by decide)) (.refl u2)
  exact (hu.trans (h1.trans (h2.trans h3))).trans (.foldl _ u3 fun t o _ => sendTo_sameLink t o _ _)

theorem complete_sameLink (w : Origin × Half) (code unit : Nat) : s.sameLink (s.complete w code unit) :=
  event_sameLink s _ _ _ _ _ _

theorem openEvent_sameLink (cls unit : Nat) (l : Option (List Byte)) : s.sameLink (s.openEvent cls unit l) := by
  have hd (t : State) (n : Nat) : t.sameLink (t.draw n).2 := .of_keeps (draw_keeps t n) (by decide) (by decide)
  cases l with
  | none => exact ((hd s 5).trans (hd _ 6)).trans (event_sameLink _ _ _ _ _ _ _)
  | some l => exact (hd s 5).trans (event_sameLink _ _ _ _ _ _ _)

theorem endCause_sameLink (key : Word) : s.sameLink (s.endCause key) := by
  unfold State.endCause
  extract_lets act rep u
  exact .trans (.of_keeps (keeps_rep s u.rep) (by decide) (by decide)) (.foldl _ u fun t i _ => event_sameLink t _ _ _ _ _ _)

theorem report_sameLink (key : Word) (b i : Nat) (ended : Bool) : s.sameLink (s.report key b i ended) :=
  .of (report_keeps s _ _ _ _) (report_keepsRegs s _ _ _ _) (by decide) (by decide)

theorem latch_sameLink {a : Nat} (m : Nat) (h : a < 0xF0000) : s.sameLink (s.latch a m) :=
  .of (latch_keeps s a m) (latch_keepsRegs s a m) (by decide) (by simpa using h)

/-! Suspensions (03 R522; 11 R292). -/

theorem suspend_sameLink (p cause : Nat) (out : Bool) : s.sameLink (s.suspend p cause out) := by
  have hprog (t : State) (f : Prog → Prog) : t.sameLink (t.setProg p f) :=
    .of_keeps (setProg_keeps t p f) (by decide) (by decide)
  have hend : s.sameLink (s.endGroups p) := .of_keeps (endGroups_keeps s p) (by decide) (by decide)
  unfold State.suspend
  split
  · exact .refl s
  · exact .ite (hprog s _) (((hend.trans (hprog _ _)).trans (latch_sameLink _ _ (by decide))).trans
      (event_sameLink _ _ _ _ _ _ _))

theorem suspendAll_sameLink (cond : Prog → Bool) (cause : Nat) (out : Bool) :
    s.sameLink (s.suspendAll cond cause out) := .foldl _ s fun t _ _ => suspend_sameLink t _ _ _

theorem postShares_sameLink : s.sameLink s.postShares := by
  refine .trans (.trans (.foldl _ s fun t c hc => .setRegN t _ ?_) (.setRegN _ _ (by decide)))
    (.foldl _ _ fun t e he => .setRegN t _ ?_)
  · have hall : ∀ c ∈ capacityCodes, ADM_SHARE c < 0xF0000 := by decide
    exact hall c hc
  · have := List.mem_range.mp he
    simp only [HEN_WCET]
    omega

theorem readmit_sameLink : s.sameLink s.readmit := by
  unfold State.readmit
  extract_lets order keep t
  have ht : s.sameLink t := .ite (.refl s) (latch_sameLink s _ (by decide))
  exact (ht.trans (.foldl _ _ fun u _ _ => suspend_sameLink u _ _ _)).trans (postShares_sameLink _)

theorem settleFrees_sameLink (gone : List Rec) : s.sameLink (s.settleFrees gone) := by
  refine .foldl _ s fun t x _ => ?_
  split
  · exact .refl t
  next hc =>
    have hu : x.1 < 16 := by
      by_contra hn
      exact hc (by simp [Nat.le_of_not_lt hn])
    refine .setRegN t _ ?_
    simp only [WFD_CAP_AREA_FREE, WFD_CAP]
    omega

/-- What a stream of a program has staged is dropped. -/
theorem dropStaged_sameLink {pid : Nat} (h : pid < 64) : s.sameLink (s.dropStaged pid) := by
  have hstream (t : State) (f : Stream → Stream) : t.sameLink (t.setStream pid f) :=
    .of_keeps (setStream_keeps t pid f) (by decide) (by decide)
  have hlost (t : State) (n : Nat) : t.sameLink (t.bumpBy (OUT_STREAM_LOST pid) n) := by
    refine .of (bumpBy_keeps t _ n) (bumpBy_keepsRegs t _ n) (by decide) ?_
    simp only [List.all_cons, List.all_nil, Bool.and_true, decide_eq_true_eq, OUT_STREAM_LOST]
    omega
  have hlose (t : State) (n : Nat) : t.sameLink (t.loseRecs pid n) :=
    .ite (.refl t) (((hstream t _).trans (hlost _ n)).trans (latch_sameLink _ _ (by decide)))
  exact ((hstream s _).trans (hlose _ _)).trans (settleFrees_sameLink _ _)

theorem mem_present_lt {x : Nat × Prog} (h : x ∈ s.present) : x.1 < 64 := by
  obtain ⟨⟨p, i⟩, hy, hx⟩ := List.mem_filterMap.mp h
  have hi := List.snd_lt_of_mem_zipIdx hy
  obtain ⟨q, -, rfl⟩ := Option.map_eq_some_iff.mp hx
  simp only [List.length_take] at hi
  omega

/-! The warm-up flag and the loss of both references (12 R303; 01 R33). -/

theorem setWarm_sameLink (on : Bool) (cause : Nat) : s.sameLink (s.setWarm on cause) := by
  unfold State.setWarm
  split
  · exact .refl s
  · extract_lets tim u v
    have hu : s.sameLink u := .of_keeps (keeps_tim s _) (by decide) (by decide)
    have hv : u.sameLink v := event_sameLink u _ _ _ _ _ _
    exact (hu.trans hv).trans (.ite (endCause_sameLink v _)
      ((latch_sameLink v _ (by decide)).trans (report_sameLink _ _ _ _ _)))

theorem bothLost_sameLink : s.sameLink s.bothLost := by
  have hsafe : s.sameLink s.loopsSafe := .of_keeps (keeps_cle s _) (by decide) (by decide)
  have hheld : s.loopsSafe.sameLink { s.loopsSafe with seq.clockHold := true } :=
    .of_keeps (keeps_seq _ _) (by decide) (by decide)
  exact (hsafe.trans hheld).trans (report_sameLink _ _ _ _ _)

theorem dacsSafe_keeps : s.keeps s.dacsSafe [.cle] :=
  .foldl (fun t _ => .ite (.refl t _) (keeps_cle t _)) _ s

theorem bothEnded_spec : s.sameLink s.bothEnded ∧ s.bothEnded.seq.clockHold = false ∧ s.bothEnded.tim = s.tim := by
  unfold State.bothEnded
  split
  · have hend := endCause_keeps { s with seq.clockHold := false } bothKey
    have hdacs := dacsSafe_keeps (State.endCause { s with seq.clockHold := false } bothKey)
    have hseq : (State.endCause { s with seq.clockHold := false } bothKey).seq = { s.seq with clockHold := false } :=
      hend .seq (by decide)
    refine ⟨?_, ?_, (hdacs .tim (by decide)).trans (hend .tim (by decide))⟩
    · exact (State.sameLink.of_keeps (keeps_seq s _) (by decide) (by decide)).trans
        ((endCause_sameLink _ _).trans (.of_keeps hdacs (by decide) (by decide)))
    · rw [hdacs .seq (by decide), hseq]
  next h => exact ⟨.refl s, by simpa using h, rfl⟩

theorem bothEnded_of_free (h : s.seq.clockHold = false) : s.bothEnded = s := if_neg (by simp [h])

/-! Ports. -/

variable {s}

theorem port_setPort_self {p : Nat} (h : p < s.ifl.ports.length) (f : LinkPort → LinkPort) :
    (s.setPort p f).port p = f (s.port p) := nth_upd_self _ _ _ _ h

theorem port_setPort_other {p q : Nat} (h : q ≠ p) (f : LinkPort → LinkPort) :
    (s.setPort p f).port q = s.port q := nth_upd_other _ _ _ h

theorem length_setPort (p : Nat) (f : LinkPort → LinkPort) :
    (s.setPort p f).ifl.ports.length = s.ifl.ports.length := List.length_modify ..
end

end Sys2Proof.Machine

namespace Sys2Proof.Machine

/-! Block lock and time exchanges (18 R441, R445, R446). -/

section
variable {s : State} {p : Nat}

/-- A port out of the link's range is off. -/
theorem lt_of_state (h : (s.port p).state ≠ 0) : p < s.ifl.ports.length := by
  by_contra hn
  refine h ?_
  rw [State.port, nth, List.getD_eq_default _ _ (Nat.not_lt.mp hn)]
  rfl

/-- A port as block lock leaves it. -/
def State.lockPort (s : State) (p : Nat) (x : LinkPort) : LinkPort :=
  let e := s.ifl.entries.find? fun e => e.parent == 0 && e.port == p
  { x with locked := true, state := 2, thetas := [], count := 0
           unlisted := s.role == 1 && e.isNone
           peer := if s.role = 1 then (match e with | some y => y.dev | none => 0) else x.peer }

/-- A worker's parent port locks again, and its clock is the reference again. -/
def State.relocked (s : State) (p : Nat) : State :=
  { s.setPort p (s.lockPort p) with tim.onRef := true, tim.refAt := s.time }

theorem relocked_keeps (s : State) (p : Nat) : s.keeps (s.relocked p) [.ifl, .tim] :=
  .after (keeps_tim (s.setPort p (s.lockPort p)) _) rfl (.first (setPort_keeps s p _) rfl)

theorem relocked_port (s : State) (p q : Nat) : (s.relocked p).port q = (s.setPort p (s.lockPort p)).port q := rfl

/-- No block lock is gained on a port that is off, not enabled, or locked. -/
theorem gainLock_off (h : bit (s.regN IFL_CFG) p = false ∨ s.role = 0 ∨ (s.port p).state = 0 ∨ (s.port p).locked = true) :
    s.gainLock p = s := if_pos (h.imp_left (by simp [·]))

section
variable (hb : bit (s.regN IFL_CFG) p = true) (hr : s.role ≠ 0) (hs : (s.port p).state ≠ 0)
  (hl : (s.port p).locked = false)
include hb hr hs hl

theorem gainLock_on : s.gainLock p = if s.role = 2 ∧ (s.port p).parent = true then
    (s.relocked p).bothEnded
    else s.setPort p (s.lockPort p) := by
  have hport : (s.setPort p (s.lockPort p)).port p = s.lockPort p (s.port p) := port_setPort_self (lt_of_state hs) _
  have hparent : ((s.setPort p (s.lockPort p)).port p).parent = (s.port p).parent := by rw [hport]; rfl
  unfold State.gainLock
  rw [if_neg (by simp [hb, hr, hs, hl])]
  exact if_congr (and_congr Iff.rfl (by rw [← hparent]; rfl)) rfl rfl

/-- The port begins time lock. -/
theorem gainLock_port : ((s.gainLock p).port p).locked = true ∧ ((s.gainLock p).port p).state = 2 ∧
    ((s.gainLock p).port p).count = 0 := by
  have hport : (s.setPort p (s.lockPort p)).port p = s.lockPort p (s.port p) := port_setPort_self (lt_of_state hs) _
  rw [gainLock_on hb hr hs hl]
  split
  · obtain ⟨hsame, -, -⟩ := bothEnded_spec (s.relocked p)
    rw [hsame.locked, hsame.state, hsame.count, relocked_port]
    exact ⟨(congrArg LinkPort.locked hport :), (congrArg LinkPort.state hport :), (congrArg LinkPort.count hport :)⟩
  · rw [hport]
    exact ⟨rfl, rfl, rfl⟩

/-- On a worker's parent port the reference is back. -/
theorem gainLock_reference (h2 : s.role = 2) (hp : (s.port p).parent = true) :
    (s.gainLock p).tim.onRef = true ∧ (s.gainLock p).seq.clockHold = false := by
  rw [gainLock_on hb hr hs hl, if_pos ⟨h2, hp⟩]
  obtain ⟨-, hhold, htim⟩ := bothEnded_spec (s.relocked p)
  exact ⟨(congrArg TimeUnit.onRef htim :), hhold⟩

/-- Nothing but the port and the reference changes, where no shots are held. -/
theorem gainLock_frame (h : s.role ≠ 2 ∨ (s.port p).parent = false ∨ s.seq.clockHold = false) :
    (∀ q, q ≠ p → (s.gainLock p).port q = s.port q) ∧ s.keeps (s.gainLock p) [.ifl, .tim] := by
  have hset : s.keeps (s.setPort p (s.lockPort p)) [.ifl] := setPort_keeps s p _
  rw [gainLock_on hb hr hs hl]
  split
  next hc =>
    have hfree : s.seq.clockHold = false := (h.resolve_left (by simp [hc.1])).resolve_left (by simp [hc.2])
    have hseq : (s.relocked p).seq = s.seq := relocked_keeps s p .seq (by decide)
    rw [bothEnded_of_free _ (by rw [hseq, hfree])]
    exact ⟨fun q hq => port_setPort_other hq _, relocked_keeps s p⟩
  · exact ⟨fun q hq => port_setPort_other hq _, hset.mono (by decide)⟩
end

/-- A port that was lost gains its lock before the exchange, and then is not lost. -/
theorem gainLock_idem (h : (s.port p).state = 4) :
    (if ((s.gainLock p).port p).state = 4 then (s.gainLock p).gainLock p else s.gainLock p) = s.gainLock p := by
  by_cases hg : bit (s.regN IFL_CFG) p = false ∨ s.role = 0 ∨ (s.port p).state = 0 ∨ (s.port p).locked = true
  · rw [gainLock_off hg, if_pos h, gainLock_off hg]
  · simp only [not_or, Bool.not_eq_false, Bool.not_eq_true] at hg
    obtain ⟨hb, hr, hs, hl⟩ := hg
    rw [if_neg]
    rw [(gainLock_port hb hr hs hl).2.1]
    decide

/-- The exchange behind the gain of a lost lock (R445, R457). -/
def State.exchanged (s : State) (p : Nat) (x : Exchange) : State :=
  if ¬ (s.port p).locked then s
  else if s.role = 2 ∧ ((s.port p).parent ∨ (¬ s.ifl.ports.any LinkPort.parent ∧ x.joined)) then s.parentExchange p x
  else if s.role ≠ 0 then s.childExchange p x
  else s

theorem execTimeExchange_eq (p : Fin 4) (x : Exchange) (s : State) : exec (.timeExchange p x) s =
    .next (State.exchanged (if (s.port p).state = 4 then s.gainLock p else s) p x) := rfl

/-- A port with block lock exchanges at once. -/
theorem execTimeExchange_locked {p : Fin 4} (h : (s.port p).locked = true) (x : Exchange) :
    exec (.timeExchange p x) s = .next (s.exchanged p x) := by
  rw [execTimeExchange_eq, gainLock_off (.inr (.inr (.inr h))), ite_self]

theorem publishTree_spec (s : State) : s.publishTree.ifl = { s.ifl with dtree := s.publishTree.ifl.dtree } ∧
    s.keeps s.publishTree [.ifl] := by
  unfold State.publishTree
  extract_lets d old
  split
  · exact ⟨rfl, .refl s _⟩
  · exact ⟨rfl, keeps_ifl s _⟩

/-- The warm-up flag of a worker (R448). -/
theorem treeWarm_spec (s : State) : s.sameLink s.treeWarm ∧
    s.treeWarm.tim.warm = ((s.port s.ifl.parentPort).state == 3 && s.ifl.parentWarm) ∧
    s.treeWarm.tim.onRef = s.tim.onRef ∧ s.treeWarm.seq = s.seq := by
  refine ⟨setWarm_sameLink s _ _, setWarm_warm s _ _, ?_, setWarm_keeps s _ _ .seq (by decide)⟩
  rw [State.treeWarm, setWarm_tim]
  split <;> rfl

/-- An exchange on a worker's parent port (R446, R448). -/
theorem parentExchange_spec (hp : p < s.ifl.ports.length) (x : Exchange) : let t := s.parentExchange p x
    (t.port p).parent = true ∧ (t.port p).count = (s.port p).count + 1 ∧ (t.port p).peer = x.dev.val ∧
      (t.port p).state = (s.port p).state ∧ t.ifl.dev = x.own.val ∧ t.ifl.parentPort = p ∧ t.tim.onRef = true ∧
      t.seq.clockHold = false ∧ t.tim.warm = ((s.port p).state == 3 && x.warm) := by
  unfold State.parentExchange
  extract_lets d u ifl tim v w
  have hport : u.port p = _ := port_setPort_self hp _
  have hv : v.port p = u.port p := rfl
  have hvdev : v.ifl.dev = x.own.val := rfl
  have hvparent : v.ifl.parentPort = p := rfl
  have hvwarm : v.ifl.parentWarm = x.warm := rfl
  have hvref : v.tim.onRef = true := rfl
  have hw : w.ifl = { v.ifl with dtree := w.ifl.dtree } ∧ v.keeps w [.ifl] := by
    unfold w
    split
    · exact publishTree_spec v
    · exact ⟨rfl, .refl v _⟩
  obtain ⟨hwifl, hwkeep⟩ := hw
  have hwport : w.port p = u.port p := by
    rw [← hv, State.port, hwifl]
    rfl
  clear_value w v
  obtain ⟨hlink, hhold, htim⟩ := bothEnded_spec w
  obtain ⟨hlink', hwarm, href, hseq⟩ := treeWarm_spec w.bothEnded
  have hall := hlink.trans hlink'
  have hstate : (u.port p).state = (s.port p).state := (congrArg LinkPort.state hport :)
  have hwparent : w.ifl.parentPort = p := (congrArg Tree.parentPort hwifl :).trans hvparent
  refine ⟨?_, ?_, ?_, ?_, ?_, ?_, ?_, ?_, ?_⟩
  · rw [hall.isParent, hwport]
    exact (congrArg LinkPort.parent hport :)
  · rw [hall.count, hwport]
    exact (congrArg LinkPort.count hport :)
  · rw [hall.peer, hwport]
    exact (congrArg LinkPort.peer hport :)
  · rw [hall.state, hwport, hstate]
  · exact hall.dev.trans ((congrArg Tree.dev hwifl :).trans hvdev)
  · exact hall.parentPort.trans hwparent
  · rw [href, htim, hwkeep .tim (by decide), hvref]
  · rw [hseq, hhold]
  · rw [hwarm, hlink.parentPort, hlink.state, hlink.parentWarm, hwparent, hwport, hstate,
      (congrArg Tree.parentWarm hwifl :), hvwarm]

/-- A link is JOINED, and what its port counts stays. -/
theorem linkJoined_sameLink (s : State) (p : Nat) :
    (s.setPort p fun x => { x with state := 3 }).sameLink (s.linkJoined p) :=
  ((endCause_sameLink _ _).trans (readmit_sameLink _)).trans (openEvent_sameLink _ _ _ _)

/-- The end of a manager's resync leaves every port. -/
theorem resyncSeen_port (s : State) (p q : Nat) :
    ((s.resyncSeen p).port q).bare = (s.port q).bare ∧ (s.resyncSeen p).ifl.dev = s.ifl.dev := by
  unfold State.resyncSeen
  split
  next d o w _ =>
    split
    · exact ⟨(State.sameLink.port (complete_sameLink _ _ _ _) q).trans rfl,
        (State.sameLink.dev (complete_sameLink _ _ _ _)).trans rfl⟩
    · exact ⟨rfl, rfl⟩
  · exact ⟨rfl, rfl⟩

theorem bare_fields {x y : LinkPort} (h : x.bare = y.bare) :
    x.count = y.count ∧ x.peer = y.peer ∧ x.state = y.state :=
  ⟨(congrArg LinkPort.count h :), (congrArg LinkPort.peer h :), (congrArg LinkPort.state h :)⟩

/-- A link that the exchange finds joined is JOINED (R457). -/
theorem rejoined_port (s : State) (hp : p < s.ifl.ports.length) : let t := (s.linkJoined p).resyncSeen p
    (t.port p).count = (s.port p).count ∧ (t.port p).peer = (s.port p).peer ∧ (t.port p).state = 3 ∧
      t.ifl.dev = s.ifl.dev := by
  obtain ⟨v, hv⟩ : ∃ v, v = s.setPort p fun x => { x with state := 3 } := ⟨_, rfl⟩
  have hjoin : v.sameLink (s.linkJoined p) := hv ▸ linkJoined_sameLink s p
  have hport : v.port p = { s.port p with state := 3 } := by rw [hv, port_setPort_self hp]
  have hdev : v.ifl.dev = s.ifl.dev := by rw [hv]; rfl
  obtain ⟨hseen, hseendev⟩ := resyncSeen_port (s.linkJoined p) p p
  obtain ⟨hcount, hpeer, hstate⟩ := bare_fields (hseen.trans (hjoin.port p))
  intro t
  rw [hcount, hpeer, hstate, hport]
  exact ⟨rfl, rfl, rfl, hseendev.trans (hjoin.dev.trans hdev)⟩

/-- An exchange on a port of the manager (R442, R461). -/
theorem childExchange_spec (hr : s.role = 1) (hp : p < s.ifl.ports.length) (x : Exchange) : let t := s.childExchange p x
    (t.port p).count = (s.port p).count + 1 ∧ (t.port p).peer = x.dev.val ∧ t.ifl.dev = s.ifl.dev ∧
      ((s.port p).unlisted = false → x.joined = true → (t.port p).state = 3) ∧
      ((s.port p).unlisted = false → x.joined = false → (s.port p).state = 3 → (t.port p).state = 2) := by
  intro t
  have ht : t = s.childExchange p x := rfl
  clear_value t
  unfold State.childExchange at ht
  extract_lets d was u at ht
  have hport : u.port p = _ := port_setPort_self hp _
  have hlen : p < u.ifl.ports.length := by rwa [length_setPort]
  have hdev : u.ifl.dev = s.ifl.dev := rfl
  have hcount : (u.port p).count = (s.port p).count + 1 := (congrArg LinkPort.count hport :)
  have hpeer : (u.port p).peer = x.dev.val := (congrArg LinkPort.peer hport :)
  have hstate : (u.port p).state = (s.port p).state := (congrArg LinkPort.state hport :)
  have hunlisted : (u.port p).unlisted = (s.port p).unlisted := by
    rw [hport, hr]
    exact Bool.or_false _
  clear_value u
  rw [hunlisted] at ht
  split at ht
  next hu =>
    subst ht
    exact ⟨hcount, hpeer, hdev, fun h => absurd hu (by simp [h]), fun h => absurd hu (by simp [h])⟩
  · split at ht
    next hj =>
      obtain ⟨h1, h2, h3, h4⟩ := rejoined_port u hlen
      rw [← ht] at h1 h2 h3 h4
      exact ⟨h1.trans hcount, h2.trans hpeer, h4.trans hdev, fun _ _ => h3, fun _ h => absurd hj.1 (by simp [h])⟩
    next hj =>
      split at ht
      next hl =>
        have hset : t.port p = { u.port p with state := 2 } := by rw [ht, port_setPort_self hlen]
        have htdev : t.ifl.dev = u.ifl.dev := by rw [ht]; rfl
        rw [hset]
        exact ⟨hcount, hpeer, htdev.trans hdev, fun _ h => absurd h hl.1, fun _ _ _ => rfl⟩
      next hl =>
        obtain ⟨hseen, hseendev⟩ := resyncSeen_port u p p
        obtain ⟨h1, h2, h3⟩ := bare_fields hseen
        rw [← ht] at h1 h2 h3 hseendev
        refine ⟨h1.trans hcount, h2.trans hpeer, hseendev.trans hdev, fun _ h => ?_,
          fun _ h h3 => absurd ⟨by simp [h], h3⟩ hl⟩
        have hwas : was = 3 := not_not.mp fun hne => hj ⟨h, hne⟩
        exact h3.trans (hstate.trans hwas)
end

end Sys2Proof.Machine

namespace Sys2Proof.Machine

/-! Joining (18 R447, R457). -/

section
variable {s : State}

/-- A worker's own resync ends with its join (R457). -/
def State.resyncEnded (s : State) : State :=
  match s.ifl.resync with
  | some (_, o, q) => { s with ifl.resync := none }.complete (o, q) (if s.ifl.slipped then STATE else OK) 0xF
  | none => s

theorem resyncEnded_spec (s : State) (p : Nat) : let t := s.resyncEnded
    (t.port p).state = (s.port p).state ∧ t.ifl.joining = s.ifl.joining ∧ t.ifl.resync = none ∧ t.tim = s.tim := by
  unfold State.resyncEnded
  split
  next o q _ =>
    obtain ⟨u, hu⟩ : ∃ u : State, u = { s with ifl.resync := none } := ⟨_, rfl⟩
    have hport : u.port p = s.port p := by rw [hu]; rfl
    have hjoin : u.ifl.joining = s.ifl.joining := by rw [hu]
    have hres : u.ifl.resync = none := by rw [hu]
    have htim : u.tim = s.tim := by rw [hu]
    rw [← hu]
    have hend := complete_sameLink u (o, q) (if s.ifl.slipped = true then STATE else OK) 0xF
    exact ⟨(hend.state p).trans (by rw [hport]), hend.joining.trans hjoin, hend.resync.trans hres,
      (complete_keeps u _ _ _ _ .tim (by decide)).trans htim⟩
  next h => exact ⟨rfl, rfl, h, rfl⟩

/-- The tree as a join leaves it, before the flag and the resync. -/
def State.treeJoined (s : State) (p : Nat) : State := { (s.linkJoined p).publishTree with ifl.joining := false }

theorem treeJoined_ifl (s : State) (p : Nat) : (s.treeJoined p).ifl =
    { (s.linkJoined p).ifl with dtree := (s.treeJoined p).ifl.dtree, joining := false } := by
  obtain ⟨hpub, -⟩ := publishTree_spec (s.linkJoined p)
  unfold State.treeJoined
  generalize (s.linkJoined p).publishTree = u at hpub
  dsimp only
  rw [hpub]

theorem treeJoined_spec {p : Nat} (hp : p < s.ifl.ports.length) : let t := s.treeJoined p
    (t.port p).state = 3 ∧ t.ifl.joining = false ∧ t.ifl.parentPort = s.ifl.parentPort ∧
      t.ifl.parentWarm = s.ifl.parentWarm := by
  obtain ⟨v, hv⟩ : ∃ v, v = s.setPort p fun x => { x with state := 3 } := ⟨_, rfl⟩
  have hjoin : v.sameLink (s.linkJoined p) := hv ▸ linkJoined_sameLink s p
  have hport : (v.port p).state = 3 := by rw [hv, port_setPort_self hp]
  have hparent : v.ifl.parentPort = s.ifl.parentPort := by rw [hv]; rfl
  have hwarm : v.ifl.parentWarm = s.ifl.parentWarm := by rw [hv]; rfl
  have hifl := treeJoined_ifl s p
  generalize s.treeJoined p = t at hifl
  generalize s.linkJoined p = u at hifl hjoin
  have hstate : (t.port p).state = (u.port p).state := by rw [State.port, hifl]; rfl
  exact ⟨hstate.trans ((hjoin.state p).trans hport), (congrArg Tree.joining hifl :),
    (congrArg Tree.parentPort hifl :).trans (hjoin.parentPort.trans hparent),
    (congrArg Tree.parentWarm hifl :).trans (hjoin.parentWarm.trans hwarm)⟩

theorem joinStep_eq (s : State) (p : Nat) : s.joinStep p = (s.treeJoined p).treeWarm.resyncEnded := by
  unfold State.joinStep
  extract_lets st ifl u v
  have hst : st = (s.linkJoined p).publishTree := rfl
  have hu : u = s.treeJoined p := by
    rw [State.treeJoined, ← hst]
  have hv : v = (s.treeJoined p).treeWarm := by rw [← hu]
  rw [← hv]
  clear_value v
  rfl

/-- The end of a join: the port is JOINED, a resync ends, and the flag is the parent's. -/
theorem joinStep_spec (hp : s.ifl.parentPort < s.ifl.ports.length) : let t := s.joinStep s.ifl.parentPort
    (t.port s.ifl.parentPort).state = 3 ∧ t.ifl.joining = false ∧ t.ifl.resync = none ∧
      t.tim.warm = s.ifl.parentWarm := by
  obtain ⟨hstate, hjoining, hparent, hwarm⟩ := treeJoined_spec hp
  rw [joinStep_eq]
  generalize s.treeJoined s.ifl.parentPort = w at hstate hjoining hparent hwarm
  obtain ⟨hlink, htw, -, -⟩ := treeWarm_spec w
  obtain ⟨h1, h2, h3, h4⟩ := resyncEnded_spec w.treeWarm s.ifl.parentPort
  refine ⟨h1.trans ((hlink.state _).trans hstate), h2.trans (hlink.joining.trans hjoining), h3, ?_⟩
  rw [h4, htw, hparent, hstate, hwarm]
  rfl

/-- The load of TB_SHOT, and the mark of it (R447). -/
theorem loadShot_spec (n : Int) : (s.loadShot n).ifl = s.ifl ∧
    (s.loadShot n).tim.shot = (((s.tim.shot : Int) - n) % 2 ^ 64).toNat ∧ (s.loadShot n).reg IFL_CFG = s.reg IFL_CFG := by
  unfold State.loadShot
  extract_lets v u tim
  have hu : u.ifl = s.ifl ∧ u.tim = s.tim ∧ u.regs = s.regs := by
    unfold u
    split
    · exact ⟨noteWrap_keeps s _ _ _ _ .ifl (by decide), noteWrap_keeps s _ _ _ _ .tim (by decide),
        noteWrap_keeps s _ _ _ _ .regs (by decide)⟩
    · exact ⟨rfl, rfl, rfl⟩
  obtain ⟨hifl, -, hregs⟩ := hu
  exact ⟨hifl, rfl, (reg_latch_other _ _ (by decide)).trans (reg_congr hregs IFL_CFG)⟩

/-- A join in progress ends once it has converged. -/
theorem execLinkJoin_joining (hr : s.role = 2) (hp : (s.port s.ifl.parentPort).parent = true)
    (hu : (s.port s.ifl.parentPort).unlisted = false) (hs : (s.port s.ifl.parentPort).state = 2)
    (hj : s.ifl.joining = true) : exec .linkJoin s =
      .next (if s.averaged ≤ (s.port s.ifl.parentPort).count then s.joinStep s.ifl.parentPort else s) := by
  change execLinkJoin s = _
  unfold execLinkJoin
  dsimp only
  rw [if_neg (by simp [hr, hp, hu, hs, hj])]
  simp only [hj, if_true]

/-- A join begins with the load, and its estimate starts afresh. -/
theorem execLinkJoin_begins (hr : s.role = 2) (hp : (s.port s.ifl.parentPort).parent = true)
    (hu : (s.port s.ifl.parentPort).unlisted = false) (hs : (s.port s.ifl.parentPort).state = 2)
    (hj : s.ifl.joining = false) (hc : 64 ≤ (s.port s.ifl.parentPort).count)
    (hload : ((s.loadStep s.ifl.parentPort).port s.ifl.parentPort).count < (s.loadStep s.ifl.parentPort).averaged) :
    exec .linkJoin s = .next (s.loadStep s.ifl.parentPort) := by
  change execLinkJoin s = _
  unfold execLinkJoin
  dsimp only
  rw [if_neg (by simp [hr, hp, hu, hs, hj, hc])]
  simp only [hj, Bool.false_eq_true, if_false]
  exact congrArg Host.Outcome.next (if_neg (Nat.not_le.mpr hload))

theorem averaged_pos (s : State) : 0 < s.averaged := Nat.two_pow_pos _

theorem loadStep_within (p : Nat) (h : (s.port p).theta.natAbs ≤ 1024 * 256) : s.loadStep p =
    { s with ifl.joining := true, ifl.slipped := false }.setPort p fun y => { y with count := 0 } := if_pos h

/-- An offset beyond the window is loaded, where the core is idle. -/
theorem loadStep_beyond {p : Nat} (hp : p < s.ifl.ports.length) (h : 1024 * 256 < (s.port p).theta.natAbs)
    (hi : s.coreIdle = true) : let t := s.loadStep p
    t.ifl.joining = true ∧ t.ifl.slipped = false ∧ (t.port p).count = 0 ∧
      t.tim.shot = (((s.tim.shot : Int) - roundDiv (s.port p).theta (256 * 2048)) % 2 ^ 64).toNat := by
  obtain ⟨u, hu⟩ : ∃ u : State, u = { s with ifl.joining := true, ifl.slipped := false } := ⟨_, rfl⟩
  have hidle : u.coreIdle = true := by rw [hu]; exact hi
  have heq : s.loadStep p = (u.loadShot (roundDiv (s.port p).theta (256 * 2048))).setPort p fun x =>
      { x with thetas := [], count := 0, theta := 0 } := by
    unfold State.loadStep
    extract_lets theta ifl v idle w st ifl' x
    have hvu : v = u := hu.symm
    have hx : x = u := by
      unfold x idle
      rw [hvu, if_pos hidle]
    rw [if_neg (Nat.not_le.mpr h), hx]
  obtain ⟨hifl, hshot, -⟩ := loadShot_spec (s := u) (roundDiv (s.port p).theta (256 * 2048))
  intro t
  have ht : t = _ := heq
  clear_value t
  generalize u.loadShot (roundDiv (s.port p).theta (256 * 2048)) = v at ht hifl hshot
  have hlen : p < v.ifl.ports.length := by rw [hifl, hu]; exact hp
  have hport : t.port p = { v.port p with thetas := [], count := 0, theta := 0 } := by rw [ht, port_setPort_self hlen]
  have htifl : t.ifl.joining = v.ifl.joining ∧ t.ifl.slipped = v.ifl.slipped ∧ t.tim = v.tim := by
    rw [ht]
    exact ⟨rfl, rfl, rfl⟩
  obtain ⟨hj, hsl, htim⟩ := htifl
  refine ⟨hj.trans (by rw [hifl, hu]), hsl.trans (by rw [hifl, hu]), by rw [hport], ?_⟩
  rw [htim, hshot, hu]

/-! The loss of a link (18 R456; 01 R33). -/

theorem bothLost_spec (s : State) : s.bothLost.tim = s.tim ∧ s.bothLost.seq.clockHold = true := by
  obtain ⟨u, hu⟩ : ∃ u : State, u = { s.loopsSafe with seq.clockHold := true } := ⟨_, rfl⟩
  have hlost : s.bothLost = u.report bothKey 0 0 false := by rw [hu]; rfl
  have htim : u.tim = s.tim := by rw [hu]; rfl
  have hhold : u.seq.clockHold = true := by rw [hu]
  have hkeep := report_keeps u bothKey 0 0 false
  rw [hlost, hkeep .tim (by decide), hkeep .seq (by decide)]
  exact ⟨htim, hhold⟩

/-- What the loss of its parent leaves of a worker. -/
theorem parentLost_spec (s : State) : (State.sameLink { s with tim.onRef := false, ifl.joining := false } s.parentLost) ∧
    s.parentLost.tim.onRef = false ∧ s.parentLost.tim.warm = false ∧
    (s.tim.xsys = false → s.parentLost.seq.clockHold = true) := by
  obtain ⟨a, ha⟩ : ∃ a : State, a = { s with tim.onRef := false, ifl.joining := false } := ⟨_, rfl⟩
  have haref : a.tim.onRef = false := by rw [ha]
  have haxsys : a.tim.xsys = s.tim.xsys := by rw [ha]
  rw [← ha]
  obtain ⟨b, hb⟩ : ∃ b, b = a.setWarm false 1 := ⟨_, rfl⟩
  have hab : a.sameLink b := hb ▸ setWarm_sameLink a false 1
  have hbwarm : b.tim.warm = false := hb ▸ setWarm_warm a false 1
  have hbtim : b.tim.onRef = a.tim.onRef ∧ b.tim.xsys = a.tim.xsys := by
    rw [hb, setWarm_tim]
    split <;> exact ⟨rfl, rfl⟩
  obtain ⟨hbref, hbxsys⟩ := hbtim
  obtain ⟨c, hc⟩ : ∃ c, c = if b.tim.xsys = true then b else b.bothLost := ⟨_, rfl⟩
  have hbc : b.sameLink c := hc ▸ .ite (.refl b) (bothLost_sameLink b)
  have hctim : c.tim = b.tim := by
    rw [hc]
    split
    · rfl
    · exact (bothLost_spec b).1
  have hchold (hx : b.tim.xsys = false) : c.seq.clockHold = true := by
    rw [hc, hx]
    exact (bothLost_spec b).2
  have heq : s.parentLost = _ := rfl
  unfold State.parentLost at heq ⊢
  extract_lets tim ifl a' b' up d e sync
  have hb' : b' = c := by rw [hc, hb, ha]
  have hcd : c.keeps d suspendParts ∧ c.sameLink d := hb' ▸ ⟨suspendAll_keeps b' _ _ _, suspendAll_sameLink b' _ _ _⟩
  have hde : d.keeps e suspendParts ∧ d.sameLink e :=
    ⟨.foldl (fun t pid => .first (dropStaged_keeps t pid) rfl) _ d, .foldl _ d fun t pid hpid => by
      obtain ⟨x, hx, rfl⟩ := List.mem_map.mp hpid
      exact dropStaged_sameLink t (mem_present_lt _ (List.mem_filter.mp hx).1)⟩
  obtain ⟨f, hf⟩ : ∃ f, f = (sync.map Prod.fst).foldl (fun t p => t.suspend p 8) e := ⟨_, rfl⟩
  have hef : e.keeps f suspendParts ∧ e.sameLink f :=
    hf ▸ ⟨.foldl (fun t p => suspend_keeps t p 8 false) _ e, .foldl _ e fun t p _ => suspend_sameLink t p 8 false⟩
  rw [← hf]
  have hcf : c.keeps f suspendParts := hcd.1.trans (hde.1.trans hef.1)
  have hftim : f.tim = b.tim := (hcf .tim (by decide)).trans hctim
  refine ⟨hab.trans (hbc.trans (hcd.2.trans (hde.2.trans hef.2))), ?_, ?_, fun hx => ?_⟩
  · rw [hftim, hbref, haref]
  · rw [hftim, hbwarm]
  · rw [hcf .seq (by decide), hchold (by rw [hbxsys, haxsys, hx])]
end

end Sys2Proof.Machine

namespace Sys2Proof.Machine

section
variable {s : State} {p : Nat}

/-- A port whose link has gone down. -/
def LinkPort.lost (x : LinkPort) : LinkPort :=
  { x with state := 4, locked := false, thetas := [], count := 0, tx := x.tx.filter fun f => f.kind != 4 }

/-- A link that goes down is reported, before what its parent's loss does. -/
def State.linkLost (s : State) (p : Nat) : State :=
  ((s.setPort p LinkPort.lost).latch IFL_STATUS 0x1).report (s.linkKey p) 0xF p false

theorem linkDown_eq (h : (s.port p).locked = true) : s.linkDown p =
    (if (s.role == 2 && (s.port p).parent) = true then (s.linkLost p).parentLost else s.linkLost p).readmit.openEvent
      12 0xF := if_neg (not_not_intro h)

theorem linkLost_spec (hp : p < s.ifl.ports.length) : ((s.linkLost p).port p).state = 4 ∧
    ((s.linkLost p).port p).locked = false ∧ bit ((s.linkLost p).regN IFL_STATUS) 0 = true ∧
    (s.linkLost p).tim = s.tim := by
  obtain ⟨u, hu⟩ : ∃ u, u = (s.setPort p LinkPort.lost).latch IFL_STATUS 0x1 := ⟨_, rfl⟩
  have hport : u.port p = (s.port p).lost := by
    rw [hu, ← port_setPort_self hp LinkPort.lost]
    rfl
  have hbit : bit (u.regN IFL_STATUS) 0 = true := by
    rw [hu, bit_latch _ _ _ _ (by decide)]
    exact Bool.or_true _
  have htim : u.tim = s.tim := by rw [hu]; rfl
  have hlink := report_sameLink u (s.linkKey p) 0xF p false
  have heq : s.linkLost p = u.report (s.linkKey p) 0xF p false := by rw [hu]; rfl
  rw [heq, hlink.state, hlink.locked, hport]
  refine ⟨rfl, rfl, ?_, (report_keeps u _ _ _ _ .tim (by decide)).trans htim⟩
  rwa [State.regN, hlink.2 IFL_STATUS (by decide)]

/-- A parent's loss leaves the state of every link. -/
theorem parentLost_link (v : State) (p : Nat) : (v.parentLost.port p).state = (v.port p).state ∧
    (v.parentLost.port p).locked = (v.port p).locked ∧ v.parentLost.reg IFL_STATUS = v.reg IFL_STATUS ∧
    v.parentLost.ifl.joining = false := by
  obtain ⟨hlink, -⟩ := parentLost_spec v
  obtain ⟨a, ha⟩ : ∃ a : State, a = { v with tim.onRef := false, ifl.joining := false } := ⟨_, rfl⟩
  have hport : a.port p = v.port p := by rw [ha]; rfl
  have hreg : a.reg IFL_STATUS = v.reg IFL_STATUS := by rw [ha]; rfl
  have hjoin : a.ifl.joining = false := by rw [ha]
  rw [← ha] at hlink
  exact ⟨(hlink.state p).trans (by rw [hport]), (hlink.locked p).trans (by rw [hport]),
    (hlink.2 IFL_STATUS (by decide)).trans hreg, hlink.joining.trans hjoin⟩

/-- What a link that goes down does after its report. -/
theorem linkDown_after (h : (s.port p).locked = true) :
    let w := if (s.role == 2 && (s.port p).parent) = true then (s.linkLost p).parentLost else s.linkLost p
    w.sameLink (s.linkDown p) ∧ w.keeps (s.linkDown p) suspendParts := by
  intro w
  have heq : s.linkDown p = w.readmit.openEvent 12 0xF := linkDown_eq h
  clear_value w
  rw [heq]
  exact ⟨(readmit_sameLink w).trans (openEvent_sameLink _ _ _ _), .after (openEvent_keeps _ _ _ _) rfl (readmit_keeps w)⟩

/-- A link that goes down (R456). -/
theorem linkDown_spec (h : (s.port p).locked = true) (hp : p < s.ifl.ports.length) : let t := s.linkDown p
    (t.port p).state = 4 ∧ (t.port p).locked = false ∧ bit (t.regN IFL_STATUS) 0 = true ∧
      (s.role = 2 → (s.port p).parent = true → t.tim.onRef = false ∧ t.tim.warm = false ∧ t.ifl.joining = false ∧
        (s.tim.xsys = false → t.seq.clockHold = true)) := by
  obtain ⟨hstate, hlocked, hbit, htim⟩ := linkLost_spec hp
  obtain ⟨hend, hkeep⟩ := linkDown_after h
  generalize s.linkLost p = v at hstate hlocked hbit htim hend hkeep
  generalize s.linkDown p = t at hend hkeep
  by_cases hpar : (s.role == 2 && (s.port p).parent) = true
  · rw [if_pos hpar] at hend hkeep
    obtain ⟨-, href, hwarm, hhold⟩ := parentLost_spec v
    obtain ⟨hvstate, hvlocked, hvreg, hjoin⟩ := parentLost_link v p
    refine ⟨(hend.state p).trans (hvstate.trans hstate), (hend.locked p).trans (hvlocked.trans hlocked), ?_, fun _ _ => ?_⟩
    · rw [State.regN, hend.2 IFL_STATUS (by decide), hvreg]
      exact hbit
    · rw [hkeep .tim (by decide), hkeep .seq (by decide), hend.joining]
      exact ⟨href, hwarm, hjoin, fun hx => hhold (by rw [htim, hx])⟩
  · rw [if_neg hpar] at hend hkeep
    refine ⟨(hend.state p).trans hstate, (hend.locked p).trans hlocked, ?_, fun hr hparent =>
      absurd (by simp [hr, hparent]) hpar⟩
    rwa [State.regN, hend.2 IFL_STATUS (by decide)]
end

/-! The tree description (18 R439, R461). -/

theorem length_treeRow (d st h q : Nat) (k : Int) : (treeRow d st h q k).length = 8 := by
  simp only [treeRow, leBytesInt, List.length_append, length_leBytes]

theorem treeRow_absent (d : Nat) : treeRow d 0 0 0 0 = leBytes 1 d ++ List.replicate 7 0 := by
  simp only [treeRow, List.append_assoc]
  rfl

section
variable {s : State}

/-- A row is 8 bytes, and giving it draws free values only. -/
theorem treeRowOf_spec (s : State) (d : Nat) : (s.treeRowOf d).1.length = 8 ∧ s.keeps (s.treeRowOf d).2 [.drawn] := by
  unfold State.treeRowOf
  dsimp only
  split
  · split
    · exact ⟨length_treeRow _ _ _ _ _, draw_keeps s 70⟩
    · exact ⟨length_treeRow _ _ _ _ _, .refl s _⟩
  split
  · exact ⟨length_treeRow _ _ _ _ _, .refl s _⟩
  split
  · exact ⟨length_treeRow _ _ _ _ _, .refl s _⟩
  split
  · exact ⟨length_treeRow _ _ _ _ _, .refl s _⟩
  split
  · exact ⟨length_treeRow _ _ _ _ _, .refl s _⟩
  · exact ⟨length_treeRow _ _ _ _ _, (draw_keeps s 70).trans (draw_keeps _ 70)⟩

/-- A device that the description lacks has a row of zeros behind its number. -/
theorem treeRowOf_absent {d : Nat} (hd : d ≠ s.ifl.dev) (hn : s.ifl.entries.find? (fun e => e.dev == d) = none) :
    (s.treeRowOf d).1 = leBytes 1 d ++ List.replicate 7 0 := by
  rw [State.treeRowOf, if_neg hd, hn]
  exact treeRow_absent d

/-- The rows of the first device IDs, and what giving them leaves. -/
def State.treeRows (s : State) (n : Nat) : List Byte × State :=
  (List.range n).foldl (fun a d => (a.1 ++ (a.2.treeRowOf d).1, (a.2.treeRowOf d).2)) ([], s)

theorem treeRows_succ (s : State) (n : Nat) : s.treeRows (n + 1) =
    ((s.treeRows n).1 ++ ((s.treeRows n).2.treeRowOf n).1, ((s.treeRows n).2.treeRowOf n).2) := by
  rw [State.treeRows, List.range_succ, List.foldl_append]
  rfl

theorem treeRows_spec (s : State) (n : Nat) : (s.treeRows n).1.length = 8 * n ∧ s.keeps (s.treeRows n).2 [.drawn] ∧
    ∀ d, d < n → d ≠ s.ifl.dev → s.ifl.entries.find? (fun e => e.dev == d) = none →
      slice (s.treeRows n).1 (8 * d) 8 = leBytes 1 d ++ List.replicate 7 0 := by
  induction n with
  | zero => exact ⟨rfl, .refl s _, fun d h => absurd h (Nat.not_lt_zero d)⟩
  | succ n ih =>
    obtain ⟨hlen, hkeep, hrows⟩ := ih
    obtain ⟨hrow, hdrawn⟩ := treeRowOf_spec (s.treeRows n).2 n
    have hifl : (s.treeRows n).2.ifl = s.ifl := hkeep .ifl (by decide)
    rw [treeRows_succ]
    generalize s.treeRows n = x at hlen hkeep hrows hrow hdrawn hifl
    refine ⟨by rw [List.length_append, hlen, hrow]; omega, hkeep.trans hdrawn, fun d hd hne hn => ?_⟩
    rcases Nat.lt_succ_iff_lt_or_eq.mp hd with hlt | rfl
    · rw [← hrows d hlt hne hn, slice_eq_take (by rw [List.length_append]; omega), slice_eq_take (by omega),
        List.drop_append_of_le_length (by omega), List.take_append_of_le_length (by rw [List.length_drop]; omega)]
    · have habsent : (x.2.treeRowOf d).1 = leBytes 1 d ++ List.replicate 7 0 :=
        treeRowOf_absent (by rwa [hifl]) (by rwa [hifl])
      rw [habsent]
      exact slice_part (c := []) (by rw [List.append_nil]) hlen (by simp)

/-- TREE_CONFIG that removes no entry (R439). -/
theorem treeConfig_act {u : State} {o : Origin} {r : Request} (hr : u.role = 1)
    (hes : ∀ e ∈ u.ifl.entries, e ∈ treeEntries r.payload) : treeConfigOp.act u o (r.packet 0xE1) =
      { st := State.latch { u with
          ifl.entries := treeEntries r.payload
          ifl.ports := u.ifl.ports.zipIdx.map fun y => replacePort u.ifl.entries (treeEntries r.payload) y.2 y.1 }
          IFL_STATUS 0x2 } := by
  have hgone : (u.ifl.entries.any fun e => !(treeEntries r.payload).contains e) = false := by
    rw [List.any_eq_false]
    intro e he
    simp [hes e he]
  simp only [treeConfigOp, payload_packet]
  rw [doneIf_pass (by simp [hr]), doneIf_nil]
  simp only [hgone, Bool.false_eq_true, if_false]
  rfl

/-- The port that the repeated join of a device goes through. -/
def State.resyncPort (u : State) (d : Nat) : Option Nat :=
  if u.role = 2 ∧ d = u.ifl.dev then some u.ifl.parentPort
  else if u.role = 1 ∧ u.ifl.entries.any (fun e => e.dev == d) then u.ifl.portTo u.ifl.dev 16 d else none

/-- Steps 2 to 4 of the join of a device are to be repeated, for an origin and a sequence. -/
def State.resyncs (s : State) (d : Nat) (o : Origin) (seq : Half) : State :=
  { s with ifl.resync := some (d, o, seq), ifl.joining := false, ifl.slipped := false }

theorem workerResync_port {u : State} {o : Origin} {r : Request} {q : Nat}
    (h : u.resyncPort (field r.payload 0 1) = some q) : workerResyncOp.act u o (r.packet 0xE2) =
      u.doneIf [need u.ifl.resync.isNone BUSY] fun s => { st := State.resyncs (if s.role = 2 ∨ (s.port q).peer =
        field r.payload 0 1 then s.setPort q LinkPort.relock else s) (field r.payload 0 1) o r.sequence
                                                          status := ACCEPTED } := by
  change (match u.resyncPort (field (r.packet 0xE2).payload 0 1) with | none => _ | some q => _) = _
  rw [payload_packet, h]
  rfl

theorem workerResync_portless {u : State} {o : Origin} {r : Request}
    (h : u.resyncPort (field r.payload 0 1) = none) : workerResyncOp.act u o (r.packet 0xE2) = u.refuse BAD_TARGET := by
  change (match u.resyncPort (field (r.packet 0xE2).payload 0 1) with | none => _ | some q => _) = _
  rw [payload_packet, h]

/-- The port of a device that the manager's description names is the one that leads to it. -/
theorem resyncPort_named {u : State} {d : Nat} (hr : u.role = 1) (he : ∃ e ∈ u.ifl.entries, e.dev = d) :
    u.resyncPort d = u.ifl.portTo u.ifl.dev 16 d := by
  obtain ⟨e, he, hd⟩ := he
  have hany : (u.ifl.entries.any fun e => e.dev == d) = true := List.any_eq_true.mpr ⟨e, he, by simp [hd]⟩
  exact (if_neg (by simp [hr])).trans (if_pos ⟨hr, hany⟩)

/-- No port is that of a device that the description does not name and that is not the worker itself. -/
theorem resyncPort_unnamed {u : State} {d : Nat} (hn : ¬ (u.role = 1 ∧ ∃ e ∈ u.ifl.entries, e.dev = d))
    (hw : ¬ (u.role = 2 ∧ d = u.ifl.dev)) : u.resyncPort d = none := by
  have hnot : ¬ (u.role = 1 ∧ (u.ifl.entries.any fun e => e.dev == d) = true) := by
    rintro ⟨hr, ha⟩
    obtain ⟨e, he, hd⟩ := List.any_eq_true.mp ha
    exact hn ⟨hr, e, he, by simpa using hd⟩
  exact (if_neg hw).trans (if_neg hnot)
end

/-- Settles O49: each packet behind its checks, each row of a link by the lemma of its function. -/
theorem treeCommandsAndLinksComplete : Obligations.TreeCommandsAndLinksComplete := by
  unfold Obligations.TreeCommandsAndLinksComplete
  refine ⟨fun s u o r x h => ?_, fun s u o r x h => ?_, fun s u o r x h => ?_, fun s p => ⟨fun h => ?_,
    fun hb hr hs hl _ => ?_⟩, fun s p x h => ?_, fun s p x h => ?_, fun s p x hl hp => ⟨fun hr hpar => ?_, fun hr => ?_⟩,
    fun s => ?_, fun s p => ⟨fun h => congrArg Host.Outcome.next (if_pos (by simp [h])), fun hl hp =>
      ⟨_, rfl, linkDown_spec hl hp⟩⟩⟩
  case refine_1 =>
    obtain ⟨hlen, hkeep, hrows⟩ := treeRows_spec u 16
    exact ⟨_, _, congrArg Host.Outcome.next (serve_answered h (t := (u.treeRows 16).2) (pl := (u.treeRows 16).1) rfl),
      hlen, hkeep, hrows⟩
  case refine_2 =>
    intro es
    refine ⟨fun hr => congrArg Host.Outcome.next (serve_answeredRefusal h ?_), fun hr hes =>
      congrArg Host.Outcome.next (serve_answered h (treeConfig_act hr hes))⟩
    simp only [treeConfigOp, payload_packet]
    exact doneIf_fail (by simpa using hr)
  case refine_3 =>
    intro d named
    refine ⟨fun q ⟨hr, he⟩ hq => ?_, fun hn hw =>
      congrArg Host.Outcome.next (serve_answeredRefusal h (workerResync_portless (resyncPort_unnamed hn hw)))⟩
    have hact := workerResync_port (o := o) ((resyncPort_named hr he).trans hq)
    refine ⟨fun hn => congrArg Host.Outcome.next (serve_answeredRefusal h ?_), fun hn =>
      congrArg Host.Outcome.next (serve_answeredAccepted h ?_)⟩
    · exact hact.trans (doneIf_fail (Option.isNone_eq_false_iff.mpr (Option.isSome_iff_ne_none.mpr hn)))
    · refine hact.trans ((doneIf_pass (by simp [hn])).trans ((doneIf_nil _ _).trans ?_))
      simp only [hr, show ¬ (1 : Nat) = 2 by decide, false_or]
      rfl
  case refine_4 => exact congrArg Host.Outcome.next (gainLock_off h)
  case refine_5 =>
    obtain ⟨h1, h2, h3⟩ := gainLock_port hb hr hs hl
    exact ⟨_, rfl, h1, h2, h3, gainLock_reference hb hr hs hl, gainLock_frame hb hr hs hl⟩
  case refine_6 =>
    rw [execTimeExchange_eq]
    refine congrArg Host.Outcome.next ?_
    rcases h with ⟨hl, hs⟩ | hr
    · rw [if_neg hs]
      exact if_pos (by simp [hl])
    · rw [gainLock_off (.inr (.inl hr)), ite_self, State.exchanged]
      simp [hr]
  case refine_7 =>
    rw [execTimeExchange_eq, execTimeExchange_eq, if_pos h, gainLock_idem h]
  case refine_8 =>
    have hx : s.exchanged p x = s.parentExchange p x :=
      (if_neg (not_not_intro hl)).trans (if_pos ⟨hr, .inl hpar⟩)
    exact ⟨_, (execTimeExchange_locked hl x).trans (congrArg Host.Outcome.next hx), parentExchange_spec hp x⟩
  case refine_9 =>
    have hx : s.exchanged p x = s.childExchange p x :=
      (if_neg (not_not_intro hl)).trans ((if_neg (by simp [hr])).trans (if_pos (by simp [hr])))
    exact ⟨_, (execTimeExchange_locked hl x).trans (congrArg Host.Outcome.next hx), childExchange_spec hr hp x⟩
  case refine_10 =>
    intro x
    refine ⟨fun h => congrArg Host.Outcome.next (if_pos ?_), fun hr hpar hu hs hp => ⟨fun hj hc => ?_, fun hj hc => ?_,
      fun hj hc hth ha => ?_, fun hj hc hth hi => ?_⟩⟩
    · exact h.imp_right (Or.imp (fun hx => by simp [show (s.port s.ifl.parentPort).parent = false from hx])
        (Or.imp_right (Or.imp_right (And.imp_left fun hx => by simp [hx]))))
    · refine ⟨_, (execLinkJoin_joining hr hpar hu hs hj).trans (by rw [if_pos hc]), joinStep_spec hp⟩
    · exact (execLinkJoin_joining hr hpar hu hs hj).trans (by rw [if_neg (Nat.not_le.mpr hc)])
    · have hload := loadStep_within s.ifl.parentPort hth
      have hport : ((s.loadStep s.ifl.parentPort).port s.ifl.parentPort).count = 0 := by
        rw [hload]
        exact congrArg LinkPort.count (port_setPort_self (s := { s with ifl.joining := true, ifl.slipped := false }) hp _)
      rw [← hload]
      exact execLinkJoin_begins hr hpar hu hs hj hc (by rw [hport]; exact averaged_pos _)
    · obtain ⟨h1, h2, h3, h4⟩ := loadStep_beyond hp hth hi
      exact ⟨_, execLinkJoin_begins hr hpar hu hs hj hc (by rw [h3]; exact averaged_pos _), h1, h2, h3, h4⟩

end Sys2Proof.Machine
